-- ==== Sys2Proof/Word.lean ====
section
/-!
DEFINITION. Bytes, little-endian fields and the arithmetic that every other file uses (00 R4).
-/

namespace Sys2Proof

/-- One byte. -/
abbrev Byte := BitVec 8

/-- One 64-bit word of acquisition memory (01 R21). -/
abbrev Word := BitVec 64

/-- The byte of a number below 256 (a larger number loses its high bits). -/
def byteOf (n : Nat) : Byte := BitVec.ofNat 8 n

/-- The `n` bytes of `v`, least significant first (00 R4). -/
def leBytes : Nat → Nat → List Byte
  | 0, _ => []
  | n + 1, v => byteOf v :: leBytes n (v / 256)

/-- The number that bytes spell, least significant first (00 R4). -/
def ofLe : List Byte → Nat
  | [] => 0
  | b :: bs => b.toNat + 256 * ofLe bs

/-- The two's-complement encoding of `v` in `w` bits, as a number. -/
def encInt (w : Nat) (v : Int) : Nat := (v % (2 : Int) ^ w).toNat

/-- The signed value of the low `w` bits of `n`. -/
def decInt (w : Nat) (n : Nat) : Int :=
  let m := n % 2 ^ w
  if 2 * m < 2 ^ w then (m : Int) else (m : Int) - (2 : Int) ^ w

/-- Bit `i` of a number. -/
def bitAt (n i : Nat) : Bool := n / 2 ^ i % 2 == 1

/-- Bits `[lo + w - 1 : lo]` of a number. -/
def bitsAt (n lo w : Nat) : Nat := n / 2 ^ lo % 2 ^ w

/-- 1 for true. -/
def flag (b : Bool) : Nat := if b then 1 else 0

/-- `v` held between two limits. -/
def clampInt (lo hi v : Int) : Int := if v < lo then lo else if hi < v then hi else v

/-- Division of an integer by a positive number, rounded half to even (01 R22). -/
def divHalfEven (a : Int) (d : Nat) : Int :=
  let q := a / (d : Int)
  let r := a % (d : Int)
  if 2 * r < d then q
  else if (d : Int) < 2 * r then q + 1
  else if q % 2 == 0 then q else q + 1

/-- Division rounded to the nearest, halves toward zero (06 R159). -/
def divHalfToZero (a : Int) (d : Nat) : Int :=
  let m : Int := (a.natAbs : Int)
  let q := (2 * m + d - 1) / (2 * (d : Int))
  if a < 0 then -q else q

/-- Division rounded to the nearest, halves away from zero. -/
def divHalfAway (a : Int) (d : Nat) : Int :=
  let m : Int := (a.natAbs : Int)
  let q := (2 * m + d) / (2 * (d : Int))
  if a < 0 then -q else q

/-- Ceiling of a quotient. -/
def ceilDiv (a d : Nat) : Nat := (a + d - 1) / d

/-- A counter of `w` bits that stops at its greatest value. -/
def satAdd (w n k : Nat) : Nat := min (2 ^ w - 1) (n + k)

/-- A counter of `w` bits that wraps. -/
def wrapAdd (w n k : Nat) : Nat := (n + k) % 2 ^ w

/-- Element `i` of a list of bytes, zero past its end. -/
def byteAt (bs : List Byte) (i : Nat) : Byte := bs.getD i 0#8

/-- The little-endian field of `n` bytes at offset `o`; bytes past the end read zero. -/
def fieldAt (bs : List Byte) (o n : Nat) : Nat :=
  ofLe ((List.range n).map (fun i => byteAt bs (o + i)))

/-- Bytes `o` to `o + n - 1`; bytes past the end read zero. -/
def sliceAt (bs : List Byte) (o n : Nat) : List Byte :=
  (List.range n).map (fun i => byteAt bs (o + i))

/-- Whether every byte of a list is zero. -/
def allZero (bs : List Byte) : Bool := bs.all (fun b => b == 0#8)

/-- A list cut or padded with zeros to `n` bytes. -/
def padTo (n : Nat) (bs : List Byte) : List Byte :=
  (bs ++ List.replicate (n - bs.length) 0#8).take n

/-- The bytes of an ASCII string. -/
def asciiBytes (s : String) : List Byte := s.toList.map (fun c => byteOf c.toNat)

end Sys2Proof
end

