-- ==== Sys2Proof/Syntax.lean ====
section
/-!
DEFINITION. The commands of the block: one constructor of `Instr` per row of spec/opcode_table.json, and the
types of their operands. The first operand `t` of every command is the slice-clock tick at which the step happens
(log entry 3). What the world outside the module supplies (a measured value, bytes fetched from host memory, samples)
is an operand too (log entry 6).
-/

namespace Sys2Proof

/-- The bytes a bulk reference delivers; none when the read fails on the link (02 R42). -/
abbrev Bulk := Option (List Byte)

/-- What a self-test of one slice finds (04 R93): whether it passes, the cause of failure otherwise (04 R99), the
trims it measures, the residuals it leaves, and the curve that the reference's ramp gives, for CAL_RUN LINEARITY (05 R134). -/
structure SliceTest where
  pass    : Bool
  cause   : Nat
  tOfs    : Int
  tGain   : Int
  ofsRes  : Int
  gainRes : Int
  timRes  : Int
  curve   : List Int
deriving DecidableEq, Repr, Inhabited

/-- A value of a decimation stage: its index on the grid in force, or on the one that the stage's last start replaced (10 R255). -/
structure ValueRef where
  old   : Bool
  index : Nat
deriving DecidableEq, Repr, Inhabited

/-- An element that a trim ramp moves (05 R118). -/
inductive RampElem where
  | ofs (tower : Fin 4) (slice : Fin 33)
  | gain (tower : Fin 4) (slice : Fin 33)
  | tim (tower : Fin 4) (slice : Fin 33)
  | rangeOfs (input : Fin 4)
  | rangeGain (input : Fin 4)
  | userOfs (input : Fin 4)
  | userGain (input : Fin 4)
deriving DecidableEq, Repr, Inhabited

/-- What CAL_RUN SLICE_ONLINE finds of one slice (05 R134): the trims T that it measures, and of each window whether the statistics
check of 04 R99 was suspended and the rms of the tower in LSB. -/
structure SliceFit where
  slice : Nat
  ofs   : Int
  gain  : Int
  wins  : List (Bool × Nat)
deriving DecidableEq, Repr, Inhabited

/-- What a CAL_RUN measured (05 R136), keyed as the working set is: whether it ends here, whether every result lies within its trim
reach, and the results of each kind; the residual of 05 R137. -/
structure CalResult where
  final    : Bool
  inRange  : Bool
  eqs      : List (Nat × List Int)
  delays   : List (Nat × Int)
  corrs    : List (Nat × Int × Int)
  fe       : List (Nat × Int)
  fits     : List SliceFit
  residual : Int
deriving DecidableEq, Repr, Inhabited

/-- One window of the graft's matching (04 R93, R94): the differences in fs, 1/64 LSB and ppm, the rms difference of
consecutive samples in LSB, and the trim codes to which the module has driven the graft by its end. -/
structure GraftWin where
  timDiff  : Int
  meanDiff : Int
  gainDiff : Int
  slope    : Nat
  tim      : Int
  ofs      : Int
  gain     : Int
deriving DecidableEq, Repr, Inhabited

/-- Conversion results of consecutive samples of a channel, earliest first: 12-bit codes as the converters give them (01 R12). -/
abbrev Codes := List (BitVec 12)

/-- A group as the pins deliver it: its number in the row, the seven data words, the check word, and the eight sideband
bytes, the check word's last (13 R319–R322). -/
structure RawGroup where
  group : Nat
  words : List (BitVec 64)
  check : BitVec 64
  side  : List (BitVec 8)
deriving DecidableEq, Repr, Inhabited

/-- What a descriptor fetch delivers (14 R357, R358). -/
inductive Fetch where
  | bytes (bs : List Byte)
  | failed (code : Nat)
deriving DecidableEq, Repr, Inhabited

/-- One TIME exchange as it reaches the module (16 R395–R397): `t1` the peer's departure tick, `t2` the stamp of its arrival here in fs,
`t3` the tick of this module's departure that the peer echoes, `t4` the peer's stamp of its arrival in fs, less the peer's receive delay;
what the peer's message carries; the level and hops that the module counts for itself along that link. -/
structure TimeMsg where
  t1      : Nat
  t2      : Nat
  t3      : Nat
  t4      : Nat
  qual    : BitVec 4
  aligned : Bool
  level   : Nat
  hops    : Nat
deriving DecidableEq, Repr, Inhabited

/-- The constants of a link in fs (16 R395): transmit and receive delay of this end, transmit delay of the other, asymmetry. -/
structure LinkConst where
  tx     : Int
  rx     : Int
  peerTx : Int
  a      : Int
deriving DecidableEq, Repr, Inhabited

/-- A link that a calibration measured (16 R408): the address of the module below it, whether it is that module's standby link, its
one-way delay in ps, and its constants as this module, where it is an end of the link, measured and received them. -/
structure LinkEnd where
  addr    : Nat
  standby : Bool
  delay   : Nat
  ends    : LinkConst
deriving DecidableEq, Repr, Inhabited

/-- A RELAY_CMD: the member it is for, and the command (16 R390, R407). -/
structure RelayMsg where
  addr  : Nat
  bytes : List Byte
deriving DecidableEq, Repr, Inhabited

/-- A fragment of a relayed response, and whether it is the last (16 R390, R407). -/
structure RelayPart where
  bytes : List Byte
  last  : Bool
deriving DecidableEq, Repr, Inhabited

/-- The addresses of the manager and of the deputy, 0xFFFF for none, that a joining module learns (16 R405). -/
structure ArrayHeads where
  mgr    : Nat
  deputy : Nat
deriving DecidableEq, Repr, Inhabited

/-- What STATUS says of a member besides AR_TRIG_EXPORT: its module health and its pending events (16 R390). -/
structure ModuleReport where
  level   : Nat
  pending : Nat
deriving DecidableEq, Repr, Inhabited

/-- A member-table entry (16 R406). `port` is the parent's port: 0 N_DN0, 1 N_DN1, 2 standby through N_DN1, 3 standby
through N_DN0, 255 for the manager. -/
structure Member where
  addr    : Nat
  parent  : Nat
  port    : Nat
  level   : Nat
  hops    : Nat
  mstate  : Nat
  serial  : List Byte
  digest  : List Byte
  delay   : Nat
  aligned : Bool
  deputy  : Bool
  replaced : Bool
  cal     : Bool
  health  : Nat
  export_ : Bool
deriving DecidableEq, Repr, Inhabited

/-- A setting that training finds for a pseudo-channel (13 R331): read and write delays per lane in 1/64 unit interval, the receiver
reference voltage in mV, the command timing in 1/64 unit interval. -/
structure PcSetting where
  read  : List Int
  write : List Int
  vref  : Int
  cmd   : Int
deriving DecidableEq, Repr, Inhabited

/-- The data eye of a lane (13 R331): its width in 1/1000 unit interval and its height in mV. -/
structure Eye where
  width  : Nat
  height : Nat
deriving DecidableEq, Repr, Inhabited

/-- What a training of a pseudo-channel measures (13 R331): a setting and the eyes of the 64 data and 8 sideband lanes with it. -/
structure PcTraining where
  set  : PcSetting
  eyes : List Eye
deriving DecidableEq, Repr, Inhabited

/-- A pseudo-channel at self-refresh exit (13 R340): its temperature in 0.1 °C and what a retraining measures. -/
structure ExitPc where
  temp : Int
  tr   : PcTraining
deriving DecidableEq, Repr, Inhabited

/-- What the boot finds (17 R432, 19 R462): the training of each pseudo-channel and its temperature in 0.1 °C (13 R317), the die
temperature in 0.1 °C and the attempt at which the root locks, none of them when it locks at no attempt (06 R166, R167), the rate and
lanes of the trained PCIe link, none when it does not train (14 R370). -/
structure BootChecks where
  pcs   : List PcTraining
  temps : List Int
  die   : Int
  tries : Nat
  link  : Option (Nat × Nat)
deriving DecidableEq, Repr, Inhabited

/-- A word that a streamed output misses: the output, and which of the words whose first sample falls in the tick (15 R382). -/
structure OutWord where
  out : Fin 2
  nth : Nat
deriving DecidableEq, Repr, Inhabited

/-- What the signal at a TDC input does at an edge: its direction and the two levels in mV between which it swings (08 R215). -/
structure Swing where
  falling : Bool
  low     : Int
  high    : Int
deriving DecidableEq, Repr, Inhabited

/-- The commands: one constructor per row of the opcode table. -/
inductive Instr where
  /-- MB_GO (R38). -/
  | mbGo (t : Nat) (mb : Fin 16) (v : BitVec 32)
  /-- MB_ABORT (R52). -/
  | mbAbort (t : Nat) (mb : Fin 16) (v : BitVec 32)
  /-- COMMAND_EXPIRY (R51). -/
  | commandExpiry (t : Nat) (mb : Fin 17)
  /-- UNDEFINED_COMMAND (R43). -/
  | undefinedCommand (t : Nat) (mb : Fin 17)
  /-- RESYNC (R69). -/
  | resync (t : Nat) (mb : Fin 17)
  /-- GET_INFO (R67). -/
  | getInfo (t : Nat) (mb : Fin 17)
  /-- PUT_SETTINGS (R56). -/
  | putSettings (t : Nat) (mb : Fin 17)
  /-- GET_SETTINGS (R61). -/
  | getSettings (t : Nat) (mb : Fin 17)
  /-- APPLY (R58). -/
  | apply (t : Nat) (mb : Fin 17)
  /-- DISCARD_STAGED (R60). -/
  | discardStaged (t : Nat) (mb : Fin 17)
  /-- GET_EVENTS (R65). -/
  | getEvents (t : Nat) (mb : Fin 17)
  /-- ECHO (R68). -/
  | echo (t : Nat) (mb : Fin 17)
  /-- ARM (R229). -/
  | arm (t : Nat) (mb : Fin 17)
  /-- ARM_COMMIT (R229). -/
  | armCommit (t : Nat)
  /-- DISARM (R231). -/
  | disarm (t : Nat) (mb : Fin 17)
  /-- FORCE_TRIGGER (R246). -/
  | forceTrigger (t : Nat) (mb : Fin 17)
  /-- GET_ACQ_STATUS (R249). -/
  | getAcqStatus (t : Nat) (mb : Fin 17)
  /-- LOAD_SEQ_TABLE (R235). -/
  | loadSeqTable (t : Nat) (mb : Fin 17)
  /-- CAL_RUN (R134). -/
  | calRun (t : Nat) (mb : Fin 17)
  /-- CAL_RUN_END (R136). -/
  | calRunEnd (t : Nat) (ch : Fin 4) (r : CalResult)
  /-- CAL_STATUS (R137). -/
  | calStatus (t : Nat) (mb : Fin 17)
  /-- CAL_COMMIT (R141). -/
  | calCommit (t : Nat) (mb : Fin 17)
  /-- CAL_STORE_COMPLETION (R141). -/
  | calStoreCompletion (t : Nat) (ok : Bool)
  /-- CAL_REVERT (R144). -/
  | calRevert (t : Nat) (mb : Fin 17)
  /-- GRAFT_CONTROL (R111). -/
  | graftControl (t : Nat) (mb : Fin 17) (test : SliceTest)
  /-- LOAD_CURVE (R130). -/
  | loadCurve (t : Nat) (mb : Fin 17) (bulk : Bulk)
  /-- SET_QUOTA (R306). -/
  | setQuota (t : Nat) (mb : Fin 17)
  /-- RELEASE_SEGMENTS (R308). -/
  | releaseSegments (t : Nat) (mb : Fin 17)
  /-- GET_TRELLIS_STATUS (R309). -/
  | getTrellisStatus (t : Nat) (mb : Fin 17)
  /-- MEM_HEALTH (R341). -/
  | memHealth (t : Nat) (mb : Fin 17)
  /-- RETIRE_PC (R342). -/
  | retirePc (t : Nat) (mb : Fin 17)
  /-- SCRUB_CONTROL (R343). -/
  | scrubControl (t : Nat) (mb : Fin 17)
  /-- SET_TIME (R184). -/
  | setTime (t : Nat) (mb : Fin 17)
  /-- GET_TIME_STATUS (R197). -/
  | getTimeStatus (t : Nat) (mb : Fin 17)
  /-- LOAD_BAND_TABLE (R164). -/
  | loadBandTable (t : Nat) (mb : Fin 17) (temp : Int)
  /-- RELOCK (R170). -/
  | relock (t : Nat) (mb : Fin 17) (temp : Int)
  /-- TDC_MEASURE (R189). -/
  | tdcMeasure (t : Nat) (mb : Fin 17)
  /-- PWR_ENTER (R438). -/
  | pwrEnter (t : Nat) (mb : Fin 17)
  /-- PWR_STATUS (R439). -/
  | pwrStatus (t : Nat) (mb : Fin 17)
  /-- DOMAIN_CONTROL (R424). -/
  | domainControl (t : Nat) (mb : Fin 17) (bad : Option Nat)
  /-- MON_LOAD_TABLE (R447). -/
  | monLoadTable (t : Nat) (mb : Fin 17) (bulk : Bulk)
  /-- MON_READ (R450). -/
  | monRead (t : Nat) (mb : Fin 17)
  /-- MON_INJECT (R452). -/
  | monInject (t : Nat) (mb : Fin 17)
  /-- MON_SYSCAL (R454). -/
  | monSyscal (t : Nat) (mb : Fin 17)
  /-- GET_IDENTITY (R470). -/
  | getIdentity (t : Nat) (mb : Fin 17)
  /-- QUOTE (R473). -/
  | quote (t : Nat) (mb : Fin 17)
  /-- DEBUG_UNLOCK (R476). -/
  | debugUnlock (t : Nat) (mb : Fin 17) (bulk : Bulk)
  /-- CHALLENGE_EXPIRY (R476). -/
  | challengeExpiry (t : Nat)
  /-- ENROLL_OWNER (R475). -/
  | enrollOwner (t : Nat) (mb : Fin 17) (bulk : Bulk)
  /-- OWNER_SLOT_PROGRAMMED (R475). -/
  | ownerSlotProgrammed (t : Nat)
  /-- ARRAY_JOIN (R403). -/
  | arrayJoin (t : Nat) (mb : Fin 17)
  /-- JOIN_SILENCE_EXPIRY (R403). -/
  | joinSilenceExpiry (t : Nat)
  /-- ARRAY_STATUS (R405). -/
  | arrayStatus (t : Nat) (mb : Fin 17)
  /-- ARRAY_LEAVE (R404). -/
  | arrayLeave (t : Nat) (mb : Fin 17)
  /-- ARRAY_CALIBRATE_LINKS (R408). -/
  | arrayCalibrateLinks (t : Nat) (mb : Fin 17) (bulk : Bulk)
  /-- LINK_CALIBRATION_END (R408). -/
  | linkCalibrationEnd (t : Nat) (measured : List LinkEnd) (failed : List Nat)
  /-- FW_STAGE (R466). -/
  | fwStage (t : Nat) (mb : Fin 17) (bulk : Bulk)
  /-- FW_STAGE_END (R466). -/
  | fwStageEnd (t : Nat) (readBack : Bool)
  /-- FW_ACTIVATE (R467). -/
  | fwActivate (t : Nat) (mb : Fin 17)
  /-- LIVE_RESTART_DONE (R50). -/
  | liveRestartDone (t : Nat) (check : Bool)
  /-- TRIAL_EXPIRY (R467). -/
  | trialExpiry (t : Nat)
  /-- FW_STATUS (R468). -/
  | fwStatus (t : Nat) (mb : Fin 17)
  /-- PLAY_LOAD (R377). -/
  | playLoad (t : Nat) (mb : Fin 17)
  /-- PLAY_LOAD_END (R377). -/
  | playLoadEnd (t : Nat) (out : Fin 2) (bulk : Bulk)
  /-- PLAY_START (R379). -/
  | playStart (t : Nat) (mb : Fin 17)
  /-- PLAY_STOP (R383). -/
  | playStop (t : Nat) (mb : Fin 17)
  /-- HARVEST_QUEUE_CREATE (R354). -/
  | harvestQueueCreate (t : Nat) (mb : Fin 17)
  /-- HARVEST_QUEUE_DESTROY (R367). -/
  | harvestQueueDestroy (t : Nat) (mb : Fin 17) (moved : List Nat)
  /-- QUEUE_DRAIN_EXPIRY (R367). -/
  | queueDrainExpiry (t : Nat) (q : Fin 64) (moved : List Nat)
  /-- EVENT_NOTIFY_INTERVAL (R64). -/
  | eventNotifyInterval (t : Nat)
  /-- FLASH_LOG_COPY (R64). -/
  | flashLogCopy (t : Nat)
  /-- REGISTER_WRITE (R6). -/
  | registerWrite (t : Nat) (off : Nat) (size : Nat) (v : BitVec 64)
  /-- RS_READ (R351). -/
  | rsRead (t : Nat) (off : Nat) (size : Nat)
  /-- OVERLOAD_ASSERTED (R81). -/
  | overloadAsserted (t : Nat) (input : Fin 4) (first : Nat) (last : Nat)
  /-- PROTECTION_TRIP (R82). -/
  | protectionTrip (t : Nat) (input : Fin 4)
  /-- PROTECTION_AUTO_CLOSE (R82). -/
  | protectionAutoClose (t : Nat) (input : Fin 4)
  /-- TOWER_SELF_TEST (R88). -/
  | towerSelfTest (t : Nat) (tower : Fin 4) (tests : List SliceTest)
  /-- GRAFT_SELF_TEST (R93). -/
  | graftSelfTest (t : Nat) (tower : Fin 4) (test : SliceTest)
  /-- GRAFT_SHADOW_SETTLED (R93). -/
  | graftShadowSettled (t : Nat) (tower : Fin 4)
  /-- GRAFT_WINDOW (R94). -/
  | graftWindow (t : Nat) (tower : Fin 4) (w : GraftWin)
  /-- SWAP (R95). -/
  | swap (t : Nat) (tower : Fin 4)
  /-- SLICE_FAILURE (R99). -/
  | sliceFailure (t : Nat) (tower : Fin 4) (slice : Fin 33) (cause : Nat) (onset : Nat)
  /-- SLICE_REPLACEMENT (R103). -/
  | sliceReplacement (t : Nat) (tower : Fin 4)
  /-- TRIM_RAMP_STEP (R118). -/
  | trimRampStep (t : Nat) (e : RampElem)
  /-- SKEW_WINDOW (R123). -/
  | skewWindow (t : Nat) (ch : Fin 4) (tick : Nat) (codes : Codes)
  /-- REF_GATE (R152). -/
  | refGate (t : Nat) (edges : Bool) (freq : Nat)
  /-- REF_LOSS (R156). -/
  | refLoss (t : Nat)
  /-- REF_QUALIFICATION (R153). -/
  | refQualification (t : Nat) (e : Int)
  /-- DISCIPLINE_UPDATE (R154). -/
  | disciplineUpdate (t : Nat) (e : Int) (steer : Int)
  /-- CLOCK_STEP (R159). -/
  | clockStep (t : Nat) (e : Int)
  /-- LOCK_LOSS (R165). -/
  | lockLoss (t : Nat) (temp : Int)
  /-- BAND_EDGE (R165). -/
  | bandEdge (t : Nat) (ctl : Nat) (temp : Int)
  /-- OVERSPEED (R168). -/
  | overspeed (t : Nat) (excess : Nat) (temp : Int)
  /-- LOCK_DECLARED (R166). -/
  | lockDeclared (t : Nat)
  /-- FREQUENCY_AGREEMENT (R166). -/
  | frequencyAgreement (t : Nat)
  /-- RELOCK_ATTEMPT_FAILURE (R166). -/
  | relockAttemptFailure (t : Nat)
  /-- RELOCK_COMPLETION (R166). -/
  | relockCompletion (t : Nat)
  /-- SSC_CHANGE (R171). -/
  | sscChange (t : Nat)
  /-- PPS_EDGE (R180). -/
  | ppsEdge (t : Nat) (frac : Nat) (falling : Bool)
  /-- PPS_MISSING (R180). -/
  | ppsMissing (t : Nat)
  /-- PPS_OUT_PULSE (R181). -/
  | ppsOutPulse (t : Nat)
  /-- PPS_OUT_END (R181). -/
  | ppsOutEnd (t : Nat)
  /-- EPOCH_MARK (R183). -/
  | epochMark (t : Nat)
  /-- TDC_EDGE (R186). -/
  | tdcEdge (t : Nat) (chan : Fin 10) (frac : Nat) (swing : Swing)
  /-- TDC_CALIBRATION (R187). -/
  | tdcCalibration (t : Nat) (chan : Fin 10) (err : Nat)
  /-- TDC_CAL_TIMEOUT (R187). -/
  | tdcCalTimeout (t : Nat) (chan : Fin 10)
  /-- MEASUREMENT_EXPIRY (R190). -/
  | measurementExpiry (t : Nat) (chan : Nat)
  /-- DETECTOR_EVENT (R205). -/
  | detectorEvent (t : Nat) (tick : Nat) (pos : Nat) (a : Codes) (b : Codes) (c : Codes) (d : Codes)
  /-- FLT_EVENT (R265). -/
  | fltEvent (t : Nat) (ch : Fin 4) (v : ValueRef) (codes : Codes)
  /-- TIMER_EVENT (R217). -/
  | timerEvent (t : Nat) (ch : Fin 4)
  /-- EVENT_PRESENTATION (R220). -/
  | eventPresentation (t : Nat)
  /-- EXPIRY_EVENT (R239). -/
  | expiryEvent (t : Nat) (ch : Fin 4) (tm : Fin 2)
  /-- HOLDOFF_END (R242). -/
  | holdoffEnd (t : Nat) (ch : Fin 4)
  /-- AUTO_TRIGGER (R245). -/
  | autoTrigger (t : Nat) (ch : Fin 4)
  /-- SEGMENT_CLOSE (R297). -/
  | segmentClose (t : Nat) (ch : Fin 4) (codes : Codes)
  /-- OUTPUT_PULSE (R492). -/
  | outputPulse (t : Nat)
  /-- PULSE_END (R492). -/
  | pulseEnd (t : Nat) (pin : Fin 5)
  /-- SYNCHRONISING_RESET (R263). -/
  | synchronisingReset (t : Nat) (ch : Fin 4)
  /-- FOLD (R279). -/
  | fold (t : Nat) (ch : Fin 4)
  /-- RESULT_PASS (R280). -/
  | resultPass (t : Nat) (ch : Fin 4)
  /-- BUSY_INTERVAL_END (R283). -/
  | busyIntervalEnd (t : Nat) (ch : Fin 4)
  /-- PAGE_NEED (R300). -/
  | pageNeed (t : Nat) (ch : Fin 4)
  /-- DESCRIPTOR_WRITE (R297). -/
  | descriptorWrite (t : Nat)
  /-- PATROL_SCRUB (R329). -/
  | patrolScrub (t : Nat) (raw : List RawGroup)
  /-- WRITE_BACK (R329). -/
  | writeBack (t : Nat) (raw : List RawGroup)
  /-- MIGRATION_COMPLETION (R335). -/
  | migrationCompletion (t : Nat)
  /-- CAPACITY_REDUCTION (R337). -/
  | capacityReduction (t : Nat)
  /-- RETRAINING_WINDOW (R332). -/
  | retrainingWindow (t : Nat) (pc : Fin 32) (works : PcSetting) (lanes : List Eye) (temp : Int)
  /-- CE_WINDOW (R333). -/
  | ceWindow (t : Nat) (pc : Fin 32)
  /-- PC_RESTORE_TRAINING (R342). -/
  | pcRestoreTraining (t : Nat) (pass : PcTraining) (temp : Int)
  /-- SELF_REFRESH_ENTRY (R338). -/
  | selfRefreshEntry (t : Nat) (request : Bool)
  /-- SELF_REFRESH_EXIT (R340). -/
  | selfRefreshExit (t : Nat) (temps : List ExitPc)
  /-- HQ_TAIL_WRITE (R357). -/
  | hqTailWrite (t : Nat) (q : Fin 64) (v : BitVec 32)
  /-- HQ_CHEAD_WRITE (R357). -/
  | hqCheadWrite (t : Nat) (q : Fin 64) (v : BitVec 32)
  /-- DESCRIPTOR_TAKE (R357). -/
  | descriptorTake (t : Nat) (q : Fin 64) (fetch : Fetch)
  /-- COMPLETION_RECORD (R363). -/
  | completionRecord (t : Nat) (q : Fin 64)
  /-- MSIX_UNMASK (R353). -/
  | msixUnmask (t : Nat) (vec : Fin 64)
  /-- LINK_DOWN (R368). -/
  | linkDown (t : Nat) (cause : Nat)
  /-- LINK_UP (R370). -/
  | linkUp (t : Nat) (rate : Nat) (lanes : Nat)
  /-- PLAY_START_TICK (R380). -/
  | playStartTick (t : Nat) (out : Fin 2)
  /-- PLAY_END (R380). -/
  | playEnd (t : Nat) (out : Fin 2)
  /-- STREAM_UNDERRUN (R382). -/
  | streamUnderrun (t : Nat) (out : OutWord)
  /-- PORT_UP (R389). -/
  | portUp (t : Nat) (port : Fin 3) (peer : Nat) (standby : Bool)
  /-- PORT_DOWN (R409). -/
  | portDown (t : Nat) (port : Fin 3) (lock : Bool) (alive : Bool) (route : Option (Nat × Nat))
  /-- REROUTE (R410). -/
  | reroute (t : Nat) (level : Nat) (hops : Nat)
  /-- TAKEOVER_WAIT_EXPIRY (R411). -/
  | takeoverWaitExpiry (t : Nat) (e : Int) (table : Option (List Member)) (asym : Option (List (Nat × Int)))
  /-- PAUSE_EXPIRY (R413). -/
  | pauseExpiry (t : Nat) (port : Fin 3) (alive : Bool) (route : Option (Nat × Nat))
  /-- TIME_EXCHANGE (R395). -/
  | timeExchange (t : Nat) (port : Fin 3)
  /-- STATUS_REPORT (R390). -/
  | statusReport (t : Nat)
  /-- TIME (R395). -/
  | time (t : Nat) (port : Fin 3) (m : TimeMsg)
  /-- EPOCH (R398). -/
  | epoch (t : Nat) (b : Nat) (delta : Int) (kind : Nat)
  /-- TRIG_REQ (R401). -/
  | trigReq (t : Nat) (origin : Nat) (ch : Fin 4) (ticks : Nat) (frac : Nat) (qual : BitVec 8)
  /-- TRIG (R401). -/
  | trig (t : Nat) (origin : Nat) (ch : Fin 4) (ticks : Nat) (frac : Nat) (qual : BitVec 8) (delay : Nat)
  /-- ARM_MESSAGE (R399). -/
  | armMessage (t : Nat) (c : Nat) (number : Nat)
  /-- DISARM_MESSAGE (R400). -/
  | disarmMessage (t : Nat) (q : Nat)
  /-- READY (R399). -/
  | ready (t : Nat) (addr : Nat) (number : Nat) (result : Nat)
  /-- RELAY_CMD (R407). -/
  | relayCmd (t : Nat) (msg : RelayMsg)
  /-- RELAY_RSP (R407). -/
  | relayRsp (t : Nat) (addr : Nat) (part : RelayPart)
  /-- JOIN (R392). -/
  | join (t : Nat) (parent : Nat) (port : Nat) (serial : List Byte) (digest : List Byte) (role : Nat)
  /-- ASSIGN (R393). -/
  | assign (t : Nat) (own : Bool) (addr : Nat) (role : Nat) (level : Nat) (hops : Nat) (heads : ArrayHeads) (refusal : Nat)
  /-- STATUS (R402). -/
  | status (t : Nat) (addr : Nat) (health : ModuleReport) (exports : Nat) (aligned : Bool) (delay : Nat)
  /-- TAKEOVER (R411). -/
  | takeover (t : Nat) (mgr : Nat) (level : Nat) (hops : Nat) (e : Int) (table : Option (List Member)) (asym : Option (List (Nat × Int)))
  /-- ABSENT (R409). -/
  | absent (t : Nat) (addr : Nat)
  /-- PAUSE (R413). -/
  | pause (t : Nat) (port : Fin 3)
  /-- DISSOLVE (R404). -/
  | dissolve (t : Nat)
  /-- BAD_MESSAGE (R390). -/
  | badMessage (t : Nat) (port : Fin 3)
  /-- IDLE_ENTRY (R420). -/
  | idleEntry (t : Nat)
  /-- HBM_PHY_IDLE (R420). -/
  | hbmPhyIdle (t : Nat)
  /-- ON_DEMAND_WAKE (R423). -/
  | onDemandWake (t : Nat) (dom : Nat)
  /-- POWER_ENTRY_DRAIN (R426). -/
  | powerEntryDrain (t : Nat)
  /-- RETENTION_COPY (R426). -/
  | retentionCopy (t : Nat)
  /-- POWER_ENTRY_COMMIT (R426). -/
  | powerEntryCommit (t : Nat)
  /-- WAKE_N_LOW (R434). -/
  | wakeNLow (t : Nat)
  /-- WAKE_EDGE (R434). -/
  | wakeEdge (t : Nat) (src : Nat) (pin : Nat) (falling : Bool)
  /-- WAKE_TIMER_EXPIRY (R434). -/
  | wakeTimerExpiry (t : Nat)
  /-- MAIN_POWER_RETURN (R434). -/
  | mainPowerReturn (t : Nat)
  /-- BF_CMD_WAKE (R436). -/
  | bfCmdWake (t : Nat)
  /-- BF_CMD_OFF (R436). -/
  | bfCmdOff (t : Nat)
  /-- BF_CMD_CLEAR_FAIL (R436). -/
  | bfCmdClearFail (t : Nat)
  /-- I2C_SNAPSHOT_READ (R436). -/
  | i2cSnapshotRead (t : Nat) (reg : Nat) (len : Nat)
  /-- REGULATOR_TIMEOUT (R433). -/
  | regulatorTimeout (t : Nat) (rail : Nat)
  /-- WAKE_COMPLETION (R432). -/
  | wakeCompletion (t : Nat) (boot : BootChecks)
  /-- MAIN_POWER_LOSS (R420). -/
  | mainPowerLoss (t : Nat)
  /-- THERMAL_TRIP (R485). -/
  | thermalTrip (t : Nat) (sensor : Nat) (temp : Int)
  /-- BROWN_OUT (R435). -/
  | brownOut (t : Nat)
  /-- INSERTION (R495). -/
  | insertion (t : Nat)
  /-- POWER_UP (R495). -/
  | powerUp (t : Nat) (boot : BootChecks)
  /-- CONVERSION_END (R449). -/
  | conversionEnd (t : Nat) (raw : Int)
  /-- ENTRY_DELAY_END (R446). -/
  | entryDelayEnd (t : Nat)
  /-- INJECTION_START (R452). -/
  | injectionStart (t : Nat)
  /-- SYSCAL_START (R454). -/
  | syscalStart (t : Nat)
  /-- DBG_HALT (R478). -/
  | dbgHalt (t : Nat) (v : BitVec 32)
  /-- DBG_RESUME (R478). -/
  | dbgResume (t : Nat) (v : BitVec 32)
  /-- DBG_STEP (R478). -/
  | dbgStep (t : Nat) (v : BitVec 32)
  /-- DBG_CLR_ERR (R478). -/
  | dbgClrErr (t : Nat) (v : BitVec 32)
  /-- DBG_DATA_ACCESS (R480). -/
  | dbgDataAccess (t : Nat) (setAddr : Option (BitVec 32)) (wr : Option (BitVec 32))
  /-- BREAKPOINT_HIT (R478). -/
  | breakpointHit (t : Nat) (scan : Option (BitVec 40)) (idx : Fin 8)
  /-- ARM_WAKE_FAILURE (R230). -/
  | armWakeFailure (t : Nat) (dom : Nat)
  /-- RETRAINING_START (R332). -/
  | retrainingStart (t : Nat) (pc : Fin 32) (temp : Int) (deskew : List Int)
  /-- GROUP_READ (R323). -/
  | groupRead (t : Nat) (pc : Fin 32) (row : Nat) (raw : List RawGroup) (copy : Bool)
  /-- HELD_ALLOCATION (R318). -/
  | heldAllocation (t : Nat)
  /-- AUX_POWER_LOSS (R435). -/
  | auxPowerLoss (t : Nat)
  /-- L1_EXIT (R434). -/
  | l1Exit (t : Nat)
  /-- SYSCAL_SETTLE_END (R454). -/
  | syscalSettleEnd (t : Nat)
deriving DecidableEq, Repr

end Sys2Proof
end

