-- ==== Sys2Proof/Decode.lean ====
section
/-!
DEFINITION. Words of the opcode table: spec/opcode_table.json gives its rows no bits (spec/98_reader.md counts 0 rows with
fields), so no word spells a command.
-/

namespace Sys2Proof

/-- The command a table word spells: none, since the table gives no row any bits. -/
def decodeTableWord (_nbits _w : Nat) : Option Instr := none

end Sys2Proof
end

