-- ==== Sys2Proof/Machine/Ecc.lean ====
section
/-!
DEFINITION. The code of acquisition memory (13 R320–R323): check fields, check words, and the decoding of one group.
-/

namespace Sys2Proof.Machine

/-- One step of a division register of `w` bits by the polynomial with low part `poly`. -/
def crcStep (w poly r : Nat) (bit : Bool) : Nat :=
  let out := bitAt r (w - 1) != bit
  let s := 2 * r % 2 ^ w
  if out then s ^^^ poly else s

/-- The remainder of x^w times a 64-bit word, most significant bit first. -/
def crc64 (w poly d : Nat) : Nat := (List.range 64).foldl (fun r i => crcStep w poly r (bitAt d (63 - i))) 0

/-- The parity of the low `n` bits. -/
def parityOf (n d : Nat) : Bool := (List.range n).foldl (fun p i => p != bitAt d i) false

/-- Bits [13:0] of a check field (13 R321): g(x) less its leading term is 0x377. -/
def bch14 (d : Nat) : Nat := crc64 14 0x377 d

/-- The 16-bit check field of data word `d` at slot data word `w` (13 R321). -/
def checkField (d w : Nat) : Nat :=
  let r := bch14 d
  r + 16384 * flag (parityOf 64 d != parityOf 14 r) + 32768 * flag (parityOf 27 w)

/-- The sideband bits of a check word (13 R322). -/
def checkSide (c : Nat) : Nat :=
  let r := crc64 7 0x09 c
  r + 128 * flag (parityOf 64 c != parityOf 7 r)

/-- The check word of a group (13 R320): `words` its seven data words from slot data word `w` on, `poison` its POISON bits. -/
def checkWord (row group w : Nat) (words : List Nat) (poison : Nat) : Nat :=
  (((words.zip (List.range 7)).map (fun e => checkField e.1 (w + e.2) / 256 * 2 ^ (8 * e.2))).sum)
    + 2 ^ 56 * (poison % 128) + 2 ^ 63 * flag (bitAt (row / 16) group)

/-- The syndrome of a word and its check bits [14:0]: the remainder's difference and the overall parity in bit 14. -/
def syndrome (d chk : Nat) : Nat :=
  let r := chk % 16384
  (bch14 d ^^^ r) + 16384 * flag (parityOf 64 d != parityOf 15 chk)

/-- The syndrome of a single error in bit `i` of the 79: data bits 0 to 63, then check bits 0 to 14. -/
def errSyndrome (i : Nat) : Nat := if i < 64 then syndrome (2 ^ i) 0 else syndrome 0 (2 ^ (i - 64))

/-- The 79 single-error syndromes. -/
def errTable : List (Nat × Nat) := (List.range 79).map (fun i => (errSyndrome i, i))

/-- The error places of a syndrome: none, one or two bits; nothing when three or more errors are detected. -/
def findErrors (s : Nat) : Option (List Nat) :=
  if s = 0 then some []
  else match errTable.find? (fun e => e.1 == s) with
    | some e => some [e.2]
    | none => match errTable.find? (fun e => errTable.any (fun f => f.1 ^^^ e.1 == s && f.2 != e.2)) with
      | none => none
      | some e => (errTable.find? (fun f => f.1 ^^^ e.1 == s)).map (fun f => [e.2, f.2])

/-- What one data word's decoding finds (13 R323). -/
inductive WordOut where
  | clean | corrected | uncorrectable | badAddr | poisoned
deriving DecidableEq, Repr

/-- What a check word's decoding finds. -/
inductive CheckOut where
  | clean | corrected | lost
deriving DecidableEq, Repr

/-- The single-error syndromes of a check word: remainder difference and parity. -/
def sideSyndrome (c side : Nat) : Nat :=
  (crc64 7 0x09 c ^^^ side % 128) + 128 * flag (parityOf 64 c != parityOf 8 side)

/-- Decode a check word (13 R322, R323): the corrected word and the outcome. -/
def decodeCheck (c side : Nat) : Nat × CheckOut :=
  let s := sideSyndrome c side
  if s = 0 then (c, .clean)
  else match (List.range 64).find? (fun i => sideSyndrome (2 ^ i) 0 == s) with
    | some i => (c ^^^ 2 ^ i, .corrected)
    | none => if (List.range 8).any (fun i => sideSyndrome 0 (2 ^ i) == s) then (c, .corrected) else (c, .lost)

/-- Decode one data word (13 R321, R323). -/
def decodeWord (d chk w : Nat) (poison : Bool) : WordOut :=
  if poison then .poisoned
  else if bitAt chk 15 != parityOf 27 w then .badAddr
  else match findErrors (syndrome d (chk % 32768)) with
    | some [] => .clean
    | some _ => .corrected
    | none => .uncorrectable

/-- A data word as its decoding corrects it (13 R321, R323). -/
def correctedData (d chk : Nat) : Nat :=
  ((findErrors (syndrome d (chk % 32768))).getD []).foldl (fun a i => if i < 64 then a ^^^ 2 ^ i else a) d

/-- What a group's decoding finds. -/
structure GroupOut where
  check  : CheckOut
  addr   : Bool
  words  : List WordOut
deriving DecidableEq, Repr

/-- Decode a group of row `row` whose first word is slot data word `w` (13 R323). -/
def decodeGroup (r : RawGroup) (row w : Nat) : GroupOut :=
  let side := r.side.map BitVec.toNat
  let ck := decodeCheck r.check.toNat (side.getD 7 0)
  let ws := (List.range 7).map (fun i =>
    decodeWord (r.words.getD i 0#64).toNat (side.getD i 0 % 256 + 256 * bitsAt ck.1 (8 * i) 8) (w + i) (bitAt ck.1 (56 + i)))
  { check := ck.2
    addr := ck.2 != .lost && (bitAt ck.1 63 != bitAt (row / 16) r.group || ws.any (· == .badAddr))
    words := ws }

/-- A group's outcome where its words are checked against known data: one that decodes to other data has more errors than the code
detects, and counts as uncorrectable (13 R329; DEDUCED, log entry 60). -/
def GroupOut.against (o : GroupOut) (r : RawGroup) (want : Nat → Nat) : GroupOut :=
  let ck := decodeCheck r.check.toNat ((r.side.map BitVec.toNat).getD 7 0)
  { o with words := (List.range 7).map (fun i =>
      let d := correctedData (r.words.getD i 0#64).toNat (((r.side.map BitVec.toNat).getD i 0) % 256 + 256 * bitsAt ck.1 (8 * i) 8)
      match o.words.getD i .clean with
      | .clean => if d = want i then .clean else .uncorrectable
      | .corrected => if d = want i then .corrected else .uncorrectable
      | x => x) }

/-- Lanes of a pseudo-channel: 64 data and 8 sideband (13 R316). -/
def pcLanes : Nat := 72

/-- Whether a lane's eye is at least 0.30 unit intervals wide and 40 mV high (13 R331). -/
def eyeOpen (e : Eye) : Bool := decide (300 ≤ e.width ∧ 40 ≤ e.height)

/-- Whether a setting is working: the eye of every lane is open enough (13 R331). -/
def settingWorks (eyes : List Eye) : Bool := eyes.length == pcLanes && eyes.all eyeOpen

/-- Whether a training finds a working setting (13 R331). -/
def trainingWorks (t : PcTraining) : Bool := settingWorks t.eyes

/-- Lanes whose eye is not open enough (13 R345). -/
def lanesFailing (eyes : List Eye) : Nat := (eyes.filter (fun e => !(eyeOpen e))).length

end Sys2Proof.Machine
end

