-- ==== Sys2Proof/Config.lean ====
section
/-!
DEFINITION. What one module fixes and the spec gives no number for: opaque constants, so that no proof can see a value
(log entries 7, 9 and 12).
-/

namespace Sys2Proof

/-- Free values, numbered by the counter that `State.freeCtr` holds. -/
opaque Config.freeBits : Nat → BitVec 64

/-- The firmware version that runs at reset (19 R459). -/
opaque Config.fwVersionBits : BitVec 32

/-- Byte `i` of the digest of the firmware image that runs at reset (19 R459). -/
opaque Config.fwDigestByte : Nat → Byte

/-- The firmware version as a number. -/
def Config.fwVersion : Nat := Config.fwVersionBits.toNat

/-- The digest of the image that runs at reset, 64 bytes. -/
def Config.fwDigest : List Byte := (List.range 64).map Config.fwDigestByte

/-- The design value of a tower delay, by its key in the working set (05 R146). -/
opaque Config.designTowerDelay : Nat → BitVec 10

/-- The design value of a front-end delay, by its key in the working set (05 R146). -/
opaque Config.designFeDelay : Nat → BitVec 32

/-- The built-in band table: the entry that applies at a die temperature in 0.1 °C (06 R163). -/
opaque Config.builtinBand : Int → BitVec 6

/-- Its charge-pump setting. -/
opaque Config.builtinIcp : Int → BitVec 4

/-- Its starting fine-tune code. -/
opaque Config.builtinFine : Int → BitVec 12

/-- Tap `i` of the compensation filter, by order and ratio; firmware computes it (10 R260). -/
opaque Config.compTap : Nat → Nat → Nat → BitVec 24

/-- Byte `i` of the module's SERIAL (02 R67). -/
opaque Config.serialByte : Nat → Byte

/-- The payload bytes of a Nired message by type and content: the spec gives no layout (16 R390). -/
opaque Config.messagePayload : Nat → List Nat → List Byte

/-- Where the block boundaries of a Nired port lie, in half ticks modulo 33 (16 R395). -/
opaque Config.blockPhase : Nat → Nat

/-- The design values of the constants of the link of a port (16 R395); the asymmetry of a link without an entry is 0 (16 R408). -/
opaque Config.linkDesign : Nat → LinkConst

/-- SERIAL: 16 bytes (02 R67). -/
def Config.serial : List Byte := (List.range 16).map Config.serialByte

/-- HW_REV (02 R67). -/
opaque Config.hwRevBits : BitVec 16

/-- HW_REV as a number. -/
def Config.hwRev : Nat := Config.hwRevBits.toNat

/-- Byte `i` of the digest of ROM and fuse array, register 0's first item (19 R464). -/
opaque Config.romDigestByte : Nat → Byte

/-- The word of the boot ROM at a byte offset (19 R480). -/
opaque Config.romWord : Nat → BitVec 32

/-- The digest of ROM and fuse array: 64 bytes. -/
def Config.romDigest : List Byte := (List.range 64).map Config.romDigestByte

/-- How far a store of a calibration bank, or a rewrite of a record, had come when power failed (05 R143, R144), by the number of a
free value: 0 before step 5, 1 within it, else after it. -/
opaque Config.storeStep : Nat → BitVec 2

/-- How long the rewriting of a commit record takes, in ticks (05 R144). -/
opaque Config.rewriteTicks : Nat → BitVec 31

/-- The data word that training writes at slot data word `w` of a spare (13 R329). -/
opaque Config.sparePattern : Nat → BitVec 64

/-- The end of the range of the deskew loop, in 1/64 unit interval (13 R331, R332). -/
opaque Config.deskewRange : BitVec 16

/-- What the retraining of a pseudo-channel at a self-refresh exit measures where the command that brings the exit carries no measurement
(13 R333, R340), by the number of a free value. -/
opaque Config.exitTraining : Nat → Fin 32 → PcTraining

/-- Coefficient `i` of the fixed interpolating set that fills a phase (04 R105): offsets -8 to -1, then 1 to 8. -/
opaque Config.fillTap : Nat → BitVec 18

/-- Byte `i` of the vendor public key that the boot ROM holds (19 R460). -/
opaque Config.vendorKeyByte : Nat → Byte

/-- The vendor public key: 1,952 bytes. -/
def Config.vendorKey : List Byte := (List.range 1952).map Config.vendorKeyByte

/-- Byte `i` of the identity public key (19 R469). -/
opaque Config.identKeyByte : Nat → Byte

/-- The identity public key: 1,952 bytes. -/
def Config.identKey : List Byte := (List.range 1952).map Config.identKeyByte

/-- Byte `i` of the endorsement (19 R469). -/
opaque Config.endorsementByte : Nat → Byte

/-- The endorsement: 3,309 bytes. -/
def Config.endorsement : List Byte := (List.range 3309).map Config.endorsementByte

/-- Whether a signature of ML-DSA-65 verifies: public key, context, message, signature (19 R459; FIPS 204). -/
opaque Config.mldsaVerify : List Byte → List Byte → List Byte → List Byte → Bool

/-- Byte `i` of the signature that the signing engine makes over a message, hedged with random number `n` (19 R473). -/
opaque Config.mldsaSignByte : BitVec 64 → List Byte → Nat → Byte

/-- Byte `i` of challenge number `n` (19 R476). -/
opaque Config.challengeByte : Nat → Nat → Byte

end Sys2Proof
end

