-- ==== Sys2Proof/Machine/Shake.lean ====
section
/-!
DEFINITION. SHAKE256 (02 R59; 05 R138; 19 R459, R464), written from the published standard (log entry 8). A state is a list of
25 lanes, lane x + 5y.
-/

namespace Sys2Proof.Machine

/-- Lane `i` of a state. -/
def lane (a : List Word) (i : Nat) : Word := a.getD i 0#64

/-- Rotation offsets, lane x + 5y. -/
def rhoOffsets : List Nat :=
  [0, 1, 62, 28, 27, 36, 44, 6, 55, 20, 3, 10, 43, 25, 39, 41, 45, 15, 21, 8, 18, 2, 61, 56, 14]

/-- Round constants. -/
def iotaConsts : List Word :=
  [0x0000000000000001#64, 0x0000000000008082#64, 0x800000000000808A#64, 0x8000000080008000#64,
   0x000000000000808B#64, 0x0000000080000001#64, 0x8000000080008081#64, 0x8000000000008009#64,
   0x000000000000008A#64, 0x0000000000000088#64, 0x0000000080008009#64, 0x000000008000000A#64,
   0x000000008000808B#64, 0x800000000000008B#64, 0x8000000000008089#64, 0x8000000000008003#64,
   0x8000000000008002#64, 0x8000000000000080#64, 0x000000000000800A#64, 0x800000008000000A#64,
   0x8000000080008081#64, 0x8000000000008080#64, 0x0000000080000001#64, 0x8000000080008008#64]

/-- Theta. -/
def keccakTheta (a : List Word) : List Word :=
  let c := (List.range 5).map (fun x => lane a x ^^^ lane a (x + 5) ^^^ lane a (x + 10) ^^^ lane a (x + 15) ^^^ lane a (x + 20))
  let d := (List.range 5).map (fun x => lane c ((x + 4) % 5) ^^^ (lane c ((x + 1) % 5)).rotateLeft 1)
  (List.range 25).map (fun i => lane a i ^^^ lane d (i % 5))

/-- Rho and pi: lane X + 5Y takes lane x + 5y with y = X and x = X + 3Y modulo 5. -/
def keccakRhoPi (a : List Word) : List Word :=
  (List.range 25).map (fun i =>
    let src := (i % 5 + 3 * (i / 5)) % 5 + 5 * (i % 5)
    (lane a src).rotateLeft (rhoOffsets.getD src 0))

/-- Chi. -/
def keccakChi (b : List Word) : List Word :=
  (List.range 25).map (fun i =>
    let y := 5 * (i / 5)
    lane b i ^^^ (~~~(lane b (y + (i + 1) % 5)) &&& lane b (y + (i + 2) % 5)))

/-- One round. -/
def keccakRound (a : List Word) (rc : Word) : List Word :=
  match keccakChi (keccakRhoPi (keccakTheta a)) with
  | [] => []
  | x :: xs => (x ^^^ rc) :: xs

/-- The permutation. -/
def keccakF (a : List Word) : List Word := iotaConsts.foldl keccakRound a

/-- Lane `i` of a block of bytes. -/
def blockLane (b : List Byte) (i : Nat) : Word := BitVec.ofNat 64 (ofLe ((b.drop (8 * i)).take 8))

/-- Absorb one block of 136 bytes. -/
def absorb (a : List Word) (b : List Byte) : List Word :=
  keccakF ((List.range 25).map (fun i => if i < 17 then lane a i ^^^ blockLane b i else lane a i))

/-- Absorb `n` blocks. -/
def absorbAll : Nat → List Word → List Byte → List Word
  | 0, a, _ => a
  | n + 1, a, m => absorbAll n (absorb a (m.take 136)) (m.drop 136)

/-- The padded message: suffix 1111 and the padding 10*1. -/
def shakePad (m : List Byte) : List Byte :=
  let n := m.length % 136
  if n = 135 then m ++ [0x9F#8] else m ++ [0x1F#8] ++ List.replicate (134 - n) 0#8 ++ [0x80#8]

/-- Squeeze `n` blocks. -/
def squeeze : Nat → List Word → List Byte
  | 0, _ => []
  | n + 1, a => (a.take 17).flatMap (fun w => leBytes 8 w.toNat) ++ squeeze n (keccakF a)

/-- SHAKE256 of a message with `n` bytes of output. -/
def shake256 (m : List Byte) (n : Nat) : List Byte :=
  let p := shakePad m
  (squeeze ((n + 135) / 136) (absorbAll (p.length / 136) (List.replicate 25 0#64) p)).take n

end Sys2Proof.Machine
end

