-- ==== Sys2Proof/Machine/Banks.lean ====
section
/-!
DEFINITION. The calibration working set and the two banks of flash that store it (05 R114, R127, R138–R140, R146): what an item
reads as, the image of a bank, its digest and its commit record, and which check a bank fails.
-/

namespace Sys2Proof.Machine

/-- Channel correction of one input and range (05 R114, R131). -/
structure Corr where
  o : Int
  g : Int
deriving DecidableEq, Repr, Inhabited

/-- The working set of 05 R114; an absent item has its factory default (05 R146). Keys: slice 33*tower+s; loop corrections
mode*128+32*tower+phase; equaliser sets mode*128+32*tower+phase; tower delays mode*4+tower; corrections input*8+range;
front-end delays (input*3+mode)*7+bw. -/
structure WorkSet where
  curves : List (Nat × List Int)
  aper   : List (Nat × Int)
  loop   : List (Nat × Int)
  eqs    : List (Nat × List Int)
  delays : List (Nat × Int)
  corrs  : List (Nat × Corr)
  fe     : List (Nat × Int)
deriving DecidableEq, Repr, Inhabited

/-- A commit record as the flash holds it (05 R139). `check` is none where the record is only partly programmed (05 R143). -/
structure CommitRec where
  magic  : List Byte
  seq    : Nat
  len    : Nat
  format : Nat
  res1   : Nat
  ticks  : Nat
  boot   : Nat
  res2   : Nat
  check  : Option (List Byte)
deriving DecidableEq, Repr, Inhabited

/-- One calibration bank in flash (05 R138): its commit record, none where it is erased, its header's format and SERIAL, its data
and the BANK_DIGEST programmed with them. -/
structure Bank where
  commit : Option CommitRec
  format : Nat
  serial : List Byte
  data   : WorkSet
  digest : List Byte
deriving DecidableEq, Repr, Inhabited

/-! Items. -/

/-- A keyed item. -/
def itemGet {α : Type} (l : List (Nat × α)) (k : Nat) : Option α := (l.find? (fun e => e.1 == k)).map (·.2)

/-- The value a list of keyed items holds, with the factory default 0 (05 R146). -/
def itemAt (l : List (Nat × Int)) (k : Nat) : Int := (l.find? (fun e => e.1 == k)).elim 0 (·.2)

/-- Put an item. -/
def itemPut {α : Type} (k : Nat) (v : α) (l : List (Nat × α)) : List (Nat × α) := (k, v) :: l.filter (fun e => e.1 != k)

/-- Put several items. -/
def itemsPut {α : Type} (new l : List (Nat × α)) : List (Nat × α) := new.foldr (fun e m => itemPut e.1 e.2 m) l

/-- The keys two lists of items hold, each once. -/
def itemKeys {α : Type} (l m : List (Nat × α)) : List Nat :=
  l.map (·.1) ++ (m.filter (fun e => !(l.any (fun q => q.1 == e.1)))).map (·.1)

/-- The identity curve (05 R127). -/
def identityCurve : List Int := (List.range 4096).map (fun (i : Nat) => ((i : Int) - 2048) * 16)

/-- The identity coefficient set: c[0] is 1.0 (04 R109). -/
def identityEq : List Int := (List.range 16).map (fun i => if i = 8 then 65536 else 0)

/-- Whether a curve is valid (05 R127). -/
def curveValid (l : List Int) : Bool :=
  (l.zip l.tail).all (fun p => decide (p.1 ≤ p.2))
    && (l.zip identityCurve).all (fun p => decide ((p.1 - p.2).natAbs ≤ 2048))

/-- The largest of a list of magnitudes. -/
def maxAbs (l : List Int) : Nat := l.foldl (fun a v => max a v.natAbs) 0

/-- A slice's curve. -/
def WorkSet.curve (w : WorkSet) (k : Nat) : List Int := (itemGet w.curves k).getD identityCurve

/-- A phase's equaliser set. -/
def WorkSet.eq (w : WorkSet) (k : Nat) : List Int := (itemGet w.eqs k).getD identityEq

/-- A tower delay; the design value where none is held (05 R146). -/
def WorkSet.delay (w : WorkSet) (k : Nat) : Int := (itemGet w.delays k).getD ((Config.designTowerDelay k).toNat : Int)

/-- A front-end delay; the design value where none is held. -/
def WorkSet.feDelay (w : WorkSet) (k : Nat) : Int := (itemGet w.fe k).getD ((Config.designFeDelay k).toNat % 1000001 : Nat)

/-- The correction of an input's range. -/
def WorkSet.corr (w : WorkSet) (i : Fin 4) (r : Nat) : Corr := (itemGet w.corrs (i.val * 8 + r)).getD ⟨0, 0⟩

/-- The factory defaults (05 R146). -/
def WorkSet.factory : WorkSet := ⟨[], [], [], [], [], [], []⟩

/-! The image of a bank (05 R138). -/

/-- Bytes at an offset, with erased flash before them up to it (19 R458). -/
def putAt (o : Nat) (bs acc : List Byte) : List Byte := acc ++ List.replicate (o - acc.length) 0xFF#8 ++ bs

/-- A bank's header (05 R138). -/
def bankHeader (format : Nat) (serial : List Byte) : List Byte :=
  leBytes 4 format ++ serial ++ leBytes 2 Config.hwRev ++ List.replicate 42 0#8

/-- A bank's header and data, bytes 0 to DATA_LEN - 1 (05 R138). -/
def bankImage (format : Nat) (serial : List Byte) (w : WorkSet) : List Byte :=
  let slices := List.range 132
  let phases := List.range 384
  let modes := List.range 3
  [] |> putAt 0 (bankHeader format serial)
    |> putAt 0x1000 (slices.flatMap (fun k => (w.curve k).flatMap (fun v => leBytes 2 (encInt 16 v))))
    |> putAt 0x109000 (slices.flatMap (fun k => leBytes 2 (encInt 16 (itemAt w.aper k)) ++ List.replicate 6 0#8))
    |> putAt 0x10A000 (phases.flatMap (fun k => leBytes 2 (encInt 16 (itemAt w.loop k))))
    |> putAt 0x10B000 (phases.flatMap (fun k => (w.eq k).flatMap (fun v => leBytes 4 (encInt 32 v))))
    |> putAt 0x111000 ((List.range 12).flatMap (fun k => leBytes 2 (encInt 16 (w.delay k))))
    |> putAt 0x112000 ((List.range 32).flatMap (fun k =>
      let c := (itemGet w.corrs k).getD ⟨0, 0⟩
      leBytes 2 (encInt 16 c.o) ++ [0#8, 0#8] ++ leBytes 4 (encInt 32 c.g)))
    |> putAt 0x113000 ((List.range 4).flatMap (fun i => modes.flatMap (fun m => (List.range 7).flatMap (fun b =>
      leBytes 4 (encInt 32 (w.feDelay ((i * 3 + m) * 7 + b)))))))
    |> putAt 0x114000 []

/-- BANK_DIGEST over the image that this module stores of a working set (05 R138). -/
def bankDigest (w : WorkSet) : List Byte := shake256 (bankImage 1 Config.serial w) 32

/-! The commit record (05 R139). -/

/-- The identity digest. -/
def identDigest : List Byte := shake256 Config.identKey 32

/-- Bytes 0 to 31 of a record. -/
def CommitRec.head (r : CommitRec) : List Byte :=
  padTo 4 r.magic ++ leBytes 4 r.seq ++ leBytes 4 r.len ++ leBytes 2 r.format ++ leBytes 2 r.res1 ++ leBytes 8 r.ticks
    ++ leBytes 4 r.boot ++ leBytes 4 r.res2

/-- The record that CAL_COMMIT programs. -/
def commitRec (seq ticks boot : Nat) : CommitRec :=
  let r : CommitRec := ⟨asciiBytes "QCAL", seq, 0x114000, 1, 0, ticks, boot, 0, none⟩
  { r with check := some (shake256 r.head 32) }

/-- The bank that a store leaves when it ends well (05 R141). -/
def storedBank (seq ticks boot : Nat) (w : WorkSet) : Bank :=
  ⟨some (commitRec seq ticks boot), 1, Config.serial, w, bankDigest w⟩

/-- A bank whose record is erased (05 R141 step 1). -/
def Bank.erased (b : Bank) : Bank := { b with commit := none }

/-- The bank of a store that broke off in step 5 (05 R143): all is stored but the end of the record. -/
def partBank (seq ticks boot : Nat) (w : WorkSet) : Bank :=
  { storedBank seq ticks boot w with commit := some { commitRec seq ticks boot with check := none } }

/-! Which banks are valid (05 R140, R148). -/

/-- Whether REC_CHECK is correct. -/
def CommitRec.checks (r : CommitRec) : Bool := r.check == some (shake256 r.head 32)

/-- The check a bank fails, with the reason of 05 R148: 4 FORMAT or MAGIC, 1 REC_CHECK, 0 a reserved field, 3 SERIAL, 2 BANK_DIGEST; none
for a valid bank. The order of the checks is that of 05 R140 (log entry 14). -/
def Bank.fault (b : Bank) : Option Nat :=
  match b.commit with
  | none => some 0
  | some r =>
    if !(r.magic == asciiBytes "QCAL" && r.format == 1) then some 4
    else if !(r.checks) then some 1
    else if !(r.res1 == 0 && r.res2 == 0) then some 0
    else if !(b.serial == Config.serial) then some 3
    else if !(b.digest == shake256 (bankImage b.format b.serial b.data) 32) then some 2
    else none

/-- Whether a bank is valid (05 R140). -/
def Bank.valid (b : Bank) : Bool := b.fault.isNone

/-- SEQ of a bank's record, 0 without one. -/
def Bank.seq (b : Bank) : Nat := b.commit.elim 0 (·.seq)

/-- COMMIT_TICKS of a bank's record. -/
def Bank.ticks (b : Bank) : Nat := b.commit.elim 0 (·.ticks)

/-- A commit record's 64 bytes; the end of a record that is only partly programmed reads erased. -/
def CommitRec.bytes (r : CommitRec) : List Byte := r.head ++ r.check.getD (List.replicate 32 0xFF#8)

end Sys2Proof.Machine
end

