-- ==== Sys2Proof/Machine/State.lean ====
section
/-!
DEFINITION. The state of the module as plain data: one structure per unit of the spec, each with its value at reset,
and `State` that holds them all with the queue of waiting commands. Log entries 1, 2 and 3 say which moment reset is,
which values the spec does not give, and which fields are the model's own.
-/

namespace Sys2Proof.Machine

/-- A byte memory: address and byte, addresses strictly rising, no entry equal to zero, which an unlisted address
reads as (log entry 5). -/
abbrev Memory := List Host.Cell

/-- A W1C flag: none while it is clear, and the slice-clock tick at which hardware last set it (00 R7). -/
abbrev W1c := Option Nat

/-- Bits `lo` to `hi - 1` set, of 196 domain bits (17 R421). -/
def bitSpan (lo hi : Nat) : BitVec 196 := BitVec.ofNat 196 (2 ^ hi - 2 ^ lo)

/-- A measurement register extended with 64 bytes (19 R464). -/
def extendReg (r d : List Byte) : List Byte := shake256 (r ++ d) 64

/-- The measurement registers as power-up leaves them (19 R462, R464): the vendor's image in slot A, SVN and fused value 0, the
bank in force, unowned. -/
def bootMeas : Vector (List Byte) 8 :=
  let z := List.replicate 64 0#8
  ⟨#[extendReg z Config.romDigest, extendReg z Config.fwDigest, extendReg z (shake256 Config.vendorKey 64), extendReg z z,
    extendReg z (bankDigest WorkSet.factory ++ List.replicate 32 0#8), extendReg z z, z, z], rfl⟩

/-- Why the block stops. The spec describes every failure as a status, a state or an event (00 R11, 02 R45), so no
command stops the block and there is no fault. -/
inductive Fault where
deriving DecidableEq, Repr

/-- Why the block has no meaning for a command. -/
inductive Refusal where
  /-- An arm of `exec` whose meaning is not written yet raises it; safe, the machine stops where the hardware goes on. -/
  | notModelled (mnemonic : String)
deriving DecidableEq, Repr

/-- A module time stamp (R174): ticks since the epoch, fraction in 2^-24 tick, quality bits. -/
structure Stamp where
  ticks : Nat
  frac  : Nat
  qual  : BitVec 8
deriving DecidableEq, Repr, Inhabited
/-- One settings entry (R55): key, scope, 64-bit value. -/
structure SetEntry where
  key   : Nat
  scope : Nat
  val   : BitVec 64
deriving DecidableEq, Repr, Inhabited
/-- One event-log entry (R63). `data` holds the 12 DATA bytes. -/
structure Event where
  seq   : Nat
  code  : Nat
  sev   : Nat
  scope : Nat
  ticks : Nat
  fracq : Nat
  data  : List Byte
deriving DecidableEq, Repr, Inhabited
/-- The states of a mailbox (R36). -/
inductive MbState where
  | free | posted | busy | done | offline
deriving DecidableEq, Repr, Inhabited
/-- A held RESYNC snapshot (R69): its number and its 8 KiB. -/
structure Snapshot where
  num   : Nat
  bytes : List Byte
deriving DecidableEq, Repr, Inhabited

/-- One mailbox (R34-R41); number 16 is the relay mailbox of R407. -/
structure Mailbox where
  /-- command header (0..31) and payload (32..1055); unlisted bytes read 0 (02 R34,R40). -/
  cmd : Memory
  /-- response header and payload bytes; bytes past the list read 0 (02 R34,R41). -/
  rsp : List Byte
  /-- STATE (02 R36). -/
  state : MbState
  /-- TAG of the command last posted (02 R35). -/
  tag : Nat
  /-- code of the command last posted (02 R70). -/
  code : Nat
  /-- OVERRUN (02 R37). -/
  overrun : W1c
  /-- VECTOR (reset m) (02 R35). -/
  vector : Nat
  /-- doorbell tick of the command last posted, slice-clock count (02 R38). -/
  doorbell : Nat
  /-- the same tick in module time (02 R70). -/
  doorTicks : Nat
  /-- slice-clock tick at which an ABORT of the command arrived, none without one (02 R52). -/
  abort : Option Nat
  /-- STATUS of the held response (02 R41). -/
  status : Nat
  /-- RFLAGS of the held response (02 R41). -/
  rflags : Nat
  /-- the snapshot RESYNC holds for this mailbox (02 R69). -/
  snap : Option Snapshot
deriving DecidableEq, Repr

/-- Mailbox at reset. -/
def Mailbox.reset : Mailbox where
  cmd := []
  rsp := []
  state := .free
  tag := 0
  code := 0
  overrun := none
  vector := 0
  doorbell := 0
  doorTicks := 0
  abort := none
  status := 0
  rflags := 0
  snap := none

/-- A final answer: status, payload, key named, DETAIL, and the event logged for the command, if any (R41). -/
structure Reply where
  status  : Nat
  payload : List Byte
  key     : Option Nat
  detail  : Nat
  evseq   : Nat
deriving DecidableEq, Repr, Inhabited
/-- One piece of accepted work (R49): the command that began it. `kind` is its command code. -/
structure Work where
  mb    : Nat
  code  : Nat
  tag   : Nat
  since : Nat
  arg   : Nat
  arg2  : Nat
deriving DecidableEq, Repr, Inhabited
/-- A command of completion S that is BUSY past its taking: its mailbox and what it waits for. -/
inductive Wait where
  | arm (chans : Nat)
  | playStop (out : Nat)
  | hqDestroy (q : Fin 64) (done cancelled : Nat) (deadline : Nat) (drain : Bool)
  | monLoad
  | relay (addr : Nat)
  | arrayArm (c : Nat) (chans : Nat)
  | force (stamp : Nat) (taken : Nat)
  | disarm (q : Nat) (chans : Nat)
deriving DecidableEq, Repr, Inhabited
structure Exec where
  mb     : Fin 17
  taken  : Nat
  wait   : Wait
deriving DecidableEq, Repr

/-- The command interface (02). -/
structure Marrad where
  /-- the mailboxes (02 R34, 16 R407). -/
  mbs : Vector Mailbox 17
  /-- the command under execution that has not completed (02 R48). -/
  exec : Option Exec
  /-- the answer, with its commit tick, of a command that would complete while the core is halted (19 R479). -/
  held : Option (Reply × Nat)
  /-- outstanding accepted work, oldest first (02 R49). -/
  work : List Work
  /-- the stage, ascending key then scope (02 R57). -/
  stage : List SetEntry
  /-- values APPLY or PUT_SETTINGS recorded that differ from the default (ascending) (02 R54,R58). -/
  recorded : List SetEntry
  /-- earlier recorded values with the boundary that ended them, newest first (08 R210, 09 R241). -/
  recHist : List (Nat × List SetEntry)
  /-- values of the next-ARM keys each channel took at its last ARM (00 R8). -/
  armed : Vector (List SetEntry) 4
  /-- applied generation (02 R58). -/
  gen : Nat
  /-- LAST_APPLY_TICKS (02 R70). -/
  lastApply : Nat
  /-- number of the last snapshot (02 R70). -/
  snapNo : Nat
deriving DecidableEq, Repr

/-- Marrad at reset. -/
def Marrad.reset : Marrad where
  mbs := Vector.ofFn (fun i => { Mailbox.reset with vector := i.val % 16 })
  exec := none
  held := none
  work := []
  stage := []
  recorded := []
  recHist := []
  armed := Vector.replicate 4 []
  gen := 0
  lastApply := 0
  snapNo := 0

/-- The event log (R63-R65). -/
structure EvLog where
  /-- NEXT_SEQ (02 R63). -/
  next : Nat
  /-- RAM ring, newest first (02 R64). -/
  ram : List Event
  /-- flash ring, newest first (02 R64). -/
  flash : List Event
  /-- events due for the flash ring and not yet copied, newest first (02 R64). -/
  uncopied : List Event
  /-- events that wait for firmware to resume, newest first (04 R107, 19 R479). -/
  deferred : List Event
  /-- ERROR events since power-up (02 R70, 14 R349). -/
  errors : Nat
  /-- CRITICAL events since power-up (02 R70, 14 R349). -/
  criticals : Nat
  /-- slice-clock tick of the last notification message (02 R64). -/
  lastMsg : Option Nat
  /-- a qualifying event waits for the end of the interval (02 R64). -/
  due : Bool
deriving DecidableEq, Repr

/-- EvLog at reset. -/
def EvLog.reset : EvLog where
  next := 1
  ram := []
  flash := []
  uncopied := []
  deferred := []
  errors := 0
  criticals := 0
  lastMsg := none
  due := false

/-- State of an input's protection switch (R82). -/
inductive Prot where
  | closed | openAuto | openHeld
deriving DecidableEq, Repr, Inhabited

/-- The front end of one input (03). -/
structure FrontEnd where
  /-- protection switch (03 R82). -/
  prot : Prot
  /-- slice-clock ticks of the openings within the last second, newest first (03 R82,R83). -/
  openings : List Nat
  /-- tick of the last change of the switch (03 R82). -/
  since : Nat
  /-- tick from which the path has settled after a change of range or offset (03 R79). -/
  quiet : Nat
  /-- tick from which the distribution network has settled after a change of mode (03 R74). -/
  net : Nat
  /-- start of the last overload interval (03 R81). -/
  ovFrom : Nat
  /-- end of the last overload interval (0 none) (03 R81). -/
  ovUntil : Nat
  /-- earlier intervals in which the detector was asserted, newest first, in ticks (03 R81). -/
  ovPast : List (Nat × Nat)
  /-- overload intervals since the last FE_OVERLOAD (03 R83). -/
  ovCount : Nat
  /-- start of the first of them, module time (03 R83). -/
  ovFirst : Nat
  /-- tick of the last FE_OVERLOAD (03 R83). -/
  ovLog : Option Nat
  /-- boundary of the last settling interval (03 R78). -/
  settleFrom : Nat
  /-- end of the settling interval (03 R78,R79). -/
  settleTo : Nat
  /-- earlier settling intervals, newest first, in ticks (03 R78). -/
  settlePast : List (Nat × Nat)
deriving DecidableEq, Repr

/-- FrontEnd at reset. -/
def FrontEnd.reset : FrontEnd where
  prot := .openAuto
  openings := []
  since := 0
  quiet := 0
  net := 0
  ovFrom := 0
  ovUntil := 0
  ovPast := []
  ovCount := 0
  ovFirst := 0
  ovLog := none
  settleFrom := 0
  settleTo := 0
  settlePast := []

/-- A trim ramp (R118): the element, its start boundary, step interval in ticks, steps done and step count, direction and final target. -/
structure Ramp where
  elem   : RampElem
  start  : Nat
  ivl    : Nat
  total  : Nat
  step   : Nat
  target : Int
deriving DecidableEq, Repr, Inhabited

/-- One slice of a tower (04, 05). -/
structure Slice where
  /-- failure cause, 0 not failed (04 R99). -/
  cause : Nat
  /-- offset trim code (05 R116). -/
  ofs : Int
  /-- gain trim code (05 R116). -/
  gain : Int
  /-- timing trim code (05 R116). -/
  tim : Int
  /-- true offset trim T (04 R93). -/
  tOfs : Int
  /-- true gain trim T (04 R93). -/
  tGain : Int
  /-- aperture value (05 R114,R126). -/
  aper : Int
  /-- tick of the last self-test (AGE) (04 R112). -/
  lastTest : Option Nat
  /-- OFS_RES (04 R112). -/
  ofsRes : Int
  /-- GAIN_RES (04 R112). -/
  gainRes : Int
  /-- TIM_RES (04 R112). -/
  timRes : Int
  /-- offset, gain, timing trim at limit (05 R125,R148). -/
  atLim : BitVec 3
  /-- passed CONVERGE since power-up (05 R126). -/
  conv : Bool
deriving DecidableEq, Repr

/-- Slice at reset. -/
def Slice.reset : Slice where
  cause := 0
  ofs := 0
  gain := 0
  tim := 0
  tOfs := 0
  tGain := 0
  aper := 0
  lastTest := none
  ofsRes := 0
  gainRes := 0
  timRes := 0
  atLim := 0#3
  conv := false

/-- An out-of-specification interval of a phase (R100, R105): its slice-clock start, and its end once the phase is served again. -/
structure Oos where
  phase : Fin 32
  start : Nat
  fin   : Option Nat
deriving DecidableEq, Repr, Inhabited
/-- The steps of a swap period (R93, R112). -/
inductive GStep where
  | select | selfTest | shadow | converge | match_ | ready | waiting
deriving DecidableEq, Repr, Inhabited
/-- A replacement under way (R103, R101, R105): the phase it serves, the slice it displaces, the tick from which the graft may take the phase, and whether it waits for READY. -/
structure Repl where
  phase : Fin 32
  slice : Option (Fin 33)
  due   : Nat
  ready : Bool
deriving DecidableEq, Repr, Inhabited
/-- What a swap changed, for a failure in its own DSP cycle that cancels it (R102): its boundary, phase and slices, the counts and the
displaced slice's codes, ramps and curve before it. -/
structure SwapUndo where
  at_      : Nat
  phase    : Fin 32
  out      : Fin 33
  inn      : Fin 33
  swaps    : Nat
  lastSwap : Nat
  ofs      : Int
  gain     : Int
  tim      : Int
  ramps    : List Ramp
  curve    : List Int
  pend     : Option (List Int)
deriving DecidableEq, Repr, Inhabited

/-- One tower (04). -/
structure Tower where
  /-- its slices (04 R87). -/
  slices : Vector Slice 33
  /-- slice on each phase, none when filled (04 R87,R88). -/
  phases : Vector (Option (Fin 33)) 32
  /-- graft slice (04 R88). -/
  graft : Option (Fin 33)
  /-- current target phase (04 R91). -/
  target : Fin 32
  /-- step of the graft (04 R93). -/
  gstep : GStep
  /-- paused by GRAFT_CONTROL (04 R111). -/
  paused : Bool
  /-- CONV_FLAGS[0] (04 R94). -/
  waived : Bool
  /-- CONV_FLAGS[1] (04 R97). -/
  deferred : Bool
  /-- SWAPS (04 R112). -/
  swaps : Nat
  /-- CONV_FAILS (04 R112). -/
  fails : Nat
  /-- LAST_SWAP_TICKS (04 R112). -/
  lastSwap : Nat
  /-- next grid tick (slice-clock count) (04 R92). -/
  grid : Option Nat
  /-- start of the current swap period (04 R97). -/
  period0 : Nat
  /-- grid ticks of this period that passed without a swap (04 R97). -/
  grids : Nat
  /-- graft that failed convergence in the previous period, and its phase (04 R97). -/
  lastFail : Option (Fin 33 × Fin 32)
  /-- graft with which each phase last failed convergence, and the number of the swap period (04 R97). -/
  phFail : Vector (Option (Fin 33 × Nat)) 32
  /-- what the last swap changed (the model's own) (04 R102). -/
  undo : Option SwapUndo
  /-- earlier slices of the phases with the boundary that ended them, newest first (the model's own) (04 R95, R103, R105). -/
  served : List (Nat × Fin 32 × Option (Fin 33))
  /-- curve that CAL_RUN LINEARITY measured in the graft's last self-test, until that period's MATCH (05 R134). -/
  lin : Option (List Int)
  /-- replacements under way (04 R101,R103). -/
  repl : List Repl
  /-- SWAP_NOW accepted, swap at the next boundary (04 R111). -/
  swapNow : Bool
  /-- out-of-specification intervals (04 R100, 12 R298). -/
  oos : List Oos
  /-- tower state is valid (self-tested or kept) (04 R88,R107). -/
  known : Bool
  /-- powered for the self-test of power-up (04 R88, 17 R422). -/
  testing : Bool
  /-- tick at which the present step began (04 R93). -/
  stepAt : Nat
deriving DecidableEq, Repr

/-- Tower at reset. -/
def Tower.reset : Tower where
  slices := Vector.replicate 33 Slice.reset
  phases := Vector.ofFn (fun p => some (p.castLE (by decide)))
  graft := some 32
  target := 0
  gstep := .waiting
  paused := false
  waived := false
  deferred := false
  swaps := 0
  fails := 0
  lastSwap := 0
  grid := none
  period0 := 0
  grids := 0
  lastFail := none
  phFail := Vector.replicate 32 none
  undo := none
  served := []
  lin := none
  repl := []
  swapNow := false
  oos := []
  known := true
  testing := false
  stepAt := 0

/-- Last run of one CAL_RUN kind (R137). -/
structure RunRec where
  ticks    : Nat
  status   : Nat
  cover    : Nat
  residual : Int
deriving DecidableEq, Repr, Inhabited

/-- Trims, curves and calibration (05). -/
structure Cal where
  /-- the working set in force (05 R114). -/
  ws : WorkSet
  /-- curves pending (05 R130). -/
  pendCurves : List (Nat × List Int)
  /-- equaliser sets pending (05 R130). -/
  pendEqs : List (Nat × List Int)
  /-- tower delays that wait for ARMING (05 R147). -/
  pendDelays : List (Nat × Int)
  /-- front-end delays that wait for ARMING (05 R147). -/
  pendFe : List (Nat × Int)
  /-- active bank, none with factory defaults (05 R140,R145). -/
  active : Option (Fin 2)
  /-- bank 0 (a module leaves the factory calibrated: design choice) (05 R138). -/
  bank0 : Bank
  /-- bank 1 (05 R138). -/
  bank1 : Bank
  /-- CAL_COMMIT under way: bank, copy, commit ticks (05 R141). -/
  storing : Option (Fin 2 × WorkSet × Nat)
  /-- CAL_REVERT with SOURCE 1 under way: the bank whose record is rewritten, and the tick at which that ends (05 R144). -/
  rewriting : Option (Fin 2 × Nat)
  /-- earlier working sets with the tick that ended them, newest first (the model's own) (05 R130). -/
  wsHist : List (Nat × WorkSet)
  /-- earlier values of the channel correction with the tick that ended them, newest first (the model's own) (05 R132). -/
  corrHist : List (Nat × RampElem × Int)
  /-- slices that the outstanding runs of kinds 3 and 4 have covered, by slice key, each with its figure of R137 (05 R136). -/
  covered : List (Nat × Int)
  /-- tick at which the loop's present window of a channel opened (05 R124). -/
  winFrom : Vector Nat 4
  /-- tower phases, by mode-major key, whose last update stopped at +-250 (05 R125). -/
  metLoop : List Nat
  /-- ramps under way (05 R118). -/
  ramps : List Ramp
  /-- SKEW_WINDOWS (05 R137). -/
  windows : Nat
  /-- SKEW_HELD (05 R137). -/
  held : Nat
  /-- last estimated timing errors per channel (05 R122,R137). -/
  deltas : Vector (List Int) 4
  /-- last runs (05 R137). -/
  runs : Vector RunRec 6
  /-- present value of o_r per input (05 R132). -/
  rangeO : Vector Int 4
  /-- present value of g_r per input (05 R132). -/
  rangeG : Vector Int 4
  /-- present value of o_u per input (05 R132). -/
  userO : Vector Int 4
  /-- present value of g_u per input (05 R132). -/
  userG : Vector Int 4
deriving DecidableEq, Repr

/-- Cal at reset. -/
def Cal.reset : Cal where
  ws := WorkSet.factory
  pendCurves := []
  pendEqs := []
  pendDelays := []
  pendFe := []
  active := some 0
  bank0 := storedBank 1 0 0 WorkSet.factory
  bank1 := ⟨none,0,[],WorkSet.factory,[]⟩
  storing := none
  rewriting := none
  wsHist := []
  corrHist := []
  covered := []
  winFrom := Vector.replicate 4 0
  metLoop := []
  ramps := []
  windows := 0
  held := 0
  deltas := Vector.replicate 4 []
  runs := Vector.replicate 6 ⟨0,0,0,0⟩
  rangeO := Vector.replicate 4 0
  rangeG := Vector.replicate 4 0
  userO := Vector.replicate 4 0
  userG := Vector.replicate 4 0

/-- A band-table entry (R163). -/
structure BandEntry where
  tLow : Int
  band : Nat
  icp  : Nat
  fine : Nat
deriving DecidableEq, Repr, Inhabited
/-- A relock under way (R166): its cause, the step it is in, the attempt number, the band entry it started from and the band it tries. -/
structure Relock where
  cause   : Nat
  step    : Nat
  attempt : Nat
  entry   : BandEntry
  band    : Nat
  began   : Nat
deriving DecidableEq, Repr, Inhabited

/-- Clock family and reference (06). -/
structure Clock where
  /-- reference state 0 absent 1 present 2 out of window (06 R152). -/
  refState : Nat
  /-- reference frequency code (06 R152). -/
  refFreq : Nat
  /-- start of continuous presence (06 R153). -/
  refSince : Nat
  /-- reference qualified (06 R153). -/
  refQual : Bool
  /-- discipline state (06 R157). -/
  disc : Nat
  /-- phase error (06 R155). -/
  e : Int
  /-- E_KIND (07 R197). -/
  eKind : Nat
  /-- tick at which the phase error was last taken (06 R155). -/
  eAt : Nat
  /-- steering value of the oven, in parts in 10^12 (06 R154,R156). -/
  steer : Int
  /-- tick at which HOLDOVER last became 1 (06 R157). -/
  holdFrom : Nat
  /-- qualified since power-up (06 R161). -/
  firstQual : Bool
  /-- LAST_STEP_TICKS (07 R197). -/
  lastStepT : Nat
  /-- LAST_STEP (07 R197). -/
  lastStep : Int
  /-- steering values with their ticks, newest first, as far back as the freeze needs (06 R156). -/
  steers : List (Nat × Int)
  /-- end of the last frequency gate (06 R152). -/
  gateAt : Nat
  /-- tick from which the PPS epoch of a pending step is awaited (06 R159,R169). -/
  since : Nat
  /-- loaded band table; empty: the built-in one (06 R163). -/
  bands : List BandEntry
  /-- 0 locked 1 relocking 2 fault (06 R167,07 R196). -/
  synth : Nat
  /-- relock under way (06 R166). -/
  relock : Option Relock
  /-- band locked (06 R166). -/
  band : Nat
  /-- attempts of the last relock (06 R170). -/
  tries : Nat
  /-- control voltage beyond 90 % (06 R165). -/
  edge90 : Bool
  /-- spread-spectrum mode in effect (06 R171). -/
  sscMode : Nat
  /-- depth in effect (06 R171). -/
  sscDepth : Nat
  /-- modulation not suspended by a relock (06 R166). -/
  sscOn : Bool
  /-- REF_OUT carries the oven divided (06 R172). -/
  refOutOven : Bool
  /-- RELOCK ACTION 1 work outstanding (06 R170). -/
  action1 : Bool
deriving DecidableEq, Repr

/-- Clock at reset. -/
def Clock.reset : Clock where
  refState := 0
  refFreq := 0
  refSince := 0
  refQual := false
  disc := 0
  e := 0
  eKind := 0
  eAt := 0
  steer := 0
  holdFrom := 0
  firstQual := false
  lastStepT := 0
  lastStep := 0
  steers := []
  gateAt := 0
  since := 0
  bands := []
  synth := 0
  relock := none
  band := 0
  tries := 0
  edge90 := false
  sscMode := 0
  sscDepth := 0
  sscOn := true
  refOutOven := false
  action1 := false

/-- A scheduled epoch (R183-R185). -/
structure EpochReq where
  seconds : Nat
  require : Bool
  since   : Nat
deriving DecidableEq, Repr, Inhabited
/-- TDC_MEASURE work (R189-R193). Instants are fine slice-clock counts (2^-24 tick). -/
structure Measure where
  mb      : Nat
  startSrc : Nat
  startEdge : Nat
  stopSrc : Nat
  stopEdge : Nat
  count   : Nat
  win     : Nat
  wait    : Nat
  buf     : Nat
  done    : Nat
  orFlags : Nat
  unpaired : Nat
  open_   : Option (Nat × Stamp × Bool)
  held    : List (Nat × Stamp × Bool)
  lastClose : Option Nat
deriving DecidableEq, Repr, Inhabited

/-- Module time and the TDC (07). -/
structure Time where
  /-- TICKS less the slice-clock count (07 R174,R178). -/
  off : Int
  /-- module time has been stepped since the last epoch mark; QUAL shows it outside FREE (07 R175,R178). -/
  stepped : Bool
  /-- earlier values of off with the boundary that ended them, newest first (07 R176). -/
  offHist : List (Nat × Int)
  /-- QUAL[4:0] in force (07 R175). -/
  qual : BitVec 5
  /-- earlier values with the boundary that ended them, newest first (07 R176). -/
  qualHist : List (Nat × BitVec 5)
  /-- PPS_IN qualified (07 R180). -/
  ppsQual : Bool
  /-- consecutive edges within tolerance (07 R180,R197). -/
  ppsCount : Nat
  /-- fine slice-clock instant of the last PPS_IN edge (07 R180). -/
  ppsLast : Option Nat
  /-- fine instant of the last PPS_IN stamp, the cable taken off, and whether it is valid; the stamp reads 0 while there is none (07 R176,R195). -/
  ppsRef : Option (Nat × Bool)
  /-- scheduled SET_TIME epoch (07 R183). -/
  epoch : Option EpochReq
  /-- SET_TIME that came after the epoch of the one before it and before its mark (07 R185). -/
  epochNext : Option EpochReq
  /-- fine instant of the PPS_IN edge that is the awaited PPS epoch (06 R159,07 R183). -/
  epochEdge : Option Nat
  /-- slice-clock boundary of the last epoch mark (EPOCH_TICKS is its value in the present scale) (07 R197). -/
  epochAt : Option Nat
  /-- MISSED per TDC channel (07 R186,R197). -/
  missed : Vector Nat 10
  /-- channel calibrated (07 R187). -/
  cal : Vector Bool 10
  /-- tick of the last completed calibration (07 R187). -/
  calAt : Vector Nat 10
  /-- fine instant at which the dead time ends (07 R186). -/
  dead : Vector Nat 10
  /-- end of the threshold blanking of TRIG_IN1, TRIG_IN2 (08 R215). -/
  blank : Vector Nat 2
  /-- TD_EXT1_COUNT, TD_EXT2_COUNT (08 R223). -/
  extCount : Vector Nat 2
  /-- TD_NIRED_LATE (08 R223). -/
  niredLate : Nat
  /-- tick of the last TD_NIRED_LATE event (08 R225). -/
  lateLog : Option Nat
  /-- tick at which the PPS_OUT pulse ends, while it is high (07 R181). -/
  ppsOut : Option Nat
  /-- outstanding TDC_MEASURE work (07 R189). -/
  meas : List Measure
deriving DecidableEq, Repr

/-- Time at reset. -/
def Time.reset : Time where
  off := 0
  stepped := false
  offHist := []
  qual := 0#5
  qualHist := []
  ppsQual := false
  ppsCount := 0
  ppsLast := none
  ppsRef := none
  epoch := none
  epochNext := none
  epochEdge := none
  epochAt := none
  missed := Vector.replicate 10 0
  cal := Vector.replicate 10 false
  calAt := Vector.replicate 10 0
  dead := Vector.replicate 10 0
  blank := Vector.replicate 2 0
  extCount := Vector.replicate 2 0
  niredLate := 0
  lateLog := none
  ppsOut := none
  meas := []

/-- An event on its way to the sequencers (R199, R220): the fine slice-clock instant of its stamp, its source code, stamp, destinations, the DSP cycle boundary of its presentation and marks, and, of a detector event, the fine instant of the sample that made it. -/
structure Ev where
  fine  : Nat
  src   : Nat
  stamp : Stamp
  dest  : BitVec 4
  pres  : Nat
  valid : Bool
  last  : Nat
deriving DecidableEq, Repr, Inhabited
/-- A candidate of R205: the fine stamp instant of the opening crossing. -/
structure Cand where
  fine : Int
deriving DecidableEq, Repr, Inhabited

/-- The channel detector (08). -/
structure Det where
  /-- RUNNING (08 R200,R224). -/
  running : Bool
  /-- values of the next-ARM keys it took at its start (08 R200). -/
  keys : List SetEntry
  /-- start boundary (08 R200). -/
  started : Nat
  /-- fine instant at which the last run ended, none while it runs (08 R200). -/
  ends : Option Nat
  /-- the next valid sample is a first sample (08 R204,R209). -/
  fresh : Bool
  /-- no sample has been taken since the start (08 R204,R205). -/
  atStart : Bool
  /-- fine slice-clock instant of the last sample examined (the model's own) (08 R200). -/
  seen : Nat
  /-- PRIMED_R: rising side of A primed (08 R203). -/
  aR : Bool
  /-- PRIMED_F: falling side of A primed (08 R203). -/
  aF : Bool
  /-- rising side of B primed (08 R203). -/
  bR : Bool
  /-- falling side of B primed (08 R203). -/
  bF : Bool
  /-- pattern state ABOVE_A (08 R208). -/
  above : Bool
  /-- open candidate of the rising column (08 R205). -/
  cand0 : Option Cand
  /-- open candidate of the falling column (08 R205). -/
  cand1 : Option Cand
  /-- DET events presented (08 R223). -/
  count : Nat
  /-- DET events dropped (08 R221,R223). -/
  coal : Nat
  /-- stamp of the last DET event (08 R223). -/
  last : Stamp
  /-- INTERP_LOST (08 R224). -/
  lost : W1c
  /-- TYPE: TD_TYPE as the last start took it, 0 until the first one (08 R224). -/
  ty : Nat
deriving DecidableEq, Repr

/-- Det at reset. -/
def Det.reset : Det where
  running := false
  keys := []
  started := 0
  ends := none
  fresh := true
  atStart := true
  seen := 0
  aR := false
  aF := false
  bR := false
  bF := false
  above := false
  cand0 := none
  cand1 := none
  count := 0
  coal := 0
  last := ⟨0,0,0#8⟩
  lost := none
  ty := 0

/-- A run of the decimation stage that a restart has ended, for values of it that come later (10 R255, R265, R267). -/
structure DecRun where
  run      : Nat
  keys     : List SetEntry
  resets   : List (Nat × Nat × Nat)
  cleared  : Nat
  fR       : Vector Bool 2
  fF       : Vector Bool 2
  grid     : Int
  delay    : Nat
  firstVal : Nat
  seen     : Option Nat
  last     : Option Nat
  sats     : List Nat
  prev     : Option (Int × Int)
deriving DecidableEq, Repr, Inhabited

/-- The decimation stage (10). -/
structure Dec where
  /-- number of the run, which a start of the stage advances (the model's own) (10 R267). -/
  run : Nat
  /-- the run before, as a restart left it (the model's own) (10 R265, R267). -/
  old : Option DecRun
  /-- boundary of the last reset that the thresholds have met (10 R262). -/
  cleared : Nat
  /-- RUNNING (10 R267,R269). -/
  running : Bool
  /-- values of the next-ARM keys it took at its start (10 R267). -/
  keys : List SetEntry
  /-- resets of this run, newest first: the index of the first settling value, their number, and the reset's boundary (10 R262,R264). -/
  resets : List (Nat × Nat × Nat)
  /-- boundary a DC_RESET scheduled (10 R263). -/
  resetAt : Option Nat
  /-- values delivered (10 R268). -/
  out : Nat
  /-- DC_SAT (10 R268). -/
  sat : Nat
  /-- SAT (10 R269). -/
  satFlag : W1c
  /-- threshold events presented (10 R268). -/
  flt : Vector Nat 2
  /-- FLTt_PRIMED_R (10 R269). -/
  fR : Vector Bool 2
  /-- FLTt_PRIMED_F (10 R269). -/
  fF : Vector Bool 2
  /-- fine slice-clock instant of value 0 (10 R255,R256). -/
  grid : Int
  /-- front-end delay that the values' instants leave out, in 2^-24 tick (10 R256, 08 R213). -/
  delay : Nat
  /-- index of the first value delivered (10 R264). -/
  firstVal : Nat
  /-- index of the value compared last (the model's own) (10 R265). -/
  seen : Option Nat
  /-- index of the last value of a run that has stopped (10 R270). -/
  last : Option Nat
  /-- indexes of the values of this run that DC_SAT has counted (the model's own) (10 R268). -/
  sats : List Nat
  /-- last compared value (minimum and maximum series) (10 R265). -/
  prev : Option (Int × Int)
deriving DecidableEq, Repr

/-- Dec at reset. -/
def Dec.reset : Dec where
  run := 0
  old := none
  cleared := 0
  running := false
  keys := []
  resets := []
  resetAt := none
  out := 0
  sat := 0
  satFlag := none
  flt := Vector.replicate 2 0
  fR := Vector.replicate 2 false
  fF := Vector.replicate 2 false
  grid := 0
  delay := 0
  firstVal := 0
  seen := none
  last := none
  sats := []
  prev := none

/-- A sequencer timer (R238): idle, running to a fine slice-clock instant, or expired. -/
inductive Tmr where
  | idle | running (x : Nat) | expired
deriving DecidableEq, Repr, Inhabited
/-- A transition entry (R234). -/
structure Trans where
  source : Nat
  kind   : Nat
  index  : Nat
  valid  : Bool
  next   : Nat
  acts   : BitVec 8
  selT   : Nat
  selC   : Nat
  mark   : Nat
deriving DecidableEq, Repr, Inhabited
/-- A sequencer table (R233): 64 entries, entry 4s + t. -/
structure SeqTable where
  init   : Nat
  resume : Nat
  lim0   : Nat
  lim1   : Nat
  tmr0   : Nat
  tmr1   : Nat
  trans  : List Trans
deriving DecidableEq, Repr, Inhabited
/-- A marker record (R247); `fine` is its slice-clock instant, the model's own. -/
structure Mark where
  fine   : Nat
  ticks  : Nat
  fracq  : Nat
  code   : Nat
  origin : Nat
deriving DecidableEq, Repr, Inhabited
/-- Holdoff (R242, R243): up to the fine instant `h`; or `n` triggers still to refuse with dither r; or the tail of the latter. -/
inductive Hold where
  | off
  | until_ (h : Nat)
  | events (n : Nat) (r : Nat)
deriving DecidableEq, Repr, Inhabited
/-- Why a channel went to DONE (R251). -/
inductive AcqState where
  | stopped | arming | armed | acquiring | holdoff | done
deriving DecidableEq, Repr, Inhabited
/-- The open record or segment of a channel: its index in the acquisition (none while accumulating) and the indexes of its first and last values, counted from the first interval after ARM (10 R255, 12 R295). -/
structure OpenSeg where
  idx    : Option Nat
  first  : Nat
  last   : Nat
deriving DecidableEq, Repr, Inhabited
/-- A record of accumulation whose values have not been added yet (11 R275): index of its point 0, points it adds, whether it was cut and why, its trigger, whether it has closed, how many points have been added, and whether one of them was clipped. -/
structure Rec where
  first  : Int
  points : Nat
  cut    : Nat
  stamp  : Stamp
  src    : Nat
  closed : Bool
  done   : Nat
  clip   : Bool
deriving DecidableEq, Repr, Inhabited
/-- Accumulation of one channel (11). `store` holds the word pair per point (sum, or minimum and maximum), `fold` the 64-bit sums, `drainAt` the tick at which the fold or pass under way begins, and then the end of the last busy interval, which began at the fine instant `busyAt` (11 R281); `spans` are the fine instants of the first and last points of each record of the run (04 R100). -/
structure Acc where
  runOpen  : Bool
  busyAt   : Nat
  spans    : List (Nat × Nat)
  records  : Nat
  results  : Nat
  discard  : Nat
  busyRef  : Nat
  clipped  : Nat
  folds    : Nat
  lost     : W1c
  cut      : W1c
  pass     : Bool
  folding  : Bool
  busyFrom : Option Nat
  drainAt  : Nat
  store    : List (Int × Int)
  fold     : List Int
  runNo    : Nat
  runClip  : Nat
  runDisc  : Nat
  firstT   : Stamp
  firstSrc : Nat
  lastT    : Stamp
  cutPt    : Option Nat
  cutCause : Nat
  ending   : Bool
  pages    : List Nat
  foldPgs  : List Nat
  recs     : List Rec
deriving DecidableEq, Repr, Inhabited
def Acc.reset : Acc := ⟨false,0,[],0,0,0,0,0,0,none,none,false,false,none,0,[],[],0,0,0,⟨0,0,0#8⟩,0,⟨0,0,0#8⟩,none,0,false,[],[],[]⟩

/-- What the module reports of a channel until the presentation cycle of a change (R228): state, sequencer state, counters, timers. -/
structure Shown where
  st       : AcqState
  seqState : Nat
  cnt0     : Nat
  cnt1     : Nat
  tmr0     : Tmr
  tmr1     : Tmr
deriving DecidableEq, Repr, Inhabited
/-- What the sequencer holds (R228): state, counters, timers. -/
structure SeqView where
  seqState : Nat
  cnt0     : Nat
  cnt1     : Nat
  tmr0     : Tmr
  tmr1     : Tmr
deriving DecidableEq, Repr, Inhabited
/-- Converter codes of consecutive samples of a channel (01 R12): nominal fine instant of the first, sample period in fine units. -/
structure Heard where
  at_   : Int
  step  : Nat
  codes : Codes
deriving DecidableEq, Repr, Inhabited
/-- A stop that a channel has been ordered to make (R231, R250): its boundary, the reason of R251, the cause of a cut run (11 R288). -/
structure StopReq where
  at_    : Nat
  reason : Nat
  cause  : Nat
deriving DecidableEq, Repr, Inhabited

/-- One channel: acquisition state, sequencer, holdoff, markers (09), detector (08), decimation (10), accumulation (11), counters of 12. -/
structure Chan where
  /-- acquisition state (09 R226). -/
  st : AcqState
  /-- state left by the arming under way (09 R227). -/
  left : AcqState
  /-- stopped on full memory (02 R70, 12 R312). -/
  fullStop : Bool
  /-- stopped for memory bandwidth (02 R70). -/
  bwStop : Bool
  /-- ARMED_AT, module time (09 R249). -/
  armedAt : Nat
  /-- slice-clock count of the last commit point of ARM (09 R229). -/
  armClk : Nat
  /-- sequencer table of the last ARM; none: the default table (09 R233,R236). -/
  table : Option SeqTable
  /-- table waiting for the next ARM (09 R235). -/
  pendTable : Option SeqTable
  /-- SEQ_STATE (09 R249). -/
  seqState : Nat
  /-- counter 0 (09 R238). -/
  cnt0 : Nat
  /-- counter 1 (09 R238). -/
  cnt1 : Nat
  /-- timer 0 (09 R238). -/
  tmr0 : Tmr
  /-- timer 1 (09 R238). -/
  tmr1 : Tmr
  /-- TRIGGERS (09 R249). -/
  trigs : Nat
  /-- segments closed in this acquisition (09 R249). -/
  segs : Nat
  /-- result segments of this acquisition (11 R275). -/
  results : Nat
  /-- REFUSED (09 R232). -/
  refused : Nat
  /-- AUTO (09 R245). -/
  auto : Nat
  /-- COALESCED (08 R221). -/
  coal : Nat
  /-- last taken trigger (09 R249). -/
  lastTrig : Stamp
  /-- marker log, newest first (09 R247). -/
  marks : List Mark
  /-- MARK_NEXT (09 R249). -/
  markNext : Nat
  /-- fine instants of the markers recorded, newest first, also of those that have left the log (01 R23, 10 R261). -/
  marked : List Nat
  /-- stop ordered and not yet presented (09 R231, R250). -/
  stopAt : Option StopReq
  /-- what is reported instead of the state, each until a slice-clock tick, oldest first (09 R228). -/
  shown : List (Nat × Shown)
  /-- what the sequencer held before each of its steps since ARM, newest first, each up to the fine instant of the step (09 R228). -/
  past : List (Nat × SeqView)
  /-- fine instant at which the channel last went to DONE (09 R227, R228). -/
  doneAt : Nat
  /-- converter codes that commands have brought, newest first (01 R12). -/
  heard : List Heard
  /-- trigger taken before the last one, for one that comes to store no value (the model's own) (12 R297). -/
  trigWas : Stamp
  /-- fine instant of the last return to ARMED, for triggers that are presented later (08 R220) (09 R242, R243). -/
  holdEnd : Nat
  /-- holdoff under way (09 R242,R243). -/
  hold : Hold
  /-- SQ_HOLDOFF_MODE in force at the last trigger point (09 R241). -/
  holdMode : Nat
  /-- fine expiry instant of the auto trigger (09 R245). -/
  autoX : Option Nat
  /-- dither generator (09 R244). -/
  lfsr : BitVec 23
  /-- current acquisition number, 0 none (12 R299). -/
  acq : Nat
  /-- open segment or record (12 R295). -/
  open_ : Option OpenSeg
  /-- index of the last value of the previous segment (09 R232). -/
  lastEnd : Option Nat
  /-- slice-clock tick of the next periodic timer event, or target of the absolute one (module time) (08 R217). -/
  timerAt : Option Nat
  /-- absolute mode of the armed timer (08 R217). -/
  timerAbs : Bool
  /-- detector (08). -/
  det : Det
  /-- decimation stage (10). -/
  dec : Dec
  /-- accumulation (11). -/
  acc : Acc
  /-- quota (12 R306). -/
  quota : Nat
  /-- OVER_QUOTA (12 R304). -/
  overQuota : Bool
  /-- TR_REFUSED_ALLOC (12 R311). -/
  refAlloc : Nat
  /-- TR_RECLAIMED (12 R311). -/
  reclaimed : Nat
  /-- TR_RATE_REFUSED (12 R311). -/
  rateRef : Nat
  /-- RATE (12 R312). -/
  fRate : W1c
  /-- TRUNC (12 R312). -/
  fTrunc : W1c
  /-- RECLAIM (12 R312). -/
  fReclaim : W1c
  /-- tick of the last TR_RATE_LIMIT event (12 R315). -/
  rateLog : Option Nat
  /-- this arming was begun by the array manager (16 R399). -/
  follow : Bool
deriving DecidableEq, Repr

/-- Chan at reset. -/
def Chan.reset : Chan where
  st := .stopped
  left := .stopped
  fullStop := false
  bwStop := false
  armedAt := 0
  armClk := 0
  table := none
  pendTable := none
  seqState := 0
  cnt0 := 0
  cnt1 := 0
  tmr0 := .idle
  tmr1 := .idle
  trigs := 0
  segs := 0
  results := 0
  refused := 0
  auto := 0
  coal := 0
  lastTrig := ⟨0,0,0#8⟩
  marks := []
  markNext := 0
  marked := []
  stopAt := none
  shown := []
  past := []
  doneAt := 0
  heard := []
  trigWas := ⟨0,0,0#8⟩
  holdEnd := 0
  hold := .off
  holdMode := 0
  autoX := none
  lfsr := 0x7FFFFF#23
  acq := 0
  open_ := none
  lastEnd := none
  timerAt := none
  timerAbs := false
  det := Det.reset
  dec := Dec.reset
  acc := Acc.reset
  quota := 4294967295
  overQuota := false
  refAlloc := 0
  reclaimed := 0
  rateRef := 0
  fRate := none
  fTrunc := none
  fReclaim := none
  rateLog := none
  follow := false

/-- Use of a page (R289, R290). -/
inductive Use where
  | data (c : Fin 4) | desc (c : Fin 4) | acc (c : Fin 4) | playback (o : Fin 2)
deriving DecidableEq, Repr, Inhabited
/-- A page that is not free (R290): number, use, poison flag; its owner's list of pages gives the rest of its entry. -/
structure Page where
  num    : Nat
  use    : Use
  poison : Bool
deriving DecidableEq, Repr, Inhabited
/-- A held segment (R291, R298): `run` is the run of the decimation stage that made its values (the model's own). The name, whether it belongs to a continuous recording (R296), whether it is open, its pages in chain order, its place and the fields of its descriptor. `awaiting` says that it has closed and its values have not been handed to the model yet; `firstVal` and `trgs` are the indexes of its first value and of the values that carry TRG, `spans` the fine instants of its first and last values, of each record in a result segment. -/
structure Seg where
  run    : Nat
  ch     : Fin 4
  acq    : Nat
  idx    : Nat
  cont   : Bool
  closed : Bool
  awaiting : Bool
  queued : Bool
  written : Bool
  pinned : Bool
  busy   : Nat
  deferred : Bool
  pages  : List Nat
  reserved : List Nat
  firstWord : Nat
  words  : Nat
  length : Nat
  fmt    : Nat
  firstVal : Nat
  trgs   : List Nat
  spans  : List (Nat × Nat)
  result : Bool
  poisoned : Bool
  stopped : Bool
  trunc  : Bool
  preCut : Bool
  auto   : Bool
  tq     : Bool
  oos    : Bool
  mrk    : Bool
  set    : Bool
  ovr    : Bool
  trgIn  : Bool
  trgOff : Nat
  source : Nat
  stamp  : Stamp
deriving DecidableEq, Repr, Inhabited
/-- An acquisition of a channel (R291, R299): segments opened, descriptor pages, words used in the last data page and that page. -/
structure Acq where
  ch     : Fin 4
  num    : Nat
  opened : Nat
  descPg : List (Nat × Nat)
  lastPg : Option Nat
  used   : Nat
deriving DecidableEq, Repr, Inhabited
/-- An allocation held for want of slots (R318): for the data chain, or for descriptor page `desc` of the chain. -/
structure HeldAlloc where
  ch    : Fin 4
  since : Nat
  desc  : Option Nat
deriving DecidableEq, Repr, Inhabited

/-- The trellis (12) and the contents of acquisition memory (13). -/
structure Trellis where
  /-- pages in use, ascending number; an unlisted page is free (12 R289,R290). -/
  pages : List Page
  /-- held segments, oldest first (12 R291). -/
  segs : List Seg
  /-- acquisitions that are current or hold a segment (12 R299,R310). -/
  acqs : List Acq
  /-- highest acquisition number opened since state was lost (12 R310). -/
  maxAcq : Vector Nat 4
  /-- acquisition numbers have wrapped (12 R299,R310). -/
  wrapped : Vector Bool 4
  /-- descriptor queue: channel, acquisition, index (12 R297). -/
  descQ : List (Fin 4 × Nat × Nat)
  /-- tick from which the descriptor engine may write the next one (12 R297). -/
  descNext : Nat
  /-- slot of the page handed out last (13 R318). -/
  lastSlot : Nat
  /-- tick at which each slot last gave a page (13 R318). -/
  slotAt : List (Nat × Nat)
  /-- held allocations (13 R318). -/
  held : List HeldAlloc
  /-- pages in the module (12 R289). -/
  total : Nat
  /-- pages reclaimed (02 R70). -/
  reclaimedPages : Nat
  /-- allocations refused (02 R70). -/
  refused : Nat
  /-- data bytes: page*32768 + offset; unlisted bytes read 0 (13 R318). -/
  mem : Memory
  /-- poisoned word addresses (page*4096 + word) (13 R325). -/
  poison : List Nat
deriving DecidableEq, Repr

/-- Trellis at reset. -/
def Trellis.reset : Trellis where
  pages := []
  segs := []
  acqs := []
  maxAcq := Vector.replicate 4 0
  wrapped := Vector.replicate 4 false
  descQ := []
  descNext := 0
  lastSlot := 29
  slotAt := []
  held := []
  total := 860160
  reclaimedPages := 0
  refused := 0
  mem := []
  poison := []

/-- States of a pseudo-channel (R70). -/
inductive PcState where
  | active | spare | retired | migFrom | migTo
deriving DecidableEq, Repr, Inhabited

/-- One pseudo-channel (13). -/
structure Pc where
  /-- state (13 R341). -/
  st : PcState
  /-- last retirement cause (13 R341). -/
  cause : Nat
  /-- CORRECTED (13 R341). -/
  corrected : Nat
  /-- UNCORRECTABLE (13 R341). -/
  uncorr : Nat
  /-- ADDR_ERRORS (13 R341). -/
  addrErr : Nat
  /-- CHECK_CORRECTED (13 R341). -/
  checkCorr : Nat
  /-- corrected words in the window under way (13 R332). -/
  ceWin : Nat
  /-- CE_LAST_S (13 R341). -/
  ceLast : Nat
  /-- tick of the last training (13 R341). -/
  trained : Nat
  /-- TEMP (13 R341). -/
  temp : Int
  /-- TEMP_TRAINED (13 R341). -/
  tempTr : Int
  /-- setting in force: read and write delays per lane, receiver reference, command timing (13 R331). -/
  set : PcSetting
  /-- corrections of the deskew loop per lane, in 1/64 unit interval (13 R331). -/
  deskew : List Int
  /-- TRAININGS (13 R341). -/
  trainings : Nat
  /-- TRAIN_FAILS (13 R341). -/
  trainFails : Nat
  /-- retraining windows done, while retraining (13 R332). -/
  retrain : Option Nat
  /-- the last retraining was triggered by corrected words and its next window is awaited (13 R333). -/
  ceTrig : Bool
  /-- tick of the last MEM_UNCORRECTABLE event (13 R345). -/
  uncLog : Option Nat
deriving DecidableEq, Repr

/-- Pc at reset. -/
def Pc.reset : Pc where
  st := .active
  cause := 0
  corrected := 0
  uncorr := 0
  addrErr := 0
  checkCorr := 0
  ceWin := 0
  ceLast := 0
  trained := 0
  temp := 0
  tempTr := 0
  set := ⟨[], [], 0, 0⟩
  deskew := []
  trainings := 1
  trainFails := 0
  retrain := none
  ceTrig := false
  uncLog := none

/-- A migration under way (R335): `at_` is the boundary at which retirement begins (R334); `was` and `stWas` are the cause and the state
that the pseudo-channel reports before it. -/
structure Migration where
  from_  : Fin 32
  dst    : Fin 32
  ptr    : Nat
  cause  : Nat
  poisoned : Nat
  at_    : Nat
  was    : Nat
  stWas  : PcState
deriving DecidableEq, Repr, Inhabited
/-- Self-refresh (R338): not requested, entry under way (who asked), or in self-refresh. -/
inductive SelfRef where
  | off | entry (byPower : Bool) | on
deriving DecidableEq, Repr, Inhabited

/-- The main memory controller (13). -/
structure MemCtl where
  /-- the pseudo-channels (13 R316,R317). -/
  pcs : Vector Pc 32
  /-- slot map; none: slot removed (13 R317,R318). -/
  slots : List (Option (Fin 32))
  /-- spares at power-up (13 R335). -/
  origSpare : List (Fin 32)
  /-- migration under way (13 R335). -/
  mig : Option Migration
  /-- retirements waiting, with causes (13 R334,R344). -/
  waitRet : List (Fin 32 × Nat)
  /-- capacity reduction under way: pseudo-channel, slot, cause (13 R337). -/
  reduce : Option (Fin 32 × Nat × Nat)
  /-- boundary at which the retirement of a capacity reduction begins, and the cause reported before it (13 R334). -/
  reduceAt : Nat × Nat
  /-- retirement record (13 R317). -/
  record : List (Fin 32)
  /-- POISONED (13 R341). -/
  poisoned : Nat
  /-- patrol position: pseudo-channel (13 R329). -/
  scrubPc : Nat
  /-- patrol position: row (13 R329). -/
  scrubRow : Nat
  /-- PASSES (13 R343). -/
  passes : Nat
  /-- PASS_ROWS (13 R343). -/
  passRows : Nat
  /-- tick at which the pass began (13 R343). -/
  passFrom : Nat
  /-- LAST_PASS_MS (13 R343). -/
  lastPass : Nat
  /-- pages queued to be scrubbed, with rows done (13 R343). -/
  queue : List (Nat × Nat)
  /-- SCRUB_CORRECTED (13 R343). -/
  scrubCorr : Nat
  /-- SCRUB_UNCORRECTABLE (13 R343). -/
  scrubUnc : Nat
  /-- rows queued for write-back (13 R323,R329). -/
  wbq : List (Fin 32 × Nat)
  /-- pseudo-channels that wait to retrain, in order of their trigger (13 R332). -/
  retrainQ : List (Fin 32)
  /-- self-refresh (13 R338). -/
  sr : SelfRef
  /-- pseudo-channel being restored (13 R342). -/
  restore : Option (Fin 32)
  /-- pseudo-channel of RETIRE_PC MODE 0 work (13 R342). -/
  retireWork : Option (Fin 32)
deriving DecidableEq, Repr

/-- MemCtl at reset. -/
def MemCtl.reset : MemCtl where
  pcs := Vector.ofFn (fun p => if p.val = 15 ∨ p.val = 31 then { Pc.reset with st := .spare } else Pc.reset)
  slots := (List.finRange 32).filterMap (fun p => if p.val = 15 ∨ p.val = 31 then none else some (some p))
  origSpare := [15, 31]
  mig := none
  waitRet := []
  reduce := none
  reduceAt := (0, 0)
  record := []
  poisoned := 0
  scrubPc := 0
  scrubRow := 0
  passes := 0
  passRows := 0
  passFrom := 0
  lastPass := 0
  queue := []
  scrubCorr := 0
  scrubUnc := 0
  wbq := []
  retrainQ := []
  sr := .off
  restore := none
  retireWork := none

/-- An entry of the MSI-X table (R353). -/
structure MsixEntry where
  addr   : Nat
  data   : Nat
  masked : Bool
deriving DecidableEq, Repr, Inhabited
/-- A message the module sent: tick and vector. -/
structure MsixMsg where
  at_ : Nat
  vec : Nat
deriving DecidableEq, Repr, Inhabited

/-- The host link (14). -/
structure HostLink where
  /-- the link is up (14 R370). -/
  up : Bool
  /-- link rate (14 R349). -/
  rate : Nat
  /-- lanes (14 R349). -/
  lanes : Nat
  /-- HL_LINK_DOWNS (14 R349). -/
  downs : Nat
  /-- LINK_RESET (14 R350). -/
  linkReset : W1c
  /-- a link-down event preceded (14 R370). -/
  wasDown : Bool
  /-- MSI-X table (14 R353,R368). -/
  msix : Vector MsixEntry 64
  /-- MSI-X enabled in configuration space (14 R353). -/
  msixOn : Bool
  /-- pending bits (14 R353). -/
  pba : BitVec 64
  /-- MSI-X messages sent, newest first (the model's record of the output) (14 R353). -/
  sent : List MsixMsg
  /-- shadow of each register group, keyed by the offset of its RS register: the whole captured value (14 R351). -/
  shadows : List (Nat × Nat)
  /-- relaxed ordering enabled in Device Control: harvest data writes then use it (14 R346). -/
  relaxed : Bool
  /-- Max payload size in force, in bytes (14 R346). -/
  payload : Nat
  /-- ASPM control: bit 1 enables L1 (14 R346). -/
  aspm : Nat
  /-- L1 PM substates enabled: bits 0, 1 for L1.1, L1.2 (14 R346). -/
  l1ss : Nat
  /-- Advanced Error Reporting: uncorrectable error status (14 R346). -/
  aer : Nat
  /-- bytes the module has written to host memory (14 R363). -/
  hostMem : Memory
deriving DecidableEq, Repr

/-- HostLink at reset. -/
def HostLink.reset : HostLink where
  up := true
  rate := 5
  lanes := 16
  downs := 0
  linkReset := none
  wasDown := false
  msix := Vector.replicate 64 ⟨0,0,true⟩
  msixOn := true
  pba := 0#64
  sent := []
  shadows := []
  relaxed := true
  payload := 128
  aspm := 0
  l1ss := 0
  aer := 0
  hostMem := []

/-- A harvest descriptor (R359). -/
structure HDesc where
  op     : Nat
  flags  : Nat
  tag    : Nat
  item   : Nat
  count  : Nat
  wordOff : Nat
  words  : Nat
  dest   : Nat
  destLen : Nat
  resv   : Bool
deriving DecidableEq, Repr, Inhabited
/-- A descriptor taken and executing (R357): ring index, the segments it holds busy, its status so far and what its delivery writes; the
tick of its take, the bytes its turns have moved (R366), the pages of a PAGES descriptor where they lie now (R361), and the words already
written when one of them lost its data (R373), each with whether it is delivered as poisoned. -/
structure Executing where
  index  : Nat
  desc   : HDesc
  segs   : List (Fin 4 × Nat × Nat)
  status : Option Nat
  skipped : Nat
  mode1  : Bool
  at_    : Nat
  moved  : Nat
  pages  : List Nat
  got    : List (List Byte × Bool)
deriving DecidableEq, Repr, Inhabited

/-- One harvest queue (14 R354-R358); `live` says that it exists. -/
structure HQueue where
  /-- the queue exists (14 R354). -/
  live : Bool
  /-- WEIGHT (14 R354). -/
  weight : Nat
  /-- VECTOR (14 R354). -/
  vector : Nat
  /-- ENTRIES (14 R354). -/
  entries : Nat
  /-- DESC_RING (14 R354). -/
  ring : Nat
  /-- COMPL_RING (14 R354). -/
  cring : Nat
  /-- HQ_HEAD (14 R355). -/
  head : Nat
  /-- HQ_TAIL (14 R355). -/
  tail : Nat
  /-- HQ_CHEAD (14 R355). -/
  chead : Nat
  /-- HQ_CTAIL (14 R355). -/
  ctail : Nat
  /-- PHASE of the pass under way (14 R354). -/
  phase : Bool
  /-- descriptors completed (14 R355). -/
  done : Nat
  /-- bytes delivered (14 R355). -/
  bytes : Nat
  /-- ERR_CODE (14 R356). -/
  err : Nat
  /-- DB_ERR (14 R356). -/
  dbErr : W1c
  /-- executing descriptors, oldest first (14 R357). -/
  exec : List Executing
  /-- HARVEST_QUEUE_DESTROY under way: takes nothing (14 R367). -/
  dying : Bool
deriving DecidableEq, Repr

/-- HQueue at reset. -/
def HQueue.reset : HQueue where
  live := false
  weight := 0
  vector := 0
  entries := 0
  ring := 0
  cring := 0
  head := 0
  tail := 0
  chead := 0
  ctail := 0
  phase := true
  done := 0
  bytes := 0
  err := 0
  dbErr := none
  exec := []
  dying := false

/-- The harvest engine (14). -/
structure Harvest where
  /-- the queues (14 R354). -/
  qs : Vector HQueue 64
  /-- HV_BYTES (14 R355). -/
  bytes : Nat
  /-- stopped by a power-state entry (17 R426). -/
  stopped : Bool
  /-- QID of the queue that has its turn (14 R366). -/
  turn : Nat
  /-- bytes left of that turn (14 R366). -/
  left : Nat
deriving DecidableEq, Repr

/-- Harvest at reset. -/
def Harvest.reset : Harvest where
  qs := Vector.replicate 64 HQueue.reset
  bytes := 0
  stopped := false
  turn := 0
  left := 0

/-- One playback output (15). -/
structure Output where
  /-- STATE 0 empty 1 loaded 2 waiting 3 playing (15 R385). -/
  st : Nat
  /-- STREAMED (15 R385). -/
  streamed : Bool
  /-- S of the loaded waveform (15 R377). -/
  samples : Nat
  /-- pages of the loaded region (15 R377). -/
  region : List Nat
  /-- PLAY_LOAD work: new pages and S (15 R377). -/
  loading : Option (List Nat × Nat)
  /-- start tick (slice-clock count) (15 R379). -/
  start : Nat
  /-- LOOPS (15 R379). -/
  loops : Nat
  /-- stop boundary ordered and its reason (15 R383). -/
  stopAt : Option (Nat × Nat)
  /-- PB_PLAYS (15 R384). -/
  plays : Nat
  /-- PB_UNDERRUN (15 R384). -/
  underruns : Nat
  /-- UNDERRUN (15 R385). -/
  underrun : W1c
  /-- tick of the last PB_UNDERRUN event (15 R387). -/
  underLog : Option Nat
  /-- schedule indexes of the words underrun, newest first (15 R382). -/
  under : List Nat
deriving DecidableEq, Repr

/-- Output at reset. -/
def Output.reset : Output where
  st := 0
  streamed := false
  samples := 0
  region := []
  loading := none
  start := 0
  loops := 0
  stopAt := none
  plays := 0
  underruns := 0
  underrun := none
  underLog := none
  under := []

/-- A Nired message the module sent: type, address and payload words (R390). -/
structure NMsg where
  at_   : Nat
  mtype : Nat
  addr  : Nat
  args  : List Nat
deriving DecidableEq, Repr, Inhabited
/-- A message at a port (R390, R391): the half tick at which its start block leaves, or is to leave, and SEQ. -/
structure NWire where
  port  : Nat
  start : Nat
  seq   : Nat
  msg   : NMsg
deriving DecidableEq, Repr, Inhabited
/-- A step or epoch mark due at boundary B (R398): the module-time boundary, the change, and the kind: 0 a step, 1 an epoch
mark on a PPS edge, 2 one on a whole-second tick; in the manager whose step or mark it is, the phase error in fs that it leaves. -/
structure DueEpoch where
  b     : Nat
  delta : Int
  kind  : Nat
  rest  : Option Int
deriving DecidableEq, Repr, Inhabited
/-- A link calibration under way (R408, R414): when it began, the links by the address of the module below each and the asymmetry in fs
held for it, and whether ARRAY_CALIBRATE_LINKS ordered it. -/
structure LinkRun where
  began : Nat
  links : List (Nat × Int)
  host  : Bool
deriving DecidableEq, Repr, Inhabited
/-- A message, or the module's own report, that waits until firmware resumes (R415). -/
inductive HeldMsg where
  | join (parent port : Nat) (serial digest : List Byte) (role : Nat)
  | relay (at_ : Nat) (bytes : List Byte)
  | status (addr : Nat) (health : ModuleReport) (exports : Nat) (aligned : Bool) (delay : Nat)
  | report
  | ownJoin (role : Nat)
deriving DecidableEq, Repr, Inhabited

/-- The array (16). -/
structure ArrayLink where
  /-- 0 standalone 1 MANAGER 2 DEPUTY 3 WORKER (16 R393). -/
  role : Nat
  /-- ASTATE (16 R405). -/
  astate : Nat
  /-- own address (16 R405). -/
  addr : Nat
  /-- MANAGER_ADDR (16 R405). -/
  mgr : Nat
  /-- DEPUTY_ADDR (16 R405). -/
  deputy : Nat
  /-- LEVEL (16 R392). -/
  level : Nat
  /-- HOPS (16 R392). -/
  hops : Nat
  /-- N_UP, N_DN0, N_DN1 up (16 R389). -/
  ports : Vector Bool 3
  /-- the port carries, or carried since the join, a member or the upstream (16 R409, 17 R422). -/
  carries : Vector Bool 3
  /-- role of the module on the other end: 0 not a member, else as ROLE (16 R394,R403). -/
  peers : Vector Nat 3
  /-- the peer's last departure and its arrival stamp, for the echo (16 R390). -/
  echo : Vector (Nat × Nat) 3
  /-- ports up at the module's join (16 R416). -/
  joinPorts : Vector Bool 3
  /-- the module on the other end names the link of the port in its AR_STANDBY (16 R410). -/
  sbPeer : Vector Bool 3
  /-- upstream through the standby port (16 R405). -/
  viaSb : Bool
  /-- tick of a PAUSE whose 100 ms run (16 R413). -/
  paused : Vector (Option Nat) 3
  /-- member table, ascending address (16 R406). -/
  members : List Member
  /-- asymmetry table (address, fs) (16 R408). -/
  asym : List (Nat × Int)
  /-- a deputy's copy of the manager's member table (16 R393). -/
  copy : List Member
  /-- a deputy's copy of the manager's asymmetry table (16 R393). -/
  copyAsym : List (Nat × Int)
  /-- tick of the last JOIN while join work is outstanding (16 R403). -/
  joinAt : Option Nat
  /-- the deputy from whose tree a manager's own was split (16 R412). -/
  split : Option Nat
  /-- left: does not join automatically (16 R404). -/
  noAuto : Bool
  /-- ARRAY_ALIGNED (16 R397). -/
  aligned : Bool
  /-- tick since which |theta| stayed within 10 ps (16 R397). -/
  alignFrom : Option Nat
  /-- the path-aligned bit arrives set (16 R397). -/
  pathAl : Bool
  /-- the constants that a calibration measured for the link of a port; none: design values, not calibrated (16 R395, R397, R408). -/
  links : Vector (Option LinkConst) 3
  /-- one-way delay of the link of a port at its last exchange (16 R395, R410). -/
  linkDelay : Vector Int 3
  /-- link calibration under way (16 R408, R414). -/
  calNow : Option LinkRun
  /-- addresses of links to be calibrated after the calibration under way (16 R414, R417). -/
  calNext : List Nat
  /-- QUAL[3:0] carried in TIME (16 R396). -/
  upQual : BitVec 4
  /-- exchanges since N_UP came up (16 R396). -/
  exchanges : Nat
  /-- UP_OFFSET (16 R405). -/
  theta : Int
  /-- UP_DELAY (16 R405). -/
  delay : Int
  /-- tick of the last TIME received per port (16 R389). -/
  lastTime : Vector Nat 3
  /-- CRC_ERRORS (16 R405). -/
  crc : Nat
  /-- ALIGN_RMS (16 R405). -/
  rms : Nat
  /-- TAKEOVERS (16 R405). -/
  takeovers : Nat
  /-- TRIG_SENT (16 R405). -/
  sent : Nat
  /-- TRIG_RECV (16 R405). -/
  recv : Nat
  /-- TRIG_MERGED (16 R405). -/
  merged : Nat
  /-- P of the last broadcast TRIG (16 R401). -/
  lastP : Option Nat
  /-- W (16 R402). -/
  w : Nat
  /-- LAST_CAL_TICKS (16 R405). -/
  lastCal : Nat
  /-- array arming number (16 R390). -/
  armNo : Nat
  /-- commit tick C of the array arming under way (module time) (16 R399). -/
  armC : Option Nat
  /-- READY has been sent for the array arming under way (16 R399). -/
  armTold : Bool
  /-- members late (16 R399). -/
  armLate : Nat
  /-- members that did not follow (16 R399). -/
  armNot : Nat
  /-- members whose READY is awaited (16 R399). -/
  armWait : List Nat
  /-- steps and marks received and due (16 R398). -/
  epochs : List DueEpoch
  /-- the fragments received of the relayed response that is awaited (16 R407). -/
  relayGot : List Byte
  /-- tick at which a deputy lost its upstream, and whether the manager still runs (16 R412) (16 R411). -/
  takeWait : Option (Nat × Bool)
  /-- messages and reports that wait until firmware resumes, oldest first (16 R415). -/
  held : List HeldMsg
  /-- SEQ of the next message (16 R390). -/
  seq : Nat
  /-- messages at each port with the instant at which each leaves (those waiting, and the model's record of the output) (16 R391). -/
  wire : List NWire
  /-- messages sent, newest first (the model's record of the output) (16 R390). -/
  tx : List NMsg
deriving DecidableEq, Repr

/-- ArrayLink at reset. -/
def ArrayLink.reset : ArrayLink where
  role := 0
  astate := 0
  addr := 65535
  mgr := 65535
  deputy := 65535
  level := 0
  hops := 0
  ports := Vector.replicate 3 false
  carries := Vector.replicate 3 false
  peers := Vector.replicate 3 0
  echo := Vector.replicate 3 (0, 0)
  joinPorts := Vector.replicate 3 false
  sbPeer := Vector.replicate 3 false
  viaSb := false
  paused := Vector.replicate 3 none
  members := []
  asym := []
  copy := []
  copyAsym := []
  joinAt := none
  split := none
  noAuto := false
  aligned := false
  alignFrom := none
  pathAl := false
  links := Vector.replicate 3 none
  linkDelay := Vector.replicate 3 0
  calNow := none
  calNext := []
  upQual := 0#4
  exchanges := 0
  theta := 0
  delay := 0
  lastTime := Vector.replicate 3 0
  crc := 0
  rms := 0
  takeovers := 0
  sent := 0
  recv := 0
  merged := 0
  lastP := none
  w := 404
  lastCal := 0
  armNo := 0
  armC := none
  armTold := false
  armLate := 0
  armNot := 0
  armWait := []
  epochs := []
  relayGot := []
  takeWait := none
  held := []
  seq := 0
  wire := []
  tx := []

/-- Entry to a power state under way (R425, R426): `step` is the step it is in, `wake` the earliest wake event latched and its
tick (R429). -/
structure Entry where
  mb     : Nat
  tag    : Nat
  target : Nat
  retain : Nat
  after  : Nat
  step   : Nat
  began  : Nat
  wake   : Option (Nat × Nat)
deriving DecidableEq, Repr, Inhabited
/-- A wake-failure record (R433). -/
structure WakeFail where
  rail  : Nat
  tries : Nat
deriving DecidableEq, Repr, Inhabited

/-- Power states, domains and the belfry (17, 20). -/
structure Power where
  /-- 0 RUN 1 IDLE 2 SLEEP 3 DEEP 4 OFF (17 R419). -/
  st : Nat
  /-- state before the last change (OFF at power-up) (17 R439). -/
  prev : Nat
  /-- last-wake byte (17 R434). -/
  wakeSrc : Nat
  /-- last refusing block (17 R427). -/
  refusedBy : Nat
  /-- wake under way: source byte, the state left, the tick of the wake event (17 R432). -/
  waking : Option (Nat × Nat × Nat)
  /-- domains on (17 R421,R422). -/
  onMap : BitVec 196
  /-- domains held by the host (17 R422). -/
  hostHeld : BitVec 196
  /-- domains failed (17 R439). -/
  failed : BitVec 196
  /-- tick of the last completed command or firmware work (17 R420). -/
  idleAt : Nat
  /-- the Hucia core clock runs (it starts on demand in SLEEP) (17 R420,R421). -/
  core : Bool
  /-- entry work (17 R425). -/
  entry : Option Entry
  /-- RETAIN of the last DEEP entry (17 R436). -/
  retain : Nat
  /-- BF_OFF_CAUSE (17 R436). -/
  offCause : Nat
  /-- wake-failure record (17 R433,R436). -/
  fail : Option WakeFail
  /-- the wake-failure record has not been logged yet (17 R433). -/
  failNew : Bool
  /-- regulator attempts under way (17 R433). -/
  tryRail : Option WakeFail
  /-- tick at which the wake timer expires (17 R436). -/
  timer : Option Nat
  /-- ENTRY_TICKS (17 R439). -/
  entryT : Nat
  /-- WAKE_TICKS (17 R439). -/
  wakeT : Nat
  /-- brown-out count (17 R436). -/
  brownouts : Nat
  /-- count at the last PW_BROWNOUT (17 R435). -/
  brownSeen : Nat
  /-- PW_WAKE_MASK the belfry holds (17 R437). -/
  wakeMask : Nat
  /-- PW_MAIN_RETURN the belfry holds (17 R437). -/
  mainRet : Nat
  /-- PN_WAKE_IN the belfry holds (20 R492). -/
  wakePins : Nat
  /-- PN_AUX_EDGE the belfry holds (20 R492). -/
  auxEdge : Nat
  /-- 12 V present (20 R493). -/
  main : Bool
  /-- 3.3 V auxiliary present (20 R493). -/
  aux : Bool
  /-- rear connector mated (20 R495). -/
  inserted : Bool
  /-- slice-clock count at the commit of DEEP (oven period count) (17 R431,R435). -/
  ovenClk : Nat
  /-- last I2C snapshot: register and bytes (17 R436). -/
  i2cSnap : Nat × List Byte
  /-- bytes of the last I2C read (17 R436). -/
  i2cOut : List Byte
  /-- tick of the last memory request in SLEEP (17 R420). -/
  phyReq : Nat
  /-- slice-clock instant up to which the module drives WAKE_N low after a wake (17 R434). -/
  wakeLow : Nat
  /-- slice-clock instant at which the belfry's reset after its last brown-out ends (17 R435). -/
  brownTo : Nat
deriving DecidableEq, Repr

/-- Power at reset. -/
def Power.reset : Power where
  st := 0
  prev := 4
  wakeSrc := 0
  refusedBy := 0
  waking := none
  onMap := bitSpan 142 174 ||| bitSpan 190 196
  hostHeld := bitSpan 192 196
  failed := 0#196
  idleAt := 0
  core := true
  entry := none
  retain := 0
  offCause := 0
  fail := none
  failNew := false
  tryRail := none
  timer := none
  entryT := 0
  wakeT := 0
  brownouts := 0
  brownSeen := 0
  wakeMask := 4
  mainRet := 1
  wakePins := 0
  auxEdge := 0
  main := true
  aux := true
  inserted := true
  ovenClk := 0
  i2cSnap := (0, [])
  i2cOut := []
  phyReq := 0
  wakeLow := 0
  brownTo := 0

/-- A monitor table entry (R446). -/
structure MonEntry where
  chan   : Nat
  range  : Nat
  ow     : Nat
  alarm  : Bool
  trig   : Bool
  wake   : Bool
  repeats : Nat
  delay  : Nat
  lo     : Int
  hi     : Int
deriving DecidableEq, Repr, Inhabited
/-- Accumulator, tracker and alarm state of an entry (R449, R451, R455). -/
structure MonAcc where
  n     : Nat
  sum   : Int
  min   : Int
  max   : Int
  wide  : Nat
  last  : Nat
  sat   : Bool
  open_ : Bool
  alarm : Bool
  beyond : Nat
deriving DecidableEq, Repr, Inhabited
def MonAcc.reset : MonAcc := ⟨0,0,0,0,0,0,false,false,false,0⟩
/-- What the converter is doing (R442, R446, R452, R454): nothing; in the delay of entry `i` up to a tick; converting for entry `i` with `left` conversions after this one, up to a tick; converting the injection; settling or converting for a system calibration. -/
inductive Conv where
  | stopped
  | delay (i : Nat) (end_ : Nat)
  | run (i : Nat) (left : Nat) (end_ : Nat)
  | inject (end_ : Nat)
  | settle (end_ : Nat)
  | cal (left : Nat) (sum : Int) (end_ : Nat)
deriving DecidableEq, Repr, Inhabited
/-- MON_SYSCAL work (R454). -/
structure Syscal where
  input : Fin 16
  range : Fin 4
  step  : Nat
  count : Nat
  value : Int
deriving DecidableEq, Repr, Inhabited

/-- The housekeeping monitor (18). -/
structure Monitor where
  /-- sequence table (18 R446,R448). -/
  table : List MonEntry
  /-- accumulators (18 R449). -/
  accs : List MonAcc
  /-- injection slot (18 R450,R452). -/
  slot : MonAcc
  /-- channel and range of the injected conversion (18 R452). -/
  slotChan : Nat × Nat
  /-- converter (18 R442). -/
  conv : Conv
  /-- what the sequence returns to after an injection (18 R452). -/
  resume : Conv
  /-- start tick of a pending injected conversion (18 R452). -/
  inject : Option Nat
  /-- MON_SYSCAL work pending or running (18 R454). -/
  syscal : Option Syscal
  /-- z and g per input and range (18 R453). -/
  coeff : Vector (Int × Int) 64
  /-- input and range pairs with a successful STEP 0 (18 R454). -/
  zeroed : List (Nat × Nat)
  /-- CONVERSIONS (18 R450). -/
  convs : Nat
  /-- DROPPED (18 R450). -/
  dropped : Nat
  /-- MN_PERIOD in effect (18 R443). -/
  period : Nat
  /-- table waiting for its commit point (18 R447). -/
  newTable : Option (List MonEntry)
deriving DecidableEq, Repr

/-- Monitor at reset. -/
def Monitor.reset : Monitor where
  table := (List.range 24).map (fun k => ⟨16 + k, 0, 0, false, false, false, 1, 0, 0, 0⟩)
  accs := List.replicate 24 MonAcc.reset
  slot := MonAcc.reset
  slotChan := (0, 0)
  conv := .run 0 0 300000000
  resume := .stopped
  inject := none
  syscal := none
  coeff := Vector.replicate 64 (0, 16777216)
  zeroed := []
  convs := 0
  dropped := 0
  period := 2
  newTable := none

/-- A firmware slot (R459, R460): whether it holds an image that read back right, the fields of its header, the image digest,
the public key against which its signature verified, and the image itself: empty in an erased slot, none where the model does not
hold what the slot contains. -/
structure FwSlot where
  intact  : Bool
  signer  : Nat
  version : Nat
  svn     : Nat
  bodyLen : Nat
  hwMin   : Nat
  digest  : List Byte
  key     : List Byte
  image   : Option (List Byte)
deriving DecidableEq, Repr, Inhabited
/-- A firmware trial (R467). -/
structure Trial where
  end_   : Nat
  commit : Bool
deriving DecidableEq, Repr, Inhabited
/-- A live restart under way (R50, R467): the work's mailbox and tag, OP, and whether it is a return to the previous slot (with the reason of FW_REVERTED); `began` says that the new firmware has started and stands halted. -/
structure Restart where
  mb     : Nat
  tag    : Nat
  op     : Nat
  slot   : Nat
  revert : Nat
  began  : Bool
deriving DecidableEq, Repr, Inhabited

/-- Firmware, identity, ownership and debug (19). -/
structure Firm where
  /-- firmware (or the recovery ROM) serves the mailboxes (14 R350). -/
  serving : Bool
  /-- recovery (19 R463). -/
  recovery : Bool
  /-- firmware or ROM has served since power-up (02 R498). -/
  booted : Bool
  /-- slot running (19 R468). -/
  running : Nat
  /-- preferred slot (boot record) (19 R461). -/
  pref : Nat
  /-- SEQ of the boot record in force (19 R461). -/
  bootSeq : Nat
  /-- copy that holds the boot record in force (19 R458,R461). -/
  bootAt : Nat
  /-- the other copy: its SEQ and SLOT, none where it is not valid (19 R461). -/
  bootOld : Option (Nat × Nat)
  /-- slot A (19 R459). -/
  slotA : FwSlot
  /-- slot B (19 R459). -/
  slotB : FwSlot
  /-- trial (19 R467). -/
  trial : Option Trial
  /-- live restart under way (19 R467). -/
  restart : Option Restart
  /-- image being staged (19 R466). -/
  staging : Option (List Byte)
  /-- anti-rollback value (19 R465). -/
  fused : Nat
  /-- power-ups since manufacture (02 R70). -/
  bootCount : Nat
  /-- LIVE_RESTARTS (19 R468). -/
  restarts : Nat
  /-- OWNER_STATE (19 R474). -/
  ownState : Nat
  /-- owner slots unused (19 R474). -/
  ownSlots : Nat
  /-- owner public key (19 R474). -/
  ownKey : List Byte
  /-- ENROLL_OWNER work: new public key (19 R475). -/
  enrol : Option (List Byte)
  /-- measurement registers (19 R464). -/
  meas : Vector (List Byte) 8
  /-- outstanding challenge and the tick of its issue (19 R476). -/
  chal : Option (List Byte × Nat)
  /-- challenges issued (the model's own: index of the free value) (19 R476). -/
  chalNo : Nat
  /-- debug port unlocked (19 R476). -/
  unlocked : Bool
  /-- unlocked since step 1 of R462 (19 R473). -/
  everUnl : Bool
  /-- HALTED (19 R478). -/
  halted : Bool
  /-- a halt requested during a live restart, which the new firmware's first instruction meets (19 R479). -/
  haltReq : Bool
  /-- CAUSE (19 R478). -/
  hcause : Nat
  /-- BP_HIT (19 R478). -/
  bpHit : Nat
  /-- ACC_ERR (19 R478). -/
  accErr : Bool
  /-- DBG_ADDR (19 R477). -/
  dbgAddr : BitVec 32
  /-- word of the last DBG_DATA access (19 R477). -/
  dbgData : BitVec 32
  /-- breakpoints: kind and address (19 R477). -/
  bps : Vector (Nat × BitVec 32) 8
  /-- core SRAM as DBG_DATA wrote it (19 R480). -/
  sram : Memory
  /-- retention banks as DBG_DATA wrote them (19 R480). -/
  retMem : Memory
deriving DecidableEq, Repr

/-- Firm at reset. -/
def Firm.reset : Firm where
  serving := true
  recovery := false
  booted := true
  running := 0
  pref := 0
  bootSeq := 1
  bootAt := 0
  bootOld := none
  slotA := ⟨true, 0, Config.fwVersion, 0, 1, 0, Config.fwDigest, Config.vendorKey, none⟩
  slotB := ⟨false, 0, 0, 0, 0, 0, [], [], some []⟩
  trial := none
  restart := none
  staging := none
  fused := 0
  bootCount := 1
  restarts := 0
  ownState := 0
  ownSlots := 8
  ownKey := []
  enrol := none
  meas := bootMeas
  chal := none
  chalNo := 0
  unlocked := false
  everUnl := false
  halted := false
  haltReq := false
  hcause := 0
  bpHit := 0
  accErr := false
  dbgAddr := 0#32
  dbgData := 0#32
  bps := Vector.replicate 8 (0, 0#32)
  sram := []
  retMem := []

/-- AUX_IO0-3 and TRIG_OUT (20). -/
structure Pins where
  /-- tick at which the pulse on each pin ends (20 R492). -/
  pulse : Vector (Option Nat) 5
  /-- pulses due: start tick and function key (09 R248, 20 R491). -/
  duePulses : List (Nat × Nat)
deriving DecidableEq, Repr

/-- Pins at reset. -/
def Pins.reset : Pins where
  pulse := Vector.replicate 5 none
  duePulses := []

/-- The whole state of the module. -/
structure State where
  /-- the slice-clock count of the present instant, never reset (01 R16; log entry 3) -/
  clk : Nat
  /-- the commands waiting, first in, first out (log entry 3) -/
  pending : List Instr
  /-- the model's own counter of free values taken (log entry 7) -/
  freeCtr : Nat
  /-- the data of the last BAR0 read (14 R351; log entry 3) -/
  readData : BitVec 64
  /-- the command interface (02) -/
  mr : Marrad
  /-- the event log (02) -/
  log : EvLog
  /-- the front ends (03) -/
  fe : Vector FrontEnd 4
  /-- the towers (04) -/
  tw : Vector Tower 4
  /-- trims, curves and calibration (05) -/
  cal : Cal
  /-- clock family and reference (06) -/
  ck : Clock
  /-- module time and the TDC (07) -/
  tm : Time
  /-- the channels (08 to 12) -/
  ch : Vector Chan 4
  /-- events on their way to the sequencers (08 R220) -/
  evq : List Ev
  /-- the trellis (12) -/
  tr : Trellis
  /-- the main memory controller (13) -/
  mem : MemCtl
  /-- the host link (14) -/
  hl : HostLink
  /-- the harvest engine (14) -/
  hv : Harvest
  /-- the playback outputs (15) -/
  out : Vector Output 2
  /-- the array (16) -/
  ar : ArrayLink
  /-- power states, domains and the belfry (17) -/
  pw : Power
  /-- the housekeeping monitor (18) -/
  mon : Monitor
  /-- firmware, identity, ownership and debug (19) -/
  fw : Firm
  /-- the pins (20) -/
  pins : Pins
deriving DecidableEq, Repr

/-- The module right after reset: power-up has completed and the firmware serves the mailboxes (19 R462; log entry 1). -/
def State.reset : State where
  clk := 0
  pending := []
  freeCtr := 0
  readData := 0#64
  mr := Marrad.reset
  log := EvLog.reset
  fe := Vector.replicate 4 FrontEnd.reset
  tw := Vector.replicate 4 Tower.reset
  cal := Cal.reset
  ck := Clock.reset
  tm := Time.reset
  ch := Vector.replicate 4 Chan.reset
  evq := []
  tr := Trellis.reset
  mem := MemCtl.reset
  hl := HostLink.reset
  hv := Harvest.reset
  out := Vector.replicate 2 Output.reset
  ar := ArrayLink.reset
  pw := Power.reset
  mon := Monitor.reset
  fw := Firm.reset
  pins := Pins.reset

end Sys2Proof.Machine
end

