-- ==== Sys2Proof/Machine/Fields.lean ====
section
/-!
DEFINITION. One named update per field of `State`, and per place of the fields that are arrays; every meaning writes the
state through these, and Sys2Proof/Laws/State.lean says of each what it leaves unchanged.
-/

namespace Sys2Proof.Machine

/-- The state with `clk` replaced. -/
def State.setClk (s : State) (v : Nat) : State := { s with clk := v }

/-- The state with `clk` changed by a function. -/
def State.modClk (s : State) (g : Nat → Nat) : State := s.setClk (g s.clk)

/-- The state with `pending` replaced. -/
def State.setPending (s : State) (v : List Instr) : State := { s with pending := v }

/-- The state with `pending` changed by a function. -/
def State.modPending (s : State) (g : List Instr → List Instr) : State := s.setPending (g s.pending)

/-- The state with `freeCtr` replaced. -/
def State.setFreeCtr (s : State) (v : Nat) : State := { s with freeCtr := v }

/-- The state with `freeCtr` changed by a function. -/
def State.modFreeCtr (s : State) (g : Nat → Nat) : State := s.setFreeCtr (g s.freeCtr)

/-- The state with `readData` replaced. -/
def State.setReadData (s : State) (v : BitVec 64) : State := { s with readData := v }

/-- The state with `readData` changed by a function. -/
def State.modReadData (s : State) (g : BitVec 64 → BitVec 64) : State := s.setReadData (g s.readData)

/-- The state with `mr` replaced. -/
def State.setMr (s : State) (v : Marrad) : State := { s with mr := v }

/-- The state with `mr` changed by a function. -/
def State.modMr (s : State) (g : Marrad → Marrad) : State := s.setMr (g s.mr)

/-- The state with `log` replaced. -/
def State.setLog (s : State) (v : EvLog) : State := { s with log := v }

/-- The state with `log` changed by a function. -/
def State.modLog (s : State) (g : EvLog → EvLog) : State := s.setLog (g s.log)

/-- The state with `fe` replaced. -/
def State.setFe (s : State) (v : Vector FrontEnd 4) : State := { s with fe := v }

/-- The state with place `i` of `fe` changed by a function. -/
def State.modFe (s : State) (i : Fin 4) (g : FrontEnd → FrontEnd) : State := s.setFe (s.fe.set i.val (g s.fe[i]))

/-- The state with `tw` replaced. -/
def State.setTw (s : State) (v : Vector Tower 4) : State := { s with tw := v }

/-- The state with place `i` of `tw` changed by a function. -/
def State.modTw (s : State) (i : Fin 4) (g : Tower → Tower) : State := s.setTw (s.tw.set i.val (g s.tw[i]))

/-- The state with `cal` replaced. -/
def State.setCal (s : State) (v : Cal) : State := { s with cal := v }

/-- The state with `cal` changed by a function. -/
def State.modCal (s : State) (g : Cal → Cal) : State := s.setCal (g s.cal)

/-- The state with `ck` replaced. -/
def State.setCk (s : State) (v : Clock) : State := { s with ck := v }

/-- The state with `ck` changed by a function. -/
def State.modCk (s : State) (g : Clock → Clock) : State := s.setCk (g s.ck)

/-- The state with `tm` replaced. -/
def State.setTm (s : State) (v : Time) : State := { s with tm := v }

/-- The state with `tm` changed by a function. -/
def State.modTm (s : State) (g : Time → Time) : State := s.setTm (g s.tm)

/-- The state with `ch` replaced. -/
def State.setCh (s : State) (v : Vector Chan 4) : State := { s with ch := v }

/-- The state with place `i` of `ch` changed by a function. -/
def State.modCh (s : State) (i : Fin 4) (g : Chan → Chan) : State := s.setCh (s.ch.set i.val (g s.ch[i]))

/-- The state with `evq` replaced. -/
def State.setEvq (s : State) (v : List Ev) : State := { s with evq := v }

/-- The state with `evq` changed by a function. -/
def State.modEvq (s : State) (g : List Ev → List Ev) : State := s.setEvq (g s.evq)

/-- The state with `tr` replaced. -/
def State.setTr (s : State) (v : Trellis) : State := { s with tr := v }

/-- The state with `tr` changed by a function. -/
def State.modTr (s : State) (g : Trellis → Trellis) : State := s.setTr (g s.tr)

/-- The state with `mem` replaced. -/
def State.setMem (s : State) (v : MemCtl) : State := { s with mem := v }

/-- The state with `mem` changed by a function. -/
def State.modMem (s : State) (g : MemCtl → MemCtl) : State := s.setMem (g s.mem)

/-- The state with `hl` replaced. -/
def State.setHl (s : State) (v : HostLink) : State := { s with hl := v }

/-- The state with `hl` changed by a function. -/
def State.modHl (s : State) (g : HostLink → HostLink) : State := s.setHl (g s.hl)

/-- The state with `hv` replaced. -/
def State.setHv (s : State) (v : Harvest) : State := { s with hv := v }

/-- The state with `hv` changed by a function. -/
def State.modHv (s : State) (g : Harvest → Harvest) : State := s.setHv (g s.hv)

/-- The state with `out` replaced. -/
def State.setOut (s : State) (v : Vector Output 2) : State := { s with out := v }

/-- The state with place `i` of `out` changed by a function. -/
def State.modOut (s : State) (i : Fin 2) (g : Output → Output) : State := s.setOut (s.out.set i.val (g s.out[i]))

/-- The state with `ar` replaced. -/
def State.setAr (s : State) (v : ArrayLink) : State := { s with ar := v }

/-- The state with `ar` changed by a function. -/
def State.modAr (s : State) (g : ArrayLink → ArrayLink) : State := s.setAr (g s.ar)

/-- The state with `pw` replaced. -/
def State.setPw (s : State) (v : Power) : State := { s with pw := v }

/-- The state with `pw` changed by a function. -/
def State.modPw (s : State) (g : Power → Power) : State := s.setPw (g s.pw)

/-- The state with `mon` replaced. -/
def State.setMon (s : State) (v : Monitor) : State := { s with mon := v }

/-- The state with `mon` changed by a function. -/
def State.modMon (s : State) (g : Monitor → Monitor) : State := s.setMon (g s.mon)

/-- The state with `fw` replaced. -/
def State.setFw (s : State) (v : Firm) : State := { s with fw := v }

/-- The state with `fw` changed by a function. -/
def State.modFw (s : State) (g : Firm → Firm) : State := s.setFw (g s.fw)

/-- The state with `pins` replaced. -/
def State.setPins (s : State) (v : Pins) : State := { s with pins := v }

/-- The state with `pins` changed by a function. -/
def State.modPins (s : State) (g : Pins → Pins) : State := s.setPins (g s.pins)

end Sys2Proof.Machine
end

