-- ==== Sys2Proof/Machine/Keys.lean ====
section
/-!
DEFINITION. The settings space (02 R53–R62): the table of every defined key with its type, range, default and moment
of effect, as the settings tables of the chapters give them, and the lookups over staged and recorded values.
-/

namespace Sys2Proof.Machine

/-- The type and range of a key (00 "Settings tables", R9; 02 R55). -/
inductive Rng where
  | enum (n : Nat)
  | uns (w lo hi : Nat)
  | sgn (w : Nat) (lo hi : Int)
  | zeroOr (w lo hi : Nat)
  | multOf (w m hi : Nat)
  | mask (w m : Nat)
  | pattern
  | format
deriving DecidableEq, Repr

/-- When a key takes effect (00 R8). -/
inductive Eff where
  | apply | nextArm | now
deriving DecidableEq, Repr

/-- One row of a settings table: key, whether it is a channel key (02 R54), range, default, effect. -/
structure KeyRow where
  key  : Nat
  chan : Bool
  rng  : Rng
  dflt : Nat
  eff  : Eff
deriving DecidableEq, Repr

/-- Keys of module, interface and pins (01 R13, 02 R62, 20 R490). -/
def keysModule : List KeyRow := [
  ⟨0x0004, false, .enum 3, 0, .apply⟩,
  ⟨0x0020, false, .enum 6, 2, .now⟩,
  ⟨0x0021, false, .uns 8 0 63, 16, .now⟩,
  ⟨0x0022, false, .enum 5, 3, .apply⟩,
  ⟨0x0030, false, .uns 16 30 30000, 300, .apply⟩,
  ⟨0x0031, false, .mask 8 0x0F, 0, .apply⟩,
  ⟨0x0032, false, .uns 8 0 1, 0, .now⟩,
  ⟨0x0040, false, .mask 8 0x1F, 0x10, .apply⟩,
  ⟨0x0041, false, .mask 8 0x1F, 0, .apply⟩,
  ⟨0x0042, false, .mask 8 0x1F, 0, .apply⟩,
  ⟨0x0043, false, .mask 8 0x1F, 0, .apply⟩,
  ⟨0x0044, false, .mask 8 0x1F, 0, .apply⟩,
  ⟨0x0045, false, .mask 8 0x1F, 0, .apply⟩,
  ⟨0x0046, false, .mask 8 0x1F, 0, .apply⟩,
  ⟨0x0047, false, .mask 8 0x1F, 0, .apply⟩,
  ⟨0x0048, false, .mask 8 0x0F, 0, .apply⟩,
  ⟨0x0049, false, .mask 8 0x0F, 0, .apply⟩,
  ⟨0x004A, false, .mask 8 0x0F, 0, .apply⟩,
  ⟨0x004B, false, .mask 8 0x0F, 0, .apply⟩,
  ⟨0x004C, false, .mask 8 0x1F, 0, .apply⟩,
  ⟨0x004D, false, .mask 8 0x1F, 0, .apply⟩,
  ⟨0x004E, false, .mask 8 0x1F, 0, .apply⟩,
  ⟨0x004F, false, .mask 8 0x1F, 0, .apply⟩,
  ⟨0x0050, false, .mask 8 0x0F, 0, .apply⟩,
  ⟨0x0051, false, .mask 8 0x0F, 0, .apply⟩]

/-- Keys of front end, towers and calibration (03 R75, 04 R89, 05 R115). -/
def keysFront : List KeyRow := [
  ⟨0x0100, true, .enum 8, 7, .apply⟩,
  ⟨0x0101, true, .sgn 32 (-1000000) 1000000, 0, .apply⟩,
  ⟨0x0102, true, .enum 7, 0, .nextArm⟩,
  ⟨0x0103, true, .enum 4, 0, .nextArm⟩,
  ⟨0x0104, true, .enum 2, 0, .nextArm⟩,
  ⟨0x0105, true, .enum 2, 0, .apply⟩,
  ⟨0x0106, true, .uns 8 0 1, 0, .now⟩,
  ⟨0x0200, false, .uns 8 0 1, 1, .apply⟩,
  ⟨0x0201, false, .uns 32 100 600000, 250, .apply⟩,
  ⟨0x0202, false, .uns 16 4 64, 8, .apply⟩,
  ⟨0x0203, false, .uns 8 2 16, 4, .apply⟩,
  ⟨0x0300, false, .uns 32 100 100000, 1000, .apply⟩,
  ⟨0x0301, false, .enum 2, 1, .apply⟩,
  ⟨0x0302, false, .uns 8 1 16, 2, .apply⟩,
  ⟨0x0310, true, .sgn 32 (-16384) 16384, 0, .apply⟩,
  ⟨0x0311, true, .sgn 32 (-100000) 100000, 0, .apply⟩]

/-- Keys of clock and time (06 R151, 07 R182). -/
def keysClock : List KeyRow := [
  ⟨0x0400, false, .enum 4, 0, .apply⟩,
  ⟨0x0401, false, .uns 16 100 2000, 1000, .apply⟩,
  ⟨0x0402, false, .uns 32 100 60000, 1000, .apply⟩,
  ⟨0x0403, false, .enum 3, 0, .apply⟩,
  ⟨0x0404, false, .uns 16 10 10000, 100, .apply⟩,
  ⟨0x0405, false, .uns 16 1 1000, 30, .apply⟩,
  ⟨0x0406, false, .enum 3, 0, .apply⟩,
  ⟨0x0407, false, .uns 16 0 5000, 0, .apply⟩,
  ⟨0x0408, false, .enum 3, 1, .apply⟩,
  ⟨0x0409, false, .uns 8 0 1, 1, .apply⟩,
  ⟨0x0500, false, .enum 2, 0, .apply⟩,
  ⟨0x0501, false, .uns 32 1 1000, 10, .apply⟩,
  ⟨0x0502, false, .uns 8 2 60, 3, .apply⟩,
  ⟨0x0503, false, .sgn 32 (-10000000) 10000000, 0, .apply⟩,
  ⟨0x0504, false, .uns 8 0 1, 1, .apply⟩,
  ⟨0x0505, false, .uns 16 1 900, 100, .apply⟩]

/-- Keys of trigger detection and sequencer (08 R201, R215, R217; 09 R241). -/
def keysTrigger : List KeyRow := [
  ⟨0x0600, true, .enum 9, 1, .nextArm⟩,
  ⟨0x0601, true, .enum 3, 0, .nextArm⟩,
  ⟨0x0602, true, .sgn 16 (-32768) 32767, 0, .apply⟩,
  ⟨0x0603, true, .sgn 16 (-32768) 32767, 0, .apply⟩,
  ⟨0x0604, true, .uns 16 1 4096, 32, .apply⟩,
  ⟨0x0605, true, .enum 4, 0, .nextArm⟩,
  ⟨0x0606, true, .uns 64 0 1000000000000, 0, .apply⟩,
  ⟨0x0607, true, .uns 64 0 1000000000000, 0, .apply⟩,
  ⟨0x0608, true, .pattern, 0, .nextArm⟩,
  ⟨0x0610, true, .enum 3, 0, .nextArm⟩,
  ⟨0x0611, true, .uns 64 0 0xFFFFFFFFFFFFFFFF, 0, .nextArm⟩,
  ⟨0x0612, true, .uns 64 4 0x1000000000000, 3000000000, .nextArm⟩,
  ⟨0x0640, false, .enum 3, 0, .apply⟩,
  ⟨0x0641, false, .sgn 16 (-2500) 2500, 500, .apply⟩,
  ⟨0x0642, false, .enum 3, 0, .apply⟩,
  ⟨0x0643, false, .sgn 16 (-2500) 2500, 500, .apply⟩,
  ⟨0x0700, true, .uns 32 1 16777216, 1, .nextArm⟩,
  ⟨0x0701, true, .enum 3, 0, .apply⟩,
  ⟨0x0702, true, .uns 64 0 0x1000000000000, 0, .apply⟩,
  ⟨0x0703, true, .uns 64 1 0x100000000, 1, .apply⟩,
  ⟨0x0704, true, .uns 8 0 255, 0, .apply⟩,
  ⟨0x0705, true, .zeroOr 64 4 0x1000000000000, 0, .apply⟩]

/-- Keys of decimation and accumulation (10 R252, 11 R271). -/
def keysDecim : List KeyRow := [
  ⟨0x0800, true, .enum 4, 0, .nextArm⟩,
  ⟨0x0801, true, .uns 32 1 65536, 1, .nextArm⟩,
  ⟨0x0802, true, .uns 8 3 5, 4, .nextArm⟩,
  ⟨0x0803, true, .uns 8 0 1, 0, .nextArm⟩,
  ⟨0x0804, true, .enum 2, 0, .nextArm⟩,
  ⟨0x0805, true, .enum 2, 0, .nextArm⟩,
  ⟨0x0806, true, .uns 8 0 7, 0, .nextArm⟩,
  ⟨0x0807, true, .uns 64 0 0xFFFFFFFFFFFFFFFF, 0, .nextArm⟩,
  ⟨0x0808, true, .uns 8 0 1, 0, .now⟩,
  ⟨0x0810, true, .enum 4, 0, .apply⟩,
  ⟨0x0811, true, .sgn 32 (-2147483648) 2147483647, 0, .apply⟩,
  ⟨0x0812, true, .uns 32 1 268435456, 2097152, .apply⟩,
  ⟨0x0818, true, .enum 4, 0, .apply⟩,
  ⟨0x0819, true, .sgn 32 (-2147483648) 2147483647, 0, .apply⟩,
  ⟨0x081A, true, .uns 32 1 268435456, 2097152, .apply⟩,
  ⟨0x0900, true, .enum 4, 0, .nextArm⟩,
  ⟨0x0901, true, .uns 32 1 1835008, 1024, .nextArm⟩,
  ⟨0x0902, true, .uns 32 0 1835007, 0, .nextArm⟩,
  ⟨0x0903, true, .uns 64 1 0x10000000000, 1048576, .nextArm⟩,
  ⟨0x0904, true, .multOf 16 64 1792, 0, .nextArm⟩]

/-- Keys of trellis, memory, harvest, playback, array, power, monitor and security
(12 R294, 01 R26, 13 R330, 14 R362, 15 R376, 16 R394, 17 R437, 18 R443, R455, 19 R481). -/
def keysBack : List KeyRow := [
  ⟨0x0A00, true, .enum 3, 0, .nextArm⟩,
  ⟨0x0A01, true, .enum 2, 0, .nextArm⟩,
  ⟨0x0A02, true, .uns 64 1 68719476736, 4096, .nextArm⟩,
  ⟨0x0A03, true, .uns 32 0 4294967295, 1024, .nextArm⟩,
  ⟨0x0A05, false, .format, 0, .apply⟩,
  ⟨0x0A06, false, .format, 0, .apply⟩,
  ⟨0x0A07, false, .format, 0, .apply⟩,
  ⟨0x0B00, false, .uns 8 1 64, 1, .apply⟩,
  ⟨0x0B01, false, .uns 8 2 30, 10, .apply⟩,
  ⟨0x0B02, false, .uns 32 1 1000000, 256, .apply⟩,
  ⟨0x0B03, false, .uns 32 1 1000000, 65536, .apply⟩,
  ⟨0x0C00, false, .enum 2, 0, .apply⟩,
  ⟨0x0D00, false, .enum 3, 0, .apply⟩,
  ⟨0x0D01, false, .uns 16 100 1000, 500, .apply⟩,
  ⟨0x0D08, false, .enum 3, 0, .apply⟩,
  ⟨0x0D09, false, .uns 16 100 1000, 500, .apply⟩,
  ⟨0x0E00, false, .uns 8 0 1, 1, .apply⟩,
  ⟨0x0E01, false, .uns 8 0 1, 1, .apply⟩,
  ⟨0x0E02, false, .uns 8 0 15, 15, .apply⟩,
  ⟨0x0E03, false, .uns 32 50 10000, 100, .apply⟩,
  ⟨0x0E04, false, .uns 64 1500 30000000, 150000, .apply⟩,
  ⟨0x0E05, false, .uns 8 0 15, 0, .apply⟩,
  ⟨0x0E06, false, .enum 3, 0, .apply⟩,
  ⟨0x0F00, false, .mask 16 0x00F4, 0x0004, .apply⟩,
  ⟨0x0F01, false, .zeroOr 32 1 60000, 10, .apply⟩,
  ⟨0x0F02, false, .enum 2, 1, .apply⟩,
  ⟨0x1000, false, .enum 3, 2, .apply⟩,
  ⟨0x1001, false, .uns 8 1 16, 1, .apply⟩,
  ⟨0x1100, false, .uns 32 60 86400, 600, .apply⟩,
  ⟨0x1101, false, .uns 8 0 1, 1, .apply⟩]

/-- Every defined key, ascending (02 R53). -/
def keyTable : List KeyRow :=
  keysModule ++ keysFront ++ keysClock ++ keysTrigger ++ keysDecim ++ keysBack

/-- The row of a defined key. -/
def keyRow (k : Nat) : Option KeyRow := keyTable.find? (fun r => r.key == k)

/-- Whether a scope is permitted for a row (02 R54). -/
def KeyRow.scopeOk (r : KeyRow) (sc : Nat) : Bool :=
  if r.chan then decide (1 ≤ sc ∧ sc ≤ 4) else sc == 0

/-- The permitted scopes of a row, ascending. -/
def KeyRow.scopes (r : KeyRow) : List Nat := if r.chan then [1, 2, 3, 4] else [0]

/-- Keys whose writes are actions and whose value in force is 0 (02 R59, 03 R75, 10 R252). -/
def actionKey (k : Nat) : Bool := k == 0x0106 || k == 0x0808

/-- Whether a packing descriptor is valid (01 R27). -/
def formatValid (v : Nat) : Bool :=
  let width := bitsAt v 0 7
  let count := bitsAt v 8 4
  let tags := flag (bitAt v 24) + flag (bitAt v 25) + flag (bitAt v 26) + flag (bitAt v 27)
  bitsAt v 28 36 == 0 && bitsAt v 22 2 == 0 && bitsAt v 12 5 == 0 && !(bitAt v 7)
    && decide (bitsAt v 20 2 ≤ 1) && decide (bitsAt v 18 2 ≤ 1)
    && decide (1 ≤ count ∧ count ≤ 8) && decide (4 ≤ width ∧ width ≤ 64)
    && decide (count * width + tags ≤ 64)

/-- Whether the high bytes of `VALUE` are as 02 R55 requires for the type. -/
def Rng.widthOk : Rng → Nat → Bool
  | .enum _, v => decide (v < 256)
  | .uns w _ _, v => decide (v < 2 ^ w)
  | .sgn w _ _, v => encInt 64 (decInt w v) == v
  | .zeroOr w _ _, v => decide (v < 2 ^ w)
  | .multOf w _ _, v => decide (v < 2 ^ w)
  | .mask w _, v => decide (v < 2 ^ w)
  | .pattern, v => decide (v < 256)
  | .format, v => decide (v < 2 ^ 64)

/-- Whether a value lies in a key's range (00 R9). -/
def Rng.ok : Rng → Nat → Bool
  | .enum n, v => decide (v < n)
  | .uns _ lo hi, v => decide (lo ≤ v ∧ v ≤ hi)
  | .sgn w lo hi, v => decide (lo ≤ decInt w v ∧ decInt w v ≤ hi)
  | .zeroOr _ lo hi, v => decide (v = 0 ∨ (lo ≤ v ∧ v ≤ hi))
  | .multOf _ m hi, v => decide (v % m = 0 ∧ v ≤ hi)
  | .mask _ m, v => decide (v &&& m = v)
  | .pattern, v => (List.range 4).all (fun c => decide (bitsAt v (2 * c) 2 ≠ 3))
  | .format, v => v == 0 || formatValid v

/-- Order of entries: key, then scope (02 R58). -/
def SetEntry.before (a b : SetEntry) : Bool :=
  decide (a.key < b.key) || (a.key == b.key && decide (a.scope < b.scope))

/-- Whether an entry stands at a key and scope. -/
def SetEntry.is (e : SetEntry) (k sc : Nat) : Bool := e.key == k && e.scope == sc

/-- The value a sorted list of entries holds at a key and scope. -/
def setLookup (l : List SetEntry) (k sc : Nat) : Option (BitVec 64) :=
  (l.find? (fun e => e.is k sc)).map (·.val)

/-- Put an entry in its place, replacing one at the same key and scope. -/
def setPut (e : SetEntry) : List SetEntry → List SetEntry
  | [] => [e]
  | x :: xs => if x.is e.key e.scope then e :: xs else if e.before x then e :: x :: xs else x :: setPut e xs

/-- Drop the entry at a key and scope. -/
def setDrop (k sc : Nat) (l : List SetEntry) : List SetEntry := l.filter (fun e => !(e.is k sc))

/-- Record a value, keeping only those that differ from the default. -/
def setRecord (l : List SetEntry) (e : SetEntry) : List SetEntry :=
  if actionKey e.key then l
  else if (keyRow e.key).elim 0 (·.dflt) == e.val.toNat then setDrop e.key e.scope l
  else setPut e l

/-- The default of a key (0 for an undefined one). -/
def keyDefault (k : Nat) : Nat := (keyRow k).elim 0 (·.dflt)

/-- The value recorded at a key and scope, the default where none is (02 R54, R58). -/
def recordedVal (l : List SetEntry) (k sc : Nat) : Nat :=
  (setLookup l k sc).elim (keyDefault k) (·.toNat)

/-- The value in force of a key at a scope (02 R54, R58). -/
def State.key (s : State) (k sc : Nat) : Nat := recordedVal s.mr.recorded k sc

/-- A module key's value in force. -/
def State.mkey (s : State) (k : Nat) : Nat := s.key k 0

/-- A channel or input key's value in force, channel or input `c` from 0. -/
def State.ckey (s : State) (k : Nat) (c : Fin 4) : Nat := s.key k (c.val + 1)

/-- A signed key of `w` bits. -/
def State.ikey (s : State) (w k sc : Nat) : Int := decInt w (s.key k sc)

/-- The value of a next-ARM key that channel `c` took at its last ARM (00 R8). -/
def State.akey (s : State) (k : Nat) (c : Fin 4) : Nat := recordedVal s.mr.armed[c] k (c.val + 1)

/-- The same for an input that feeds channel `c`. -/
def State.akeyAt (s : State) (k : Nat) (c : Fin 4) (sc : Nat) : Nat := recordedVal s.mr.armed[c] k sc

/-- The value of a next-ARM key that a channel's detector took at its start (08 R200). -/
def State.detKey (s : State) (k : Nat) (c : Fin 4) : Nat := recordedVal s.ch[c].det.keys k (c.val + 1)

/-- The value of a next-ARM key that a channel's decimation stage took at its start (10 R267). -/
def State.decKey (s : State) (k : Nat) (c : Fin 4) : Nat := recordedVal s.ch[c].dec.keys k (c.val + 1)

/-- The bytes of an R55 entry; byte 3 carries a report of 02 R61. -/
def entryBytes (k sc rep v : Nat) : List Byte :=
  leBytes 2 k ++ leBytes 1 sc ++ leBytes 1 rep ++ List.replicate 4 0#8 ++ leBytes 8 v

end Sys2Proof.Machine
end

