-- ==== Sys2Proof/Machine/Slots.lean ====
section
/-!
DEFINITION. The firmware slots in flash (19 R459, R460, R466).
-/

namespace Sys2Proof.Machine

/-- Why a firmware slot is invalid (19 R460, R483): 0 valid, 1 header, 2 signature, 3 SVN. A slot that an interrupted or failed
programming left has no valid header; a signature counts against the key in force now (19 R475). -/
def Firm.slotFault (f : Firm) (v : FwSlot) : Nat :=
  if !v.intact || decide (Config.hwRev < v.hwMin) then 1
  else if (v.signer == 1 && (f.ownState != 1 || v.key != f.ownKey)) then 2
  else if v.svn < f.fused then 3
  else 0

/-- Firmware slot 0 (A) or 1 (B). -/
def Firm.slot (f : Firm) (n : Nat) : FwSlot := if n = 0 then f.slotA else f.slotB

/-- The slot that is not running; in recovery FW_STAGE writes slot A (19 R463, R466). -/
def Firm.other (f : Firm) : Nat := if f.recovery = false ∧ f.running = 0 then 1 else 0

/-- Replace a firmware slot. -/
def Firm.setSlot (f : Firm) (n : Nat) (v : FwSlot) : Firm := if n = 0 then { f with slotA := v } else { f with slotB := v }

/-- FW_STAGE is cut off: the slot that it fills is left invalid (19 R466, R482). -/
def Firm.spoilOther (f : Firm) : Firm := { f.setSlot f.other { f.slot f.other with intact := false, image := none } with staging := none }

end Sys2Proof.Machine
end

