-- ==== Sys2Proof/Machine/Ops.lean ====
section
/-!
DEFINITION. The named operations that the meanings share: byte memory, module time and its history, stamps, MSI-X, the
event log, free values.
-/

namespace Sys2Proof.Machine

/-- The outcome type of `exec` and `step`. -/
abbrev Out := Host.Outcome State Fault Refusal

/-! W1C flags (00 R7). -/

/-- Hardware sets a flag at tick `t` when `b` holds. -/
def W1c.raise (f : W1c) (b : Bool) (t : Nat) : W1c := if b then some t else f

/-- The host writes the flag at tick `t`, with 1 when `b` holds: a flag that hardware sets in the same cycle remains set. The model takes
one slice-clock tick as that cycle (log entry 58). -/
def W1c.wipe (f : W1c) (b : Bool) (t : Nat) : W1c := if b && f != some t then none else f

/-! Byte memory (log entry 5). -/

/-- The byte at an address; an address that is not listed reads 0. -/
def memRead : Memory → Nat → Byte
  | [], _ => 0#8
  | (k, v) :: m, a => if k = a then v else memRead m a

/-- Write one byte, keeping the canonical form. -/
def memWrite : Memory → Nat → Byte → Memory
  | [], a, b => if b = 0#8 then [] else [(a, b)]
  | (k, v) :: m, a, b =>
    if a < k then (if b = 0#8 then (k, v) :: m else (a, b) :: (k, v) :: m)
    else if a = k then (if b = 0#8 then m else (a, b) :: m)
    else (k, v) :: memWrite m a b

/-- Write bytes upward from an address. -/
def memWriteBytes : Memory → Nat → List Byte → Memory
  | m, _, [] => m
  | m, a, b :: bs => memWriteBytes (memWrite m a b) (a + 1) bs

/-- `n` bytes upward from an address. -/
def memReadBytes (m : Memory) (a n : Nat) : List Byte := (List.range n).map (fun i => memRead m (a + i))

/-- All keys of a memory lie above a bound, strictly rising, and no value is 0. -/
def memSorted : Nat → Memory → Bool
  | _, [] => true
  | lo, (k, v) :: m => decide (lo ≤ k) && v != 0#8 && memSorted (k + 1) m

/-- The canonical form of a memory. -/
def Memory.wf (m : Memory) : Bool := memSorted 0 m

/-! Time (01 R16, R17; 07 R174–R178). -/

/-- Fine instants count 2^-24 tick. -/
def fineUnit : Nat := 16777216

/-- Time passes up to tick `t`; it never runs back (log entry 3). -/
def State.reach (s : State) (t : Nat) : State := s.setClk (max s.clk t)

/-- A value with a history of earlier values, newest first, each with the boundary that ended it: the value that was in
force at instant `c` (07 R176). -/
def valAt {α : Type} (cur : α) : List (Nat × α) → Nat → α
  | [], _ => cur
  | (b, v) :: rest, c => if b ≤ c then cur else valAt v rest c

/-- Module ticks at slice-clock instant `c` (07 R176, R178). -/
def State.ticksAt (s : State) (c : Nat) : Nat := ((c : Int) + valAt s.tm.off s.tm.offHist c).toNat % 2 ^ 64

/-- Module ticks now. -/
def State.ticks (s : State) : Nat := ((s.clk : Int) + s.tm.off).toNat % 2 ^ 64

/-- The slice-clock instant of a module tick in the scale in force. -/
def State.clkOf (s : State) (ticks : Nat) : Nat := ((ticks : Int) - s.tm.off).toNat

/-- The first DSP-cycle boundary at or after slice-clock instant `c` (01 R17). -/
def State.boundaryFrom (s : State) (c : Nat) : Nat := c + ((-((c : Int) + s.tm.off)) % 4).toNat

/-- The same of an instant that may lie back, in the scale that was in force there. -/
def State.boundaryOf (s : State) (c : Nat) : Nat := c + ((-((c : Int) + valAt s.tm.off s.tm.offHist c)) % 4).toNat

/-- The first DSP-cycle boundary at or after now. -/
def State.boundary (s : State) : Nat := s.boundaryFrom s.clk

/-- The stamp of a fine instant, with its class and validity (07 R174–R177). -/
def State.stampAt (s : State) (fine cls : Nat) (valid : Bool) : Stamp :=
  { ticks := s.ticksAt (fine / fineUnit)
    frac := fine % fineUnit
    qual := BitVec.ofNat 8 (64 * (cls % 4) + 32 * flag valid + (valAt s.tm.qual s.tm.qualHist (fine / fineUnit)).toNat) }

/-- The FRACQ field of a stamp (07 R174). -/
def Stamp.fracq (x : Stamp) : Nat := x.frac % fineUnit + fineUnit * x.qual.toNat

/-- The 12 bytes of a stamp: TICKS, then FRACQ. -/
def Stamp.bytes (x : Stamp) : List Byte := leBytes 8 x.ticks ++ leBytes 4 x.fracq

/-- The stamp of the present tick (07 R177, tick grid). -/
def State.now (s : State) : Stamp := s.stampAt (s.clk * fineUnit) 0 false

/-- The value of a key in force at slice-clock instant `c` (08 R210, 09 R241). -/
def State.keyAt (s : State) (k sc c : Nat) : Nat := recordedVal (valAt s.mr.recorded s.mr.recHist c) k sc

/-- Change QUAL[4:0] from DSP-cycle boundary `b` (07 R176). -/
def State.setQualAt (s : State) (b : Nat) (q : BitVec 5) : State :=
  if q = s.tm.qual then s
  else s.modTm (fun m => { m with qual := q, qualHist := (b, m.qual) :: m.qualHist })

/-- Add `d` to the count from boundary `b` (06 R159, 07 R183). -/
def State.shiftTime (s : State) (b : Nat) (d : Int) : State :=
  s.modTm (fun m => { m with off := m.off + d, offHist := (b, m.off) :: m.offHist })

/-! Free values (log entry 7). -/

/-- Take a free value: nothing constrains it. -/
def State.free (s : State) : BitVec 64 × State := (Config.freeBits s.freeCtr, s.setFreeCtr (s.freeCtr + 1))

/-! MSI-X (14 R353). -/

/-- Send a message with a vector: sent at once, or pending when the vector is masked or MSI-X is off; nothing while the link is down. -/
def State.msix (s : State) (v : Nat) : State :=
  if !s.hl.up then s
  else s.modHl (fun h =>
    if h.msixOn && !(h.msix[v % 64]!).masked then { h with sent := ⟨s.clk, v % 64⟩ :: h.sent }
    else { h with pba := h.pba ||| (1#64 <<< (v % 64)) })

/-! The event log (02 R63, R64). -/

/-- Severity codes (02 R63). -/
def sevInfo : Nat := 0
/-- NOTICE. -/
def sevNotice : Nat := 1
/-- WARNING. -/
def sevWarning : Nat := 2
/-- ERROR. -/
def sevError : Nat := 3
/-- CRITICAL. -/
def sevCritical : Nat := 4

/-- The entry an event makes at the present tick (02 R63). -/
def State.mkEvent (s : State) (code sev scope : Nat) (data : List Byte) : Event :=
  { seq := s.log.next, code := code, sev := sev, scope := scope
    ticks := s.now.ticks, fracq := s.now.fracq, data := padTo 12 data }

/-- Put an event in the rings and count it (02 R63, R64). -/
def State.record (s : State) (e : Event) : State :=
  s.modLog (fun l => { l with
    next := wrapAdd 32 l.next 1
    ram := (e :: l.ram).take 4096
    uncopied := if s.mkey 0x0022 ≤ e.sev then e :: l.uncopied else l.uncopied
    errors := if e.sev = 3 then wrapAdd 32 l.errors 1 else l.errors
    criticals := if e.sev = 4 then wrapAdd 32 l.criticals 1 else l.criticals })

/-- Signal an event of severity `sev` (02 R64): a message at once, or one due at the end of the interval of 30,000 ticks. -/
def State.notify (s : State) (sev : Nat) : State :=
  if s.mkey 0x0020 = 5 ∨ sev < s.mkey 0x0020 then s
  else match s.log.lastMsg with
    | none => (s.msix (s.mkey 0x0021)).modLog (fun l => { l with lastMsg := some s.clk })
    | some p =>
      if p + 30000 ≤ s.clk then (s.msix (s.mkey 0x0021)).modLog (fun l => { l with lastMsg := some s.clk, due := false })
      else s.modLog (fun l => { l with due := true })

/-- The Hucia core clock starts on demand: IDLE becomes RUN, SLEEP stays SLEEP (17 R419, R420). -/
def State.coreWake (s : State) : State :=
  if s.pw.st = 1 then s.modPw (fun p => { p with st := 0, prev := 1, idleAt := s.clk, core := true })
  else if s.pw.st = 2 ∧ s.pw.core = false then s.modPw (fun p => { p with core := true, onMap := p.onMap ||| bitSpan 190 191, idleAt := s.clk })
  else s

/-- Log an entry; in IDLE it brings RUN (17 R420). While no firmware runs, or the core is halted, it waits to be logged with the
time at which it happened (04 R107; 19 R479). -/
def State.logEntry (s : State) (e : Event) : State :=
  if s.fw.serving && !s.fw.halted then ((s.record { e with seq := s.log.next }).notify e.sev).coreWake
  else s.modLog (fun l => { l with deferred := e :: l.deferred })

/-- Log an event (02 R63, R64). -/
def State.logEv (s : State) (code sev scope : Nat) (data : List Byte) : State := s.logEntry (s.mkEvent code sev scope data)

/-- Log an event with the time of slice-clock tick `b`. -/
def State.logEvAt (s : State) (b code sev scope : Nat) (data : List Byte) : State :=
  s.logEntry ((s.setClk b).mkEvent code sev scope data)

/-- Log the entries that waited, oldest first. -/
def State.flushEvents (s : State) : State :=
  s.log.deferred.foldr (fun e a => a.logEntry e) (s.modLog (fun l => { l with deferred := [] }))

/-- The number an event logged next will take. -/
def State.nextSeq (s : State) : Nat := s.log.next

/-! Channels, modes and towers (01 R13–R15). -/

/-- MODULE_MODE in force: 0 Quad, 1 Pair, 2 Spire. -/
def State.mode (s : State) : Nat := s.mkey 0x0004

/-- Whether a channel exists in a mode (01 R14). -/
def presentIn (mode : Nat) (c : Fin 4) : Bool :=
  match mode with
  | 0 => true
  | 1 => c == 0 || c == 2
  | _ => c == 0

/-- Whether a channel is present. -/
def State.present (s : State) (c : Fin 4) : Bool := presentIn s.mode c

/-- Present channels, encoded as CHSEL. -/
def State.presentMask (s : State) : Nat :=
  ((List.finRange 4).map (fun c => if s.present c then 2 ^ c.val else 0)).sum

/-- The towers that serve a channel in a mode (01 R15; 03 R72), and the towers an input feeds: the same map. -/
def towersIn (mode : Nat) (c : Fin 4) : List (Fin 4) :=
  match mode with
  | 0 => [c]
  | 1 => if c = 0 then [0, 1] else if c = 2 then [2, 3] else []
  | _ => if c = 0 then [0, 1, 2, 3] else []

/-- The towers of a channel in the mode in force. -/
def State.towers (s : State) (c : Fin 4) : List (Fin 4) := towersIn s.mode c

/-- The channel that a tower serves in a mode. -/
def chanOfTower (mode : Nat) (k : Fin 4) : Fin 4 :=
  match mode with
  | 0 => k
  | 1 => if k.val < 2 then 0 else 2
  | _ => 0

/-- Samples per tick times 1: the number of samples a channel takes in one tick (01 R18). -/
def samplesPerTick (mode : Nat) : Nat :=
  match mode with
  | 0 => 32
  | 1 => 64
  | _ => 128

/-- The four channels in order. -/
def allCh : List (Fin 4) := [0, 1, 2, 3]

/-- Whether an acquisition state counts as running: from ARMING to HOLDOFF (09 R226, log entry 22). -/
def AcqState.running : AcqState → Bool
  | .arming => true
  | .armed => true
  | .acquiring => true
  | .holdoff => true
  | .stopped => false
  | .done => false

/-- Whether channel `c` runs. -/
def State.running (s : State) (c : Fin 4) : Bool := s.ch[c].st.running

/-- A next-ARM key in force of a channel: the last ARM's while it runs, else the recorded value (00 R8). -/
def State.forceKey (s : State) (k : Nat) (c : Fin 4) : Nat := if s.running c then s.akey k c else s.ckey k c

/-- The channels a CHSEL names, ascending. -/
def selChans (sel : Nat) : List (Fin 4) := allCh.filter (fun c => bitAt sel c.val)

/-- The code of an acquisition state in responses (02 R70, 09 R226). -/
def AcqState.code : AcqState → Nat
  | .stopped => 0
  | .arming => 1
  | .armed => 2
  | .acquiring => 3
  | .holdoff => 4
  | .done => 5

/-! Power domains (17 R421). -/

/-- Whether domain `d` is on. -/
def State.domOn (s : State) (d : Nat) : Bool := s.pw.onMap.getLsbD d

/-- Switch a domain on. -/
def State.domSet (s : State) (d : Nat) (on : Bool) : State :=
  s.modPw (fun p => { p with onMap := if on then p.onMap ||| (1#196 <<< d) else p.onMap &&& ~~~(1#196 <<< d) })


/-- The outcome of a step that goes on. -/
def go (s : State) : Out := .next s

end Sys2Proof.Machine
end

