-- ==== Sys2Proof/Machine/Nired.lean ====
section
/-!
DEFINITION. Messages of the Nired ports: which ports they leave by, the order in which a port sends them, their blocks and checks
(16 R388–R391), the standby link (16 R394, R410).
-/

namespace Sys2Proof.Machine

/-- The port that AR_STANDBY configures (16 R394). -/
def State.standbyPort (s : State) : Option (Fin 3) :=
  match s.mkey 0x0E06 with
  | 1 => some 1
  | 2 => some 2
  | _ => none

/-- Whether the link at a port is a standby link: each of the two modules that it joins names it in AR_STANDBY (16 R410). -/
def State.sbLink (s : State) (p : Fin 3) : Bool := s.standbyPort == some p && s.ar.sbPeer[p]

/-- Whether a standby link is up (16 R405). -/
def State.sbUp (s : State) : Bool := s.standbyPort.any (fun p => s.ar.ports[p] && s.sbLink p)

/-- The port that leads upstream (16 R390, R410). -/
def State.upPort (s : State) : Option (Fin 3) := if s.ar.viaSb then s.standbyPort else some 0

/-- The up Nired ports. -/
def State.upPorts (s : State) : List (Fin 3) := ([0, 1, 2] : List (Fin 3)).filter (fun p => s.ar.ports[p])

/-- The ports that downstream messages leave by: both downstream ports, but for a standby link, which carries nothing besides TIME until
a module below takes it as its upstream (16 R390, R410). -/
def State.downPorts (s : State) : List (Fin 3) :=
  ([1, 2] : List (Fin 3)).filter (fun p => s.ar.ports[p] && s.upPort != some p && (!(s.sbLink p) || s.ar.carries[p]))

/-- Whether messages of a type go upstream (16 R390). -/
def upMessage (mtype : Nat) : Bool := [0x03, 0x07, 0x09, 0x0A, 0x0C, 0x0E].contains mtype

/-- The priority of a message type at a port, the first to be sent first (16 R391). -/
def msgClass (mtype : Nat) : Nat :=
  if mtype = 0x03 ∨ mtype = 0x04 then 0 else if [0x01, 0x02, 0x05, 0x06, 0x0F].contains mtype then 1 else 2

/-! Blocks and checks (16 R390). A block of 66 bits lasts 5.5 ns at 12.0 Gb/s (16 R388), 33 half ticks, so that every second block
boundary falls on a tick (16 R395). -/

/-- The tick at which the start block of a message leaves. -/
def NWire.tick (w : NWire) : Nat := w.start / 2

/-- The content of a message as it leaves: a TIME message carries its own departure tick first (16 R390, R395). -/
def NWire.content (w : NWire) : List Nat := if w.msg.mtype = 0x01 then w.tick :: w.msg.args else w.msg.args

/-- The payload of a message: its content in the layout that the spec leaves open, at most what 136 data blocks hold (log entry 62). -/
def NWire.payload (w : NWire) : List Byte := (Config.messagePayload w.msg.mtype w.content).take 1084

/-- LEN, the data blocks of a message: its payload and four bytes of CRC-32; none without payload. -/
def NWire.len (w : NWire) : Nat := if w.payload.isEmpty then 0 else ceilDiv (w.payload.length + 4) 8

/-- The six bytes that the CRC-8 covers: MTYPE, LEN, ADDR, SEQ. -/
def NWire.head (w : NWire) : List Byte := leBytes 1 w.msg.mtype ++ leBytes 1 w.len ++ leBytes 2 w.msg.addr ++ leBytes 2 w.seq

/-- The CRC-8 with polynomial x^8 + x^2 + x + 1, from zero, most significant bit first (log entry 62). -/
def crc8 (bs : List Byte) : Nat :=
  bs.foldl (fun r b => ([7, 6, 5, 4, 3, 2, 1, 0] : List Nat).foldl (fun x i => crcStep 8 0x07 x (b.getLsbD i)) r) 0

/-- The IEEE 802.3 CRC-32: least significant bit of each byte first, from all ones, reflected and inverted at the end. -/
def crc32 (bs : List Byte) : Nat :=
  let r := bs.foldl (fun r b => (List.range 8).foldl (fun x i => crcStep 32 0x04C11DB7 x (b.getLsbD i)) r) 0xFFFFFFFF
  (List.range 32).foldl (fun v i => v + (if bitAt r (31 - i) then 0 else 2 ^ i)) 0

/-- The start block after its type: the head and its CRC-8. -/
def NWire.startBlock (w : NWire) : List Byte := w.head ++ leBytes 1 (crc8 w.head)

/-- The data blocks: the payload, filled with zeros, and the CRC-32 of it in their last four bytes. -/
def NWire.dataBlocks (w : NWire) : List Byte :=
  if w.payload.isEmpty then [] else padTo (8 * w.len - 4) w.payload ++ leBytes 4 (crc32 (padTo (8 * w.len - 4) w.payload))

/-- The half tick at which a port is free again after a message. -/
def NWire.ends (w : NWire) : Nat := w.start + 33 * (w.len + 1)

/-! The order of sending (16 R391). -/

/-- The first block boundary of a port at or after a half tick, on a tick where the message is a TIME message (16 R395). -/
def blockStart (p mtype free : Nat) : Nat :=
  let h := free + (Config.blockPhase p % 33 + 33 - free % 33) % 33
  if mtype = 0x01 ∧ h % 2 = 1 then h + 33 else h

/-- The messages that wait at a port leave one after another from half tick `free`. -/
def timeWire : Nat → List NWire → List NWire
  | _, [] => []
  | free, w :: l =>
    let x := { w with start := blockStart w.port w.msg.mtype free }
    x :: timeWire x.ends l

/-- A message takes its place among those that wait, behind those of its own class. -/
def queueWire (w : NWire) : List NWire → List NWire
  | [] => [w]
  | x :: l => if msgClass w.msg.mtype < msgClass x.msg.mtype then w :: x :: l else x :: queueWire w l

/-- The messages whose sending has begun at a tick. -/
def begunWire (clk : Nat) (l : List NWire) : List NWire := l.filter (fun w => decide (w.start ≤ 2 * clk))

/-- A message joins those of its port: what is being sent is never interrupted, what waits is sent in the order of its class (16 R391). -/
def sendWire (clk : Nat) (w : NWire) (l : List NWire) : List NWire :=
  let mine := l.filter (fun x => x.port == w.port)
  let begun := begunWire clk mine
  let waits := mine.filter (fun x => decide (2 * clk < x.start))
  l.filter (fun x => x.port != w.port) ++ begun ++ timeWire (begun.foldl (fun f x => max f x.ends) (2 * clk)) (queueWire w waits)

/-- What waits at ports that go down is not sent. -/
def cutWire (clk : Nat) (down : Nat → Bool) (l : List NWire) : List NWire :=
  l.filter (fun w => !(down w.port) || decide (w.start ≤ 2 * clk))

/-- Send a message by the ports `ps` (16 R390, R391). `tx` is the model's record of what the module has sent, `wire` that of when each port
sends it. -/
def State.sendOn (s : State) (ps : List (Fin 3)) (mtype addr : Nat) (args : List Nat) : State :=
  let m : NMsg := ⟨s.clk, mtype, addr, args⟩
  s.modAr (fun a => { a with
    tx := m :: a.tx, seq := wrapAdd 16 a.seq 1, wire := ps.foldl (fun l p => sendWire s.clk ⟨p.val, 0, a.seq, m⟩ l) a.wire })

/-- Send a message in its direction (16 R390). -/
def State.sendN (s : State) (mtype addr : Nat) (args : List Nat) : State :=
  s.sendOn (if upMessage mtype then s.upPort.toList.filter (fun p => s.ar.ports[p]) else s.downPorts) mtype addr args

/-- A response leaves for the manager in fragments of at most 1,024 bytes, the last one marked (16 R390, R407; log entry 63). -/
def State.sendParts (s : State) (addr : Nat) : Nat → List Byte → State
  | 0, bs => s.sendN 0x09 addr (1 :: (bs.take 1024).map (·.toNat))
  | n + 1, bs =>
    if bs.length ≤ 1024 then s.sendN 0x09 addr (1 :: bs.map (·.toNat))
    else (s.sendN 0x09 addr (0 :: (bs.take 1024).map (·.toNat))).sendParts addr n (bs.drop 1024)

end Sys2Proof.Machine
end

