-- ==== Sys2Proof/Machine/Marrad.lean ====
section
/-!
DEFINITION. How a command passes through a mailbox (02 R34–R52): posting, the order of taking, the checks of R46 that
every command shares, expiry, the response and its signals, accepted work.
-/

namespace Sys2Proof.Machine

/-! Status codes (02 R45). -/

/-- OK. -/
def stOk : Nat := 0x0000
/-- ACCEPTED. -/
def stAccepted : Nat := 0x0001
/-- E_BUSY. -/
def eBusy : Nat := 0x0101
/-- E_PARAM. -/
def eParam : Nat := 0x0102
/-- E_STATE. -/
def eState : Nat := 0x0103
/-- E_CONFLICT. -/
def eConflict : Nat := 0x0104
/-- E_QUOTA. -/
def eQuota : Nat := 0x0105
/-- E_NORES. -/
def eNores : Nat := 0x0106
/-- E_TIMEOUT. -/
def eTimeout : Nat := 0x0107
/-- E_AUTH. -/
def eAuth : Nat := 0x0108
/-- E_HW. -/
def eHw : Nat := 0x0109
/-- E_UNKNOWN_CMD. -/
def eUnknown : Nat := 0x010A
/-- E_MODE. -/
def eMode : Nat := 0x010B
/-- E_DEGRADED. -/
def eDegraded : Nat := 0x010C

/-- The selector rule of a command (02 R44). -/
inductive Sel where
  | none | one | any
deriving DecidableEq, Repr

/-- The defined command codes with their selectors (02 R43). -/
def cmdTable : List (Nat × Sel) := [
  (0x0001, .none), (0x0002, .none), (0x0003, .none), (0x0004, .none), (0x0005, .none), (0x0006, .none), (0x0007, .none),
  (0x0008, .none), (0x0101, .any), (0x0102, .any), (0x0103, .any), (0x0104, .one), (0x0105, .one), (0x0201, .any),
  (0x0202, .one), (0x0203, .none), (0x0204, .none), (0x0205, .one), (0x0206, .one), (0x0301, .one), (0x0302, .one),
  (0x0303, .none), (0x0304, .none), (0x0305, .none), (0x0306, .none), (0x0401, .none), (0x0402, .none), (0x0403, .none),
  (0x0404, .none), (0x0405, .none), (0x0501, .none), (0x0502, .none), (0x0503, .none), (0x0601, .none), (0x0602, .none),
  (0x0603, .none), (0x0604, .none), (0x0701, .none), (0x0702, .none), (0x0703, .none), (0x0704, .none), (0x0801, .none),
  (0x0802, .none), (0x0803, .none), (0x0804, .none), (0x0901, .none), (0x0902, .none), (0x0903, .none), (0x0A01, .none),
  (0x0A02, .none), (0x0A03, .none), (0x0B01, .none), (0x0B02, .none)]

/-- The selector of a defined code. -/
def cmdSel (code : Nat) : Option Sel := (cmdTable.find? (fun r => r.1 == code)).map (·.2)

/-- A command as the module copied it from its mailbox (02 R38 step 3, R40). -/
structure Req where
  mb      : Fin 17
  code    : Nat
  tag     : Nat
  plen    : Nat
  chsel   : Nat
  flags   : Nat
  timeout : Nat
  resv    : Bool
  door    : Nat
  abort   : Option Nat
  payload : List Byte
deriving DecidableEq, Repr

/-- What a command's own checks and execution answer: a final status, or that it stays BUSY. -/
inductive Answer where
  | reply (r : Reply)
  | wait (w : Wait)
deriving DecidableEq, Repr

/-- A command's own part: steps 5 to 10 of 02 R46. -/
abbrev Body := Req → State → Answer × State

/-- A failing status with no effect. -/
def fails (st : Nat) (s : State) : Answer × State := (.reply ⟨st, [], none, 0, 0⟩, s)

/-- A failing status that names a key, its scope and entry index (02 R41). -/
def failsKey (st key scope idx : Nat) (s : State) : Answer × State :=
  (.reply ⟨st, [], some key, scope % 256 + 65536 * idx, 0⟩, s)

/-- OK with a response payload. -/
def answers (bs : List Byte) (s : State) : Answer × State := (.reply ⟨stOk, bs, none, 0, 0⟩, s)

/-- ACCEPTED. -/
def accepted (s : State) : Answer × State := (.reply ⟨stAccepted, [], none, 0, 0⟩, s)

/-- The value of STATE (02 R36). -/
def MbState.code : MbState → Nat
  | .free => 0
  | .posted => 1
  | .busy => 2
  | .done => 3
  | .offline => 4

/-- Mailbox `m`. -/
def State.mbox (s : State) (m : Fin 17) : Mailbox := s.mr.mbs[m]

/-- Change mailbox `m`. -/
def State.modMb (s : State) (m : Fin 17) (g : Mailbox → Mailbox) : State :=
  s.modMr (fun r => { r with mbs := r.mbs.set m.val (g r.mbs[m]) })

/-- The command held in a mailbox (02 R40). -/
def Mailbox.req (b : Mailbox) (m : Fin 17) : Req :=
  let h := memReadBytes b.cmd 0 32
  { mb := m, code := fieldAt h 0 2, tag := fieldAt h 2 2, plen := fieldAt h 4 2, chsel := fieldAt h 6 1
    flags := fieldAt h 7 1, timeout := fieldAt h 8 4, resv := !(allZero (h.drop 12)), door := b.doorbell, abort := b.abort
    payload := memReadBytes b.cmd 32 (min 1024 (fieldAt h 4 2)) }

/-- The expiry tick: that of the host's timeout, if it set one, or of an ABORT that came first (02 R51, R52). -/
def Req.expiry (r : Req) : Option Nat :=
  if r.timeout = 0 then r.abort
  else some (r.abort.elim (r.door + r.timeout * 3000) (fun a => min a (r.door + r.timeout * 3000)))

/-- Whether the expiry tick lies before an instant. -/
def Req.expired (r : Req) (c : Nat) : Bool := match r.expiry with
  | none => false
  | some e => decide (e < c)

/-- Doorbell order: earlier tick, then lower mailbox number (02 R47). -/
def Mailbox.ahead (a : Mailbox) (i : Fin 17) (b : Mailbox) (j : Fin 17) : Bool :=
  decide (a.doorbell < b.doorbell) || (a.doorbell == b.doorbell && decide (i.val ≤ j.val))

/-- Whether the module takes the command of mailbox `m` with this code now (02 R47, R48): it is posted, firmware serves,
it comes first in take order, and nothing else executes, which RESYNC alone need not wait for. -/
def State.mayTake (s : State) (m : Fin 17) (code : Nat) : Bool :=
  let b := s.mbox m
  s.fw.serving && !s.fw.halted && b.state == .posted && b.code == code
    && (code == 0x0001 || s.mr.exec.isNone)
    && (List.finRange 17).all (fun j =>
      let o := s.mbox j
      o.state != .posted || (o.code == 0x0001 && code == 0x0001 && b.ahead m o j)
        || (o.code != 0x0001 && (code == 0x0001 || b.ahead m o j)))

/-- Whether a selector obeys its rule (02 R44). -/
def selForm (f : Sel) (chsel : Nat) : Bool :=
  match f with
  | .none => chsel == 0
  | .one => chsel == 1 || chsel == 2 || chsel == 4 || chsel == 8
  | .any => decide (1 ≤ chsel ∧ chsel ≤ 15)

/-- Steps 1 to 4 of 02 R46, which every command shares: the status of the first that fails. `lenOk` says which payload
lengths the command defines, given the payload. -/
def headerCheck (mode : Nat) (lenOk : Req → Bool) (r : Req) : Option Nat :=
  match cmdSel r.code with
  | none => some eUnknown
  | some f =>
    if r.resv || decide (4 ≤ r.flags) || decide (1024 < r.plen) || !(lenOk r) then some eParam
    else if !(selForm f r.chsel) then some eParam
    else if (selChans r.chsel).any (fun c => !(presentIn mode c)) then some eMode
    else none

/-- The DATA of CMD_DONE and CMD_TIMEOUT (02 R66). -/
def cmdData (mb code tag status detail : Nat) : List Byte :=
  leBytes 1 mb ++ [0#8] ++ leBytes 2 code ++ leBytes 2 tag ++ leBytes 2 status ++ leBytes 4 detail

/-- The severity of a CMD_DONE (02 R66). -/
def cmdSev (status : Nat) : Nat := if status = stOk then sevInfo else if status = eDegraded then sevWarning else sevError

/-- The response header (02 R41). -/
def responseHeader (r : Req) (a : Reply) (rflags doneTicks evseq : Nat) : List Byte :=
  leBytes 2 r.code ++ leBytes 2 r.tag ++ leBytes 2 a.status ++ leBytes 2 a.payload.length
    ++ leBytes 2 (a.key.getD 0) ++ leBytes 1 rflags ++ [0#8] ++ leBytes 4 a.detail ++ leBytes 8 doneTicks
    ++ leBytes 4 evseq ++ List.replicate 4 0#8

/-- RFLAGS of a response (02 R41). -/
def rflagsOf (a : Reply) (late : Bool) : Nat :=
  flag a.key.isSome + 2 * flag late + 4 * flag (a.status == stAccepted)

/-- Write a response and set DONE (02 R38 steps 4 and 5): the commit point `commit` gives DONE_TICKS, NOTIFY sends the
mailbox's vector, LOG logs a CMD_DONE for a command that ends in its response, a timeout having its own event (log entry 27). The relay mailbox keeps its response for RELAY_RSP
(16 R407). -/
def State.respond (s : State) (r : Req) (a : Reply) (commit : Nat) : State :=
  let logs := bitAt r.flags 1 && a.status != stAccepted && a.status != eTimeout
  let ev := if logs then s.nextSeq else a.evseq
  let s1 := if logs then s.logEv 0x0001 (cmdSev a.status) 0 (cmdData r.mb.val r.code r.tag a.status a.detail) else s
  let rf := rflagsOf a (r.expired s1.clk)
  let s2 := s1.modMb r.mb (fun b => { b with
    state := .done, status := a.status, rflags := rf
    rsp := responseHeader r a rf (s.ticksAt commit) ev ++ a.payload })
  let s3 := s2.modPw (fun p => { p with idleAt := s2.clk })
  if r.mb.val = 16 then s3.sendParts s.ar.addr 1 ((s3.mbox r.mb).rsp.take 2048)
  else if bitAt r.flags 0 then s3.msix (s.mbox r.mb).vector else s3

/-- End a command with E_TIMEOUT at its expiry tick `e` (02 R51, R52): no effect, CMD_TIMEOUT logged. -/
def State.timeoutEnd (s : State) (r : Req) (e : Nat) : State :=
  let s0 := s.reach e
  (s0.logEv 0x0002 sevNotice 0 (cmdData r.mb.val r.code r.tag eTimeout 0)).respond r
    ⟨eTimeout, [], none, 0, s0.nextSeq⟩ e

/-- Which statuses the checks before step 7 of 02 R46 give. -/
def beforeState (st : Nat) : Bool := st == eParam || st == eAuth

/-- Commands that the boot ROM serves in recovery (19 R463). -/
def recoveryCmd (code : Nat) : Bool :=
  code == 0x0002 || code == 0x0001 || code == 0x0901 || code == 0x0903 || code == 0x0701 || code == 0x0702

/-- A command's answer: the shared checks, then its own part; in recovery every command that the boot ROM does not serve
fails with E_STATE at step 7 (19 R463). -/
def State.answer (s : State) (r : Req) (lenOk : Req → Bool) (body : Body) : Answer × State :=
  match headerCheck s.mode lenOk r with
  | some st => fails st s
  | none =>
    let x := body r s
    if s.fw.recovery && !(recoveryCmd r.code) then
      match x.1 with
      | .reply a => if beforeState a.status then (.reply a, s) else fails eState s
      | .wait _ => fails eState s
    else x

/-- Bring an answer about: judge its commit point against the expiry tick (02 R51), then respond or stay BUSY. -/
def State.conclude (s : State) (r : Req) (x : Answer × State) : State :=
  if r.expired x.2.clk then s.timeoutEnd r (r.expiry.getD 0)
  else match x.1 with
    | .reply a => x.2.respond r a x.2.clk
    | .wait w => (x.2.modMb r.mb (fun b => { b with state := .busy })).modMr
        (fun m => { m with exec := some ⟨r.mb, x.2.clk, w⟩ })

/-- A command row: at tick `t` the module takes the command of mailbox `m` and executes it. Where no such command is to be
taken, only time passes (log entry 4). -/
def State.command (s : State) (t : Nat) (m : Fin 17) (code : Nat) (lenOk : Req → Bool) (body : Body) : State :=
  let s0 := s.reach t
  if s0.mayTake m code then
    let r := (s0.mbox m).req m
    s0.conclude r (s0.answer r lenOk body)
  else s0

/-- A fixed payload length. -/
def lenIs (n : Nat) : Req → Bool := fun r => r.plen == n

/-- The commit point of a waiting command, where it is known: its taking (14 R367, 15 R383), the boundary after it (09 R231, R246), or,
of an array DISARM, a later one (16 R400). -/
def Wait.commitAt (taken : Nat) : Wait → Option Nat
  | .playStop _ => some taken
  | .force st _ => some st
  | .disarm q _ => some q
  | .hqDestroy _ _ _ _ _ => some taken
  | .arm _ => none
  | .monLoad => none
  | .relay _ => none
  | .arrayArm _ _ => none

/-- Whether the command under execution has passed its commit point at tick `clk`. -/
def Exec.committed (x : Exec) (clk : Nat) : Bool := (x.wait.commitAt x.taken).any (fun b => decide (b ≤ clk))

/-- Whether the command under execution has passed its expiry tick at its commit point, which is instant `c` where it was not known
before (02 R51). -/
def State.execLate (s : State) (c : Nat) : Bool :=
  s.mr.exec.any (fun x => ((s.mbox x.mb).req x.mb).expired ((x.wait.commitAt x.taken).getD c))

/-- Finish the command under execution with an answer of commit point `commit`, which is judged against the expiry tick (02 R38,
R51). While the core is halted no command completes (19 R479): the answer is kept. -/
def State.finish (s : State) (a : Reply) (commit : Nat) : State :=
  match s.mr.exec with
  | none => s
  | some x =>
    let r := (s.mbox x.mb).req x.mb
    let s1 := s.modMr (fun m => { m with exec := none })
    if s.fw.halted then s.modMr (fun m => { m with held := some (a, commit) })
    else if s.execLate commit then s1.timeoutEnd r (r.expiry.getD 0)
    else s1.respond r a commit

/-! Accepted work (02 R49). -/

/-- Whether work of a command code is outstanding. -/
def State.working (s : State) (code : Nat) : Bool := s.mr.work.any (fun w => w.code == code)

/-- Whether the limit of 16 pieces of work is reached. -/
def State.workFull (s : State) : Bool := decide (16 ≤ s.mr.work.length)

/-- Put accepted work on the list. -/
def State.addWork (s : State) (r : Req) (arg arg2 : Nat) : State :=
  s.modMr (fun m => { m with work := m.work ++ [⟨r.mb.val, r.code, r.tag, s.clk, arg, arg2⟩] })

/-- End the first piece of work that satisfies `p`: it leaves the list and CMD_DONE is logged with its final status (02 R49, R66). -/
def State.endWorkIf (s : State) (p : Work → Bool) (status detail : Nat) : State :=
  match s.mr.work.find? p with
  | none => s
  | some w =>
    let s1 := s.modMr (fun m => { m with work := m.work.eraseP p })
    (s1.logEv 0x0001 (cmdSev status) 0 (cmdData w.mb w.code w.tag status detail)).modPw (fun q => { q with idleAt := s.clk })

/-- End the work of a command code. -/
def State.endWork (s : State) (code status detail : Nat) : State := s.endWorkIf (fun w => w.code == code) status detail

/-- The bulk reference at an offset of a payload (02 R42): address, length, and whether its reserved field is zero. -/
def bulkRef (p : List Byte) (o : Nat) : Nat × Nat × Bool := (fieldAt p o 8, fieldAt p (o + 8) 4, fieldAt p (o + 12) 4 == 0)

/-- Whether a bulk reference is well formed. -/
def bulkOk (p : List Byte) (o : Nat) : Bool :=
  let b := bulkRef p o
  b.1 % 8 == 0 && b.2.1 != 0 && b.2.2

/-- The bytes a bulk read delivered, as many as the reference names; none when the read failed. -/
def bulkBytes (p : List Byte) (o : Nat) (bulk : Bulk) : Option (List Byte) := bulk.map (padTo (bulkRef p o).2.1)

/-- The module's read of a bulk reference failed (02 R42): E_HW, and the fault is logged (02 R45), by the command's CMD_DONE whether or
not LOG asks for it (log entry 50). -/
def failsRead : Body := fun r s =>
  if bitAt r.flags 1 then fails eHw s
  else (.reply ⟨eHw, [], none, 0, s.nextSeq⟩, s.logEv 0x0001 sevError 0 (cmdData r.mb.val r.code r.tag eHw 0))

/-! Doorbell writes (02 R35, R37, R38). -/

/-- Set OVERRUN of a mailbox. -/
def State.overrun (s : State) (m : Fin 17) : State := s.modMb m (fun b => { b with overrun := some s.clk })

/-- Post the command a mailbox holds (02 R38 step 2). -/
def State.post (s : State) (m : Fin 17) : State :=
  let r := (s.mbox m).req m
  s.modMb m (fun b => { b with
    state := .posted, tag := r.tag, code := r.code, doorbell := s.clk, doorTicks := s.ticks, abort := none, status := 0, rflags := 0 })

end Sys2Proof.Machine
end

