-- ==== Sys2Proof/Machine/MonSeq.lean ====
section
/-!
DEFINITION. The housekeeping monitor's sequence (18 R442, R446, R447, R456): conversion periods, entries, boundaries, the
table's commit point, and what the monitor domain does to it. Every tick counts as a boundary while the sequence is stopped
(DESIGN CHOICE, log entry 40).
-/

namespace Sys2Proof.Machine

/-- A conversion period in ticks (18 R442). -/
def monPeriod (p : Nat) : Nat :=
  match p with
  | 0 => 60000000
  | 1 => 50000000
  | _ => 300000000

/-- Whether a calibration has been accepted and has not begun (18 R454). -/
def Monitor.calWaits (m : Monitor) : Bool :=
  m.syscal.isSome && (match m.conv with
    | .settle _ => false
    | .cal _ _ _ => false
    | _ => true)

/-- Entry `i` of the table. -/
def Monitor.entry (m : Monitor) (i : Nat) : MonEntry := m.table.getD i ⟨0, 0, 0, false, false, false, 1, 0, 0, 0⟩

/-- The entry that follows entry `i` (18 R446). -/
def Monitor.after (m : Monitor) (i : Nat) : Nat := if i + 1 < m.table.length then i + 1 else 0

/-- Ticks of an entry's delay. -/
def Monitor.delayOf (m : Monitor) (i : Nat) : Nat := (m.entry i).delay * 3000

/-- The conversions of entry `i` begin at tick `b` (18 R446). -/
def Monitor.convert (m : Monitor) (i b : Nat) : Monitor := { m with conv := .run i ((m.entry i).repeats - 1) (b + monPeriod m.period) }

/-- The visit of entry `i` begins at tick `b` with its delay in full; no conversion starts while a calibration or an injection
waits (18 R446, R452, R454). -/
def Monitor.visit (m : Monitor) (i b : Nat) : Monitor :=
  if m.table.isEmpty then { m with conv := .stopped }
  else if m.calWaits then { m with conv := .delay i b }
  else if m.delayOf i = 0 ∧ m.inject.isNone = true then m.convert i b
  else { m with conv := .delay i (b + m.delayOf i) }

/-- Conversion boundary `b`: a change of MN_PERIOD committed before it takes effect (18 R443); in a stopped sequence, at once. -/
def State.monBoundary (s : State) (b : Nat) : State :=
  s.modMon (fun m => { m with period := if m.conv = .stopped then s.mkey 0x1000 else s.keyAt 0x1000 0 (b - 1) })

/-- DATA of a monitor event (18 R457). -/
def monData (entry chan kind tick : Nat) : List Byte :=
  leBytes 1 entry ++ leBytes 1 chan ++ leBytes 1 kind ++ [0#8] ++ leBytes 8 tick

/-- A new table replaces the old one at boundary `b` (18 R447): statistics clear, the sequence starts at entry 0. -/
def Monitor.load (m : Monitor) (tb : List MonEntry) (b : Nat) : Monitor :=
  { m with table := tb, accs := tb.map (fun _ => MonAcc.reset), slot := MonAcc.reset, newTable := none }.visit 0 b

/-- A waiting table takes effect at boundary `b` (18 R447); `on` says whether the monitor runs. -/
def State.startTableAt (s : State) (b : Nat) (on : Bool) : State :=
  match s.mon.newTable with
  | none => s
  | some tb =>
    let s1 := s.modMon (fun m => m.load tb b)
    (if on then s1 else s1.modMon (fun m => { m with conv := .stopped })).logEv 0x1004 sevInfo 0 (monData 0 0 0 0)

/-- The same at the present tick. -/
def State.startTable (s : State) (on : Bool) : State := s.startTableAt s.clk on

/-- A waiting table takes effect and its command ends. -/
def State.monCommit (s : State) (b : Nat) (on : Bool) : State :=
  if s.mon.newTable.isSome then (s.startTableAt b on).finish ⟨stOk, [], none, 0, 0⟩ b else s

/-- A table whose command has expired by boundary `b` is not loaded; the command ends with E_TIMEOUT (02 R51). -/
def State.dropLateTable (s : State) (b : Nat) : State :=
  if s.mon.newTable.isSome && decide (b ≤ s.clk) && s.execLate b then (s.modMon (fun m => { m with newTable := none })).finish ⟨stOk, [], none, 0, 0⟩ b else s

/-- The monitor domain goes off (18 R456): the conversion under way is discarded and pending work ends with E_HW. -/
def State.monOff (s : State) : State :=
  let s1 := s.modMon (fun m => { m with conv := .stopped, resume := .stopped, inject := none, syscal := none })
  let s2 := if s.working 0x0603 then s1.endWork 0x0603 eHw 0 else s1
  let s3 := if s.working 0x0604 then s2.endWork 0x0604 eHw 0 else s2
  (s3.dropLateTable s.clk).monCommit s.clk false

/-- The monitor domain comes on (18 R456): the sequence starts at entry 0 with its delay. -/
def State.monOn (s : State) : State := (s.monBoundary s.clk).modMon (fun m => m.visit 0 s.clk)

/-- The monitor follows its domain. -/
def State.monDomain (s : State) (was on : Bool) : State :=
  if was == on then s else if on then s.monOn else s.monOff

/-- Whether monitor work holds the monitor domain (18 R456). -/
def State.monHolds (s : State) : Bool := s.working 0x0603 || s.working 0x0604

end Sys2Proof.Machine
end

