-- ==== Sys2Proof/Machine/Rotation.lean ====
section
/-!
DEFINITION. What the towers' rotation and the trims are made of: when a tower rotates and its grid (04 R90–R92), ramps of
trims and of the channel correction (05 R116–R119, R132), limits (05 R125).
-/

namespace Sys2Proof.Machine

/-! Slices. -/

/-- Slice `x` of tower `k`. -/
def State.slice (s : State) (k : Fin 4) (x : Fin 33) : Slice := s.tw[k].slices[x]

/-- Change slice `x` of tower `k`. -/
def State.modSlice (s : State) (k : Fin 4) (x : Fin 33) (g : Slice → Slice) : State :=
  s.modTw k (fun w => { w with slices := w.slices.set x.val (g w.slices[x]) })

/-- Whether a tower's common domain is on (17 R421). -/
def State.towerOn (s : State) (k : Fin 4) : Bool := s.domOn (132 + k.val)

/-- Whether a slice's domain is on. -/
def State.sliceOn (s : State) (k : Fin 4) (x : Fin 33) : Bool := s.domOn (33 * k.val + x.val)

/-- The phase a slice serves. -/
def Tower.phaseOf (w : Tower) (x : Fin 33) : Option (Fin 32) := (List.finRange 32).find? (fun p => w.phases[p] == some x)

/-- Whether a slice of the tower waits for a replacement that the graft prepares through the steps of R93 (04 R101). -/
def Tower.retiring (w : Tower) : Bool := w.repl.any (·.ready)

/-- Whether a replacement under R103 is under way. -/
def Tower.replacing (w : Tower) : Bool := w.repl.any (fun r => !r.ready)

/-- Whether a tower rotates (04 R90). -/
def State.rotates (s : State) (k : Fin 4) : Bool :=
  s.towerOn k && s.tw[k].graft.isSome && s.mkey 0x0200 == 1 && !s.tw[k].paused && s.tw[k].known && !s.tw[k].replacing

/-- Whether a tower's graft passes through the steps of R93: while the tower rotates, also for a slice that is to be retired
(04 R90, R101). -/
def State.stepping (s : State) (k : Fin 4) : Bool := s.rotates k

/-- Whether the current target is a phase whose slice waits to be retired: the graft then swaps at the first boundary after READY
instead of at a grid tick (04 R101). On any other target, reached by TARGET or by the order of 04 R91, it swaps as usual, and the
retirement waits until the order comes round (DESIGN CHOICE, log entry 13). -/
def Tower.retires (w : Tower) : Bool := w.repl.any (fun r => r.ready && r.phase == w.target)

/-- The tick of the swap that is scheduled: of a READY graft, the boundary after READY or SWAP_NOW, or the grid tick
(04 R93, R101, R111). -/
def State.swapAt (s : State) (k : Fin 4) : Option Nat :=
  let w := s.tw[k]
  if !(s.rotates k) || w.gstep != .ready then none
  else if w.retires || w.swapNow then some (s.boundaryFrom (w.stepAt + 1))
  else w.grid

/-- A phase gets another slice, or none, at the present tick; which slice took earlier samples stays known (04 R95, R103, R105). -/
def Tower.serve (w : Tower) (p : Fin 32) (x : Option (Fin 33)) (now : Nat) : Tower :=
  { w with phases := w.phases.set p.val x, served := (now, p, w.phases[p]) :: w.served }

/-- The slice that took the sample of phase `p` at slice-clock tick `c`, none where the phase was filled (04 R95, R105). -/
def Tower.sliceAt (w : Tower) (p : Fin 32) (c : Nat) : Option (Fin 33) :=
  match (w.served.filter (fun e => e.2.1 == p && decide (c < e.1))).getLast? with
  | some e => e.2.2
  | none => w.phases[p]

/-- TW_SWAP_PERIOD in ticks (04 R92). -/
def State.swapPeriod (s : State) : Nat := s.mkey 0x0201 * 3000000

/-- The graft's step becomes SELECT on a target (04 R93). -/
def Tower.selectOn (w : Tower) (p : Fin 32) (now : Nat) : Tower :=
  { w with gstep := .select, target := p, stepAt := now, waived := false, lin := none }

/-- A new swap period begins on a target (04 R91, R92). -/
def Tower.newPeriod (w : Tower) (p : Fin 32) (now : Nat) : Tower :=
  { w.selectOn p now with period0 := now, grids := 0, deferred := false, swapNow := false }

/-- A tower that begins or stops rotating (04 R90, R92): its grid starts at the first DSP-cycle boundary, or its graft
abandons its step. -/
def State.syncRotation (s : State) (k : Fin 4) : State :=
  let w := s.tw[k]
  if s.rotates k then
    if w.grid.isSome then s
    else
      let g := s.boundary
      s.modTw k (fun x =>
        let y := if x.gstep == .waiting then x.selectOn x.target s.clk else x
        { y with grid := some (g + k.val * (s.swapPeriod / 4) + s.swapPeriod), period0 := g, grids := 0, deferred := false })
  else if w.gstep == .waiting && w.grid.isNone then s
  else s.modTw k (fun x => { x with gstep := .waiting, grid := none, swapNow := false })

/-- All four towers. -/
def State.syncRotations (s : State) : State := ([0, 1, 2, 3] : List (Fin 4)).foldl (fun a k => a.syncRotation k) s

/-! Loop corrections and timing targets (05 R123, R125). -/


/-- The key of a tower phase in a mode (05 R138). -/
def phaseKey (mode : Nat) (k : Fin 4) (p : Fin 32) : Nat := mode * 128 + 32 * k.val + p.val

/-- The key of a slice. -/
def sliceKey (k : Fin 4) (x : Fin 33) : Nat := 33 * k.val + x.val

/-- The loop correction of a tower phase in the mode in force. -/
def State.loopCorr (s : State) (k : Fin 4) (p : Fin 32) : Int := itemAt s.cal.ws.loop (phaseKey s.mode k p)

/-- The timing target of a slice on a phase (05 R123, R125). -/
def State.timTarget (s : State) (k : Fin 4) (x : Fin 33) (p : Fin 32) : Int :=
  clampInt (-500) 500 ((s.slice k x).aper + s.loopCorr k p)

/-! Limits (05 R116, R125, R148). -/

/-- The phase that a slice's timing trim is set for: the one it serves, or, of a graft connected to its target, the target
(04 R93; 05 R123, R126). -/
def State.trimPhase (s : State) (k : Fin 4) (x : Fin 33) : Option (Fin 32) :=
  let w := s.tw[k]
  if w.graft == some x then
    match w.repl.find? (fun r => !r.ready) with
    | some r => some r.phase
    | none => match w.gstep with
      | .shadow => some w.target
      | .converge => some w.target
      | .match_ => some w.target
      | .ready => some w.target
      | _ => none
  else w.phaseOf x

/-- Whether a slice's timing is limited: the last update of the loop correction of its phase stopped at ±250, or its target lies outside
±500 (05 R125). -/
def State.timBeyond (s : State) (k : Fin 4) (x : Fin 33) : Bool :=
  match s.trimPhase k x with
  | none => false
  | some p =>
    let want := (s.slice k x).aper + s.loopCorr k p
    s.cal.metLoop.contains (phaseKey s.mode k p) || decide (want < -500) || decide (500 < want)

/-- Whether each trim stands at its limit: offset, gain, timing. -/
def Slice.limits (x : Slice) (timBeyond : Bool) : BitVec 3 :=
  BitVec.ofNat 3 (flag (x.ofs == -2048 || x.ofs == 2047) + 2 * flag (x.gain == -512 || x.gain == 511)
    + 4 * flag (timBeyond || x.tim == -500 || x.tim == 500))

/-- Log one limit. -/
def State.logLimit (s : State) (k : Fin 4) (x : Fin 33) (trim : Nat) : State :=
  s.logEv 0x0307 sevWarning (0x11 + k.val) (leBytes 1 x.val ++ leBytes 1 trim ++ [0#8, 0#8] ++ leBytes 8 s.ticks)

/-- Bring a slice's limit marks up to date, logging each limit newly reached. -/
def State.checkLimits (s : State) (k : Fin 4) (x : Fin 33) : State :=
  let old := (s.slice k x).atLim
  let new := (s.slice k x).limits (s.timBeyond k x)
  let s1 := s.modSlice k x (fun v => { v with atLim := new })
  ([0, 1, 2] : List Nat).foldl (fun a i => if new.getLsbD i && !old.getLsbD i then a.logLimit k x i else a) s1

/-! Ramps (05 R118, R119, R132). -/

/-- The present value of a ramped element. -/
def State.elemVal (s : State) : RampElem → Int
  | .ofs k x => (s.slice k x).ofs
  | .gain k x => (s.slice k x).gain
  | .tim k x => (s.slice k x).tim
  | .rangeOfs i => s.cal.rangeO[i]
  | .rangeGain i => s.cal.rangeG[i]
  | .userOfs i => s.cal.userO[i]
  | .userGain i => s.cal.userG[i]

/-- Set a ramped element; earlier values of the channel correction stay known (05 R131, R132). -/
def State.setElem (s : State) (e : RampElem) (v : Int) : State :=
  let past : List (Nat × RampElem × Int) := (s.clk, e, s.elemVal e) :: s.cal.corrHist
  match e with
  | .ofs k x => s.modSlice k x (fun y => { y with ofs := v })
  | .gain k x => s.modSlice k x (fun y => { y with gain := v })
  | .tim k x => s.modSlice k x (fun y => { y with tim := v })
  | .rangeOfs i => s.modCal (fun c => { c with rangeO := c.rangeO.set i.val v, corrHist := past })
  | .rangeGain i => s.modCal (fun c => { c with rangeG := c.rangeG.set i.val v, corrHist := past })
  | .userOfs i => s.modCal (fun c => { c with userO := c.userO.set i.val v, corrHist := past })
  | .userGain i => s.modCal (fun c => { c with userG := c.userG.set i.val v, corrHist := past })

/-- The value a ramped element had at slice-clock tick `c`. -/
def State.elemAt (s : State) (e : RampElem) (c : Nat) : Int :=
  match (s.cal.corrHist.filter (fun h => h.2.1 == e && decide (c < h.1))).getLast? with
  | some h => h.2.2
  | none => s.elemVal e

/-- A READY graft follows a step or jump of the active slice of its target phase (04 R93): its trim moves by as much. -/
def State.follow (s : State) (e : RampElem) (was : Int) : State :=
  let ahead (k : Fin 4) (x : Fin 33) : Option (Fin 33) :=
    if s.tw[k].gstep == .ready && s.tw[k].phases[s.tw[k].target] == some x && s.tw[k].graft != some x then s.tw[k].graft else none
  let d := s.elemVal e - was
  match e with
  | .ofs k x => (ahead k x).elim s (fun g => s.modSlice k g (fun v => { v with ofs := clampInt (-2048) 2047 (v.ofs + d) }))
  | .gain k x => (ahead k x).elim s (fun g => s.modSlice k g (fun v => { v with gain := clampInt (-512) 511 (v.gain + d) }))
  | .tim k x => (ahead k x).elim s (fun g => s.modSlice k g (fun v => { v with tim := clampInt (-500) 500 (v.tim + d) }))
  | _ => s

/-- The limits of the slice whose trim moved, and of a graft that follows it. -/
def State.checkMoved (s : State) (e : RampElem) : State :=
  let both (k : Fin 4) (x : Fin 33) : State :=
    let s1 := s.checkLimits k x
    match s1.tw[k].graft with
    | some g => if s1.tw[k].gstep == .ready then s1.checkLimits k g else s1
    | none => s1
  match e with
  | .ofs k x => both k x
  | .gain k x => both k x
  | .tim k x => both k x
  | _ => s

/-- What one step moves: 1 code or unit, or 20 ppm of a digital gain (05 R132). -/
def rampUnit : RampElem → Nat
  | .rangeGain _ => 20
  | .userGain _ => 20
  | _ => 1

/-- The ramp of an element, if one is under way. -/
def State.rampOf (s : State) (e : RampElem) : Option Ramp := s.cal.ramps.find? (fun r => r.elem == e)

/-- Stop the ramp of an element where it stands. -/
def State.stopRamp (s : State) (e : RampElem) : State := s.modCal (fun c => { c with ramps := c.ramps.filter (fun r => r.elem != e) })

/-- Move an element straight to a value (05 R118, R132); a READY graft follows. -/
def State.jumpTo (s : State) (e : RampElem) (v : Int) : State := ((s.stopRamp e).setElem e v).follow e (s.elemVal e)

/-- A value one step nearer its target. -/
def stepToward (v target : Int) (u : Nat) : Int :=
  if v < target then min target (v + u) else max target (v - u)

/-- The ramps after a step of ramp `r`: one further, or gone after its last step. -/
def advanceRamps (e : RampElem) (r : Ramp) (l : List Ramp) : List Ramp :=
  if r.step + 1 = r.total then l.filter (fun q => q.elem != e)
  else l.map (fun q => if q.elem == e then { q with step := q.step + 1 } else q)

/-- Whether a swap that is due by tick `b` displaces slice `x`: it comes before the ramp steps of its boundary (05 R120). -/
def State.displacedBy (s : State) (k : Fin 4) (x : Fin 33) (b : Nat) : Bool :=
  (s.swapAt k).any (fun t => decide (t ≤ b)) && s.tw[k].phases[s.tw[k].target] == some x

/-- Whether a step of an element is dropped because the swap of its boundary makes its slice the graft (05 R120). -/
def State.stepDropped (s : State) (e : RampElem) (b : Nat) : Bool :=
  match e with
  | .ofs k x => s.displacedBy k x b
  | .gain k x => s.displacedBy k x b
  | .tim k x => s.displacedBy k x b
  | _ => false

/-- The step of an element's ramp that is due by tick `b` (05 R118, R120). -/
def State.rampStepBy (s : State) (e : RampElem) (b : Nat) : State :=
  match s.rampOf e with
  | none => s
  | some r =>
    if b < r.start + (r.step + 1) * r.ivl || s.stepDropped e b then s
    else
      let s1 := s.setElem e (stepToward (s.elemVal e) r.target (rampUnit e))
      let s2 := s1.modCal (fun c => { c with ramps := advanceRamps e r c.ramps })
      (s2.follow e (s.elemVal e)).checkMoved e

/-- The step of an element's ramp that is due. -/
def State.rampStep (s : State) (e : RampElem) : State := s.rampStepBy e s.clk

/-- A target for an element at boundary `b`: a step due there comes first; a ramp to the same target goes on (05 R118–R120). -/
def State.rampTo (s : State) (e : RampElem) (target : Int) (b : Nat) : State :=
  if (s.rampOf e).any (fun r => r.target == target) then s
  else
    let s0 := s.rampStepBy e b
    let n := ceilDiv (target - s0.elemVal e).natAbs (rampUnit e)
    let s1 := s0.stopRamp e
    if n = 0 then s1
    else s1.modCal (fun c => { c with ramps := c.ramps ++ [⟨e, b, 4 * max 1 (s.mkey 0x0300 * 750 / n), n, 0, target⟩] })

/-- Whether any trim of a slice ramps. -/
def State.sliceRamps (s : State) (k : Fin 4) (x : Fin 33) : Bool :=
  s.cal.ramps.any (fun r => r.elem == .ofs k x || r.elem == .gain k x || r.elem == .tim k x)

/-- The ramp of an element ends and the element moves to its target (05 R118). -/
def State.endRamp (s : State) (e : RampElem) : State :=
  match s.rampOf e with
  | none => s
  | some r => s.jumpTo e r.target

/-- The ramps of a slice end and its trims move directly. -/
def State.endRamps (s : State) (k : Fin 4) (x : Fin 33) : State :=
  ((s.endRamp (.ofs k x)).endRamp (.gain k x)).endRamp (.tim k x)

/-- The timing target of a slice on a phase changes at boundary `b`: the trim ramps to it, limits are marked (05 R123, R125). -/
def State.retime (s : State) (k : Fin 4) (x : Fin 33) (p : Fin 32) (b : Nat) : State :=
  (s.rampTo (.tim k x) (s.timTarget k x p) b).checkMoved (.tim k x)

/-- A slice's timing trim moves straight to its target on a phase (05 R145). -/
def State.timeNow (s : State) (k : Fin 4) (x : Fin 33) (p : Fin 32) : State :=
  (s.jumpTo (.tim k x) (s.timTarget k x p)).checkMoved (.tim k x)

end Sys2Proof.Machine
end

