-- ==== Sys2Proof/Machine/Chans.lean ====
section
/-!
DEFINITION. What several units ask about the channels: sequencer tables and the sources they name (09 R233–R236), which
detectors and decimation stages are in use (08 R200, 10 R267), the value grid (10 R255, R256), and the power domains
that follow from all that (17 R422).
-/

namespace Sys2Proof.Machine

/-! Sequencer tables (09 R233–R236). -/

/-- An entry that never matches (09 R234). -/
def transNone : Trans := ⟨0, 0, 0, false, 0, 0#8, 0, 0, 0⟩

/-- The default table of a channel (09 R236). -/
def defaultTable (c : Fin 4) : SeqTable :=
  { init := 0, resume := 0xFF, lim0 := 1, lim1 := 1, tmr0 := 3000000, tmr1 := 3000000
    trans := ⟨1 + c.val, 0, 0, true, 0, 1#8, 0, 0, 0⟩ :: List.replicate 63 transNone }

/-- The table in force: the last ARM's. -/
def State.seqTable (s : State) (c : Fin 4) : SeqTable := s.ch[c].table.getD (defaultTable c)

/-- The table that would come into force at the channel's next ARM (09 R235). -/
def State.nextTable (s : State) (c : Fin 4) : SeqTable := s.ch[c].pendTable.getD (s.seqTable c)

/-- Whether a table names a source in a valid entry. -/
def SeqTable.names (tb : SeqTable) (src : Nat) : Bool := tb.trans.any (fun e => e.valid && e.source == src)

/-- The channel whose detector or threshold a source code names (08 R199). -/
def sourceChan (src : Nat) : Option (Fin 4) :=
  if h : 1 ≤ src ∧ src ≤ 4 then some ⟨src - 1, by omega⟩
  else if h : 8 ≤ src ∧ src ≤ 15 then some ⟨(src - 8) / 2, by omega⟩
  else none

/-- Whether a source code is defined (08 R199). -/
def sourceDefined (src : Nat) : Bool :=
  decide (src ≤ 4) || decide (8 ≤ src ∧ src ≤ 15) || src == 0x10 || src == 0x11 || decide (0x18 ≤ src ∧ src ≤ 0x1B)

/-- Whether channel `c` runs past ARMING (09 R226). -/
def State.armedOn (s : State) (c : Fin 4) : Bool := s.running c && s.ch[c].st != .arming

/-- Whether the pattern of channel `c` names channel `d` (08 R208). -/
def State.patternNames (s : State) (c d : Fin 4) : Bool :=
  s.akey 0x0600 c == 8 && bitsAt (s.akey 0x0608 c) (2 * d.val) 2 != 0

/-- Whether channel `c`'s sequencer or pattern uses the detector of `d` (08 R200). -/
def State.usesDet (s : State) (c d : Fin 4) : Bool := (s.seqTable c).names (1 + d.val) || s.patternNames c d

/-- Whether channel `c`'s sequencer names a threshold of `d` (10 R267). -/
def State.usesFlt (s : State) (c d : Fin 4) : Bool :=
  (s.seqTable c).names (8 + 2 * d.val) || (s.seqTable c).names (9 + 2 * d.val)

/-- Whether channel `c` wants the detector of `d`: its own, past ARMING, or, ARMING included, one that it uses (08 R200). -/
def State.wantsDet (s : State) (c d : Fin 4) : Bool := if c == d then s.armedOn d else s.running c && s.usesDet c d

/-- Whether channel `c`, past ARMING, wants the decimation stage of `d`: its own, or one whose thresholds its sequencer names (10 R267). -/
def State.wantsDec (s : State) (c d : Fin 4) : Bool := s.armedOn c && (c == d || s.usesFlt c d)

/-- Whether the detector of `d` is wanted (08 R200). -/
def State.wantDet (s : State) (d : Fin 4) : Bool := allCh.any (fun c => s.wantsDet c d)

/-- Whether the decimation stage of `d` is wanted (10 R267). -/
def State.wantDec (s : State) (d : Fin 4) : Bool := allCh.any (fun c => s.wantsDec c d)

/-- The last boundary at which the stops ordered of channels take effect; none when one of them has no such order, or there is none. -/
def State.lastStop (s : State) (cs : List (Fin 4)) : Option Nat :=
  if cs.all (fun c => s.ch[c].stopAt.isSome) then (cs.filterMap (fun c => s.ch[c].stopAt.map (·.at_))).max? else none

/-! Front-end delays (05 R114, R146). -/

/-- The front-end delay of a channel's input for the mode in force and an `FE_BWLIMIT`, in units of 2^-24 tick (08 R213). -/
def State.feUnits (s : State) (c : Fin 4) (bw : Nat) : Nat :=
  (divHalfEven (s.cal.ws.feDelay ((c.val * 3 + s.mode) * 7 + bw) * 786432) 15625).toNat

/-! The fixed latencies of the path (01 R19), in slice-clock ticks. -/

/-- From a sample's instant to the corrected sample at the trigger comparators: 96 DSP cycles. -/
def pathTicks : Nat := 384

/-- From the corrected sample to the decimation input: 2 DSP cycles. -/
def decimTicks : Nat := 8

/-- From a corrected or decimated value to its packed word: 10 DSP cycles. -/
def packTicks : Nat := 40

/-! The value grid (10 R255, R256). Instants are fine slice-clock counts. -/

/-- The sample period in fine units: 2^19, 2^18, 2^17. -/
def samplePeriod (mode : Nat) : Nat := fineUnit / samplesPerTick mode

/-- DC_MODE of a channel as its last ARM took it. -/
def State.dcMode (s : State) (c : Fin 4) : Nat := s.akey 0x0800 c

/-- DC_RATIO of a channel as its last ARM took it. -/
def State.dcRatio (s : State) (c : Fin 4) : Nat := s.akey 0x0801 c

/-- DC_MODE of a channel's stage as it took it at its start. -/
def State.decMode (s : State) (c : Fin 4) : Nat := s.decKey 0x0800 c

/-- The value period of a channel's stage in fine units. -/
def State.valuePeriod (s : State) (c : Fin 4) : Nat := s.decKey 0x0801 c * samplePeriod s.mode

/-- Half sample periods from a value's instant to its last input: 2 D (10 R256). -/
def delayHalves (mode ratio order comp : Nat) : Nat :=
  match mode with
  | 2 => 2 * (ratio - 1)
  | 3 => order * (ratio - 1) + 30 * ratio * comp
  | _ => 0

/-- Pipeline DSP cycles after the last input (10 R256). -/
def pipeCycles (mode comp : Nat) : Nat :=
  match mode with
  | 2 => 1
  | 3 => 6 + 4 * comp
  | _ => 0

/-- 2 D of a channel. -/
def State.delayHalves (s : State) (c : Fin 4) : Nat :=
  Sys2Proof.Machine.delayHalves (s.decMode c) (s.decKey 0x0801 c) (s.decKey 0x0802 c) (s.decKey 0x0803 c)

/-- Pipeline cycles of a channel. -/
def State.pipe (s : State) (c : Fin 4) : Nat := pipeCycles (s.decMode c) (s.decKey 0x0803 c)

/-- The nominal fine instant of value `j` of a channel. -/
def State.valueNominal (s : State) (c : Fin 4) (j : Nat) : Int := s.ch[c].dec.grid + (j : Int) * (s.valuePeriod c : Int)

/-- The fine instant of value `j` at the connector plane (01 R20, 10 R256). -/
def State.valueInstant (s : State) (c : Fin 4) (j : Nat) : Int := s.valueNominal c j - (s.ch[c].dec.delay : Int)

/-- The value at or immediately before a fine instant, none before value 0 (10 R261, 08 R222). -/
def State.valueAt (s : State) (c : Fin 4) (fine : Nat) : Option Nat :=
  let d : Int := (fine : Int) + (s.ch[c].dec.delay : Int) - s.ch[c].dec.grid
  if d < 0 then none else some (d / (s.valuePeriod c : Int)).toNat

/-- The start of the DSP cycle that holds a fine instant, as a slice-clock count (01 R17). -/
def State.cycleOf (s : State) (fine : Nat) : Nat :=
  let c := fine / fineUnit
  c - ((c : Int) + valAt s.tm.off s.tm.offHist c).emod 4 |>.toNat

/-- The presentation cycle of an instant (08 R220): 101 cycles after the one that holds it. -/
def State.presentAt (s : State) (fine : Nat) : Nat := s.cycleOf fine + 404

/-- The completion cycle of value `j` (10 R256): the cycle of its last input plus the pipeline. -/
def State.completion (s : State) (c : Fin 4) (j : Nat) : Nat :=
  s.cycleOf (s.valueNominal c j + (s.delayHalves c : Int) * (samplePeriod s.mode : Int) / 2).toNat + 4 * s.pipe c

/-- The last value whose last input lies nominally before a fine instant (10 R256). -/
def State.lastInput (s : State) (c : Fin 4) (lim : Nat) : Option Nat :=
  let d : Int := (lim : Int) - 1 - ((s.delayHalves c * (samplePeriod s.mode / 2) : Nat) : Int) - s.ch[c].dec.grid
  if d < 0 then none else some (d / (s.valuePeriod c : Int)).toNat

/-- The largest filter delay of a channel's FLT sources, in ticks, under the keys `key` gives. -/
def filterDelay (mode : Nat) (key : Nat → Nat) : Nat :=
  ceilDiv (delayHalves (key 0x0800) (key 0x0801) (key 0x0802) (key 0x0803)) (2 * samplesPerTick mode)
    + 4 * pipeCycles (key 0x0800) (key 0x0803)

/-- D_F: the largest filter delay among the FLT sources of present channels that a table names. -/
def tableDelay (mode : Nat) (tb : SeqTable) (key : Fin 4 → Nat → Nat) : Nat :=
  ((allCh.filter (fun d => presentIn mode d && (tb.names (8 + 2 * d.val) || tb.names (9 + 2 * d.val)))).map (fun d => filterDelay mode (key d))).foldl max 0

/-! Power domains (17 R421, R422). -/

/-- Bits of a list of domain numbers. -/
def domMap (ds : List Nat) : BitVec 196 := ds.foldl (fun m d => m ||| (1#196 <<< d)) 0#196

/-- Whether a slice may be powered: not failed, or failed and still serving its phase until it is replaced (04 R99, R101,
R103; 17 R422). -/
def State.sliceLive (s : State) (k : Fin 4) (x : Fin 33) : Bool :=
  s.tw[k].slices[x].cause == 0 || s.tw[k].phases.any (fun p => p == some x)

/-- The domains of a tower: common, slices that are not failed, DSP lanes (17 R421, R422). -/
def State.towerDomains (s : State) (k : Fin 4) : List Nat :=
  (132 + k.val) :: (174 + 4 * k.val) :: (175 + 4 * k.val) :: (176 + 4 * k.val) :: (177 + 4 * k.val)
    :: ((List.finRange 33).filter (fun x => s.sliceLive k x)).map (fun x => 33 * k.val + x.val)

/-- The domains a channel needs while it runs (17 R422; 09 R229 step 2). -/
def State.chanDomains (s : State) (c : Fin 4) : List Nat :=
  (136 + c.val) :: ((s.towers c).flatMap s.towerDomains
    ++ allCh.flatMap (fun d => if s.usesDet c d || s.usesFlt c d then (136 + d.val) :: (s.towers d).flatMap s.towerDomains else []))

/-- The slots' pseudo-channels and the spares: those the module holds in RUN and IDLE (17 R422). -/
def State.workingPcs (s : State) : List (Fin 32) :=
  (List.finRange 32).filter (fun p => s.mem.pcs[p].st != .retired || s.mem.restore == some p)

/-- Whether the acquisition, playback and Nired domains are off as a whole: in SLEEP and deeper, and from step 6 of an entry
(17 R419, R426). -/
def State.asleep (s : State) : Bool := decide (2 ≤ s.pw.st) || s.pw.entry.any (fun e => decide (6 < e.step))

/-- The domains that running channels, outputs, the array with its standby link, ARRAY_JOIN while it works (17 R421) and the host's holds on
towers keep on (17 R422). -/
def State.workHolds (s : State) : List Nat :=
  let run := allCh.flatMap (fun c => if s.running c then s.chanDomains c else [])
  let outs := ([0, 1] : List (Fin 2)).filterMap (fun o =>
    if 2 ≤ s.out[o].st ∨ s.out[o].loading.isSome then some (140 + o.val) else none)
  let arr := ([0, 1, 2] : List (Fin 3)).filterMap (fun p =>
    if s.ar.carries[p] || (s.ar.ports[p] && s.sbLink p) || s.working 0x0801 then some (192 + p.val) else none)
  let tests := ([0, 1, 2, 3] : List (Fin 4)).flatMap (fun k =>
    if s.tw[k].testing then (132 + k.val) :: (List.range 33).map (fun x => 33 * k.val + x) else [])
  let hostTowers := ([0, 1, 2, 3] : List (Fin 4)).flatMap (fun k =>
    if s.pw.hostHeld.getLsbD (132 + k.val) ∨ (List.range 33).any (fun x => s.pw.hostHeld.getLsbD (33 * k.val + x))
    then (132 + k.val) :: (if s.pw.hostHeld.getLsbD (132 + k.val)
      then ((List.finRange 33).filter (fun x => s.sliceLive k x)).map (fun x => 33 * k.val + x.val) else [])
    else [])
  run ++ outs ++ arr ++ tests ++ hostTowers ++ (if s.monHolds then [195] else [])

/-- The domains that the module itself keeps on: in SLEEP the core while its clock runs, and the HBM PHYs while woken (17 R419–R422). -/
def State.ownHolds (s : State) : List Nat :=
  let phys := s.workingPcs.map (fun p => 142 + p.val)
  match s.pw.st with
  | 0 => 190 :: 191 :: phys
  | 1 => 190 :: 191 :: phys
  | 2 => 191 :: ((if s.pw.core then [190] else []) ++ (if s.mem.sr == .on then [] else phys))
  | _ => []

/-- The slices that have failed and serve no phase: they are never powered, whoever holds them (17 R422). -/
def State.deadSlices (s : State) : BitVec 196 :=
  domMap (([0, 1, 2, 3] : List (Fin 4)).flatMap (fun k =>
    ((List.finRange 33).filter (fun x => !s.tw[k].testing && !(s.sliceLive k x))).map (fun x => 33 * k.val + x.val)))

/-- The domains with a holder (17 R422). -/
def State.holders (s : State) : BitVec 196 :=
  if s.asleep then domMap s.ownHolds ||| (if s.pw.st ≤ 2 then (s.pw.hostHeld ||| domMap (if s.monHolds then [195] else [])) &&& bitSpan 195 196 else 0#196)
  else domMap (s.workHolds ++ s.ownHolds) ||| (s.pw.hostHeld &&& ~~~s.deadSlices)

/-- The opened switch of a front end whose domain goes off, or has just come on (03 R82); the time for which it stood open before is
kept for samples that are judged later (03 R81). -/
def State.feDomain (s : State) (i : Fin 4) (was : Bool) (on : Bool) : State :=
  if was == on then s
  else s.modFe i (fun f => { f with
    prot := .openAuto, since := s.clk
    ovPast := if was && f.prot != .closed then (f.since * fineUnit, s.clk * fineUnit) :: f.ovPast else f.ovPast })

/-- Switch the domains to a map: Nired ports, front ends, rotation and the monitor follow (03 R82; 04 R90, R107; 16 R389; 18 R456). -/
def State.setDomains (s : State) (m : BitVec 196) : State :=
  let was := s.pw.onMap
  let s0 := s.modAr (fun a => { a with
    ports := Vector.ofFn (fun (p : Fin 3) => a.ports[p] && m.getLsbD (192 + p.val)), wire := cutWire s.clk (fun p => !(m.getLsbD (192 + p))) a.wire })
  let s1 := (s0.modPw (fun p => { p with onMap := m })).monDomain (was.getLsbD 195) (m.getLsbD 195)
  (([0, 1, 2, 3] : List (Fin 4)).foldl (fun a i => a.feDomain i (was.getLsbD (136 + i.val)) (m.getLsbD (136 + i.val))) s1).syncRotations

/-- Bring the domains in line with their holders (17 R422). -/
def State.syncDomains (s : State) : State := s.setDomains s.holders

end Sys2Proof.Machine
end

