-- ==== Sys2Proof/Machine/Format.lean ====
section
/-!
DEFINITION. Packing values into 64-bit words (01 R21–R27). Entries 0 to 3 are written as packing descriptors of R26 too,
whose rules give the same words; entry 4 serves accumulation results alone.
-/

namespace Sys2Proof.Machine

/-- A packing descriptor (01 R26): values per word, width, source (0 16-bit form, 1 32-bit form), alignment, sign, tags. -/
structure FmtSpec where
  count  : Nat
  width  : Nat
  src    : Nat
  align  : Nat
  signed : Bool
  tags   : Nat
deriving DecidableEq, Repr

/-- A loaded entry's descriptor. -/
def fmtOfKey (v : Nat) : FmtSpec := ⟨bitsAt v 8 4, bitsAt v 0 7, bitsAt v 20 2, bitsAt v 18 2, bitAt v 17, bitsAt v 24 4⟩

/-- The format table (01 R21): an entry, and the descriptor loaded in it where it is one of 5 to 7. -/
def fmtEntry (f desc : Nat) : FmtSpec :=
  match f with
  | 0 => ⟨5, 12, 0, 1, true, 15⟩
  | 1 => ⟨4, 16, 0, 0, true, 0⟩
  | 2 => ⟨2, 32, 1, 0, true, 0⟩
  | 3 => ⟨2, 32, 1, 0, true, 0⟩
  | 4 => ⟨1, 64, 1, 0, true, 0⟩
  | _ => fmtOfKey desc

/-- An entry of the format table in force. -/
def State.fmtSpec (s : State) (f : Nat) : FmtSpec := fmtEntry f (s.mkey (0x0A00 + f))

/-- Values per word of a format entry; 1 for an entry that is not loaded. -/
def State.perWord (s : State) (f : Nat) : Nat := max 1 (s.fmtSpec f).count

/-- Words that `n` values take (01 R24). -/
def State.wordsOf (s : State) (f n : Nat) : Nat := ceilDiv n (s.perWord f)

/-- A value on its way into a word: its two forms' parts and its tags (01 R23). -/
structure Tagged where
  lo  : Int
  hi  : Int
  trg : Bool
  ovr : Bool
  set : Bool
  mrk : Bool
deriving DecidableEq, Repr

/-- The 16-bit form of a value (10 R254). -/
def form16 (v : Tagged) : Int := v.lo

/-- The 32-bit form of a value under DC_MODE and DC_OUT_WIDTH (10 R254). -/
def form32 (mode width : Nat) (v : Tagged) : Int :=
  match mode with
  | 2 => decInt 32 (encInt 16 v.lo + 65536 * encInt 16 v.hi)
  | 3 => if width = 1 then v.lo else v.lo * 65536
  | _ => v.lo * 65536

/-- A source value in a field of `w` bits, and whether it saturated (01 R22, R26). -/
def fitField (f : FmtSpec) (x : Int) : Int × Bool :=
  let sw := if f.src = 0 then 16 else 32
  if sw ≤ f.width then ((if f.align = 0 then x else x * (2 : Int) ^ (f.width - sw)), false)
  else
    let y := if f.align = 0 then x else divHalfEven x (2 ^ (sw - f.width))
    let z := clampInt (-(2 : Int) ^ (f.width - 1)) ((2 : Int) ^ (f.width - 1) - 1) y
    (z, z != y)

/-- The bits of a field: two's complement, or offset binary with its most significant bit inverted (01 R26). -/
def fieldBits (f : FmtSpec) (z : Int) : Nat :=
  if f.signed then encInt f.width z else encInt f.width (z + (2 : Int) ^ (f.width - 1))

/-- The field of one value and its OVR tag, saturation included (01 R26). -/
def packValue (f : FmtSpec) (mode width : Nat) (v : Tagged) : Nat × Bool :=
  let p := fitField f (if f.src = 0 then form16 v else form32 mode width v)
  (fieldBits f p.1, v.ovr || p.2)

/-- The tag bits of a word, those selected taking the top bits in the order TRG, OVR, SET, MRK (01 R26). -/
def tagBits (tags : Nat) (bits : List Bool) : Nat :=
  let sel := ((List.range 4).zip bits).filter (fun p => bitAt tags p.1)
  ((sel.zip (List.range sel.length)).map (fun p => flag p.1.2 * 2 ^ (64 - sel.length + p.2))).sum

/-- The word of up to `count` values (01 R23–R26). -/
def packWord (f : FmtSpec) (mode width : Nat) (vs : List Tagged) : Nat :=
  let ps := vs.map (packValue f mode width)
  ((ps.zip (List.range ps.length)).map (fun p => p.1.1 * 2 ^ (f.width * p.2))).sum
    + tagBits f.tags [vs.any (·.trg), ps.any (·.2), vs.any (·.set), vs.any (·.mrk)]

/-- Cut a list into runs of `n`, at most `fuel` of them. -/
def chunksOf {α : Type} (n : Nat) : Nat → List α → List (List α)
  | 0, _ => []
  | fuel + 1, l => if l.isEmpty then [] else l.take n :: chunksOf n fuel (l.drop n)

/-- The words of a list of values (01 R24). -/
def packWords (f : FmtSpec) (mode width : Nat) (vs : List Tagged) : List Nat :=
  (chunksOf (max 1 f.count) vs.length vs).map (packWord f mode width)

/-- The bytes of a list of words. -/
def wordBytes (ws : List Nat) : List Byte := ws.flatMap (leBytes 8)

end Sys2Proof.Machine
end

