-- ==== Sys2Proof/Machine/Trellis.lean ====
section
/-!
DEFINITION. Pages, chains, segments, quotas, reclaim (12 R289–R305; the allocator's rotation of 13 R318).
-/

namespace Sys2Proof.Machine

/-- Pages of one slot (12 R289). -/
def slotPages : Nat := 28672

/-- Whether a page is used by channel `c`: data, descriptors or accumulation (12 R289). -/
def Use.of (u : Use) (c : Fin 4) : Bool :=
  match u with
  | .data d => d == c
  | .desc d => d == c
  | .acc d => d == c
  | .playback _ => false

/-- Pages a channel holds (12 R289). -/
def State.heldPages (s : State) (c : Fin 4) : Nat := (s.tr.pages.filter (fun p => p.use.of c)).length

/-- Pages in playback regions. -/
def State.playPages (s : State) : Nat := (s.tr.pages.filter (fun p => match p.use with
  | .playback _ => true
  | _ => false)).length

/-- Free pages in the pool. -/
def State.freePages (s : State) : Nat := s.tr.total - s.tr.pages.length

/-- Whether a page is in use. -/
def State.pageUsed (s : State) (n : Nat) : Bool := s.tr.pages.any (fun p => p.num == n)

/-- The first number from `lo` that an ascending list does not hold. -/
def firstGap : Nat → List Nat → Nat
  | lo, [] => lo
  | lo, x :: xs => if x < lo then firstGap lo xs else if x = lo then firstGap (lo + 1) xs else lo

/-- The lowest free page of a slot (13 R318). -/
def State.freeInSlot (s : State) (k : Nat) : Option Nat :=
  match s.mem.slots.getD k none with
  | none => none
  | some _ =>
    let g := firstGap (k * slotPages) (s.tr.pages.map (·.num))
    if g < (k + 1) * slotPages then some g else none

/-- The slots in rotation order after the slot of the previous page (13 R318). -/
def State.slotOrder (s : State) : List Nat :=
  let n := s.mem.slots.length
  (List.range n).map (fun i => (s.tr.lastSlot + 1 + i) % max 1 n)

/-- The tick at which a slot last gave a page. -/
def State.slotLast (s : State) (k : Nat) : Option Nat := (s.tr.slotAt.find? (fun e => e.1 == k)).map (·.2)

/-- Whether a slot may give a page now: with fewer than 25 slots that have free pages, one page per 3,901 ticks (13 R318). -/
def State.slotReady (s : State) (few : Bool) (k : Nat) : Bool :=
  !few || match s.slotLast k with
    | none => true
    | some a => decide (a + 3901 ≤ s.clk)

/-- What an allocation finds: a page and its slot, that it must wait, or nothing (13 R318). -/
inductive Pick where
  | page (n k : Nat)
  | wait
  | none
deriving DecidableEq, Repr

/-- The page the allocator would hand out (13 R318). -/
def State.pick (s : State) : Pick :=
  let free := s.slotOrder.filterMap (fun k => (s.freeInSlot k).map (fun n => (n, k)))
  let few := decide (free.length < 25)
  match free.find? (fun e => s.slotReady few e.2) with
  | some e => .page e.1 e.2
  | none => if free.isEmpty then .none else .wait

/-- The tick at which a slot can give its next page: with fewer than 25 slots that have free pages, 3,901 ticks after the one before
(13 R318). -/
def State.giveTick (s : State) (k : Nat) : Nat :=
  if (s.slotOrder.filterMap s.freeInSlot).length < 25 then max s.clk ((s.slotLast k).elim 0 (· + 3901)) else s.clk

/-- The page that a slot gives first, the next in rotation among equals, for one who waits for it (13 R318). -/
def State.nextPage (s : State) : Option (Nat × Nat) :=
  (s.slotOrder.filterMap (fun k => (s.freeInSlot k).map (fun n => (n, k)))).foldl (fun b e => match b with
    | none => some e
    | some x => if s.giveTick e.2 < s.giveTick x.2 then some e else some x) none

/-- Put a page entry in its place, ascending. -/
def insertPage (p : Page) : List Page → List Page
  | [] => [p]
  | q :: qs => if p.num < q.num then p :: q :: qs else q :: insertPage p qs

/-- Take page `n` of slot `k` into use, from the tick on at which the slot gives it (12 R290, 13 R318). -/
def State.takePage (s : State) (n k : Nat) (u : Use) : State :=
  s.modTr (fun t => { t with
    pages := insertPage ⟨n, u, false⟩ t.pages
    lastSlot := k
    slotAt := (k, s.giveTick k) :: t.slotAt.filter (fun e => e.1 != k) })

/-- Return pages to the pool (12 R291; their poison clears, 13 R325; their words read zero, 13 R324, 14 R361, log entry 5). -/
def State.returnPages (s : State) (ns : List Nat) : State :=
  s.modTr (fun t => { t with
    pages := t.pages.filter (fun p => !(ns.contains p.num))
    poison := t.poison.filter (fun w => !(ns.contains (w / 4096)))
    mem := t.mem.filter (fun e => !(ns.contains (e.1 / 32768))) })

/-- Whether a segment has this name. -/
def Seg.is (g : Seg) (c : Fin 4) (a i : Nat) : Bool := g.ch == c && g.acq == a && g.idx == i

/-- A held segment by name. -/
def State.seg? (s : State) (c : Fin 4) (a i : Nat) : Option Seg := s.tr.segs.find? (fun g => g.is c a i)

/-- Change a held segment. -/
def State.modSeg (s : State) (c : Fin 4) (a i : Nat) (g : Seg → Seg) : State :=
  s.modTr (fun t => { t with segs := t.segs.map (fun x => if x.is c a i then g x else x) })

/-- An acquisition by name. -/
def State.acq? (s : State) (c : Fin 4) (a : Nat) : Option Acq := s.tr.acqs.find? (fun q => q.ch == c && q.num == a)

/-- Change an acquisition. -/
def State.modAcq (s : State) (c : Fin 4) (a : Nat) (g : Acq → Acq) : State :=
  s.modTr (fun t => { t with acqs := t.acqs.map (fun x => if x.ch == c && x.num == a then g x else x) })

/-- The descriptor page of a segment: the page of its slot in the acquisition's descriptor chain (12 R291). -/
def State.descPage (s : State) (c : Fin 4) (a i : Nat) : Option Nat :=
  (s.acq? c a).bind (fun q => (q.descPg.find? (fun e => e.1 == i / 1024)).map (·.2))

/-- Pages that a channel's held segments, its running acquisition and its accumulation need (12 R291, 11 R283). -/
def State.neededPages (s : State) (c : Fin 4) : List Nat :=
  let mine := s.tr.segs.filter (fun g => g.ch == c)
  mine.flatMap (fun g => g.pages ++ g.reserved)
    ++ mine.flatMap (fun g => (s.descPage c g.acq g.idx).toList)
    ++ (if s.armedOn c then
          (s.acq? c s.ch[c].acq).elim [] (fun q => q.lastPg.toList ++ ((q.descPg.getLast?).map (·.2)).toList)
        else [])
    ++ s.ch[c].acc.pages ++ s.ch[c].acc.foldPgs

/-- OVER_QUOTA clears when the held pages fit the quota (12 R304). -/
def State.quotaCheck (s : State) (c : Fin 4) : State :=
  if s.ch[c].overQuota ∧ s.heldPages c ≤ s.ch[c].quota then
    (s.modCh c (fun h => { h with overQuota := false })).logEv 0x0A02 sevInfo (c.val + 1)
      (leBytes 4 (s.heldPages c) ++ leBytes 4 s.ch[c].quota)
  else s

/-- Return every page of channel `c` that nothing needs any more, and forget acquisitions that hold nothing (12 R291). -/
def State.sweep (s : State) (c : Fin 4) : State :=
  let need := s.neededPages c
  let gone := (s.tr.pages.filter (fun p => p.use.of c && !(need.contains p.num))).map (·.num)
  let s1 := (s.returnPages gone).modTr (fun t => { t with
    acqs := (t.acqs.map (fun q => if q.ch == c then
        { q with descPg := q.descPg.filter (fun e => !(gone.contains e.2))
                 lastPg := q.lastPg.bind (fun p => if gone.contains p then none else some p) } else q)).filter
      (fun q => q.ch != c || q.num == s.ch[c].acq || t.segs.any (fun g => g.ch == c && g.acq == q.num)) })
  s1.quotaCheck c

/-- A segment is gone: its pages return and its slot is released (12 R303). -/
def State.dropSeg (s : State) (c : Fin 4) (a i : Nat) : State :=
  (s.modTr (fun t => { t with segs := t.segs.filter (fun g => !(g.is c a i)) })).sweep c

/-- Whether the channel accumulates. -/
def State.accum (s : State) (c : Fin 4) : Bool := s.akey 0x0900 c != 0

/-- Whether the channel records continuously (12 R296). -/
def State.contin (s : State) (c : Fin 4) : Bool := s.akey 0x0A01 c == 1 && !(s.accum c)

/-- Whether a segment counts as open: its last value has not come, or it is of a continuous recording and its descriptor is not written
(12 R296). -/
def State.countsOpen (_ : State) (g : Seg) : Bool := !g.closed || (g.cont && !g.written)

/-- Whether a descriptor that harvest took in the present DSP cycle names a segment (12 R314, 14 R373). -/
def State.takenNow (s : State) (e : Executing) (g : Seg) : Bool :=
  s.cycleOf (e.at_ * fineUnit) == s.cycleOf (s.clk * fineUnit) && e.segs.contains (g.ch, g.acq, g.idx)

/-- How often a segment is busy, takes of the present DSP cycle left out: a reclaim of that cycle prevails over them (12 R314, 14
R373). -/
def State.busyBefore (s : State) (g : Seg) : Nat :=
  g.busy - (s.hv.qs.toList.map (fun h => (h.exec.filter (fun e => s.takenNow e g)).length)).sum

/-- The segment RING would reclaim: the channel's oldest closed one that is neither pinned nor busy (12 R296, R303). -/
def State.reclaimable (s : State) (c : Fin 4) : Option Seg :=
  s.tr.segs.find? (fun g => g.ch == c && !(s.countsOpen g) && !g.pinned && s.busyBefore g == 0)

/-- Descriptors taken in this cycle find a reclaimed segment gone: it counts in their SKIPPED (14 R373). -/
def State.skipTaken (s : State) (g : Seg) : State :=
  s.modHv (fun h => { h with qs := h.qs.map (fun x => { x with exec := x.exec.map (fun e =>
    if s.takenNow e g then { e with segs := e.segs.filter (fun n => n != (g.ch, g.acq, g.idx)), skipped := e.skipped + 1 } else e) }) })

/-- Reclaim one segment (12 R303). -/
def State.reclaimOne (s : State) (c : Fin 4) (g : Seg) : State :=
  let s1 := (s.skipTaken g).dropSeg c g.acq g.idx
  (s1.modCh c (fun h => { h with reclaimed := satAdd 32 h.reclaimed 1, fReclaim := some s.clk })).modTr
    (fun t => { t with reclaimedPages := t.reclaimedPages + (s.tr.pages.length - s1.tr.pages.length) })

/-- What an allocation for a channel meets: refused by quota or an empty pool, held for want of a slot, or a page (12 R300, 13 R318). -/
inductive Grant where
  | page (n k : Nat)
  | wait
  | refused
deriving DecidableEq, Repr

/-- The answer to one request of a channel for a page (12 R300; 13 R318: what waits must fit the write-combining area of
128 KiB a tower, four pages). -/
def State.request (s : State) (c : Fin 4) : Grant :=
  if s.ch[c].quota < s.heldPages c + 1 then .refused
  else match s.pick with
    | .page n k => .page n k
    | .wait => if (s.tr.held.filter (fun h => h.ch == c)).length < 4 * (s.towers c).length then .wait else .refused
    | .none => .refused

/-- Count a refusal (12 R300). -/
def State.countRefused (s : State) (c : Fin 4) : State :=
  (s.modCh c (fun h => { h with refAlloc := satAdd 32 h.refAlloc 1 })).modTr (fun t => { t with refused := t.refused + 1 })

/-- Reclaim as often as there is something to reclaim, until a page can be given (12 R301, R303): the state and the last answer. -/
def State.requestRing (c : Fin 4) : Nat → State → State × Grant
  | 0, s => (s, s.request c)
  | n + 1, s =>
    match s.request c with
    | .refused =>
      match s.reclaimable c with
      | some g => State.requestRing c n (s.reclaimOne c g)
      | none => (s, .refused)
    | g => (s, g)

/-- Request a page under the channel's fill mode: a refusal counts once, and RING then reclaims until the allocation succeeds (12 R300,
R301). -/
def State.allocate (s : State) (c : Fin 4) : State × Grant :=
  match s.request c with
  | .refused =>
    let s1 := s.countRefused c
    if s.akey 0x0A00 c = 1 then State.requestRing c s1.tr.segs.length s1 else (s1, .refused)
  | g => (s, g)

/-- Hold an allocation until a slot can give a page, once for each chain (13 R318). -/
def State.holdAlloc (s : State) (c : Fin 4) (desc : Option Nat) : State :=
  if s.tr.held.any (fun h => h.ch == c && h.desc == desc) then s
  else s.modTr (fun t => { t with held := t.held ++ [⟨c, s.clk, desc⟩] })

/-- Words a segment's pages can hold. -/
def Seg.capacity (g : Seg) : Nat := g.pages.length * 4096 - g.firstWord

/-- Add a page at the end of an open segment's chain (12 R291). -/
def State.addSegPage (s : State) (c : Fin 4) (a i n : Nat) : State :=
  (s.modSeg c a i (fun g => { g with pages := g.pages ++ [n] })).modAcq c a (fun q => { q with lastPg := some n, used := 0 })

/-- What `ensureWords` answers: the words fit, they wait for a held allocation, or a page was refused. -/
inductive Ensured where
  | fit | waits | refused
deriving DecidableEq, Repr

/-- Allocate pages until segment `i` can hold `n` words, at most `fuel` of them; GATED takes them from its reservation (12 R300–R302).
`now` says that a page which would wait for its slot is taken for the tick at which the slot gives it. -/
def State.ensureWords (c : Fin 4) (a i n : Nat) (now : Bool) : Nat → State → State × Ensured
  | 0, s => (s, .fit)
  | fuel + 1, s =>
    match s.seg? c a i with
    | none => (s, .fit)
    | some g =>
      if n ≤ g.capacity then (s, .fit)
      else match g.reserved with
        | p :: rest => State.ensureWords c a i n now fuel
            ((s.modSeg c a i (fun x => { x with reserved := rest })).addSegPage c a i p)
        | [] =>
          let r := s.allocate c
          match r.2 with
          | .page p k => State.ensureWords c a i n now fuel ((r.1.takePage p k (.data c)).addSegPage c a i p)
          | .wait =>
            match (if now then r.1.nextPage else none) with
            | some e => State.ensureWords c a i n now fuel ((r.1.takePage e.1 e.2 (.data c)).addSegPage c a i e.1)
            | none => (r.1.holdAlloc c none, .waits)
          | .refused => (r.1, .refused)

/-- Pages a number of words can call for. -/
def wordFuel (n : Nat) : Nat := n / 4096 + 2

/-- The values that fit the pages a segment has (12 R301). -/
def State.fitting (s : State) (g : Seg) : Nat := g.capacity * s.perWord g.fmt

/-- TR_PAGES_PINNED: pages with words or descriptors of pinned segments (12 R305). -/
def State.pinnedPages (s : State) (c : Fin 4) : Nat :=
  let pins := s.tr.segs.filter (fun g => g.ch == c && g.pinned)
  let ps := pins.flatMap (fun g => g.pages ++ (s.descPage c g.acq g.idx).toList)
  (s.tr.pages.filter (fun p => p.use.of c && ps.contains p.num)).length

/-! The page table (12 R290). -/

/-- The pages of a list without those that repeat the one before. -/
def dedupPages : List Nat → List Nat
  | [] => []
  | [x] => [x]
  | x :: y :: l => if x = y then dedupPages (y :: l) else x :: dedupPages (y :: l)

/-- The data chain of an acquisition: the pages of its held segments in order, then its last page (12 R291). -/
def State.dataChain (s : State) (q : Acq) : List Nat :=
  dedupPages ((s.tr.segs.filter (fun g => g.ch == q.ch && g.acq == q.num && !g.result)).flatMap (·.pages) ++ q.lastPg.toList)

/-- The chains of pages: of each acquisition its data and its descriptors, result segments, accumulation and playback regions. -/
def State.chains (s : State) : List (List Nat) :=
  s.tr.acqs.flatMap (fun q => [s.dataChain q, q.descPg.map (·.2)]) ++ (s.tr.segs.filter (·.result)).map (·.pages)
    ++ allCh.flatMap (fun c => [s.ch[c].acc.pages, s.ch[c].acc.foldPgs])
    ++ ([0, 1] : List (Fin 2)).map (fun o => s.out[o].region)

/-- What follows a number in a list. -/
def nextIn (n : Nat) : List Nat → Option Nat
  | [] => none
  | x :: l => if x = n then l.head? else nextIn n l

/-- NEXT of a page: the page after it in its chain, 0xF_FFFF at the end (12 R290). -/
def State.pageNext (s : State) (n : Nat) : Nat := (s.chains.findSome? (nextIn n)).getD 0xFFFFF

/-- Whether a page holds words of a segment, or its descriptor. -/
def State.pageServes (s : State) (n : Nat) (g : Seg) (desc : Bool) : Bool :=
  g.pages.contains n || (desc && s.descPage g.ch g.acq g.idx == some n)

/-- USE, CHANNEL and PLAYBACK of a page's use. -/
def Use.bits : Use → Nat
  | .data c => 2 ^ 30 + 2 ^ 28 * c.val
  | .desc c => 2 ^ 31 + 2 ^ 28 * c.val
  | .acc c => 2 ^ 31 + 2 ^ 30 + 2 ^ 28 * c.val
  | .playback _ => 2 ^ 31 + 2 ^ 30 + 2 ^ 27

/-- The 32-bit entry of a page in the page table (12 R290). -/
def State.pageEntry (s : State) (n : Nat) : Nat :=
  match s.tr.pages.find? (fun p => p.num == n) with
  | none => 0xFFFFF
  | some p => p.use.bits + 2 ^ 26 * flag (s.tr.segs.any (fun g => g.pinned && s.pageServes n g true)) + 2 ^ 25 * flag p.poison
      + 2 ^ 24 * flag (s.tr.segs.any (fun g => g.busy != 0 && s.pageServes n g false)) + s.pageNext n

/-- The 32 bytes of a descriptor (12 R298). -/
def Seg.descBytes (g : Seg) : List Byte :=
  let lo := g.stamp.ticks + 2 ^ 64 * (g.stamp.frac % fineUnit) + 2 ^ 88 * g.stamp.qual.toNat
  let mid := 2 ^ 96 * (g.length % 2 ^ 40) + 2 ^ 136 * g.source + 2 ^ 144 * g.idx
    + 2 ^ 168 * (g.pages.headD 0) + 2 ^ 188 * g.firstWord
  let hi := 2 ^ 200 * (if g.trgIn then g.trgOff % 2 ^ 40 else 0) + 2 ^ 240 * g.fmt + 2 ^ 244 * flag g.trgIn
    + 2 ^ 245 * flag g.ovr + 2 ^ 246 * flag g.set + 2 ^ 247 * flag g.mrk + 2 ^ 248 * flag g.oos + 2 ^ 249 * flag g.tq
    + 2 ^ 250 * flag g.auto + 2 ^ 251 * flag g.preCut + 2 ^ 252 * flag g.trunc + 2 ^ 253 * flag g.stopped
    + 2 ^ 254 * flag g.poisoned + 2 ^ 255 * flag g.result
  leBytes 32 (lo + mid + hi)

/-- The byte address of word `w` of page `p`. -/
def wordAddr (p w : Nat) : Nat := p * 32768 + 8 * w

/-- Write bytes into the words of a chain: page by page, from word `w` of the first page. -/
def writeChain : List Nat → Nat → List Byte → Memory → Memory
  | [], _, _, m => m
  | p :: ps, w, bs, m =>
    let n := (4096 - w) * 8
    writeChain ps 0 (bs.drop n) (memWriteBytes m (wordAddr p w) (bs.take n))

/-- Whether word `x` of acquisition memory is one of `n` words of a chain from word `w` on. -/
def covers (ps : List Nat) (w n x : Nat) : Bool :=
  match ps.findIdx? (fun p => p == x / 4096) with
  | none => false
  | some k => decide (w ≤ k * 4096 + x % 4096 ∧ k * 4096 + x % 4096 < w + n)

/-- Whole words are written to a chain from word `w` on: the write clears the poison of each (13 R324, R325). -/
def State.storeWords (s : State) (ps : List Nat) (w : Nat) (bs : List Byte) : State :=
  s.modTr (fun t => { t with mem := writeChain ps w bs t.mem, poison := t.poison.filter (fun x => !(covers ps w (bs.length / 8) x)) })

/-- Bytes of a chain of pages from word `w` on, `n` words; a poisoned word reads zero (13 R325). -/
def State.readWord (s : State) (p w : Nat) : List Byte :=
  if s.tr.poison.contains (p * 4096 + w) then List.replicate 8 0#8 else memReadBytes s.tr.mem (wordAddr p w) 8

/-- The page and word of word `i` of a segment. -/
def Seg.place (g : Seg) (i : Nat) : Nat × Nat :=
  (g.pages.getD ((g.firstWord + i) / 4096) 0, (g.firstWord + i) % 4096)

/-- A SEG_ID (12 R299). -/
def segId (c : Fin 4) (a i : Nat) : Nat := 2 ^ 62 * c.val + 2 ^ 32 * a + i

/-- Full words a segment of `n` values takes for admission and quotas (12 R302). -/
def unitPages (w : Nat) : Nat := ceilDiv w 4096 + 1

end Sys2Proof.Machine
end

