-- ==== Sys2Proof/Machine/FrontEnd.lean ====
section
/-!
DEFINITION. The front ends of the inputs (03): overload detection, protection, settling.
-/

namespace Sys2Proof.Machine

/-- Ticks of one second. -/
def second : Nat := 3000000000

/-- DATA of a front-end event (03 R83). -/
def feData (i : Fin 4) (count tick : Nat) : List Byte := leBytes 1 i.val ++ [0#8] ++ leBytes 2 count ++ leBytes 8 tick

/-- Whether the front-end domain of an input is on (17 R421). -/
def State.feOn (s : State) (i : Fin 4) : Bool := s.domOn (136 + i.val)

/-- Log the overload intervals that wait, when a second has passed since the last FE_OVERLOAD of the input (03 R83). -/
def State.feFlush (s : State) (i : Fin 4) : State :=
  let f := s.fe[i]
  if f.ovCount = 0 then s
  else if f.ovLog.elim true (fun a => decide (a + second ≤ s.clk)) then
    (s.modFe i (fun x => { x with ovCount := 0, ovLog := some s.clk })).logEv 0x0101 sevWarning 0
      (feData i (min 65535 f.ovCount) f.ovFirst)
  else s

/-- Whether the overload detector of an input is asserted at a fine instant, as far as the record of its last interval and
the switch tell (03 R81). -/
def FrontEnd.asserted (f : FrontEnd) (fine : Nat) : Bool :=
  (f.prot != .closed && decide (f.since * fineUnit ≤ fine)) || decide (f.ovFrom ≤ fine ∧ fine < f.ovUntil)

/-- The intervals of fine instants, last and earlier ones, in which the detector was asserted, closed by tick `now` while the switch
is open. -/
def FrontEnd.overs (f : FrontEnd) (now : Nat) : List (Nat × Nat) :=
  (if f.prot != .closed then [(f.since * fineUnit, (now + 1) * fineUnit)] else []) ++ (f.ovFrom, f.ovUntil) :: f.ovPast

/-- The earlier intervals once a new one begins. -/
def FrontEnd.ovKept (f : FrontEnd) : List (Nat × Nat) := if f.ovUntil = 0 then f.ovPast else (f.ovFrom, f.ovUntil) :: f.ovPast

/-- An asserted interval `[a, b)` of fine instants: it joins the one before when they touch, and counts as a new one otherwise (03 R81, R83). -/
def State.feInterval (s : State) (i : Fin 4) (a b : Nat) : State :=
  let f := s.fe[i]
  if f.asserted a then s.modFe i (fun x => { x with ovUntil := max x.ovUntil b })
  else s.modFe i (fun x => { x with
    ovFrom := a, ovUntil := b, ovPast := x.ovKept, ovCount := x.ovCount + 1
    ovFirst := if x.ovCount = 0 then s.ticksAt (a / fineUnit) else x.ovFirst })

/-- The signal lies beyond the threshold from one fine instant, `first`, to another, `last` (03 R81): asserted until 12 ticks after. -/
def State.overload (s : State) (i : Fin 4) (first last : Nat) : State :=
  if s.feOn i && decide (first ≤ last) then (s.feInterval i first (last + 12 * fineUnit)).feFlush i else s

/-- Open the protection switch (03 R82): OPEN_AUTO, or OPEN_HELD when the host recovers it or this is the ninth opening
within a second. -/
def State.feTrip (s : State) (i : Fin 4) : State :=
  if s.feOn i && s.fe[i].prot == .closed then
    let opens := s.clk :: s.fe[i].openings.filter (fun o => decide (s.clk < o + second))
    let n := opens.length
    let host := s.ckey 0x0105 i == 1
    let ninth := !host && decide (9 ≤ n)
    let s1 := (s.feInterval i (s.clk * fineUnit) ((s.clk + 1) * fineUnit)).modFe i (fun x => { x with
      prot := if host || ninth then .openHeld else .openAuto, openings := opens, since := s.clk })
    let s2 := s1.logEv 0x0102 sevError 0 (feData i n s.ticks)
    let s3 := if ninth then s2.logEv 0x0104 sevError 0 (feData i 9 s.ticks) else s2
    s3.feFlush i
  else s

/-- Close the protection switch (03 R81, R82): the detector stays asserted for 1,200 ticks. -/
def State.feClose (s : State) (i : Fin 4) : State :=
  ((s.modFe i (fun x => { x with
    prot := .closed, ovFrom := min x.since s.clk * fineUnit, ovUntil := (s.clk + 1200) * fineUnit, since := s.clk
    ovPast := if x.ovFrom = x.since * fineUnit then x.ovPast else x.ovKept })).logEv 0x0103 sevNotice 0
      (feData i 0 s.ticks)).feFlush i

/-- 1 ms below the trip threshold in OPEN_AUTO closes the switch (03 R82). -/
def State.feAutoClose (s : State) (i : Fin 4) : State :=
  if s.feOn i && s.fe[i].prot == .openAuto && decide (s.fe[i].since + 3000000 ≤ s.clk) then s.feClose i else s

/-- Writing FE_PROT_RESET 1 closes a switch held open (03 R82). -/
def State.feReset (s : State) (i : Fin 4) : State :=
  if s.fe[i].prot == .openHeld then s.feClose i else s

/-- The settling interval a range or offset change begins at boundary `b`; one under way ends there, and the samples settle on
(03 R78, R79). -/
def State.feSettle (s : State) (i : Fin 4) (b : Nat) (range : Bool) : State :=
  s.modFe i (fun x =>
    let on := decide (x.settleFrom ≤ b ∧ b < x.settleTo)
    { x with
      settleFrom := if on then x.settleFrom else b, settleTo := b + if range then 1200 else 300
      settlePast := if on ∨ x.settleTo = 0 then x.settlePast else (x.settleFrom, x.settleTo) :: x.settlePast })

/-- The path settles on a range or offset change at boundary `b`, whatever the channel does: ARMING completes only after it (03 R79). -/
def State.feQuiet (s : State) (i : Fin 4) (b : Nat) (range : Bool) : State :=
  s.modFe i (fun x => { x with quiet := b + if range then 1200 else 300 })

/-- The network settles on a change of MODULE_MODE, for a time the spec bounds by 150,000 ticks and leaves open otherwise: a free value
(03 R74; log entry 7). -/
def State.netSwitch (s : State) : State :=
  let v := s.free
  ([0, 1, 2, 3] : List (Fin 4)).foldl (fun a i => a.modFe i (fun x => { x with
    net := max x.net (s.clk + v.1.toNat % 150001) })) v.2

/-- Integer part of `off` µV over the offset step FS/32,768, bit by bit from bit `n - 1`; `sq` is FS² in µV². -/
def stepsBelow (off sq : Nat) : Nat → Nat → Nat
  | 0, k => k
  | n + 1, k => stepsBelow off sq n (if (k + 2 ^ n) ^ 2 * sq ≤ off ^ 2 * 2 ^ 30 then k + 2 ^ n else k)

/-- The offset that the converter realises, in steps of FS/32,768: FE_OFFSET rounded to the nearest step, half to even (03 R77). -/
def offsetSteps (sq : Nat) (off : Int) : Int :=
  let k := stepsBelow off.natAbs sq 18 0
  let twice := (2 * off.natAbs) ^ 2 * 2 ^ 30
  let half := (2 * k + 1) ^ 2 * sq
  let n := if twice < half then k else if half < twice then k + 1 else if k % 2 = 0 then k else k + 1
  if off < 0 then -(n : Int) else n

/-- The full scale of a range, squared, in µV² (03 R76). -/
def fullScaleSq (r : Nat) : Nat :=
  [3906250000, 15625000000, 31250000000, 62500000000, 125000000000, 250000000000, 500000000000].getD r 1000000000000

/-- The offset in force of an input, in offset steps of the range in force: the voltage that maps to code 0 (03 R77). -/
def State.offsetInForce (s : State) (i : Fin 4) : Int := offsetSteps (fullScaleSq (s.ckey 0x0100 i)) (decInt 32 (s.ckey 0x0101 i))

/-- Whether an input feeds a channel in a mode (03 R72): IN_A feeds A and so on; an unused input feeds none. -/
def inputOf (c : Fin 4) : Fin 4 := c

/-- Whether a sample of a channel at a slice-clock tick is settling (03 R78). -/
def State.settlingAt (s : State) (c : Fin 4) (tick : Nat) : Bool :=
  let f := s.fe[inputOf c]
  ((f.settleFrom, f.settleTo) :: f.settlePast).any (fun e => decide (e.1 ≤ tick ∧ tick < e.2))

/-- Whether a sample of a channel at a fine instant is clipped by its input's overload detector (03 R81). -/
def State.overAt (s : State) (c : Fin 4) (fine : Nat) : Bool :=
  (s.fe[inputOf c].overs s.clk).any (fun e => decide (e.1 ≤ fine ∧ fine < e.2))

/-- OVERLOAD_ASSERTED (03 R81). -/
def execOverloadAsserted (t : Nat) (input : Fin 4) (first last : Nat) (s : State) : Out :=
  go ((s.reach t).overload input first last)

/-- PROTECTION_TRIP (03 R82). -/
def execProtectionTrip (t : Nat) (input : Fin 4) (s : State) : Out := go ((s.reach t).feTrip input)

/-- PROTECTION_AUTO_CLOSE (03 R82). -/
def execProtectionAutoClose (t : Nat) (input : Fin 4) (s : State) : Out := go ((s.reach t).feAutoClose input)

end Sys2Proof.Machine
end

