-- ==== Sys2Proof/Machine/Samples.lean ====
section
/-!
DEFINITION. From converter codes to corrected samples (01 R12 stages 3 and 4; 04 R105, R109; 05 R127, R131): which slice took a
sample, its linearity curve, the interleave equaliser, the channel correction, and the marks of a sample (01 R23). The rows bring the
codes; everything after the converter is computed here.
-/

namespace Sys2Proof.Machine

/-- One corrected sample: 16-bit value, settling mark, clipping, and whether its phase is filled (01 R22, R23; 04 R105). -/
structure Sample where
  val      : BitVec 16
  settling : Bool
  clipped  : Bool
  filled   : Bool
deriving DecidableEq, Repr, Inhabited

/-- Codes of consecutive samples of a channel; `at_` is the nominal fine instant of the first. -/
structure Stream where
  at_   : Int
  codes : Codes
deriving DecidableEq, Repr

/-- How far the equaliser and the filling of a phase reach to either side of a sample (04 R105, R109). -/
def eqReach : Nat := 8

/-- The code of sample `i` of a stream. -/
def Stream.code (g : Stream) (i : Nat) : Int := (g.codes.getD i 0#12).toInt

/-- The code of a nominal fine instant among codes heard. -/
def Heard.codeAt (h : Heard) (f : Int) : Option (BitVec 12) :=
  if f < h.at_ ∨ (f - h.at_) % (max 1 h.step : Nat) ≠ 0 then none else h.codes[((f - h.at_) / (max 1 h.step : Nat)).toNat]?

/-- The code that a command has brought for a nominal fine instant of a channel: trigger, thresholds and record take the same sample
(01 R12). -/
def State.heardAt (s : State) (c : Fin 4) (f : Int) : Option (BitVec 12) := s.ch[c].heard.findSome? (fun h => h.codeAt f)

/-- `n` codes of a channel from nominal fine instant `f` on, as a command brings them: one that an earlier command has brought stands
(01 R12; log entry 6). -/
def State.streamFrom (s : State) (c : Fin 4) (f : Int) (n : Nat) (codes : Codes) : Stream :=
  ⟨f, (List.range n).map (fun i =>
    (s.heardAt c (f + ((i * samplePeriod s.mode : Nat) : Int))).getD (codes.getD i 0#12))⟩

/-- The codes of a stream are kept for commands that come later. -/
def State.hear (s : State) (c : Fin 4) (g : Stream) : State :=
  s.modCh c (fun h => { h with heard := ⟨g.at_, samplePeriod s.mode, g.codes⟩ :: h.heard })

/-- The tower and slice phase of channel phase `q` (01 R15; 04 R87). -/
def State.phaseOfChan (s : State) (c : Fin 4) (q : Nat) : Fin 4 × Fin 32 :=
  let ts := s.towers c
  (ts.getD (q % max 1 ts.length) 0, Fin.ofNat 32 (q / max 1 ts.length))

/-- The nominal fine instant of sample `i` of a stream. -/
def State.streamAt (s : State) (g : Stream) (i : Nat) : Int := g.at_ + ((i * samplePeriod s.mode : Nat) : Int)

/-- The slice-clock tick of a nominal instant, and the channel phase, which is the position within the tick (04 R109; 08 R213). -/
def State.tickPhase (s : State) (f : Int) : Nat × Nat := (f.toNat / fineUnit, f.toNat % fineUnit / samplePeriod s.mode)

/-- The slice that took the sample of a channel phase at a slice-clock tick; none where the phase was filled (04 R95, R105). -/
def State.tookBy (s : State) (c : Fin 4) (tick q : Nat) : Option (Fin 4 × Fin 33) :=
  let kp := s.phaseOfChan c q
  (s.tw[kp.1].sliceAt kp.2 tick).map (fun x => (kp.1, x))

/-- The working set that was in force at a slice-clock tick. -/
def State.wsAt (s : State) (tick : Nat) : WorkSet := valAt s.cal.ws s.cal.wsHist tick

/-- A code through a slice's curve: entry c + 2,048; the identity curve where none is held (05 R127). -/
def WorkSet.correctCode (w : WorkSet) (key : Nat) (code : Int) : Int :=
  match itemGet w.curves key with
  | none => code * 16
  | some l => l.getD (code + 2048).toNat 0

/-- Sample `i` of a stream after the linearity curve of the slice that took it, on the 16-bit scale (05 R127). What stands in the
place of a filled phase's sample enters the sums of its neighbours as the row gives it (log entry 6). -/
def State.linear (s : State) (c : Fin 4) (g : Stream) (i : Nat) : Int :=
  let p := s.tickPhase (s.streamAt g i)
  match s.tookBy c p.1 p.2 with
  | none => g.code i * 16
  | some e => (s.wsAt p.1).correctCode (sliceKey e.1 e.2) (g.code i)

/-- A sum of products. -/
def dot (cs xs : List Int) : Int := ((cs.zip xs).map (fun p => p.1 * p.2)).sum

/-- The fixed interpolating set that fills a phase (04 R105): offsets -8 to -1, then 1 to 8. -/
def fillTaps : List Int := (List.range 16).map (fun i => (Config.fillTap i).toInt)

/-- Sample `i` of a stream after the interleave equaliser, times 2^16: the coefficient set of its phase over offsets -8 to +7, or, where
the phase was filled, the fixed set over its 16 neighbours (04 R105, R109). The sum is exact. -/
def State.equalised (s : State) (c : Fin 4) (g : Stream) (i : Nat) : Int :=
  let p := s.tickPhase (s.streamAt g i)
  let x (k : Nat) : Int := s.linear c g (i + k - eqReach)
  match s.tookBy c p.1 p.2 with
  | none => dot fillTaps ((List.range 16).map (fun k => if k < 8 then x k else x (k + 1)))
  | some _ =>
    let kp := s.phaseOfChan c p.2
    match itemGet (s.wsAt p.1).eqs (phaseKey s.mode kp.1 kp.2) with
    | none => 65536 * x eqReach
    | some cs => dot cs ((List.range 16).map x)

/-- The channel correction of a sample given times 2^16, with gains in ppm and offsets in 1/16 LSB, and whether it saturated
(05 R131); the sample is not rounded before it. -/
def channelCorrect (y gain ofs : Int) : Int × Bool :=
  let v := divHalfEven (y * (1000000 + gain)) 65536000000 + ofs
  let z := clampInt (-32768) 32767 v
  (z, z != v)

/-- Whether a converter code is a full-scale code (01 R23). -/
def fullScaleCode (v : Int) : Bool := v == -2048 || v == 2047

/-- Sample `i` of a stream as the comparators and the decimation stage take it (01 R12, R22, R23): corrected, clipped by a full-scale
code, by saturation or by its input's overload detector, settling by a range or offset change; the last two, and which range's correction acts
(03 R78), are judged at the connector plane, `d` being the front-end delay. -/
def State.sampleOf (s : State) (c : Fin 4) (d : Nat) (g : Stream) (i : Nat) : Sample :=
  let f := s.streamAt g i
  let p := s.tickPhase f
  let filled := (s.tookBy c p.1 p.2).isNone
  let at_ := (f - (d : Int)).toNat
  let gain := s.elemAt (.rangeGain (inputOf c)) (at_ / fineUnit) + s.elemAt (.userGain (inputOf c)) p.1
  let ofs := s.elemAt (.rangeOfs (inputOf c)) (at_ / fineUnit) + s.elemAt (.userOfs (inputOf c)) p.1
  let v := channelCorrect (s.equalised c g i) gain ofs
  { val := BitVec.ofInt 16 v.1, settling := s.settlingAt c (at_ / fineUnit)
    clipped := v.2 || (!filled && fullScaleCode (g.code i)) || s.overAt c at_, filled := filled }

/-- `n` samples of a stream from sample `i`. -/
def State.samplesOf (s : State) (c : Fin 4) (d : Nat) (g : Stream) (i n : Nat) : List Sample :=
  (List.range n).map (fun m => s.sampleOf c d g (i + m))

end Sys2Proof.Machine
end

