-- ==== Sys2Proof/Machine/Values.lean ====
section
/-!
DEFINITION. From corrected samples to delivered values (10 R254–R262): the span of a value, PASS, SAMPLE, PEAK and HIRES, the tags
that its samples give it.
-/

namespace Sys2Proof.Machine

/-- One delivered value with its tags: the value, or the minimum and maximum of a pair (01 R21, R23; 10 R254), and whether its filter
saturated (10 R259). -/
structure Value where
  lo  : Int
  hi  : Int
  ovr : Bool
  set : Bool
  sat : Bool
deriving DecidableEq, Repr, Inhabited

/-! The filter (10 R258–R260). -/

/-- Sums of every `r` consecutive elements. -/
def boxcar (r : Nat) (xs : List Int) : List Int := (List.range (xs.length + 1 - r)).map (fun i => ((xs.drop i).take r).sum)

/-- The integrator–comb filter of order `n` over a span, at every sample (10 R258); its sums are exact. -/
def cicSums (r : Nat) : Nat → List Int → List Int
  | 0, xs => xs
  | n + 1, xs => cicSums r n (boxcar r xs)

/-- The first fifteen taps of the compensation filter, where they leave a middle tap within 24 bits (10 R260). -/
def compHalf (order ratio : Nat) : List Int :=
  let half := (List.range 15).map (fun i => (Config.compTap order ratio i).toInt)
  if -8388608 ≤ 4194304 - 2 * half.sum ∧ 4194304 - 2 * half.sum ≤ 8388607 then half else List.replicate 15 0

/-- Taps of the compensation filter: symmetric, 24 bits each, summing to 2^22 (10 R260). -/
def compTaps (order ratio : Nat) : List Int :=
  compHalf order ratio ++ [4194304 - 2 * (compHalf order ratio).sum] ++ (compHalf order ratio).reverse

/-- The filter's sum and its divisor before the output scale, over a span that ends at the last input (10 R259). -/
def hiresSum (order ratio comp : Nat) (xs : List Int) : Int × Nat :=
  let s := cicSums ratio order xs
  if comp = 0 then (s.getLastD 0, ratio ^ order)
  else ((((compTaps order ratio).zip (List.range 31)).map (fun p => p.1 * s.getD ((30 - p.2) * ratio) 0)).sum, ratio ^ order * 4194304)

/-- A HIRES output and whether it saturated (10 R259). -/
def hiresOut (order ratio comp width : Nat) (xs : List Int) : Int × Bool :=
  let q := hiresSum order ratio comp xs
  let y := divHalfEven (q.1 * 2 ^ (16 * width)) q.2
  let lim : Int := if width = 0 then 32768 else 2147483648
  let z := clampInt (-lim) (lim - 1) y
  (z, z != y)

/-! Spans (10 R256, R261). -/

/-- The number of input samples in a value's span. -/
def State.spanLen (s : State) (c : Fin 4) : Nat :=
  let r := s.decKey 0x0801 c
  match s.decMode c with
  | 2 => r
  | 3 => s.decKey 0x0802 c * (r - 1) + 1 + 30 * r * s.decKey 0x0803 c
  | _ => 1

/-- The nominal fine instant of a value's last input. -/
def State.lastOf (s : State) (c : Fin 4) (j : Nat) : Int :=
  s.valueNominal c j + (s.delayHalves c : Int) * (samplePeriod s.mode : Int) / 2

/-- The nominal fine instant of the first sample of a value's span. -/
def State.spanStart (s : State) (c : Fin 4) (j : Nat) : Int := s.lastOf c j - (((s.spanLen c - 1) * samplePeriod s.mode : Nat) : Int)

/-- The samples that `n` values take: their spans and eight to either side (04 R109). -/
def State.valueSamples (s : State) (c : Fin 4) (n : Nat) : Nat := (n - 1) * s.decKey 0x0801 c + s.spanLen c + 2 * eqReach

/-- The stream of `n` values from value `j` on, from codes that begin eight samples before the span of the first. -/
def State.valueStream (s : State) (c : Fin 4) (j n : Nat) (codes : Codes) : Stream :=
  s.streamFrom c (s.spanStart c j - ((eqReach * samplePeriod s.mode : Nat) : Int)) (s.valueSamples c n) codes

/-! Resets (10 R262). -/

/-- Whether value `j` settles after a reset (10 R262, R263). -/
def State.resetSettles (s : State) (c : Fin 4) (j : Nat) : Bool := s.ch[c].dec.resets.any (fun r => decide (r.1 ≤ j ∧ j < r.1 + r.2.1))

/-- The boundary of the last reset that cleared the stage's integrators, delay lines and trackers before a value's last input, 0 before
any. -/
def State.clearedAt (s : State) (c : Fin 4) (j : Nat) : Nat :=
  ((s.ch[c].dec.resets.find? (fun r => decide (((r.2.2 * fineUnit : Nat) : Int) ≤ s.lastOf c j))).map (·.2.2)).getD 0

/-- Whether sample `m` of the span of value `j` contributes to it: it was taken at or after that reset. -/
def State.contributes (s : State) (c : Fin 4) (j m : Nat) : Bool :=
  decide (((s.clearedAt c j * fineUnit : Nat) : Int) ≤ s.spanStart c j + ((m * samplePeriod s.mode : Nat) : Int))

/-- Whether an interval of slice-clock ticks holds a sample of the span of value `j` that contributes to it, at the connector plane
(03 R78, 10 R261). -/
def State.spanMeets (s : State) (c : Fin 4) (j : Nat) (e : Nat × Nat) : Bool :=
  let p : Int := samplePeriod s.mode
  let d : Int := s.ch[c].dec.delay
  let first := max (s.spanStart c j) ((s.clearedAt c j * fineUnit : Nat) : Int)
  let at_ := max first (((e.1 * fineUnit : Nat) : Int) + d)
  let m := -((s.spanStart c j - at_) / p)
  decide (m < (s.spanLen c : Int) ∧ s.spanStart c j + m * p - d < ((e.2 * fineUnit : Nat) : Int))

/-- Whether value `j` settles, by a reset or by an interval in which its input settles (03 R78; 10 R261, R262): its samples' codes do not
bear on it. -/
def State.valueSettles (s : State) (c : Fin 4) (j : Nat) : Bool :=
  let f := s.fe[inputOf c]
  s.resetSettles c j || ((f.settleFrom, f.settleTo) :: f.settlePast).any (s.spanMeets c j)

/-! Values (10 R254, R257, R261). -/

/-- The value that mode `m` makes of the samples of a span, each with whether it contributes: PASS and SAMPLE take the first, PEAK the
smallest and the largest, HIRES filters. -/
def State.makeValue (s : State) (c : Fin 4) (xs : List (Sample × Bool)) : Int × Int × Bool :=
  match s.decMode c with
  | 2 =>
    let ys := (xs.filter (·.2)).map (fun x => x.1.val.toInt)
    (ys.foldl min (ys.headD 0), ys.foldl max (ys.headD 0), false)
  | 3 =>
    let y := hiresOut (s.decKey 0x0802 c) (max 1 (s.decKey 0x0801 c)) (s.decKey 0x0803 c) (s.decKey 0x0804 c)
      (xs.map (fun x => if x.2 then x.1.val.toInt else 0))
    (y.1, y.1, y.2)
  | _ =>
    let v := (xs.map (fun x => x.1.val.toInt)).headD 0
    (v, v, false)

/-- Value `j` of a channel from a stream, whose sample `base` is the first of the value's span, with the tags of 10 R261. -/
def State.valueOf (s : State) (c : Fin 4) (j : Nat) (g : Stream) (base : Nat) : Value :=
  let xs := ((s.samplesOf c s.ch[c].dec.delay g base (s.spanLen c)).zip (List.range (s.spanLen c))).map (fun x => (x.1, s.contributes c j x.2))
  let v := s.makeValue c xs
  { lo := v.1, hi := v.2.1, sat := v.2.2
    ovr := v.2.2 || xs.any (fun x => x.2 && x.1.clipped)
    set := s.valueSettles c j }

/-- `n` values of a channel from value `first` on, from codes that begin eight samples before the span of the first. -/
def State.valuesOf (s : State) (c : Fin 4) (first n : Nat) (codes : Codes) : List Value :=
  let g := s.valueStream c first n codes
  (List.range n).map (fun i => s.valueOf c (first + i) g (eqReach + i * s.decKey 0x0801 c))

end Sys2Proof.Machine
end

