-- ==== Sys2Proof/Machine/Acq.lean ====
section
/-!
DEFINITION. The shared operations of acquisition: events and their presentation (08 R199, R220, R221), triggers, the
sequencer, holdoff and the auto trigger (09), the opening and closing of segments and records (11 R275–R284, 12 R295–R304),
and the moves between acquisition states (09 R227).
-/

namespace Sys2Proof.Machine

/-! Output pulses and array triggers that a trigger causes. -/

/-- A pulse due on the pins of function key `key`, starting at tick `start` (09 R248, 15 R381, 20 R491). -/
def State.duePulse (s : State) (start key : Nat) : State := s.modPins (fun p => { p with duePulses := p.duePulses ++ [(start, key)] })

/-- Put an event on its way to the sequencers `dest` (08 R220): presented 101 cycles after the DSP cycle `cyc`. -/
def State.pushEv (s : State) (fine src cyc : Nat) (stamp : Stamp) (dest : BitVec 4) (valid : Bool) : State :=
  s.setEvq (s.evq ++ [⟨fine, src, stamp, dest, cyc + 404, valid, fine⟩])

/-- Source code of the FORCE source (08 R199). -/
def srcForce : Nat := 0x1A

/-- The NIRED event of an assigned instant (16 R401), unless it comes too late for presentation (08 R219, 16 R402). Its instant may lie
ahead: the stamp is made anew when it is presented (07 R176, R185). -/
def State.niredEvent (s : State) (fine : Nat) (valid : Bool) : State :=
  if s.clk ≤ fine / fineUnit + 384 then
    s.pushEv fine 0x18 (s.cycleOf fine) (s.stampAt fine 3 valid) 0xF#4 valid
  else
    let s1 := s.modTm (fun m => { m with niredLate := wrapAdd 32 m.niredLate 1 })
    let due := match s.tm.lateLog with
      | none => true
      | some a => decide (a + 3000000000 ≤ s.clk)
    if due then
      (s1.modTm (fun m => { m with lateLog := some s.clk })).logEv 0x0601 sevWarning 0
        (leBytes 1 ((allCh.map (fun c => if (s.seqTable c).names 0x18 then 2 ^ c.val else 0)).sum) ++ List.replicate 3 0#8
          ++ leBytes 8 (s.ticksAt (fine / fineUnit)))
    else s1

/-- The manager broadcasts a TRIG and presents its own NIRED event (16 R401). -/
def State.broadcastTrig (s : State) (origin : Nat) (c : Fin 4) (fine : Nat) (valid : Bool) : State :=
  let s1 := (s.modAr (fun a => { a with lastP := some fine })).sendN 0x04 0xFFFF
    [origin, c.val, s.ticksAt (fine / fineUnit), fine % fineUnit, flag valid]
  s1.niredEvent (fine + s.mkey 0x0E04 * fineUnit) valid

/-- A TRIG_REQ at the manager: broadcast, or dropped within 1,500 ticks of the last TRIG (16 R401). -/
def State.mergeTrig (s : State) (origin : Nat) (c : Fin 4) (fine : Nat) (valid : Bool) : State :=
  let near := match s.ar.lastP with
    | none => false
    | some p => decide ((fine : Int) - (p : Int) ≤ 1500 * fineUnit ∧ (p : Int) - (fine : Int) ≤ 1500 * fineUnit)
  if near then s.modAr (fun a => { a with merged := wrapAdd 32 a.merged 1 }) else s.broadcastTrig origin c fine valid

/-- Export a taken trigger (16 R401): upstream from a member, broadcast by the manager; never one taken from NIRED. -/
def State.exportTrig (s : State) (c : Fin 4) (src fine : Nat) (valid : Bool) : State :=
  if !(bitAt (s.mkey 0x0E05) c.val) || src == 0x18 then s
  else match s.ar.role with
    | 1 => s.broadcastTrig s.ar.addr c fine valid
    | 2 | 3 => (s.modAr (fun a => { a with sent := wrapAdd 32 a.sent 1 })).sendN 0x03 s.ar.addr
        [s.ar.addr, c.val, s.ticksAt (fine / fineUnit), fine % fineUnit, flag valid]
    | _ => s

/-! Dither (09 R244). -/

/-- One step of the 23-bit generator. -/
def lfsrStep (x : BitVec 23) : BitVec 23 :=
  (x <<< 1) ||| (if x.getLsbD 22 != x.getLsbD 17 then 1#23 else 0#23)

/-- Sixteen steps. -/
def lfsrDraw (x : BitVec 23) : BitVec 23 := (List.range 16).foldl (fun y _ => lfsrStep y) x

/-- The dither of a generator state. -/
def ditherOf (x : BitVec 23) (d : Nat) : Nat := (x.toNat % 65536) * (d + 1) / 65536

/-- Draw the dither of a holdoff with SQ_DITHER `d` (09 R244): 0 without a draw when `d` is 0. -/
def State.draw (s : State) (c : Fin 4) (d : Nat) : Nat × State :=
  if d = 0 then (0, s)
  else
    let x := lfsrDraw s.ch[c].lfsr
    (ditherOf x d, s.modCh c (fun h => { h with lfsr := x }))

/-! Units that follow the channels: detectors and decimation stages (08 R200, R204; 10 R262, R267). -/

/-- The recorded values as a detector or stage takes them at its start: its channel's own while that runs, else those that
stand in force (08 R200, 10 R267). -/
def State.unitKeys (s : State) (d : Fin 4) : List SetEntry := if s.running d then s.mr.armed[d] else s.mr.recorded

/-- The boundary at which a detector's run ends by the stops ordered of the channels that want it, none while one of them goes on
(08 R200, 09 R231). -/
def State.detEnd (s : State) (d : Fin 4) : Option Nat := s.lastStop (allCh.filter (fun c => s.wantsDet c d))

/-- The same of a decimation stage (10 R267, R270). -/
def State.decEnd (s : State) (d : Fin 4) : Option Nat := s.lastStop (allCh.filter (fun c => s.wantsDec c d))

/-- Whether a detector with ordered end `q` runs at a fine instant. -/
def Det.runsAt (x : Det) (q : Option Nat) (fine : Nat) : Bool :=
  if x.running then q.all (fun b => decide (fine < b * fineUnit)) else x.ends.any (fun e => decide (fine < e))

/-- Start or restart a detector: priming, candidates and pattern state reset; its counters stand (08 R204, R223). -/
def State.startDet (s : State) (d : Fin 4) : State :=
  s.modCh d (fun h => { h with det := { h.det with
    running := true, ends := none, keys := s.unitKeys d, ty := recordedVal (s.unitKeys d) 0x0600 (d.val + 1), started := s.boundary
    fresh := true, atStart := true, aR := false, aF := false, bR := false, bF := false
    above := false, cand0 := none, cand1 := none } })

/-- Values that settle after a reset: N, or N + 30 with compensation, in HIRES (10 R262). -/
def State.settleCount (s : State) (c : Fin 4) : Nat :=
  if s.decMode c = 3 then s.decKey 0x0802 c + 30 * s.decKey 0x0803 c else 0

/-- Place the grid and reset a decimation stage at the present boundary (10 R255, R262, R264). -/
def State.gridDec (s : State) (d : Fin 4) : State :=
  let k := samplesPerTick s.mode
  let r := max 1 (s.decKey 0x0801 d)
  let ps := samplePeriod s.mode
  let off := ((-((s.ticks * k : Nat) : Int) + ((k * s.decKey 0x0807 d : Nat) : Int)) % (r : Int)).toNat
  let g : Int := ((s.clk * fineUnit + off * ps : Nat) : Int)
    + (if s.decMode d = 3 then (((r - 1) * ps : Nat) : Int) - ((s.delayHalves d * (ps / 2) : Nat) : Int) else 0)
  s.modCh d (fun h => { h with dec := { h.dec with
    running := true, resets := [(0, s.settleCount d, s.clk)], cleared := s.clk, resetAt := none, seen := none, last := none, sats := []
    grid := g, delay := s.feUnits d (s.decKey 0x0102 d)
    firstVal := if s.decKey 0x0805 d = 1 then s.settleCount d else 0
    fR := Vector.replicate 2 false, fF := Vector.replicate 2 false, prev := none } })

/-- What a run of the stage leaves for values of it that come after the next has started. -/
def Dec.leave (d : Dec) : DecRun :=
  ⟨d.run, d.keys, d.resets, d.cleared, d.fR, d.fF, d.grid, d.delay, d.firstVal, d.seen, d.last, d.sats, d.prev⟩

/-- The stage as it was when a run had stopped. -/
def Dec.back (d : Dec) (r : DecRun) : Dec :=
  { d with
    running := false, run := r.run, keys := r.keys, resets := r.resets, cleared := r.cleared, fR := r.fR, fF := r.fF, grid := r.grid
    delay := r.delay, firstVal := r.firstVal, seen := r.seen, last := r.last, sats := r.sats, prev := r.prev }

/-- What values of the run before bring about, on the grid and with the settings of that run (10 R255, R265, R267). -/
def State.onOldRun (s : State) (c : Fin 4) (f : State → State) : State :=
  match s.ch[c].dec.old with
  | none => s
  | some r =>
    (f (s.modCh c (fun h => { h with dec := h.dec.back r }))).modCh c (fun h => { h with dec := { h.dec.back s.ch[c].dec.leave with
      running := s.ch[c].dec.running, old := some h.dec.leave } })

/-- Start or restart a decimation stage at the present boundary with the keys it takes (10 R255, R262, R267). -/
def State.startDec (s : State) (d : Fin 4) : State :=
  (s.modCh d (fun h => { h with dec := { h.dec with
    keys := s.unitKeys d, run := h.dec.run + 1, old := some h.dec.leave } })).gridDec d

/-- The recorded values as a channel takes them (00 R8). -/
def State.takeKeys (s : State) (c : Fin 4) : State :=
  s.modMr (fun m => { m with armed := m.armed.set c.val m.recorded })

/-- The last value delivered before boundary `q` (10 R270): its last input lies before `q`, at the connector plane. -/
def State.lastBefore (s : State) (c : Fin 4) (q : Nat) : Option Nat := s.lastInput c (q * fineUnit + s.ch[c].dec.delay)

/-- Values that a stage has delivered since its grid was placed, up to the value that `j` names (10 R264, R268). -/
def State.dcRun (s : State) (c : Fin 4) (j : Option Nat) : Nat := j.elim 0 (fun n => n + 1 - s.ch[c].dec.firstVal)

/-- The last value completed by now (10 R256). -/
def State.completed (s : State) (c : Fin 4) : Option Nat :=
  s.lastInput c ((s.cycleOf (s.clk * fineUnit) + 4 - 4 * s.pipe c) * fineUnit)

/-- A stage stops at boundary `q`: its values so far are counted (10 R267, R268). -/
def State.stopDec (s : State) (d : Fin 4) (q : Nat) : State :=
  s.modCh d (fun x => { x with dec := { x.dec with
    running := false, resetAt := none, last := s.lastBefore d q, out := wrapAdd 64 x.dec.out (s.dcRun d (s.lastBefore d q)) } })

/-- A detector's run ends at fine instant `e`: it examines the samples before it, events that later ones have made do not count, and a
candidate still open is discarded (08 R200, R205). -/
def State.stopDet (s : State) (d : Fin 4) (e : Nat) : State :=
  (s.modCh d (fun x => { x with det := { x.det with running := false, ends := some e, cand0 := none, cand1 := none } })).setEvq
    (s.evq.filter (fun v => !(v.src == 1 + d.val && decide (e ≤ v.last))))

/-- Start or stop the detector and the stage of channel `d` as R200 and R267 decide: a detector stops at fine instant `e`, a stage at
boundary `q`. -/
def State.syncUnit (s : State) (q e : Nat) (d : Fin 4) : State :=
  let wantDet := s.wantDet d
  let wantDec := s.wantDec d
  let h := s.ch[d]
  let s2 := if wantDet && !h.det.running then s.startDet d
    else if !wantDet && h.det.running then s.stopDet d e
    else s
  if wantDec && !h.dec.running then s2.startDec d
  else if !wantDec && h.dec.running then s2.stopDec d q
  else s2

/-- Bring every detector and stage in line with the channels at fine instant `e` and boundary `q`. -/
def State.syncUnits (s : State) (q e : Nat) : State := allCh.foldl (fun a d => a.syncUnit q e d) s

/-! What the sequencer held at an instant, and what is reported of a channel (09 R228). -/

/-- What the sequencer holds now. -/
def Chan.view (h : Chan) : SeqView := ⟨h.seqState, h.cnt0, h.cnt1, h.tmr0, h.tmr1⟩

/-- What the sequencer held at fine instant `p`: an event that is presented late is judged by that. -/
def Chan.viewAt (h : Chan) (p : Nat) : SeqView := valAt h.view h.past p

/-- The channel, about to take a step at fine instant `p`. -/
def Chan.keep (h : Chan) (p : Nat) : Chan := { h with past := (p, h.view) :: h.past }

/-- The present state. -/
def Chan.present (h : Chan) : Shown := ⟨h.st, h.seqState, h.cnt0, h.cnt1, h.tmr0, h.tmr1⟩

/-- What is reported at tick `clk`. -/
def Chan.report (h : Chan) (clk : Nat) : Shown := ((h.shown.find? (fun x => decide (clk < x.1))).map (·.2)).getD h.present

/-- The channel as it changes at boundary `b`: what it reports stays until the presentation cycle of that boundary. -/
def Chan.hideUntil (h : Chan) (b clk : Nat) : Chan :=
  { h with shown := h.shown.filter (fun x => decide (clk < x.1)) ++ [(b + 404, h.present)] }

/-! Leaving and entering ARMED (09 R227, R240, R245). -/

/-- The first whole tick at or after a fine instant, as a fine instant. -/
def ceilTick (f : Nat) : Nat := ceilDiv f fineUnit * fineUnit

/-- The auto-trigger expiry that an entry into ARMED at `a` sets (09 R245). -/
def State.autoAt (s : State) (c : Fin 4) (a : Nat) : Option Nat :=
  let t := s.keyAt 0x0705 (c.val + 1) (a / fineUnit)
  if t = 0 then none else some (ceilTick (a + t * fineUnit))

/-- Return to ARMED at instant `a`: the sequencer resumes (09 R240) and the auto-trigger clock starts (09 R245). -/
def State.toArmed (s : State) (c : Fin 4) (a : Nat) : State :=
  let tb := s.seqTable c
  let x := s.autoAt c a
  s.modCh c (fun h =>
    if tb.resume = 0xFF then { h with st := .armed, hold := .off, holdEnd := a, autoX := x }
    else { h.keep a with st := .armed, hold := .off, holdEnd := a, autoX := x, seqState := tb.resume, cnt0 := 0, cnt1 := 0, tmr0 := .idle, tmr1 := .idle })

/-- The segments or results counted for SQ_SEGMENTS and reported (09 R251, 11 R275). -/
def State.segCount (s : State) (c : Fin 4) : Nat := if s.akey 0x0900 c = 0 then s.ch[c].segs else s.ch[c].results

/-- The channel goes to DONE for a reason at fine instant `e` (09 R227, R228, R251): its units, its stage at boundary `q`, its pages
and domains follow. -/
def State.toDone (s : State) (c : Fin 4) (reason q e : Nat) : State :=
  let s1 := s.modCh c (fun h => { h.keep e with
    st := .done, doneAt := if reason = 1 then e + 1 else e, hold := .off, autoX := none, tmr0 := .idle, tmr1 := .idle
    timerAt := none, open_ := none, stopAt := none })
  let s2 := s1.logEvAt (e / fineUnit) 0x0701 sevInfo (c.val + 1)
    (leBytes 1 reason ++ List.replicate 3 0#8 ++ leBytes 4 (s.segCount c) ++ List.replicate 4 0#8)
  ((s2.sweep c).syncUnits q e).syncDomains

/-- The fine instant of the last value of the open segment or record. -/
def State.closeInstant (s : State) (c : Fin 4) : Option Nat :=
  s.ch[c].open_.map (fun o => (s.valueInstant c o.last).toNat)

/-- Order a channel to stop at boundary `q`; an earlier order stands (09 R231, R250). -/
def State.orderHalt (s : State) (q reason cause : Nat) (c : Fin 4) : State :=
  s.modCh c (fun h => { h with stopAt := if h.stopAt.any (fun r => decide (r.at_ ≤ q)) then h.stopAt else some ⟨q, reason, cause⟩ })

/-- Stop a channel on full memory (12 R301): flag [1], TR_FULL, DONE with reason 3 at the next boundary, once the events stamped before
it have been presented (09 R228); `trig` says that the refusal falls at a presentation boundary, which the next one follows (12 R300). -/
def State.fullStop (s : State) (c : Fin 4) (idx : Nat) (trig : Bool) : State :=
  let q := if trig then s.boundaryFrom (s.clk + 1) else s.boundary
  let s1 := s.modCh c (fun h => { h with fullStop := true })
  if !(s.armedOn c) || s.ch[c].stopAt.any (fun r => r.reason == 3) then s1
  else (s1.logEv 0x0A03 sevWarning (c.val + 1)
    (leBytes 4 (s.heldPages c) ++ leBytes 4 s.ch[c].quota ++ leBytes 4 idx)).orderHalt q 3 3 c

/-- The end of the used part of the data chain after a segment of `words` words (12 R291). -/
def chainUsed (firstWord words : Nat) : Nat := if words = 0 then firstWord else (firstWord + words - 1) % 4096 + 1

/-- Whether an instant range of slice-clock ticks overlaps an out-of-specification interval (04 R100). -/
def overlapsOos (l : List Oos) (a b : Nat) : Bool :=
  l.any (fun e => decide (e.start ≤ b) && e.fin.elim true (fun z => decide (a < z)))

/-- Whether QUAL[4:0] changed at a boundary within a span (07 R194). -/
def State.qualChanged (s : State) (a b : Nat) : Bool :=
  s.tm.qualHist.any (fun e => decide (a < e.1 * fineUnit ∧ e.1 * fineUnit ≤ b))

/-- Whether a marker's time lies in an interval of fine instants (01 R23, 10 R261). -/
def State.markedIn (s : State) (c : Fin 4) (a b : Nat) : Bool := s.ch[c].marked.any (fun m => decide (a ≤ m ∧ m < b))

/-- A segment as it closes at length `len` (12 R298): it holds the trigger's value only if that is stored, and one of a continuous
recording without a trigger holds the instant `i0` of its first value (07 R194, 12 R296). -/
def State.sealTrig (s : State) (g : Seg) (len i0 : Nat) : Seg :=
  let g1 := if g.cont && !g.trgIn then { g with stamp := s.stampAt i0 0 false } else g
  if g.trgIn && decide (g.trgOff < len) then g1 else { g1 with trgIn := false, trgOff := 0 }

/-- The pages of a segment that hold its first `words` words (12 R291). -/
def Seg.wordPages (g : Seg) (words : Nat) : List Nat := if words = 0 then [] else g.pages.take (ceilDiv (g.firstWord + words) 4096)

/-- Mark a segment closed at its value `last` (12 R297): its length, its words, its place in the chain; its values and its descriptor
follow in SEGMENT_CLOSE, and pages that it has not used go back to the pool (12 R291, R302). -/
def State.sealSeg (s : State) (c : Fin 4) (idx first last : Nat) (stopped trunc : Bool) : State :=
  let a := s.ch[c].acq
  let len := last + 1 - first
  let i0 := (s.valueInstant c first).toNat
  let i1 := (s.valueInstant c last).toNat
  let oos := (s.towers c).any (fun k => overlapsOos s.tw[k].oos (i0 / fineUnit) (i1 / fineUnit))
  let s1 := s.modSeg c a idx (fun g => { s.sealTrig g len i0 with
    closed := true, awaiting := true, length := len, words := s.wordsOf g.fmt len, reserved := [], pages := g.wordPages (s.wordsOf g.fmt len)
    stopped := stopped, trunc := trunc, tq := s.qualChanged i0 i1, oos := oos, spans := [(i0, i1)]
    mrk := s.markedIn c i0 (i1 + s.valuePeriod c) })
  let s2 := s1.modAcq c a (fun q => match s.seg? c a idx with
    | none => q
    | some g => { q with
        used := chainUsed g.firstWord (s.wordsOf g.fmt len)
        lastPg := ((g.wordPages (s.wordsOf g.fmt len)).getLast?).or q.lastPg })
  (s2.modCh c (fun h => { h with segs := satAdd 32 h.segs 1, lastEnd := some last, open_ := none
                                 fTrunc := h.fTrunc.raise trunc s.clk })).sweep c

/-- Take back the last pulse due on the pins of a function key, unless it has left. -/
def State.cancelPulse (s : State) (key : Nat) : State :=
  match (s.pins.duePulses.filter (fun e => e.2 == key && decide (s.clk < e.1))).getLast? with
  | none => s
  | some e => s.modPins (fun p => { p with duePulses := p.duePulses.erase e })

/-- A taken trigger turns out to store no value: it counts as refused (12 R297), and what it has changed is put back as far as it has
not left the module (09 R232; log entry 52). -/
def State.withdrawTrig (s : State) (c : Fin 4) : State :=
  (s.modCh c (fun h => { h with trigs := h.trigs - 1, lastTrig := h.trigWas })).cancelPulse (0x0040 + c.val)

/-- A segment that stores no value is not recorded and takes no index; its trigger counts as refused (12 R297). `opening` says that the
trigger has not been counted yet. -/
def State.unopenSeg (s : State) (c : Fin 4) (idx : Nat) (opening : Bool) : State :=
  let a := s.ch[c].acq
  let s1 := ((s.modTr (fun t => { t with segs := t.segs.filter (fun g => !(g.is c a idx)) })).modAcq c a
    (fun q => { q with opened := idx })).modCh c (fun h => { h with open_ := none })
  if s.contin c then s1
  else (if opening then s1 else s1.withdrawTrig c).modCh c (fun h => { h with refused := satAdd 32 h.refused 1 })

/-- Holdoff at the close of a segment at instant `e` (09 R227, R242, R243), or ARMED. -/
def State.afterClose (s : State) (c : Fin 4) (e : Nat) : State :=
  match s.ch[c].hold with
  | .until_ h => if e < h then s.modCh c (fun x => { x with st := .holdoff }) else s.toArmed c e
  | _ =>
    if s.ch[c].holdMode = 2 then
      let d := s.draw c (s.keyAt 0x0704 (c.val + 1) (e / fineUnit))
      d.2.modCh c (fun x => { x with st := .holdoff, hold := .events (s.keyAt 0x0703 (c.val + 1) (e / fineUnit)) d.1 })
    else s.toArmed c e

/-! Opening segments (12 R295, R296, R300–R302). -/

/-- A new segment of the current acquisition at the end of its data chain (12 R291). -/
def State.newSeg (s : State) (c : Fin 4) (idx first : Nat) (preCut : Bool) : Seg :=
  let q := (s.acq? c s.ch[c].acq).getD ⟨c, 0, 0, [], none, 0⟩
  let cont := decide (q.used < 4096)
  { run := s.ch[c].dec.run, ch := c, acq := s.ch[c].acq, idx := idx, cont := s.contin c, closed := false, awaiting := false, queued := false, written := false
    pinned := false, busy := 0, deferred := false
    pages := if cont then q.lastPg.toList else [], reserved := []
    firstWord := if cont && q.lastPg.isSome then q.used else 0, words := 0, length := 0
    fmt := s.akey 0x0806 c, firstVal := first, trgs := [], spans := [], result := false, poisoned := false, stopped := false, trunc := false
    preCut := preCut, auto := false, tq := false, oos := false, mrk := false, set := false, ovr := false
    trgIn := false, trgOff := 0, source := 0, stamp := s.stampAt (s.valueInstant c first).toNat 0 false }

/-- Whether segment `idx` begins a new descriptor page of the current acquisition (12 R291). -/
def State.needDescPage (s : State) (c : Fin 4) (idx : Nat) : Bool := (s.descPage c s.ch[c].acq idx).isNone

/-- Link a descriptor page. -/
def State.linkDesc (s : State) (c : Fin 4) (idx n k : Nat) : State :=
  (s.takePage n k (.desc c)).modAcq c s.ch[c].acq (fun q => { q with descPg := q.descPg ++ [(idx / 1024, n)] })

/-- Get the descriptor page of a segment that opens: the state and whether it was refused (12 R300, R301). -/
def State.getDesc (s : State) (c : Fin 4) (idx : Nat) : State × Bool :=
  if s.needDescPage c idx then
    let r := s.allocate c
    match r.2 with
    | .page n k => (r.1.linkDesc c idx n k, false)
    | .wait => (r.1.holdAlloc c (some (idx / 1024)), false)
    | .refused => (r.1, true)
  else (s, false)

/-- Put a segment on the list and count its index. -/
def State.putSeg (s : State) (c : Fin 4) (g : Seg) : State :=
  (s.modTr (fun t => { t with segs := t.segs ++ [g] })).modAcq c s.ch[c].acq (fun q => { q with opened := g.idx + 1 })

/-- The next index of the current acquisition. -/
def State.nextIdx (s : State) (c : Fin 4) : Nat := (s.acq? c s.ch[c].acq).elim 0 (·.opened)

/-- Pages that admission under GATED counts (12 R302). -/
def State.gatedNeed (s : State) (c : Fin 4) (idx : Nat) : Nat :=
  let w := s.wordsOf (s.akey 0x0806 c) (s.akey 0x0A02 c)
  let q := (s.acq? c s.ch[c].acq).getD ⟨c, 0, 0, [], none, 0⟩
  let pw := if q.lastPg.isSome then q.used else 0
  ceilDiv (pw + w) 4096 - (if 0 < pw then 1 else 0) + (if s.needDescPage c idx then 1 else 0)

/-- Take `n` pages for an admitted segment: the descriptor page first when one is needed, then its data pages (12 R302). -/
def State.reservePages (c : Fin 4) (idx : Nat) : Nat → State → List Nat → State × List Nat
  | 0, s, acc => (s, acc)
  | n + 1, s, acc =>
    match (s.slotOrder.filterMap (fun k => (s.freeInSlot k).map (fun p => (p, k)))).head? with
    | none => (s, acc)
    | some e =>
      if s.needDescPage c idx then State.reservePages c idx n (s.linkDesc c idx e.1 e.2) acc
      else State.reservePages c idx n (s.takePage e.1 e.2 (.data c)) (acc ++ [e.1])

/-- Values of a segment from `first` that wait in staging at the present boundary: those completed before it (10 R256, 12 R300; log
entry 53), of a channel that has been ordered to stop those before its boundary (10 R270). -/
def State.stagedValues (s : State) (c : Fin 4) (first last : Nat) : Nat :=
  match s.lastInput c ((s.clk - 4 * s.pipe c) * fineUnit) with
  | none => 0
  | some v =>
    let n := min (last + 1 - first) (v + 1 - first)
    match s.ch[c].stopAt with
    | none => n
    | some r => min n ((s.lastBefore c r.at_).elim 0 (fun l => l + 1 - first))

/-- The boundary at which value `j` is packed (01 R19; 10 R256). -/
def State.packedAt (s : State) (c : Fin 4) (j : Nat) : Nat := s.completion c j + packTicks

/-- Cut the open segment to the values its pages hold (12 R301): sealed with TRUNCATED, or not recorded when none fits. `opening` says
that this falls at the presentation of its trigger. -/
def State.truncateOpen (s : State) (c : Fin 4) (opening : Bool) : State :=
  match s.ch[c].open_ with
  | none => s.fullStop c 0xFFFFFFFF opening
  | some o => match o.idx with
    | none => s.fullStop c 0xFFFFFFFF opening
    | some idx => match s.seg? c s.ch[c].acq idx with
      | none => s.fullStop c 0xFFFFFFFF opening
      | some g =>
        let n := min (s.fitting g) (o.last + 1 - o.first)
        if n = 0 then (s.unopenSeg c idx opening).fullStop c 0xFFFFFFFF opening
        else (s.sealSeg c idx o.first (o.first + n - 1) false true).fullStop c idx opening

/-- Make room for `n` values of the open segment: its descriptor page where it has none yet, then data pages. On a refusal the fill mode
acts: without a descriptor page the segment is not recorded, without a data page it ends at its last value that fits (12 R300, R301).
`now` says that a page which waits for its slot is taken for the tick at which the slot gives it (13 R318). -/
def State.roomFor (s : State) (c : Fin 4) (n : Nat) (opening now : Bool) : State :=
  match s.ch[c].open_ with
  | none => s
  | some o => match o.idx with
    | none => s
    | some idx =>
      if n = 0 then s
      else
        let d := s.getDesc c idx
        if d.2 then (d.1.unopenSeg c idx opening).fullStop c 0xFFFFFFFF opening
        else
          let w := s.wordsOf (s.akey 0x0806 c) n
          let r := State.ensureWords c s.ch[c].acq idx w now (wordFuel w) d.1
          if r.2 == .refused then r.1.truncateOpen c opening else r.1

/-- Room for the values with which the open segment closes: no page of it waits any longer (12 R291; log entry 53). -/
def State.roomToClose (s : State) (c : Fin 4) (n : Nat) : State :=
  (s.modTr (fun t => { t with held := t.held.filter (fun h => h.ch != c || h.desc.isSome) })).roomFor c n false true

/-- Open the next segment of a continuous recording at value `first` (12 R296); its descriptor page is requested when that is packed
(12 R300). -/
def State.openCont (s : State) (c : Fin 4) (first : Nat) : State :=
  let idx := s.nextIdx c
  let s1 := (s.putSeg c (s.newSeg c idx first false)).modCh c (fun h => { h with
    st := .acquiring, open_ := some ⟨some idx, first, first + s.akey 0x0A02 c - 1⟩ })
  if s.clk < s.packedAt c first then s1
  else
    let d := s1.getDesc c idx
    if d.2 then (d.1.unopenSeg c idx false).fullStop c 0xFFFFFFFF false else d.1

/-! The records of accumulation (11 R275, R278, R281, R284), as far as their instants tell. -/

/-- The first point of a record that settles. -/
def State.settlePoint (s : State) (c : Fin 4) (r : Rec) : Option Nat :=
  (List.range r.points).find? (fun i => s.valueSettles c (r.first.toNat + i))

/-- Whether a record is discarded whole (11 R278). -/
def State.discards (s : State) (c : Fin 4) (r : Rec) : Bool :=
  decide (r.first < (s.ch[c].dec.firstVal : Int)) || s.settlePoint c r == some 0

/-- Records after which 32-bit sums must fold: F (11 R273). -/
def State.foldEvery (s : State) (c : Fin 4) : Nat := if s.dcMode c = 3 then 65536 else 1048576

/-- Whether a channel's runs fold (11 R279): SUM or AVERAGE with AC_RUN above F. -/
def State.usesFold (s : State) (c : Fin 4) : Bool := s.akey 0x0900 c != 3 && decide (s.foldEvery c < s.akey 0x0903 c)

/-- Whether a record that closes calls for a fold or a pass, as the last of those that wait to be added (11 R279–R281, R284). -/
def State.callsPass (s : State) (c : Fin 4) (r : Rec) : Bool :=
  let a := s.ch[c].acc
  let k := a.records + (a.recs.filter (fun x => !(s.discards c x))).length
  a.runOpen && !(s.discards c r) && ((s.settlePoint c r).isSome || decide (s.akey 0x0903 c ≤ k) || (s.usesFold c && k % s.foldEvery c == 0))

/-- The instant of the last point that a record adds: it closes there, cut or not (11 R275, R284; log entry 49). -/
def State.recordEnd (s : State) (c : Fin 4) (r : Rec) : Nat :=
  (s.valueInstant c (r.first.toNat + (s.settlePoint c r).getD r.points - 1)).toNat

/-- The busy interval begins at fine instant `e`, unless it is under way (11 R281). -/
def Acc.busyOn (a : Acc) (e : Nat) : Acc := if a.busyFrom.isSome then a else { a with busyFrom := some e, busyAt := e }

/-- The record open on a channel closes: its busy interval begins with it when it calls for a fold or pass (11 R275, R281). -/
def State.closeRecord (s : State) (c : Fin 4) (last : Nat) : State :=
  let calls := (s.ch[c].acc.recs.getLast?).filter (fun r => !r.closed && s.callsPass c r)
  s.modCh c (fun h =>
    let acc := { h.acc with recs := h.acc.recs.map (fun r => { r with closed := true }) }
    { h with open_ := none, lastEnd := some last, acc := calls.elim acc (fun r => acc.busyOn (s.recordEnd c r)) })

/-- The segment or record open at instant `e` closes there (09 R227, 12 R297). Values of the acquisition's last segment whose last input
comes after the boundary at which the channel goes to DONE are still made and stored, but neither compared nor counted (log entry 56). -/
def State.closeOpen (s : State) (c : Fin 4) (e : Nat) : State :=
  match s.ch[c].open_ with
  | none => s
  | some o => match o.idx with
    | none => (s.closeRecord c o.last).afterClose c e
    | some idx =>
      let s0 := s.roomToClose c (o.last + 1 - o.first)
      if s0.ch[c].open_.isNone then s0
      else
        let s1 := s0.sealSeg c idx o.first o.last false false
        if s.akey 0x0700 c ≤ s1.ch[c].segs then s1.toDone c 1 (s1.boundaryFrom (ceilDiv e fineUnit)) e
        else if s.contin c then s1.openCont c (o.last + 1)
        else s1.afterClose c e

/-! Triggers (09 R232). -/

/-- A refused trigger (09 R232): counted; during an events holdoff it counts towards its number (09 R243). -/
def State.refuse (s : State) (c : Fin 4) (p : Nat) : State :=
  s.modCh c (fun h =>
    { h with refused := satAdd 32 h.refused 1
             hold := match h.st, h.hold with
               | .holdoff, .events n r => if n ≤ 1 then .until_ (p + 4 * r * fineUnit) else .events (n - 1) r
               | _, x => x })

/-- A trigger refused on a full descriptor queue (12 R297, R315). -/
def State.rateRefuse (s : State) (c : Fin 4) (p : Nat) : State :=
  let s1 := (s.refuse c p).modCh c (fun h => { h with rateRef := satAdd 32 h.rateRef 1, fRate := some s.clk })
  let due := s.ch[c].rateLog.elim true (fun a => decide (a + 3000000000 ≤ s.clk))
  if due then (s1.modCh c (fun h => { h with rateLog := some s.clk })).logEv 0x0A04 sevWarning (c.val + 1)
      (leBytes 4 s1.ch[c].rateRef)
  else s1

/-- What a trigger brings: its point, stamp, source code, and whether it is an auto trigger. -/
structure TrigIn where
  p     : Nat
  stamp : Stamp
  src   : Nat
  auto  : Bool
deriving DecidableEq, Repr

/-- The source code a descriptor records (08 R199): an auto trigger is FORCE (09 R245). -/
def TrigIn.code (x : TrigIn) : Nat := x.src % 256

/-- The counts, stamps, pulses and export of a taken trigger (09 R232, R248; 16 R401). -/
def State.countTrig (s : State) (c : Fin 4) (x : TrigIn) : State :=
  let s1 := s.modCh c (fun h => { h with trigs := satAdd 64 h.trigs 1, trigWas := h.lastTrig, lastTrig := x.stamp, autoX := none })
  (s1.duePulse (s.cycleOf x.p + 416) (0x0040 + c.val)).exportTrig c x.code x.p (x.stamp.qual.getLsbD 5)

/-- The holdoff that a taken trigger starts (09 R241, R242). -/
def State.startHold (s : State) (c : Fin 4) (p : Nat) : State :=
  let m := s.keyAt 0x0701 (c.val + 1) (p / fineUnit)
  let s1 := s.modCh c (fun h => { h with holdMode := m, hold := .off })
  if m = 1 then
    let d := s1.draw c (s.keyAt 0x0704 (c.val + 1) (p / fineUnit))
    d.2.modCh c (fun h => { h with hold := .until_ (p + (s.keyAt 0x0702 (c.val + 1) (p / fineUnit) + 4 * d.1) * fineUnit) })
  else s1

/-- The index of the trigger value, before value 0 a negative one (08 R222, 10 R261). -/
def State.trigValue (s : State) (c : Fin 4) (p : Nat) : Int :=
  ((p : Int) + (s.ch[c].dec.delay : Int) - s.ch[c].dec.grid) / (s.valuePeriod c : Int)

/-- A trigger of an accumulating channel opens a record (11 R275). -/
def State.openRecord (s : State) (c : Fin 4) (x : TrigIn) : State :=
  let first : Int := s.trigValue c x.p - (s.akey 0x0902 c : Int)
  let n := s.akey 0x0901 c
  let s1 := s.modCh c (fun h => { h with
    st := .acquiring, open_ := some ⟨none, first.toNat, (first + (n : Int) - 1).toNat⟩
    acc := { h.acc with recs := h.acc.recs ++ [⟨first, n, 0, x.stamp, x.code, false, 0, false⟩] } })
  (s1.countTrig c x).startHold c x.p

/-- A trigger within a continuous recording (12 R296): it marks the segment that holds its value. -/
def State.contTrig (s : State) (c : Fin 4) (x : TrigIn) : State × Bool :=
  let v := s.trigValue c x.p
  let inside (g : Seg) : Bool := g.ch == c && g.acq == s.ch[c].acq && !g.written && decide ((g.firstVal : Int) ≤ v)
    && (if g.closed then decide (v < ((g.firstVal + g.length : Nat) : Int))
        else s.ch[c].open_.any (fun o => decide (v ≤ (o.last : Int))))
  match s.tr.segs.find? inside with
  | none => (s.refuse c x.p, false)
  | some g =>
    let s1 := s.modSeg c g.acq g.idx (fun y =>
      let y1 := { y with trgs := v.toNat :: y.trgs }
      if y.trgIn then y1
      else { y1 with trgIn := true, trgOff := v.toNat - y.firstVal, source := x.code, stamp := x.stamp, auto := x.auto })
    (s1.countTrig c x, true)

/-- Open a segment on a trigger whose admission and descriptor page are settled (12 R295, R300). The trigger is taken, with all that
follows from it, once a value of the segment has room (09 R232; 12 R297, R301). -/
def State.openSeg (s : State) (c : Fin 4) (x : TrigIn) (idx first last : Nat) (preCut : Bool) (reserved : List Nat) : State × Bool :=
  let v := s.trigValue c x.p
  let inSeg := decide ((first : Int) ≤ v)
  let g := { s.newSeg c idx first preCut with
    reserved := reserved, trgs := if inSeg then [v.toNat] else [], trgIn := inSeg
    trgOff := if inSeg then v.toNat - first else 0, source := x.code, stamp := x.stamp, auto := x.auto }
  let s1 := (s.putSeg c g).modCh c (fun h => { h with st := .acquiring, open_ := some ⟨some idx, first, last⟩ })
  let s2 := s1.roomFor c (s.stagedValues c first last) true false
  if (s2.seg? c s.ch[c].acq idx).isNone then (s2, false)
  else
    let s3 := s2.countTrig c x
    (if s3.ch[c].st == .acquiring then s3.startHold c x.p else s3, true)

/-- A trigger taken in ARMED opens a segment, or is refused for what memory lacks (12 R295, R297, R301, R302). -/
def State.openTrig (s : State) (c : Fin 4) (x : TrigIn) : State × Bool :=
  let start : Int := s.trigValue c x.p - (s.akey 0x0A03 c : Int)
  let lo := max s.ch[c].dec.firstVal (s.ch[c].lastEnd.elim 0 (· + 1))
  let first := max start.toNat lo
  let endv : Int := start + (s.akey 0x0A02 c : Int) - 1
  let idx := s.nextIdx c
  if endv < (first : Int) then (s.refuse c x.p, false)
  else if s.akey 0x0A00 c = 2 then
    let n := s.gatedNeed c idx
    if s.ch[c].quota < s.heldPages c + n ∨ s.freePages < n then
      ((s.modCh c (fun h => { h with refused := satAdd 32 h.refused 1 })).countRefused c, false)
    else
      let r := State.reservePages c idx n s []
      r.1.openSeg c x idx first endv.toNat (decide (start < (first : Int))) r.2
  else
    let d := s.getDesc c idx
    if d.2 then ((d.1.modCh c (fun h => { h with refused := satAdd 32 h.refused 1 })).fullStop c 0xFFFFFFFF true, false)
    else d.1.openSeg c x idx first endv.toNat (decide (start < (first : Int))) []

/-- Whether a channel is ARMED at a trigger point (09 R232): after the last value of the previous segment, outside holdoff. -/
def State.armedAt (s : State) (c : Fin 4) (p : Nat) : Bool :=
  s.ch[c].st == .armed && (match s.ch[c].lastEnd with
    | none => true
    | some j => decide (s.valueInstant c j < (p : Int)))
    && decide (s.ch[c].holdEnd ≤ p)
    && (match s.ch[c].hold with
    | .until_ h => decide (h ≤ p)
    | .events _ _ => false
    | .off => true)

/-- Whether a trigger point lies in a busy interval of accumulation, the present one or the last (11 R281). -/
def Acc.busyAtPoint (a : Acc) (p : Nat) : Bool := decide (a.busyAt ≤ p) && (a.busyFrom.isSome || decide (p < a.drainAt * fineUnit))

/-- A trigger at its point: taken or refused (09 R232; 11 R281; 12 R296, R297). The flag says whether it was taken. -/
def State.trigger (s : State) (c : Fin 4) (x : TrigIn) : State × Bool :=
  if s.contin c then
    if s.ch[c].st != .acquiring && s.ch[c].st != .done then (s.refuse c x.p, false)
    else if 1024 ≤ s.tr.descQ.length then (s.rateRefuse c x.p, false)
    else s.contTrig c x
  else if s.accum c && s.ch[c].acc.busyAtPoint x.p then
    ((s.refuse c x.p).modCh c (fun h => { h with acc := { h.acc with busyRef := satAdd 32 h.acc.busyRef 1 } }), false)
  else if !(s.armedAt c x.p) || (s.accum c && !s.ch[c].acc.runOpen) then (s.refuse c x.p, false)
  else if 1024 ≤ s.tr.descQ.length then (s.rateRefuse c x.p, false)
  else if s.accum c then (s.openRecord c x, true)
  else s.openTrig c x

/-! Markers (09 R247). -/

/-- Record a marker: the log, its pulse (09 R247, R248). -/
def State.marker (s : State) (c : Fin 4) (fine : Nat) (stamp : Stamp) (code origin : Nat) : State :=
  let s1 := s.modCh c (fun h => { h with
    marks := (⟨fine, stamp.ticks, stamp.fracq, code, origin⟩ :: h.marks).take 4096, markNext := wrapAdd 32 h.markNext 1
    marked := fine :: h.marked })
  s1.duePulse (s.cycleOf fine + 416) (0x0044 + c.val)

/-! The sequencer (09 R237–R239). -/

/-- Whether a timer counts as RUNNING or EXPIRED for an event at `p` (09 R239). -/
def Tmr.runsAt : Tmr → Nat → Bool
  | .running x, p => decide (p ≤ x)
  | _, _ => false

/-- Whether a timer has expired for an event at `p`. -/
def Tmr.overAt : Tmr → Nat → Bool
  | .expired, _ => true
  | .running x, p => decide (x < p)
  | .idle, _ => false

/-- The test of an entry at an event (09 R234, R237). -/
def SeqView.test (h : SeqView) (tb : SeqTable) (e : Trans) (p : Nat) : Bool :=
  let cnt := if e.index = 0 then h.cnt0 else h.cnt1
  let lim := if e.index = 0 then tb.lim0 else tb.lim1
  let tmr := if e.index = 0 then h.tmr0 else h.tmr1
  match e.kind with
  | 0 => true
  | 1 => decide (lim ≤ cnt)
  | 2 => decide (cnt < lim)
  | 3 => tmr.runsAt p
  | 4 => tmr.overAt p
  | _ => false

/-- The four entries of a state. -/
def SeqTable.entries (tb : SeqTable) (st : Nat) : List Trans := (tb.trans.drop (4 * st)).take 4

/-- Actions 1 to 3 of 09 R237 on counters and timers. -/
def Chan.act (h : Chan) (tb : SeqTable) (e : Trans) (p : Nat) : Chan :=
  let a := e.acts
  let h1 := if a.getLsbD 1 then { h with cnt0 := 0, cnt1 := 0, tmr0 := .idle, tmr1 := .idle } else h
  let upd (h : Chan) (f : Nat → Nat) : Chan := if e.selC = 0 then { h with cnt0 := f h.cnt0 } else { h with cnt1 := f h.cnt1 }
  let h2 := if a.getLsbD 6 then upd h1 (fun _ => 0) else h1
  let h3 := if a.getLsbD 5 then upd h2 (fun n => satAdd 32 n 1) else h2
  let tm (h : Chan) (x : Tmr) : Chan := if e.selT = 0 then { h with tmr0 := x } else { h with tmr1 := x }
  let h4 := if a.getLsbD 3 then tm h3 .idle else h3
  if a.getLsbD 2 then tm h4 (.running (p + (if e.selT = 0 then tb.tmr0 else tb.tmr1) * fineUnit)) else h4

/-- Take an entry at an event (09 R237): the state and whether a trigger was taken. -/
def State.takeEntry (s : State) (c : Fin 4) (e : Trans) (x : TrigIn) : State × Bool :=
  let tb := s.seqTable c
  let s1 := s.modCh c (fun h => { (h.keep x.p).act tb e x.p with seqState := if e.acts.getLsbD 1 then tb.init else e.next })
  let s2 := if e.acts.getLsbD 4 then s1.marker c x.p x.stamp e.mark x.code else s1
  if e.acts.getLsbD 0 then s2.trigger c x else (s2, false)

/-- Offer an event to a sequencer (09 R237), judged by what it held at the event's stamp (09 R228). -/
def State.offer (s : State) (c : Fin 4) (x : TrigIn) : State × Bool :=
  let tb := s.seqTable c
  let v := s.ch[c].viewAt x.p
  match (tb.entries v.seqState).find? (fun e => e.valid && e.source == x.src && v.test tb e x.p) with
  | none => (s, false)
  | some e => s.takeEntry c e x

/-- A timer expires at its instant (09 R239): it becomes EXPIRED and its event goes to the entries that wait for it. -/
def State.expire (s : State) (c : Fin 4) (n : Nat) (p : Nat) : State :=
  let s1 := s.modCh c (fun h => if n = 0 then { h.keep p with tmr0 := .expired } else { h.keep p with tmr1 := .expired })
  let tb := s.seqTable c
  match (tb.entries s.ch[c].seqState).find? (fun e => e.valid && e.source == 0 && e.kind == 4 && e.index == n) with
  | none => s1
  | some e => (s1.takeEntry c e ⟨p, s.stampAt p 0 false, 0, false⟩).1

/-- An auto trigger at its expiry (09 R245). -/
def State.autoFire (s : State) (c : Fin 4) (p : Nat) : State :=
  let s1 := s.modCh c (fun h => { h with auto := satAdd 32 h.auto 1, autoX := none })
  let r := s1.trigger c ⟨p, s.stampAt p 0 false, srcForce, true⟩
  if !r.2 && r.1.ch[c].st == .armed then r.1.modCh c (fun h => { h with autoX := s.autoAt c p }) else r.1

/-- What is due on a channel, with its instant and its rank among happenings of one instant (09 R239, R242, R250). -/
inductive Happening where
  | holdEnd | expiry (n : Nat) | auto | close
deriving DecidableEq, Repr

/-- Whether a fine instant lies before the boundary of a channel's ordered stop, if there is one (09 R231, R250). -/
def Chan.beforeStop (h : Chan) (f : Nat) : Bool := h.stopAt.all (fun r => decide (f < r.at_ * fineUnit))

/-- The happenings that wait on a channel: those before its ordered stop. -/
def State.happenings (s : State) (c : Fin 4) : List (Nat × Happening) :=
  let h := s.ch[c]
  ((match h.st, h.hold with
    | .holdoff, .until_ x => [(x, Happening.holdEnd)]
    | _, _ => [])
  ++ (match h.tmr0 with
    | .running x => [(x, Happening.expiry 0)]
    | _ => [])
  ++ (match h.tmr1 with
    | .running x => [(x, Happening.expiry 1)]
    | _ => [])
  ++ (match h.st, h.autoX with
    | .armed, some x => [(x, Happening.auto)]
    | _, _ => [])
  ++ (match s.closeInstant c with
    | some x => [(x, Happening.close)]
    | none => [])).filter (fun x => h.beforeStop x.1)

/-- The earliest happening; of happenings at one instant, the one that stands first in the list: timer 0 before timer 1, and a timer's
expiry before the close (log entry 58). -/
def firstHappening : List (Nat × Happening) → Option (Nat × Happening)
  | [] => none
  | x :: xs => match firstHappening xs with
    | none => some x
    | some y => if y.1 < x.1 then some y else some x

/-- Bring one happening about at its instant. -/
def State.happen (s : State) (c : Fin 4) (x : Nat × Happening) : State :=
  match x.2 with
  | .holdEnd => s.toArmed c x.1
  | .expiry n => s.expire c n x.1
  | .auto => s.autoFire c x.1
  | .close => s.closeOpen c x.1

/-- Whether a happening comes before an event at `p` (09 R239, R242, R250): a holdoff end also at the same instant, and before an
external marker the expiry of a timer as well (09 R247). -/
def beforeEvent (mark : Bool) (x : Nat × Happening) (p : Nat) : Bool :=
  match x.2 with
  | .holdEnd => decide (x.1 ≤ p)
  | .expiry _ => decide (x.1 < p) || (mark && x.1 == p)
  | _ => decide (x.1 < p)

/-- Everything on a channel that comes before an event at `p`, in order, at most `fuel` happenings; `mark` says that the event is an
external marker. -/
def State.catchUp (c : Fin 4) (mark : Bool) (p : Nat) : Nat → State → State
  | 0, s => s
  | n + 1, s =>
    match firstHappening ((s.happenings c).filter (fun x => beforeEvent mark x p)) with
    | none => s
    | some x => State.catchUp c mark p n (s.happen c x)

/-- More than the happenings of a channel that can come before fine instant `p`: timers and the auto trigger recur after 4 ticks or
more, segments after 20. -/
def catchFuel (p : Nat) : Nat := 64 + p / fineUnit

/-! Presentation (08 R220, R221; 09 R228). -/

/-- Internal codes of events that are not sources: a direct trigger of FORCE_TRIGGER (09 R246) and an external marker (09 R247). -/
def srcDirect : Nat := 0x11A
/-- External marker on AUX_IO pin `p`. -/
def srcMark (p : Nat) : Nat := 0x200 + p

/-- Whether event `e` goes to channel `c`: a destination that was past ARMING and not DONE at the stamp, also where it has gone to DONE
since (09 R228, R231; 12 R296). -/
def State.receives (s : State) (c : Fin 4) (e : Ev) : Bool :=
  e.dest.getLsbD c.val && decide (s.ch[c].armClk * fineUnit ≤ e.fine)
    && (s.armedOn c && s.ch[c].beforeStop e.fine || s.ch[c].st == .done && decide (e.fine < s.ch[c].doneAt))

/-- One event at one channel. -/
def State.evAt (s : State) (c : Fin 4) (e : Ev) : State × Bool :=
  if !(s.receives c e) then (s, false)
  else
    let s1 := State.catchUp c (decide (0x200 ≤ e.src)) e.fine (catchFuel e.fine) s
    if !(s1.receives c e) then (s1, false)
    else if 0x200 ≤ e.src then (s1.marker c e.fine e.stamp 0 (128 + e.src % 16), false)
    else if e.src = srcDirect then s1.trigger c ⟨e.fine, e.stamp, e.src, false⟩
    else s1.offer c ⟨e.fine, e.stamp, e.src, false⟩

/-- The counters of the source that an event presented belongs to (08 R223, R224; 10 R268). -/
def State.countEv (s : State) (e : Ev) : State :=
  if h : 1 ≤ e.src ∧ e.src ≤ 4 then
    s.modCh ⟨e.src - 1, by omega⟩ (fun x => { x with det := { x.det with
      count := wrapAdd 64 x.det.count 1, last := e.stamp, lost := x.det.lost.raise (!e.valid) s.clk } })
  else if h : 8 ≤ e.src ∧ e.src ≤ 15 then
    s.modCh ⟨(e.src - 8) / 2, by omega⟩ (fun x => { x with dec := { x.dec with
      flt := x.dec.flt.set (e.src % 2) (wrapAdd 64 x.dec.flt[e.src % 2] 1) } })
  else if e.src = 0x10 ∨ e.src = 0x11 then
    s.modTm (fun m => { m with extCount := m.extCount.set (e.src % 2) (wrapAdd 32 m.extCount[e.src % 2] 1) })
  else s

/-- A dropped event counts with its source (08 R221). -/
def State.dropEv (s : State) (e : Ev) : State :=
  if h : 1 ≤ e.src ∧ e.src ≤ 4 then
    s.modCh ⟨e.src - 1, by omega⟩ (fun x => { x with det := { x.det with coal := wrapAdd 64 x.det.coal 1 } })
  else allCh.foldl (fun a c => if a.receives c e then a.modCh c (fun x => { x with coal := satAdd 32 x.coal 1 }) else a) s

/-- An event's place among events of equal stamp: its source code, which a direct trigger of FORCE_TRIGGER shares with FORCE (09 R250);
external markers come last (09 R247). -/
def Ev.rank (e : Ev) : Nat := if e.src < 0x200 then e.src % 256 else e.src

/-- Order of events: earlier stamp, then lower source code (08 R221). -/
def Ev.before (a b : Ev) : Bool := decide (a.fine < b.fine) || (a.fine == b.fine && decide (a.rank < b.rank))

/-- Insert an event in order. -/
def insertEv (e : Ev) : List Ev → List Ev
  | [] => [e]
  | x :: xs => if e.before x then e :: x :: xs else x :: insertEv e xs

/-- Sort events. -/
def sortEvs (l : List Ev) : List Ev := l.foldr insertEv []

/-- Bits of a list of channels, encoded as CHSEL. -/
def chMask (cs : List (Fin 4)) : Nat := (cs.map (fun c => 2 ^ c.val)).sum

/-- Whether an event comes from FORCE_TRIGGER (09 R246). -/
def Ev.forced (e : Ev) : Bool := e.src == srcForce || e.src == srcDirect

/-- Note, for the FORCE_TRIGGER that waits, the channels in which its event brought a trigger (09 R246). -/
def State.noteTaken (s : State) (e : Ev) (cs : List (Fin 4)) : State :=
  match s.mr.exec with
  | some ⟨m, t, .force st k⟩ =>
    if e.forced && e.fine == st * fineUnit then s.modMr (fun r => { r with exec := some ⟨m, t, .force st (k ||| chMask cs)⟩ })
    else s
  | _ => s

/-- One event at every channel it goes to: the state and the channels in which a trigger was taken. -/
def State.evAtAll (s : State) (e : Ev) : State × List (Fin 4) :=
  allCh.foldl (fun a c =>
    let r := a.1.evAt c e
    (r.1, if r.2 then a.2 ++ [c] else a.2)) (s, [])

/-- Whether an event stands: a detector's does unless the sample that made it lies at or after the end of its run (08 R200). -/
def State.stands (s : State) (e : Ev) : Bool :=
  if h : 1 ≤ e.src ∧ e.src ≤ 4 then
    let c : Fin 4 := ⟨e.src - 1, by omega⟩
    s.ch[c].det.runsAt (s.detEnd c) e.last || (!s.ch[c].det.running && s.ch[c].det.ends.isNone)
  else true

/-- What comes before an event on the channels that it goes to, in order (09 R228). -/
def State.bringUp (s : State) (e : Ev) : State :=
  allCh.foldl (fun a c => if a.receives c e then State.catchUp c (decide (0x200 ≤ e.src)) e.fine (catchFuel e.fine) a else a) s

/-- Present one cycle's events in order; `seen` are the sources already delivered in it, each with the channels it goes to:
every channel has a TIMER source of its own (08 R199, R221). -/
def State.presentAll : List Ev → List (Nat × BitVec 4) → State → State
  | [], _, s => s
  | e :: es, seen, s =>
    let s1 := s.bringUp e
    if s1.stands e = false then State.presentAll es seen s1
    else if e.src < 0x200 ∧ (seen.any (fun x => x.1 == e.src && x.2 &&& e.dest != 0#4)) = true then State.presentAll es seen (s1.dropEv e)
    else
      let r := (s1.countEv e).evAtAll e
      State.presentAll es ((e.src, e.dest) :: seen) (r.1.noteTaken e r.2)

/-- The earliest presentation cycle among events. -/
def firstCycle (l : List Ev) : Option Nat := (l.map (·.pres)).min?

/-- An event as it is presented: its stamp carries the scale and the bits that were in force at its instant, also where a step, a mark or
a change of QUAL at or before it came to be known after the event, as one ahead of a NIRED event does (07 R176, R185; 08 R219). -/
def State.restamp (s : State) (e : Ev) : Ev :=
  { e with stamp := s.stampAt e.fine (e.stamp.qual.toNat / 64) (e.stamp.qual.getLsbD 5) }

/-- Present the events of cycle `p`. -/
def State.presentCycle (s : State) (p : Nat) : State :=
  State.presentAll ((sortEvs (s.evq.filter (fun e => e.pres == p))).map s.restamp) [] (s.setEvq (s.evq.filter (fun e => e.pres != p)))

/-- Present the cycles up to cycle `lim`, at most `fuel` of them. -/
def State.presentCycles (lim : Nat) : Nat → State → State
  | 0, s => s
  | n + 1, s =>
    match firstCycle (s.evq.filter (fun e => decide (e.pres ≤ lim))) with
    | none => s
    | some p => State.presentCycles lim n (s.presentCycle p)

/-- The same with fuel enough for all of them. -/
def State.presentUpTo (s : State) (lim : Nat) : State := State.presentCycles lim s.evq.length s

/-- One event at a channel that stops, unless its source has delivered in its cycle (08 R221). -/
def State.evAtOnce (c : Fin 4) (r : State × List (Nat × Nat)) (e : Ev) : State × List (Nat × Nat) :=
  if r.2.contains (e.src, e.pres) then (r.1.modCh c (fun h => { h with coal := satAdd 32 h.coal 1 }), r.2)
  else ((r.1.evAt c e).1, (e.src, e.pres) :: r.2)

/-- What still waits for a channel that stops at boundary `q` and is stamped before it, which is presented after that, as FLT events
are: the channel processes it before it stops (08 R220; 09 R231), the others in its cycle. -/
def State.lastEvents (s : State) (c : Fin 4) (q : Nat) : State :=
  let mine (e : Ev) : Bool := e.dest.getLsbD c.val && decide (e.fine < q * fineUnit)
  ((sortEvs (s.evq.filter mine)).foldl (State.evAtOnce c) (s.setEvq (s.evq.map (fun e =>
    if mine e then { e with dest := e.dest &&& ~~~(1#4 <<< c.val) } else e)), [])).1

/-! The end of a run of accumulation (11 R279–R284). -/

/-- The delay-line wait after the cycle that completes a value, and that cycle (11 R276). -/
def drainWait : Nat := 4100

/-- The boundary at which value `j` leaves the delay line and is added (11 R276). -/
def State.addedAt (s : State) (c : Fin 4) (j : Nat) : Nat := s.completion c j + drainWait

/-- A fold or pass is called for from tick `drain` on; the busy interval began at fine instant `close`, unless it is under way (11 R281). -/
def Acc.call (a : Acc) (fold : Bool) (close drain : Nat) : Acc :=
  { a.busyOn close with folding := fold, pass := !fold, drainAt := drain }

/-- The run ends, all its records added (11 R280, R284): its final fold or its pass follows from tick `drain` on, busy from fine instant
`close`; a fold under way is its final one (11 R287); a run without a record writes nothing and gives its pages back. -/
def State.endRun (s : State) (c : Fin 4) (close drain : Nat) : State :=
  let s1 := s.modCh c (fun h => { h with acc := { h.acc with runOpen := false, ending := false } })
  if s.ch[c].acc.folding then s1
  else if s.ch[c].acc.records = 0 then
    (s1.modCh c (fun h => { h with acc := { h.acc with pages := [], foldPgs := [], busyFrom := none } })).sweep c
  else s1.modCh c (fun h => { h with acc := h.acc.call (s.usesFold c) close drain })

/-- A run ends at boundary `q` because its channel stops (11 R284, R287): records whose points still wait are added first, and the channel
is busy meanwhile. -/
def State.stopRun (s : State) (c : Fin 4) (q : Nat) : State :=
  if !s.ch[c].acc.runOpen then s
  else if s.ch[c].acc.recs.isEmpty then s.endRun c (q * fineUnit) q
  else s.modCh c (fun h => { h with acc := { h.acc.busyOn (q * fineUnit) with runOpen := false, ending := true } })

/-! Stopping a channel (09 R231, R250; 11 R284). -/

/-- Log a cut run (11 R288): its cause and the tick of the last point added. -/
def State.logCut (s : State) (c : Fin 4) (cause tick : Nat) : State :=
  s.logEv 0x0901 sevNotice (c.val + 1) (leBytes 1 cause ++ List.replicate 3 0#8 ++ leBytes 8 tick)

/-- Cut the open record at boundary `q` (11 R284): it adds the points before `q`; cause 1 DISARM, 3 stop. One without a point is not
added; one that is discarded, or that a settling value has cut before, is not cut here (11 R278, R288). -/
def State.cutRecord (s : State) (c : Fin 4) (q cause : Nat) : State :=
  match s.ch[c].open_ with
  | none => s
  | some o =>
    let n := (s.lastBefore c q).elim 0 (fun l => min (o.last + 1 - o.first) (l + 1 - o.first))
    let ends (r : Rec) : Rec := if r.closed then r else { r with points := n, cut := cause, closed := true }
    let cutHere (r : Rec) : Bool := !r.closed && n != 0 && !(s.discards c (ends r))
    let s1 := s.modCh c (fun h =>
      let acc := { h.acc with recs := (h.acc.recs.map ends).filter (fun r => r.points != 0) }
      { h with
        lastEnd := if n = 0 then h.lastEnd else some (o.first + n - 1)
        acc := ((h.acc.recs.find? cutHere)).elim acc (fun r => acc.busyOn (s.recordEnd c (ends r))) })
    if s.ch[c].acc.recs.any (fun r => cutHere r && (s.settlePoint c (ends r)).isNone) then
      (s1.modCh c (fun h => { h with acc := { h.acc with cut := some s.clk } })).logCut c cause
        (s.ticksAt ((s.valueInstant c (o.first + n - 1)).toNat / fineUnit))
    else s1

/-- Close what is open on a channel at boundary `q`, early (09 R231, 12 R295). -/
def State.closeEarly (s : State) (c : Fin 4) (q cause : Nat) : State :=
  match s.ch[c].open_ with
  | none => s
  | some o => match o.idx with
    | none => s.cutRecord c q cause
    | some idx =>
      match s.lastBefore c q with
      | none => s.unopenSeg c idx false
      | some l =>
        let last := min l o.last
        if last < o.first then s.unopenSeg c idx false
        else
          let s1 := s.roomToClose c (last + 1 - o.first)
          if s1.ch[c].open_.isNone then s1 else s1.sealSeg c idx o.first last true false

/-- Stop a running channel at boundary `q` (09 R231, R250): events before `q` have been presented; what they bring comes
first. -/
def State.stopChan (s : State) (c : Fin 4) (q reason cause : Nat) : State :=
  let s1 := State.catchUp c false (q * fineUnit) (catchFuel (q * fineUnit)) s
  if !(s1.armedOn c) then s1
  else
    let s2 := s1.closeEarly c q cause
    let s3 := if s2.ch[c].st == .done then s2 else s2.toDone c reason q (q * fineUnit)
    s3.stopRun c q

end Sys2Proof.Machine
end

