-- ==== Sys2Proof/Machine/Decim.lean ====
section
/-!
DEFINITION. The decimation stage (10): the thresholds on its values, DC_OUT, DC_SAT and SETTLE_LEFT, FLT_EVENT and
SYNCHRONISING_RESET.
-/

namespace Sys2Proof.Machine

/-! What the thresholds compare (10 R254, R265). -/

/-- The pair of series that the thresholds compare: maxima and minima of PEAK, or the 32-bit form twice. -/
def State.comparedValue (s : State) (c : Fin 4) (v : Value) : Int × Int :=
  match s.decMode c with
  | 2 => (v.hi * 65536, v.lo * 65536)
  | 3 => if s.decKey 0x0804 c = 1 then (v.lo, v.lo) else (v.lo * 65536, v.lo * 65536)
  | _ => (v.lo * 65536, v.lo * 65536)

/-! Thresholds (10 R265, R266). -/

/-- The keys of threshold `t`: slope, level, hysteresis at a slice-clock instant. -/
def State.fltKeys (s : State) (c : Fin 4) (t : Fin 2) (at_ : Nat) : Nat × Int × Int :=
  let k := 0x0810 + 8 * t.val
  (s.keyAt k (c.val + 1) at_, decInt 32 (s.keyAt (k + 1) (c.val + 1) at_), (s.keyAt (k + 2) (c.val + 1) at_ : Int))

/-- Whether the threshold rises or falls through its level at a value, from the previous one. -/
def Dec.fltCross (d : Dec) (t : Fin 2) (l : Int) (v : Int × Int) : Bool × Bool :=
  match d.prev with
  | none => (false, false)
  | some p => (decide (p.1 < l ∧ l ≤ v.1) && d.fR[t], decide (l < p.2 ∧ v.2 ≤ l) && d.fF[t])

/-- One threshold at one value: priming and, on a crossing its slope asks for, the event (10 R265). -/
def State.fltStep (s : State) (c : Fin 4) (j : Nat) (v : Int × Int) (t : Fin 2) : State :=
  let at_ := s.completion c j
  let k := s.fltKeys c t at_
  let x := s.ch[c].dec.fltCross t k.2.1 v
  let s1 := s.modCh c (fun h => { h with dec := { h.dec with
    fR := h.dec.fR.set t.val (decide (v.1 ≤ k.2.1 - k.2.2) || (h.dec.fR[t] && !x.1))
    fF := h.dec.fF.set t.val (decide (k.2.1 + k.2.2 ≤ v.2) || (h.dec.fF[t] && !x.2)) } })
  let i := (s.valueInstant c j).toNat
  let raise (a : State) : State := a.pushEv i (8 + 2 * c.val + t.val) at_ (s.stampAt i 1 false) 0xF#4 false
  let s2 := if x.1 && bitAt k.1 0 then raise s1 else s1
  if x.2 && bitAt k.1 1 then raise s2 else s2

/-- Whether value `j` is delivered: from the first one on (10 R264), and up to the last one before the stage stops (10 R270). -/
def State.delivered (s : State) (c : Fin 4) (j : Nat) : Bool :=
  let d := s.ch[c].dec
  decide (d.firstVal ≤ j)
    && (if d.running then (s.decEnd c).all (fun q => (s.lastBefore c q).any (fun n => decide (j ≤ n)))
        else d.last.any (fun n => decide (j ≤ n)))

/-- Whether the thresholds compare value `j` now: delivered, completed from samples that have passed the correction path and the
decimation input (01 R19), and not compared before (10 R264, R265, R270). -/
def State.comparesValue (s : State) (c : Fin 4) (j : Nat) : Bool :=
  s.present c && s.delivered c j && decide (s.completion c j + pathTicks + decimTicks ≤ s.clk) && s.ch[c].dec.seen.elim true (fun n => decide (n < j))

/-- DC_SAT counts a saturated value once (10 R259, R268). A suppressed value does not count (log entry 56). -/
def State.countSat (s : State) (c : Fin 4) (j : Nat) (v : Value) : State :=
  if v.sat && !(s.ch[c].dec.sats.contains j) then s.modCh c (fun h => { h with dec := { h.dec with
    sats := j :: h.dec.sats, sat := satAdd 32 h.dec.sat 1, satFlag := some s.clk } })
  else s

/-- Both thresholds lose their priming and the value they compare with, where a reset at boundary `b` lies between the values compared
before and the next one (10 R262, R265). -/
def Dec.meet (d : Dec) (b : Nat) : Dec :=
  if d.cleared < b then { d with cleared := b, fR := Vector.replicate 2 false, fF := Vector.replicate 2 false, prev := none } else d

/-- The boundary of the last reset at or before the completion of value `j`, 0 before any (10 R262). -/
def State.resetBefore (s : State) (c : Fin 4) (j : Nat) : Nat :=
  ((s.ch[c].dec.resets.find? (fun r => decide (r.2.2 ≤ s.completion c j))).map (·.2.2)).getD 0

/-- A value passes through the thresholds (10 R259, R265, R266). The first value after settling ones is compared with the last before
them, as the frozen state holds it (log entry 56). -/
def State.compareValue (s : State) (c : Fin 4) (j : Nat) (v : Value) : State :=
  let s1 := (s.countSat c j v).modCh c (fun h => { h with dec := { h.dec.meet (s.resetBefore c j) with seen := some j } })
  let x := s.comparedValue c v
  if v.set then s1
  else (([0, 1] : List (Fin 2)).foldl (fun a t => a.fltStep c j x t) s1).modCh c (fun h => { h with dec := { h.dec with prev := some x } })

/-! Synchronising reset (10 R262, R263). -/

/-- The index of the first settling value of a reset at boundary `b`: that of the interval which holds `b`, its last input at or after
it; values still in the pipeline at `b` do not count (10 R262; log entry 56). -/
def State.firstFrom (s : State) (c : Fin 4) (b : Nat) : Nat := (s.lastInput c (b * fineUnit)).elim 0 (· + 1)

/-- A continuous recording's first segment, opened on values that were to be suppressed, begins with value `n` once these are delivered
(10 R264, 12 R296). -/
def State.moveFirst (s : State) (c : Fin 4) (n : Nat) : State :=
  match s.ch[c].open_ with
  | some ⟨some idx, first, last⟩ =>
    if s.contin c && first == s.ch[c].dec.firstVal && decide (n < first) then
      (s.modSeg c s.ch[c].acq idx (fun g => { g with
        firstVal := n, trgOff := if g.trgIn then g.trgOff + (first - n) else 0 })).modCh c (fun h => { h with
          open_ := some ⟨some idx, n, last - (first - n)⟩ })
    else s
  | _ => s

/-- The reset that DC_RESET scheduled takes place: the stage is cleared, the thresholds unprimed from the values on that are completed
at or after it, the settling count restarted; the grid stands. Its settling values are delivered even where those of the ARM would be
suppressed (10 R262–R264). -/
def State.syncReset (s : State) (c : Fin 4) : State :=
  match s.ch[c].dec.resetAt with
  | none => s
  | some b =>
    if s.clk < b then s
    else (s.moveFirst c (s.firstFrom c b)).modCh c (fun h => { h with dec := { h.dec with
      resetAt := none, resets := (s.firstFrom c b, s.settleCount c, b) :: h.dec.resets
      firstVal := min h.dec.firstVal (s.firstFrom c b) } })

/-- DC_RESET written 1: a reset at the first boundary after now, unless the channel does not run past ARMING or one is
scheduled (10 R263). -/
def State.scheduleReset (s : State) (c : Fin 4) : State :=
  if s.armedOn c && s.ch[c].dec.running && s.ch[c].dec.resetAt.isNone then
    s.modCh c (fun h => { h with dec := { h.dec with resetAt := some (s.boundaryFrom (s.clk + 1)) } })
  else s

/-! Registers (10 R268, R269). -/

/-- Whether the thresholds have met the last reset: their priming stands (10 R262). -/
def Dec.met (d : Dec) : Bool := d.resets.all (fun r => decide (r.2.2 ≤ d.cleared))

/-- FLTt_PRIMED_R and FLTt_PRIMED_F: unprimed after each reset (10 R265, R269). -/
def Dec.primed (d : Dec) (t : Fin 2) : Bool × Bool := (d.met && d.fR[t], d.met && d.fF[t])

/-- The last value delivered by now, before the stage stops (10 R268, R270). -/
def State.lastMade (s : State) (c : Fin 4) : Option Nat :=
  match s.decEnd c with
  | none => s.completed c
  | some q => (s.completed c).bind (fun n => (s.lastBefore c q).map (min n))

/-- DC_OUT: values delivered. -/
def State.dcOut (s : State) (c : Fin 4) : Nat :=
  if s.ch[c].dec.running then wrapAdd 64 s.ch[c].dec.out (s.dcRun c (s.lastMade c)) else s.ch[c].dec.out

/-- SETTLE_LEFT: settling values of the last reset still to come. -/
def State.settleLeft (s : State) (c : Fin 4) : Nat :=
  match s.ch[c].dec.resets.head? with
  | none => 0
  | some r => if s.ch[c].dec.running then r.1 + r.2.1 - max r.1 ((s.completed c).elim 0 (· + 1)) else 0

/-- Value `j` of the run in progress, or of one that has just stopped, is compared if it is due; `codes` begin eight samples before its
span. -/
def State.fltValue (s : State) (c : Fin 4) (j : Nat) (codes : Codes) : State :=
  if s.comparesValue c j then
    (s.compareValue c j (s.valueOf c j (s.valueStream c j 1 codes) eqReach)).hear c (s.valueStream c j 1 codes)
  else s

/-- FLT_EVENT (10 R265): a value of the channel's grid, or of the grid that the last start of the stage replaced, is completed and
compared. -/
def execFltEvent (t : Nat) (ch : Fin 4) (v : ValueRef) (codes : Codes) (s : State) : Out :=
  go (if v.old then (s.reach t).onOldRun ch (fun a => a.fltValue ch v.index codes) else (s.reach t).fltValue ch v.index codes)

/-- SYNCHRONISING_RESET (10 R263). -/
def execSynchronisingReset (t : Nat) (ch : Fin 4) (s : State) : Out := go ((s.reach t).syncReset ch)

end Sys2Proof.Machine
end

