-- ==== Sys2Proof/Machine/Harvest.lean ====
section
/-!
DEFINITION. What a harvest descriptor delivers (14 R360–R367): its pieces, its completion status, the engine's turns.
-/

namespace Sys2Proof.Machine

/-- Change queue `q`. -/
def State.modQ (s : State) (q : Fin 64) (g : HQueue → HQueue) : State :=
  s.modHv (fun h => { h with qs := h.qs.set q.val (g h.qs[q]) })

/-- The segments a descriptor names that are held, in index order. -/
def State.descSegs (s : State) (d : HDesc) : List Seg :=
  let c : Fin 4 := Fin.ofNat 4 (d.item / 2 ^ 62)
  let a := bitsAt d.item 32 30
  let i := d.item % 2 ^ 24
  s.tr.segs.filter (fun g => g.ch == c && g.acq == a && decide (i ≤ g.idx ∧ g.idx < i + d.count))

/-- Words of a segment as harvest counts them (14 R360). -/
def State.segWords (s : State) (g : Seg) : Nat := s.wordsOf g.fmt g.length

/-- Words that a descriptor delivers of a segment. -/
def State.askedWords (s : State) (d : HDesc) (g : Seg) : Nat := if d.words = 0 then s.segWords g - d.wordOff else d.words

/-- Bytes a delivery needs (14 R360). -/
def State.needBytes (s : State) (d : HDesc) : Nat :=
  match d.op with
  | 0 => ((s.descSegs d).map (fun g => 8 * s.askedWords d g + 32 * flag (bitAt d.flags 2))).sum
  | 1 => 32768 * d.count
  | 2 => 32 * d.count
  | _ => 0

/-! Delivery (14 R360–R363). -/

/-- One piece of a delivery: its bytes, and whether it is a poisoned word. -/
abbrev Piece := List Byte × Bool

/-- A word of memory as a piece. -/
def State.wordPiece (s : State) (p w : Nat) : Piece := (s.readWord p w, s.tr.poison.contains (p * 4096 + w))

/-- What one segment delivers. -/
def State.segPieces (s : State) (d : HDesc) (g : Seg) : List Piece :=
  (if bitAt d.flags 2 then [(g.descBytes, false)] else [])
    ++ (List.range (s.askedWords d g)).map (fun i => let x := g.place (d.wordOff + i); s.wordPiece x.1 x.2)

/-- What a descriptor would deliver as memory stands, page by page where they are now (14 R360, R361). -/
def State.freshPieces (s : State) (e : Executing) : List Piece :=
  let d := e.desc
  match d.op with
  | 0 => e.segs.flatMap (fun n => (s.seg? n.1 n.2.1 n.2.2).elim [] (s.segPieces d))
  | 1 => e.pages.flatMap (fun p => (List.range 4096).map (s.wordPiece p))
  | 2 => (List.range d.count).map (fun i =>
      let n := d.item % 2 ^ 24 + i
      ((s.seg? (Fin.ofNat 4 (d.item / 2 ^ 62)) (bitsAt d.item 32 30) n).elim (List.replicate 32 0#8) Seg.descBytes, false))
  | _ => []

/-- What a descriptor delivers: words already written when one of them lost its data stand as they were (14 R373). -/
def State.pieces (s : State) (e : Executing) : List Piece := e.got ++ (s.freshPieces e).drop e.got.length

/-- The result of a delivery: status, bytes written, poisoned words among them, SKIPPED. -/
structure Delivered where
  status  : Nat
  bytes   : List Byte
  poison  : Nat
  skipped : Nat
deriving DecidableEq, Repr

/-- SKIPPED of a delivery of `n` bytes (14 R363): free pages among those delivered, zero slots among those delivered, or the segments
skipped at the take. -/
def State.skips (s : State) (e : Executing) (n : Nat) : Nat :=
  match e.desc.op with
  | 1 => ((e.pages.take (ceilDiv n 32768)).filter (fun p => !(s.pageUsed p))).length
  | 2 => ((List.range (min e.desc.count (ceilDiv n 32))).filter (fun i =>
      (s.seg? (Fin.ofNat 4 (e.desc.item / 2 ^ 62)) (bitsAt e.desc.item 32 30) (e.desc.item % 2 ^ 24 + i)).isNone)).length
  | _ => e.skipped

/-- The pieces that a descriptor delivers: with mode 1 those before the first poisoned word (14 R362). -/
def State.kept (s : State) (e : Executing) : List Piece :=
  if e.mode1 then (s.pieces e).takeWhile (fun p => !p.2) else s.pieces e

/-- Bytes of pieces. -/
def pieceBytes (ps : List Piece) : List Byte := ps.flatMap (·.1)

/-- Deliver a descriptor in full, or up to a poisoned word with mode 1 (14 R362). -/
def State.deliver (s : State) (e : Executing) : Delivered :=
  match e.status with
  | some st => ⟨st, [], 0, e.skipped⟩
  | none =>
    let ps := s.kept e
    let n := (ps.filter (·.2)).length
    let bs := pieceBytes ps
    ⟨if ps.length < (s.pieces e).length then 7 else if n = 0 then 0 else 1, bs, n, s.skips e bs.length⟩

/-- Bytes that a cancelled descriptor has written when it stops: `moved` of them had gone out, and it goes on to the first
4 KiB boundary of host address (14 R367). -/
def cancelLen (dest moved full : Nat) : Nat :=
  if moved = 0 then 0 else min full (ceilDiv (dest + min moved full) 4096 * 4096 - dest)

/-- The pieces that begin within the first `n` bytes of a delivery. -/
def piecesIn : Nat → List Piece → List Piece
  | _, [] => []
  | n, p :: ps => if n = 0 then [] else p :: piecesIn (n - p.1.length) ps

/-- Bytes that a descriptor is known to have written: as the command says, and as its turns and its kept words show. -/
def Executing.written (e : Executing) (moved : Nat) : Nat := max moved (max e.moved (pieceBytes e.got).length)

/-- Whether a descriptor has ended and only waits for an earlier record (14 R357): refused under 14 R364, or written to its end. -/
def State.ended (s : State) (e : Executing) (moved : Nat) : Bool :=
  e.status.isSome || (e.desc.op != 3 && decide ((pieceBytes (s.kept e)).length ≤ e.written moved))

/-- A descriptor when its queue is cancelled (14 R367): one that has ended keeps what it delivers; with mode 1 none delivers a poisoned
word (14 R362). -/
def State.cancelled (s : State) (e : Executing) (moved : Nat) : Delivered :=
  if s.ended e moved then s.deliver e
  else
    let bs := pieceBytes (s.kept e)
    let n := cancelLen e.desc.dest (e.written moved) bs.length
    ⟨8, bs.take n, ((piecesIn n (s.kept e)).filter (·.2)).length, s.skips e n⟩

/-! The engine's turns (14 R366). -/

/-- Bytes that a descriptor has still to move. -/
def State.leftOf (s : State) (e : Executing) : Nat := if e.status.isSome then 0 else s.needBytes e.desc - e.moved

/-- Bytes that the taken descriptors of a queue have still to move. -/
def State.queueLeft (s : State) (q : Fin 64) : Nat := (((s.hv.qs[q]).exec).map s.leftOf).sum

/-- Move `n` bytes for descriptors in order; `left` says what each has still to move. -/
def moveBytes (left : Executing → Nat) : Nat → List Executing → List Executing
  | _, [] => []
  | n, e :: l => { e with moved := e.moved + min n (left e) } :: moveBytes left (n - left e) l

/-- The queue that takes the next turn: in ascending QID, one with data to move (14 R366). -/
def State.nextTurn (s : State) : Option (Fin 64) :=
  ((List.range 64).map (fun i => Fin.ofNat 64 (s.hv.turn + 1 + i))).find? (fun q => decide (0 < s.queueLeft q))

/-- Turns until the oldest descriptor of queue `q` has moved its data, at most `fuel` moves: a queue moves WEIGHT × 32 KiB in its turn or
loses what is left of it (14 R366). -/
def State.turnsFor (q : Fin 64) : Nat → State → State
  | 0, s => s
  | n + 1, s =>
    let need := ((s.hv.qs[q]).exec.head?).elim 0 s.leftOf
    let k : Fin 64 := Fin.ofNat 64 s.hv.turn
    let m := min s.hv.left (if k = q then need else s.queueLeft k)
    if need = 0 then s
    else if m = 0 then
      match s.nextTurn with
      | none => s
      | some j => State.turnsFor q n (s.modHv (fun h => { h with turn := j.val, left := (h.qs[j]).weight * 32768 }))
    else State.turnsFor q n ((s.modQ k (fun x => { x with exec := moveBytes s.leftOf m x.exec })).modHv (fun h => { h with left := h.left - m }))

/-- The turns up to the end of the oldest descriptor of queue `q` (14 R366). -/
def State.served (s : State) (q : Fin 64) : State :=
  let h := s.hv.qs[q]
  State.turnsFor q (130 * ((h.exec.head?).elim 0 s.leftOf / (max 1 h.weight * 32768) + 2)) s

/-! Words that lose their data while they are delivered (14 R373). -/

/-- What has been written when a word loses its data stands: how far a delivery has come is not known, a free value (log entry 20). -/
def State.keepWritten (s : State) (e : Executing) : Executing :=
  let ps := s.pieces e
  if e.status.isSome then e
  else { e with got := ps.take (max e.got.length ((Config.freeBits s.freeCtr).toNat % (ps.length + 1))) }

/-- The same for every executing descriptor. -/
def State.keepAllWritten (s : State) : State :=
  (s.modHv (fun h => { h with qs := h.qs.map (fun x => { x with exec := x.exec.map s.keepWritten }) })).setFreeCtr (s.freeCtr + 1)

end Sys2Proof.Machine
end

