-- ==== Sys2Proof/Machine/Operands.lean ====
section
/-!
DEFINITION. The arithmetic of rates and shares that several commands check: word rates (01 R28), memory bandwidth (01 R29–R33),
staging (12 R293). A rate is a fraction: words per tick.
-/

namespace Sys2Proof.Machine

/-- A non-negative fraction: numerator and denominator. -/
abbrev Frac := Nat × Nat

/-- Sum. -/
def Frac.add (a b : Frac) : Frac := (a.1 * b.2 + b.1 * a.2, a.2 * b.2)

/-- Order. -/
def Frac.le (a b : Frac) : Bool := decide (a.1 * b.2 ≤ b.1 * a.2)

/-- Words per tick of a channel: samples per tick over decimation ratio and values per word (01 R28). -/
def wordRate (spt ratio per : Nat) : Frac := (spt, max 1 ratio * max 1 per)

/-- The limit of a channel with `n` towers: 19.2 G words/s each (01 R28). -/
def towerLimit (n : Nat) : Frac := (32 * n, 5)

/-- The active slots: pseudo-channels that serve a slot (13 R317, R337). -/
def State.activeSlots (s : State) : Nat := (s.mem.slots.filter (·.isSome)).length

/-- The capture ceiling for a number of active slots, in 10 MB/s (01 R29, R33). -/
def captureCeiling (active : Nat) : Nat := if active ≤ 25 then active * 2880 - 3681 else 70217

/-- The harvest reserve, in 10 MB/s (01 R32, R33). -/
def harvestReserve (active : Nat) : Nat := if active ≤ 25 then 0 else min 7373 (active * 2880 - captureCeiling active - 3681)

/-- The limit on the sum of word rates (01 R28, R33). -/
def sumLimit (active : Nat) : Frac := if active ≤ 25 then (captureCeiling active * 7, 19200) else (128, 5)

/-- The pin bandwidth of a word rate, in 10 MB/s, rounded up: 8 B a word, 128/112 at the pins. -/
def pinRate (r : Frac) : Nat := ceilDiv (r.1 * 19200) (r.2 * 7)

/-- The unreserved share that a capture configuration of word rate `r` leaves, in 10 MB/s (01 R29, R31, R32). -/
def unreserved (active : Nat) (r : Frac) : Nat := active * 2880 - 3681 - harvestReserve active - pinRate r

/-- The pin bandwidth of one streaming output, in 10 MB/s (01 R31). -/
def streamNeed : Nat := 4389

/-- The need of the outputs that stream, waiting or playing, in 10 MB/s (01 R31). -/
def State.streamUse (s : State) : Nat :=
  (([0, 1] : List (Fin 2)).map (fun o => if s.out[o].streamed && (s.out[o].st == 2 || s.out[o].st == 3) then streamNeed else 0)).sum

/-- The word rate of a channel as its last ARM took it; an accumulating channel writes results alone (11 R280). -/
def State.armedRate (s : State) (c : Fin 4) : Frac :=
  if s.accum c then (0, 1) else wordRate (samplesPerTick s.mode) (s.dcRatio c) (s.perWord (s.akey 0x0806 c))

/-- The sum of the word rates of the running channels, those ordered to stop left out. -/
def State.runningRate (s : State) : Frac :=
  allCh.foldl (fun a c => if s.running c && s.ch[c].stopAt.isNone then a.add (s.armedRate c) else a) (0, 1)

/-- Stop channels for memory bandwidth, in order D to A, until the rest fit (01 R33): DONE as if by DISARM, reason 4. -/
def State.fitBandwidth (s : State) : State :=
  ([3, 2, 1, 0] : List (Fin 4)).foldl (fun a c =>
    if a.runningRate.le (sumLimit a.activeSlots) || !(a.armedOn c) then a
    else a.orderHalt (a.boundaryFrom (a.clk + 1)) 4 3 c) s

end Sys2Proof.Machine
end

