-- ==== Sys2Proof/Machine/MemCtl.lean ====
section
/-!
DEFINITION. The main memory controller (13): reads and their decoding, poisoning, patrol scrub, retraining, retirement,
migration, capacity reduction, self-refresh, and its commands.
-/

namespace Sys2Proof.Machine

/-- Rows of a pseudo-channel (13 R316). -/
def pcRows : Nat := 1048576

/-- Change a pseudo-channel. -/
def State.modPc (s : State) (p : Fin 32) (g : Pc → Pc) : State :=
  s.modMem (fun m => { m with pcs := m.pcs.set p.val (g m.pcs[p]) })

/-- DATA of a controller event (13 R345). -/
def memData (p : Fin 32) (b page v : Nat) : List Byte :=
  leBytes 1 p.val ++ leBytes 1 b ++ [0#8, 0#8] ++ leBytes 4 page ++ leBytes 4 v

/-- The slot a pseudo-channel serves in the slot map. -/
def State.slotOf (s : State) (p : Fin 32) : Option Nat := s.mem.slots.findIdx? (fun x => x == some p)

/-- The slot whose row `row` a pseudo-channel holds at present (13 R335): below the pointer of a migration the spare. -/
def State.liveSlot (s : State) (p : Fin 32) (row : Nat) : Option Nat :=
  match s.mem.mig with
  | none => s.slotOf p
  | some g =>
    if p = g.dst then (if row < g.ptr then s.slotOf g.from_ else none)
    else if p = g.from_ then (if row < g.ptr then none else s.slotOf p)
    else s.slotOf p

/-- The page and word of slot `k`'s data word `w` (13 R318). -/
def pageOfWord (k w : Nat) : Nat × Nat := (k * slotPages + w / 4096, w % 4096)

/-! Poisoning (13 R325). -/

/-- Whether a segment has the word `off` of page `page` (12 R291). -/
def Seg.holds (g : Seg) (page off : Nat) : Bool :=
  match g.pages.findIdx? (fun p => p == page) with
  | none => false
  | some n => decide (g.firstWord ≤ n * 4096 + off) && (!g.closed || decide (n * 4096 + off < g.firstWord + g.words))

/-- Write a closed segment's descriptor into its slot (12 R291, R297, R298). -/
def State.storeDesc (s : State) (g : Seg) : State :=
  match s.descPage g.ch g.acq g.idx with
  | none => s
  | some p => s.storeWords [p] (4 * (g.idx % 1024)) g.descBytes

/-- Set POISONED of a segment, in its descriptor too when that is written. -/
def State.poisonSeg (s : State) (g : Seg) : State :=
  let s1 := s.modSeg g.ch g.acq g.idx (fun x => { x with poisoned := true })
  if g.written then s1.storeDesc { g with poisoned := true } else s1

/-- The segments whose written descriptors lie in word `off` of descriptor page `page`. -/
def State.descsIn (s : State) (page off : Nat) : List Seg :=
  s.tr.segs.filter (fun g => g.written && s.descPage g.ch g.acq g.idx == some page && g.idx % 1024 == off / 4)

/-- A segment is gone, or goes when its harvest descriptor completes (12 R303). -/
def State.loseSeg (s : State) (g : Seg) : State :=
  if g.busy = 0 then s.dropSeg g.ch g.acq g.idx else s.modSeg g.ch g.acq g.idx (fun x => { x with deferred := true })

/-- Poison one word of a page (13 R325). -/
def State.poisonWord (s : State) (p : Fin 32) (page off : Nat) : State :=
  if s.tr.poison.contains (page * 4096 + off) then s
  else
    let s1 := (s.keepAllWritten.modMem (fun m => { m with poisoned := m.poisoned + 1 })).modTr (fun t => { t with
      poison := (page * 4096 + off) :: t.poison
      pages := t.pages.map (fun q => if q.num == page then { q with poison := true } else q) })
    let lost := s.descsIn page off
    let s2 := lost.foldl (fun a g => a.loseSeg g) s1
    match lost with
    | [] => s2
    | g :: _ => s2.logEv 0x0B09 sevError 0 (memData p g.ch.val page lost.length)

/-! Retirement (13 R334–R337). -/

/-- The spare a retirement takes (13 R334): of the same stack, or else of the other. -/
def State.spareFor (s : State) (p : Fin 32) : Option (Fin 32) :=
  let sp := (List.finRange 32).filter (fun q => s.mem.pcs[q].st == .spare)
  match sp.find? (fun q => q.val / 16 == p.val / 16) with
  | some q => some q
  | none => sp.head?

/-- Whether a pseudo-channel of the same stack retrains. -/
def State.stackTrains (s : State) (p : Fin 32) : Bool :=
  (List.finRange 32).any (fun q => q.val / 16 == p.val / 16 && s.mem.pcs[q].retrain.isSome)

/-- The next pseudo-channel of a stack that waits to retrain starts. -/
def State.nextRetrain (s : State) (p : Fin 32) : State :=
  if s.stackTrains p then s
  else match s.mem.retrainQ.find? (fun q => q.val / 16 == p.val / 16) with
    | none => s
    | some q => (s.modMem (fun m => { m with retrainQ := m.retrainQ.filter (fun r => r != q) })).modPc q (fun y => { y with retrain := some 0 })

/-- A pseudo-channel that is retired retrains no longer: the next of its stack starts (13 R332, R344). -/
def State.endRetrain (s : State) (p : Fin 32) : State :=
  ((s.modPc p (fun x => { x with retrain := none })).modMem (fun m => { m with
    retrainQ := m.retrainQ.filter (fun r => r != p) })).nextRetrain p

/-- Migration of `p` to a spare, or capacity reduction, begins, as it is reported from the next DSP-cycle boundary (13 R334, R335,
R337). -/
def State.startRetire (s : State) (p : Fin 32) (cause : Nat) : State :=
  let b := s.boundaryFrom (s.clk + 1)
  let x := s.mem.pcs[p]
  match s.spareFor p with
  | some q =>
    let s1 := (((s.modPc p (fun x => { x with st := .migFrom, cause := cause })).modPc q (fun x =>
      { x with st := .migTo })).modMem (fun m => { m with mig := some ⟨p, q, 0, cause, 0, b, x.cause, x.st⟩ })).endRetrain p
    (s1.endRetrain q).logEvAt b 0x0B05 sevWarning 0 (memData p q.val 0xFFFFFFFF cause)
  | none =>
    match s.slotOf p with
    | none => s
    | some k => ((s.modPc p (fun x => { x with st := .active, cause := cause })).modMem (fun m => { m with
        reduce := some (p, k, cause), reduceAt := (b, x.cause) })).endRetrain p

/-- Mark a pseudo-channel retired, in the record too (13 R317), and switch its domain off. -/
def State.setRetired (s : State) (p : Fin 32) (cause : Nat) : State :=
  (((s.modPc p (fun x => { x with st := .retired, cause := cause })).modMem (fun m => { m with
    record := if m.record.contains p then m.record else m.record ++ [p] })).endRetrain p).syncDomains

/-- A cause of retirement (13 R329, R334, R344). -/
def State.retire (s : State) (p : Fin 32) (cause : Nat) : State :=
  match s.mem.pcs[p].st with
  | .spare => s.setRetired p cause
  | .active =>
    if s.mem.mig.isSome || s.mem.reduce.isSome then
      if s.mem.waitRet.any (fun e => e.1 == p) || s.mem.reduce.any (fun e => e.1 == p) then s
      else s.modMem (fun m => { m with waitRet := m.waitRet ++ [(p, cause)] })
    else s.startRetire p cause
  | .migTo =>
    match s.mem.mig with
    | none => s
    | some g => ((s.setRetired p cause).modMem (fun m => { m with mig := none })).startRetire g.from_ g.cause
  | _ => s

/-- The retirement that waited longest begins (13 R344). -/
def State.nextRetire (s : State) : State :=
  match s.mem.waitRet with
  | [] => s
  | (p, cause) :: rest => (s.modMem (fun m => { m with waitRet := rest })).startRetire p cause

/-- The module's RETIRE_PC work of MODE 0 ends (13 R342). -/
def State.endRetireWork (s : State) (p : Fin 32) (status : Nat) : State :=
  if s.mem.retireWork = some p then
    (s.modMem (fun m => { m with retireWork := none })).endWork 0x0305 status 0
  else s

/-- A migration ends when its pointer has passed every row (13 R335). -/
def State.migDone (s : State) : State :=
  match s.mem.mig.filter (fun g => g.ptr == pcRows) with
  | none => s
  | some g =>
    let s1 := (s.modMem (fun m => { m with
      mig := none, slots := m.slots.map (fun x => if x == some g.from_ then some g.dst else x) })).modPc g.dst (fun x => { x with st := .active })
    let s2 := (s1.setRetired g.from_ g.cause).logEv 0x0B06 sevNotice 0 (memData g.from_ g.dst.val 0xFFFFFFFF g.poisoned)
    (s2.endRetireWork g.from_ stOk).nextRetire

/-! Reads (13 R323). -/

/-- Log an uncorrectable word, at most once per pseudo-channel and second (13 R345). -/
def State.logUnc (s : State) (p : Fin 32) (outcome page off : Nat) : State :=
  if s.mem.pcs[p].uncLog.elim true (fun a => decide (a + 3000000000 ≤ s.clk)) then
    (s.modPc p (fun x => { x with uncLog := some s.clk })).logEv 0x0B02 sevError 0 (memData p outcome page off)
  else s

/-- The words of a group that a decoding loses, by position: the outcome code and the positions. -/
def GroupOut.losses (o : GroupOut) : Nat × List Nat :=
  if o.check = .lost then (3, List.range 7)
  else if o.addr then (2, List.range 7)
  else (1, (List.range 7).filter (fun i => o.words.getD i .clean == .uncorrectable))

/-- Corrected data words of a group. -/
def GroupOut.corrected (o : GroupOut) : Nat :=
  if o.check = .lost ∨ o.addr then 0 else (o.words.filter (· == .corrected)).length

/-- Count a group's outcomes in the pseudo-channel's record (13 R323, R341). -/
def State.countGroup (s : State) (p : Fin 32) (o : GroupOut) : State :=
  let l := o.losses
  s.modPc p (fun x => { x with
    corrected := x.corrected + o.corrected
    ceWin := x.ceWin + o.corrected
    checkCorr := satAdd 32 x.checkCorr (flag (o.check == .corrected))
    addrErr := satAdd 32 x.addrErr (flag (l.1 == 2))
    uncorr := satAdd 32 x.uncorr (if l.1 = 1 then l.2.length else flag (l.1 == 3)) })

/-- Poison the lost words of a group in the slot that the row holds (of a free page they are counted only), and the flags of every held segment with a word in it. -/
def State.poisonGroup (s : State) (p : Fin 32) (k w : Nat) (lost : List Nat) : State :=
  if lost.isEmpty then s
  else
    let s1 := lost.foldl (fun a i => let e := pageOfWord k (w + i); 
      if a.pageUsed e.1 then a.poisonWord p e.1 e.2 else a.modMem (fun m => { m with poisoned := m.poisoned + 1 })) s
    (s1.tr.segs.filter (fun g => (List.range 7).any (fun i => let e := pageOfWord k (w + i); g.holds e.1 e.2))).foldl
      (fun a g => a.poisonSeg g) s1

/-- The decoding of a group of a row; of a spare against the pattern written at its training (13 R323, R329). -/
def State.decodeAt (s : State) (p : Fin 32) (row : Nat) (r : RawGroup) : GroupOut :=
  let w := 112 * row + 7 * r.group
  let o := decodeGroup r row w
  if s.mem.pcs[p].st = .spare then o.against r (fun i => (Config.sparePattern (w + i)).toNat) else o

/-- One group read (13 R323, R325, R329): `copy` says that a migration reads it. -/
def State.readGroup (s : State) (p : Fin 32) (row : Nat) (copy requeue : Bool) (r : RawGroup) : State :=
  let w := 112 * row + 7 * r.group
  let o := s.decodeAt p row r
  let l := o.losses
  let s1 := s.countGroup p o
  let slot := s.liveSlot p row
  let s2 := slot.elim s1 (fun k => s1.poisonGroup p k w l.2)
  let at_ := slot.elim (0xFFFFFFFF, 0) (fun k => pageOfWord k (w + l.2.headD 0))
  let s3 := if l.2.isEmpty then s2 else s2.logUnc p l.1 at_.1 at_.2
  let s4 := if copy then s3.modMem (fun m => { m with mig := m.mig.map (fun g => { g with poisoned := g.poisoned + l.2.length }) })
    else if l.2.isEmpty then s3 else s3.retire p (if l.1 = 2 then 2 else 1)
  if requeue && (o.corrected != 0 || o.check == .corrected) && !(s4.mem.wbq.contains (p, row)) then
    s4.modMem (fun m => { m with wbq := m.wbq ++ [(p, row)] })
  else s4

/-- A row read group by group. -/
def State.readRow (s : State) (p : Fin 32) (row : Nat) (copy requeue : Bool) (raw : List RawGroup) : State :=
  raw.foldl (fun a r => a.readGroup p row copy requeue r) s

/-- Whether a pseudo-channel is in use: anything but retired. -/
def State.pcWorks (s : State) (p : Fin 32) : Bool := s.mem.pcs[p].st != .retired

/-- Whether memory serves traffic: powered and not in self-refresh. -/
def State.memServes (s : State) : Bool := decide (s.pw.st ≤ 2) && s.mem.sr != .on && s.pw.main

/-- Whether background work may issue requests (13 R339; 17 R420): not in SLEEP, not between steps 1 and 8 of a relock. -/
def State.memBackground (s : State) : Bool := s.memServes && decide (s.pw.st ≤ 1) && s.ck.relock.isNone

/-- A group read by harvest, a fold or a migration copy (13 R323, R335). -/
def State.groupRead (s : State) (p : Fin 32) (row : Nat) (raw : List RawGroup) (copy : Bool) : State :=
  if !(s.pcWorks p) || !s.memServes || decide (pcRows ≤ row) then s
  else if copy then
    match s.mem.mig with
    | none => s
    | some g =>
      if g.from_ = p ∧ g.ptr = row ∧ s.memBackground then
        (s.readRow p row true false raw).modMem (fun m => { m with mig := m.mig.map (fun x => { x with ptr := row + 1 }) })
      else s
  else s.readRow p row false true raw

/-! Patrol scrub (13 R329, R343). -/

/-- Rows of a page: the first and how many (13 R318, R319). -/
def pageRows (q : Nat) : Nat × Nat :=
  let w := 4096 * (q % slotPages)
  (w / 112, (w + 4095) / 112 - w / 112 + 1)

/-- Corrections and losses that decoded groups hold, for SCRUB_CONTROL. -/
def scrubCounts (os : List GroupOut) : Nat × Nat :=
  ((os.map GroupOut.corrected).sum, (os.map (fun o => o.losses.2.length)).sum)

/-- A row read by scrub, with its own corrections and losses counted (13 R329, R343). -/
def State.scrubRowOf (s : State) (p : Fin 32) (row : Nat) (raw : List RawGroup) : State :=
  let c := scrubCounts (raw.map (s.decodeAt p row))
  (s.readRow p row false true raw).modMem (fun m => { m with scrubCorr := m.scrubCorr + c.1, scrubUnc := satAdd 32 m.scrubUnc c.2 })

/-- The next working pseudo-channel after `p`, none at the end of a pass. -/
def State.nextScrubPc (s : State) (p : Nat) : Option Nat :=
  ((List.finRange 32).find? (fun q => decide (p < q.val) && s.pcWorks q)).map (·.val)

/-- A pass ends; the next begins at the first working pseudo-channel. -/
def State.endPass (s : State) : State :=
  s.modMem (fun x => { x with
    scrubPc := ((List.finRange 32).find? (fun q => s.pcWorks q)).elim 0 (·.val), scrubRow := 0, passRows := 0
    passes := wrapAdd 32 x.passes 1, lastPass := (s.clk - x.passFrom) / 3000000 % 2 ^ 32, passFrom := s.clk })

/-- The patrol moves on after a row: to the next row, pseudo-channel or pass. -/
def State.advanceScrub (s : State) : State :=
  let m := s.mem
  if m.scrubRow + 1 < pcRows then s.modMem (fun x => { x with scrubRow := x.scrubRow + 1, passRows := wrapAdd 32 x.passRows 1 })
  else match s.nextScrubPc m.scrubPc with
    | some q => s.modMem (fun x => { x with scrubPc := q, scrubRow := 0, passRows := wrapAdd 32 x.passRows 1 })
    | none => s.endPass

/-- The patrol leaves a pseudo-channel that has been retired under it: to the next that works, or to a new pass (13 R329). -/
def State.seekScrub (s : State) : State :=
  if s.pcWorks (Fin.ofNat 32 s.mem.scrubPc) then s
  else match s.nextScrubPc s.mem.scrubPc with
    | some q => s.modMem (fun x => { x with scrubPc := q, scrubRow := 0 })
    | none => s.endPass

/-- The pseudo-channel that holds row `row` of slot `k` at present: below the pointer of a migration the spare (13 R335). -/
def State.livePc (s : State) (k row : Nat) : Option (Fin 32) :=
  (s.mem.slots.getD k none).map (fun p => match s.mem.mig with
    | some g => if p = g.from_ ∧ row < g.ptr then g.dst else p
    | none => p)

/-- A row of patrol scrub: of a queued page first, else the patrol's next (13 R329, R343). -/
def State.patrol (s : State) (raw : List RawGroup) : State :=
  if !s.memBackground then s
  else match s.mem.queue with
    | (q, n) :: rest =>
      let rows := pageRows q
      let row := rows.1 + n
      let s1 := (s.livePc (q / slotPages) row).elim s (fun p => s.scrubRowOf p row raw)
      s1.modMem (fun m => { m with queue := if n + 1 < rows.2 then (q, n + 1) :: rest else rest })
    | [] =>
      let s1 := s.seekScrub
      (s1.scrubRowOf (Fin.ofNat 32 s1.mem.scrubPc) s1.mem.scrubRow raw).advanceScrub

/-- A queued row is read again and written back corrected (13 R329). -/
def State.writeBack (s : State) (raw : List RawGroup) : State :=
  if !s.memBackground then s
  else match s.mem.wbq with
    | [] => s
    | (p, row) :: rest =>
      let s1 := s.modMem (fun m => { m with wbq := rest })
      if s.pcWorks p then s1.readRow p row false false raw else s1

/-! Retraining (13 R331–R333). -/

/-- A cause of retraining (13 R332, R344): it starts, or waits its turn in its stack. -/
def State.retrainCause (s : State) (p : Fin 32) (ce : Bool) : State :=
  let x := s.mem.pcs[p]
  if !(x.st == .active || x.st == .spare) || x.retrain.isSome || s.mem.retrainQ.contains p then s
  else
    let s1 := if ce then s.modPc p (fun y => { y with ceTrig := true }) else s
    if s1.stackTrains p then s1.modMem (fun m => { m with retrainQ := m.retrainQ ++ [p] })
    else s1.modPc p (fun y => { y with retrain := some 0 })

/-- Whether the deskew loop stands at the end of its range on a lane (13 R331, R332). -/
def deskewEnds (l : List Int) : Bool := l.any (fun d => decide (Config.deskewRange.toNat ≤ d.natAbs))

/-- A temperature that has moved, or a deskew loop at the end of its range, starts retraining (13 R332). -/
def State.retrainStart (s : State) (p : Fin 32) (temp : Int) (deskew : List Int) : State :=
  let s1 := s.modPc p (fun y => { y with temp := temp, deskew := deskew })
  if s.pcWorks p && (deskewEnds deskew || decide (s.mkey 0x0B01 * 10 ≤ (temp - s.mem.pcs[p].tempTr).natAbs))
  then s1.retrainCause p false else s1

/-- A pseudo-channel with a new training setting (13 R331, R341). -/
def Pc.trainedAt (y : Pc) (set : PcSetting) (temp : Int) (now : Nat) : Pc :=
  { y with retrain := none, trained := now, temp := temp, tempTr := temp, set := set, deskew := [], trainings := satAdd 16 y.trainings 1 }

/-- A new training setting is in force (13 R332). -/
def State.trainedNow (s : State) (p : Fin 32) (set : PcSetting) (temp : Int) : State :=
  (s.modPc p (fun y => y.trainedAt set temp s.clk)).logEv 0x0B03 sevInfo 0 (memData p 0 0xFFFFFFFF (encInt 32 temp))

/-- A retraining finds no working setting: the last one stays in force, and the pseudo-channel is retired with cause 4 (13 R333). -/
def State.trainingFails (s : State) (p : Fin 32) (eyes : List Eye) (temp : Int) : State :=
  ((s.modPc p (fun y => { y with
    retrain := none, temp := temp, trainFails := satAdd 16 y.trainFails 1 })).logEv 0x0B04 sevError 0
      (memData p (lanesFailing eyes) 0xFFFFFFFF 0)).retire p 4

/-- A retraining window ends; the last brings the new setting in, or finds none (13 R331–R333). -/
def State.retrainWindow (s : State) (p : Fin 32) (set : PcSetting) (eyes : List Eye) (temp : Int) : State :=
  match s.mem.pcs[p].retrain with
  | none => s
  | some n =>
    if !s.memBackground then s
    else if n + 1 < 2048 then s.modPc p (fun y => { y with retrain := some (n + 1) })
    else if settingWorks eyes then (s.trainedNow p set temp).nextRetrain p
    else (s.trainingFails p eyes temp).nextRetrain p

/-- A 1 s window of corrected words ends (13 R332, R333). -/
def State.ceWindow (s : State) (p : Fin 32) : State :=
  let x := s.mem.pcs[p]
  if !(s.pcWorks p) then s
  else
    let n := x.ceWin
    let judged := x.ceTrig && x.retrain.isNone && !(s.mem.retrainQ.contains p)
    let s1 := s.modPc p (fun y => { y with ceLast := n % 2 ^ 32, ceWin := 0, ceTrig := y.ceTrig && !judged })
    if judged && decide (s.mkey 0x0B03 ≤ n) then
      (s1.logEv 0x0B01 sevWarning 0 (memData p 0 0xFFFFFFFF n)).retire p 3
    else if s.mkey 0x0B02 ≤ n then s1.retrainCause p true
    else s1

/-! Capacity reduction (13 R337, 12 R313). -/

/-- Rename a page everywhere it is named, its bytes and poison with it. -/
def State.renamePage (s : State) (p q : Nat) : State :=
  let f (n : Nat) : Nat := if n = p then q else n
  let moved := s.tr.mem.filter (fun e => e.1 / 32768 == p)
  let s1 := s.modTr (fun t => { t with
    segs := t.segs.map (fun g => { g with pages := g.pages.map f, reserved := g.reserved.map f })
    acqs := t.acqs.map (fun a => { a with descPg := a.descPg.map (fun e => (e.1, f e.2)), lastPg := a.lastPg.map f })
    mem := moved.foldl (fun m e => memWrite m (q * 32768 + e.1 % 32768) e.2) (t.mem.filter (fun e => e.1 / 32768 != p))
    poison := t.poison.map (fun w => if w / 4096 = p then q * 4096 + w % 4096 else w)
    pages := (t.pages.filter (fun e => e.num != p)).map (fun e => if e.num = q then
      { e with poison := t.pages.any (fun o => o.num == p && o.poison) } else e) })
  let s2 := allCh.foldl (fun a c => a.modCh c (fun h => { h with acc := { h.acc with
    pages := h.acc.pages.map f, foldPgs := h.acc.foldPgs.map f } })) s1
  let s3 := s2.modHv (fun h => { h with qs := h.qs.map (fun x => { x with exec := x.exec.map (fun e => { e with pages := e.pages.map f }) }) })
  ([0, 1] : List (Fin 2)).foldl (fun a o => a.modOut o (fun x => { x with
    region := x.region.map f, loading := x.loading.map (fun l => (l.1.map f, l.2)) })) s3

/-- Move one page of slot `k` to a free page of another slot. -/
def State.movePage (k : Nat) (s : State) (pg : Page) : State :=
  match (s.slotOrder.filterMap (fun j => if j = k then none else (s.freeInSlot j).map (fun n => (n, j)))).head? with
  | none => s
  | some e => (s.takePage e.1 e.2 pg.use).renamePage pg.num e.1

/-- Pages in use in slot `k`. -/
def State.usedIn (s : State) (k : Nat) : List Page := s.tr.pages.filter (fun p => p.num / slotPages == k)

/-- Whether the other slots have room for slot `k`'s pages. -/
def State.roomOutside (s : State) (k : Nat) : Bool := decide (s.tr.pages.length ≤ s.tr.total - slotPages) || (s.usedIn k).isEmpty

/-- RING channels reclaim until there is room (12 R313), at most `fuel` segments. -/
def State.ringRoom (k : Nat) : Nat → State → State
  | 0, s => s
  | n + 1, s =>
    if s.roomOutside k then s
    else match allCh.findSome? (fun c => if s.akey 0x0A00 c == 1 then (s.reclaimable c).map (fun g => (c, g)) else none) with
      | none => s
      | some e => State.ringRoom k n (s.reclaimOne e.1 e.2)

/-- A segment is lost for want of room; the channel of an open one stops on full memory (12 R301, R313). -/
def State.loseForRoom (s : State) (g : Seg) : State :=
  let s1 := s.dropSeg g.ch g.acq g.idx
  if g.closed then s1 else (s1.modCh g.ch (fun h => { h with open_ := none })).fullStop g.ch 0xFFFFFFFF false

/-- The segment of the module that is lost next: the oldest unpinned one, then a pinned one, those that are open or busy last (12 R313;
DESIGN CHOICE, log entry 60). -/
def State.nextLost (s : State) : Option Seg :=
  let idle := s.tr.segs.filter (fun g => g.closed && g.busy == 0)
  (idle.find? (fun g => !g.pinned)).orElse (fun _ => idle.head?.orElse (fun _ => s.tr.segs.head?))

/-- Segments are lost until the rest have room (12 R313); the count of those lost. -/
def State.loseRoom (k : Nat) : Nat → State → Nat → State × Nat
  | 0, s, l => (s, l)
  | n + 1, s, l =>
    if s.roomOutside k then (s, l)
    else match s.nextLost with
      | none => (s, l)
      | some g => State.loseRoom k n (s.loseForRoom g) (l + 1)

/-- A channel whose quota its held pages exceed (12 R304). -/
def State.overQuotaCheck (s : State) (c : Fin 4) : State :=
  if !s.ch[c].overQuota && decide (s.ch[c].quota < s.heldPages c) then
    (s.modCh c (fun h => { h with overQuota := true })).logEv 0x0A01 sevNotice (c.val + 1)
      (leBytes 4 (s.heldPages c) ++ leBytes 4 s.ch[c].quota)
  else s

/-- The pool loses slot `k` (13 R337, 12 R313). -/
def State.dropSlot (s : State) (k : Nat) (p : Fin 32) (cause : Nat) : State :=
  let old := s.tr.total
  let new := old - slotPages
  let s1 := State.ringRoom k s.tr.segs.length s
  let before := s1.tr.pages.length
  let l := State.loseRoom k s1.tr.segs.length s1 0
  let s2 := (l.1.usedIn k).foldl (State.movePage k) l.1
  let s3 := (s2.returnPages ((s2.usedIn k).map (·.num))).modTr (fun t => { t with total := new })
  let s4 := s3.modMem (fun m => { m with slots := m.slots.set k none, reduce := none })
  let s5 := allCh.foldl (fun a c => a.modCh c (fun h => { h with
    quota := if h.quota < old then h.quota * new / old else h.quota })) s4
  let s6 := (s5.setRetired p cause).logEv 0x0B07 sevCritical 0 (memData p k 0xFFFFFFFF new)
  let s7 := s6.logEv 0x0A05 sevWarning 0 (leBytes 4 old ++ leBytes 4 new ++ leBytes 4 l.2)
  let s8 := if l.2 = 0 then s7
    else s7.logEv 0x0A06 sevError 0 (leBytes 4 l.2 ++ leBytes 4 (before - l.1.tr.pages.length) ++ leBytes 4 1)
  allCh.foldl (fun a c => a.overQuotaCheck c) s8

/-- Capacity reduction ends (13 R337): the slot goes, RETIRE_PC work ends with E_DEGRADED, channels that no longer fit stop. -/
def State.capacityDone (s : State) : State :=
  match s.mem.reduce with
  | none => s
  | some (p, k, cause) => (((s.dropSlot k p cause).fitBandwidth).endRetireWork p eDegraded).nextRetire

/-! Restoring (13 R342). -/

/-- Training of a pseudo-channel being restored ends. -/
def State.restoreDone (s : State) (tr : PcTraining) (temp : Int) : State :=
  match s.mem.restore with
  | none => s
  | some p =>
    let s0 := s.modMem (fun m => { m with restore := none })
    if trainingWorks tr then
      let s1 := (s0.modPc p (fun y => { y.trainedAt tr.set temp s.clk with st := .spare })).modMem (fun m => { m with
          record := m.record.filter (fun q => q != p) })
      ((s1.logEv 0x0B0A sevNotice 0 (memData p 0 0xFFFFFFFF 0)).endWork 0x0305 stOk 0).syncDomains
    else
      ((s0.modPc p (fun y => { y with temp := temp, trainFails := satAdd 16 y.trainFails 1 })).endWork 0x0305 eHw 0).syncDomains

/-! Self-refresh (13 R338–R340). -/

/-- Ask for self-refresh entry (13 R338). -/
def State.srRequest (s : State) (byPower : Bool) : State :=
  if s.mem.sr == .on then s else s.modMem (fun m => { m with sr := .entry byPower })

/-- The temperature and the training of a pseudo-channel at a self-refresh exit: as the row measures them, or, where the exit comes with
another command, the temperature last reported and a training of which nothing is known (log entry 60). -/
def State.exitOf (s : State) (exits : List ExitPc) (p : Fin 32) : ExitPc :=
  exits.getD p.val ⟨s.mem.pcs[p].temp, Config.exitTraining s.freeCtr p⟩

/-- Step 4 of an exit for one pseudo-channel (13 R333, R340): retrained at once when its temperature has moved. -/
def State.exitPc (s : State) (p : Fin 32) (e : ExitPc) : State :=
  if !(s.pcWorks p) then s
  else if s.mkey 0x0B01 * 10 ≤ (e.temp - s.mem.pcs[p].tempTr).natAbs then
    (if trainingWorks e.tr then s.trainedNow p e.tr.set e.temp else s.trainingFails p e.tr.eyes e.temp)
  else s.modPc p (fun y => { y with temp := e.temp })

/-- Exit from self-refresh (13 R340): pseudo-channels whose temperature has moved are retrained at once; then those that wait to
retrain go on. -/
def State.srExit (s : State) (exits : List ExitPc) : State :=
  if s.mem.sr != .on then s
  else
    let s1 := s.modMem (fun m => { m with sr := .off })
    let s2 := (List.finRange 32).foldl (fun a p => a.exitPc p (s.exitOf exits p)) s1
    (s2.nextRetrain 0).nextRetrain 16

/-- Exit from self-refresh with a command that brings no measurement of the pseudo-channels. -/
def State.srWake (s : State) : State := (s.srExit []).setFreeCtr (s.freeCtr + 1)

/-! Commands (13 R341–R343). -/

/-- The code of a pseudo-channel state (02 R70). -/
def PcState.code : PcState → Nat
  | .active => 0
  | .spare => 1
  | .retired => 2
  | .migFrom => 3
  | .migTo => 4

/-- Spares left. -/
def State.sparesLeft (s : State) : Nat := ((List.finRange 32).filter (fun p => s.mem.pcs[p].st == .spare)).length

/-- The mask of retired pseudo-channels. -/
def State.retiredMask (s : State) : Nat :=
  ((List.finRange 32).map (fun p => if s.mem.pcs[p].st == .retired then 2 ^ p.val else 0)).sum

/-- The migration that is reported: from the boundary at which its retirement begins (13 R334, R335). -/
def State.shownMig (s : State) : Option Migration := s.mem.mig.filter (fun g => decide (g.at_ ≤ s.clk))

/-- STATE and CAUSE of a pseudo-channel as they are reported: those before a retirement until the boundary at which it begins
(13 R334). -/
def State.shownPc (s : State) (p : Fin 32) : PcState × Nat :=
  let x := s.mem.pcs[p]
  match s.mem.mig.filter (fun g => decide (s.clk < g.at_)) with
  | some g => if p = g.from_ then (g.stWas, g.was) else if p = g.dst then (.spare, x.cause) else (x.st, x.cause)
  | none => (x.st, if s.mem.reduce.any (fun r => r.1 == p) && decide (s.clk < s.mem.reduceAt.1) then s.mem.reduceAt.2 else x.cause)

/-- Spares that are reported as left. -/
def State.sparesShown (s : State) : Nat := ((List.finRange 32).filter (fun p => (s.shownPc p).1 == .spare)).length

/-- Migration progress in percent. -/
def State.migProgress (s : State) (p : Fin 32) : Nat :=
  s.mem.mig.elim 0 (fun g => if g.from_ = p then g.ptr * 100 / pcRows else 0)

/-- One record of MEM_HEALTH. -/
def State.pcRecord (s : State) (p : Fin 32) : List Byte :=
  let x := s.mem.pcs[p]
  let v := s.shownPc p
  leBytes 1 v.1.code ++ leBytes 1 (p.val / 16) ++ leBytes 1 ((s.slotOf p).getD 0xFF) ++ leBytes 1 v.2
    ++ leBytes 8 x.corrected ++ leBytes 4 x.uncorr ++ leBytes 4 x.addrErr ++ leBytes 4 x.checkCorr ++ leBytes 4 x.ceLast
    ++ leBytes 4 ((s.clk - x.trained) / 3000000000) ++ leBytes 2 (encInt 16 x.temp) ++ leBytes 2 (encInt 16 x.tempTr)
    ++ leBytes 2 x.trainings ++ leBytes 2 x.trainFails ++ leBytes 1 (s.migProgress p) ++ List.replicate 7 0#8

/-- The 1,568 bytes of MEM_HEALTH (13 R341). -/
def State.memHealth (s : State) : List Byte :=
  let a := s.activeSlots
  leBytes 1 a ++ leBytes 1 s.sparesShown ++ leBytes 1 (s.shownMig.elim 0xFF (fun g => g.from_.val)) ++ [0#8]
    ++ leBytes 4 s.retiredMask ++ leBytes 4 (harvestReserve a) ++ leBytes 4 (captureCeiling a) ++ leBytes 4 s.tr.total
    ++ leBytes 4 0 ++ leBytes 8 s.mem.poisoned ++ (List.finRange 32).flatMap s.pcRecord

/-- RETIRE_PC's own part (13 R342). -/
def retirePcBody : Body := fun r s =>
  let b := r.payload
  let mode := fieldAt b 1 1
  if !(decide (fieldAt b 0 1 ≤ 31)) || !(decide (mode ≤ 1)) || !(decide (fieldAt b 2 1 ≤ 1)) || !(allZero (b.drop 3)) then fails eParam s
  else
    let p : Fin 32 := Fin.ofNat 32 (fieldAt b 0 1)
    let retired := s.mem.pcs[p].st == .retired
    if (if mode = 0 then retired else !retired) then fails eState s
    else if s.mem.mig.isSome || s.working 0x0305 then fails eBusy s
    else if s.workFull then fails eNores s
    else if mode == 0 && s.mem.pcs[p].st == .active && s.sparesLeft == 0 && fieldAt b 2 1 == 0 then fails eNores s
    else
      let s1 := s.addWork r p.val mode
      if mode = 1 then accepted ((s1.modMem (fun m => { m with restore := some p })).syncDomains)
      else if s.mem.pcs[p].st == .spare then accepted ((s1.setRetired p 5).endWork 0x0305 stOk 0)
      else accepted ((s1.modMem (fun m => { m with retireWork := some p })).retire p 5)

/-- The 32 bytes of SCRUB_CONTROL (13 R343). -/
def State.scrubStatus (s : State) : List Byte :=
  leBytes 4 s.mem.passes ++ leBytes 4 s.mem.passRows ++ leBytes 4 s.mem.lastPass ++ leBytes 4 s.mem.queue.length
    ++ leBytes 8 s.mem.scrubCorr ++ leBytes 4 s.mem.scrubUnc ++ leBytes 4 0

/-- Whether a page exists: its slot is in the map. -/
def State.pageExists (s : State) (q : Nat) : Bool := (s.mem.slots.getD (q / slotPages) none).isSome

/-- Whether the pages from `first`, `n` of them, all exist: the slots they touch are in the map. -/
def State.pagesExist (s : State) (first n : Nat) : Bool :=
  (List.range ((first + n - 1) / slotPages - first / slotPages + 1)).all (fun i =>
    (s.mem.slots.getD (first / slotPages + i) none).isSome)

/-- SCRUB_CONTROL's own part. -/
def scrubBody : Body := fun r s =>
  let b := r.payload
  let op := fieldAt b 0 1
  let first := fieldAt b 4 4
  let n := fieldAt b 8 4
  if !(decide (op ≤ 1)) || fieldAt b 1 3 != 0 || fieldAt b 12 4 != 0 then fails eParam s
  else if op = 0 then if first == 0 && n == 0 then answers s.scrubStatus s else fails eParam s
  else if n < 1 ∨ 65536 < n then fails eParam s
  else if !(s.pagesExist first n) then fails eParam s
  else if 65536 < s.mem.queue.length + n then fails eNores s
  else
    let s1 := s.modMem (fun m => { m with queue := m.queue ++ (List.range n).map (fun i => (first + i, 0)) })
    answers s1.scrubStatus s1

/-! The rows. -/

/-- MEM_HEALTH (13 R341). -/
def execMemHealth (t : Nat) (mb : Fin 17) (s : State) : Out :=
  go (s.command t mb 0x0304 (lenIs 0) (fun _ x => answers x.memHealth x))

/-- RETIRE_PC (13 R342). -/
def execRetirePc (t : Nat) (mb : Fin 17) (s : State) : Out := go (s.command t mb 0x0305 (lenIs 8) retirePcBody)

/-- SCRUB_CONTROL (13 R343). -/
def execScrubControl (t : Nat) (mb : Fin 17) (s : State) : Out := go (s.command t mb 0x0306 (lenIs 16) scrubBody)


/-- MIGRATION_COMPLETION (13 R335). -/
def execMigrationCompletion (t : Nat) (s : State) : Out := go ((s.reach t).migDone)

/-- CAPACITY_REDUCTION (13 R337). -/
def execCapacityReduction (t : Nat) (s : State) : Out := go ((s.reach t).capacityDone)


/-- CE_WINDOW (13 R333). -/
def execCeWindow (t : Nat) (pc : Fin 32) (s : State) : Out := go ((s.reach t).ceWindow pc)

/-- PC_RESTORE_TRAINING (13 R342). -/
def execPcRestoreTraining (t : Nat) (pass : PcTraining) (temp : Int) (s : State) : Out := go ((s.reach t).restoreDone pass temp)

/-- RETRAINING_START (13 R332). -/
def execRetrainingStart (t : Nat) (pc : Fin 32) (temp : Int) (deskew : List Int) (s : State) : Out :=
  go ((s.reach t).retrainStart pc temp deskew)
end Sys2Proof.Machine
end

