-- ==== Sys2Proof/Machine/Wake.lean ====
section
/-!
DEFINITION. What commands of other chapters ask of the power states (17): leaving SLEEP, memory woken on demand in SLEEP,
the rollback of an entry.
-/

namespace Sys2Proof.Machine

/-- DATA of a power event (17 R441). -/
def pwData (a b dom tick : Nat) : List Byte := leBytes 1 a ++ leBytes 1 b ++ leBytes 2 dom ++ leBytes 8 tick

/-- Log PW_STATE (17 R441). -/
def State.logPower (s : State) (now was : Nat) : State := s.logEv 0x0F01 sevNotice 0 (pwData now was 0xFFFF s.ticks)

/-- Whether entry to a power state is under way: it holds the power subsystem and every domain (17 R425). -/
def State.entering (s : State) : Bool := s.pw.entry.isSome

/-- Leave SLEEP for RUN or IDLE on a source (17 R420, R432, R434): memory exits self-refresh, unless a relock that is under way or has
failed holds it there (06 R166, R167), the domains that the host held before entry are woken again; PW_STATE and PW_WAKE are logged. -/
def State.leaveSleepBy (s : State) (src dst : Nat) (exits : List ExitPc) : State :=
  if s.pw.st != 2 then s
  else
    let s0 := s.modPw (fun p => { p with
      st := 0, prev := 2, wakeSrc := src, waking := none, core := true, idleAt := s.clk, wakeT := s.ticks, tryRail := none })
    let s1 := if s.ck.synth = 0 then (s0.srExit exits).setFreeCtr (s.freeCtr + 1) else s0
    let s2 := (s1.syncDomains.logPower dst 2).logEv 0x0F03 sevInfo 0 (pwData src 2 0xFFFF s.ticks)
    s2.modPw (fun p => { p with st := dst })

/-- The same with a command that brings no measurement of the pseudo-channels. -/
def State.leaveSleep (s : State) (src dst : Nat) : State := s.leaveSleepBy src dst []

/-- Rollback of an entry on the refusal of a block (17 R428): self-refresh exit, but for a relock that holds memory there (06 R166, R167),
domains on again, harvest resumed. -/
def State.rollback (s : State) (block : Nat) : State :=
  match s.pw.entry with
  | none => s
  | some e =>
    let s1 := s.modPw (fun p => { p with entry := none, refusedBy := block })
    let s2 := if s1.pw.st ≤ 1 ∧ s1.ck.synth = 0 then (if s1.mem.sr == .on then s1.srWake else s1.modMem (fun m => { m with sr := .off })) else s1
    let s3 := (s2.modHv (fun h => { h with stopped := false })).syncDomains
    (s3.logEv 0x0F02 sevWarning 0 (pwData block e.target 0xFFFF s.ticks)).endWork 0x0501 eState (block + 256 * e.target)

/-- Whether entry to self-refresh is under way that a request before C aborts: one that a relock asks for is never aborted (13 R339). -/
def State.srAborts (s : State) : Bool := s.mem.sr == .entry true && s.ck.relock.isNone

/-- A request reaches the controller before C: the entry is aborted, and an entry to a power state is rolled back (13 R339; 17 R428). -/
def State.srAbort (s : State) : State :=
  if s.srAborts then
    ((s.modMem (fun m => { m with sr := .off })).logEv 0x0B08 sevInfo 0 (memData 0 0 0xFFFFFFFF 0)).rollback 10
  else s

/-- A request for memory (17 R420; 13 R339): in SLEEP it wakes the HBM PHY domains, unless a relock holds memory in
self-refresh. -/
def State.memRequest (s : State) : State :=
  if s.pw.st = 2 ∧ s.ck.synth = 0 then
    let s1 := (s.modPw (fun p => { p with phyReq := s.clk })).srAbort
    if s.mem.sr == .on then s1.srWake.syncDomains else s1
  else s

/-! Rows whose requests abort an entry to self-refresh (13 R339, R344). -/

/-- PATROL_SCRUB (13 R329). -/
def execPatrolScrub (t : Nat) (raw : List RawGroup) (s : State) : Out :=
  let s0 := s.reach t
  go ((if s0.memBackground then s0.srAbort else s0).patrol raw)

/-- WRITE_BACK (13 R329). -/
def execWriteBack (t : Nat) (raw : List RawGroup) (s : State) : Out :=
  let s0 := s.reach t
  go ((if s0.memBackground && !s0.mem.wbq.isEmpty then s0.srAbort else s0).writeBack raw)

/-- RETRAINING_WINDOW (13 R332). -/
def execRetrainingWindow (t : Nat) (pc : Fin 32) (works : PcSetting) (lanes : List Eye) (temp : Int) (s : State) : Out :=
  let s0 := s.reach t
  go ((if s0.memBackground && s0.mem.pcs[pc].retrain.isSome then s0.srAbort else s0).retrainWindow pc works lanes temp)

/-- GROUP_READ (13 R323). -/
def execGroupRead (t : Nat) (pc : Fin 32) (row : Nat) (raw : List RawGroup) (copy : Bool) (s : State) : Out :=
  let s0 := s.reach t
  go ((if s0.memServes then s0.srAbort else s0).groupRead pc row raw copy)
end Sys2Proof.Machine
end

