-- ==== Sys2Proof/Machine/Playback.lean ====
section
/-!
DEFINITION. The playback outputs (15).
-/

namespace Sys2Proof.Machine

/-- DATA of a playback event (15 R387). -/
def pbData (o : Fin 2) (reason tick : Nat) : List Byte := leBytes 1 o.val ++ leBytes 1 reason ++ [0#8, 0#8] ++ leBytes 8 tick

/-- Words of a waveform of `n` samples (15 R375). -/
def waveWords (n : Nat) : Nat := ceilDiv n 5

/-- Pages of a waveform (15 R377). -/
def wavePages (n : Nat) : Nat := ceilDiv (waveWords n) 4096


/-- Take `n` pages for a region. -/
def State.takeRegion (o : Fin 2) : Nat → State → List Nat → State × List Nat
  | 0, s, ps => (s, ps)
  | n + 1, s, ps =>
    match s.nextPage with
    | none => (s, ps)
    | some e => State.takeRegion o n (s.takePage e.1 e.2 (.playback o)) (ps ++ [e.1])

/-! PLAY_LOAD (15 R377). -/

/-- PLAY_LOAD's own part. -/
def playLoadBody : Body := fun r s =>
  let b := r.payload
  let n := fieldAt b 4 4
  if 1 < fieldAt b 0 1 ∨ fieldAt b 1 3 ≠ 0 ∨ fieldAt b 24 8 ≠ 0 ∨ bulkOk b 8 = false then fails eParam s
  else if n % 8 ≠ 0 ∨ n < 80 ∨ 1342177280 < n ∨ (bulkRef b 8).2.1 ≠ waveWords n * 8 then fails eParam s
  else
    let o : Fin 2 := Fin.ofNat 2 (fieldAt b 0 1)
    if s.out[o].st = 2 ∨ s.out[o].st = 3 then fails eState s
    else if s.out[o].loading.isSome ∨ s.entering = true then fails eBusy s
    else if s.freePages < wavePages n ∨ s.workFull = true then fails eNores s
    else
      let s0 := (s.leaveSleep 1 0).memRequest
      let p := State.takeRegion o (wavePages n) s0 []
      accepted (((p.1.modOut o (fun x => { x with loading := some (p.2, n) })).addWork r o.val 0).syncDomains)

/-- Whether a piece of work loads output `o`. -/
def loadsOut (o : Fin 2) (w : Work) : Bool := w.code == 0x0A01 && w.arg == o.val

/-- PLAY_LOAD work fails: the new pages return to the pool, the earlier waveform stays (15 R377). -/
def State.loadFailed (s : State) (o : Fin 2) : State :=
  match s.out[o].loading with
  | none => s
  | some (ps, _) =>
    (((s.returnPages ps).modOut o (fun x => { x with loading := none })).endWorkIf (loadsOut o) eHw 0).syncDomains

/-- PLAY_LOAD work ends (15 R377): the new region replaces the earlier one. -/
def State.loadDone (s : State) (o : Fin 2) (bulk : Bulk) : State :=
  match s.out[o].loading with
  | none => s
  | some (ps, n) =>
    match bulk with
    | none => s.loadFailed o
    | some bs =>
      let s1 := s.returnPages s.out[o].region
      let s2 := s1.storeWords ps 0 (padTo (waveWords n * 8) bs)
      let s3 := s2.modOut o (fun x => { x with
        loading := none, region := ps, samples := n, streamed := decide (65536 < waveWords n), st := 1 })
      (s3.endWorkIf (loadsOut o) stOk 0).syncDomains

/-! PLAY_START (15 R379; 01 R31). -/


/-- Word rate that a channel would have under the settings in force (01 R28). -/
def State.appliedRate (s : State) (c : Fin 4) : Frac :=
  if s.ckey 0x0900 c = 0 then wordRate (samplesPerTick s.mode) (s.ckey 0x0801 c) (s.perWord (s.ckey 0x0806 c)) else (0, 1)

/-- The sum of the word rates of the applied capture configuration (01 R28, R31). -/
def State.appliedRates (s : State) : Frac :=
  allCh.foldl (fun a c => if s.present c then a.add (s.appliedRate c) else a) (0, 1)


/-- The lead of an output (15 R379). -/
def Output.lead (x : Output) : Nat := if x.streamed then 30000 else 300

/-- The response of PLAY_START. -/
def startResp (tick : Nat) (streamed : Bool) : List Byte := leBytes 8 tick ++ leBytes 1 (flag streamed) ++ List.replicate 7 0#8

/-- PLAY_START's own part: its checks in their order. -/
def playStartBody : Body := fun r s =>
  let b := r.payload
  let w := fieldAt b 1 1
  let st := fieldAt b 8 8
  if 1 < fieldAt b 0 1 ∨ 1 < w ∨ fieldAt b 2 2 ≠ 0 ∨ (w = 1 ∧ st % 4 ≠ 0) ∨ (w = 0 ∧ st ≠ 0) then fails eParam s
  else
    let o : Fin 2 := Fin.ofNat 2 (fieldAt b 0 1)
    let x := s.out[o]
    if w = 1 ∧ st < s.ticks + x.lead then fails eParam s
    else if x.st ≠ 1 then fails eState s
    else if x.loading.isSome ∨ s.ck.synth = 1 ∨ s.entering = true then fails eBusy s
    else if x.streamed = true ∧ unreserved s.activeSlots s.appliedRates < streamNeed + s.streamUse then fails eNores s
    else if s.ck.synth = 2 then fails eHw s
    else
      let at_ := if w = 1 then s.clkOf st else s.boundaryFrom (s.clk + x.lead)
      let s1 := ((s.leaveSleep 1 0).memRequest).modOut o (fun y => { y with
        st := 2, start := at_, loops := fieldAt b 4 4, stopAt := none, plays := 0, underruns := 0, under := [] })
      answers (startResp (s.ticks + (at_ - s.clk)) x.streamed) s1.syncDomains

/-! The schedule (15 R380–R383). -/

/-- Plays completed at tick `t`, no more than were ordered (15 R383, R384). -/
def Output.playsAt (x : Output) (t : Nat) : Nat :=
  let n := (t - x.start) * 8 / max 1 x.samples
  if x.loops = 0 then n else min n x.loops

/-- The tick at which the last play ends, none when it repeats until stopped. -/
def Output.naturalEnd (x : Output) : Option Nat := if x.loops = 0 then none else some (x.start + x.loops * x.samples / 8)

/-- What ends the schedule first: the tick and the reason (15 R386, R387). -/
def Output.ending (x : Output) : Option (Nat × Nat) :=
  match x.naturalEnd, x.stopAt with
  | some e, some (b, r) => if e ≤ b then some (e, 1) else some (b, r)
  | some e, none => some (e, 1)
  | none, z => z

/-- Order a stop of an output that is waiting or playing at boundary `b` (15 R383). -/
def State.orderStop (s : State) (o : Fin 2) (b reason : Nat) : State :=
  if s.out[o].st = 2 ∨ s.out[o].st = 3 then
    s.modOut o (fun x => { x with stopAt := match x.stopAt with
      | none => some (b, reason)
      | some (c, q) => if c ≤ b then some (c, q) else some (b, reason) })
  else s

/-- The response of PLAY_STOP. -/
def stopResp (plays tick : Nat) : List Byte := leBytes 4 (min (2 ^ 32 - 1) plays) ++ List.replicate 4 0#8 ++ leBytes 8 tick

/-- The boundary at which PLAY_STOP stops an output (15 R383). -/
def State.stopTick (s : State) (o : Fin 2) (mode : Nat) : Nat :=
  let x := s.out[o]
  if mode = 1 ∧ x.start ≤ s.clk then x.start + ((s.clk - x.start) * 8 / max 1 x.samples + 1) * x.samples / 8
  else s.boundaryFrom (s.clk + 1)

/-- PLAY_STOP's own part: it stands from now and completes at the stop boundary. -/
def playStopBody : Body := fun r s =>
  let b := r.payload
  let mode := fieldAt b 1 1
  if 1 < fieldAt b 0 1 ∨ 1 < mode ∨ fieldAt b 2 6 ≠ 0 then fails eParam s
  else
    let o : Fin 2 := Fin.ofNat 2 (fieldAt b 0 1)
    if s.out[o].st = 2 ∨ s.out[o].st = 3 then (.wait (.playStop o.val), s.orderStop o (s.stopTick o mode) 2)
    else fails eState s

/-- A waiting output starts (15 R380): its plays run from the start tick. -/
def State.playBegin (s : State) (o : Fin 2) : State :=
  let x := s.out[o]
  if x.st ≠ 2 ∨ s.clk < x.start ∨ x.stopAt.any (fun z => decide (z.1 ≤ x.start)) = true then s
  else (s.modOut o (fun y => { y with st := 3 })).logEvAt x.start 0x0D01 sevInfo 0 (pbData o 0 (s.ticksAt x.start))

/-- Answer the PLAY_STOP that waits for output `o`, if one does; its commit point was the tick at which it was taken. -/
def State.answerStop (s : State) (o : Fin 2) (plays tick : Nat) : State :=
  match s.mr.exec with
  | none => s
  | some e => if e.wait = .playStop o.val then s.finish ⟨stOk, stopResp plays tick, none, 0, 0⟩ e.taken else s

/-- The schedule of an output ends (15 R380, R383): code 0, loaded, PB_STOPPED. -/
def State.playFinish (s : State) (o : Fin 2) : State :=
  let x := s.out[o]
  match x.ending with
  | none => s
  | some (e, reason) =>
    if (x.st ≠ 2 ∧ x.st ≠ 3) ∨ s.clk < e ∨ (x.st = 2 ∧ x.stopAt.isNone) then s
    else
      let n := x.playsAt e
      let tick := s.ticksAt e
      let s1 := s.modOut o (fun y => { y with st := 1, stopAt := none, plays := min (2 ^ 32 - 1) n })
      let s2 := s1.logEvAt e 0x0D02 sevInfo 0 (pbData o reason tick)
      (s2.answerStop o n tick).syncDomains

/-- The words whose first sample falls in tick `t`: schedule index and word of the waveform (15 R380, R381). -/
def Output.wordsAt (x : Output) (t : Nat) : List (Nat × Nat) :=
  let i := (t - x.start) * 8
  let l := i / max 1 x.samples
  let k := i % max 1 x.samples
  let lim := min (k + 8) x.samples
  if t < x.start then []
  else ((List.range 2).map (fun j => ceilDiv k 5 + j)).filterMap (fun w =>
    if 5 * w < lim then some (l * waveWords x.samples + w, w) else none)

/-- Whether PB_UNDERRUN may be logged: once per 3,000,000,000 ticks in the module (15 R387). -/
def State.underrunDue (s : State) : Bool :=
  s.out.toList.all (fun x => x.underLog.elim true (fun a => decide (a + 3000000000 ≤ s.clk)))

/-- A streamed word, the `nth` of those of this tick, that is not in the buffer at its instant (15 R382). -/
def State.underrun (s : State) (o : Fin 2) (nth : Nat) : State :=
  let x := s.out[o]
  let hit := ((x.wordsAt s.clk)[nth]?).filter (fun w => !(x.under.contains w.1))
  if x.st ≠ 3 ∨ x.streamed = false ∨ x.ending.any (fun e => decide (e.1 ≤ s.clk)) = true then s
  else match hit with
    | none => s
    | some w =>
      let due := s.underrunDue
      let s1 := s.modOut o (fun y => { y with
        underruns := satAdd 32 y.underruns 1, underrun := some s.clk, under := w.1 :: y.under
        underLog := if due then some s.clk else y.underLog })
      if due then s1.logEv 0x0D03 sevWarning 0 (pbData o 0 s.ticks) else s1

/-- The bytes of word `w` of the loaded waveform (15 R375): a streamed one is read from its region, where a poisoned word reads zero (13
R325), a buffered one stands in the buffer. -/
def State.waveWord (s : State) (o : Fin 2) (w : Nat) : List Byte :=
  let p := s.out[o].region.getD (w / 4096) 0
  if s.out[o].streamed then s.readWord p (w % 4096) else memReadBytes s.tr.mem (wordAddr p (w % 4096)) 8

/-- Byte 7 of word `w` of an output's waveform: its marker bits are bits 4 and 5 (15 R375). -/
def State.markByte (s : State) (o : Fin 2) (w : Nat) : Nat := ((s.waveWord o w).getD 7 0#8).toNat

/-- The marker keys of an output that pulse at tick `t` (15 R381; 20 R490). -/
def State.playMarks (s : State) (o : Fin 2) (t : Nat) : List Nat :=
  let x := s.out[o]
  if (x.st = 3 ∨ (x.st = 2 ∧ x.start ≤ t)) ∧ x.ending.any (fun e => decide (e.1 ≤ t)) = false then
    (x.wordsAt t).flatMap (fun w =>
      if x.under.contains w.1 then []
      else (if bitAt (s.markByte o w.2) 4 then [0x004C + 2 * o.val] else [])
        ++ (if bitAt (s.markByte o w.2) 5 then [0x004D + 2 * o.val] else []))
  else []

/-! The code at the connector and at the injection switches (15 R374, R380, R382; 03 R84, R86). -/

/-- Sample `i` of the loaded waveform (15 R375). -/
def State.waveCode (s : State) (o : Fin 2) (i : Nat) : Int := decInt 12 (ofLe (s.waveWord o (i / 5)) / 2 ^ (12 * (i % 5)))

/-- Whether the schedule of an output runs at tick `t` (15 R380, R383). -/
def Output.playsOn (x : Output) (t : Nat) : Bool :=
  (x.st == 2 || x.st == 3) && decide (x.start ≤ t) && x.ending.all (fun e => decide (t < e.1))

/-- The 12-bit code that an output holds in eighth `k` of tick `t` (15 R374, R380, R382): the sample that its schedule places
there, 0 for a word that was underrun, and 0 while it is not playing. -/
def State.outCode (s : State) (o : Fin 2) (t k : Nat) : Int :=
  let x := s.out[o]
  let n := (t - x.start) * 8 + k
  let i := n % max 1 x.samples
  if x.playsOn t && !(x.under.contains (n / max 1 x.samples * waveWords x.samples + i / 5)) then s.waveCode o i else 0

/-- The instant at which sample `n` of an output's schedule leaves its connector plane, in 2^-24 tick (15 R380); an input into which
the output is injected reports an edge placed there at this instant (03 R86), since every instant that an input reports lies at
its connector plane (08 R213; 10 R256). -/
def Output.instant (x : Output) (n : Nat) : Nat := x.start * fineUnit + n * (fineUnit / 8)

/-- What the injection switch of an input does in eighth `k` of tick `t` (03 R84): whether the connector's signal passes, and what
the source adds, in half codes of the input's range: an output's code, since its full scale of 4,096 codes appears as FS/2, when it
is routed to the injection path (15 R376); the comb's peak of FS/4 on ticks that are multiples of 32. -/
def State.injected (s : State) (i : Fin 4) (t k : Nat) : Bool × Int :=
  let src := s.akey 0x0103 i
  let out (o : Fin 2) : Int := if s.mkey (0x0D00 + 8 * o.val) = 2 then s.outCode o t k else 0
  (src == 0 || s.akey 0x0104 i == 0, match src with
    | 1 => out 0
    | 2 => out 1
    | 3 => if s.ticksAt t % 32 = 0 ∧ k = 0 then 2048 else 0
    | _ => 0)

/-! The rows. -/

/-- PLAY_LOAD (15 R377). -/
def execPlayLoad (t : Nat) (mb : Fin 17) (s : State) : Out := go (s.command t mb 0x0A01 (lenIs 32) playLoadBody)

/-- PLAY_LOAD_END (15 R377). -/
def execPlayLoadEnd (t : Nat) (out : Fin 2) (bulk : Bulk) (s : State) : Out := go ((s.reach t).loadDone out bulk)

/-- PLAY_START (15 R379). -/
def execPlayStart (t : Nat) (mb : Fin 17) (s : State) : Out := go (s.command t mb 0x0A02 (lenIs 16) playStartBody)

/-- PLAY_STOP (15 R383). -/
def execPlayStop (t : Nat) (mb : Fin 17) (s : State) : Out := go (s.command t mb 0x0A03 (lenIs 8) playStopBody)

/-- PLAY_START_TICK (15 R380). -/
def execPlayStartTick (t : Nat) (out : Fin 2) (s : State) : Out := go ((s.reach t).playBegin out)

/-- PLAY_END (15 R380, R383). -/
def execPlayEnd (t : Nat) (out : Fin 2) (s : State) : Out := go ((s.reach t).playFinish out)

/-- STREAM_UNDERRUN (15 R382). -/
def execStreamUnderrun (t : Nat) (out : OutWord) (s : State) : Out := go ((s.reach t).underrun out.out out.nth)

end Sys2Proof.Machine
end

