-- ==== Sys2Proof/Machine/Pins.lean ====
section
/-!
DEFINITION. AUX_IO0–3 and TRIG_OUT: which function a pin carries and its output pulses (20 R490–R492).
-/

namespace Sys2Proof.Machine

/-- The function keys (20 R490). -/
def pinKeys : List Nat := (List.range 18).map (fun i => 0x0040 + i)

/-- The input function keys: marker inputs, wake, timing. -/
def inputKeys : List Nat := [0x0048, 0x0049, 0x004A, 0x004B, 0x0050, 0x0051]

/-- Whether an AUX_IO pin has an input function (07 R186, R189; 20 R490). -/
def State.auxInput (s : State) (p : Nat) : Bool := inputKeys.any (fun k => bitAt (s.mkey k) p)

/-- The function key that a pin carries, if any. -/
def State.pinFunction (s : State) (p : Nat) : Option Nat := pinKeys.find? (fun k => bitAt (s.mkey k) p)

/-- Start a pulse at tick `b` on one pin: it lasts PN_PULSE_WIDTH, and extends a pulse under way (20 R492). -/
def State.pulsePin (s : State) (b : Nat) (p : Fin 5) : State :=
  s.modPins (fun q => { q with pulse := q.pulse.set p.val (some (max (b + s.keyAt 0x0030 0 b) (q.pulse[p].getD 0))) })

/-- Start a pulse at tick `b` on the pins that carry function `key` then (20 R491, R492). -/
def State.pulse (s : State) (b key : Nat) : State :=
  ([0, 1, 2, 3, 4] : List (Fin 5)).foldl (fun a p => if bitAt (s.keyAt key 0 b) p.val then a.pulsePin b p else a) s

/-- Start every pulse that is due, and those of the playback markers of this tick (09 R248; 15 R381). -/
def State.outputPulses (s : State) : State :=
  let due := s.pins.duePulses.filter (fun e => decide (e.1 ≤ s.clk))
  let s1 := s.modPins (fun q => { q with duePulses := q.duePulses.filter (fun e => decide (s.clk < e.1)) })
  let s2 := due.foldl (fun a e => a.pulse e.1 e.2) s1
  (s.playMarks 0 s.clk ++ s.playMarks 1 s.clk).foldl (fun a k => a.pulse s.clk k) s2

/-- Whether an output pin, AUX_IO0–3 or TRIG_OUT as 4, is high: pulses are active high, and a pin without one drives low (20 R491,
R492). -/
def State.pinHigh (s : State) (p : Fin 5) : Bool := s.pins.pulse[p].any (fun e => decide (s.clk < e))

/-- The pulse on a pin ends (20 R492). -/
def State.pulseOver (s : State) (p : Fin 5) : State :=
  if s.pins.pulse[p].any (fun e => decide (e ≤ s.clk)) then s.modPins (fun q => { q with pulse := q.pulse.set p.val none }) else s

/-- The pulses on pins that satisfy `q` end at once (20 R491). -/
def State.cutPulses (s : State) (q : Nat → Bool) : State :=
  s.modPins (fun x => { x with pulse := Vector.ofFn (fun (p : Fin 5) => if q p.val then none else x.pulse[p]) })

/-- OUTPUT_PULSE (20 R492). -/
def execOutputPulse (t : Nat) (s : State) : Out := go ((s.reach t).outputPulses)

/-- PULSE_END (20 R492). -/
def execPulseEnd (t : Nat) (pin : Fin 5) (s : State) : Out := go ((s.reach t).pulseOver pin)

end Sys2Proof.Machine
end

