-- ==== Sys2Proof/Machine/Accum.lean ====
section
/-!
DEFINITION. Accumulation and envelope (11): records into the store, folds, result passes, reservations.
-/

namespace Sys2Proof.Machine

/-- What one point adds (11 R273): the 12-bit code or the 16-bit output, or the pair of ENVELOPE. -/
def State.pointOf (s : State) (c : Fin 4) (v : Value) : Int × Int :=
  if s.akey 0x0900 c = 3 then (if s.dcMode c = 2 then (v.lo, v.hi) else (v.lo, v.lo))
  else if s.dcMode c = 3 then (v.lo, 0)
  else (clampInt (-2048) 2047 (divHalfEven v.lo 16), 0)

/-- The store with points of one more record from the store's word on at which it begins (11 R277). -/
def addPoints (env first : Bool) : List (Int × Int) → List (Int × Int) → List (Int × Int)
  | [], st => st
  | p :: ps, [] => p :: addPoints env first ps []
  | p :: ps, q :: qs =>
    (if first then p else if env then (min p.1 q.1, max p.2 q.2) else (p.1 + q.1, 0)) :: addPoints env first ps qs

/-- An ENVELOPE point without a contribution (11 R284). -/
def emptyPair : Int × Int := (32767, -32768)

/-- A settling value cuts the run after `n` points of a record (11 R284, R288). -/
def State.cutBySettling (s : State) (c : Fin 4) (r : Rec) (n : Nat) : State :=
  (s.modCh c (fun h => { h with acc := { h.acc with cut := some s.clk } })).logCut c 2
    (s.ticksAt ((s.valueInstant c (r.first.toNat + n - 1)).toNat / fineUnit))

/-- Values from value `first` on count in DC_SAT where they saturated (10 R259, R268). -/
def State.countSats (s : State) (c : Fin 4) (first : Nat) (vals : List Value) : State :=
  (vals.zip (List.range vals.length)).foldl (fun a p => a.countSat c (first + p.2) p.1) s

/-- A record is discarded whole (11 R278). -/
def State.discardRecord (s : State) (c : Fin 4) : State :=
  let s1 := s.modCh c (fun h => { h with acc := { h.acc with
    recs := h.acc.recs.drop 1, discard := satAdd 32 h.acc.discard 1, runDisc := satAdd 32 h.acc.runDisc 1 } })
  if s1.ch[c].acc.ending && s1.ch[c].acc.recs.isEmpty then s1.endRun c (s.clk * fineUnit) s.clk else s1

/-- The points of the oldest record that have left the delay line since the last ones are added to the store (11 R276, R277). -/
def State.addValues (s : State) (c : Fin 4) (r : Rec) (vals : List Value) : State :=
  let first := s.ch[c].acc.records == 0
  (s.countSats c (r.first.toNat + r.done) vals).modCh c (fun h => { h with acc := { h.acc with
    store := h.acc.store.take r.done
      ++ addPoints (s.akey 0x0900 c == 3) first (vals.map (s.pointOf c)) (if first then [] else h.acc.store.drop r.done)
    recs := { r with done := r.done + vals.length, clip := r.clip || vals.any (·.ovr) } :: h.acc.recs.drop 1 } })

/-- The last point of the oldest record has been added: the record counts, and what it calls for begins (11 R275, R278–R281, R284);
`settled` says that a settling value follows. -/
def State.closeAdded (s : State) (c : Fin 4) (r : Rec) (settled : Bool) : State :=
  let cut := decide (r.done < s.akey 0x0901 c)
  let first := s.ch[c].acc.records == 0
  let last := r.first.toNat + r.done - 1
  let close := (s.valueInstant c last).toNat
  let s1 := s.modCh c (fun h => { h with acc := { h.acc with
    recs := h.acc.recs.drop 1, records := h.acc.records + 1
    spans := ((s.valueInstant c r.first.toNat).toNat, close) :: h.acc.spans
    clipped := satAdd 32 h.acc.clipped (flag r.clip), runClip := satAdd 32 h.acc.runClip (flag r.clip)
    firstT := if first then r.stamp else h.acc.firstT, firstSrc := if first then r.src else h.acc.firstSrc
    lastT := r.stamp, cutPt := if cut then some r.done else none, cutCause := if settled then 2 else r.cut } })
  let s2 := if settled then s1.cutBySettling c r r.done else s1
  if cut || decide (s.akey 0x0903 c ≤ s2.ch[c].acc.records) || (s2.ch[c].acc.ending && s2.ch[c].acc.recs.isEmpty) then
    s2.endRun c close (s.addedAt c last)
  else if s.usesFold c && s2.ch[c].acc.records % s.foldEvery c == 0 then
    s2.modCh c (fun h => { h with acc := h.acc.call true close (s.addedAt c last) })
  else s2

/-- The values from `first` on, of `n`, that have left the delay line by now (11 R276). -/
def State.leftLine (s : State) (c : Fin 4) (first n : Nat) : Nat :=
  ((List.range n).takeWhile (fun i => decide (s.addedAt c (first + i) ≤ s.clk))).length

/-- The oldest record takes the values that have left the delay line, from codes that begin eight samples before the span of the first of
them. One that is discarded goes once it has closed; one that a settling value cuts ends with the value before that, open or closed
(11 R275, R276, R278, R284). -/
def State.takeRecord (s : State) (c : Fin 4) (codes : Codes) : State :=
  match s.ch[c].acc.recs with
  | [] => s
  | r :: _ =>
    let stop := s.settlePoint c r
    let n := stop.getD r.points
    if s.discards c r then (if r.closed then s.discardRecord c else s)
    else
      let at_ := r.first.toNat + r.done
      let m := s.leftLine c at_ (n - r.done)
      let s1 := if m = 0 then s else (s.addValues c r (s.valuesOf c at_ m codes)).hear c (s.valueStream c at_ m codes)
      match s1.ch[c].acc.recs with
      | [] => s1
      | r1 :: _ => if r1.done = n ∧ (r.closed || stop.isSome) = true then s1.closeAdded c r1 stop.isSome else s1

/-! Results (11 R274, R280, R282). -/

/-- How many records contributed to point `i` (11 R284). -/
def Acc.contributed (a : Acc) (i : Nat) : Nat := if a.cutPt.any (fun p => decide (p ≤ i)) then a.records - 1 else a.records

/-- The 64-bit or 32-bit sums of a run: folded, or the store's own. -/
def State.runSums (s : State) (c : Fin 4) : List Int :=
  if s.usesFold c then s.ch[c].acc.fold else s.ch[c].acc.store.map (·.1)

/-- The average of a point in 2^-20 LSB (11 R274). -/
def avgPoint (w : Nat) (sum : Int) (n : Nat) : Int := if n = 0 then 0 else divHalfEven (sum * (2 : Int) ^ (32 - w)) n

/-- W of a run (11 R273). -/
def State.accWidth (s : State) (c : Fin 4) : Nat := if s.akey 0x0900 c = 3 ∨ s.dcMode c = 3 then 16 else 12

/-- The result values of a run as words (11 R274). -/
def State.resultWords (s : State) (c : Fin 4) : List Nat :=
  let a := s.ch[c].acc
  let pts := s.akey 0x0901 c
  let sums := s.runSums c
  match s.akey 0x0900 c with
  | 3 =>
    let f (i : Nat) : Nat := let p := a.store.getD i emptyPair; encInt 16 p.1 + 65536 * encInt 16 p.2
    (chunksOf 2 pts ((List.range pts).map f)).map (fun p => p.headD 0 + 2 ^ 32 * (p.getD 1 0))
  | 2 =>
    let f (i : Nat) : Nat := encInt 32 (avgPoint (s.accWidth c) (sums.getD i 0) (a.contributed i))
    (chunksOf 2 pts ((List.range pts).map f)).map (fun p => p.headD 0 + 2 ^ 32 * (p.getD 1 0))
  | _ =>
    if s.usesFold c then (List.range pts).map (fun i => encInt 64 (sums.getD i 0))
    else (chunksOf 2 pts ((List.range pts).map (fun i => encInt 32 (sums.getD i 0)))).map
      (fun p => p.headD 0 + 2 ^ 32 * (p.getD 1 0))

/-- The format entry of a run's result (11 R274). -/
def State.resultFmt (s : State) (c : Fin 4) : Nat :=
  match s.akey 0x0900 c with
  | 3 => 3
  | 2 => 2
  | _ => if s.usesFold c then 4 else 2

/-- The 64 bytes of a result header (11 R282). -/
def State.resultHeader (s : State) (c : Fin 4) : List Byte :=
  let a := s.ch[c].acc
  let pts := s.akey 0x0901 c
  leBytes 8 a.records ++ leBytes 8 a.firstT.ticks ++ leBytes 4 a.firstT.fracq ++ leBytes 4 pts ++ leBytes 4 (s.akey 0x0902 c)
    ++ leBytes 4 (a.cutPt.getD pts) ++ leBytes 8 a.lastT.ticks ++ leBytes 4 a.lastT.fracq ++ leBytes 4 a.runClip
    ++ leBytes 4 a.runDisc ++ leBytes 4 a.folds ++ leBytes 1 (s.akey 0x0900 c) ++ leBytes 1 (s.accWidth c)
    ++ leBytes 1 (flag a.cutPt.isSome + 2 * flag (a.cutPt.isSome || decide (a.records < s.akey 0x0903 c)) + 4 * flag (s.usesFold c))
    ++ [0#8] ++ leBytes 4 a.runNo

/-- The result segment of a run (11 R282). -/
def State.resultSeg (s : State) (c : Fin 4) (idx : Nat) : Seg :=
  let a := s.ch[c].acc
  { s.newSeg c idx 0 false with
    cont := false, closed := true, queued := true, pages := a.pages, spans := a.spans
    tq := a.spans.any (fun x => s.qualChanged x.1 x.2)
    oos := a.spans.any (fun x => (s.towers c).any (fun k => overlapsOos s.tw[k].oos (x.1 / fineUnit) (x.2 / fineUnit)))
    firstWord := 0, words := 8 + (s.resultWords c).length
    length := s.akey 0x0901 c + (if s.resultFmt c = 4 then 8 else 16), fmt := s.resultFmt c
    result := true, ovr := decide (a.runClip ≠ 0), source := a.firstSrc, stamp := a.firstT }

/-- The counters a written result advances (11 R285, R275). -/
def State.countResult (s : State) (c : Fin 4) : State :=
  s.modCh c (fun h => { h with results := satAdd 32 h.results 1, segs := satAdd 32 h.segs 1
                               acc := { h.acc with results := wrapAdd 32 h.acc.results 1, pages := [], foldPgs := [] } })

/-- Write the result segment and queue its descriptor; SQ_SEGMENTS results end the acquisition (11 R275, R280). A result whose descriptor
page is refused is not recorded: LOST is set and the channel stops on full memory (12 R301; log entry 57). -/
def State.writeResult (s : State) (c : Fin 4) : State :=
  let idx := s.nextIdx c
  let d := s.getDesc c idx
  let s0 := d.1.modCh c (fun h => { h with acc := { h.acc with pass := false, folding := false } })
  if d.2 then
    let s1 := (s0.modCh c (fun h => { h with acc := { h.acc with lost := some s.clk, pages := [], foldPgs := [] } })).sweep c
    if s1.armedOn c then s1.fullStop c 0xFFFFFFFF false else s1
  else
    let g := s.resultSeg c idx
    let s1 := s0.putSeg c g
    let s2 := (s1.storeWords g.pages 0 (s.resultHeader c ++ wordBytes (s.resultWords c))).modTr (fun t => { t with
      descQ := t.descQ ++ [(c, g.acq, idx)] })
    let s3 := (s2.countResult c).sweep c
    if s3.armedOn c && decide (s.akey 0x0700 c ≤ s3.ch[c].results) then s3.toDone c 1 s3.boundary (s3.boundary * fineUnit) else s3

/-! Folds and passes (11 R279–R281). -/

/-- Whether the fold or pass of a channel has not come to its end: it takes its time from the boundary on which it begins, a relock holds
it up, and its result waits for room in the descriptor queue (06 R166; 11 R281; 12 R297). -/
def State.passWaits (s : State) (c : Fin 4) (ticks : Nat) : Bool :=
  decide (s.clk < s.ch[c].acc.drainAt + ticks) || s.ck.relock.isSome || decide (1024 ≤ s.tr.descQ.length)

/-- Ticks of a fold or pass: 8 points a tower and DSP cycle (11 R281). -/
def State.passTicks (s : State) (c : Fin 4) : Nat := 4 * ceilDiv (ceilDiv (s.akey 0x0901 c) (s.towers c).length) 8

/-- Sum two lists of sums, from point 0 up; a missing point counts 0. -/
def addSums : List Int → List Int → List Int
  | [], l => l
  | l, [] => l
  | x :: xs, y :: ys => (x + y) :: addSums xs ys

/-- A fold (11 R279); the run's final one completes a SUM (11 R280). -/
def State.foldDone (s : State) (c : Fin 4) : State :=
  let a := s.ch[c].acc
  if !a.folding || s.passWaits c (s.passTicks c) then s
  else
    let s1 := s.modCh c (fun h => { h with acc := { h.acc with
      fold := addSums h.acc.fold (h.acc.store.map (·.1)), store := h.acc.store.map (fun _ => (0, 0))
      folds := h.acc.folds + 1, folding := false, drainAt := s.clk } })
    if a.runOpen then s1
    else if s.akey 0x0900 c = 2 then s1.modCh c (fun h => { h with acc := { h.acc with pass := true } })
    else s1.writeResult c

/-- A result pass (11 R280). -/
def State.passDone (s : State) (c : Fin 4) : State :=
  let a := s.ch[c].acc
  if !a.pass || s.passWaits c (s.passTicks c) then s else s.writeResult c

/-! Reservations (11 R283). -/

/-- Pages of a run: the result's, and fold pages beside them. -/
def State.runPages (s : State) (c : Fin 4) : Nat × Nat :=
  let pts := s.akey 0x0901 c
  let b := if s.akey 0x0900 c = 1 && s.usesFold c then 8 else 4
  (ceilDiv (64 + b * pts) 32768, if s.akey 0x0900 c = 2 && s.usesFold c then ceilDiv (8 * pts) 32768 else 0)

/-- Take `n` pages under the channel's fill mode; the flag says that one was refused. -/
def State.takeRunPages (c : Fin 4) : Nat → State → List Nat → State × List Nat × Bool
  | 0, s, ps => (s, ps, false)
  | n + 1, s, ps =>
    let r := s.allocate c
    match r.2 with
    | .page p k => State.takeRunPages c n (r.1.takePage p k (.acc c)) (ps ++ [p])
    | .wait =>
      match r.1.nextPage with
      | none => (r.1, ps, true)
      | some e => State.takeRunPages c n (r.1.takePage e.1 e.2 (.acc c)) (ps ++ [e.1])
    | .refused => (r.1, ps, true)

/-- A new run begins with its reservation (11 R283); refused, the channel stops on full memory with LOST set. -/
def State.startRun (s : State) (c : Fin 4) (runNo : Nat) : State :=
  let n := s.runPages c
  let r := State.takeRunPages c (n.1 + n.2) s []
  if r.2.2 then
    let s1 := (r.1.returnPages r.2.1).modCh c (fun h => { h with acc := { h.acc with lost := some s.clk, runOpen := false } })
    s1.fullStop c 0xFFFFFFFF false
  else r.1.modCh c (fun h => { h with acc := { h.acc with
    runOpen := true, records := 0, folds := 0, spans := [], store := [], fold := [], runNo := runNo, runClip := 0, runDisc := 0
    cutPt := none, cutCause := 0, pages := r.2.1.take n.1, foldPgs := r.2.1.drop n.1 } })

/-- The busy interval ends (11 R281, R283), its end kept for triggers whose points lie before it; after a run, the next begins
while the channel runs. -/
def State.busyOver (s : State) (c : Fin 4) : State :=
  let a := s.ch[c].acc
  if a.busyFrom.isNone || a.folding || a.pass || !a.recs.isEmpty then s
  else
    let s1 := s.modCh c (fun h => { h with acc := { h.acc with busyFrom := none, drainAt := s.clk } })
    if !a.runOpen && s.accum c && s.armedOn c then s1.startRun c (a.runNo + 1) else s1

/-- Whether accumulation of a channel is at work: RUNNING, BUSY or PASS (11 R286). -/
def Acc.busy (a : Acc) : Bool := a.runOpen || a.busyFrom.isSome || a.pass

/-! The rows. -/

/-- FOLD (11 R279). -/
def execFold (t : Nat) (ch : Fin 4) (s : State) : Out := go ((s.reach t).foldDone ch)

/-- RESULT_PASS (11 R280). -/
def execResultPass (t : Nat) (ch : Fin 4) (s : State) : Out := go ((s.reach t).passDone ch)

/-- BUSY_INTERVAL_END (11 R283). -/
def execBusyIntervalEnd (t : Nat) (ch : Fin 4) (s : State) : Out := go ((s.reach t).busyOver ch)

end Sys2Proof.Machine
end

