-- ==== Sys2Proof/Machine/Towers.lean ====
section
/-!
DEFINITION. Towers, slices and the graft slice (04): self-test, the swap period, failures and replacement, GRAFT_CONTROL.
-/

namespace Sys2Proof.Machine

/-- Log a tower event (04 R113). -/
def State.twEvent (s : State) (k : Fin 4) (code sev : Nat) (x : Option (Fin 33)) (p : Option (Fin 32)) (cause tick : Nat) : State :=
  s.logEv code sev (0x11 + k.val)
    (leBytes 1 (x.elim 0xFF (·.val)) ++ leBytes 1 (p.elim 0xFF (·.val)) ++ leBytes 1 cause ++ [0#8] ++ leBytes 8 tick)

/-- Segments of the tower's channel that overlap an out-of-specification interval from tick `from_` on are flagged, unless their
descriptor is written, which afterwards only POISONED changes (04 R100; 12 R298). -/
def State.flagOos (s : State) (k : Fin 4) (from_ : Nat) : State :=
  s.modTr (fun t => { t with segs := t.segs.map (fun g =>
    if g.ch == chanOfTower s.mode k && !g.written && g.spans.any (fun x => decide (from_ ≤ x.2 / fineUnit)) then { g with oos := true } else g) })

/-! Losing the graft, filling a phase, replacing a slice. -/

/-- A phase without a working slice is filled from now (04 R105). -/
def State.fillPhase (s : State) (k : Fin 4) (p : Fin 32) : State :=
  ((s.modTw k (fun w => { w.serve p none s.clk with
    oos := if w.oos.any (fun o => o.phase == p && o.fin.isNone) then w.oos else ⟨p, s.clk, none⟩ :: w.oos })).flagOos k s.clk).twEvent k 0x0205
      sevCritical none (some p) 0 s.ticks

/-- Whether a replacement under way is of a slice that no longer works (04 R103), not of one that still delivers (04 R101) or of a
filled phase (04 R105). -/
def State.replDead (s : State) (k : Fin 4) (r : Repl) : Bool := !r.ready && r.slice.any (fun x => decide ((s.slice k x).cause < 6))

/-- The replacements under way have no graft any more: a phase whose slice failed is filled (04 R105), one whose slice still
delivers keeps it until a graft comes (log entry 13). -/
def State.orphanRepls (s : State) (k : Fin 4) : State :=
  let w := s.tw[k]
  (w.repl.filter (s.replDead k)).foldl (fun a r => a.fillPhase k r.phase) (s.modTw k (fun v => { v with
    repl := (w.repl.filter (fun r => r.slice.isSome && !(s.replDead k r))).map (fun r => { r with ready := true }) }))

/-- The tower has no graft any more (04 R104). -/
def State.loseGraft (s : State) (k : Fin 4) (x : Fin 33) (p : Option (Fin 32)) : State :=
  (((s.modTw k (fun w => { w with
    graft := none, gstep := .waiting, grid := none, swapNow := false, waived := false, deferred := false, lin := none })).twEvent k 0x0204
      sevWarning (some x) p 0 s.ticks).orphanRepls k).syncDomains

/-- The graft fails (04 R99, R104): the tick reported is `tick`, in module time. -/
def State.failGraft (s : State) (k : Fin 4) (x : Fin 33) (cause tick : Nat) : State :=
  ((s.modSlice k x (fun v => { v with cause := cause })).twEvent k 0x0202 sevError (some x) none cause tick).loseGraft k x none

/-- An active slice's trims ramp from M to T (04 R96). -/
def State.rampBack (s : State) (k : Fin 4) (x : Fin 33) : State :=
  let v := s.slice k x
  (s.rampTo (.ofs k x) v.tOfs s.clk).rampTo (.gain k x) v.tGain s.clk

/-- The graft takes the phase of replacement `r` for good (04 R101, R103 step 4): out-of-specification data end, the failed
slice goes off, the tower has no graft. SLICE_REPLACED names the slice that is displaced, with its cause; 04 R113 does not say which
of the two slices it names (DESIGN CHOICE, log entry 13). -/
def State.replaceBy (s : State) (k : Fin 4) (r : Repl) (g : Fin 33) : State :=
  let s1 := s.modTw k (fun w => { w.serve r.phase (some g) s.clk with
    repl := w.repl.filter (fun q => q != r)
    oos := w.oos.map (fun o => if o.phase == r.phase && o.fin.isNone then { o with fin := some s.clk } else o) })
  let s2 := s1.twEvent k 0x0203 sevWarning r.slice (some r.phase) (r.slice.elim 0 (fun x => (s.slice k x).cause)) s.ticks
  (((s2.rampBack k g).retime k g r.phase s.clk).checkLimits k g).loseGraft k g (some r.phase)

/-- The graft is connected to a failed phase (04 R103 step 2): trims T, timing its aperture value plus the loop correction. -/
def State.connectGraft (s : State) (k : Fin 4) (g : Fin 33) (p : Fin 32) : State :=
  (s.modSlice k g (fun v => { v with ofs := v.tOfs, gain := v.tGain, tim := s.timTarget k g p })).checkLimits k g

/-- Replacement of phase `p` begins at the present tick (04 R103 steps 1 and 2). Slices that wait to be retired go on waiting. -/
def State.beginRepl (s : State) (k : Fin 4) (p : Fin 32) (x : Option (Fin 33)) (g : Fin 33) : State :=
  (s.modTw k (fun w => { w with
    gstep := .waiting, grid := none, swapNow := false, stepAt := s.clk
    repl := w.repl.filter (fun r => r.ready && r.phase != p) ++ [⟨p, x, s.boundaryFrom (s.clk + 3064), false⟩] })).connectGraft k g p

/-- The graft prepares to replace slice `x` of phase `p` through the steps of R93 (04 R101); where the tower does not rotate it waits
with that target (04 R90). A replacement under R103 that is under way goes on and takes the graft first; the retired slice then
serves its phase until RESTORE_SLICE brings another graft. 04 R101 and R103 do not say which of the two the graft serves (DESIGN
CHOICE, log entry 13). -/
def State.beginRetire (s : State) (k : Fin 4) (p : Fin 32) (x : Fin 33) : State :=
  let on := s.rotates k
  s.modTw k (fun w => { (if on then w.selectOn p s.clk else { w with target := p }) with
    swapNow := false, repl := w.repl.filter (fun r => r.phase != p || !r.ready) ++ [⟨p, some x, 0, true⟩] })

/-! Swaps (04 R95–R97). -/

/-- A curve comes into force for slice `x` (05 R130); a load that waits for that slice is done with. -/
def State.putCurve (s : State) (k : Fin 4) (x : Fin 33) (v : List Int) : State :=
  let key := sliceKey k x
  s.modCal (fun c => { c with
    ws := { c.ws with curves := itemPut key v c.ws.curves }, wsHist := (s.clk, c.ws) :: c.wsHist
    pendCurves := c.pendCurves.filter (fun q => q.1 != key) })

/-- A curve that waits for a slice's SELECT comes into force (05 R130). -/
def State.takeCurve (s : State) (k : Fin 4) (x : Fin 33) : State :=
  (itemGet s.cal.pendCurves (sliceKey k x)).elim s (fun v => s.putCurve k x v)

/-- What a swap of slice `g` for slice `d` on the target changes. -/
def State.undoOf (s : State) (k : Fin 4) (g d : Fin 33) : SwapUndo :=
  let w := s.tw[k]
  let v := s.slice k d
  { at_ := s.clk, phase := w.target, out := d, inn := g, swaps := w.swaps, lastSwap := w.lastSwap
    ofs := v.ofs, gain := v.gain, tim := v.tim
    ramps := s.cal.ramps.filter (fun r => r.elem == .ofs k d || r.elem == .gain k d || r.elem == .tim k d)
    curve := s.cal.ws.curve (sliceKey k d), pend := itemGet s.cal.pendCurves (sliceKey k d) }

/-- The swap at the present boundary (04 R95, R96): the graft takes the target phase, the displaced slice becomes the graft. The trims
of the slice now active ramp from M to T, its timing on to its target (05 R118, R126). -/
def State.doSwap (s : State) (k : Fin 4) : State :=
  let w := s.tw[k]
  match w.graft, w.phases[w.target] with
  | some g, some d =>
    let s1 := s.modTw k (fun v => { (v.serve w.target (some g) s.clk).newPeriod (w.target + 1) s.clk with
      graft := some d
      swaps := satAdd 32 v.swaps 1
      lastSwap := s.ticks
      lastFail := none
      phFail := v.phFail.set w.target.val none
      undo := some (s.undoOf k g d) })
    ((((s1.endRamps k d).takeCurve k d).rampBack k g).retime k g w.target s.clk).checkLimits k g |>.checkLimits k d
  | _, _ => s

/-- The last swap, if it took place in the DSP cycle of the present tick (04 R102). -/
def State.freshSwap (s : State) (k : Fin 4) : Option SwapUndo :=
  s.tw[k].undo.filter (fun u => s.cycleOf (u.at_ * fineUnit) == s.cycleOf (s.clk * fineUnit))

/-- A swap of the present DSP cycle is cancelled (04 R102): the displaced slice serves its phase as before, with its trims, ramps and
curve. -/
def State.cancelSwap (s : State) (k : Fin 4) (u : SwapUndo) : State :=
  let s1 := s.modTw k (fun w => { w with
    phases := w.phases.set u.phase.val (some u.out), served := w.served.tail, graft := some u.inn, target := u.phase
    swaps := u.swaps, lastSwap := u.lastSwap, undo := none })
  let s2 := s1.modSlice k u.out (fun v => { v with ofs := u.ofs, gain := u.gain, tim := u.tim })
  let s3 := ((s2.stopRamp (.ofs k u.inn)).stopRamp (.gain k u.inn)).stopRamp (.tim k u.inn)
  s3.modCal (fun c => { c with
    ramps := c.ramps ++ u.ramps
    ws := { c.ws with curves := itemPut (sliceKey k u.out) u.curve c.ws.curves }
    pendCurves := u.pend.elim c.pendCurves (fun v => itemPut (sliceKey k u.out) v c.pendCurves) })
      |>.checkLimits k u.out |>.checkLimits k u.inn

/-- The number of a swap period of a tower, counted from power-up. -/
def Tower.periodNo (w : Tower) : Nat := w.swaps + w.fails

/-- Whether two periods lie in two consecutive rotations: the order of 04 R91 takes 32 periods to come round (DESIGN CHOICE, log
entry 13). -/
def nextRound (a b : Nat) : Bool := b / 32 == a / 32 + 1

/-- The active slice of a phase that failed convergence in two consecutive rotations is failed and replaced at the first boundary
after the decision (04 R97, R101). A slice that is to be retired anyway keeps its cause. -/
def State.failMatched (s : State) (k : Fin 4) (p : Fin 32) (x : Fin 33) : State :=
  let s1 := if (s.slice k x).cause = 0 then
      (s.modSlice k x (fun v => { v with cause := 6 })).twEvent k 0x0202 sevError (some x) (some p) 6 s.ticks
    else s
  s1.modTw k (fun v => { v with
    repl := v.repl.filter (fun r => r.phase != p) ++ [⟨p, some x, s.boundaryFrom (s.clk + 1), false⟩], gstep := .waiting, grid := none })

/-- A period that ends without a swap (04 R97): the failure is logged and counted, and the module decides between the two
slices. -/
def State.convFail (s : State) (k : Fin 4) : State :=
  let w := s.tw[k]
  let p := w.target
  match w.graft with
  | none => s
  | some g =>
    let s1 := s.twEvent k 0x0201 sevWarning (some g) (some p) 0 s.ticks
    let s2 := s1.modTw k (fun v => { v.newPeriod (p + 1) s.clk with
      fails := satAdd 32 v.fails 1
      lastFail := some (g, p)
      phFail := v.phFail.set p.val (some (g, w.periodNo)) })
    if w.lastFail.any (fun f => f.1 == g && f.2 + 1 == p) then s2.failGraft k g 6 s.ticks
    else match w.phFail[p], w.phases[p] with
      | some f, some x => if f.1 != g && nextRound f.2 w.periodNo then s2.failMatched k p x else s2
      | _, _ => s2

/-- A tower's grid tick, or the boundary of SWAP_NOW (04 R93, R97, R111). A READY graft whose target is a slice to be retired does
not swap at the grid tick but at the first boundary after READY (04 R101), which is SLICE_REPLACEMENT. TW_CONV_LIMIT counts the grid
ticks that have passed since the period began, also for a period that begins off the grid (DESIGN CHOICE, log entry 59). -/
def State.swapTick (s : State) (k : Fin 4) : State :=
  let w := s.tw[k]
  if !(s.rotates k) then s
  else if w.swapNow && w.gstep == .ready && !w.retires && s.boundaryFrom (w.stepAt + 1) == s.clk then
    (s.modTw k (fun v => { v with grid := v.grid.map (fun g => if g ≤ s.clk then g + s.swapPeriod else g) })).doSwap k
  else match w.grid with
    | none => s
    | some g =>
      if s.clk < g then s
      else
        let next : Option Nat := some (g + s.swapPeriod)
        if w.gstep == .ready then
          let s1 := s.modTw k (fun v => { v with grid := next })
          if w.retires then s1 else s1.doSwap k
        else
          let s1 := s.modTw k (fun v => { v with grid := next, deferred := true, grids := v.grids + 1 })
          if s.mkey 0x0203 ≤ w.grids + 1 then s1.convFail k else s1

/-! Failures (04 R99–R103). -/

/-- Take a failed active slice out of service: it is failed, its phase out of specification from `onset` (04 R100, R103). -/
def State.markFailed (s : State) (k : Fin 4) (x : Fin 33) (p : Fin 32) (cause onset : Nat) : State :=
  (((s.modSlice k x (fun v => { v with cause := cause })).modTw k (fun w => { w with
    oos := ⟨p, onset, none⟩ :: w.oos })).flagOos k onset).twEvent k 0x0202 sevError (some x) (some p) cause (s.ticksAt onset)

/-- Whether slice `x` was displaced by a swap in the present DSP cycle (04 R102). -/
def State.justDisplaced (s : State) (k : Fin 4) (x : Fin 33) : Bool :=
  s.tw[k].graft == some x && (s.freshSwap k).any (fun u => u.out == x)

/-- Whether a swap onto phase `p` is scheduled for the present DSP cycle (04 R102). -/
def State.swapsNow (s : State) (k : Fin 4) (p : Fin 32) : Bool :=
  s.tw[k].target == p && (s.swapAt k).any (fun t => decide (s.clk ≤ t ∧ t < s.boundaryFrom (s.clk + 1)))

/-- The active slice of a phase whose graft swaps in this very cycle fails: the swap proceeds and the displaced slice is failed at
once (04 R102). -/
def State.failDisplaced (s : State) (k : Fin 4) (x g : Fin 33) (cause : Nat) : State :=
  match s.tw[k].repl.find? (fun r => r.ready && r.phase == s.tw[k].target) with
  | some r => s.replaceBy k r g
  | none => ((s.modTw k (fun v => { v with grid := none })).doSwap k).failGraft k x cause s.ticks

/-- The failure of an active slice while the graft replaces another slice under R103, or takes its very phase (04 R101–R103, R105). -/
def State.failsBeside (s : State) (k : Fin 4) (x : Fin 33) (p : Fin 32) (cause onset : Nat) (r : Repl) (g : Fin 33) : State :=
  let s1 := s.markFailed k x p cause onset
  if r.phase = p then s1
  else if r.slice.isSome = true ∧ s.cycleOf (s.tw[k].stepAt * fineUnit) = s.cycleOf (s.clk * fineUnit) ∧ p.val < r.phase.val then
    ((s1.fillPhase k r.phase).beginRepl k p (some x) g).syncDomains
  else (s1.fillPhase k p).syncDomains

/-- An active slice fails by cause 1 to 4 (04 R102, R103, R105). -/
def State.activeFails (s : State) (k : Fin 4) (x : Fin 33) (p : Fin 32) (cause onset : Nat) : State :=
  match s.tw[k].graft with
  | none => ((s.markFailed k x p cause onset).fillPhase k p).syncDomains
  | some g =>
    match s.tw[k].repl.find? (fun r => !r.ready) with
    | some r => s.failsBeside k x p cause onset r g
    | none =>
      if s.swapsNow k p then s.failDisplaced k x g cause
      else match s.freshSwap k with
        | some u =>
          if u.phase = p then (s.markFailed k x p cause onset).beginRepl k p (some x) g
          else ((s.cancelSwap k u).markFailed k x p cause onset).beginRepl k p (some x) u.inn
        | none => (s.markFailed k x p cause onset).beginRepl k p (some x) g

/-- Whether a slice is in service as far as the checks of R99 go: not failed, or failed by cause 6 or 7 and still delivering valid samples
until it is replaced (04 R101). -/
def State.delivers (s : State) (k : Fin 4) (x : Fin 33) : Bool :=
  (s.slice k x).cause == 0 || (decide (6 ≤ (s.slice k x).cause) && (s.tw[k].phaseOf x).isSome)

/-- A check finds a slice failed (04 R99). One that waits to be replaced under R101 and stops delivering valid samples is replaced
under R103. -/
def State.sliceFails (s : State) (k : Fin 4) (x : Fin 33) (cause onset : Nat) : State :=
  let w := s.tw[k]
  if !(s.towerOn k) || !w.known || !(s.delivers k x) || !(s.sliceOn k x) then s
  else match w.phaseOf x with
    | some p => if 1 ≤ cause ∧ cause ≤ 4 then s.activeFails k x p cause onset else s
    | none =>
      if s.justDisplaced k x && decide (1 ≤ cause ∧ cause ≤ 4) then s.failGraft k x cause s.ticks
      else if w.graft == some x && cause == 1 then s.failGraft k x 1 (s.ticksAt onset) else s

/-- The replacement that is due takes place (04 R101, R103 step 4), for a retired slice at the first boundary after READY. -/
def State.replaceDue (s : State) (k : Fin 4) : State :=
  let w := s.tw[k]
  match w.graft, w.repl.find? (fun r =>
      if r.ready then w.gstep == .ready && w.target == r.phase && decide (s.boundaryFrom (w.stepAt + 1) ≤ s.clk)
      else decide (r.due ≤ s.clk)) with
  | some g, some r => if s.towerOn k then s.replaceBy k r g else s
  | _, _ => s

/-! Self-tests (04 R88, R93). -/

/-- Whether a self-test passes: as the row says, and only with T within trim reach (04 R93; 05 R116). -/
def testPasses (t : SliceTest) : Bool :=
  t.pass && decide (-2048 ≤ t.tOfs ∧ t.tOfs ≤ 2047 ∧ -512 ≤ t.tGain ∧ t.tGain ≤ 511)

/-- A slice after the self-test of its tower (04 R88, R93): its true trims, or its failure. That self-test is no turn: the slice counts as
never measured since power-up until its first turn as the graft (DESIGN CHOICE, log entry 59). -/
def Slice.tested (v : Slice) (t : SliceTest) : Slice :=
  if testPasses t then { v with
    cause := 0, tOfs := t.tOfs, tGain := t.tGain, ofs := t.tOfs, gain := t.tGain, lastTest := none
    ofsRes := 0, gainRes := 0, timRes := 0, conv := false }
  else { v with cause := if t.cause = 0 then 5 else t.cause, lastTest := none }

/-- SLICE_FAILED for every slice that fails the self-test of its tower (04 R88, R113). -/
def State.logFailedTests (s : State) (k : Fin 4) : State :=
  (List.finRange 33).foldl (fun a x =>
    if (s.slice k x).cause = 0 then a else a.twEvent k 0x0202 sevError (some x) none (s.slice k x).cause s.ticks) s

/-- The self-test of every slice of a tower ends (04 R88): the slices that pass take phases 0 to 31 in order, the next one
becomes the graft, phases left over are filled; timing trims start at the aperture value plus the loop correction (05 R145). -/
def State.towerTest (s : State) (k : Fin 4) (tests : List SliceTest) : State :=
  let s1 := ((List.finRange 33).foldl (fun a x =>
    a.modSlice k x (fun v => v.tested (tests.getD x.val default))) s).logFailedTests k
  let ok := (List.finRange 33).filter (fun x => (s1.slice k x).cause == 0)
  let s2 := s1.modTw k (fun w => { w with
    phases := Vector.ofFn (fun p : Fin 32 => ok[p.val]?)
    graft := ok[32]?
    known := true, testing := false, repl := [], gstep := .waiting, grid := none, target := 0, lastFail := none
    phFail := Vector.replicate 32 none, paused := false, swapNow := false, undo := none, served := [], lin := none
    oos := w.oos.map (fun o => if o.fin.isNone then { o with fin := some s.clk } else o) })
  let s3 := (List.finRange 32).foldl (fun a p => match ok[p.val]? with
    | none => a.fillPhase k p
    | some x => (a.modSlice k x (fun v => { v with tim := s.timTarget k x p })).checkLimits k x) s2
  ((ok[32]?.elim s3 (fun g => s3.checkLimits k g)).modCal (fun c => { c with winFrom := Vector.replicate 4 s.clk })).syncDomains

/-- Whether a run of CAL_RUN of a kind holds the channel that a tower serves (05 R134). -/
def State.measures (s : State) (kind : Nat) (k : Fin 4) : Bool :=
  s.mr.work.any (fun w => w.code == 0x0201 && w.arg2 % 256 == kind && bitAt w.arg (chanOfTower s.mode k).val)

/-- The graft's self-test ends (04 R93). -/
def State.graftTest (s : State) (k : Fin 4) (t : SliceTest) : State :=
  let w := s.tw[k]
  match w.graft with
  | none => s
  | some g =>
    if s.stepping k && (w.gstep == .select || w.gstep == .selfTest) then
      if testPasses t then
        ((s.modSlice k g (fun v => { v with
          tOfs := t.tOfs, tGain := t.tGain, ofs := t.tOfs, gain := t.tGain, lastTest := some s.clk
          tim := s.timTarget k g w.target })).modTw k (fun v => { v with
            gstep := .shadow, stepAt := s.clk
            lin := if s.measures 4 k && curveValid t.curve && t.curve.length == 4096 then some t.curve else none })).checkLimits k g
      else (s.modSlice k g (fun v => { v with lastTest := some s.clk })).failGraft k g 5 s.ticks
    else s

/-- The graft has settled on the tower's signal (04 R93 SHADOW). -/
def State.shadowDone (s : State) (k : Fin 4) : State :=
  if s.stepping k && s.tw[k].gstep == .shadow then s.modTw k (fun v => { v with gstep := .converge, stepAt := s.clk }) else s

/-- The graft enters MATCH (04 R93): a curve that LINEARITY measured in this period comes into force and the slice is covered, with
the curve's largest deviation from identity (05 R134, R136, R137). -/
def State.enterMatch (s : State) (k : Fin 4) (g : Fin 33) : State :=
  let s1 := s.modTw k (fun v => { v with gstep := .match_, stepAt := s.clk, lin := none })
  match s.tw[k].lin with
  | none => s1
  | some v => (s1.putCurve k g v).modCal (fun c => { c with
      covered := itemPut (sliceKey k g) (maxAbs (v.zipWith (· - ·) identityCurve) : Int) c.covered })

/-- A window of CONVERGE ends (04 R94; 05 R126). -/
def State.convergeWin (s : State) (k : Fin 4) (g : Fin 33) (w : GraftWin) : State :=
  let c := s.loopCorr k s.tw[k].target
  if w.slope < 4 then
    (((s.modSlice k g (fun v => { v with
      tim := s.timTarget k g s.tw[k].target, aper := s.timTarget k g s.tw[k].target - c, conv := true })).modTw k (fun v => { v with
      waived := true })).enterMatch k g).checkLimits k g
  else
    let s1 := s.modSlice k g (fun v => { v with tim := clampInt (-500) 500 w.tim, timRes := clampInt (-32768) 32767 w.timDiff })
    if w.timDiff.natAbs ≤ s.mkey 0x0202 then
      ((s1.modSlice k g (fun v => { v with aper := v.tim - c, conv := true })).enterMatch k g).checkLimits k g
    else s1.checkLimits k g

/-- A window of MATCH or READY ends (04 R93, R94): the graft's trims stand at M; the residual M - T is recorded in 1/64 LSB and ppm. It
goes into the graft's own slice record, whose other fields are of the graft's own turn; 04 R93 can also be read as the active
slice's record (DESIGN CHOICE, log entry 13). -/
def State.matchWin (s : State) (k : Fin 4) (g : Fin 33) (w : GraftWin) : State :=
  let s1 := (s.modSlice k g (fun v => { v with
    ofs := clampInt (-2048) 2047 w.ofs, gain := clampInt (-512) 511 w.gain
    ofsRes := (clampInt (-2048) 2047 w.ofs - v.tOfs) * 4, gainRes := (clampInt (-512) 511 w.gain - v.tGain) * 20 })).checkLimits k g
  if w.meanDiff.natAbs ≤ 8 ∧ w.gainDiff.natAbs ≤ 30 ∧ s.tw[k].gstep = .match_ then
    s1.modTw k (fun v => { v with gstep := .ready, stepAt := s.clk })
  else s1

/-- A window of the graft's comparison ends (04 R94). -/
def State.graftWin (s : State) (k : Fin 4) (w : GraftWin) : State :=
  match s.tw[k].graft with
  | none => s
  | some g =>
    if !(s.stepping k) then s
    else match s.tw[k].gstep with
      | .converge => s.convergeWin k g w
      | .match_ => s.matchWin k g w
      | .ready => s.matchWin k g w
      | _ => s

/-! Records (04 R112). -/

/-- A slice's byte in the slice maps (02 R70). -/
def State.sliceByte (s : State) (k : Fin 4) (x : Fin 33) : Nat :=
  let w := s.tw[k]
  let lim := 128 * flag ((s.slice k x).atLim != 0#3)
  if (s.slice k x).cause ≠ 0 then 2 + lim
  else if !(s.sliceOn k x) then 3 + lim
  else match w.phaseOf x with
    | some p => 4 * p.val + lim
    | none => 1 + lim

/-- Filled phases of a tower. -/
def Tower.filled (w : Tower) : Nat := (w.phases.toList.filter (·.isNone)).length

/-- Failed slices of a tower. -/
def Tower.failedCount (w : Tower) : Nat := (w.slices.toList.filter (fun v => v.cause != 0)).length

/-- TW_STATE (04 R112); a tower that TW_GRAFT_ENABLE 0 holds still reads PAUSED (log entry 13). -/
def State.towerState (s : State) (k : Fin 4) : Nat :=
  let w := s.tw[k]
  if !(s.towerOn k) then 4
  else if 0 < w.filled then 3
  else if w.graft.isNone then 2
  else if w.paused || s.mkey 0x0200 == 0 then 1
  else 0

/-- The STEP code of a tower: SELECT becomes SELF_TEST after 64 ticks (04 R93). -/
def State.stepCode (s : State) (k : Fin 4) : Nat :=
  let w := s.tw[k]
  match w.gstep with
  | .select => if w.stepAt + 64 ≤ s.clk then 1 else 0
  | .selfTest => 1
  | .shadow => 2
  | .converge => 3
  | .match_ => 4
  | .ready => 5
  | .waiting => 6

/-- Seconds since a slice's last self-test, saturating; 65,535 for one never measured. -/
def State.sliceAge (s : State) (v : Slice) : Nat := v.lastTest.elim 65535 (fun a => min 65535 ((s.clk - a) / 3000000000))

/-- The tower record of GRAFT_CONTROL (04 R112). -/
def State.towerRecord (s : State) (k : Fin 4) : List Byte :=
  let w := s.tw[k]
  leBytes 1 (k.val + 1) ++ leBytes 1 (s.towerState k) ++ leBytes 1 (w.graft.elim 0xFF (·.val))
    ++ leBytes 1 (if w.graft.isSome then w.target.val else 0xFF) ++ leBytes 1 (s.stepCode k)
    ++ leBytes 1 (flag w.waived + 2 * flag w.deferred) ++ leBytes 1 w.failedCount ++ leBytes 1 w.filled
    ++ leBytes 4 w.swaps ++ leBytes 4 (w.swaps / 33) ++ leBytes 4 w.fails ++ leBytes 4 0
    ++ leBytes 8 w.lastSwap ++ leBytes 8 (w.grid.elim 0 s.ticksAt)
    ++ (List.finRange 33).map (fun x => byteOf (s.sliceByte k x)) ++ List.replicate 7 0#8
    ++ (List.finRange 33).flatMap (fun x =>
      let v := s.slice k x
      leBytes 2 (s.sliceAge v) ++ leBytes 2 (encInt 16 v.ofsRes) ++ leBytes 2 (encInt 16 v.gainRes) ++ leBytes 2 (encInt 16 v.timRes))

/-! GRAFT_CONTROL (04 R110, R111). -/

/-- The towers of the one channel a selector names. -/
def State.selTowers (s : State) (chsel : Nat) : List (Fin 4) := (selChans chsel).flatMap s.towers

/-- Whether the payload of GRAFT_CONTROL is well formed (04 R110). -/
def graftForm (n : Nat) (p : List Byte) : Bool :=
  let op := fieldAt p 0 1
  decide (op ≤ 6) && decide (fieldAt p 1 1 < n) && fieldAt p 4 4 == 0
    && (if op = 4 ∨ op = 5 then decide (fieldAt p 2 1 ≤ 32) else fieldAt p 2 1 == 0)
    && (if op = 3 then decide (fieldAt p 3 1 ≤ 31) else fieldAt p 3 1 == 0)

/-- Whether an operation is not permitted in the tower's state (04 R111). -/
def State.graftDenied (s : State) (k : Fin 4) (op : Nat) (x : Fin 33) (p : Fin 32) : Bool :=
  let w := s.tw[k]
  op != 0 && (!(s.towerOn k) || (match op with
    | 1 => w.graft.isNone || w.paused
    | 2 => !w.paused
    | 3 => w.graft.isNone || w.phases[p].isNone
    | 4 => (s.slice k x).cause != 0 || ((w.phaseOf x).isSome && w.graft.isNone)
    | 5 => (s.slice k x).cause == 0 || w.graft.isSome
    | 6 => w.gstep != .ready
    | _ => false))

/-- A slice retired by the host (04 R101, R104, R111). -/
def State.retireSlice (s : State) (k : Fin 4) (x : Fin 33) : State :=
  match s.tw[k].phaseOf x with
  | none => s.failGraft k x 7 s.ticks
  | some p =>
    ((s.modSlice k x (fun v => { v with cause := 7 })).twEvent k 0x0202 sevError (some x) (some p) 7 s.ticks).beginRetire k p x

/-- A failed slice that still serves its phase leaves it to be tested (04 R101, R111): the phase is filled (DESIGN CHOICE, log
entry 13). -/
def State.leavePhase (s : State) (k : Fin 4) (x : Fin 33) : State :=
  match s.tw[k].phaseOf x with
  | none => s
  | some p => (s.modTw k (fun w => { w with repl := w.repl.filter (fun r => r.phase != p) })).fillPhase k p

/-- A slice restored by the host after a passed self-test (04 R105, R111): it becomes the graft, which is its SELECT for a curve that waits
(05 R130), and takes the lowest filled phase; without one it turns to a slice that waits to be retired (04 R101). -/
def State.restoreSlice (s0 : State) (k : Fin 4) (x : Fin 33) (t : SliceTest) : State :=
  let s := s0.leavePhase k x
  let s1 := ((s.modSlice k x (fun v => { v.tested t with
    lastTest := some s.clk, ofsRes := v.ofsRes, gainRes := v.gainRes, timRes := v.timRes, conv := v.conv })).modTw k (fun w => { w with
      graft := some x
      target := ((w.repl.find? (·.ready)).map (·.phase)).getD w.target })).takeCurve k x
  let s2 := match (List.finRange 32).find? (fun p => s1.tw[k].phases[p].isNone) with
    | some p => s1.beginRepl k p none x
    | none => s1
  (s2.checkLimits k x).syncDomains

/-- The effect of an operation at its commit boundary (04 R111); RESTORE_SLICE of a slice that fails its test is E_HW, the fault logged
as a failed self-test (02 R45). TARGET while a
slice waits to be retired sends the graft to the phase that it names, and the retirement waits until the order comes round to its
phase (DESIGN CHOICE, log entry 13). -/
def State.graftOp (s : State) (k : Fin 4) (op : Nat) (x : Fin 33) (p : Fin 32) (t : SliceTest) : Nat × State :=
  match op with
  | 1 => (stOk, ((s.modTw k (fun w => { w with paused := true })).twEvent k 0x0206 sevNotice none none 0 s.ticks).syncRotation k)
  | 2 => (stOk, ((s.modTw k (fun w => { w with paused := false })).twEvent k 0x0206 sevNotice none none 1 s.ticks).syncRotation k)
  | 3 => (stOk, s.modTw k (fun w => if w.gstep = .waiting then { w with target := p } else { w.selectOn p s.clk with swapNow := false }))
  | 4 => (stOk, s.retireSlice k x)
  | 5 => if testPasses t then (stOk, s.restoreSlice k x t)
         else (eHw, (s.modSlice k x (fun v => { v with lastTest := some s.clk })).twEvent k 0x0202 sevError (some x)
           (s.tw[k].phaseOf x) 5 s.ticks)
  | 6 => (stOk, s.modTw k (fun w => { w with swapNow := true, stepAt := s.clk }))
  | _ => (stOk, s)

/-- GRAFT_CONTROL's own part. -/
def graftBody (t : SliceTest) : Body := fun r s =>
  let ts := s.selTowers r.chsel
  let p := r.payload
  if !(graftForm ts.length p) then fails eParam s
  else
    let k := ts.getD (fieldAt p 1 1) 0
    let op := fieldAt p 0 1
    let x : Fin 33 := Fin.ofNat 33 (fieldAt p 2 1)
    let ph : Fin 32 := Fin.ofNat 32 (fieldAt p 3 1)
    if s.graftDenied k op x ph then fails eState s
    else
      let q := (s.reach s.boundary).graftOp k op x ph t
      (.reply ⟨q.1, q.2.towerRecord k, none, 0, 0⟩, q.2)

/-- GRAFT_CONTROL (04 R111). -/
def execGraftControl (t : Nat) (mb : Fin 17) (test : SliceTest) (s : State) : Out :=
  go (s.command t mb 0x0205 (lenIs 8) (graftBody test))

/-- TOWER_SELF_TEST (04 R88): a powered tower without valid state. -/
def execTowerSelfTest (t : Nat) (tower : Fin 4) (tests : List SliceTest) (s : State) : Out :=
  let s0 := s.reach t
  go (if s0.towerOn tower && !s0.tw[tower].known then s0.towerTest tower tests else s0)

/-- GRAFT_SELF_TEST (04 R93). -/
def execGraftSelfTest (t : Nat) (tower : Fin 4) (test : SliceTest) (s : State) : Out := go ((s.reach t).graftTest tower test)

/-- GRAFT_SHADOW_SETTLED (04 R93). -/
def execGraftShadowSettled (t : Nat) (tower : Fin 4) (s : State) : Out := go ((s.reach t).shadowDone tower)

/-- GRAFT_WINDOW (04 R94). -/
def execGraftWindow (t : Nat) (tower : Fin 4) (w : GraftWin) (s : State) : Out := go ((s.reach t).graftWin tower w)

/-- SWAP (04 R95, R97). -/
def execSwap (t : Nat) (tower : Fin 4) (s : State) : Out := go ((s.reach t).swapTick tower)

/-- SLICE_FAILURE (04 R99). -/
def execSliceFailure (t : Nat) (tower : Fin 4) (slice : Fin 33) (cause onset : Nat) (s : State) : Out :=
  go ((s.reach t).sliceFails tower slice cause onset)

/-- SLICE_REPLACEMENT (04 R103). -/
def execSliceReplacement (t : Nat) (tower : Fin 4) (s : State) : Out := go ((s.reach t).replaceDue tower)

/-- TRIM_RAMP_STEP (05 R118). -/
def execTrimRampStep (t : Nat) (e : RampElem) (s : State) : Out := go ((s.reach t).rampStep e)

end Sys2Proof.Machine
end

