-- ==== Sys2Proof/Machine/Calib.lean ====
section
/-!
DEFINITION. Trims, curves and calibration (05): the working set, LOAD_CURVE, CAL_RUN, the banks, the timing-skew loop.
-/

namespace Sys2Proof.Machine

/-! The working set (05 R114, R146). -/

/-- The working set with pending items at their pending values (05 R141). -/
def Cal.full (c : Cal) : WorkSet :=
  { c.ws with
    curves := itemsPut c.pendCurves c.ws.curves
    eqs := itemsPut c.pendEqs c.ws.eqs
    delays := itemsPut c.pendDelays c.ws.delays
    fe := itemsPut c.pendFe c.ws.fe }

/-- Whether two working sets differ in an item other than aperture values and loop corrections (05 R137). -/
def WorkSet.differs (a b : WorkSet) : Bool :=
  (itemKeys a.curves b.curves).any (fun k => a.curve k != b.curve k)
    || (itemKeys a.eqs b.eqs).any (fun k => a.eq k != b.eq k)
    || (itemKeys a.delays b.delays).any (fun k => a.delay k != b.delay k)
    || (itemKeys a.fe b.fe).any (fun k => a.feDelay k != b.feDelay k)
    || (itemKeys a.corrs b.corrs).any (fun k => (itemGet a.corrs k).getD ⟨0, 0⟩ != (itemGet b.corrs k).getD ⟨0, 0⟩)

/-- One bank. -/
def Cal.bank (c : Cal) (b : Fin 2) : Bank := if b = 0 then c.bank0 else c.bank1

/-- Change one bank. -/
def Cal.setBank (c : Cal) (b : Fin 2) (v : Bank) : Cal := if b = 0 then { c with bank0 := v } else { c with bank1 := v }

/-- The bank a store writes: the one that is not active; bank 0 when none is active (05 R141; log entry 14). -/
def Cal.inactive (c : Cal) : Fin 2 := c.active.elim 0 (fun a => if a = 0 then 1 else 0)

/-- The sequence number of the active bank, 0 when none. -/
def Cal.seq (c : Cal) : Nat := c.active.elim 0 (fun a => (c.bank a).seq)

/-- DATA of a bank event (05 R148). -/
def bankData (b : Fin 2) (reason seq : Nat) : List Byte :=
  leBytes 1 b.val ++ leBytes 1 reason ++ [0#8, 0#8] ++ leBytes 4 seq ++ leBytes 4 0

/-- The range in force of an input (03 R75). -/
def State.feRange (s : State) (i : Fin 4) : Nat := s.ckey 0x0100 i

/-- o_r and g_r of an input take the values of the range in force in one step (05 R132). -/
def State.jumpRange (s : State) (i : Fin 4) : State :=
  let c := s.cal.ws.corr i (s.feRange i)
  (s.jumpTo (.rangeOfs i) c.o).jumpTo (.rangeGain i) c.g

/-- o_r and g_r ramp to the values of the range in force (05 R132). -/
def State.rampRange (s : State) (i : Fin 4) (b : Nat) : State :=
  let c := s.cal.ws.corr i (s.feRange i)
  (s.rampTo (.rangeOfs i) c.o b).rampTo (.rangeGain i) c.g b

/-- o_u and g_u ramp to the values of their keys (05 R132). -/
def State.rampUser (s : State) (i : Fin 4) (b : Nat) : State :=
  (s.rampTo (.userOfs i) (s.ikey 32 0x0310 (i.val + 1)) b).rampTo (.userGain i) (s.ikey 32 0x0311 (i.val + 1)) b

/-- Change items of the working set that samples pass through; the earlier set stays known. -/
def State.modWs (s : State) (g : WorkSet → WorkSet) : State :=
  s.modCal (fun c => { c with ws := g c.ws, wsHist := (s.clk, c.ws) :: c.wsHist })

/-! What waits for ARMING (05 R130, R147). -/

/-- Whether a mode-major key of a tower phase belongs to a tower of channel `c` in the mode in force. -/
def State.eqKeyOf (s : State) (c : Fin 4) (k : Nat) : Bool :=
  k / 128 == s.mode && (s.towers c).any (fun t => t.val == k % 128 / 32)

/-- Whether a slice key belongs to a tower of channel `c`. -/
def State.sliceKeyOf (s : State) (c : Fin 4) (k : Nat) : Bool := (s.towers c).any (fun t => t.val == k / 33)

/-- What a channel that passes ARMING takes into force (05 R130, R147). -/
def State.armCal (s : State) (c : Fin 4) : State :=
  let eqs := s.cal.pendEqs.filter (fun e => s.eqKeyOf c e.1)
  let cvs := s.cal.pendCurves.filter (fun e => (s.towers c).any (fun t => t.val == e.1 / 33 && s.tw[t].graft.isNone))
  let dls := s.cal.pendDelays.filter (fun e => e.1 / 4 == s.mode && (s.towers c).any (fun t => t.val == e.1 % 4))
  let fes := s.cal.pendFe.filter (fun e => e.1 / 7 % 3 == s.mode && e.1 / 21 == c.val)
  (s.modWs (fun w => { w with
    eqs := itemsPut eqs w.eqs, curves := itemsPut cvs w.curves, delays := itemsPut dls w.delays, fe := itemsPut fes w.fe })).modCal
      (fun k => { k with
    pendEqs := k.pendEqs.filter (fun e => !(eqs.any (fun q => q.1 == e.1)))
    pendCurves := k.pendCurves.filter (fun e => !(cvs.any (fun q => q.1 == e.1)))
    pendDelays := k.pendDelays.filter (fun e => !(dls.any (fun q => q.1 == e.1)))
    pendFe := k.pendFe.filter (fun e => !(fes.any (fun q => q.1 == e.1))) })

/-! LOAD_CURVE (05 R128–R130). -/

/-- The s16 entries of a curve's bytes. -/
def curveOf (bs : List Byte) : List Int := (List.range 4096).map (fun i => decInt 16 (fieldAt bs (2 * i) 2))

/-- The s32 coefficients of a set's bytes. -/
def eqOf (bs : List Byte) : List Int := (List.range 16).map (fun i => decInt 32 (fieldAt bs (4 * i) 4))

/-- Whether every coefficient lies in the 18-bit range (04 R109). -/
def eqValid (l : List Int) : Bool := l.all (fun v => decide (-131072 ≤ v ∧ v ≤ 131071))

/-- Whether a LOAD_CURVE payload is well formed (05 R128, R129). -/
def curveForm (towers : Nat) (p : List Byte) : Bool :=
  let tb := fieldAt p 0 1
  decide (tb ≤ 1) && fieldAt p 3 1 == 0 && fieldAt p 6 2 == 0 && bulkOk p 8
    && (if tb = 0 then decide (fieldAt p 1 1 < towers) && decide (fieldAt p 2 1 ≤ 32) && fieldAt p 4 2 == 0 && (bulkRef p 8).2.1 == 8192
        else fieldAt p 1 1 == 0 && fieldAt p 2 1 == 0 && decide (fieldAt p 4 2 < 32 * towers) && (bulkRef p 8).2.1 == 64)

/-- Whether accepted CAL_RUN work holds a channel (05 R135). -/
def State.calHeld (s : State) (c : Fin 4) : Bool := s.mr.work.any (fun w => w.code == 0x0201 && bitAt w.arg c.val)

/-- Whether a slice is active as 05 R130 means it: it serves a phase, has not failed and is powered. -/
def State.curveActive (s : State) (k : Fin 4) (x : Fin 33) : Bool :=
  (s.tw[k].phaseOf x).isSome && (s.slice k x).cause == 0 && s.sliceOn k x

/-- Load a curve of slice `x` of tower `k`; the answer is WHEN (05 R130). -/
def State.loadCurve (s : State) (c k : Fin 4) (x : Fin 33) (v : List Int) : Nat × State :=
  if s.curveActive k x && s.running c then
    (if s.tw[k].graft.isSome then 1 else 2, s.modCal (fun q => { q with pendCurves := itemPut (sliceKey k x) v q.pendCurves }))
  else
    let s1 := s.putCurve k x v
    (0, if s.tw[k].graft == some x && s.stepping k then s1.modTw k (fun w => w.selectOn w.target s.clk) else s1)

/-- Load an equaliser set of a channel phase (05 R130). -/
def State.loadEq (s : State) (c : Fin 4) (q : Nat) (v : List Int) : Nat × State :=
  let kp := s.phaseOfChan c q
  let key := phaseKey s.mode kp.1 kp.2
  if s.running c then (2, s.modCal (fun d => { d with pendEqs := itemPut key v d.pendEqs }))
  else (0, (s.modWs (fun w => { w with eqs := itemPut key v w.eqs })).modCal (fun d => { d with
    pendEqs := d.pendEqs.filter (fun e => e.1 != key) }))

/-- LOAD_CURVE's own part. -/
def loadCurveBody (bulk : Bulk) : Body := fun r s =>
  let p := r.payload
  let ts := s.selTowers r.chsel
  let c := (selChans r.chsel).headD 0
  if !(curveForm ts.length p) then fails eParam s
  else
    let isEq := fieldAt p 0 1 == 1
    let data := bulkBytes p 8 bulk
    if data.elim false (fun bs => if isEq then !(eqValid (eqOf bs)) else !(curveValid (curveOf bs))) then fails eParam s
    else if s.calHeld c then fails eBusy s
    else match data with
      | none => failsRead r s
      | some bs =>
        let q := if isEq then s.loadEq c (fieldAt p 4 2) (eqOf bs)
          else s.loadCurve c (ts.getD (fieldAt p 1 1) 0) (Fin.ofNat 33 (fieldAt p 2 1)) (curveOf bs)
        answers (leBytes 1 q.1 ++ List.replicate 7 0#8) q.2

/-! CAL_RUN (05 R133–R136). -/

/-- Whether a kind runs on stopped channels with the comb (05 R134). -/
def combKind (k : Nat) : Bool := k == 0 || k == 1 || k == 2 || k == 5

/-- Whether the state of the selected channels permits a kind (05 R134). -/
def State.calMay (s : State) (kind : Nat) (cs : List (Fin 4)) : Bool :=
  if combKind kind then cs.all (fun c => !(s.running c))
  else if kind = 3 then (cs.flatMap s.towers).any s.towerOn
  else (cs.flatMap s.towers).any s.rotates

/-- Forget what earlier runs of kinds 3 and 4 covered of the slices of the selected channels. -/
def State.uncover (s : State) (sel : Nat) : State :=
  s.modCal (fun c => { c with
    covered := c.covered.filter (fun e => !((selChans sel).any (fun i => (s.towers i).any (fun t => t.val == e.1 / 33)))) })

/-- CAL_RUN's own part. Kinds 3 and 4 without the tower they need end with E_STATE; 05 R134 names no status for that (DESIGN CHOICE,
log entry 14). -/
def calRunBody : Body := fun r s =>
  let kind := fieldAt r.payload 0 1
  let ranges := fieldAt r.payload 1 1
  let cs := selChans r.chsel
  if !(decide (kind ≤ 5)) || (if kind = 0 ∨ kind = 5 then ranges == 0 else ranges != 0) || !(allZero (r.payload.drop 2)) then
    fails eParam s
  else if !(s.calMay kind cs) then fails eState s
  else if cs.any s.calHeld then fails eBusy s
  else if s.workFull then fails eNores s
  else if combKind kind && cs.any (fun c => s.ckey 0x0103 c != 0) then fails eConflict s
  else accepted ((s.uncover r.chsel).addWork r r.chsel (kind + 256 * ranges))

/-- Whether an index of kind 0's results is one that the work measures. -/
def corrWanted (sel ranges : Nat) (k : Nat) : Bool := bitAt sel (k / 8) && bitAt ranges (k % 8)

/-- Whether a tower delay is one that the work measures: of a tower of a selected channel, for the mode in force. -/
def State.delayWanted (s : State) (sel k : Nat) : Bool :=
  k / 4 == s.mode && (selChans sel).any (fun c => (s.towers c).any (fun t => t.val == k % 4))

/-- Whether an equaliser set is one that the work measures. -/
def State.eqWanted (s : State) (sel k : Nat) : Bool := (selChans sel).any (fun c => s.eqKeyOf c k)

/-- Whether a front-end delay is one that the work measures. -/
def State.feWanted (s : State) (sel k : Nat) : Bool := k / 7 % 3 == s.mode && bitAt sel (k / 21)

/-- The static results enter the working set together and come into force (05 R136). -/
def State.staticResults (s : State) (kind sel ranges : Nat) (r : CalResult) : State :=
  let on (k : Nat) : Bool := kind == k || kind == 5
  let corrs : List (Nat × Corr) := if on 0 then
    (r.corrs.filter (fun e => corrWanted sel ranges e.1)).map (fun e => (e.1, ⟨e.2.1, e.2.2⟩)) else []
  let s1 := s.modWs (fun w => { w with
    corrs := itemsPut corrs w.corrs
    delays := if on 1 then itemsPut (r.delays.filter (fun e => s.delayWanted sel e.1)) w.delays else w.delays
    eqs := if on 1 then itemsPut (r.eqs.filter (fun e => s.eqWanted sel e.1)) w.eqs else w.eqs
    fe := if on 2 then itemsPut (r.fe.filter (fun e => s.feWanted sel e.1)) w.fe else w.fe })
  if on 0 then (selChans sel).foldl (fun a i => a.jumpRange i) s1 else s1

/-- The slices a run of kind 3 or 4 must cover: the active ones of the selected towers. -/
def State.toCover (s : State) (sel : Nat) : List (Fin 4 × Fin 33) :=
  ((selChans sel).flatMap s.towers).flatMap (fun k =>
    ((List.finRange 33).filter (fun x => (s.tw[k].phaseOf x).isSome)).map (fun x => (k, x)))

/-- Whether a slice counts as covered (05 R136): kind 4 never covers a slice of a tower without a graft. -/
def State.isCovered (s : State) (kind : Nat) (e : Fin 4 × Fin 33) : Bool :=
  s.cal.covered.any (fun v => v.1 == sliceKey e.1 e.2) && (kind != 4 || s.tw[e.1].graft.isSome)

/-- Whether SLICE_ONLINE has measured a slice: four windows, those aside in which the statistics check was suspended (05 R134). -/
def fitDone (f : SliceFit) : Bool := decide (4 ≤ (f.wins.filter (fun w => !w.1)).length)

/-- Whether it has measured the slice's gain: not in windows in which the rms of the tower was below 64 LSB (05 R134). -/
def fitGains (f : SliceFit) : Bool := f.wins.any (fun w => !w.1 && decide (64 ≤ w.2))

/-- One slice's result of SLICE_ONLINE enters (05 R134, R136): new trims T, to which the trims ramp. -/
def State.enterFit (s : State) (sel : Nat) (f : SliceFit) : State :=
  match (s.toCover sel).find? (fun e => sliceKey e.1 e.2 == f.slice) with
  | none => s
  | some e =>
    if !(fitDone f) || !(s.towerOn e.1) then s
    else
      let o := clampInt (-2048) 2047 f.ofs
      let g := if fitGains f then clampInt (-512) 511 f.gain else (s.slice e.1 e.2).tGain
      let s1 := (s.modSlice e.1 e.2 (fun x => { x with tOfs := o, tGain := g })).modCal (fun c => { c with
        covered := itemPut f.slice ((o - (s.slice e.1 e.2).tOfs).natAbs : Int) c.covered })
      (s1.rampTo (.ofs e.1 e.2) o s.boundary).rampTo (.gain e.1 e.2) g s.boundary

/-- Whether every result lies within its limit: tower delays in their reach of 10 bits, equaliser sets of 16 coefficients in range
(04 R108, R109; 05 R131, R136). -/
def calOk (r : CalResult) : Bool :=
  r.inRange && r.delays.all (fun e => decide (0 ≤ e.2 ∧ e.2 ≤ 1023)) && r.eqs.all (fun e => e.2.length == 16 && eqValid e.2)
    && r.corrs.all (fun e => decide (e.2.1.natAbs ≤ 1024 ∧ e.2.2.natAbs ≤ 50000))

/-- What a run's end brings: the state, the final status and the coverage in percent (05 R136). The percentage is rounded down, and is 0
where the selected towers have no active slice; the spec states neither (DESIGN CHOICE, log entry 14). -/
def State.calResults (s : State) (kind sel ranges : Nat) (r : CalResult) : State × Nat × Nat :=
  if combKind kind then
    if calOk r then (s.staticResults kind sel ranges r, stOk, 100) else (s, eHw, 0)
  else
    let all := s.toCover sel
    let got := all.filter (s.isCovered kind)
    (s, if got.length = all.length then stOk else eDegraded, if all.isEmpty then 0 else got.length * 100 / all.length)

/-- RESIDUAL of a run of work on channels `sel` that wrote its results (05 R137): figures of what it wrote, or the measured
interleave image. -/
def State.calResidual (s : State) (kind sel ranges : Nat) (r : CalResult) : Int :=
  match kind with
  | 0 => maxAbs ((r.corrs.filter (fun e => corrWanted sel ranges e.1)).map (·.2.2))
  | 2 => maxAbs ((r.fe.filter (fun e => s.feWanted sel e.1)).map (fun e => e.2 - s.cal.ws.feDelay e.1))
  | 3 => maxAbs (((s.toCover sel).filter (s.isCovered kind)).map (fun e => itemAt s.cal.covered (sliceKey e.1 e.2)))
  | 4 => maxAbs (((s.toCover sel).filter (s.isCovered kind)).map (fun e => itemAt s.cal.covered (sliceKey e.1 e.2)))
  | _ => r.residual

/-- The CAL_RUN work that holds a channel; at most one does (05 R135). -/
def Work.calOf (c : Fin 4) (w : Work) : Bool := w.code == 0x0201 && bitAt w.arg c.val

/-- CAL_RUN work of a channel ends (05 R136, R137). The slices of kind 3 may enter before the end, in rows that do not end the run;
those of kind 4 enter at MATCH. -/
def State.calRunEnd (s : State) (c : Fin 4) (r : CalResult) : State :=
  match s.mr.work.find? (Work.calOf c) with
  | none => s
  | some w =>
    let kind := w.arg2 % 256
    let s0 := if kind = 3 then r.fits.foldl (fun a f => a.enterFit w.arg f) s else s
    if !r.final && !(combKind kind) then s0
    else
      let q := s0.calResults kind w.arg (w.arg2 / 256) r
      let run : RunRec := ⟨s.ticksAt w.since, q.2.1, q.2.2, if q.2.1 = eHw then 0 else s0.calResidual kind w.arg (w.arg2 / 256) r⟩
      let s1 := q.1.modCal (fun d => { d with runs := d.runs.set (kind % 6) run (Nat.mod_lt _ (by decide)) })
      (s1.uncover w.arg).endWorkIf (Work.calOf c) q.2.1 (kind + 256 * q.2.2)

/-! CAL_STATUS (05 R137). -/

/-- The integer square root, by bits from `i - 1` down. -/
def isqrt (n : Nat) : Nat → Nat → Nat
  | 0, r => r
  | i + 1, r => if (r + 2 ^ i) * (r + 2 ^ i) ≤ n then isqrt n i (r + 2 ^ i) else isqrt n i r

/-- The rms of timing errors kept in 1/256 fs, in fs, rounded down (05 R137; log entry 14). -/
def skewRms (l : List Int) : Nat :=
  if l.isEmpty then 0 else min 65535 (isqrt ((l.map (fun d => d.natAbs * d.natAbs)).sum / l.length) 40 0 / 256)

/-- The phases of a channel as tower and phase. -/
def State.chanPhases (s : State) (c : Fin 4) : List (Fin 4 × Fin 32) :=
  (List.range (32 * (s.towers c).length)).map (s.phaseOfChan c)

/-- The slices of a channel's towers. -/
def State.chanSlices (s : State) (c : Fin 4) : List (Fin 4 × Fin 33) :=
  (s.towers c).flatMap (fun k => (List.finRange 33).map (fun x => (k, x)))

/-- The 136 bytes of CAL_STATUS. SKEW_WINDOWS and SKEW_HELD count the windows of every loop of the module, and WS_FLAGS[0] reads 0
while no bank is active; 05 R137 leaves both open (DESIGN CHOICE, log entry 14). -/
def State.calStatus (s : State) (c : Fin 4) : List Byte :=
  let k := s.cal
  let other := k.active.elim 0 (fun a => let b := k.bank (if a = 0 then 1 else 0); if b.valid then b.seq else 0)
  let differs := k.active.elim false (fun a => k.full.differs (k.bank a).data)
  leBytes 1 (k.active.elim 0xFF (·.val)) ++ leBytes 1 (flag k.bank0.valid + 2 * flag k.bank1.valid)
    ++ leBytes 1 (flag differs + 2 * flag k.active.isNone + 4 * flag k.storing.isSome) ++ leBytes 1 (s.mkey 0x0301)
    ++ leBytes 4 k.seq ++ leBytes 4 other ++ leBytes 8 (k.active.elim 0 (fun a => (k.bank a).ticks))
    ++ leBytes 2 (k.pendCurves.filter (fun e => s.sliceKeyOf c e.1)).length
    ++ leBytes 2 (k.pendEqs.filter (fun e => s.eqKeyOf c e.1)).length
    ++ leBytes 4 k.windows ++ leBytes 4 k.held ++ leBytes 2 (skewRms k.deltas[c])
    ++ leBytes 2 (((s.chanPhases c).map (fun e => (s.loopCorr e.1 e.2).natAbs)).foldl max 0)
    ++ leBytes 2 ((s.chanSlices c).filter (fun e => (s.slice e.1 e.2).atLim != 0#3)).length
    ++ leBytes 2 ((s.chanSlices c).filter (fun e => s.sliceRamps e.1 e.2)).length
    ++ k.runs.toList.flatMap (fun r =>
      leBytes 8 r.ticks ++ leBytes 2 r.status ++ leBytes 1 r.cover ++ [0#8] ++ leBytes 4 (encInt 32 r.residual))

/-- CAL_STATUS's own part. -/
def calStatusBody : Body := fun r s => answers (s.calStatus ((selChans r.chsel).headD 0)) s

/-! Banks (05 R138–R147). -/

/-- The working set as a bank would store it: aperture values come from the slices. -/
def State.workSet (s : State) : WorkSet :=
  { s.cal.full with aper := ([0, 1, 2, 3] : List (Fin 4)).flatMap (fun k =>
      (List.finRange 33).map (fun x => (sliceKey k x, (s.slice k x).aper))) }

/-- Extend a measurement register with 64 bytes (19 R464). -/
def State.extendMeas (s : State) (i : Fin 8) (d : List Byte) : State :=
  s.modFw (fun f => { f with meas := f.meas.set i.val (extendReg f.meas[i] d) })

/-- Extend register 4 with the digest of the bank in force (19 R464). -/
def State.extendCal (s : State) : State :=
  s.extendMeas 4 (s.cal.active.elim (List.replicate 64 0#8) (fun b => padTo 64 (s.cal.bank b).digest))

/-- CAL_COMMIT's own part (05 R141, R142). -/
def calCommitBody : Body := fun r s =>
  if s.working 0x0203 || s.working 0x0901 then fails eBusy s
  else if s.workFull || decide (0xFFFFFFFF ≤ s.cal.seq) then fails eNores s
  else
    let b := s.cal.inactive
    let old := s.cal.bank b
    accepted ((s.addWork r 0 0).modCal (fun c => { (c.setBank b old.erased) with
      storing := some (b, s.workSet, s.ticks) }))

/-- The store ends (05 R141). CAL_STORE_FAILED carries the SEQ that the store would have written; 05 R148 does not say which (DESIGN
CHOICE, log entry 14). -/
def State.storeDone (s : State) (ok : Bool) : State :=
  match s.cal.storing with
  | none => s
  | some (b, data, at_) =>
    let seq := s.cal.seq + 1
    if ok then
      let s1 := s.modCal (fun c => { c.setBank b (storedBank seq at_ s.fw.bootCount data) with
        active := some b, storing := none })
      (s1.extendCal.logEv 0x0304 sevNotice 0 (bankData b 0 seq)).endWork 0x0203 stOk 0
    else
      ((s.modCal (fun c => { c with storing := none })).logEv 0x0305 sevError 0 (bankData b 0 seq)).endWork 0x0203 eHw 0

/-- Whether the channel that a tower serves runs. -/
def State.towerRuns (s : State) (k : Fin 4) : Bool := s.running (chanOfTower s.mode k)

/-- Whether a key of a curve belongs to an active slice of a running channel (05 R130, R147). -/
def State.curveWaits (s : State) (key : Nat) : Bool :=
  let k : Fin 4 := Fin.ofNat 4 (key / 33)
  s.towerRuns k && s.curveActive k (Fin.ofNat 33 (key % 33))

/-- Whether a phase key belongs to a running channel in the mode in force. -/
def State.eqWaits (s : State) (key : Nat) : Bool := key / 128 == s.mode && s.towerRuns (Fin.ofNat 4 (key % 128 / 32))

/-- Whether a tower-delay key belongs to a running channel. -/
def State.delayWaits (s : State) (key : Nat) : Bool := key / 4 == s.mode && s.towerRuns (Fin.ofNat 4 (key % 4))

/-- Whether a front-end-delay key belongs to a running channel. -/
def State.feWaits (s : State) (key : Nat) : Bool := key / 7 % 3 == s.mode && s.running (Fin.ofNat 4 (key / 21))

/-- What waits and what is taken of a list of items: those that wait keep their old value and go to the pending list. -/
def splitItems {α : Type} [DecidableEq α] (waits : Nat → Bool) (old new : Nat → α) (l m : List (Nat × α)) :
    List (Nat × α) × List (Nat × α) :=
  let ks := (itemKeys l m).filter (fun k => waits k && decide (old k ≠ new k))
  let pend := ks.map (fun k => (k, new k))
  (itemsPut (ks.map (fun k => (k, old k))) m, pend)

/-- Bring a working set into force (05 R144, R147); a graft whose curve changes restarts at SELECT (05 R130). -/
def State.takeWs (s : State) (d : WorkSet) : State :=
  let o := s.cal.ws
  let cv := splitItems s.curveWaits o.curve d.curve o.curves d.curves
  let eq := splitItems s.eqWaits o.eq d.eq o.eqs d.eqs
  let dl := splitItems s.delayWaits o.delay d.delay o.delays d.delays
  let fe := splitItems s.feWaits o.feDelay d.feDelay o.fe d.fe
  let s1 := s.modCal (fun c => { c with
    ws := { d with curves := cv.1, eqs := eq.1, delays := dl.1, fe := fe.1 }, wsHist := (s.clk, o) :: c.wsHist, metLoop := []
    pendCurves := cv.2, pendEqs := eq.2, pendDelays := dl.2, pendFe := fe.2 })
  let b := s.boundary
  let s2 := ([0, 1, 2, 3] : List (Fin 4)).foldl (fun a k =>
    (List.finRange 33).foldl (fun a x =>
      let a1 := a.modSlice k x (fun v => { v with aper := itemAt d.aper (sliceKey k x) })
      match s.tw[k].phaseOf x with
      | none => a1
      | some p => if s.towerRuns k then a1.retime k x p b else a1.timeNow k x p) a) s1
  let s3 := ([0, 1, 2, 3] : List (Fin 4)).foldl (fun a k => match s.tw[k].graft with
    | none => a
    | some g => if s.stepping k && o.curve (sliceKey k g) != d.curve (sliceKey k g) then
        a.modTw k (fun w => w.selectOn w.target s.clk) else a) s2
  allCh.foldl (fun a i => if s.running i then a.rampRange i b else a.jumpRange i) s3

/-- The commit record of bank `b` is erased and rewritten with SEQ one above the active bank's, and that bank is active (05 R144). The
rewriting goes on in the flash for a time of which the spec gives the bound: a free value (log entry 14). -/
def State.rewriteRecord (s : State) (b : Fin 2) : State :=
  let until_ := s.clk + (Config.rewriteTicks s.freeCtr).toNat % 1500000001
  (s.modCal (fun q => { q.setBank b { q.bank b with commit := some (commitRec (q.seq + 1) (q.bank b).ticks ((q.bank b).commit.elim 0 (·.boot))) } with
    active := some b, rewriting := some (b, until_) })).setFreeCtr (s.freeCtr + 1)

/-- The banks as a loss of power leaves them (05 R143, R144): a store or a rewriting that it breaks off leaves the record erased or partly
programmed, or, once step 5 is done, the new bank. -/
def State.banksAfterLoss (s : State) : Bank × Bank :=
  let step := (Config.storeStep s.freeCtr).toNat
  let c : Cal := match s.cal.storing with
    | none => s.cal
    | some (b, data, at_) => s.cal.setBank b
        (if step = 0 then (s.cal.bank b).erased
         else if step = 1 then partBank (s.cal.seq + 1) at_ s.fw.bootCount data
         else storedBank (s.cal.seq + 1) at_ s.fw.bootCount data)
  let d : Cal := match s.cal.rewriting with
    | none => c
    | some (b, t) => if t ≤ s.clk then c else c.setBank b
        (if step = 1 then { c.bank b with commit := (c.bank b).commit.map (fun r => { r with check := none }) } else (c.bank b).erased)
  (d.bank0, d.bank1)

/-- CAL_REVERT's own part (05 R144). -/
def calRevertBody : Body := fun r s =>
  let src := fieldAt r.payload 0 1
  let c := s.cal
  if !(decide (src ≤ 1)) || !(allZero (r.payload.drop 1)) then fails eParam s
  else if (if src = 0 then c.active.isNone else c.active.isNone || !(c.bank c.inactive).valid) then fails eState s
  else if s.working 0x0203 || s.working 0x0201 || s.working 0x0901 then fails eBusy s
  else if 0xFFFFFFFF ≤ c.seq then fails eNores s
  else
    let b : Fin 2 := if src = 0 then c.active.getD 0 else c.inactive
    let s1 := if src = 0 then s else s.rewriteRecord b
    let s2 := s1.takeWs (c.bank b).data
    answers [] (s2.extendCal.logEv 0x0306 sevNotice 0 (bankData b 0 (s1.cal.bank b).seq))

/-- Calibration is selected at start-up (05 R145): invalid banks that hold a record are logged, the valid bank of higher SEQ
is loaded, or the factory defaults. CAL_NO_BANK carries bank 0; 05 R148 does not say which (DESIGN CHOICE, log entry 14). -/
def State.selectCal (s : State) : State :=
  let bad (a : State) (b : Fin 2) : State :=
    let k := a.cal.bank b
    match k.commit, k.fault with
    | some r, some why => a.logEv 0x0302 sevWarning 0 (bankData b why r.seq)
    | _, _ => a
  let s1 := bad (bad s 0) 1
  let v0 := s.cal.bank0.valid
  let v1 := s.cal.bank1.valid
  let pick : Option (Fin 2) :=
    if v0 && (!v1 || decide (s.cal.bank1.seq ≤ s.cal.bank0.seq)) then some 0 else if v1 then some 1 else none
  let data := pick.elim WorkSet.factory (fun b => (s.cal.bank b).data)
  let s2 := (s1.modCal (fun c => { c with active := pick, pendCurves := [], pendEqs := [], pendDelays := [], pendFe := [] })).takeWs data
  match pick with
  | none => s2.logEv 0x0303 sevCritical 0 (bankData 0 0 0)
  | some b => s2.logEv 0x0301 sevInfo 0 (bankData b 0 (s.cal.bank b).seq)

/-! The timing-skew loop (05 R122–R125). -/

/-- The timing error of a phase in 1/256 fs (05 R122). -/
def skewDelta (spt a b : Nat) : Int := divHalfAway (256000000 * ((a : Int) - b)) (6 * spt * (a + b))

/-- The update of a phase's correction (05 R123). -/
def skewChange (spt stepMax a b : Nat) : Int :=
  -(clampInt (-(stepMax : Int)) stepMax (divHalfAway (1000000 * ((a : Int) - b)) (48 * spt * (a + b))))

/-- The corrections of a channel's phases after a window (05 R123, R125): updated, freed of their mean, limited; each with
whether it met its limit. The limit of ±250 acts on the update and again after the mean is removed; 05 R125 does not say which
(DESIGN CHOICE, log entry 14). -/
def skewStep (spt stepMax : Nat) (cs : List Int) (est : List (Option (Nat × Nat))) : List (Int × Bool) :=
  let lim (v : Int) : Int := clampInt (-250) 250 v
  let up := (cs.zip (est ++ List.replicate cs.length none)).map (fun p => match p.2 with
    | some (a, b) => if a + b = 0 then (p.1, false)
        else let v := p.1 + skewChange spt stepMax a b; (lim v, lim v != v)
    | none => (p.1, false))
  let m := divHalfToZero (up.map (·.1)).sum (max 1 up.length)
  up.map (fun p => (lim (p.1 - m), p.2 || lim (p.1 - m) != p.1 - m))

/-- The new timing errors of a channel, those of phases without an estimate standing. -/
def skewDeltas (spt : Nat) (n : Nat) (old : List Int) (est : List (Option (Nat × Nat))) : List Int :=
  (List.range n).map (fun i => match est.getD i none with
    | some (a, b) => if a + b = 0 then old.getD i 0 else skewDelta spt a b
    | none => old.getD i 0)

/-- One phase's new correction and timing target, and whether its update met the limit (05 R123, R125). -/
def State.setLoop (s : State) (k : Fin 4) (p : Fin 32) (c : Int × Bool) (b : Nat) : State :=
  let key := phaseKey s.mode k p
  let s1 := s.modCal (fun q => { q with
    ws := { q.ws with loop := itemPut key c.1 q.ws.loop }
    metLoop := (if c.2 then [key] else []) ++ q.metLoop.filter (· != key) })
  match s.tw[k].phases[p] with
  | none => s1
  | some x => if s.loopCorr k p != c.1 then s1.retime k x p b else s1.checkLimits k x

/-- Valid samples of each phase that a window needs (04 R94; 05 R122). -/
def skewLen : Nat := 4194304

/-- Whether sample `i` of a stream is valid: neither settling nor clipped (04 R94). -/
def State.skewValid (s : State) (c : Fin 4) (g : Stream) (i : Nat) : Bool :=
  let x := s.sampleOf c (s.feUnits c (s.ckey 0x0102 c)) g i
  !x.settling && !x.clipped

/-- The squared step between two successive samples after the linearity curve. -/
def State.stepSq (s : State) (c : Fin 4) (g : Stream) (i : Nat) : Nat := (s.linear c g (i + 1) - s.linear c g i).natAbs ^ 2

/-- The indexes of a window's valid samples: the codes begin eight samples before the window and end eight after it. -/
def State.skewIndexes (s : State) (c : Fin 4) (g : Stream) : List Nat :=
  ((List.range (g.codes.length - 2 * eqReach)).map (fun i => i + eqReach)).filter (s.skewValid c g)

/-- Those of channel phase `q`, as many as the window needs. -/
def State.phaseIndexes (s : State) (c : Fin 4) (g : Stream) (q : Nat) : List Nat :=
  ((s.skewIndexes c g).filter (fun i => (s.tickPhase (s.streamAt g i)).2 == q)).take skewLen

/-- The stream of a window's codes, whose first sample is the first of slice-clock tick `tick`. -/
def State.skewStream (s : State) (tick : Nat) (codes : Codes) : Stream :=
  ⟨((tick * fineUnit : Nat) : Int) - ((eqReach * samplePeriod s.mode : Nat) : Int), codes⟩

/-- Whether the channel's signal meets the slope condition: an rms step of at least 4 LSB (05 R124). -/
def State.skewSlope (s : State) (c : Fin 4) (g : Stream) : Bool :=
  let is := s.skewIndexes c g
  decide (0 < is.length ∧ 4096 * is.length ≤ (is.map (fun i => s.stepSq c g (i - 1))).sum)

/-- Whether a channel phase was swapped, replaced or filled since tick `from_` (05 R124). -/
def State.disturbed (s : State) (c : Fin 4) (q from_ : Nat) : Bool :=
  let kp := s.phaseOfChan c q
  let w := s.tw[kp.1]
  w.phases[kp.2].isNone || w.served.any (fun e => e.2.1 == kp.2 && decide (from_ ≤ e.1))

/-- A and B of a channel phase, as sums over the same samples; none where the window yields no update for the phase (05 R122,
R124). -/
def State.skewPair (s : State) (c : Fin 4) (g : Stream) (q : Nat) : Option (Nat × Nat) :=
  let n := (s.chanPhases c).length
  let is := s.phaseIndexes c g q
  if is.length < skewLen || [q, (q + 1) % n, (q + n - 1) % n].any (fun p => s.disturbed c p s.cal.winFrom[c]) then none
  else some ((is.map (fun i => s.stepSq c g (i - 1))).sum, (is.map (s.stepSq c g)).sum)

/-- The estimates of a window. -/
def State.skewEst (s : State) (c : Fin 4) (g : Stream) : List (Option (Nat × Nat)) :=
  (List.range (s.chanPhases c).length).map (s.skewPair c g)

/-- Whether every phase has the valid samples of a window. -/
def State.skewFull (s : State) (c : Fin 4) (g : Stream) : Bool :=
  (List.range (s.chanPhases c).length).all (fun q => (s.phaseIndexes c g q).length == skewLen)

/-- Whether a window of a channel has ended: every phase has its valid samples, or 16 times as many ticks have passed since it
opened (05 R124). -/
def State.skewEnds (s : State) (c : Fin 4) (tick : Nat) (g : Stream) : Bool :=
  decide (s.cal.winFrom[c] ≤ tick) && (decide (s.cal.winFrom[c] + 16 * skewLen ≤ s.clk) || s.skewFull c g)

/-- What a window that has ended does (05 R123, R124): the next one opens; without every phase's samples it closes without result. -/
def State.skewUpdate (s : State) (c : Fin 4) (est : List (Option (Nat × Nat))) (slope full : Bool) : State :=
  let s0 := s.modCal (fun k => { k with windows := satAdd 32 k.windows 1, winFrom := k.winFrom.set c.val s.clk })
  if !slope then s0.modCal (fun k => { k with held := satAdd 32 k.held 1 })
  else if !full then s0
  else
    let spt := samplesPerTick s.mode
    let ps := s.chanPhases c
    let s1 := s0.modCal (fun k => { k with deltas := k.deltas.set c.val (skewDeltas spt ps.length k.deltas[c] est) })
    if s.mkey 0x0301 = 0 then s1
    else
      let new := skewStep spt (s.mkey 0x0302) (ps.map (fun e => s.loopCorr e.1 e.2)) est
      (ps.zip new).foldl (fun a e => a.setLoop e.1.1 e.1.2 e.2 s.boundary) s1

/-- A window of a channel's loop ends (05 R123, R124). -/
def State.skewWindow (s : State) (c : Fin 4) (tick : Nat) (codes : Codes) : State :=
  let g := s.skewStream tick codes
  if !(s.present c) || !((s.towers c).all s.towerOn) || !(s.skewEnds c tick g) then s
  else s.skewUpdate c (s.skewEst c g) (s.skewSlope c g) (s.skewFull c g)

/-! The rows. -/

/-- CAL_RUN (05 R134). -/
def execCalRun (t : Nat) (mb : Fin 17) (s : State) : Out := go (s.command t mb 0x0201 (lenIs 8) calRunBody)

/-- CAL_RUN_END (05 R136). -/
def execCalRunEnd (t : Nat) (ch : Fin 4) (r : CalResult) (s : State) : Out := go ((s.reach t).calRunEnd ch r)

/-- CAL_STATUS (05 R137). -/
def execCalStatus (t : Nat) (mb : Fin 17) (s : State) : Out := go (s.command t mb 0x0202 (lenIs 0) calStatusBody)

/-- CAL_COMMIT (05 R141). -/
def execCalCommit (t : Nat) (mb : Fin 17) (s : State) : Out := go (s.command t mb 0x0203 (lenIs 0) calCommitBody)

/-- CAL_STORE_COMPLETION (05 R141). -/
def execCalStoreCompletion (t : Nat) (ok : Bool) (s : State) : Out := go ((s.reach t).storeDone ok)

/-- CAL_REVERT (05 R144). -/
def execCalRevert (t : Nat) (mb : Fin 17) (s : State) : Out := go (s.command t mb 0x0204 (lenIs 8) calRevertBody)

/-- LOAD_CURVE (05 R130). -/
def execLoadCurve (t : Nat) (mb : Fin 17) (bulk : Bulk) (s : State) : Out :=
  go (s.command t mb 0x0206 (lenIs 24) (loadCurveBody bulk))

/-- SKEW_WINDOW (05 R123): the codes of the channel's samples from tick `tick` on, with eight more on either side. -/
def execSkewWindow (t : Nat) (ch : Fin 4) (tick : Nat) (codes : Codes) (s : State) : Out :=
  go ((s.reach t).skewWindow ch tick codes)

end Sys2Proof.Machine
end

