-- ==== Sys2Proof/Machine/Sequencer.lean ====
section
/-!
DEFINITION. Arming, disarming, forcing and reporting the acquisition of channels (09), the channel timer (08 R217), and the
rows of the happenings that the sequencer waits for.
-/

namespace Sys2Proof.Machine

/-- The sum of a list of numbers. -/
def total (l : List Nat) : Nat := l.foldl (· + ·) 0

/-! ARM: its checks (09 R229). -/

/-- The acquisition number that a channel's next ARM opens (12 R299). -/
def State.nextAcq (s : State) (c : Fin 4) : Nat := if 1073741823 ≤ s.ch[c].acq then 1 else s.ch[c].acq + 1

/-- Whether a fold or result pass of a channel's accumulation is under way, or records that it will add wait (11 R287). -/
def Acc.inPass (a : Acc) : Bool := a.pass || a.folding || !a.recs.isEmpty

/-- Whether the table that would come into force names a source of an absent channel. -/
def State.namesAbsent (s : State) (c : Fin 4) : Bool :=
  (s.nextTable c).trans.any (fun e => e.valid && (sourceChan e.source).any (fun d => !(s.present d)))

/-- The pages of a channel's reservation for its first run (11 R283), none without accumulation; `s` has the channel's new keys. -/
def State.runNeed (s : State) (c : Fin 4) : Nat := if s.accum c then (s.runPages c).1 + (s.runPages c).2 else 0

/-- U of 12 R305 under the keys of `s`. -/
def State.unitNeed (s : State) (c : Fin 4) : Nat := unitPages (s.wordsOf (s.akey 0x0806 c) (s.akey 0x0A02 c))

/-- Whether a channel's quota is too small for its ARM (12 R305; 11 R283). -/
def State.quotaShort (s : State) (c : Fin 4) : Bool :=
  if s.accum c then decide (s.ch[c].quota < s.heldPages c + s.runNeed c) else decide (s.ch[c].quota < s.unitNeed c)

/-- Whether the addition of `c`, after the selected channels before it, passes the reduced limit (01 R33). -/
def State.rateExceeds (s : State) (sel : List (Fin 4)) (c : Fin 4) : Bool :=
  let mine := allCh.filter (fun d => s.running d || (sel.contains d && decide (d ≤ c)))
  decide (s.activeSlots ≤ 25)
    && !(Frac.le (mine.foldl (fun a d => Frac.add a (s.armedRate d)) (0, 1)) (sumLimit s.activeSlots))

/-- The checks of R229 in their order, each with its status; `n` is the state with the keys that ARM brings into force. -/
def State.armChecks (s n : State) (sel : List (Fin 4)) : List (Nat × (Fin 4 → Bool)) := [
  (eState, fun c => s.running c),
  (eBusy, fun c => s.entering || s.calHeld c || s.ch[c].acc.inPass),
  (eMode, fun c => s.namesAbsent c),
  (eNores, fun c => n.rateExceeds sel c),
  (eNores, fun c => s.tr.segs.any (fun g => g.ch == c && g.acq == s.nextAcq c)),
  (eQuota, fun c => n.quotaShort c),
  (eNores, fun c => decide (s.freePages < total ((sel.filter (fun d => decide (d ≤ c))).map n.runNeed))),
  (eHw, fun _ => s.ck.synth == 2)]

/-- The first check that fails, and the channel it fails for. -/
def State.armFail (s : State) (sel : List (Fin 4)) : Option (Nat × Fin 4) :=
  let n := sel.foldl (fun a c => a.takeKeys c) s
  (s.armChecks n sel).findSome? (fun k => (sel.find? k.2).map (fun c => (k.1, c)))

/-! ARM: step 1 (09 R229). -/

/-- The counters and flags of accumulation that an entry into ARMING clears (11 R285, R286). -/
def Acc.rearm (a : Acc) : Acc := { Acc.reset with lost := a.lost, cut := a.cut }

/-- What an entry into ARMING clears and brings into force in a channel (09 R229; counters: 08 R223, 10 R268, 11 R285, 12 R311). -/
def Chan.rearm (h : Chan) (follow : Bool) (acq seed run : Nat) : Chan :=
  { h with
    st := .arming, left := h.st, follow := follow
    table := if h.pendTable.isSome then h.pendTable else h.table, pendTable := none
    fullStop := false, bwStop := false, trigs := 0, segs := 0, results := 0, refused := 0, auto := 0, coal := 0
    marks := [], markNext := 0, hold := .off, acq := acq, open_ := none, lastEnd := none
    lfsr := if seed = 0 then 0x7FFFFF#23 else BitVec.ofNat 23 seed
    refAlloc := 0, reclaimed := 0, rateRef := 0
    det := { h.det with count := 0, coal := 0 }
    dec := { h.dec with flt := Vector.replicate 2 0, sat := 0, out := (2 ^ 64 - run) % 2 ^ 64 }
    past := [], acc := h.acc.rearm }

/-- Open the channel's next acquisition (12 R299, R310). -/
def State.openAcq (s : State) (c : Fin 4) (n : Nat) : State :=
  s.modTr (fun t => { t with
    acqs := t.acqs ++ [⟨c, n, 0, [], none, 0⟩]
    maxAcq := t.maxAcq.set c.val (max t.maxAcq[c] n)
    wrapped := t.wrapped.set c.val (t.wrapped[c] || decide (n < s.ch[c].acq)) })

/-- Step 1 for one channel, reported in the presentation cycle of the boundary at which it takes place (09 R228); `follow` says that the
array manager began it (16 R399). -/
def State.armChan (s : State) (follow : Bool) (c : Fin 4) : State :=
  let n := s.nextAcq c
  let run := if s.ch[c].dec.running then s.dcRun c (s.lastMade c) else 0
  ((((s.takeKeys c).openAcq c n).modCh c (fun h =>
    (h.hideUntil s.boundary s.clk).rearm follow n (s.ticks % 2 ^ 23) run)).armCal c).sweep c

/-- Steps 1 and 2 of ARM for the selected channels: SLEEP is left, memory requested, domains switched on (09 R229; 17 R420, R422). -/
def State.armBegin (s : State) (follow : Bool) (sel : List (Fin 4)) : State :=
  let s1 := ((sel.foldl (fun a c => a.armChan follow c) s).leaveSleep 1 0).memRequest
  (s1.syncUnits s1.boundary (s1.boundary * fineUnit)).syncDomains

/-- The tick of array arming: the first multiple of 4 at or after now plus AR_ARM_LEAD, in module time (16 R399). -/
def State.arrayC (s : State) : Nat := ceilDiv (s.ticks + s.mkey 0x0E03 * 3000000) 4 * 4

/-- Whether ARM and DISARM here act for the array (16 R399, R400). -/
def State.armsArray (s : State) : Bool := s.ar.role == 1 && s.mkey 0x0E01 == 1

/-- The array's part of ARM: the message, and the members whose READY is awaited (16 R399). -/
def State.sendArm (s : State) (c : Nat) : State :=
  let n := wrapAdd 32 s.ar.armNo 1
  (s.modAr (fun a => { a with
    armNo := n, armTold := false, armLate := 0, armNot := 0
    armWait := (a.members.filter (fun m => m.addr != a.addr && m.mstate == 0)).map (·.addr) })).sendN 0x05 0xFFFF [c, n]

/-- ARM's own part (09 R229). -/
def armBody : Body := fun r s =>
  let sel := selChans r.chsel
  match s.armFail sel with
  | some (st, c) => (.reply ⟨st, [], none, 2 ^ c.val, 0⟩, s)
  | none =>
    let s1 := s.armBegin false sel
    if s.armsArray then (.wait (.arrayArm s.arrayC r.chsel), s1.sendArm s.arrayC) else (.wait (.arm r.chsel), s1)

/-! Step 5 and the return on failure (09 R229, R230). -/

/-- Channels return from ARMING to the state they left (09 R230). -/
def State.revertArm (s : State) (sel : List (Fin 4)) : State :=
  let s1 := sel.foldl (fun a c =>
    if a.ch[c].st == .arming then
      a.modCh c (fun h => { h.hideUntil s.boundary s.clk with st := h.left, follow := false, stopAt := none })
    else a) s
  (s1.syncUnits s1.boundary (s1.boundary * fineUnit)).syncDomains

/-- Whether a channel in ARMING may become ARMED: its domains are on and its towers' state known, its front end and the network have
settled (03 R74, R79), memory serves, no relock is under way (09 R229 steps 2 and 4). -/
def State.armReady (s : State) (c : Fin 4) : Bool :=
  s.ch[c].st == .arming && (s.chanDomains c).all (fun d => s.domOn d || s.pw.failed.getLsbD d)
    && ([0, 1, 2, 3] : List (Fin 4)).all (fun k => !(s.towerOn k) || s.tw[k].known)
    && decide (s.fe[inputOf c].quiet ≤ s.clk ∧ s.fe[inputOf c].net ≤ s.clk) && s.mem.sr == .off && s.ck.relock.isNone && s.ck.synth == 0
    && s.ch[c].beforeStop (s.clk * fineUnit)

/-- Set the channel timer at the present boundary (08 R217). -/
def State.setTimer (s : State) (c : Fin 4) : State :=
  let start := s.akey 0x0611 c
  let per := s.akey 0x0612 c
  match s.akey 0x0610 c with
  | 1 =>
    if start < s.ticks then
      (s.modCh c (fun h => { h with timerAt := none })).logEv 0x0602 sevNotice (c.val + 1) (List.replicate 4 0#8 ++ leBytes 8 start)
    else s.modCh c (fun h => { h with timerAt := some start, timerAbs := true })
  | 2 => s.modCh c (fun h => { h with
      timerAt := some (if s.ticks ≤ start then start else start + ceilDiv (s.ticks - start) per * per), timerAbs := true })
  | _ => s.modCh c (fun h => { h with timerAt := none })

/-- A channel becomes ARMED at the present boundary (09 R229 step 5, R245), and is reported so in its presentation cycle (R228). -/
def State.commitChan (s : State) (c : Fin 4) : State :=
  let tb := s.seqTable c
  let x := s.autoAt c (s.clk * fineUnit)
  (s.modCh c (fun h => { h.hideUntil s.clk s.clk with
    st := .armed, armedAt := s.ticks, holdEnd := s.clk * fineUnit, armClk := s.clk, seqState := tb.init, cnt0 := 0, cnt1 := 0
    tmr0 := .idle, tmr1 := .idle, hold := .off, autoX := x, past := [] })).setTimer c

/-- The channel's own detector and stage start, or restart, at its commit point (08 R200, 10 R267). -/
def State.startUnits (s : State) (c : Fin 4) : State :=
  ((if s.ch[c].dec.running then s.stopDec c s.clk else s).startDet c).startDec c

/-- What opens with the commit point: a run of accumulation, or a continuous recording's first segment (11 R283, 12 R296). -/
def State.openAtArm (s : State) (c : Fin 4) : State :=
  if s.accum c then s.startRun c 0
  else if s.contin c then s.openCont c s.ch[c].dec.firstVal
  else s

/-- The channels become ARMED together (09 R229 step 5). -/
def State.commitChans (s : State) (sel : List (Fin 4)) : State :=
  let s1 := sel.foldl (fun a c => a.commitChan c) s
  let s2 := (sel.foldl (fun a c => a.startUnits c) s1).syncUnits s.clk (s.clk * fineUnit)
  sel.foldl (fun a c => a.openAtArm c) s2

/-- Send READY to the manager (16 R390, R399): 0 ready by C, 1 late, 2 not following. -/
def State.sendReady (s : State) (result : Nat) : State := s.sendN 0x07 s.ar.addr [s.ar.addr, s.ar.armNo, result]

/-- The answer of an array ARM (16 R399): a member whose READY has not come counts as late. -/
def State.arrayArmReply (s : State) : Reply :=
  let late := s.ar.armLate + s.ar.armWait.length
  ⟨if late = 0 ∧ s.ar.armNot = 0 then stOk else eDegraded, [], none, late % 65536 + 65536 * (s.ar.armNot % 65536), 0⟩

/-- The channels that follow the array manager's ARM and wait in ARMING. -/
def State.followers (s : State) : List (Fin 4) := allCh.filter (fun c => s.ch[c].follow && s.ch[c].st == .arming)

/-- The waiting ARM: its channels and its array commit tick. -/
def State.waitingArm (s : State) : Option (Fin 17 × List (Fin 4) × Option Nat) :=
  match s.mr.exec with
  | some ⟨m, _, .arm x⟩ => some (m, selChans x, none)
  | some ⟨m, _, .arrayArm c x⟩ => some (m, selChans x, some c)
  | _ => none

/-- The followers that are ready to become ARMED. -/
def State.readyFollowers (s : State) : List (Fin 4) := s.followers.filter s.armReady

/-- READY goes to the manager once for an array arming (16 R399). -/
def State.tellReady (s : State) (result : Nat) : State :=
  if s.ar.armTold then s else (s.modAr (fun a => { a with armTold := true })).sendReady result

/-- The array's part of a boundary (16 R399): READY leaves as soon as every follower is ready, or says at C that one is late; from C on each
follower that is ready becomes ARMED, whether or not another is. -/
def State.followStep (s : State) : State :=
  let ready := s.readyFollowers
  let came := s.ar.armC.all (fun c => decide (c ≤ s.ticks))
  let intime := s.ar.armC.all (fun c => decide (s.ticks ≤ c))
  let s1 := if ready.length = s.followers.length ∧ intime = true then s.tellReady 0 else if came then s.tellReady 1 else s
  if came && !ready.isEmpty then
    let s2 := s1.commitChans ready
    if s2.followers.isEmpty then s2.modAr (fun a => { a with armC := none }) else s2
  else s1

/-- Whether the array has something to do at a boundary: READY to send, or a follower to arm. -/
def State.followDue (s : State) : Bool :=
  let ready := s.readyFollowers
  let came := s.ar.armC.all (fun c => decide (c ≤ s.ticks))
  !s.followers.isEmpty && ((ready.length == s.followers.length || came) && !s.ar.armTold || came && !ready.isEmpty)

/-- Commit the channels of the waiting ARM at the present boundary and complete it. -/
def State.commitOwn (s : State) (sel : List (Fin 4)) (array : Bool) : State :=
  let s1 := s.commitChans sel
  let a : Reply := if array then s1.arrayArmReply else ⟨stOk, [], none, 0, 0⟩
  (s1.modAr (fun x => { x with armWait := [] })).finish a s.clk

/-- Step 5 of ARM (09 R229): at the DSP-cycle boundary the channels that follow the array's ARM and are ready, and those of the waiting ARM
when all of them are, become ARMED (log entry 23). -/
def State.armCommit (s0 : State) : State :=
  let s := s0.reach s0.boundary
  let own := s.waitingArm.filter (fun w => w.2.1.all s.armReady && w.2.2.all (fun c => decide (c ≤ s.ticks))
    && !(((s.mbox w.1).req w.1).expired s.clk))
  let s1 := if s.followDue then s.followStep else s
  match own with
  | some w => s1.commitOwn w.2.1 w.2.2.isSome
  | none => if s.followDue then s1 else s0

/-- The last follower is gone without arming: the module reports that it does not follow (16 R399). -/
def State.endFollow (s : State) : State := (s.tellReady 2).modAr (fun a => { a with armC := none })

/-- The waiting ARM ends without arming (09 R230): its channels return to the state they left. -/
def State.failArm (s : State) (status detail : Nat) : State :=
  match s.waitingArm with
  | none => s
  | some w => (s.revertArm w.2.1).finish ⟨status, [], none, detail, 0⟩ s.clk

/-- Step 2 of ARM ends in a wake failure (09 R230; 17 R424): the domain is marked failed and logged. -/
def State.armWakeFail (s : State) (d : Nat) : State :=
  let fol := s.followers.filter (fun c => (s.chanDomains c).contains d)
  let own := s.waitingArm.any (fun w => w.2.1.any (fun c => (s.chanDomains c).contains d))
  if fol.isEmpty && !own then s
  else
    let s1 := (s.modPw (fun p => { p with failed := p.failed ||| (1#196 <<< d) })).logEv 0x0F06 sevError 0 (pwData 0 0 d s.ticks)
    let s2 := s1.revertArm fol
    let s3 := if !s.followers.isEmpty && s2.followers.isEmpty then s2.endFollow else s2
    if own then s3.failArm eHw d else s3

/-! DISARM (09 R231; 16 R400). -/

/-- DISARM of one channel at boundary `q`: a running one is ordered to stop there, with a reason of R251; one that the array manager
began to arm too, to be abandoned; one that is DONE, to become STOPPED (R231). -/
def State.disarmChan (q reason : Nat) (s : State) (c : Fin 4) : State :=
  match s.ch[c].st with
  | .arming => if s.ch[c].follow then s.orderHalt q reason 1 c else s
  | .stopped => s
  | _ => s.orderHalt q reason 1 c

/-- A channel carries out the stop ordered of it: what waits for it from before the boundary comes first (09 R231, R250). A stop for
memory bandwidth shows in its record (02 R70). -/
def State.haltChan (s : State) (c : Fin 4) : State :=
  match s.ch[c].stopAt with
  | none => s
  | some r =>
    if s.ch[c].st == .arming then s.revertArm [c]
    else if s.ch[c].st == .done then s.modCh c (fun h => { h with st := .stopped, stopAt := none })
    else
      let s1 := (s.lastEvents c r.at_).stopChan c r.at_ r.reason r.cause
      if r.reason = 4 then s1.modCh c (fun h => { h with bwStop := true }) else s1

/-- The earliest boundary of an ordered stop. -/
def State.haltAt (s : State) : Option Nat := (allCh.filterMap (fun c => s.ch[c].stopAt.map (·.at_))).min?

/-- The stops ordered for boundary `q` take place. -/
def State.haltAll (s : State) (q : Nat) : State :=
  let s1 := allCh.foldl (fun a c => if a.ch[c].stopAt.any (fun r => r.at_ == q) then a.haltChan c else a) s
  if !s.followers.isEmpty && s1.followers.isEmpty then s1.endFollow else s1

/-- The DISARM that waits completes in the presentation cycle of its boundary, once its channels have stopped (09 R228, R231). -/
def State.finishDisarm (s : State) : State :=
  match s.mr.exec with
  | some ⟨_, _, .disarm q x⟩ =>
    if q + 404 ≤ s.clk ∧ (selChans x).all (fun c => s.ch[c].stopAt.isNone) = true then s.finish ⟨stOk, [], none, 0, 0⟩ q else s
  | _ => s

/-- DISARM's own part: its commit point is boundary `q`, and one whose expiry tick lies before that has no effect (02 R51). -/
def disarmBody : Body := fun r s =>
  let q := if s.armsArray then s.boundaryFrom (s.clk + s.mkey 0x0E04) else s.boundaryFrom (s.clk + 1)
  if r.expired q then (.wait (.disarm q r.chsel), s.reach q)
  else
    let s1 := if s.armsArray then s.sendN 0x06 0xFFFF [s.ticks + (q - s.clk)] else s
    (.wait (.disarm q r.chsel), (selChans r.chsel).foldl (State.disarmChan q 2) s1)

/-! FORCE_TRIGGER (09 R246; 08 R218). -/

/-- FORCE_TRIGGER's own part: its event, stamped at the boundary that is its commit point, goes to the selected channels, and
the command waits for its presentation (log entry 24). -/
def forceBody : Body := fun r s =>
  let mode := fieldAt r.payload 0 1
  if 1 < mode ∨ fieldAt r.payload 1 7 ≠ 0 then fails eParam s
  else if (selChans r.chsel).any (fun c => !(s.armedOn c)) = true then fails eState s
  else
    let b := s.reach s.boundary
    (.wait (.force b.clk 0),
      b.pushEv (b.clk * fineUnit) (if mode = 0 then srcForce else srcDirect) b.clk b.now (BitVec.ofNat 4 r.chsel) false)

/-- The FORCE_TRIGGER that waits completes once its event has been presented (09 R246). -/
def State.finishForce (s : State) : State :=
  match s.mr.exec with
  | some ⟨_, _, .force st k⟩ =>
    if s.presentAt (st * fineUnit) ≤ s.clk ∧ (s.evq.any (fun e => e.forced && e.fine == st * fineUnit)) = false then
      s.finish ⟨stOk, leBytes 1 k ++ List.replicate 7 0#8 ++ leBytes 8 (s.ticksAt st), none, 0, 0⟩ st
    else s
  | _ => s

/-! GET_ACQ_STATUS (09 R249). -/

/-- Whether number `a` is at or after `b`, modulo 2^32 (02 R65, 09 R249). -/
def serialGe (a b : Nat) : Bool := decide ((a + 2 ^ 32 - b) % 2 ^ 32 < 2 ^ 31)

/-- The code of a timer. -/
def Tmr.code : Tmr → Nat
  | .idle => 0
  | .running _ => 1
  | .expired => 2

/-- HOLDOFF_LEFT: ticks to H under time holdoff, triggers still to refuse under events holdoff, none in its dither. -/
def State.holdLeft (s : State) (c : Fin 4) : Nat :=
  match s.ch[c].st, s.ch[c].hold with
  | .holdoff, .until_ h => if s.ch[c].holdMode = 2 then 0 else min (2 ^ 32 - 1) ((h - s.clk * fineUnit) / fineUnit)
  | .holdoff, .events n _ => min (2 ^ 32 - 1) n
  | _, _ => 0

/-- The flags of a channel record (02 R70). -/
def State.chanFlags (s : State) (c : Fin 4) : Nat :=
  let h := s.ch[c]
  flag h.overQuota + 2 * flag h.fullStop + 4 * flag h.acc.busy + 8 * flag h.bwStop

/-- The oldest marker held. -/
def Chan.markOldest (h : Chan) : Nat := (h.markNext + 2 ^ 32 - h.marks.length) % 2 ^ 32

/-- The 16 bytes of a marker record (09 R247). -/
def Mark.bytes (m : Mark) : List Byte :=
  leBytes 8 m.ticks ++ leBytes 4 m.fracq ++ leBytes 1 m.code ++ leBytes 1 m.origin ++ [0#8, 0#8]

/-- The marker records from number `start`, at most `n`. -/
def Chan.marksFrom (h : Chan) (start n : Nat) : List Mark :=
  if serialGe start h.markNext then []
  else (h.marks.reverse.drop ((start + 2 ^ 32 - h.markOldest) % 2 ^ 32)).take n

/-- The response of GET_ACQ_STATUS. -/
def State.acqStatus (s : State) (c : Fin 4) (start n : Nat) : List Byte :=
  let h := s.ch[c]
  let x := h.report s.clk
  let first := if serialGe start h.markOldest then start else h.markOldest
  let ms := h.marksFrom first n
  leBytes 1 x.st.code ++ leBytes 1 (s.chanFlags c) ++ leBytes 1 x.seqState ++ leBytes 1 (x.tmr0.code + 4 * x.tmr1.code)
    ++ leBytes 4 x.cnt0 ++ leBytes 4 x.cnt1 ++ leBytes 4 0 ++ leBytes 8 h.trigs ++ leBytes 4 h.segs ++ leBytes 4 h.refused
    ++ leBytes 4 h.auto ++ leBytes 4 h.coal ++ leBytes 8 h.armedAt ++ h.lastTrig.bytes ++ leBytes 4 h.markNext
    ++ leBytes 4 h.markOldest ++ leBytes 4 first ++ leBytes 2 ms.length ++ leBytes 2 0 ++ leBytes 4 (s.holdLeft c)
    ++ ms.flatMap Mark.bytes

/-- GET_ACQ_STATUS's own part. -/
def acqStatusBody : Body := fun r s =>
  if 96 < fieldAt r.payload 4 2 ∨ fieldAt r.payload 6 2 ≠ 0 then fails eParam s
  else answers (s.acqStatus ((selChans r.chsel).headD 0) (fieldAt r.payload 0 4) (fieldAt r.payload 4 2)) s

/-! LOAD_SEQ_TABLE (09 R233–R235). -/

/-- The transition entry at an offset. -/
def transAt (p : List Byte) (o : Nat) : Trans :=
  let t := fieldAt p (o + 1) 1
  let n := fieldAt p (o + 2) 1
  let a := fieldAt p (o + 4) 1
  ⟨fieldAt p o 1, t % 8, bitsAt t 3 1, bitAt n 7, n % 16, BitVec.ofNat 8 (fieldAt p (o + 3) 1), bitsAt a 0 1, bitsAt a 1 1,
    fieldAt p (o + 5) 1⟩

/-- Whether the entry at an offset is well formed (09 R234, R235). -/
def transOk (p : List Byte) (o : Nat) : Bool :=
  let t := fieldAt p (o + 1) 1
  let n := fieldAt p (o + 2) 1
  let e := transAt p o
  if e.valid then
    decide (t < 16) && decide (t % 8 ≤ 4) && bitsAt n 4 3 == 0 && !(e.acts.getLsbD 7) && decide (fieldAt p (o + 4) 1 < 4)
      && fieldAt p (o + 6) 2 == 0 && sourceDefined e.source && (e.source != 0 || e.kind == 4)
  else allZero (sliceAt p o 8)

/-- The table a payload holds. -/
def tableOf (p : List Byte) : SeqTable :=
  ⟨fieldAt p 0 1, fieldAt p 1 1, fieldAt p 4 4, fieldAt p 8 4, fieldAt p 16 8, fieldAt p 24 8,
    (List.range 64).map (fun i => transAt p (32 + 8 * i))⟩

/-- Whether a payload holds a table (09 R233–R235). -/
def tableOk (p : List Byte) : Bool :=
  let tb := tableOf p
  decide (tb.init ≤ 15) && (decide (tb.resume ≤ 15) || tb.resume == 0xFF) && fieldAt p 2 2 == 0 && fieldAt p 12 4 == 0
    && decide (1 ≤ tb.lim0) && decide (1 ≤ tb.lim1) && decide (4 ≤ tb.tmr0 ∧ tb.tmr0 ≤ 2 ^ 48)
    && decide (4 ≤ tb.tmr1 ∧ tb.tmr1 ≤ 2 ^ 48) && (List.range 64).all (fun i => transOk p (32 + 8 * i))

/-- LOAD_SEQ_TABLE's own part. -/
def loadSeqBody : Body := fun r s =>
  let c := (selChans r.chsel).headD 0
  if tableOk r.payload then
    answers (leBytes 1 (flag (s.running c)) ++ List.replicate 7 0#8)
      (s.modCh c (fun h => { h with pendTable := some (tableOf r.payload) }))
  else fails eParam s

/-! The channel timer (08 R217). -/

/-- Raise the TIMER event of a channel at slice-clock tick `x`: the next one of a periodic timer follows a period later. -/
def State.raiseTimer (s : State) (c : Fin 4) (x : Nat) : State :=
  let f := x * fineUnit
  (s.pushEv f 0x19 (s.cycleOf f) (s.stampAt f 0 false) (BitVec.ofNat 4 (2 ^ c.val)) false).modCh c (fun h => { h with
    timerAt := if s.akey 0x0610 c = 2 then some (x + s.akey 0x0612 c) else none, timerAbs := false })

/-- The slice-clock tick of the timer event that waits, in the scale in force. -/
def State.timerTick (s : State) (c : Fin 4) : Option Nat :=
  s.ch[c].timerAt.map (fun x => if s.ch[c].timerAbs then s.clkOf x else x)

/-- The timer of a running channel reaches its instant. -/
def State.timerEvent (s : State) (c : Fin 4) : State :=
  match s.timerTick c with
  | some x => if s.armedOn c && decide (x ≤ s.clk) then s.raiseTimer c x else s
  | none => s

/-- A forward step or epoch mark at boundary `b` raises, there, every target it passes (08 R217). -/
def State.timersCross (s : State) (b : Nat) : State :=
  allCh.foldl (fun a c =>
    if a.armedOn c && a.ch[c].timerAbs && a.ch[c].timerAt.any (fun x => decide (x < a.ticksAt b)) then a.raiseTimer c b else a) s

/-! Happenings that rows bring about (09 R239, R242, R245; 12 R297). -/

/-- Bring about the earliest happening of one kind on a channel, in the presentation cycle that belongs to its instant
(09 R228) or later, after the events and happenings before it; an event at its very instant comes before it unless it is the
end of holdoff (09 R239, R242, R245). -/
def State.happenIf (s : State) (c : Fin 4) (p : Happening → Bool) : State :=
  match firstHappening ((s.happenings c).filter (fun x => p x.2)) with
  | none => s
  | some x =>
    if s.clk < s.presentAt x.1 then s
    else
      let s1 := State.catchUp c false x.1 (catchFuel x.1) (s.presentUpTo (s.presentAt x.1))
      match firstHappening ((s1.happenings c).filter (fun y => p y.2 && y.1 == x.1)) with
      | none => s1
      | some y => s1.happen c y

/-! The values of a closed segment (01 R23, R24; 12 R297, R298). -/

/-- A value with its tags (10 R261): marked by the markers that fall in its period, the trigger's. -/
def State.tagValue (s : State) (c : Fin 4) (g : Seg) (v : Value) (j : Nat) : Tagged :=
  let i := (s.valueInstant c j).toNat
  { lo := v.lo, hi := v.hi, trg := g.trgs.contains j, ovr := v.ovr, set := v.set, mrk := s.markedIn c i (i + s.valuePeriod c) }

/-- The values of a segment as its words take them: a last word that is not full spans as much time as a full one (01 R23). -/
def State.tailMark (s : State) (c : Fin 4) (g : Seg) (tags : List Tagged) : List Tagged :=
  let n := s.perWord g.fmt
  if g.length % n = 0 then tags
  else
    let i := (s.valueInstant c (g.firstVal + g.length / n * n)).toNat
    tags.dropLast ++ (tags.getLast?.map (fun v => { v with mrk := v.mrk || s.markedIn c i (i + n * s.valuePeriod c) })).toList

/-- The tick from which a closed segment can take its values: its last value has passed the correction path, decimation and packing
(01 R19), and every trigger and marker that can lie in its words' span has been presented; the words wait in the history ring until then
(01 R23, 12 R296; log entry 53). -/
def State.descFrom (s : State) (g : Seg) : Nat :=
  let last := g.firstVal + g.length - 1
  max (s.completion g.ch last + pathTicks + decimTicks + packTicks)
    (s.presentAt ((s.valueInstant g.ch last).toNat + s.perWord g.fmt * s.valuePeriod g.ch)
      + tableDelay s.mode (s.seqTable g.ch) (fun d k => s.decKey k d))

/-- A closed segment takes its values, made from codes that begin eight samples before the span of the first: they are packed and written,
its flags set, its descriptor queued, when the queue has room (12 R297). -/
def State.fillSeg (s : State) (c : Fin 4) (g : Seg) (codes : Codes) : State :=
  if s.clk < s.descFrom g ∨ 1024 ≤ s.tr.descQ.length then s
  else
    let vals := s.valuesOf c g.firstVal g.length codes
    let tags := (vals.zip (List.range g.length)).map (fun p => s.tagValue c g p.1 (g.firstVal + p.2))
    let f := s.fmtSpec g.fmt
    let ws := packWords f (s.decMode c) (s.decKey 0x0804 c) (s.tailMark c g tags)
    let ovr := tags.any (fun v => v.ovr || (packValue f (s.decMode c) (s.decKey 0x0804 c) v).2)
    let s1 := (s.countSats c g.firstVal vals).modSeg c g.acq g.idx (fun x => { x with
      awaiting := false, queued := true, ovr := ovr, set := tags.any (·.set), mrk := tags.any (·.mrk) })
    (((s1.storeWords g.pages g.firstWord (wordBytes ws)).modTr (fun t => { t with
      descQ := t.descQ ++ [(c, g.acq, g.idx)] })).hear c (s.valueStream c g.firstVal g.length codes)).sweep c

/-- The oldest closed segment of a channel takes its values, with the grid and settings of the run that made them (10 R255, R267). -/
def State.giveValues (s : State) (c : Fin 4) (codes : Codes) : State :=
  match s.tr.segs.find? (fun g => g.ch == c && g.awaiting) with
  | none => s
  | some g => if g.run = s.ch[c].dec.run then s.fillSeg c g codes else s.onOldRun c (fun a => a.fillSeg c g codes)

/-- What closes on a channel closes when it is due, and the oldest closed segment, or the oldest record, takes its values. -/
def State.closeStep (s : State) (c : Fin 4) (codes : Codes) : State :=
  let s1 := s.happenIf c (fun h => h == .close)
  if s1.accum c then s1.takeRecord c codes else s1.giveValues c codes

/-! The rows. -/

/-- ARM (09 R229). -/
def execArm (t : Nat) (mb : Fin 17) (s : State) : Out := go (s.command t mb 0x0101 (lenIs 0) armBody)

/-- ARM_COMMIT (09 R229 step 5). -/
def execArmCommit (t : Nat) (s : State) : Out := go ((s.reach t).armCommit)

/-- ARM_WAKE_FAILURE (09 R230). -/
def execArmWakeFailure (t : Nat) (dom : Nat) (s : State) : Out := go ((s.reach t).armWakeFail dom)

/-- DISARM (09 R231). -/
def execDisarm (t : Nat) (mb : Fin 17) (s : State) : Out := go (s.command t mb 0x0102 (lenIs 0) disarmBody)

/-- FORCE_TRIGGER (09 R246). -/
def execForceTrigger (t : Nat) (mb : Fin 17) (s : State) : Out := go (s.command t mb 0x0103 (lenIs 8) forceBody)

/-- GET_ACQ_STATUS (09 R249). -/
def execGetAcqStatus (t : Nat) (mb : Fin 17) (s : State) : Out := go (s.command t mb 0x0104 (lenIs 8) acqStatusBody)

/-- LOAD_SEQ_TABLE (09 R235). -/
def execLoadSeqTable (t : Nat) (mb : Fin 17) (s : State) : Out := go (s.command t mb 0x0105 (lenIs 544) loadSeqBody)

/-- TIMER_EVENT (08 R217). -/
def execTimerEvent (t : Nat) (ch : Fin 4) (s : State) : Out := go ((s.reach t).timerEvent ch)

/-- EVENT_PRESENTATION (08 R220): the events of the earliest presentation cycle that has come, or the stops whose presentation cycle
comes first (09 R228, R231). -/
def State.presentDue (s : State) : State :=
  let p := firstCycle s.evq
  match s.haltAt with
  | some q =>
    if q + 404 ≤ s.clk ∧ p.all (fun x => decide (q + 404 ≤ x)) = true then s.haltAll q
    else p.elim s (fun x => if x ≤ s.clk then s.presentCycle x else s)
  | none => p.elim s (fun x => if x ≤ s.clk then s.presentCycle x else s)

/-- EVENT_PRESENTATION (08 R220), with the end of a FORCE_TRIGGER whose event it was, or of the DISARM (09 R231, R246). -/
def execEventPresentation (t : Nat) (s : State) : Out := go ((s.reach t).presentDue.finishForce.finishDisarm)

/-- EXPIRY_EVENT (09 R239). -/
def execExpiryEvent (t : Nat) (ch : Fin 4) (tm : Fin 2) (s : State) : Out :=
  go ((s.reach t).happenIf ch (fun h => h == .expiry tm.val))

/-- HOLDOFF_END (09 R242, R243). -/
def execHoldoffEnd (t : Nat) (ch : Fin 4) (s : State) : Out := go ((s.reach t).happenIf ch (fun h => h == .holdEnd))

/-- AUTO_TRIGGER (09 R245). -/
def execAutoTrigger (t : Nat) (ch : Fin 4) (s : State) : Out := go ((s.reach t).happenIf ch (fun h => h == .auto))

/-- SEGMENT_CLOSE (12 R297): what is due closes, and the oldest closed segment or record takes the values that `codes` make. -/
def execSegmentClose (t : Nat) (ch : Fin 4) (codes : Codes) (s : State) : Out := go ((s.reach t).closeStep ch codes)

end Sys2Proof.Machine
end

