-- ==== Sys2Proof/Machine/Clock.lean ====
section
/-!
DEFINITION. The clock family and its reference (06): detection and qualification, disciplining, holdover and return, steps,
the band table and the relock of the root.
-/

namespace Sys2Proof.Machine

/-- DATA of a clock event (06 R173). -/
def State.ckData (s : State) (b : Nat) (v : Int) : List Byte :=
  leBytes 1 b ++ leBytes 1 s.ck.refFreq ++ [0#8, 0#8] ++ leBytes 8 (encInt 64 v)

/-- Log a clock event. -/
def State.ckEvent (s : State) (code sev b : Nat) (v : Int) : State := s.logEv code sev 0 (s.ckData b v)

/-- Whether this module is a DEPUTY or WORKER (16 R393). -/
def State.isMember (s : State) : Bool := s.ar.role == 2 || s.ar.role == 3

/-- Whether steps 3 to 7 of R166 are under way: the slice clock stands (06 R166, 07 R188). -/
def State.clockStopped (s : State) : Bool := s.ck.synth == 2 || s.ck.relock.any (fun r => r.step == 4 || r.step == 5)

/-- Whether a relock or RELOCK work holds the clock subsystem (02 R49; 06 R169, R170). -/
def State.clockBusy (s : State) : Bool := s.ck.relock.isSome || s.working 0x0404

/-- The reference state reported: in a member, that of the upstream (16 R396). -/
def State.refReport (s : State) : Nat := if s.isMember then flag (s.ar.ports[0] || s.ar.viaSb) else s.ck.refState

/-! Quality bits and discipline states (06 R157; 16 R396). -/

/-- SLEWING, HOLDOVER and LOCKED of a discipline state: [3], [1], [0] (06 R157; 07 R175). -/
def discBits (disc : Nat) : Nat :=
  match disc with
  | 1 => 1
  | 2 => 2
  | 3 => 2
  | 4 => 8
  | 5 => 2
  | _ => 0

/-- QUAL[4:0] that the clock and the array give (06 R157; 16 R396, R397): bits [3:0] are zero in FREE (07 R178). -/
def State.wantQual (s : State) (stepped : Bool) : BitVec 5 :=
  let own := discBits s.ck.disc
  let up := s.ar.upQual.toNat
  let runs := s.ck.disc != 0
  let locked := bitAt own 0 && (!s.isMember || bitAt up 0)
  let hold := runs && (bitAt own 1 || (s.isMember && bitAt up 1))
  let slew := runs && (bitAt own 3 || (s.isMember && bitAt up 3))
  BitVec.ofNat 5 (flag locked + 2 * flag hold + 4 * flag (runs && stepped) + 8 * flag slew + 16 * flag s.ar.aligned)

/-- Whether module time has been stepped since the last epoch mark (07 R175). -/
def State.stepped (s : State) : Bool := s.tm.stepped

/-- Bring the quality bits in line from boundary `b`; the holdover count starts when HOLDOVER becomes 1 (06 R157). -/
def State.applyQualAt (s : State) (b : Nat) (stepped : Bool) : State :=
  let q := s.wantQual stepped
  let s1 := (s.setQualAt b q).modTm (fun m => { m with stepped := stepped })
  if q.getLsbD 1 && !(s.tm.qual.getLsbD 1) then s1.modCk (fun k => { k with holdFrom := b }) else s1

/-- Bring the quality bits in line from the next DSP-cycle boundary. -/
def State.applyQual (s : State) : State := s.applyQualAt s.boundary s.stepped

/-- Enter a discipline state. -/
def State.setDisc (s : State) (d : Nat) : State := (s.modCk (fun k => { k with disc := d })).applyQual

/-- Enter LOCKED (06 R157, R158): CK_LOCKED is logged and the work of RELOCK ACTION 1 ends. -/
def State.enterLocked (s : State) : State :=
  let was := s.ck.disc
  let s1 := (s.setDisc 1).ckEvent 0x0403 sevInfo was s.ck.e
  (s1.modCk (fun k => { k with action1 := false })).endWorkIf (fun w => w.code == 0x0404 && w.arg == 1) stOk 0

/-- CK_PHASE_TOL in fs. -/
def State.phaseTol (s : State) : Nat := s.mkey 0x0404 * 1000

/-- The reference period in fs (06 R155). -/
def State.refPeriod (s : State) : Nat := if s.ck.refFreq = 2 then 10000000 else 100000000

/-- A phase error as it is known: modulo one period, from -half to +half with the upper end included (06 R155). -/
def reduceHalf (e : Int) (p : Nat) : Int :=
  let r := e % (p : Int)
  if (p : Int) < 2 * r then r - p else r

/-- A length of picoseconds in fine units, to the nearest. -/
def psFine (ps : Int) : Int := divHalfEven (ps * 3 * fineUnit) 1000

/-- The instant of the last PPS_IN edge at the far end of the carrier's cable, in fine units of module time as it now counts (07 R179). -/
def State.ppsInstant (s : State) : Int :=
  ((s.tm.ppsLast.getD 0 : Nat) : Int) - psFine (s.ikey 32 0x0503 0) + s.tm.off * fineUnit

/-- The phase error that the last PPS_IN edge shows, in fs: its instant less the whole second that it marks, the nearest (06 R155, 07
R179; log entry 30). -/
def State.ppsError (s : State) : Int :=
  let sec : Int := 3000000000 * fineUnit
  let r := s.ppsInstant % sec
  divHalfAway ((if sec < 2 * r then r - sec else r) * 1000000) (3 * fineUnit)

/-- The phase error in full, of an error known modulo one reference period: the value nearest to what the last PPS_IN edge shows, or to
the error as it was taken since that edge (06 R155, R158; log entry 30). -/
def State.fullError (s : State) (e : Int) : Int :=
  let base := if s.ck.eKind == 1 && s.tm.ppsLast.any (fun f => decide (f ≤ s.ck.eAt * fineUnit)) then s.ck.e else s.ppsError
  base + reduceHalf (e - base) s.refPeriod

/-- The phase error as measured and its kind (06 R155; 16 R396): in a member the θ of its upstream, in full through PPS_IN, else the row's
error modulo a reference period. -/
def State.measured (s : State) (e : Int) : Int × Nat :=
  if s.isMember then (s.ar.theta, 1) else if s.tm.ppsQual then (s.fullError e, 1) else (reduceHalf e s.refPeriod, 2)

/-- Take a measurement of the phase error. -/
def State.takeError (s : State) (e : Int) : State :=
  let m := s.measured e
  s.modCk (fun k => { k with e := m.1, eKind := m.2, eAt := s.clk })

/-- Whether any channel is ARMED, ACQUIRING or HOLDOFF. -/
def State.anyArmed (s : State) : Bool := allCh.any s.armedOn

/-! Loss and qualification of what the loop follows (06 R156, R157, R160–R162). -/

/-- The mean steering value over the CK_DISC_TAU before tick `gate` (06 R156). -/
def State.meanSteer (s : State) (gate : Nat) : Int :=
  let l := (s.ck.steers.filter (fun x => decide (x.1 < gate ∧ gate ≤ x.1 + s.mkey 0x0405 * 3000000000))).map (·.2)
  if l.isEmpty then s.ck.steer else divHalfEven (l.foldl (· + ·) 0) l.length

/-- The loop loses what it follows: the steering freezes, the state becomes HOLDOVER (06 R156, R157, R162). -/
def State.loseLock (s : State) (gate : Nat) : State :=
  let s1 := s.modCk (fun k => { k with steer := s.meanSteer gate })
  let s2 := if s.ck.disc = 1 ∨ 3 ≤ s.ck.disc then s1.setDisc 2 else s1
  let s3 := if s2.tm.epoch.isNone then s2.modTm (fun m => { m with epochEdge := none }) else s2
  (s3.modCk (fun k => { k with action1 := false })).endWorkIf (fun w => w.code == 0x0404 && w.arg == 1) eHw 0

/-- The discipline state that a qualification enters (06 R157, R161): the first one after power-up steps whatever the error and the
policy, unless a channel is past ARMING. A later one from FREE, after CK_REF_SELECT 3, follows the policy as from HOLDOVER: DESIGN CHOICE,
the spec rules the first one alone (log entry 54). -/
def State.qualState (s : State) : Nat :=
  if s.ck.disc = 0 ∧ s.ck.firstQual = false ∧ s.anyArmed = false ∧ s.isMember = false then 5
  else if s.ck.e.natAbs ≤ s.phaseTol then 1
  else match s.mkey 0x0403 with
    | 0 => 4
    | 1 => if s.isMember then 4 else 5
    | _ => 3

/-- What the loop follows qualifies with phase error `e` (06 R153, R157, R161). -/
def State.gainLock (s : State) (e : Int) : State :=
  let s1 := s.takeError e
  let d := s1.qualState
  let s2 := s1.modCk (fun k => { k with firstQual := true, since := s.clk })
  let s3 := if d = 1 then s2 else s2.setDisc d
  let s4 := s3.ckEvent 0x0402 sevNotice d s3.ck.e
  if d = 1 then s4.enterLocked else s4

/-! The reference detector (06 R152, R153). -/

/-- The nominal of a frequency code, in 0.1 mHz. -/
def nominalHz (code : Nat) : Nat := if code = 1 then 100000000000 else if code = 2 then 1000000000000 else 0

/-- The nominal against which a gate is judged: the selected one, else the one within 5 % (06 R152). -/
def nominalOf (sel freq : Nat) : Nat :=
  let near (code : Nat) : Bool := decide (((freq : Int) - (nominalHz code : Int)).natAbs * 20 ≤ nominalHz code)
  if sel = 1 then 1 else if sel = 2 then 2 else if near 1 then 1 else if near 2 then 2 else 0

/-- Whether a frequency lies within CK_REF_WINDOW of a nominal. -/
def State.inWindow (s : State) (code freq : Nat) : Bool :=
  code != 0 && decide (((freq : Int) - (nominalHz code : Int)).natAbs * 1000000000 ≤ s.mkey 0x0401 * nominalHz code)

/-- The reference is lost, if it was qualified (06 R156); `st` and `freq` are what the detector reports now. CK_REF_LOST is logged for the
REF_IN of a deputy too, which does not follow it; 06 R173 and 16 R396 leave a member's clock events open (DESIGN CHOICE, log entry 54). -/
def State.refLose (s : State) (st freq gate : Nat) : State :=
  let s1 := s.modCk (fun k => { k with refState := st, refFreq := freq, refQual := false })
  if s.ck.refQual then
    let s2 := if s.isMember then s1 else s1.loseLock gate
    s2.ckEvent 0x0401 sevWarning st s.ticks
  else s1

/-- A 100 ms gate ends (06 R152). -/
def State.refGate (s : State) (edges : Bool) (freq : Nat) : State :=
  let gate := s.ck.gateAt
  let code := if edges then nominalOf (s.mkey 0x0400) freq else 0
  let st := if !edges then 0 else if s.inWindow code freq then 1 else 2
  let changed := s.ck.refState != 1 || s.ck.refFreq != code
  let s1 := if st = 1 ∧ (s.ck.refQual = false ∨ changed = false)
    then s.modCk (fun k => { k with refState := st, refFreq := code }) else s.refLose st code gate
  s1.modCk (fun k => { k with gateAt := s.clk, refSince := if changed then gate else k.refSince })

/-- Absence of the reference is detected (06 R152, R156). -/
def State.refAbsent (s : State) : State := if s.ck.refState = 0 then s else s.refLose 0 0 s.ck.gateAt

/-- The reference has been present for CK_REF_QUAL_TIME (06 R153); a deputy tracks it without following it (16 R396), and logs no
CK_REF_QUALIFIED, since no discipline state is entered (DESIGN CHOICE, log entry 54). -/
def State.refQualify (s : State) (e : Int) : State :=
  if s.ck.refState = 1 ∧ s.ck.refQual = false ∧ s.mkey 0x0400 ≠ 3 ∧ s.ar.role ≠ 3
      ∧ s.ck.refSince + s.mkey 0x0402 * 3000000 ≤ s.clk ∧ s.pw.st ≤ 2 then
    let s1 := s.modCk (fun k => { k with refQual := true })
    if s.isMember then s1 else s1.gainLock e
  else s

/-- Whether the loop has something to follow: the reference, or in a member its upstream after 16 exchanges (16 R396). -/
def State.following (s : State) : Bool :=
  if s.isMember then (s.ar.ports[0] || s.ar.viaSb) && decide (16 ≤ s.ar.exchanges) else s.ck.refQual

/-- Steering values are kept as far back as the freeze of R156 may need. -/
def State.pushSteer (s : State) (v : Int) : State :=
  s.modCk (fun k => { k with
    steer := v, steers := (s.clk, v) :: k.steers.filter (fun x => decide (s.clk ≤ x.1 + 1001 * 3000000000)) })

/-- The most that the loop may remove of a phase error, 10 ns/s, which is also the offset of a slew, 10 ppb: in parts in 10^12. -/
def maxPull : Int := 10000

/-- The frequency offset with which the loop removes the phase error, in parts in 10^12 (06 R154, R157, R158): LOCKED with the time
constant CK_DISC_TAU, of first order (DESIGN CHOICE, log entry 54) and at most 10 ns/s; SLEWING at 10 ppb in the sign that reduces |e|;
none while the return waits for a step or for the host. -/
def State.phasePull (s : State) : Int :=
  match s.ck.disc with
  | 1 => clampInt (-maxPull) maxPull (-(divHalfEven s.ck.e (1000 * max 1 (s.mkey 0x0405))))
  | 4 => if 0 < s.ck.e then -maxPull else maxPull
  | _ => 0

/-- Whether the loop's next run is due: it runs every 1 ms (06 R154). -/
def State.loopDue (s : State) : Bool := s.ck.steers.head?.all (fun x => decide (x.1 + 3000000 ≤ s.clk))

/-- The loop's update (06 R154, R158): the oven is steered by the frequency that the loop has found, `steer`, and by what removes the
phase error; SLEWING ends within the tolerance. -/
def State.disciplineUpdate (s : State) (e steer : Int) : State :=
  if s.following = true ∧ (s.ck.disc = 1 ∨ 3 ≤ s.ck.disc) ∧ s.pw.st ≤ 2 ∧ s.loopDue = true then
    let s0 := s.takeError e
    let done := s0.ck.disc == 4 && decide (s0.ck.e.natAbs ≤ s.phaseTol)
    let s1 := if done then s0.enterLocked else s0
    s1.pushSteer (clampInt (-2500000) 2500000 (steer + s1.phasePull))
  else s

/-! Steps (06 R159; 16 R398). -/

/-- k of R159: the multiple of 4 nearest to e in ticks, halves toward zero. -/
def stepTicks (e : Int) : Int := 4 * divHalfToZero (3 * e) 4000000

/-- The next whole-second tick after a slice-clock tick, as a slice-clock tick. -/
def State.wholeSecond (s : State) (c : Nat) : Nat := s.clkOf (ceilDiv (s.ticksAt c + 1) 3000000000 * 3000000000)

/-- The instant of the PPS epoch that is awaited since tick `since`, as a fine instant (06 R159, 07 R183). -/
def State.ppsEpoch (s : State) (since : Nat) : Option Nat :=
  if s.tm.ppsQual || s.tm.epochEdge.isSome then s.tm.epochEdge else some (s.wholeSecond since * fineUnit)

/-- The boundary of a step or epoch mark: at or after the epoch, later by AR_TRIG_DELAY in a manager (16 R398). -/
def State.epochBoundary (s : State) (inst : Nat) : Nat :=
  s.boundaryFrom (ceilDiv inst fineUnit + if s.ar.role = 1 then s.mkey 0x0E04 else 0)

/-- At the epoch the manager tells its members of a step or mark, boundary, change, kind, and awaits the boundary as they do (16 R390,
R398); `rest` is the phase error that it leaves. -/
def State.sendEpoch (s : State) (b : Nat) (d : Int) (kind : Nat) (rest : Int) : State :=
  (s.sendN 0x02 0xFFFF [s.ticksAt b, encInt 64 d, kind]).modAr (fun a => { a with
    epochs := a.epochs ++ [⟨s.ticksAt b, d, kind, some rest⟩] })

/-- The code of APPLY (02 R44). -/
def codeApply : Nat := 0x0005

/-- The offset of DONE_TICKS in a response (02 R41). -/
def doneAt : Nat := 16

/-- The DONE_TICKS of an APPLY that committed at boundary `b` carries the stepped value (06 R162), and so does LAST_APPLY_TICKS (02 R70). -/
def State.stepDone (s : State) (b : Nat) (d : Int) : State :=
  let old := (((s.ticksAt b : Nat) : Int) - d).toNat
  s.modMr (fun m => { m with
    lastApply := if m.lastApply = old then s.ticksAt b else m.lastApply
    mbs := m.mbs.map (fun x =>
      if x.code = codeApply ∧ x.state = .done ∧ sliceAt x.rsp doneAt 8 = leBytes 8 old then
        { x with rsp := x.rsp.take doneAt ++ leBytes 8 (s.ticksAt b) ++ x.rsp.drop (doneAt + 8) }
      else x) })

/-- Step module time by `d` ticks at boundary `b` (06 R159): STEPPED, CK_STEP, timers passed over. -/
def State.doStep (s : State) (b : Nat) (d : Int) : State :=
  if d = 0 then s
  else
    let s1 := (s.shiftTime b d).applyQualAt b true
    let s2 := s1.modCk (fun k => { k with lastStep := d, lastStepT := s1.ticksAt b })
    ((s2.stepDone b d).timersCross b).logEvAt b 0x0404 sevNotice 0 (s2.ckData 0 d)

/-- What follows a step or epoch mark with phase error `e` left: LOCKED or SLEWING (06 R159, 07 R185). -/
def State.afterStep (s : State) (e : Int) : State :=
  let s1 := s.modCk (fun k => { k with e := e, eAt := s.clk })
  if e.natAbs ≤ s.phaseTol then s1.enterLocked else s1.setDisc 4

/-- The first announced step or epoch mark that is due here: of the manager in a member, of its own in the manager; one received stays due
in a deputy that has taken over (16 R398, R411). -/
def State.dueEpoch (s : State) (mark : Bool) : Option DueEpoch :=
  s.ar.epochs.find? (fun d => (d.kind != 0) == mark && decide (d.b ≤ s.ticks))

/-- Whether a step or mark is announced and its boundary has not come (16 R398). -/
def State.announced (s : State) (mark : Bool) : Bool := s.ar.epochs.any (fun d => (d.kind != 0) == mark)

/-- Take a step or mark off the list. -/
def State.dropEpoch (s : State) (d : DueEpoch) : State := s.modAr (fun a => { a with epochs := a.epochs.erase d })

/-- A step of the module's own at boundary `b`, with the phase error that it leaves. -/
def State.performStep (s : State) (b : Nat) (d rest : Int) : State :=
  let s1 := (s.doStep b d).modTm (fun m => { m with epochEdge := none })
  if s.ck.disc = 5 then s1.afterStep rest else s1

/-- The step of STEP_PENDING at its PPS epoch, not before step 8 of a relock that succeeds (06 R159, R169): a manager announces it at the
epoch (16 R398), any other module steps at the boundary. -/
def State.ownStep (s : State) (e : Int) : State :=
  if s.ck.disc ≠ 5 ∨ s.isMember = true ∨ s.ck.synth ≠ 0 ∨ s.tm.epoch.isSome = true ∨ s.announced false = true then s
  else match s.ppsEpoch s.ck.since with
    | none => s
    | some f =>
      let b := s.epochBoundary f
      if s.clk < (if s.ar.role = 1 then ceilDiv f fineUnit else b) then s
      else
        let s0 := s.takeError e
        let k := stepTicks s0.ck.e
        let rest := s0.ck.e - divHalfEven (k * 1000000) 3
        if s.ar.role = 1 ∧ k ≠ 0 then s0.sendEpoch b (-k) 0 rest
        else if s.clk < b then s
        else s0.performStep b (-k) rest

/-- A step that was announced takes place at its boundary (16 R398): in the manager as its own. -/
def State.announcedStep (s : State) (d : DueEpoch) : State :=
  match d.rest with
  | some r => (s.dropEpoch d).performStep (s.clkOf d.b) d.delta r
  | none => (s.dropEpoch d).doStep (s.clkOf d.b) d.delta

/-- A step (06 R159; 16 R398): one announced that is due, else the module's own, announced in a manager and, when its boundary has come
too, performed. -/
def State.clockStep (s : State) (e : Int) : State :=
  match s.dueEpoch false with
  | some d => s.announcedStep d
  | none =>
    let s1 := s.ownStep e
    match s1.dueEpoch false with
    | some d => s1.announcedStep d
    | none => s1

/-! The band table (06 R163, R164). -/

/-- The entry of a table that applies at a temperature, with its index. -/
def bandIndex : List BandEntry → Int → Nat
  | [], _ => 0
  | l, t => (l.filter (fun e => decide (e.tLow ≤ t))).length - 1

/-- The entry in force at a die temperature: the loaded table's, else the built-in one. -/
def State.bandFor (s : State) (t : Int) : BandEntry :=
  if s.ck.bands.isEmpty then ⟨t, (Config.builtinBand t).toNat, (Config.builtinIcp t).toNat, (Config.builtinFine t).toNat⟩
  else s.ck.bands.getD (bandIndex s.ck.bands t) default

/-- The entry of a payload at index `i`. -/
def bandAt (p : List Byte) (i : Nat) : BandEntry :=
  ⟨decInt 16 (fieldAt p (8 + 8 * i) 2), fieldAt p (10 + 8 * i) 1, fieldAt p (11 + 8 * i) 1, fieldAt p (12 + 8 * i) 2⟩

/-- Whether the entry at index `i` is in range. -/
def bandOk (p : List Byte) (i : Nat) : Bool :=
  let e := bandAt p i
  decide (-400 ≤ e.tLow ∧ e.tLow ≤ 1250) && decide (e.band < 64) && decide (e.icp < 16) && decide (e.fine < 4096)
    && fieldAt p (14 + 8 * i) 2 == 0 && (i == 0 || decide ((bandAt p (i - 1)).tLow < e.tLow))

/-- The payload length of LOAD_BAND_TABLE. -/
def bandLen : Req → Bool := fun r => r.plen == 8 + 8 * fieldAt r.payload 0 1

/-- LOAD_BAND_TABLE's own part at a die temperature in 0.1 °C. -/
def loadBandBody (temp : Int) : Body := fun r s =>
  let n := fieldAt r.payload 0 1
  if n = 0 ∨ 32 < n ∨ fieldAt r.payload 1 7 ≠ 0 ∨ (List.range n).all (bandOk r.payload) = false then fails eParam s
  else if s.clockBusy = true then fails eBusy s
  else
    let l := (List.range n).map (bandAt r.payload)
    answers (leBytes 1 (bandIndex l temp) ++ List.replicate 3 0#8 ++ leBytes 2 (encInt 16 temp) ++ [0#8, 0#8])
      (s.modCk (fun k => { k with bands := l }))

/-! What a relock does elsewhere. -/

/-- The code of a TDC measurement's work: its two channels. -/
def Measure.key (m : Measure) : Nat := 16 * m.startSrc + m.stopSrc

/-- TDC_MEASURE work ends (07 R193). -/
def State.endMeasure (s : State) (m : Measure) (status : Nat) : State :=
  (s.modTm (fun x => { x with meas := x.meas.filter (fun y => y.key != m.key) })).endWorkIf
    (fun w => w.code == 0x0405 && w.arg == m.key) status (m.done % 65536 + 65536 * m.orFlags)

/-- Whether every TDC channel is calibrated. -/
def Time.allCal (m : Time) : Bool := m.cal.toList.all id

/-- A TDC channel loses calibration (07 R187). -/
def State.tdcUncal (s : State) (c : Fin 10) : State :=
  let s1 := s.modTm (fun m => { m with cal := m.cal.set c.val false })
  if s.tm.allCal then s1.logEv 0x0505 sevError 0 (leBytes 1 c.val ++ List.replicate 3 0#8 ++ leBytes 8 s.ticks) else s1

/-- Every TDC channel loses calibration and every measurement ends (07 R187, R193). -/
def State.tdcStop (s : State) : State :=
  let s1 := (List.finRange 10).foldl (fun a c => a.tdcUncal c) s
  s1.tm.meas.foldl (fun a m => a.endMeasure m eHw) s1

/-- PAUSE on every up port (16 R413). -/
def State.sendPause (s : State) : State := s.upPorts.foldl (fun a p => a.sendOn [p] 0x0F p.val []) s

/-- The module's own Nired clocks stop after PAUSE: its ports go down, a member coasts (06 R166; 16 R413). -/
def State.niredStop (s : State) : State :=
  let s1 := s.modAr (fun a => { a with
    ports := Vector.replicate 3 false, exchanges := 0, wire := begunWire s.clk a.wire
    paused := Vector.ofFn (fun (p : Fin 3) => if a.ports[p] then some s.clk else a.paused[p]) })
  if s.isMember && s.ar.ports[0] then s1.loseLock s.clk else s1

/-! Relock (06 R165–R168). -/

/-- Step 3 of R166: the clocks go to the fallback; step 4 follows. Without PAUSE the ports go down on their own (16 R413). -/
def State.toFallback (s : State) : State :=
  match s.ck.relock with
  | none => s
  | some r =>
    let s1 := (s.modCk (fun k => { k with
      relock := some { r with step := 4, attempt := 1 }, sscOn := false, refOutOven := true })).tdcStop
    if r.cause = 4 then s1 else s1.niredStop

/-- Step 1 of R166: the event; a relock that RELOCK did not begin stops channels; every waiting or playing output stops (15 R383). -/
def State.relockEvent (s : State) (cause : Nat) : State :=
  let s1 := s.ckEvent 0x0405 sevNotice cause s.ticks
  let q := s1.boundaryFrom (s1.clk + 1)
  let s2 := if cause = 1 then s1 else allCh.foldl (fun a c => if a.armedOn c then a.orderHalt q 5 3 c else a) s1
  ([0, 1] : List (Fin 2)).foldl (fun a o => a.orderStop o q 3) s2

/-- Begin a relock at a die temperature (06 R166 steps 1 and 2): an entry to a power state in progress is refused (17 R426). -/
def State.startRelock (s : State) (cause : Nat) (temp : Int) : State :=
  let e := s.bandFor temp
  let s1 := s.relockEvent cause
  let s2 := if s1.pw.entry.any (fun x => decide (x.step < 9)) then s1.rollback 11 else s1
  let s3 := if cause = 4 then s2 else s2.sendPause
  let s4 := (s3.srRequest false).modCk (fun k => { k with
    synth := 1, relock := some ⟨cause, 2, 0, e, e.band, s.clk⟩, refOutOven := cause == 3 || cause == 4 })
  if cause = 4 ∨ s4.mem.sr = .on then s4.toFallback else s4

/-- The bands of a relock in their order (06 R166 step 6). -/
def bandOrder (b : Nat) : List Nat :=
  (([0, 1, -1, 2, -2, 3, -3, 4] : List Int).map (fun d => (b : Int) + d)).filterMap (fun x =>
    if 0 ≤ x ∧ x ≤ 63 then some x.toNat else none)

/-- The synthesiser fails (06 R167): the fault, the work, an ARM that waits. -/
def State.lockFail (s : State) (band : Nat) : State :=
  let s1 := (s.modCk (fun k => { k with synth := 2, relock := none })).ckEvent 0x0407 sevCritical band s.ticks
  let s2 := (s1.endWorkIf (fun w => w.code == 0x0404 && w.arg == 0) eHw 0).failArm eHw 0
  if s2.followers.isEmpty then s2 else (s2.revertArm s2.followers).endFollow

/-- An attempt fails (06 R166 steps 4 to 6). -/
def State.attemptFails (s : State) : State :=
  match s.ck.relock with
  | none => s
  | some r =>
    if r.step ≠ 4 ∧ r.step ≠ 5 then s
    else match (bandOrder r.entry.band)[r.attempt]? with
      | some b => s.modCk (fun k => { k with relock := some { r with step := 4, attempt := r.attempt + 1, band := b, began := s.clk } })
      | none => s.lockFail r.band

/-- Lock is declared (06 R166 step 4). -/
def State.lockDeclared (s : State) : State :=
  match s.ck.relock with
  | none => s
  | some r => if r.step = 4 then s.modCk (fun k => { k with relock := some { r with step := 5, began := s.clk } }) else s

/-- The frequency monitor agrees (06 R166 steps 5 and 7): the clocks run from the root again. -/
def State.freqAgrees (s : State) : State :=
  match s.ck.relock with
  | none => s
  | some r =>
    if r.step = 5 then s.modCk (fun k => { k with
      relock := some { r with step := 8, began := s.clk }, band := r.band, tries := r.attempt, refOutOven := false, edge90 := false })
    else s

/-- Step 8 of R166: memory exits self-refresh, modulation resumes, the relock has ended. -/
def State.relockDone (s : State) : State :=
  match s.ck.relock with
  | none => s
  | some r =>
    if r.step ≠ 8 then s
    else
      let s1 := if s.pw.st ≤ 1 then s.srWake else s
      let s2 := (s1.modCk (fun k => { k with synth := 0, relock := none, sscOn := true, since := s.clk })).modTm (fun m =>
        { m with epochEdge := none, epoch := m.epoch.map (fun e => { e with since := s.clk }) })
      ((s2.ckEvent 0x0406 sevNotice r.band r.attempt).endWorkIf (fun w => w.code == 0x0404 && w.arg == 0) stOk
        (r.band + 256 * r.attempt)).syncDomains

/-- Whether the root runs and drives the clocks, so that it can lose lock: also from step 7 on (06 R169). -/
def State.rootDrives (s : State) : Bool := decide (s.pw.st ≤ 2) && (s.ck.synth == 0 || s.ck.relock.any (fun r => r.step == 8))

/-- Lock is lost (06 R165). -/
def State.lockLost (s : State) (temp : Int) : State := if s.rootDrives then s.startRelock 3 temp else s

/-- The control voltage, in 0.1 % of its range, passes a limit (06 R165). While a relock is under way, with the root driving from step 7
on, passing 97 % starts no new relock (DESIGN CHOICE, log entry 59). -/
def State.bandEdge (s : State) (ctl : Nat) (temp : Int) : State :=
  if !s.rootDrives then s
  else
    let beyond := decide (900 < ctl ∨ ctl < 100)
    let s1 := s.modCk (fun k => { k with edge90 := beyond })
    let s2 := if beyond && !s.ck.edge90 then s1.ckEvent 0x0408 sevWarning s.ck.band ctl else s1
    if (970 < ctl ∨ ctl < 30) ∧ s.mkey 0x0409 = 1 ∧ s.ck.synth = 0 then s2.startRelock 2 temp else s2

/-- The overspeed guard finds the root fast by `excess` in 0.1 ppm (06 R168): step 3 follows at once, also where a relock in steps 1 and
2 still waits for self-refresh. -/
def State.overspeed (s : State) (excess : Nat) (temp : Int) : State :=
  if excess ≤ 300 then s
  else
    let s1 := s.ckEvent 0x0409 sevError s.ck.band excess
    if s.rootDrives then s1.startRelock 4 temp
    else if s.ck.relock.any (fun r => r.step == 2) then s1.toFallback
    else s

/-! REF_OUT (06 R172). -/

/-- The period of REF_OUT in ticks under CK_REF_OUT, none where it is off or the module does not run (06 R172; 17 R419). -/
def State.refOutPeriod (s : State) : Option Nat :=
  if 3 ≤ s.pw.st then none
  else match s.mkey 0x0408 with
    | 1 => some 300
    | 2 => some 30
    | _ => none

/-- Whether REF_OUT rises at slice-clock tick `c`: on ticks that are multiples of its period, from the root as from the oven (06 R172). -/
def State.refOutRises (s : State) (c : Nat) : Bool := s.refOutPeriod.any (fun n => s.ticksAt c % n == 0)

/-- Whether REF_OUT, a square wave, is high at slice-clock tick `c`. -/
def State.refOutHigh (s : State) (c : Nat) : Bool := s.refOutPeriod.any (fun n => decide (s.ticksAt c % n < n / 2))

/-! RELOCK (06 R170). -/

/-- RELOCK's own part. -/
def relockBody (temp : Int) : Body := fun r s =>
  let act := fieldAt r.payload 0 1
  let pol := fieldAt r.payload 1 1
  if 1 < act ∨ (act = 0 ∧ pol ≠ 0) ∨ 1 < pol ∨ fieldAt r.payload 2 6 ≠ 0 then fails eParam s
  else if act = 0 ∧ (allCh.any s.running = true ∨ s.out[0].st = 3 ∨ s.out[1].st = 3) then fails eState s
  else if act = 1 ∧ s.ck.disc ≠ 3 then fails eState s
  else if s.clockBusy = true then fails eBusy s
  else if s.workFull = true then fails eNores s
  else if act = 0 then accepted ((s.addWork r 0 0).startRelock 1 temp)
  else accepted (((s.addWork r 1 0).modCk (fun k => { k with action1 := true, since := s.clk })).setDisc
    (if pol = 0 then 4 else if s.isMember then 4 else 5))

/-! The rows. -/

/-- LOAD_BAND_TABLE (06 R164). -/
def execLoadBandTable (t : Nat) (mb : Fin 17) (temp : Int) (s : State) : Out := go (s.command t mb 0x0403 bandLen (loadBandBody temp))

/-- RELOCK (06 R170). -/
def execRelock (t : Nat) (mb : Fin 17) (temp : Int) (s : State) : Out := go (s.command t mb 0x0404 (lenIs 8) (relockBody temp))

/-- REF_GATE (06 R152). -/
def execRefGate (t : Nat) (edges : Bool) (freq : Nat) (s : State) : Out := go ((s.reach t).refGate edges freq)

/-- REF_LOSS (06 R152, R156). -/
def execRefLoss (t : Nat) (s : State) : Out := go ((s.reach t).refAbsent)

/-- REF_QUALIFICATION (06 R153). -/
def execRefQualification (t : Nat) (e : Int) (s : State) : Out := go ((s.reach t).refQualify e)

/-- DISCIPLINE_UPDATE (06 R154). -/
def execDisciplineUpdate (t : Nat) (e steer : Int) (s : State) : Out := go ((s.reach t).disciplineUpdate e steer)

/-- CLOCK_STEP (06 R159). -/
def execClockStep (t : Nat) (e : Int) (s : State) : Out := go ((s.reach t).clockStep e)

/-- LOCK_LOSS (06 R165). -/
def execLockLoss (t : Nat) (temp : Int) (s : State) : Out := go ((s.reach t).lockLost temp)

/-- BAND_EDGE (06 R165). -/
def execBandEdge (t ctl : Nat) (temp : Int) (s : State) : Out := go ((s.reach t).bandEdge ctl temp)

/-- OVERSPEED (06 R168). -/
def execOverspeed (t excess : Nat) (temp : Int) (s : State) : Out := go ((s.reach t).overspeed excess temp)

/-- LOCK_DECLARED (06 R166 step 4). -/
def execLockDeclared (t : Nat) (s : State) : Out := go ((s.reach t).lockDeclared)

/-- FREQUENCY_AGREEMENT (06 R166 steps 5 and 7). -/
def execFrequencyAgreement (t : Nat) (s : State) : Out := go ((s.reach t).freqAgrees)

/-- RELOCK_ATTEMPT_FAILURE (06 R166 step 6, R167). -/
def execRelockAttemptFailure (t : Nat) (s : State) : Out := go ((s.reach t).attemptFails)

/-- RELOCK_COMPLETION (06 R166 step 8). -/
def execRelockCompletion (t : Nat) (s : State) : Out := go ((s.reach t).relockDone)

/-- SSC_CHANGE (06 R171): the settings take effect at the end of a modulation period. -/
def execSscChange (t : Nat) (s : State) : Out :=
  let s0 := s.reach t
  go (s0.modCk (fun k => { k with sscMode := s0.mkey 0x0406, sscDepth := s0.mkey 0x0407 }))

end Sys2Proof.Machine
end

