-- ==== Sys2Proof/Machine/Flags.lean ====
section
/-!
DEFINITION. The health of the module (02 R70, R498; 04 R106; 16 R416): the levels of HEALTH, the bits of DEGRADE_CAUSE,
MODULE_STATE, and HL_STATUS (14 R350), which every reader computes from the state.
-/

namespace Sys2Proof.Machine

/-- The towers that are powered. -/
def State.poweredTowers (s : State) : List (Fin 4) := ([0, 1, 2, 3] : List (Fin 4)).filter s.towerOn

/-- Whether a slice of a tower has failed. -/
def State.towerFailed (s : State) (k : Fin 4) : Bool := decide (0 < s.tw[k].failedCount)

/-- Whether a phase of a tower is filled (04 R105). -/
def State.towerFilled (s : State) (k : Fin 4) : Bool := decide (0 < s.tw[k].filled)

/-- The slice level of one tower (04 R106). -/
def State.sliceLevelOf (s : State) (k : Fin 4) : Nat := if s.towerFilled k then 2 else flag (s.towerFailed k)

/-- The tower level of one tower (04 R106). -/
def State.towerLevelOf (s : State) (k : Fin 4) : Nat :=
  if s.towerFilled k then 2 else flag (s.tw[k].graft.isNone || s.tw[k].paused || s.mkey 0x0200 == 0)

/-- The worst of the powered towers, 3 when none is powered. -/
def State.worstTower (s : State) (f : Fin 4 → Nat) : Nat :=
  if s.poweredTowers.isEmpty then 3 else s.poweredTowers.foldl (fun a k => max a (f k)) 0

/-- The slice level of HEALTH (04 R106). -/
def State.sliceLevel (s : State) : Nat := s.worstTower s.sliceLevelOf

/-- The tower level of HEALTH (04 R106). -/
def State.towerLevel (s : State) : Nat := s.worstTower s.towerLevelOf

/-- Whether the synthesiser is in the fault of 06 R167. -/
def State.synthFault (s : State) : Bool := s.ck.synth == 2

/-- The powered towers that serve the present channels. -/
def State.servingTowers (s : State) : List (Fin 4) := ((allCh.filter s.present).flatMap s.towers).filter s.towerOn

/-- Whether a tower delivers out-of-specification data (02 R498; 04 R100, R105). -/
def State.towerOut (s : State) (k : Fin 4) : Bool := s.towerFilled k || s.tw[k].oos.any (fun o => o.fin.isNone)

/-- The channel level of HEALTH (02 R498). -/
def State.channelLevel (s : State) : Nat :=
  if s.servingTowers.isEmpty then 3
  else if s.synthFault || s.cal.active.isNone || s.servingTowers.any s.towerOut then 2
  else flag (s.servingTowers.any (fun k => s.sliceLevelOf k == 1 || s.towerLevelOf k == 1))

/-- Whether a slot is served, or is being moved to, a pseudo-channel that was a spare at power-up (13 R335). -/
def State.spareUsed (s : State) : Bool :=
  s.shownMig.isSome || s.mem.slots.any (fun x => x.any (fun p => s.mem.origSpare.contains p))

/-- Whether the firmware slot that is not running is invalid (19 R460). -/
def State.otherSlotBad (s : State) : Bool := s.fw.slotFault (s.fw.slot s.fw.other) != 0

/-- Whether an array link is absent (16 R416). -/
def State.linkAbsent (s : State) : Bool :=
  s.ar.role != 0 && (s.ar.astate == 3 || ([0, 1, 2] : List (Fin 3)).any (fun p => s.ar.joinPorts[p] && !(s.ar.ports[p])))

/-- The bits of DEGRADE_CAUSE, bit 0 first (02 R70). -/
def State.causes (s : State) : List Bool :=
  [s.poweredTowers.any s.towerFailed,
   s.towerLevel == 1 || s.towerLevel == 2 || s.cal.active.isNone,
   s.spareUsed,
   s.mem.slots.any (·.isNone),
   s.refReport != 1 && s.mkey 0x0400 != 3,
   s.tm.qual.getLsbD 1,
   s.linkAbsent,
   s.otherSlotBad,
   s.fw.unlocked,
   s.mon.accs.any (·.alarm)]

/-- Bits of a list, the first the least significant. -/
def bitList : List Bool → Nat
  | [] => 0
  | b :: bs => flag b + 2 * bitList bs

/-- DEGRADE_CAUSE (02 R70). -/
def State.degradeCause (s : State) : Nat := bitList s.causes

/-- MODULE_STATE (02 R498): 0 booting, 1 READY, 2 DEGRADED, 3 FAULT. -/
def State.moduleState (s : State) : Nat :=
  if s.synthFault || s.fw.recovery then 3 else if s.degradeCause = 0 then 1 else 2

/-- The module level of HEALTH (02 R498). -/
def State.moduleLevel (s : State) : Nat := s.moduleState - 1

/-- Whether a member of the manager's table is present and aligned; the manager itself is. -/
def memberSound (m : Member) : Bool := m.port == 255 || (m.mstate == 0 && m.aligned)

/-- The array level of HEALTH (16 R416). -/
def State.arrayLevel (s : State) : Nat :=
  if s.ar.role = 0 then 3
  else if s.ar.astate = 3 ∨ s.ar.astate = 4 then 2
  else if s.ar.role = 1 then flag (!(s.ar.members.all memberSound) || s.ar.deputy == 65535)
  else flag (!s.ar.aligned || s.ar.deputy == 65535 || s.ar.members.any (fun m => m.mstate != 0))

/-- The five bytes of HEALTH (02 R70). -/
def State.health (s : State) : List Nat :=
  [s.sliceLevel, s.towerLevel, s.channelLevel, s.moduleLevel, s.arrayLevel]

/-- The channels that run as reported, encoded as CHSEL (09 R228). -/
def State.runningMask (s : State) : Nat := chMask (allCh.filter (fun c => (s.ch[c].report s.clk).st.running))

/-- HL_STATUS (14 R350). -/
def State.hlStatus (s : State) : Nat :=
  (if s.fw.booted then s.moduleState else 0) + 256 * flag (s.fw.serving && !s.fw.halted) + 512 * min 3 s.pw.st + 65536 * flag s.hl.linkReset.isSome
    + 2 ^ 18 * s.mode + 2 ^ 20 * s.presentMask + 2 ^ 24 * s.runningMask

end Sys2Proof.Machine
end

