-- ==== Sys2Proof/Machine/TrellCmd.lean ====
section
/-!
DEFINITION. The trellis commands and the rows of pages and descriptors (12): SET_QUOTA, RELEASE_SEGMENTS,
GET_TRELLIS_STATUS, PAGE_NEED, HELD_ALLOCATION, DESCRIPTOR_WRITE.
-/

namespace Sys2Proof.Machine

/-! Filter delay and staging (12 R293). -/

/-- The staging need of each tower of a channel, in bytes, under the keys `key` gives for its own and the sources' channels. -/
def stagingNeed (mode towers per : Nat) (tb : SeqTable) (c : Fin 4) (key : Fin 4 → Nat → Nat) : Nat :=
  let accum := key c 0x0900 != 0
  let tp := if accum then key c 0x0902 else key c 0x0A03
  let l0 := if accum then 4200 else 420
  let v := tp + ceilDiv ((l0 + tableDelay mode tb key) * samplesPerTick mode) (max 1 (key c 0x0801))
  let words := ceilDiv (ceilDiv v (if accum then 4 else max 1 per) + 1) (max 1 towers)
  max 262144 (ceilDiv (131072 + 8 * words) 65536 * 65536)

/-! Status (12 R309–R312). -/

/-- TR_STATUS of a channel (12 R312). -/
def State.trStatus (s : State) (c : Fin 4) : Nat :=
  let h := s.ch[c]
  flag (h.open_.any (fun o => o.idx.isSome)) + 2 * flag h.overQuota + 4 * flag h.fullStop + 8 * flag (s.freePages == 0)
    + 16 * flag h.fReclaim.isSome + 32 * flag h.fTrunc.isSome + 64 * flag h.fRate.isSome + 65536 * flag (s.forceKey 0x0A01 c == 1)
    + 16777216 * s.forceKey 0x0A00 c

/-- Descriptor pages a channel holds. -/
def State.descPages (s : State) (c : Fin 4) : Nat := (s.tr.pages.filter (fun p => p.use == .desc c)).length

/-- Pages of accumulation reservations. -/
def State.accPages (s : State) : Nat := (s.tr.pages.filter (fun p => allCh.any (fun c => p.use == .acc c))).length

/-- A channel record of the summary (12 R309). -/
def State.trellisRecord (s : State) (c : Fin 4) : List Byte :=
  let h := s.ch[c]
  let mine := s.tr.segs.filter (fun g => g.ch == c)
  leBytes 4 (s.heldPages c) ++ leBytes 4 (s.pinnedPages c) ++ leBytes 4 h.quota ++ leBytes 4 (s.descPages c)
    ++ leBytes 4 h.acq ++ leBytes 4 (s.nextIdx c) ++ leBytes 4 mine.length
    ++ leBytes 4 (mine.filter (fun g => g.busy != 0)).length ++ leBytes 4 h.refAlloc ++ leBytes 4 h.reclaimed
    ++ leBytes 4 h.rateRef ++ leBytes 4 (s.trStatus c)

/-- The summary view (12 R309). -/
def State.trellisSummary (s : State) : List Byte :=
  leBytes 4 s.tr.total ++ leBytes 4 s.freePages ++ leBytes 4 s.playPages ++ leBytes 4 s.accPages
    ++ leBytes 2 s.tr.descQ.length ++ List.replicate 14 0#8 ++ allCh.flatMap s.trellisRecord

/-- The values of an open segment that are stored at present (12 R310). -/
def State.storedValues (s : State) (g : Seg) : Nat :=
  if g.closed then g.length
  else s.ch[g.ch].open_.elim 0 (fun o => if o.idx = some g.idx then s.stagedValues g.ch o.first o.last else 0)

/-- Pages that hold words of a segment. -/
def State.segPages (s : State) (g : Seg) : List Nat := g.wordPages (s.wordsOf g.fmt (s.storedValues g))

/-- SEG_STATE of a name that no held segment has: 2 gone, 3 not opened (12 R310). -/
def State.goneOrNot (s : State) (c : Fin 4) (a i : Nat) : Nat :=
  match s.acq? c a with
  | some q => if i < q.opened then 2 else 3
  | none => if a != 0 && (s.tr.wrapped[c] || decide (a ≤ s.tr.maxAcq[c])) then 2 else 3

/-- The segment view (12 R310). -/
def State.trellisSegment (s : State) (c : Fin 4) (a i start : Nat) : List Byte :=
  match s.seg? c a i with
  | none => List.replicate 32 0#8 ++ leBytes 1 (s.goneOrNot c a i) ++ List.replicate 15 0#8
  | some g =>
    let ps := s.segPages g
    let list := (ps.drop start).take 240
    { g with length := s.storedValues g }.descBytes ++ leBytes 1 (flag g.closed)
      ++ leBytes 1 (flag g.pinned + 2 * flag (g.busy != 0) + 4 * flag g.deferred) ++ leBytes 2 0 ++ leBytes 4 ps.length
      ++ leBytes 2 list.length ++ List.replicate 6 0#8 ++ list.flatMap (leBytes 4)

/-- GET_TRELLIS_STATUS's own part (12 R309, R310). -/
def trellisStatusBody : Body := fun r s =>
  let view := fieldAt r.payload 0 1
  let start := fieldAt r.payload 4 4
  let id := fieldAt r.payload 8 8
  if 1 < view ∨ fieldAt r.payload 1 3 ≠ 0 ∨ (view = 0 ∧ (start ≠ 0 ∨ id ≠ 0)) ∨ bitsAt id 24 8 ≠ 0 then fails eParam s
  else if view = 0 then answers s.trellisSummary s
  else answers (s.trellisSegment (Fin.ofNat 4 (id / 2 ^ 62)) (bitsAt id 32 30) (id % 2 ^ 24) start) s

/-! SET_QUOTA (12 R304, R306). -/

/-- The one channel that a selector "one" names. -/
def oneChan (chsel : Nat) : Fin 4 := (selChans chsel).headD 0

/-- SET_QUOTA's own part. -/
def setQuotaBody : Body := fun r s =>
  if fieldAt r.payload 4 4 ≠ 0 then fails eParam s
  else
    let c := oneChan r.chsel
    let s1 := s.reach (s.boundaryFrom (s.clk + 1))
    let prev := s1.ch[c].quota
    let s2 := ((s1.modCh c (fun h => { h with quota := fieldAt r.payload 0 4 })).quotaCheck c).overQuotaCheck c
    answers (leBytes 4 prev ++ leBytes 4 (s2.heldPages c) ++ leBytes 4 (s2.pinnedPages c) ++ leBytes 1 (flag s2.ch[c].overQuota)
      ++ List.replicate 3 0#8) s2

/-! RELEASE_SEGMENTS (12 R305, R307, R308). -/

/-- The names a command covers: channel, acquisitions and a range of indexes. -/
structure NameRange where
  ch    : Fin 4
  acqs  : List Nat
  first : Nat
  count : Nat
deriving DecidableEq, Repr

/-- Whether a segment is named. -/
def NameRange.has (n : NameRange) (g : Seg) : Bool :=
  g.ch == n.ch && n.acqs.contains g.acq && decide (n.first ≤ g.idx ∧ g.idx < n.first + n.count)

/-- The acquisitions that ACQ names: one, or each that holds a segment and the current one (12 R308). -/
def State.namedAcqs (s : State) (c : Fin 4) (a : Nat) : List Nat :=
  if a != 0 then [a]
  else (((s.tr.segs.filter (fun g => g.ch == c)).map (·.acq)) ++ (if s.ch[c].acq = 0 then [] else [s.ch[c].acq])).eraseDups

/-- Release the named segments: those that are closed and not busy go, busy ones go when their harvest completes. -/
def State.releaseSegs (s : State) (n : NameRange) : State :=
  (s.tr.segs.filter (fun g => n.has g && !(s.countsOpen g))).foldl (fun a g => a.loseSeg g) s

/-- Pin or unpin the named segments. -/
def State.pinSegs (s : State) (n : NameRange) (pin : Bool) : State :=
  s.modTr (fun t => { t with segs := t.segs.map (fun g => if n.has g then { g with pinned := pin } else g) })

/-- U of a channel under the values in force for PIN (12 R305). -/
def State.pinUnit (s : State) (c : Fin 4) : Nat :=
  let key (k : Nat) : Nat := if s.running c then s.akey k c else s.ckey k c
  unitPages (s.wordsOf (key 0x0806) (key 0x0A02))

/-- The response of RELEASE_SEGMENTS: DONE, SKIPPED, DEFERRED, FREED. -/
def releaseReply (total done deferred freed : Nat) : List Byte :=
  leBytes 4 done ++ leBytes 4 (total - done - deferred) ++ leBytes 4 deferred ++ leBytes 4 freed

/-- One operation at its commit point (12 R308): RELEASE, PIN or UNPIN. -/
def State.segmentOp (s : State) (op : Nat) (n : NameRange) : Answer × State :=
  let named := s.tr.segs.filter n.has
  let total := n.count * n.acqs.length
  match op with
  | 0 =>
    let s1 := s.releaseSegs n
    let closed := named.filter (fun g => !(s.countsOpen g))
    answers (releaseReply total (closed.filter (fun g => g.busy == 0)).length (closed.filter (fun g => g.busy != 0)).length
      (s.tr.pages.length - s1.tr.pages.length)) s1
  | 1 =>
    let s1 := s.pinSegs n true
    if s1.ch[n.ch].quota < s1.pinnedPages n.ch + s.pinUnit n.ch ∧ s.pinnedPages n.ch < s1.pinnedPages n.ch then fails eQuota s
    else answers (releaseReply total named.length 0 0) s1
  | _ => answers (releaseReply total (named.filter (·.pinned)).length 0 0) (s.pinSegs n false)

/-- The channel that OWNER names, if its rule holds (12 R307). -/
def State.ownerOf (s : State) (c : Fin 4) (owner : Nat) : Option (Fin 4) :=
  if owner = 0 then some c
  else if h : 1 ≤ owner ∧ owner ≤ 4 then
    let d : Fin 4 := ⟨owner - 1, by omega⟩
    if d = c ∨ !(s.present d) then some d else none
  else none

/-- RELEASE_SEGMENTS's own part. -/
def releaseBody : Body := fun r s =>
  let op := fieldAt r.payload 0 1
  let a := fieldAt r.payload 4 4
  let first := fieldAt r.payload 8 4
  let count := fieldAt r.payload 12 4
  match s.ownerOf (oneChan r.chsel) (fieldAt r.payload 1 1) with
  | none => fails eParam s
  | some c =>
    if 2 < op ∨ fieldAt r.payload 2 2 ≠ 0 ∨ 1073741823 < a ∨ 16777215 < first ∨ count = 0 ∨ 16777216 < first + count then fails eParam s
    else
      let s1 := s.reach (s.boundaryFrom (s.clk + 1))
      s1.segmentOp op ⟨c, s1.namedAcqs c a, first, count⟩

/-! Pages (12 R300, R301; 13 R318). -/

/-- PAGE_NEED: the open segment's values in staging take their pages; a continuous recording's first segment from the boundary on at
which its first value is packed. -/
def State.pageNeed (s : State) (c : Fin 4) : State :=
  match s.ch[c].open_ with
  | none => s
  | some o =>
    if s.contin c && decide (s.clk < s.packedAt c o.first) then s
    else s.roomFor c (s.stagedValues c o.first o.last) false false

/-- The oldest held allocation leaves the list. -/
def State.dropHeld (s : State) : State := s.modTr (fun t => { t with held := t.held.drop 1 })

/-- A page for the oldest held allocation, if its chain still wants one. -/
def State.grantHeld (s : State) (h : HeldAlloc) (n k : Nat) : State :=
  match h.desc with
  | some d =>
    if (s.acq? h.ch s.ch[h.ch].acq).isSome && (s.descPage h.ch s.ch[h.ch].acq (1024 * d)).isNone
    then s.dropHeld.linkDesc h.ch (1024 * d) n k else s.dropHeld
  | none =>
    match s.ch[h.ch].open_ with
    | some ⟨some i, _, _⟩ => ((s.dropHeld.takePage n k (.data h.ch)).addSegPage h.ch s.ch[h.ch].acq i n).pageNeed h.ch
    | _ => s.dropHeld

/-- Whether the words that wait no longer fit the write-combining area, 16,384 words a tower (13 R318). -/
def State.heldOverflows (s : State) (h : HeldAlloc) : Bool :=
  match s.ch[h.ch].open_ with
  | some ⟨some i, first, last⟩ =>
    (s.seg? h.ch s.ch[h.ch].acq i).any (fun g =>
      decide (g.capacity + 16384 * (s.towers h.ch).length < s.wordsOf g.fmt (s.stagedValues h.ch first last)))
  | _ => true

/-- A closed segment that waits for a descriptor page which does not come is gone (12 R301; log entry 57). -/
def State.dropUnwritten (s : State) (c : Fin 4) (d : Nat) : State :=
  (s.tr.segs.filter (fun g => g.ch == c && g.acq == s.ch[c].acq && g.closed && g.idx / 1024 == d)).foldl
    (fun a g => a.dropSeg c g.acq g.idx) s

/-- A held allocation that no reclaim helps: the open segment ends with what fits, one without a descriptor is not recorded
(12 R297, R301). -/
def State.failHeld (s : State) (h : HeldAlloc) : State :=
  match h.desc, s.ch[h.ch].open_ with
  | some d, some ⟨some i, _, _⟩ => ((s.dropHeld.dropUnwritten h.ch d).unopenSeg h.ch i false).fullStop h.ch 0xFFFFFFFF false
  | some d, _ => (s.dropHeld.dropUnwritten h.ch d).fullStop h.ch 0xFFFFFFFF false
  | none, _ => s.dropHeld.truncateOpen h.ch false

/-- Whether a held allocation still has a use: its channel runs, or a closed segment waits for its descriptor page (12 R291, R297). -/
def State.heldWanted (s : State) (h : HeldAlloc) : Bool :=
  s.armedOn h.ch || h.desc.any (fun d => (s.descPage h.ch s.ch[h.ch].acq (1024 * d)).isNone
    && s.tr.segs.any (fun g => g.ch == h.ch && g.acq == s.ch[h.ch].acq && g.idx / 1024 == d))

/-- The fill mode acts on a held allocation that is refused, which counts once: RING reclaims until a page can be given (12 R300, R301,
R303). -/
def State.refuseHeld (s : State) (h : HeldAlloc) : State :=
  let s1 := s.countRefused h.ch
  let r := if s.akey 0x0A00 h.ch = 1 then State.requestRing h.ch s1.tr.segs.length s1 else (s1, .refused)
  match r.2 with
  | .page p k => r.1.grantHeld h p k
  | .wait => r.1
  | .refused => r.1.failHeld h

/-- HELD_ALLOCATION: the oldest held allocation gets its page, or is refused once its words overflow. -/
def State.heldStep (s : State) : State :=
  match s.tr.held with
  | [] => s
  | h :: _ =>
    if !(s.heldWanted h) then s.dropHeld
    else match s.pick with
      | .page n k => if s.ch[h.ch].quota < s.heldPages h.ch + 1 then s.refuseHeld h else s.grantHeld h n k
      | .wait => if s.heldOverflows h then s.refuseHeld h else s
      | .none => s.refuseHeld h

/-! The descriptor engine (12 R296, R297). -/


/-- DESCRIPTOR_WRITE: the engine writes the next descriptor, one in 20 ticks; it waits while the descriptor's page is a held allocation
(12 R291, 13 R318). -/
def State.writeDescriptor (s : State) : State :=
  match s.tr.descQ with
  | [] => s
  | (c, a, i) :: rest =>
    if s.clk < s.tr.descNext then s
    else
      let s1 := s.modTr (fun t => { t with descQ := rest, descNext := s.clk + 20 })
      match s1.seg? c a i with
      | none => s1
      | some g => if (s.descPage c a i).isNone then s else (s1.storeDesc g).modSeg c a i (fun x => { x with written := true, queued := false })

/-! The rows. -/

/-- SET_QUOTA (12 R306). -/
def execSetQuota (t : Nat) (mb : Fin 17) (s : State) : Out := go (s.command t mb 0x0301 (lenIs 8) setQuotaBody)

/-- RELEASE_SEGMENTS (12 R307, R308). -/
def execReleaseSegments (t : Nat) (mb : Fin 17) (s : State) : Out := go (s.command t mb 0x0302 (lenIs 16) releaseBody)

/-- GET_TRELLIS_STATUS (12 R309, R310). -/
def execGetTrellisStatus (t : Nat) (mb : Fin 17) (s : State) : Out := go (s.command t mb 0x0303 (lenIs 16) trellisStatusBody)

/-- PAGE_NEED (12 R300). -/
def execPageNeed (t : Nat) (ch : Fin 4) (s : State) : Out := go ((s.reach t).pageNeed ch)

/-- HELD_ALLOCATION (13 R318). -/
def execHeldAllocation (t : Nat) (s : State) : Out := go ((s.reach t).heldStep)

/-- DESCRIPTOR_WRITE (12 R297). -/
def execDescriptorWrite (t : Nat) (s : State) : Out := go ((s.reach t).writeDescriptor)

end Sys2Proof.Machine
end

