-- ==== Sys2Proof/Machine/HostLink.lean ====
section
/-!
DEFINITION. The host link and the harvest engine (14): queues and their doorbells, descriptors and completion records,
destruction of a queue, MSI-X unmasking, link down and link up.
-/

namespace Sys2Proof.Machine

/-- Bytes the module writes to host memory. -/
def State.hostWrite (s : State) (a : Nat) (bs : List Byte) : State := s.modHl (fun h => { h with hostMem := memWriteBytes h.hostMem a bs })

/-- Data of a host-link event (14 R372). -/
def hlData (a b n : Nat) : List Byte := leBytes 1 a ++ leBytes 1 b ++ leBytes 2 0 ++ leBytes 4 n

/-! Queues (14 R354–R356). -/

/-- HARVEST_QUEUE_CREATE's own part. -/
def queueCreateBody : Body := fun r s =>
  let p := r.payload
  let n := fieldAt p 4 4
  if 63 < fieldAt p 0 1 ∨ fieldAt p 1 1 = 0 ∨ 63 < fieldAt p 2 1 ∨ fieldAt p 3 1 ≠ 0 ∨ n < 16 ∨ 65536 < n ∨ 2 ^ Nat.log2 n ≠ n
      ∨ fieldAt p 8 8 % 4096 ≠ 0 ∨ fieldAt p 16 8 % 4096 ≠ 0 ∨ fieldAt p 24 8 ≠ 0 then fails eParam s
  else
    let q := Fin.ofNat 64 (fieldAt p 0 1)
    if (s.hv.qs[q]).live then fails eState s
    else answers [] (s.modQ q (fun _ => { HQueue.reset with
      live := true, weight := fieldAt p 1 1, vector := fieldAt p 2 1, entries := n, ring := fieldAt p 8 8, cring := fieldAt p 16 8 }))

/-- Completion slots free beyond those of descriptors already taken (14 R357). -/
def HQueue.freeSlots (h : HQueue) : Nat := (h.chead + 2 * h.entries - h.ctail - 1) % max 1 h.entries - h.exec.length

/-- STATE: 0 none, 1 active, 2 stalled, 3 error (14 R356, R357). -/
def HQueue.state (h : HQueue) : Nat :=
  if !h.live then 0
  else if h.err != 0 then 3
  else if h.head != h.tail && h.freeSlots == 0 then 2
  else 1

/-- HQ_STATUS (14 R356). -/
def HQueue.status (h : HQueue) : Nat :=
  2 * flag (h.head == h.tail && h.exec.isEmpty) + 4 * flag h.dbErr.isSome + 65536 * h.state + 16777216 * h.err

/-- A write of HQ_TAIL or HQ_CHEAD (14 R355): ignored for a queue that does not exist; an index out of range sets DB_ERR. -/
def State.indexWrite (s : State) (q : Fin 64) (v : Nat) (set : HQueue → HQueue) : State :=
  let h := s.hv.qs[q]
  if !s.hl.up || !h.live then s
  else if h.entries ≤ v then s.modQ q (fun x => { x with dbErr := some s.clk })
  else s.modQ q set

/-- A write of HQ_TAIL; none takes effect once the queue's destruction has begun (14 R373). -/
def State.tailWrite (s : State) (q : Fin 64) (v : Nat) : State :=
  if (s.hv.qs[q]).dying then s else s.indexWrite q v (fun x => { x with tail := v })

/-- A write of HQ_CHEAD. -/
def State.cheadWrite (s : State) (q : Fin 64) (v : Nat) : State := s.indexWrite q v (fun x => { x with chead := v })

/-! Descriptors (14 R359–R362, R364). -/

/-- A descriptor as its 64 bytes spell it; `resv` says that a reserved field is not zero. -/
def HDesc.ofBytes (b : List Byte) : HDesc :=
  { op := fieldAt b 0 1, flags := fieldAt b 1 1, tag := fieldAt b 2 2, item := fieldAt b 8 8, count := fieldAt b 16 4
    wordOff := fieldAt b 24 8, words := fieldAt b 32 8, dest := fieldAt b 40 8, destLen := fieldAt b 48 4
    resv := fieldAt b 4 4 != 0 || fieldAt b 20 4 != 0 || fieldAt b 52 8 != 0 || fieldAt b 60 4 != 0 }

/-- Whether every field lies in its range (14 R359; status PARAM). -/
def HDesc.ok (d : HDesc) : Bool :=
  !d.resv && decide (d.op ≤ 3 ∧ d.flags < 8) && (d.op == 0 || d.flags < 2)
    && (if d.op = 3 then d.item == 0 && d.count == 0 && d.wordOff == 0 && d.words == 0 && d.dest == 0 && d.destLen == 0
      else decide (1 ≤ d.count ∧ d.count ≤ 65536 ∧ d.dest % 8 = 0)
        && (if d.op = 0 ∧ d.count = 1 then decide (d.wordOff < 2 ^ 40) else d.wordOff == 0 && d.words == 0)
        && (if d.op = 1 then decide (d.item < 2 ^ 32) else bitsAt d.item 24 8 == 0 && decide (d.item % 2 ^ 24 + d.count ≤ 2 ^ 24)))

/-- Whether a page has no place in the pool (14 R364 RANGE). -/
def State.pagesBeyond (s : State) (first count : Nat) : Bool :=
  (List.range ((first + count - 1) / slotPages + 1 - first / slotPages)).any (fun i =>
    (s.mem.slots.getD (first / slotPages + i) none).isNone)

/-- Whether a descriptor names segments. -/
def HDesc.names (d : HDesc) : Bool := d.op == 0 || d.op == 2

/-- The first check of 14 R364 that a descriptor fails when it is taken; a segment whose descriptor is not written yet counts
as open (12 R296, 01 R19). -/
def State.takeCheck (s : State) (d : HDesc) : Option Nat :=
  let gs := s.descSegs d
  if !d.ok then some 6
  else if d.op = 1 ∧ s.pagesBeyond d.item d.count then some 4
  else if d.op = 0 ∧ d.count = 1 ∧ gs.any (fun g => g.closed && (decide (s.segWords g ≤ d.wordOff) || decide (s.segWords g < d.wordOff + d.words)))
    then some 4
  else if d.names && gs.any (fun g => !g.closed || !g.written) then some 3
  else if d.names && gs.isEmpty then some 2
  else if d.destLen < s.needBytes d then some 5
  else none

/-- Change the busy count of a descriptor's segments. -/
def State.busySegs (s : State) (names : List (Fin 4 × Nat × Nat)) (f : Nat → Nat) : State :=
  names.foldl (fun a n => a.modSeg n.1 n.2.1 n.2.2 (fun g => { g with busy := f g.busy })) s

/-- Whether queue `q` may take a descriptor (14 R357, R358; 17 R426). -/
def State.mayFetch (s : State) (q : Fin 64) : Bool :=
  let h := s.hv.qs[q]
  s.hl.up && h.live && !h.dying && h.err == 0 && !s.hv.stopped && h.head != h.tail && decide (0 < h.freeSlots ∧ h.exec.length < 4)
    && decide ((s.hv.qs.toList.map (fun x => x.exec.length)).sum < 64)

/-- A failed fetch puts the queue in error (14 R358). -/
def State.fetchError (s : State) (q : Fin 64) (code : Nat) : State :=
  let h := s.hv.qs[q]
  ((s.modQ q (fun x => { x with err := code })).logEv 0x0C04 sevError 0 (hlData q.val code h.head)).msix h.vector

/-- A descriptor is taken: checked, its segments busy (14 R357, R361). -/
def State.takeDesc (s : State) (q : Fin 64) (bs : List Byte) : State :=
  let h := s.hv.qs[q]
  let d := HDesc.ofBytes bs
  let gs := if d.ok && d.op == 0 then s.descSegs d else []
  let names := gs.map (fun g => (g.ch, g.acq, g.idx))
  let e : Executing := { index := h.head, desc := d, segs := names, status := s.takeCheck d
                         skipped := if d.ok && d.names then d.count - (s.descSegs d).length else 0
                         mode1 := s.mkey 0x0C00 == 1, at_ := s.clk, moved := 0, got := []
                         pages := if d.ok && d.op == 1 then (List.range d.count).map (fun i => d.item + i) else [] }
  (s.busySegs names (· + 1)).modQ q (fun x => { x with head := (x.head + 1) % max 1 x.entries, exec := x.exec ++ [e] })

/-- DESCRIPTOR_TAKE: what the fetch delivers. In SLEEP the request wakes memory (17 R420). -/
def State.fetchStep (s : State) (q : Fin 64) (f : Fetch) : State :=
  if !(s.mayFetch q) then s
  else match f with
    | .failed code => if 1 ≤ code ∧ code ≤ 3 then s.fetchError q code else s
    | .bytes bs => s.memRequest.takeDesc q bs

/-! Delivery and completion (14 R360–R365). -/

/-- The 32 bytes of a completion record (14 R363). -/
def recordBytes (e : Executing) (v : Delivered) (phase released : Bool) (ticks : Nat) : List Byte :=
  leBytes 2 e.desc.tag ++ leBytes 1 v.status ++ leBytes 1 (flag phase + 2 * flag released + 4 * flag (v.poison != 0))
    ++ leBytes 4 e.index ++ leBytes 8 v.bytes.length ++ leBytes 4 v.poison ++ leBytes 4 v.skipped ++ leBytes 8 ticks

/-- The segments of a descriptor cease to be busy; those released, now or before, go (14 R361, R365). -/
def State.freeSegs (s : State) (names : List (Fin 4 × Nat × Nat)) (release : Bool) : State :=
  names.foldl (fun a n =>
    let b := a.modSeg n.1 n.2.1 n.2.2 (fun g => { g with busy := g.busy - 1, deferred := g.deferred || release })
    if (b.seg? n.1 n.2.1 n.2.2).any (fun g => g.deferred && g.busy == 0) then b.dropSeg n.1 n.2.1 n.2.2 else b) s

/-- Write the completion record of the oldest executing descriptor of a queue, after its data (14 R363, R365). -/
def State.writeRecord (s : State) (q : Fin 64) (e : Executing) (v : Delivered) : State :=
  let h := s.hv.qs[q]
  let release := bitAt e.desc.flags 1 && decide (v.status ≤ 1)
  let s1 := (s.hostWrite e.desc.dest v.bytes).hostWrite (h.cring + 32 * h.ctail) (recordBytes e v h.phase release s.ticks)
  let s2 := s1.modQ q (fun x => { x with
    exec := x.exec.drop 1, done := wrapAdd 64 x.done 1, bytes := wrapAdd 64 x.bytes v.bytes.length
    ctail := (x.ctail + 1) % max 1 x.entries, phase := if x.ctail + 1 = x.entries then !x.phase else x.phase })
  let s3 := (s2.modHv (fun y => { y with bytes := wrapAdd 64 y.bytes v.bytes.length })).freeSegs e.segs release
  if bitAt e.desc.flags 0 || v.status != 0 then s3.msix h.vector else s3

/-! Destruction of a queue (14 R367). -/

/-- Count a record of the queue under destruction: completed or cancelled. -/
def State.countDying (s : State) (q : Fin 64) (cancelled : Bool) : State :=
  match s.mr.exec with
  | some ⟨m, t, .hqDestroy p d c l drain⟩ =>
    if p = q then s.modMr (fun r => { r with exec := some ⟨m, t, .hqDestroy p (if cancelled then d else d + 1) (if cancelled then c + 1 else c) l drain⟩ })
    else s
  | _ => s

/-- The response of HARVEST_QUEUE_DESTROY. -/
def destroyReply (done cancelled : Nat) : Reply := ⟨stOk, leBytes 4 done ++ leBytes 4 cancelled, none, 0, 0⟩

/-- A queue under destruction ceases to exist once its last record is written, and the command completes; its commit point was
its taking. -/
def State.queueGone (s : State) (q : Fin 64) : State :=
  if (s.hv.qs[q]).dying && (s.hv.qs[q]).exec.isEmpty then
    let s1 := s.modQ q (fun _ => HQueue.reset)
    match s.mr.exec with
    | some ⟨_, taken, .hqDestroy p d c _ _⟩ => if p = q then s1.finish (destroyReply d c) taken else s1
    | _ => s1
  else s

/-- COMPLETION_RECORD: the queue's oldest executing descriptor is delivered in its turns and its record written; data moves while memory
serves and no relock is under way (13 R339). -/
def State.recordStep (s : State) (q : Fin 64) : State :=
  let h := s.hv.qs[q]
  match h.exec with
  | [] => s
  | e :: _ =>
    if !s.hl.up || (e.status.isNone && e.desc.op != 3 && (!s.memServes || s.ck.relock.isSome)) then s
    else (((s.served q).writeRecord q e (s.deliver e)).countDying q false).queueGone q

/-- Cancel every executing descriptor of a queue; `moved` holds the bytes that each has written. -/
def State.cancelAll (q : Fin 64) : List Nat → Nat → State → State
  | _, 0, s => s
  | ms, n + 1, s =>
    match (s.hv.qs[q]).exec with
    | [] => s
    | e :: _ =>
      let v := s.cancelled e (ms.headD 0)
      State.cancelAll q (ms.drop 1) n ((s.writeRecord q e v).countDying q (v.status == 8))

/-- How many of the executing descriptors of a queue are written CANCELLED; `moved` holds the bytes that each has written. -/
def State.cancelledIn (s : State) (h : HQueue) (moved : List Nat) : Nat :=
  ((h.exec.zip (List.range h.exec.length)).filter (fun e => (s.cancelled e.1 (moved.getD e.2 0)).status == 8)).length

/-- HARVEST_QUEUE_DESTROY's own part. -/
def queueDestroyBody (moved : List Nat) : Body := fun r s =>
  let p := r.payload
  if 63 < fieldAt p 0 1 ∨ 1 < fieldAt p 1 1 ∨ fieldAt p 2 6 ≠ 0 then fails eParam s
  else
    let q := Fin.ofNat 64 (fieldAt p 0 1)
    let h := s.hv.qs[q]
    if !h.live then fails eState s
    else
      let s1 := s.modQ q (fun x => { x with dying := true })
      if h.exec.isEmpty then (.reply (destroyReply 0 0), s1.queueGone q)
      else if fieldAt p 1 1 = 1 then
        (.reply (destroyReply (h.exec.length - s.cancelledIn h moved) (s.cancelledIn h moved)), (State.cancelAll q moved 4 s1).queueGone q)
      else (.wait (.hqDestroy q 0 0 (s.clk + 300000000) true), s1)

/-- QUEUE_DRAIN_EXPIRY: descriptors still executing 100 ms after the commit point are cancelled. -/
def State.drainExpiry (s : State) (q : Fin 64) (moved : List Nat) : State :=
  match s.mr.exec with
  | some ⟨_, _, .hqDestroy p _ _ l _⟩ => if p = q ∧ l ≤ s.clk then (State.cancelAll q moved 4 s).queueGone q else s
  | _ => s

/-! The link (14 R353, R368–R370). -/

/-- A vector is unmasked: a pending message goes out (14 R353). -/
def State.unmask (s : State) (v : Fin 64) : State :=
  if !s.hl.up then s
  else
    let s1 := s.modHl (fun h => { h with msix := h.msix.set v.val { h.msix[v] with masked := false } })
    if s1.hl.msixOn && s1.hl.pba.getLsbD v.val then
      (s1.modHl (fun h => { h with pba := h.pba &&& ~~~(1#64 <<< v.val) })).msix v.val
    else s1

/-- Every harvest queue ceases to exist: descriptors abandoned without records, deferred releases carried out (14 R368). -/
def State.dropQueues (s : State) : State :=
  let s1 := (List.finRange 64).foldl (fun a q =>
    ((a.hv.qs[q]).exec.foldl (fun b e => b.freeSegs e.segs false) a).modQ q (fun _ => HQueue.reset)) s
  match s1.mr.exec with
  | some ⟨_, taken, .hqDestroy _ d c _ _⟩ => s1.finish (destroyReply d c) taken
  | _ => s1

/-- Accepted work that reads or writes host memory ends with E_HW (14 R368): PLAY_LOAD, FW_STAGE, TDC_MEASURE and
ARRAY_CALIBRATE_LINKS, which has a bulk reference. -/
def State.dropHostWork (s : State) : State :=
  let s1 := ([0, 1] : List (Fin 2)).foldl (fun a o => a.loadFailed o) s
  let s2 := s1.tm.meas.foldl (fun a m => a.endMeasure m eHw) s1
  let s3 := if s2.working 0x0804 then (s2.modAr (fun a => { a with calNow := none })).endWork 0x0804 eHw 0 else s2
  if s3.working 0x0901 then (s3.modFw (fun f => f.spoilOther)).endWork 0x0901 eHw 0 else s3

/-- A link-down event (14 R368): Data Link Layer down while the link is up, or a reset, also of a link that is down. -/
def State.linkDrop (s : State) (cause : Nat) : State :=
  if !s.hl.up && (cause == 1 || decide (3 ≤ s.pw.st)) then s
  else
    let queues := (s.hv.qs.toList.filter (·.live)).length
    let descs := (s.hv.qs.toList.map (fun h => h.exec.length)).sum
    let s1 := s.modHl (fun h => { h with
      up := false, wasDown := true, downs := wrapAdd 32 h.downs 1, shadows := [], pba := 0#64
      msix := Vector.replicate 64 ⟨0, 0, true⟩ })
    (s1.dropQueues.logEv 0x0C02 sevWarning 0 (hlData cause queues descs)).dropHostWork

/-- The link comes up (14 R348, R370). -/
def State.linkRise (s : State) (rate lanes : Nat) : State :=
  if s.hl.up || !s.pw.main || !s.pw.inserted || decide (3 ≤ s.pw.st) then s
  else
    let s1 := s.modHl (fun h => { h with up := true, rate := rate, lanes := lanes, linkReset := h.linkReset.raise h.wasDown s.clk })
    let s2 := s1.logEv 0x0C01 sevInfo 0 (hlData rate lanes s1.hl.downs)
    if rate < 5 ∨ lanes < 16 then s2.logEv 0x0C03 sevWarning 0 (hlData rate lanes 0) else s2

/-! The rows. -/

/-- HARVEST_QUEUE_CREATE (14 R354). -/
def execHarvestQueueCreate (t : Nat) (mb : Fin 17) (s : State) : Out := go (s.command t mb 0x0B01 (lenIs 32) queueCreateBody)

/-- HARVEST_QUEUE_DESTROY (14 R367). -/
def execHarvestQueueDestroy (t : Nat) (mb : Fin 17) (moved : List Nat) (s : State) : Out :=
  go (s.command t mb 0x0B02 (lenIs 8) (queueDestroyBody moved))

/-- QUEUE_DRAIN_EXPIRY (14 R367). -/
def execQueueDrainExpiry (t : Nat) (q : Fin 64) (moved : List Nat) (s : State) : Out := go ((s.reach t).drainExpiry q moved)

/-- HQ_TAIL_WRITE (14 R355, R357). -/
def execHqTailWrite (t : Nat) (q : Fin 64) (v : BitVec 32) (s : State) : Out := go ((s.reach t).tailWrite q v.toNat)

/-- HQ_CHEAD_WRITE (14 R355, R357). -/
def execHqCheadWrite (t : Nat) (q : Fin 64) (v : BitVec 32) (s : State) : Out := go ((s.reach t).cheadWrite q v.toNat)

/-- DESCRIPTOR_TAKE (14 R357, R358). -/
def execDescriptorTake (t : Nat) (q : Fin 64) (fetch : Fetch) (s : State) : Out := go ((s.reach t).fetchStep q fetch)

/-- COMPLETION_RECORD (14 R363). -/
def execCompletionRecord (t : Nat) (q : Fin 64) (s : State) : Out := go ((s.reach t).recordStep q)

/-- MSIX_UNMASK (14 R353). -/
def execMsixUnmask (t : Nat) (vec : Fin 64) (s : State) : Out := go ((s.reach t).unmask vec)

/-- LINK_DOWN (14 R368). -/
def execLinkDown (t : Nat) (cause : Nat) (s : State) : Out := go ((s.reach t).linkDrop cause)

/-- LINK_UP (14 R370). -/
def execLinkUp (t : Nat) (rate lanes : Nat) (s : State) : Out := go ((s.reach t).linkRise rate lanes)

end Sys2Proof.Machine
end

