-- ==== Sys2Proof/Machine/TimeTdc.lean ====
section
/-!
DEFINITION. Module time and interval measurement (07): edges and the TDC, PPS_IN and PPS_OUT, SET_TIME and the epoch mark,
TDC_MEASURE, GET_TIME_STATUS.
-/

namespace Sys2Proof.Machine

/-- Log a time event (07 R198). -/
def State.tmEvent (s : State) (code sev b : Nat) (v : Int) : State :=
  s.logEv code sev 0 (leBytes 1 b ++ List.replicate 3 0#8 ++ leBytes 8 (encInt 64 v))

/-! Interval measurement (07 R190–R193). -/


/-- The expiry tick X of an open measurement (07 R190). -/
def Measure.expiry (m : Measure) : Option Nat := m.open_.map (fun o => o.1 / fineUnit + 3000 * m.wait)

/-- A stamp in fine units since the epoch. -/
def Stamp.fine (x : Stamp) : Int := ((x.ticks * fineUnit + x.frac : Nat) : Int)

/-- The interval in fs and the flags of a pair of edges (07 R191): the coarse count is of the ticks of the two edges. -/
def intervalOf (a b : Nat × Stamp × Bool) : Int × Nat :=
  let d0 : Int := (b.1 : Int) - (a.1 : Int)
  let far := decide (4294967295 < (((b.1 / fineUnit : Nat) : Int) - ((a.1 / fineUnit : Nat) : Int)).natAbs)
  let d := if far then b.2.1.fine - a.2.1.fine else d0
  let coin := decide (d.natAbs * 1000 < 3 * fineUnit)
  ((if coin then 0 else divHalfAway (d * 1000000) (3 * fineUnit)),
    flag coin + 2 * flag (!coin && decide (d < 0)) + 4 * flag far + 16 * flag (!(a.2.2 && b.2.2)))

/-- The 32 bytes of a record (07 R192). -/
def measRecord (a : Nat × Stamp × Bool) (fl unpaired : Nat) (iv : Int) : List Byte :=
  a.2.1.bytes ++ leBytes 1 fl ++ List.replicate 3 0#8 ++ leBytes 8 (encInt 64 iv) ++ leBytes 4 unpaired ++ leBytes 4 0

/-- Replace a measurement. -/
def State.putMeasure (s : State) (m : Measure) : State :=
  s.modTm (fun x => { x with meas := x.meas.map (fun y => if y.key = m.key then m else y) })

/-- An edge with its stamp in the scale and with the bits in force at its instant, also where they came to be known after it
(07 R176). -/
def State.freshEdge (s : State) (a : Nat × Stamp × Bool) : Nat × Stamp × Bool := (a.1, s.stampAt a.1 2 a.2.2, a.2.2)

/-- Close the open measurement with interval, flags and closing instant (07 R190, R192, R193): the record goes to host
memory; a write that fails ends the work. -/
def State.closeMeasure (s : State) (m : Measure) (iv : Int) (fl close : Nat) : State :=
  match m.open_ with
  | none => s
  | some a =>
    if !s.hl.up then s.endMeasure m eHw
    else
      let s1 := s.modHl (fun h => { h with
        hostMem := memWriteBytes h.hostMem (m.buf + 32 * m.done) (measRecord (s.freshEdge a) fl m.unpaired iv) })
      let m1 := { m with done := m.done + 1, orFlags := m.orFlags ||| fl, unpaired := 0, open_ := none, lastClose := some close }
      let s2 := s1.putMeasure m1
      if m.count ≤ m1.done then s2.endMeasure m1 stOk else s2

/-- Close with a stop edge. -/
def State.pairMeasure (s : State) (m : Measure) (b : Nat × Stamp × Bool) : State :=
  match m.open_ with
  | none => s
  | some a => let v := intervalOf (s.freshEdge a) (s.freshEdge b); s.closeMeasure m v.1 v.2 b.1

/-- The measurement closes at X without a stop edge, when X lies before fine instant `lim` (07 R190). -/
def State.expireMeasure (s : State) (m : Measure) (lim : Nat) : State :=
  match m.open_, m.expiry with
  | some a, some x => if x * fineUnit < lim then s.closeMeasure m 0 (8 + 16 * flag (!a.2.2)) (x * fineUnit) else s
  | _, _ => s

/-- A start edge opens the measurement; a held stop edge within ORDER_WIN closes it at once, unless it lies after X (07 R190). -/
def State.startEdge (s : State) (m : Measure) (a : Nat × Stamp × Bool) : State :=
  if m.open_.isSome || m.lastClose.any (fun c => decide (a.1 ≤ c)) then s
  else
    let ok (h : Nat × Stamp × Bool) : Bool := decide (a.1 ≤ h.1 + m.win * fineUnit)
    let old := m.held.filter (fun h => !(ok h))
    let rest := m.held.filter ok
    let m1 := { m with open_ := some a, unpaired := m.unpaired + old.length, held := rest }
    match rest with
    | [] => s.putMeasure m1
    | b :: l =>
      if m1.expiry.any (fun x => decide (x * fineUnit < b.1)) then (s.putMeasure m1).expireMeasure m1 b.1
      else
        let m2 := { m1 with held := l }
        (s.putMeasure m2).pairMeasure m2 b

/-- A stop edge closes the open measurement, or is held for one that opens within ORDER_WIN; one whose instant lies after X, which a
negative cable delay can bring ahead of its tick, is held for the next measurement (07 R190). -/
def State.stopEdge (s : State) (m : Measure) (b : Nat × Stamp × Bool) : State :=
  match m.open_ with
  | some a =>
    if m.expiry.any (fun x => decide (x * fineUnit < b.1)) then s.putMeasure { m with held := m.held ++ [b] }
    else if a.1 ≤ b.1 + m.win * fineUnit then s.pairMeasure m b else s.putMeasure { m with unpaired := m.unpaired + 1 }
  | none => s.putMeasure { m with held := m.held ++ [b] }

/-- The measurement with a key. -/
def State.measure? (s : State) (k : Nat) : Option Measure := s.tm.meas.find? (fun m => m.key == k)

/-- One edge, which comes at fine instant `at_`, at one measurement: it closes one whose X has passed (07 R190). -/
def State.measureEdge (s : State) (k c : Nat) (falling : Bool) (at_ : Nat) (e : Nat × Stamp × Bool) : State :=
  match s.measure? k with
  | none => s
  | some m0 =>
    let s1 := s.expireMeasure m0 (min at_ e.1)
    match s1.measure? k with
    | none => s1
    | some m =>
      if m.startSrc = c ∧ m.startEdge = flag falling then s1.startEdge m e
      else if m.stopSrc = c ∧ m.stopEdge = flag falling then s1.stopEdge m e
      else s1

/-! Edges (07 R186, R188; 08 R215; 09 R247). -/

/-- Whether a measurement selects an edge. -/
def Measure.selects (m : Measure) (c : Nat) (falling : Bool) : Bool :=
  (m.startSrc == c && m.startEdge == flag falling) || (m.stopSrc == c && m.stopEdge == flag falling)

/-- Whether the standing user of a TDC channel selects an edge at a slice-clock tick, by the settings in force there (07 R186; 08 R215). -/
def State.edgeUser (s : State) (c : Fin 10) (falling : Bool) (tick : Nat) : Bool :=
  let sel (k : Nat) : Bool := s.keyAt k 0 tick == 2 || s.keyAt k 0 tick == flag falling
  match c.val with
  | 0 => sel 0x0640
  | 1 => sel 0x0642
  | 2 => s.keyAt 0x0500 0 tick == flag falling
  | 7 => true
  | 8 => true
  | 9 => true
  | n => s.auxInput (n - 3) && (bitAt (s.keyAt 0x0031 0 tick) (n - 3) == falling)

/-- Whether an edge is active. -/
def State.edgeActive (s : State) (c : Fin 10) (falling : Bool) (tick : Nat) : Bool :=
  s.edgeUser c falling tick || s.tm.meas.any (fun m => m.selects c.val falling)

/-- The threshold of TRIG_IN1 or TRIG_IN2 as it is realised, in mV, at a slice-clock tick: in steps of 10 mV, rounded half away from
zero (08 R215). -/
def State.trigThreshold (s : State) (c : Fin 2) (tick : Nat) : Int :=
  10 * divHalfAway (decInt 16 (s.keyAt (0x0641 + 2 * c.val) 0 tick)) 10

/-- Whether a swing of the signal at a TDC input makes an edge: at TRIG_IN1 and TRIG_IN2 it must pass both levels of the hysteresis, 10
mV above and below the threshold (08 R215), at PPS_IN the fixed threshold of 1.0 V (07 R179), at an AUX_IO pin 1.35 V and 1.45 V (20
R488). -/
def State.edgeSwings (s : State) (c : Fin 10) (low high : Int) (tick : Nat) : Bool :=
  if h : c.val < 2 then
    let t := s.trigThreshold ⟨c.val, h⟩ tick
    decide (low ≤ t - 10 ∧ t + 10 ≤ high)
  else if c.val = 2 then decide (low < 1000 ∧ 1000 ≤ high)
  else if c.val < 7 then decide (low ≤ 1350 ∧ 1450 ≤ high)
  else true

/-- An active edge that is not stamped (07 R186, R188). -/
def State.missEdge (s : State) (c : Fin 10) : State :=
  s.modTm (fun m => { m with missed := m.missed.set c.val (m.missed[c] + 1) })

/-- The end of the threshold blanking of a TDC channel (08 R215). -/
def State.blankEnd (s : State) (c : Fin 10) : Nat := if c.val = 0 then s.tm.blank[0] else if c.val = 1 then s.tm.blank[1] else 0

/-- PPS_IN is disqualified (07 R180, R185): an epoch that requires it is cancelled, others wait for a whole-second tick. -/
def State.ppsLose (s : State) (kind : Nat) : State :=
  if !s.tm.ppsQual then s
  else
    let s1 := (s.modTm (fun m => { m with ppsQual := false })).tmEvent 0x0504 sevWarning kind s.ticks
    let s2 := s1.modCk (fun k => { k with since := s.clk })
    match s.tm.epoch with
    | none => s2
    | some q =>
      if s.tm.epochEdge.isSome then s2
      else if q.require then (s2.modTm (fun m => { m with epoch := none })).tmEvent 0x0502 sevWarning 0 s.ticks
      else s2.modTm (fun m => { m with epoch := some { q with since := s.clk } })

/-- Whether a PPS epoch is awaited, for a step or for SET_TIME, outside steps 3 to 8 of a relock (06 R159; 07 R183, R185). -/
def State.awaitsEpoch (s : State) : Bool :=
  s.tm.epochEdge.isNone && (s.tm.epoch.isSome || (s.ck.disc == 5 && !s.isMember)) && s.ck.relock.all (fun r => r.step == 2) && s.ck.synth != 2

/-- Whether an interval between PPS edges lies within tolerance (07 R180). -/
def State.ppsNear (s : State) (a b : Nat) : Bool :=
  let d : Int := (b : Int) - (a : Int) - 3000000000 * fineUnit
  decide (d.natAbs ≤ s.mkey 0x0501 * 3000 * fineUnit)

/-- The last PPS_IN stamp: in the scale and with the bits in force at its instant, also where a step, a mark or a change of QUAL at or
before it comes after the edge (07 R176, R185, R195). -/
def State.ppsStamp (s : State) : Stamp := s.tm.ppsRef.elim ⟨0, 0, 0#8⟩ (fun r => s.stampAt r.1 2 r.2)

/-- A stamped PPS_IN edge is judged (07 R180); `at_` is its instant, `ref` that without the cable, at which it is stamped. -/
def State.ppsJudge (s : State) (at_ ref : Nat) (valid : Bool) : State :=
  let near := s.tm.ppsLast.any (fun a => s.ppsNear a at_)
  let n := if near then min 65535 (s.tm.ppsCount + 1) else 1
  let latch := s.tm.ppsQual && near && s.awaitsEpoch
  let s1 := if near then s else s.ppsLose 1
  let s2 := s1.modTm (fun m => { m with
    ppsLast := some at_, ppsRef := some (ref, valid), ppsCount := n, epochEdge := if latch then some ref else m.epochEdge })
  if !s2.tm.ppsQual && near && decide (s.mkey 0x0502 ≤ n) then
    (s2.modTm (fun m => { m with ppsQual := true })).tmEvent 0x0503 sevNotice 0 s2.ppsStamp.ticks
  else s2

/-- A marker input edge on an AUX_IO pin (09 R247). -/
def State.auxMark (s : State) (p fine : Nat) (x : Stamp) (valid : Bool) : State :=
  let dest := chMask (allCh.filter (fun c => bitAt (s.mkey (0x0048 + c.val)) p))
  if dest = 0 then s else s.pushEv fine (srcMark p) (s.cycleOf fine) x (BitVec.ofNat 4 dest) valid

/-- The users of a stamped edge (07 R188; 08 R215; 09 R247): the trigger source, PPS_IN, markers, measurements. -/
def State.edgeUses (s : State) (c : Fin 10) (falling : Bool) (fine : Nat) : State :=
  let valid := s.tm.cal[c]
  let ref := if c.val = 2 then ((fine : Int) - psFine (s.ikey 32 0x0503 0)).toNat else fine
  let x := s.stampAt ref 2 valid
  let s1 := if s.edgeUser c falling (fine / fineUnit) then
      (match c.val with
      | 0 => s.pushEv fine 0x10 (s.cycleOf fine) x 0xF#4 valid
      | 1 => s.pushEv fine 0x11 (s.cycleOf fine) x 0xF#4 valid
      | 2 => s.ppsJudge fine ref valid
      | 7 => s
      | 8 => s
      | 9 => s
      | n => s.auxMark (n - 3) fine x valid)
    else s
  (s.tm.meas.map (·.key)).foldl (fun a k => a.measureEdge k c.val falling fine (ref, x, valid)) s1

/-- An edge at a TDC input at a fine instant (07 R186, R188; 08 R215). -/
def State.tdcEdge (s : State) (c : Fin 10) (fine : Nat) (falling : Bool) : State :=
  if !(s.edgeActive c falling (fine / fineUnit)) || decide (3 ≤ s.pw.st) then s
  else if s.clockStopped || decide (fine < s.tm.dead[c])
      || decide (fine < s.blankEnd c * fineUnit ∧ (s.blankEnd c - 30000) * fineUnit ≤ fine) then s.missEdge c
  else (s.modTm (fun m => { m with dead := m.dead.set c.val (fine + 300 * fineUnit) })).edgeUses c falling fine

/-- No PPS_IN edge within a second and the tolerance of the last (07 R180). -/
def State.ppsMissing (s : State) : State :=
  match s.tm.ppsLast with
  | none => s
  | some f =>
    if s.clk * fineUnit ≤ f + (3000000000 + s.mkey 0x0501 * 3000) * fineUnit then s
    else (s.ppsLose 0).modTm (fun m => { m with ppsCount := 0 })

/-! PPS_OUT (07 R181). -/

/-- A tick that the count reaches at a whole second raises PPS_OUT. -/
def State.ppsPulse (s : State) : State :=
  if s.mkey 0x0504 = 1 ∧ s.pw.st ≤ 2 ∧ s.ticks % 3000000000 = 0 ∧ s.tm.offHist.all (fun e => e.1 != s.clk) = true then
    s.modTm (fun m => { m with ppsOut := some (s.clk + s.mkey 0x0505 * 3000000) })
  else s

/-- The pulse ends. -/
def State.ppsPulseEnd (s : State) : State :=
  if s.tm.ppsOut.any (fun e => decide (e ≤ s.clk)) then s.modTm (fun m => { m with ppsOut := none }) else s

/-! SET_TIME and the epoch mark (07 R183–R185). -/

/-- TICKS of the next PPS_IN edge as it is expected, in the present scale: a second after the last one (07 R184). -/
def State.nextPps (s : State) : Nat := (s.ppsInstant / fineUnit + 3000000000).toNat

/-- Whether steps 3 to 8 of a relock, or a relock that failed, put epochs off (06 R169; 07 R185). -/
def State.epochsHeld (s : State) : Bool := s.ck.relock.any (fun r => r.step != 2) || s.ck.synth == 2

/-- Whether the epoch of the scheduled SET_TIME has come and only its mark is still to follow: not while steps 3 to 8 of a relock put it
off (07 R183, R185). -/
def State.epochCome (s : State) : Bool :=
  !s.epochsHeld && s.tm.epoch.any (fun q => (s.ppsEpoch q.since).any (fun f => decide (f ≤ s.clk * fineUnit)))

/-- The response of SET_TIME: REPLACED where a SET_TIME is pending whose epoch has not come. -/
def State.setTimeResp (s : State) : List Byte :=
  let kind := if s.tm.ppsQual then 0 else 1
  let next := if s.tm.ppsQual then s.nextPps else ceilDiv (s.ticks + 1) 3000000000 * 3000000000
  leBytes 1 kind ++ leBytes 1 (flag ((s.tm.epoch.isSome && !s.epochCome) || s.tm.epochNext.isSome)) ++ List.replicate 6 0#8 ++ leBytes 8 next

/-- Schedule an epoch (07 R183, R185): one whose epoch has not come is replaced, one whose epoch has come is performed first. -/
def State.schedule (s : State) (q : EpochReq) : State :=
  if s.epochCome then s.modTm (fun m => { m with epochNext := some q })
  else s.modTm (fun m => { m with epoch := some q, epochEdge := none })

/-- SET_TIME's own part. -/
def setTimeBody : Body := fun r s =>
  let f := fieldAt r.payload 0 1
  if 1 < f ∨ fieldAt r.payload 1 7 ≠ 0 ∨ 4000000000 < fieldAt r.payload 8 8 then fails eParam s
  else if s.isMember = true ∨ (f = 1 ∧ s.tm.ppsQual = false) then fails eState s
  else answers s.setTimeResp (s.schedule ⟨fieldAt r.payload 8 8, f == 1, s.clk⟩)

/-- The multiple of 4 nearest to an instant in fine units, halves down (07 R183). -/
def nearest4 (f : Int) : Int := 4 * ((f + 2 * fineUnit - 1) / (4 * fineUnit))

/-- Change the count by `d` at boundary `b` as an epoch mark does (07 R183): STEPPED clears, TM_EPOCH, timers passed over. -/
def State.doMark (s : State) (b kind : Nat) (d : Int) : State :=
  let s1 := ((s.shiftTime b d).applyQualAt b false).modTm (fun m => { m with epochAt := some b })
  (s1.timersCross b).logEvAt b 0x0501 sevNotice 0 (leBytes 1 kind ++ List.replicate 3 0#8 ++ leBytes 8 (encInt 64 d))

/-- An epoch mark of the module's own at boundary `b`, with the phase error that it leaves (07 R183, R185). -/
def State.performMark (s : State) (b kind : Nat) (d rest : Int) : State :=
  let s1 := s.modTm (fun m => { m with epoch := m.epochNext.map (fun x => { x with since := s.clk }), epochNext := none, epochEdge := none })
  let s2 := s1.doMark b kind d
  if s.ck.disc = 5 then s2.afterStep rest else s2

/-- The module's own epoch mark (07 R183, R185): a manager announces it at the epoch (16 R398), any other module performs it at the
boundary. -/
def State.ownMark (s : State) : State :=
  match s.tm.epoch with
  | none => s
  | some q =>
    if s.epochsHeld || s.isMember || s.announced true then s
    else match s.ppsEpoch q.since with
      | none => s
      | some f =>
        let b := s.epochBoundary f
        if s.clk < (if s.ar.role = 1 then ceilDiv f fineUnit else b) then s
        else
          let te : Int := (f : Int) + s.tm.off * fineUnit
          let k0 := nearest4 te
          let d : Int := ((q.seconds * 3000000000 : Nat) : Int) - k0
          let kind := if s.tm.epochEdge.isSome then 0 else 1
          let rest := divHalfEven ((te - k0 * fineUnit) * 1000000) (3 * fineUnit)
          if s.ar.role = 1 then s.sendEpoch b d (1 + kind) rest else s.performMark b kind d rest

/-- An epoch mark that was announced takes place at its boundary (16 R398): in the manager as its own. -/
def State.announcedMark (s : State) (d : DueEpoch) : State :=
  match d.rest with
  | some r => (s.dropEpoch d).performMark (s.clkOf d.b) (d.kind - 1) d.delta r
  | none => (s.dropEpoch d).doMark (s.clkOf d.b) (d.kind - 1) d.delta

/-- An epoch mark (07 R183; 16 R398): one announced that is due, else the module's own, announced in a manager and, when its boundary has
come too, performed. -/
def State.epochMark (s : State) : State :=
  match s.dueEpoch true with
  | some d => s.announcedMark d
  | none =>
    let s1 := s.ownMark
    match s1.dueEpoch true with
    | some d => s1.announcedMark d
    | none => s1

/-! TDC calibration (07 R187). -/

/-- A calibration of a TDC channel completes with its largest error in fs. -/
def State.tdcCal (s : State) (c : Fin 10) (err : Nat) : State :=
  if s.clockStopped || decide (3 ≤ s.pw.st) || decide (s.clk * fineUnit < s.tm.dead[c]) then s
  else
    let s1 := s.modTm (fun m => { m with calAt := m.calAt.set c.val s.clk })
    if 2000 < err then s1.tdcUncal c
    else if err ≤ 500 ∧ s.tm.cal[c] = false then
      let s2 := s1.modTm (fun m => { m with cal := m.cal.set c.val true })
      if s2.tm.allCal then s2.tmEvent 0x0506 sevInfo 0 s.ticks else s2
    else s1

/-- No calibration of a TDC channel has completed for 3 ms. -/
def State.tdcTimeout (s : State) (c : Fin 10) : State :=
  if s.tm.cal[c] = true ∧ s.tm.calAt[c] + 9000000 ≤ s.clk then s.tdcUncal c else s

/-! TDC_MEASURE (07 R189, R193). -/

/-- Whether a measurement holds a channel. -/
def Measure.holds (m : Measure) (c : Nat) : Bool := m.startSrc == c || m.stopSrc == c

/-- The measurement that a payload asks for. -/
def measureOf (mb : Nat) (p : List Byte) : Measure :=
  { mb := mb, startSrc := fieldAt p 0 1, startEdge := fieldAt p 1 1, stopSrc := fieldAt p 2 1, stopEdge := fieldAt p 3 1
    count := fieldAt p 4 2, win := fieldAt p 6 2, wait := fieldAt p 8 4, buf := (bulkRef p 16).1, done := 0, orFlags := 0
    unpaired := 0, open_ := none, held := [], lastClose := none }

/-- Whether a payload of TDC_MEASURE is in range. -/
def measureOk (p : List Byte) : Bool :=
  let m := measureOf 0 p
  decide (m.startSrc ≤ 6 ∧ m.stopSrc ≤ 6 ∧ m.startEdge ≤ 1 ∧ m.stopEdge ≤ 1) && decide (1 ≤ m.count) && decide (m.win ≤ 3000)
    && decide (1 ≤ m.wait ∧ m.wait ≤ 60000000) && fieldAt p 12 4 == 0 && bulkOk p 16
    && decide (32 * m.count ≤ (bulkRef p 16).2.1) && m.startSrc != m.stopSrc

/-- Whether an AUX_IO source has no input function. -/
def State.auxWanting (s : State) (c : Nat) : Bool := decide (3 ≤ c) && !(s.auxInput (c - 3))

/-- TDC_MEASURE's own part; one that repeats running work cancels it and fails (07 R193). -/
def measureBody : Body := fun r s =>
  let m := measureOf r.mb.val r.payload
  if measureOk r.payload = false then fails eParam s
  else match s.tm.meas.find? (fun x => x.key == m.key && x.count == m.count) with
    | some x => fails eBusy (s.endMeasure x stOk)
    | none =>
      if s.tm.meas.any (fun x => x.holds m.startSrc || x.holds m.stopSrc) = true then fails eBusy s
      else if s.workFull = true then fails eNores s
      else if (s.auxWanting m.startSrc || s.auxWanting m.stopSrc) = true then fails eConflict s
      else accepted ((s.modTm (fun x => { x with meas := x.meas ++ [m] })).addWork r m.key 0)

/-- The measurement whose start input is TDC channel `c` expires (07 R190). -/
def State.measureExpiry (s : State) (c : Nat) : State :=
  match s.tm.meas.find? (fun m => m.startSrc == c) with
  | none => s
  | some m => s.expireMeasure m (s.clk * fineUnit + 1)

/-! GET_TIME_STATUS (07 R197). -/

/-- Seconds in holdover (06 R157). -/
def State.holdSeconds (s : State) : Nat := if s.tm.qual.getLsbD 1 then (s.clk - s.ck.holdFrom) / 3000000000 else 0


/-- SLEW_LEFT in ps, saturating. -/
def State.slewLeft (s : State) : Int :=
  if s.ck.disc = 4 then clampInt (-2147483648) 2147483647 (divHalfEven s.ck.e 1000) else 0

/-- A slice-clock tick in the present scale; 0 when none. -/
def State.inScale (s : State) (x : Option Nat) : Nat := x.elim 0 (fun b => ((b : Int) + s.tm.off).toNat % 2 ^ 64)

/-- The response of GET_TIME_STATUS. -/
def State.timeStatus (s : State) : List Byte :=
  s.now.bytes ++ leBytes 1 s.ck.disc ++ leBytes 1 s.ck.synth ++ leBytes 1 s.refReport
    ++ leBytes 1 (if s.isMember then 0 else s.ck.refFreq) ++ leBytes 8 (encInt 64 s.ck.e) ++ leBytes 1 s.ck.eKind
    ++ leBytes 1 (flag s.tm.ppsQual + 2 * flag s.tm.allCal + 4 * flag s.tm.epoch.isSome) ++ [0#8, 0#8]
    ++ leBytes 4 s.holdSeconds ++ leBytes 8 s.ck.lastStepT ++ leBytes 8 (encInt 64 s.ck.lastStep)
    ++ leBytes 8 (s.inScale s.tm.epochAt) ++ leBytes 4 (encInt 32 s.slewLeft) ++ leBytes 4 0
    ++ s.ppsStamp.bytes ++ leBytes 2 s.tm.ppsCount ++ [0#8, 0#8]
    ++ s.tm.missed.toList.map (fun n => byteOf (min 255 n)) ++ List.replicate 6 0#8

/-- GET_TIME_STATUS's own part. -/
def timeStatusBody : Body := fun _ s => answers s.timeStatus s

/-! The rows. -/

/-- SET_TIME (07 R184). -/
def execSetTime (t : Nat) (mb : Fin 17) (s : State) : Out := go (s.command t mb 0x0401 (lenIs 16) setTimeBody)

/-- GET_TIME_STATUS (07 R197). -/
def execGetTimeStatus (t : Nat) (mb : Fin 17) (s : State) : Out := go (s.command t mb 0x0402 (lenIs 0) timeStatusBody)

/-- TDC_MEASURE (07 R189). -/
def execTdcMeasure (t : Nat) (mb : Fin 17) (s : State) : Out := go (s.command t mb 0x0405 (lenIs 32) measureBody)

/-- PPS_EDGE (07 R180): an edge at PPS_IN. -/
def execPpsEdge (t frac : Nat) (falling : Bool) (s : State) : Out :=
  go ((s.reach t).tdcEdge 2 (t * fineUnit + frac % fineUnit) falling)

/-- PPS_MISSING (07 R180). -/
def execPpsMissing (t : Nat) (s : State) : Out := go ((s.reach t).ppsMissing)

/-- PPS_OUT_PULSE (07 R181). -/
def execPpsOutPulse (t : Nat) (s : State) : Out := go ((s.reach t).ppsPulse)

/-- PPS_OUT_END (07 R181). -/
def execPpsOutEnd (t : Nat) (s : State) : Out := go ((s.reach t).ppsPulseEnd)

/-- EPOCH_MARK (07 R183). -/
def execEpochMark (t : Nat) (s : State) : Out := go ((s.reach t).epochMark)

/-- TDC_EDGE (07 R186): the signal at a TDC input, in the order of R197, swings between two levels in mV; the edge that this makes is
stamped at the instant (08 R215). -/
def execTdcEdge (t : Nat) (chan : Fin 10) (frac : Nat) (swing : Swing) (s : State) : Out :=
  let s0 := s.reach t
  go (if s0.edgeSwings chan swing.low swing.high t then s0.tdcEdge chan (t * fineUnit + frac % fineUnit) swing.falling else s0)

/-- TDC_CALIBRATION (07 R187). -/
def execTdcCalibration (t : Nat) (chan : Fin 10) (err : Nat) (s : State) : Out := go ((s.reach t).tdcCal chan err)

/-- TDC_CAL_TIMEOUT (07 R187). -/
def execTdcCalTimeout (t : Nat) (chan : Fin 10) (s : State) : Out := go ((s.reach t).tdcTimeout chan)

/-- MEASUREMENT_EXPIRY (07 R190): of the measurement whose start input is `chan`. -/
def execMeasurementExpiry (t chan : Nat) (s : State) : Out := go ((s.reach t).measureExpiry chan)

end Sys2Proof.Machine
end

