-- ==== Sys2Proof/Machine/Array.lean ====
section
/-!
DEFINITION. Arrays over the Nired link (16): ports, joining and leaving, the member table and W, time transfer, array
arming, triggers, epochs, relays, failure and takeover.
-/

namespace Sys2Proof.Machine

/-- DATA of an array event (16 R418). -/
def arData (addr port reason v : Nat) : List Byte := leBytes 2 addr ++ leBytes 1 port ++ leBytes 1 reason ++ leBytes 8 v

/-- Log an array event at scope 0x20 (16 R418). -/
def State.arEvent (s : State) (code sev addr port reason v : Nat) : State := s.logEv code sev 0x20 (arData addr port reason v)

/-! The member table (16 R392, R393, R406). -/

/-- The member at an address. -/
def memberAt (l : List Member) (addr : Nat) : Option Member := l.find? (fun m => m.addr == addr)

/-- Whether a link leaves its parent through N_DN0 (16 R392). -/
def dn0 (port : Nat) : Bool := port == 0 || port == 3

/-- The parent's downstream port of a link. -/
def dnPort (port : Nat) : Fin 3 := if dn0 port then 1 else 2

/-- The members on the path from the manager down to an address, the manager left out, at most `fuel` links. -/
def pathOf (l : List Member) : Nat → Nat → List Member
  | 0, _ => []
  | n + 1, addr => match memberAt l addr with
    | none => []
    | some m => if m.port = 255 then [] else m :: pathOf l n m.parent

/-- Links enough for any path: 32 hops and one that breaks the limit. -/
def pathFuel : Nat := 34

/-- Hops of an address (16 R392). -/
def hopsOf (l : List Member) (addr : Nat) : Nat := (pathOf l pathFuel addr).length

/-- Level of an address (16 R392). -/
def levelOf (l : List Member) (addr : Nat) : Nat := 1 + ((pathOf l pathFuel addr).filter (fun m => dn0 m.port)).length

/-- Levels and hops counted afresh along the paths. -/
def relevel (l : List Member) : List Member := l.map (fun m => { m with level := levelOf l m.addr, hops := hopsOf l m.addr })

/-- Whether an address lies below another. -/
def isBelow (l : List Member) (addr top : Nat) : Bool := (pathOf l pathFuel addr).any (fun m => m.parent == top)

/-- Put a member in its place by address. -/
def putMember (m : Member) : List Member → List Member
  | [] => [m]
  | x :: xs => if x.addr = m.addr then m :: xs else if m.addr < x.addr then m :: x :: xs else x :: putMember m xs

/-- The entry that a manager holds for itself (16 R406). -/
def selfMember (addr : Nat) (export_ : Bool) : Member :=
  ⟨addr, 65535, 255, 1, 0, 0, Config.serial, [], 0, true, false, false, true, 0, export_⟩

/-- The bound of one link for a trigger, in ticks: 2,520 and its one-way delay (16 R391). -/
def linkBound (m : Member) : Nat := 2520 + ceilDiv (m.delay * 3) 1000

/-- The bound of the way between the manager and an address. -/
def wayBound (l : List Member) (addr : Nat) : Nat := ((pathOf l pathFuel addr).map linkBound).foldl (· + ·) 0

/-- The largest of a list. -/
def greatest (l : List Nat) : Nat := l.foldl max 0

/-- W (16 R402). -/
def latencyW (l : List Member) : Nat :=
  let here := l.filter (fun m => m.mstate == 0)
  404 + greatest ((here.filter (·.export_)).map (fun m => wayBound l m.addr)) + greatest (here.map (fun m => wayBound l m.addr))

/-- Recompute W; AR_TRIG_DELAY_SHORT when it rises above AR_TRIG_DELAY (16 R402). -/
def State.recomputeW (s : State) : State :=
  let w := latencyW s.ar.members
  let s1 := s.modAr (fun a => { a with w := w })
  if s.mkey 0x0E04 < w ∧ s.ar.w ≤ s.mkey 0x0E04 then s1.arEvent 0x0E09 sevError s.ar.addr 0xFF 0 w else s1

/-- Change the member table of the manager. -/
def State.modMembers (s : State) (g : List Member → List Member) : State :=
  s.modAr (fun a => { a with members := relevel (g a.members) })

/-- Change the entry of one address. -/
def State.modMember (s : State) (addr : Nat) (g : Member → Member) : State :=
  s.modAr (fun a => { a with members := a.members.map (fun m => if m.addr = addr then g m else m) })

/-- Present members (16 R405). -/
def State.presentMembers (s : State) : Nat :=
  if s.ar.role = 0 then 0
  else (s.ar.members.filter (fun m => m.mstate == 0)).length + flag (s.ar.role != 1)

/-! Time and discipline when what the module follows changes (16 R396, R397, R409, R411). -/

/-- ARRAY_ALIGNED clears. -/
def State.unalign (s : State) : State := (s.modAr (fun a => { a with aligned := false, alignFrom := none })).applyQual

/-- The upstream is no longer followed: HOLDOVER, and the exchanges start again (16 R396). No CK_REF_LOST is logged, whose DATA name a
REF_IN state; 06 R173 and 16 R396 leave that open (DESIGN CHOICE, log entry 54). -/
def State.loseUp (s : State) : State := (s.modAr (fun a => { a with exchanges := 0 })).loseLock s.clk

/-- A module turns to its own reference (16 R411; 06 R157): from HOLDOVER, LOCKED at once when the phase error permits. -/
def State.ownReference (s : State) (e : Int) : State :=
  let s1 := (s.modAr (fun a => { a with upQual := 0#4, pathAl := false, exchanges := 0, viaSb := false })).applyQual
  if s1.ck.refQual then s1.gainLock e else s1

/-! Roles (16 R393, R403, R404, R411, R412). -/

/-- What a module that is no member holds (16 R405). -/
def ArrayLink.alone (a : ArrayLink) (noAuto : Bool) : ArrayLink :=
  { a with
    role := 0, astate := 0, addr := 65535, mgr := 65535, deputy := 65535, level := 0, hops := 0
    carries := Vector.replicate 3 false, joinPorts := Vector.replicate 3 false, viaSb := false, members := [], asym := []
    copy := [], copyAsym := [], joinAt := none, split := none, noAuto := noAuto, aligned := false, alignFrom := none, pathAl := false
    links := Vector.replicate 3 none, upQual := 0#4, exchanges := 0, w := 404, calNow := a.calNow.filter (·.host), calNext := [], armWait := [], epochs := [], relayGot := []
    held := [], takeWait := none, paused := Vector.replicate 3 none }

/-- The module becomes standalone (16 R404): a member's clock coasts until its own reference qualifies. -/
def State.standalone (s : State) : State :=
  let was := s.isMember
  let s1 := s.modAr (fun a => a.alone true)
  let s2 := if was then (s1.loseLock s.clk).modCk (fun k => { k with refQual := false }) else s1
  s2.applyQual.syncDomains

/-- The module becomes MANAGER with a member table (16 R403, R404, R411). -/
def State.beManager (s : State) (addr astate : Nat) (table : List Member) (asym : List (Nat × Int)) : State :=
  (s.modAr (fun a => { a with
    role := 1, astate := astate, addr := addr, mgr := addr, deputy := 65535, level := 1, hops := 0, noAuto := false
    members := relevel table, asym := asym, copy := [], copyAsym := [], split := none, aligned := true, alignFrom := none, takeWait := none
    carries := a.carries.set 0 false })).applyQual

/-- The table that a deputy's copy becomes when it takes over: itself at the top, its old manager gone (16 R411). -/
def takenTable (own : Nat) (export_ : Bool) (table : List Member) : List Member :=
  putMember (selfMember own export_) (table.filter (fun m => m.port != 255))

/-- A deputy's copy of the manager's tables is brought up to date with what has arrived of it (16 R393; log entry 63). -/
def State.takeCopy (s : State) (table : Option (List Member)) (asym : Option (List (Nat × Int))) : State :=
  s.modAr (fun a => { a with copy := table.getD a.copy, copyAsym := asym.getD a.copyAsym })

/-- A deputy becomes MANAGER in place of its manager, with its copy of the tables (16 R393, R404, R411). -/
def State.promote (s : State) (astate : Nat) (e : Int) : State :=
  let s1 := s.beManager s.ar.addr astate (takenTable s.ar.addr (s.mkey 0x0E05 != 0) s.ar.copy) s.ar.copyAsym
  (s1.loseUp.ownReference e).recomputeW

/-! Ports (16 R389, R409–R413). -/

/-- Whether time comes in through a port (16 R396, R410). -/
def State.isUpstream (s : State) (p : Fin 3) : Bool := s.isMember && s.upPort == some p

/-- What a JOIN says of a module: SERIAL and the digest of the identity public key (16 R390). -/
def joinArgs (serial digest : List Byte) : List Nat := (serial ++ digest).map (·.toNat)

/-- A JOIN of this module leaves upstream (16 R390); role 2 asks for the designation as deputy (16 R403; log entry 63). -/
def State.joinOut (s : State) (role : Nat) : State :=
  s.sendN 0x0A s.ar.addr (joinArgs Config.serial identDigest ++ if role = 2 then [2] else [])

/-- A JOIN of this module leaves, or waits until firmware resumes (16 R415). -/
def State.askJoin (s : State) (role : Nat) : State :=
  if s.fw.serving && !s.fw.halted then s.joinOut role else s.modAr (fun a => { a with held := a.held ++ [.ownJoin role] })

/-- A JOIN of this module, without a role asked for. -/
def State.sendJoin (s : State) : State := s.askJoin 3

/-- A port comes up with a peer of a role on its other end, which names the link in its AR_STANDBY or not (16 R389, R394, R409, R410,
R412, R413); its domain must be on (17 R421). -/
def State.portUp (s : State) (p : Fin 3) (peer : Nat) (standby : Bool) : State :=
  if s.ar.ports[p] || s.clockStopped || decide (2 ≤ s.pw.st) || !(s.domOn (192 + p.val)) then s
  else
    let paused := s.ar.paused[p].any (fun x => decide (s.clk ≤ x + 300000000))
    let s1 := s.modAr (fun a => { a with
      ports := a.ports.set p.val true, peers := a.peers.set p.val peer, paused := a.paused.set p.val none
      lastTime := a.lastTime.set p.val s.clk, sbPeer := a.sbPeer.set p.val standby })
    if p != 0 || s.ar.viaSb then s1
    else
      let s2 := s1.modAr (fun a => { a with exchanges := 0, takeWait := none })
      if peer = 0 then s2
      else if s.ar.role = 0 then
        if s.ar.astate = 1 ∨ (s.mkey 0x0E00 = 1 ∧ s.ar.noAuto = false) then (s2.modAr (fun a => { a with astate := 1 })).sendJoin else s2
      else if s.ar.role = 1 then
        if s.ar.astate = 4 ∨ s.ar.addr = 0 then s2
        else (s2.modAr (fun a => { a with astate := 4 })).arEvent 0x0E08 sevCritical s.ar.addr 0 0 s.ticks
      else if paused then s2
      else s2.sendJoin

/-- The module is orphaned (16 R409): it keeps its role and address, coasts in HOLDOVER, is not aligned. -/
def State.orphan (s : State) : State :=
  ((s.modAr (fun a => { a with astate := 3, viaSb := false })).loseUp.unalign).arEvent 0x0E05 sevError s.ar.addr 0 0 s.ticks

/-- The module takes its standby port as upstream (16 R410); the link's delay has been measured all the time. -/
def State.takeRoute (s : State) (level hops : Nat) : State :=
  let s1 := s.modAr (fun a => { a with
    astate := 2, viaSb := true, level := level, hops := hops, delay := s.standbyPort.elim a.delay (fun p => a.linkDelay[p]) })
  ((s1.loseUp.unalign).sendJoin).arEvent 0x0E06 sevNotice s.ar.addr (s.mkey 0x0E06) 0 hops

/-- The waiting relay to an address that is no longer present ends with E_HW (16 R407, R417). -/
def State.failRelay (s : State) : State :=
  match s.mr.exec with
  | some ⟨_, _, .relay addr⟩ =>
    if (memberAt s.ar.members addr).any (fun m => m.mstate == 0) then s else s.finish ⟨eHw, [], none, 0, 0⟩ s.clk
  | _ => s

/-- A member and all below it are lost (16 R409): marked absent and orphaned; the manager recomputes W. -/
def State.loseMember (s : State) (addr : Nat) : State :=
  if s.ar.members.all (fun m => m.addr != addr || m.mstate == 1) then s
  else
    let l := s.ar.members
    let s1 := s.modAr (fun a => { a with members := l.map (fun m =>
      if m.addr = addr then { m with mstate := 1, aligned := false }
      else if isBelow l m.addr addr && m.mstate == 0 then { m with mstate := 2, aligned := false } else m) })
    if s.ar.role = 1 then ((s1.arEvent 0x0E03 sevWarning addr 0xFF 0 s.ticks).recomputeW).failRelay else s1

/-- The member that hangs on a downstream port of this module. -/
def State.childOn (s : State) (p : Fin 3) : Option Member :=
  s.ar.members.find? (fun m => m.parent == s.ar.addr && m.mstate == 0 && m.port != 255
    && dnPort m.port == p)

/-- A downstream port that carries a member is lost (16 R409, R412): ABSENT goes up; a manager that loses the link to a
deputy which still runs is split from it. -/
def State.loseChild (s : State) (p : Fin 3) (alive : Bool) : State :=
  match s.childOn p with
  | none => s
  | some m =>
    let s1 := s.loseMember m.addr
    if s.ar.role = 1 then
      if m.deputy && alive && decide (s.ar.astate ≠ 4)
      then (s1.modAr (fun a => { a with astate := 4, split := some m.addr })).arEvent 0x0E08 sevCritical m.addr p.val 0 s.ticks else s1
    else s1.sendN 0x0E s.ar.addr [m.addr]

/-- The upstream is lost (16 R409–R411): a deputy waits 1 ms; others go back to N_UP from the standby port when it is up, or take
the standby route, or are orphaned. -/
def State.loseUpstream (s : State) (alive : Bool) (route : Option (Nat × Nat)) : State :=
  if s.ar.role = 2 then
    ((s.loseUp.unalign).modAr (fun a => { a with takeWait := some (s.clk, alive) }))
  else if s.ar.viaSb && s.ar.ports[0] then
    (((s.modAr (fun a => { a with viaSb := false })).loseUp).unalign).sendJoin
  else match route with
    | some r => if s.sbUp && !s.ar.viaSb && decide (r.1 ≤ 8 ∧ r.2 ≤ 32) then s.takeRoute r.1 r.2 else s.orphan
    | none => s.orphan

/-- What the loss of a port means once no PAUSE excuses it (16 R409–R413). -/
def State.portLoss (s : State) (p : Fin 3) (up alive : Bool) (route : Option (Nat × Nat)) : State :=
  if up then s.loseUpstream alive route else s.loseChild p alive

/-- The port of this module at the link above the module of an address. -/
def State.linkPort (s : State) (addr : Nat) : Option (Fin 3) :=
  if s.isMember && addr == s.ar.addr then s.upPort
  else ((memberAt s.ar.members addr).filter (fun m => m.parent == s.ar.addr && m.port != 255)).map (fun m => dnPort m.port)

/-- The tick up to which a calibration takes the TDC channel of a port and TIME exchanges pause there: 100 ms from its beginning; 0 when
none does (16 R408). -/
def State.linkBusy (s : State) (p : Fin 3) : Nat :=
  match s.ar.calNow with
  | some r => if r.links.any (fun l => s.linkPort l.1 == some p) then r.began + 300000000 else 0
  | none => 0

/-- A port goes down, by loss of lock or by silence (16 R389, R409, R413); the silence that a calibration imposes does not count (16 R408). -/
def State.portDown (s : State) (p : Fin 3) (lock alive : Bool) (route : Option (Nat × Nat)) : State :=
  if !(s.ar.ports[p]) || (!lock && decide (s.clk < max s.ar.lastTime[p] (s.linkBusy p) + 9000000)) then s
  else
    let up := s.isUpstream p
    let excused := s.ar.paused[p].any (fun x => decide (s.clk ≤ x + 300000000))
    let s1 := s.modAr (fun a => { a with
      ports := a.ports.set p.val false, echo := a.echo.set p.val (0, 0)
      wire := cutWire s.clk (fun x => x == p.val) a.wire
      paused := if excused then a.paused else a.paused.set p.val none })
    if s.ar.role = 0 ∨ (s.ar.astate = 3 ∧ up = true) then s1
    else if excused then (if up then s1.loseUp else s1)
    else s1.portLoss p up alive route

/-- An outage after PAUSE lasts beyond 100 ms (16 R413). -/
def State.pauseExpire (s : State) (p : Fin 3) (alive : Bool) (route : Option (Nat × Nat)) : State :=
  if s.ar.paused[p].any (fun x => decide (x + 300000000 ≤ s.clk)) && !(s.ar.ports[p]) then
    let s1 := s.modAr (fun a => { a with paused := a.paused.set p.val none })
    if s.ar.role = 0 ∨ (s.ar.astate = 3 ∧ s.isUpstream p = true) then s1 else s1.portLoss p (s.isUpstream p) alive route
  else s

/-- An orphaned module takes the standby route (16 R410). -/
def State.reroute (s : State) (level hops : Nat) : State :=
  if s.isMember = true ∧ s.ar.astate = 3 ∧ s.sbUp = true ∧ s.ar.viaSb = false ∧ level ≤ 8 ∧ hops ≤ 32
  then s.takeRoute level hops else s

/-- The deputy's wait ends (16 R411, R412). -/
def State.takeoverNow (s : State) (e : Int) (table : Option (List Member)) (asym : Option (List (Nat × Int))) : State :=
  match s.ar.takeWait with
  | none => s
  | some (a, alive) =>
    if s.clk < a + 3000000 ∨ s.ar.role ≠ 2 then s
    else
      let s1 := (s.takeCopy table asym).promote (if alive then 4 else 2) e
      let s2 := s1.sendOn s1.upPorts 0x0D 0xFFFF [s.ar.addr]
      let s3 := (s2.modAr (fun x => { x with takeovers := wrapAdd 32 x.takeovers 1 })).arEvent 0x0E07 sevWarning s.ar.addr 0xFF 0 s.ticks
      if alive then s3.arEvent 0x0E08 sevCritical s.ar.addr 0 0 s.ticks else s3

/-! Time transfer (16 R395–R397). -/

/-- A port sends its TIME message (16 R390, R395): the departure tick, which `NWire.content` adds as it leaves, the echo, QUAL[3:0],
path-aligned bit, level, hops. None while the link's delays are being measured (16 R408). -/
def State.sendTime (s : State) (p : Fin 3) : State :=
  if !(s.ar.ports[p]) || decide (s.clk < s.linkBusy p) then s
  else s.sendOn [p] 0x01 (if s.isUpstream p then s.ar.addr else 0xFFFF)
    [(s.ar.echo[p]).1, (s.ar.echo[p]).2, s.tm.qual.toNat % 16, flag s.ar.aligned, s.ar.level, s.ar.hops]

/-- The constants of the link of a port: as calibrated, else the design values without asymmetry (16 R395, R408). -/
def State.linkConst (s : State) (p : Fin 3) : LinkConst := (s.ar.links[p]).getD { Config.linkDesign p.val with a := 0 }

/-- Three times the way down and the way up of an exchange in fs (16 R395): a departure is a tick of 10^6/3 fs and the transmit delay, an
arrival a stamp less the receive delay. -/
def waysOf (k : LinkConst) (m : TimeMsg) : Int × Int :=
  (3 * ((m.t2 : Int) - k.rx) - (1000000 * (m.t1 : Int) + 3 * k.peerTx), 3 * (m.t4 : Int) - (1000000 * (m.t3 : Int) + 3 * k.tx))

/-- θ of an exchange in fs (16 R395). -/
def thetaOf (k : LinkConst) (m : TimeMsg) : Int := divHalfEven ((waysOf k m).1 - (waysOf k m).2 - 3 * k.a) 6

/-- The one-way delay of an exchange in fs (16 R395). -/
def delayOf (k : LinkConst) (m : TimeMsg) : Int := divHalfEven ((waysOf k m).1 + (waysOf k m).2) 6

/-- Whether the upstream link is calibrated (16 R397). -/
def State.linkCal (s : State) : Bool := s.upPort.any (fun p => (s.ar.links[p]).isSome)

/-- ARRAY_ALIGNED after an exchange (16 R397). -/
def State.alignStep (s : State) (moved : Bool) : State :=
  let t := s.ar.theta.natAbs
  let from_ : Option Nat := if 10000 < t || moved then none else some (s.ar.alignFrom.getD s.clk)
  let keep := s.ar.aligned && decide (t ≤ 50000) && s.ar.pathAl && !moved
  let gain := s.linkCal && s.ar.pathAl && from_.any (fun a => decide (a + 3000000000 ≤ s.clk))
  (s.modAr (fun a => { a with alignFrom := from_, aligned := keep || gain })).applyQual

/-- An exchange on the upstream link (16 R395–R397): its θ is the phase error. -/
def State.upstreamTime (s : State) (k : LinkConst) (m : TimeMsg) : State :=
  let moved := decide (s.ar.level ≠ m.level ∨ s.ar.hops ≠ m.hops)
  let n := min 16 (s.ar.exchanges + 1)
  let r := s.free
  let s1 := (r.2.modAr (fun a => { a with
    theta := thetaOf k m, delay := delayOf k m, exchanges := n, upQual := m.qual, pathAl := m.aligned
    level := m.level, hops := m.hops, rms := r.1.toNat % 2 ^ 32 })).takeError 0
  let s2 := if n = 16 ∧ s.ar.exchanges < 16 then s1.gainLock (thetaOf k m) else s1
  s2.alignStep moved

/-- A TIME message arrives (16 R389, R390, R395): its link stays measured, also that of a standby port (16 R410). While the port's TDC
channel is taken it is not stamped (16 R408). -/
def State.takeTime (s : State) (p : Fin 3) (m : TimeMsg) : State :=
  if !(s.ar.ports[p]) || decide (s.clk < s.linkBusy p) then s
  else
    let k := s.linkConst p
    let s1 := s.modAr (fun a => { a with
      lastTime := a.lastTime.set p.val s.clk, echo := a.echo.set p.val (m.t1, ((m.t2 : Int) - k.rx).toNat)
      linkDelay := a.linkDelay.set p.val (delayOf k m) })
    if s.isUpstream p then s1.upstreamTime k m else s1

/-! Epochs (16 R398). -/

/-- Forward a downstream message (16 R390). -/
def State.forward (s : State) (mtype : Nat) (args : List Nat) : State := if s.isMember then s.sendN mtype 0xFFFF args else s

/-- EPOCH arrives (16 R398): kept until B, or applied at the next boundary when B has passed. -/
def State.takeEpoch (s : State) (b : Nat) (delta : Int) (kind : Nat) : State :=
  if !s.isMember then s
  else
    let s1 := s.forward 0x02 [b, encInt 64 delta, kind]
    if s.ticks ≤ b then s1.modAr (fun a => { a with epochs := a.epochs ++ [⟨b, delta, kind, none⟩] })
    else
      let q := s1.boundary
      let s2 := if kind = 0 then s1.doStep q delta else s1.doMark q (kind - 1) delta
      s2.arEvent 0x0E0A sevWarning s.ar.addr 0xFF 0 b

/-! Array triggers (16 R401, R402). -/

/-- The fine slice-clock instant of a point carried in module time. -/
def State.fineOf (s : State) (ticks frac : Nat) : Nat := s.clkOf ticks * fineUnit + frac % fineUnit

/-- TRIG_REQ arrives (16 R401): the manager broadcasts or merges it; a member passes it on. -/
def State.takeTrigReq (s : State) (origin : Nat) (c : Fin 4) (ticks frac : Nat) (qual : BitVec 8) : State :=
  if s.ar.role = 1 then s.mergeTrig origin c (s.fineOf ticks frac) (qual.getLsbD 5)
  else if s.isMember then s.sendN 0x03 origin [origin, c.val, ticks, frac % fineUnit, flag (qual.getLsbD 5)]
  else s

/-- TRIG arrives (16 R401): the assigned instant is P and the manager's AR_TRIG_DELAY. -/
def State.takeTrig (s : State) (origin : Nat) (c : Fin 4) (ticks frac : Nat) (qual : BitVec 8) (delay : Nat) : State :=
  if !s.isMember then s
  else
    let s1 := (s.modAr (fun a => { a with recv := wrapAdd 32 a.recv 1 })).forward 0x04
      [origin, c.val, ticks, frac % fineUnit, flag (qual.getLsbD 5)]
    s1.niredEvent (s.fineOf (ticks + delay) frac) (qual.getLsbD 5)

/-! Array arming (16 R399, R400). -/

/-- The channels that follow an array ARM: present, in AR_ARM_FOLLOW, refused by no check of 09 R229. -/
def State.followSet (s : State) : List (Fin 4) :=
  (allCh.filter (fun c => bitAt (s.mkey 0x0E02) c.val && s.present c)).foldl
    (fun l c => if (s.armFail (l ++ [c])).isNone then l ++ [c] else l) []

/-- ARM arrives (16 R399). -/
def State.takeArm (s : State) (c number : Nat) : State :=
  if !s.isMember then s
  else
    let s1 := s.forward 0x05 [c, number]
    let sel := s.followSet
    if sel.isEmpty then s1.sendN 0x07 s.ar.addr [s.ar.addr, number, 2]
    else ((s1.armBegin true sel).modAr (fun a => { a with armNo := number, armC := some c, armTold := false }))

/-- DISARM arrives (16 R400): the channels that followed the array stop at Q. -/
def State.takeDisarm (s : State) (q : Nat) : State :=
  if !s.isMember then s
  else
    let b := s.boundaryFrom (max (s.clk + 1) (s.clkOf q))
    (allCh.filter (fun c => s.ch[c].follow)).foldl (State.disarmChan b 6) (s.forward 0x06 [q])

/-- READY arrives (16 R399): the manager counts the members that were late or did not follow. -/
def State.takeReady (s : State) (addr number result : Nat) : State :=
  if s.ar.role = 1 then
    if number = s.ar.armNo ∧ s.ar.armWait.contains addr = true then
      s.modAr (fun a => { a with
        armWait := a.armWait.erase addr, armLate := a.armLate + flag (result == 1), armNot := a.armNot + flag (result == 2) })
    else s
  else if s.isMember then s.sendN 0x07 addr [addr, number, result]
  else s

/-! Relays (16 R407). -/

/-- Whether a relayed command is the ARRAY_STATUS with OP 3 that asks for more of a response (16 R407; log entry 63). -/
def relayMore (bytes : List Byte) : Bool := fieldAt bytes 0 2 == 0x0802 && fieldAt bytes 32 1 == 3

/-- A RELAY_CMD for this module, which arrived at tick `at_` (16 R407): the command is posted in the relay mailbox, which the module takes
in its order (02 R47), its TIMEOUT counting from the arrival; a request for more of the response kept there is answered from it. -/
def State.takeRelay (s : State) (at_ : Nat) (bytes : List Byte) : State :=
  let m : Fin 17 := 16
  let b := s.mbox m
  if !s.isMember || b.state == .posted || b.state == .busy then s
  else if relayMore bytes then s.sendParts s.ar.addr 1 ((b.rsp.drop (fieldAt bytes 36 2)).take 2048)
  else
    let s1 := s.modMb m (fun x => { x with cmd := memWriteBytes [] 0 (bytes.take 1016), rsp := [] })
    (s1.post m).modMb m (fun x => { x with doorbell := at_, doorTicks := s.ticksAt at_ })

/-- A fragment of RELAY_RSP arrives: with the last one the relay completes with the response header and up to 2,016 payload bytes (16
R407). -/
def State.takeRelayRsp (s : State) (addr : Nat) (part : RelayPart) : State :=
  if s.ar.role = 1 then
    match s.mr.exec with
    | some ⟨_, _, .relay a⟩ =>
      if a = addr then
        let all := (s.ar.relayGot ++ part.bytes).take 2048
        if part.last then (s.modAr (fun x => { x with relayGot := [] })).finish ⟨stOk, all, none, 0, 0⟩ s.clk
        else s.modAr (fun x => { x with relayGot := all })
      else s
    | _ => s
  else if s.isMember then s.sendN 0x09 addr (flag part.last :: part.bytes.map (·.toNat))
  else s

/-! Joining (16 R392, R393, R403, R414). -/

/-- The lowest free address from 1 to 1,023 (16 R393). -/
def freeAddr (l : List Member) : Option Nat := (List.range 1023).map (· + 1) |>.find? (fun a => l.all (fun m => m.addr != a))

/-- The entry at a position, or for a standby route the entry of the same module. -/
def positionOf (l : List Member) (parent port : Nat) (serial digest : List Byte) : Option Member :=
  if 2 ≤ port then l.find? (fun m => m.serial == serial && m.digest == digest && m.port != 255)
  else l.find? (fun m => m.parent == parent && m.port == port)

/-- The limit that a member table breaks at an address: 1 members, 2 levels, 3 hops, 0 none (16 R392, R418). -/
def limitBroken (l : List Member) (addr : Nat) : Nat :=
  if 1024 < l.length then 1 else if 8 < levelOf l addr then 2 else if 32 < hopsOf l addr then 3 else 0

/-- The designation of a deputy (16 R393, R403): the previous one becomes a WORKER. -/
def State.designate (s : State) (addr : Nat) : State :=
  let old := s.ar.deputy
  let s1 := s.modAr (fun a => { a with deputy := addr, members := a.members.map (fun m => { m with deputy := m.addr == addr }) })
  match memberAt s.ar.members old with
  | some m => if old = addr then s1 else s1.sendN 0x0B old [old, 3, m.level, m.hops, 0]
  | none => s1

/-- A calibration of links begins, with the asymmetry held for each (16 R408, R414). -/
def State.startCal (s : State) (links : List Nat) (host : Bool) : State :=
  s.modAr (fun a => { a with
    calNow := some ⟨s.clk, links.map (fun x => (x, (itemGet a.asym x).getD 0)), host⟩
    calNext := a.calNext.filter (fun x => !(links.contains x)) })

/-- The link of a module that has joined (16 R414, R417): calibrated at once where the module replaces another, after the calibration under
way where there is one. -/
def State.calJoined (s : State) (addr : Nat) (swapped : Bool) : State :=
  if s.ar.calNow.isSome then s.modAr (fun a => { a with calNext := if a.calNext.contains addr then a.calNext else a.calNext ++ [addr] })
  else if swapped then s.startCal [addr] false else s

/-- An accepted JOIN (16 R393, R414). -/
def State.admitMember (s : State) (m : Member) (old : Option Member) (role : Nat) : State :=
  let s1 := s.modMembers (putMember m)
  let swapped := old.any (fun o => o.serial != m.serial || o.digest != m.digest)
  let s2 := if swapped then s1.arEvent 0x0E04 sevNotice m.addr 0xFF 0 s.ticks else s1
  let n := (memberAt s2.ar.members m.addr).getD m
  let dep := role == 2 && n.hops == 1
  let s3 := if dep then s2.designate m.addr else s2
  let s4 := s3.sendN 0x0B m.addr [m.addr, if dep || n.deputy then 2 else 3, n.level, n.hops, 0]
  let s5 := s4.modAr (fun a => { a with
    astate := if a.split = some m.addr then 2 else a.astate, split := if a.split = some m.addr then none else a.split
    carries := if m.parent = a.addr then a.carries.set (dnPort m.port).val true else a.carries })
  ((s5.calJoined m.addr swapped).recomputeW).syncDomains

/-- JOIN at the manager: admitted at its position, or refused (16 R392, R393, R414); either is an arrival for ARRAY_JOIN's work (16
R403). -/
def State.joinManager (s0 : State) (parent port : Nat) (serial digest : List Byte) (role : Nat) : State :=
  let s := s0.modAr (fun a => { a with joinAt := a.joinAt.map (fun _ => s0.clk) })
  let l := s.ar.members
  let old := positionOf l parent port serial digest
  let addr := (old.map (·.addr)).getD ((freeAddr l).getD 1024)
  let swapped := old.any (fun o => o.serial != serial || o.digest != digest)
  let base : Member := old.getD ⟨addr, parent, port, 0, 0, 0, serial, digest, 0, false, false, false, false, 0, false⟩
  let m : Member := { base with
    parent := parent, port := port, mstate := 0, serial := serial, digest := digest, aligned := false
    replaced := base.replaced || swapped, cal := base.cal && !swapped }
  let bad := limitBroken (putMember m l) addr
  if bad ≠ 0 then (s.sendN 0x0B 0xFFFF [0xFFFF, 0, 0, 0, bad]).arEvent 0x0E02 sevWarning 0xFFFF 0xFF bad 0
  else s.admitMember m old role

/-- JOIN arrives (16 R392): a member passes it on and notes who hangs on it. -/
def State.takeJoin (s : State) (parent port : Nat) (serial digest : List Byte) (role : Nat) : State :=
  if s.ar.role = 1 then s.joinManager parent port serial digest role
  else if s.isMember then
    let rest := s.ar.members.filter (fun m => m.serial != serial || m.digest != digest)
    let s1 := s.modAr (fun a => { a with
      members := rest ++ [⟨65535, parent, port, 0, 0, 0, serial, digest, 0, false, false, false, false, 0, false⟩]
      carries := if parent = a.addr then a.carries.set (dnPort port).val true else a.carries })
    (s1.sendN 0x0A parent (joinArgs serial digest ++ [port])).syncDomains
  else s

/-- The work of ARRAY_JOIN with ROLE WORKER ends (16 R403). -/
def State.endJoin (s : State) (status : Nat) : State := s.endWorkIf (fun w => w.code == 0x0801 && w.arg == 3) status 0

/-- ASSIGN answers this module's JOIN (16 R393, R403). -/
def State.assignOwn (s : State) (addr role level hops : Nat) (heads : ArrayHeads) (refusal : Nat) : State :=
  if s.ar.role = 1 ∨ (s.ar.role = 0 ∧ s.ar.astate ≠ 1) then s
  else if refusal ≠ 0 then (s.modAr (fun a => { a with astate := if a.role = 0 then 0 else a.astate })).endJoin eHw
  else
    let fresh := decide (s.ar.role = 0)
    let back := decide (s.ar.astate = 3)
    let s1 := s.modAr (fun a => { a with
      role := role, addr := addr, level := level, hops := hops, mgr := heads.mgr, astate := 2
      deputy := if role = 2 then addr else if heads.deputy = addr then 65535 else heads.deputy
      links := if fresh then Vector.replicate 3 none else a.links
      joinPorts := if fresh then a.ports else a.joinPorts, carries := a.carries.set 0 true, noAuto := false })
    let s2 := if fresh then s1.loseUp.unalign else s1
    let s3 := if fresh || back then s2.arEvent 0x0E01 sevInfo addr 0 role hops else s2
    (s3.endJoin stOk).syncDomains

/-- ASSIGN passes on its way down (16 R390): who becomes the deputy, and the address of a module below this one. -/
def State.assignOther (s : State) (addr role level hops : Nat) : State :=
  if !s.isMember then s
  else
    let fill (l : List Member) : List Member :=
      match l.findIdx? (fun m => m.addr == 65535) with
      | some i => l.modify i (fun m => { m with addr := addr, level := level, hops := hops })
      | none => l
    let s1 := s.modAr (fun a => { a with
      deputy := if role = 2 then addr else if a.deputy = addr then 65535 else a.deputy
      members := if a.members.any (fun m => m.addr == addr) then a.members else fill a.members })
    s1.sendN 0x0B addr [addr, role, level, hops, 0]

/-- No JOIN has arrived for 100 ms: the manager's join work ends (16 R403). -/
def State.joinSilence (s : State) : State :=
  if s.ar.joinAt.any (fun a => decide (a + 300000000 ≤ s.clk)) then
    ((s.modAr (fun a => { a with joinAt := none })).endWorkIf (fun w => w.code == 0x0801 && w.arg == 1) stOk s.presentMembers).syncDomains
  else s

/-! Reports (16 R390, R402, R409, R411, R413). -/

/-- STATUS leaves upstream (16 R390). -/
def State.sendStatus (s : State) : State :=
  if s.isMember then s.sendN 0x0C s.ar.addr [s.ar.addr, s.moduleLevel, flag s.log.due, s.mkey 0x0E05] else s

/-- STATUS arrives (16 R390, R402). -/
def State.takeStatus (s : State) (addr : Nat) (health : ModuleReport) (exports : Nat) (aligned : Bool) (delay : Nat) : State :=
  if s.ar.role = 1 then
    let was := (memberAt s.ar.members addr).any (·.export_)
    let s1 := s.modMember addr (fun m => { m with health := health.level, export_ := exports != 0, aligned := aligned, delay := delay })
    if was = (exports != 0) then s1 else s1.recomputeW
  else if s.isMember then s.sendN 0x0C addr [addr, health.level, health.pending, exports]
  else s

/-- ABSENT arrives (16 R409). -/
def State.takeAbsent (s : State) (addr : Nat) : State :=
  if s.ar.role = 1 then s.loseMember addr
  else if s.isMember then (s.loseMember addr).sendN 0x0E s.ar.addr [addr]
  else s

/-- TAKEOVER arrives (16 R404, R411): the new manager is another module, or this deputy by a hand-over. -/
def State.takeTakeover (s : State) (mgr level hops : Nat) (e : Int) (table : Option (List Member)) (asym : Option (List (Nat × Int))) :
    State :=
  if !s.isMember then s
  else if mgr = s.ar.addr then (s.takeCopy table asym).promote 2 e
  else
    let s1 := s.modAr (fun a => { a with mgr := mgr, deputy := 65535, level := level, hops := hops })
    (s1.unalign).sendN 0x0D 0xFFFF [mgr]

/-- PAUSE arrives (16 R413). -/
def State.takePause (s : State) (p : Fin 3) : State := s.modAr (fun a => { a with paused := a.paused.set p.val (some s.clk) })

/-- DISSOLVE arrives (16 R404). -/
def State.takeDissolve (s : State) : State := if s.isMember then (s.forward 0x10 []).standalone else s

/-- A message is discarded and counted (16 R390, R405). -/
def State.badMessage (s : State) : State := s.modAr (fun a => { a with crc := satAdd 16 a.crc 1 })

/-! What waits until firmware resumes (16 R415). -/

/-- Firmware serves a JOIN, a RELAY_CMD, a STATUS, or sends its own report or JOIN. -/
def State.serveMsg (s : State) : HeldMsg → State
  | .join parent port serial digest role => s.takeJoin parent port serial digest role
  | .relay at_ bytes => s.takeRelay at_ bytes
  | .status addr health exports aligned delay => s.takeStatus addr health exports aligned delay
  | .report => s.sendStatus
  | .ownJoin role => if s.isMember || s.ar.astate == 1 then s.joinOut role else s

/-- Whether a message or report concerns the module in its role (16 R390). -/
def State.heeds (s : State) : HeldMsg → Bool
  | .relay _ _ => s.isMember
  | .report => s.isMember
  | .ownJoin _ => true
  | _ => s.ar.role != 0

/-- What firmware has to do in the array: at once, or when it resumes (16 R415; 19 R479). -/
def State.fwMessage (s : State) (m : HeldMsg) : State :=
  if !(s.heeds m) then s
  else if s.fw.serving && !s.fw.halted then s.serveMsg m
  else s.modAr (fun a => { a with held := a.held ++ [m] })

/-- RELAY_CMD arrives (16 R390, R407): this module's own command is firmware's, one for another member is forwarded at once (R415). -/
def State.relayArrives (s : State) (msg : RelayMsg) : State :=
  if s.isMember && msg.addr != s.ar.addr then s.sendN 0x08 msg.addr (msg.bytes.map (·.toNat)) else s.fwMessage (.relay s.clk msg.bytes)

/-- Firmware resumes: what waited is served in its order (16 R415). -/
def State.serveHeld (s : State) : State := s.ar.held.foldl State.serveMsg (s.modAr (fun a => { a with held := [] }))

/-! ARRAY_JOIN and ARRAY_LEAVE (16 R403, R404). -/

/-- Whether a payload has a byte in range and zeros after it. -/
def byteForm (p : List Byte) (lo hi : Nat) : Bool := decide (lo ≤ fieldAt p 0 1 ∧ fieldAt p 0 1 ≤ hi) && allZero (p.drop 1)

/-- ARRAY_JOIN's own part. -/
def arrayJoinBody : Body := fun r s =>
  let role := fieldAt r.payload 0 1
  let a := s.ar
  if !(byteForm r.payload 1 3) then fails eParam s
  else if (if role = 2 then a.role != 3 || a.hops != 1 else a.role != 0) || (role == 3 && !(a.ports[0])) then fails eState s
  else if s.working 0x0801 then fails eBusy s
  else if s.workFull then fails eNores s
  else if role == 1 && a.ports[0] && a.peers[0] != 0 then fails eConflict s
  else
    let s1 := s.addWork r role 0
    if role = 1 then
      accepted ((s1.beManager 0 2 [selfMember 0 (s.mkey 0x0E05 != 0)] []).modAr (fun x => { x with
        joinAt := some s.clk, joinPorts := x.ports, w := 404 }) |>.recomputeW.syncDomains)
    else if role = 2 then
      accepted (((s1.modAr (fun x => { x with role := 2, deputy := x.addr })).askJoin 2).endWork 0x0801 stOk 0)
    else accepted ((s1.modAr (fun x => { x with astate := 1, noAuto := false })).sendJoin.syncDomains)

/-- ARRAY_LEAVE with MODE 2 (16 R404): DEPUTY again under the manager on N_UP; its members rejoin behind it. -/
def State.returnDeputy (s : State) : State :=
  let s1 := s.modAr (fun a => { a with
    role := 2, astate := 2, mgr := 65535, deputy := a.addr, carries := a.carries.set 0 true, members := a.members.filter (fun m => m.port != 255)
    relayGot := [], armWait := [], joinAt := none, split := none })
  ((s1.loseUp.unalign).askJoin 2).syncDomains

/-- ARRAY_LEAVE's own part. -/
def arrayLeaveBody : Body := fun r s =>
  let mode := fieldAt r.payload 0 1
  let a := s.ar
  if !(byteForm r.payload 0 2) then fails eParam s
  else if a.role = 0 ∨ (mode = 0 ∧ a.role = 1 ∧ (memberAt a.members a.deputy).any (fun m => m.mstate == 0) = false)
      ∨ (mode = 1 ∧ a.role ≠ 1) ∨ (mode = 2 ∧ (a.role ≠ 1 ∨ a.astate ≠ 4 ∨ a.ports[0] = false)) then fails eState s
  else if mode = 0 then
    if a.role = 1 then answers [] (((s.reach (s.boundaryFrom (s.clk + 1))).sendN 0x0D 0xFFFF [a.deputy]).standalone)
    else answers [] s.standalone
  else if mode = 1 then answers [] ((s.sendN 0x10 0xFFFF []).standalone)
  else answers [] s.returnDeputy

/-! ARRAY_STATUS (16 R405–R407). -/

/-- PORTS of the summary (16 R405). -/
def State.portBits (s : State) : Nat := bitList [s.ar.ports[0], s.ar.ports[1], s.ar.ports[2], s.sbUp, s.ar.viaSb]

/-- The summary of OP 0 (16 R405). -/
def State.arraySummary (s : State) : List Byte :=
  let a := s.ar
  leBytes 1 a.role ++ leBytes 1 a.astate ++ leBytes 2 a.addr ++ leBytes 2 a.mgr ++ leBytes 2 a.deputy ++ leBytes 2 s.presentMembers
    ++ leBytes 1 a.level ++ leBytes 1 a.hops ++ leBytes 1 s.portBits ++ leBytes 1 (flag a.aligned) ++ leBytes 2 a.crc
    ++ leBytes 4 a.rms ++ leBytes 4 a.takeovers ++ leBytes 8 (encInt 64 a.delay) ++ leBytes 8 (encInt 64 a.theta)
    ++ leBytes 4 a.sent ++ leBytes 4 a.recv ++ leBytes 4 (if a.role = 1 then a.merged else 0)
    ++ leBytes 4 (if a.role = 1 then a.w else 0) ++ leBytes 8 a.lastCal

/-- The 32 bytes of a member entry (16 R406). -/
def memberBytes (m : Member) : List Byte :=
  leBytes 2 m.addr ++ leBytes 2 m.parent ++ leBytes 1 (if m.port = 255 then 255 else min 2 m.port) ++ leBytes 1 m.level ++ leBytes 1 m.hops
    ++ leBytes 1 m.mstate ++ padTo 16 m.serial ++ leBytes 4 m.delay
    ++ leBytes 1 (bitList [m.aligned || m.port == 255, m.deputy, m.replaced, m.cal]) ++ leBytes 1 m.health ++ [0#8, 0#8]

/-- The response of OP 1 (16 R406); the manager's own entry reads its health. -/
def State.memberPage (s : State) (start : Nat) : List Byte :=
  let l := (s.ar.members.drop start).take 60
  leBytes 2 l.length ++ leBytes 2 s.ar.members.length ++ List.replicate 12 0#8
    ++ l.flatMap (fun m => memberBytes (if m.port = 255 then { m with health := s.moduleLevel } else m))

/-- Whether the embedded command is ARRAY_STATUS with OP 2 or 3 (16 R407). -/
def relayLoop (p : List Byte) : Bool := fieldAt p 8 2 == 0x0802 && (fieldAt p 40 1 == 2 || fieldAt p 40 1 == 3)

/-- The payload lengths of ARRAY_STATUS (16 R405). -/
def arrayStatusLen : Req → Bool := fun r =>
  if fieldAt r.payload 0 1 = 2 then r.plen == 40 + fieldAt r.payload 12 2 else r.plen == 8

/-- The command that asks a member for more of the response it keeps: ARRAY_STATUS with OP 3 itself (16 R407; log entry 63). -/
def moreCmd (p : List Byte) : List Byte := leBytes 2 0x0802 ++ [0#8, 0#8] ++ leBytes 2 8 ++ List.replicate 26 0#8 ++ p.take 8

/-- ARRAY_STATUS's own part. -/
def arrayStatusBody : Body := fun r s =>
  let p := r.payload
  let op := fieldAt p 0 1
  let addr := fieldAt p 2 2
  let here := (memberAt s.ar.members addr).any (fun m => m.mstate == 0)
  if 3 < op ∨ fieldAt p 1 1 ≠ 0 ∨ fieldAt p 6 2 ≠ 0 ∨ (op = 2 ∧ (relayLoop p = true ∨ (s.ar.role = 1 ∧ addr = s.ar.addr))) then fails eParam s
  else if op = 0 then answers s.arraySummary s
  else if s.ar.role ≠ 1 then fails eState s
  else if op = 1 then answers (s.memberPage (fieldAt p 4 2)) s
  else if here = false then fails eState s
  else
    let bs := if op = 2 then p.drop 8 else moreCmd p
    (.wait (.relay addr), (s.modAr (fun a => { a with relayGot := [] })).sendN 0x08 addr (bs.map (·.toNat)))

/-! Link calibration (16 R408, R414). -/

/-- The asymmetry table of a bulk read (16 R408). -/
def asymOf (bs : List Byte) : List (Nat × Int) :=
  (List.range (bs.length / 8)).map (fun i => (fieldAt bs (8 * i) 2, decInt 32 (fieldAt bs (8 * i + 4) 4)))

/-- Whether its reserved fields are zero. -/
def asymOk (bs : List Byte) : Bool := (List.range (bs.length / 8)).all (fun i => fieldAt bs (8 * i + 2) 2 == 0)

/-- Entries that replace those held. -/
def asymPut (new l : List (Nat × Int)) : List (Nat × Int) := new.foldl (fun m e => itemPut e.1 e.2 m) l

/-- ARRAY_CALIBRATE_LINKS's own part (16 R408). -/
def calLinksBody (bulk : Bulk) : Body := fun r s =>
  let p := r.payload
  let scope := fieldAt p 0 1
  let addr := fieldAt p 2 2
  let none_ := allZero (p.drop 8)
  let data : Option (List Byte) := if none_ then some [] else bulkBytes p 8 bulk
  if 1 < scope ∨ fieldAt p 1 1 ≠ 0 ∨ fieldAt p 4 4 ≠ 0
      ∨ (none_ = false ∧ (bulkOk p 8 = false ∨ 8192 < (bulkRef p 8).2.1 ∨ (bulkRef p 8).2.1 % 8 ≠ 0))
      ∨ data.any (fun b => !(asymOk b)) = true
      ∨ (scope = 1 ∧ s.ar.role = 1 ∧ s.ar.members.any (fun m => m.addr == addr && m.port != 255) = false) then fails eParam s
  else if s.ar.role ≠ 1 then fails eState s
  else if s.working 0x0804 then fails eBusy s
  else if s.workFull then fails eNores s
  else match data with
    | none => failsRead r s
    | some bs =>
      let s1 := (s.addWork r scope addr).modAr (fun a => { a with
        asym := asymPut (asymOf bs) a.asym, calNext := a.calNext ++ a.calNow.elim [] (fun x => x.links.map (·.1)) })
      let every := (s.ar.members.filter (fun m => m.mstate == 0 && m.port != 255)).map (·.addr)
      accepted (s1.startCal (if scope = 0 then every else [addr]) true)

/-- The port of this module at a measured link. -/
def State.endPort (s : State) (e : LinkEnd) : Option (Fin 3) :=
  if s.isMember && e.addr == s.ar.addr then (if e.standby then s.standbyPort else some 0) else s.linkPort e.addr

/-- The constants of this module's ends of the links measured; those of a link that could not be measured stand (16 R395, R408). The manager
takes the asymmetry from its table. -/
def State.setLinks (s : State) (measured : List LinkEnd) : State :=
  measured.foldl (fun x e => match s.endPort e with
    | some p => x.modAr (fun a => { a with
        links := a.links.set p.val (some (if a.role = 1 then { e.ends with a := (itemGet a.asym e.addr).getD 0 } else e.ends)) })
    | none => x) s

/-- The member entries after a calibration (16 R406, R408, R414): the links measured, with their one-way delays in ps, and the links that
failed. -/
def calMembers (measured : List LinkEnd) (failed : List Nat) (l : List Member) : List Member :=
  l.map (fun m => match measured.find? (fun e => e.addr == m.addr && e.standby == (m.port == 2 || m.port == 3)) with
    | some e => { m with cal := true, delay := e.delay, replaced := false }
    | none => if failed.contains m.addr then { m with cal := false } else m)

/-- What the calibration under way measured at the manager, of the links that it covers (16 R408, R414): work that ARRAY_CALIBRATE_LINKS
began ends, and the links that wait follow (R417). -/
def State.endCal (s : State) (r : LinkRun) (measured : List LinkEnd) (failed : List Nat) : State :=
  let covers (addr : Nat) : Bool := r.links.any (fun l => l.1 == addr)
  let good := measured.filter (fun e => covers e.addr)
  let bad := failed.filter covers
  let s1 := (s.setLinks good).modAr (fun a => { a with members := calMembers good bad a.members, lastCal := s.ticks, calNow := none })
  let s2 := if s.ar.role = 1 then s1.recomputeW else s1
  let s3 := if r.host then
      s2.endWork 0x0804 (if bad.isEmpty then stOk else eDegraded) (good.length % 65536 + 65536 * (bad.length % 65536))
    else s2
  if s3.ar.calNext.isEmpty then s3 else s3.startCal s3.ar.calNext false

/-- Link calibration ends (16 R408, R414): at the manager the one under way; a member learns the constants of its own links. With no
calibration under way nothing ends. -/
def State.linksDone (s : State) (measured : List LinkEnd) (failed : List Nat) : State :=
  match s.ar.calNow with
  | some r => s.endCal r measured failed
  | none =>
    if s.isMember then (s.setLinks measured).modAr (fun a => { a with
      members := calMembers measured failed a.members, lastCal := s.ticks }) else s

/-! The rows. -/

/-- ARRAY_JOIN (16 R403). -/
def execArrayJoin (t : Nat) (mb : Fin 17) (s : State) : Out := go (s.command t mb 0x0801 (lenIs 8) arrayJoinBody)

/-- JOIN_SILENCE_EXPIRY (16 R403). -/
def execJoinSilenceExpiry (t : Nat) (s : State) : Out := go ((s.reach t).joinSilence)

/-- ARRAY_STATUS (16 R405–R407). -/
def execArrayStatus (t : Nat) (mb : Fin 17) (s : State) : Out := go (s.command t mb 0x0802 arrayStatusLen arrayStatusBody)

/-- ARRAY_LEAVE (16 R404). -/
def execArrayLeave (t : Nat) (mb : Fin 17) (s : State) : Out := go (s.command t mb 0x0803 (lenIs 8) arrayLeaveBody)

/-- ARRAY_CALIBRATE_LINKS (16 R408). -/
def execArrayCalibrateLinks (t : Nat) (mb : Fin 17) (bulk : Bulk) (s : State) : Out :=
  go (s.command t mb 0x0804 (lenIs 24) (calLinksBody bulk))

/-- LINK_CALIBRATION_END (16 R408, R414). -/
def execLinkCalibrationEnd (t : Nat) (measured : List LinkEnd) (failed : List Nat) (s : State) : Out :=
  go ((s.reach t).linksDone measured failed)

/-- PORT_UP (16 R389, R394, R409, R412). -/
def execPortUp (t : Nat) (port : Fin 3) (peer : Nat) (standby : Bool) (s : State) : Out := go ((s.reach t).portUp port peer standby)

/-- PORT_DOWN (16 R389, R409–R413). -/
def execPortDown (t : Nat) (port : Fin 3) (lock alive : Bool) (route : Option (Nat × Nat)) (s : State) : Out :=
  go ((s.reach t).portDown port lock alive route)

/-- REROUTE (16 R410). -/
def execReroute (t level hops : Nat) (s : State) : Out := go ((s.reach t).reroute level hops)

/-- TAKEOVER_WAIT_EXPIRY (16 R411, R412). -/
def execTakeoverWaitExpiry (t : Nat) (e : Int) (table : Option (List Member)) (asym : Option (List (Nat × Int))) (s : State) : Out :=
  go ((s.reach t).takeoverNow e table asym)

/-- PAUSE_EXPIRY (16 R413). -/
def execPauseExpiry (t : Nat) (port : Fin 3) (alive : Bool) (route : Option (Nat × Nat)) (s : State) : Out :=
  go ((s.reach t).pauseExpire port alive route)

/-- TIME_EXCHANGE (16 R395). -/
def execTimeExchange (t : Nat) (port : Fin 3) (s : State) : Out := go ((s.reach t).sendTime port)

/-- STATUS_REPORT (16 R390, R415). -/
def execStatusReport (t : Nat) (s : State) : Out := go ((s.reach t).fwMessage .report)

/-- TIME (16 R395–R397). -/
def execTime (t : Nat) (port : Fin 3) (m : TimeMsg) (s : State) : Out := go ((s.reach t).takeTime port m)

/-- EPOCH (16 R398). -/
def execEpoch (t b : Nat) (delta : Int) (kind : Nat) (s : State) : Out := go ((s.reach t).takeEpoch b delta kind)

/-- TRIG_REQ (16 R401). -/
def execTrigReq (t origin : Nat) (ch : Fin 4) (ticks frac : Nat) (qual : BitVec 8) (s : State) : Out :=
  go ((s.reach t).takeTrigReq origin ch ticks frac qual)

/-- TRIG (16 R401). -/
def execTrig (t origin : Nat) (ch : Fin 4) (ticks frac : Nat) (qual : BitVec 8) (delay : Nat) (s : State) : Out :=
  go ((s.reach t).takeTrig origin ch ticks frac qual delay)

/-- ARM_MESSAGE (16 R399). -/
def execArmMessage (t c number : Nat) (s : State) : Out := go ((s.reach t).takeArm c number)

/-- DISARM_MESSAGE (16 R400). -/
def execDisarmMessage (t q : Nat) (s : State) : Out := go ((s.reach t).takeDisarm q)

/-- READY (16 R399). -/
def execReady (t addr number result : Nat) (s : State) : Out := go ((s.reach t).takeReady addr number result)

/-- RELAY_CMD (16 R407, R415). -/
def execRelayCmd (t : Nat) (msg : RelayMsg) (s : State) : Out := go ((s.reach t).relayArrives msg)

/-- RELAY_RSP (16 R407). -/
def execRelayRsp (t addr : Nat) (part : RelayPart) (s : State) : Out := go ((s.reach t).takeRelayRsp addr part)

/-- JOIN (16 R392, R393, R414, R415). -/
def execJoin (t parent port : Nat) (serial digest : List Byte) (role : Nat) (s : State) : Out :=
  go ((s.reach t).fwMessage (.join parent port serial digest role))

/-- ASSIGN (16 R393, R403). -/
def execAssign (t : Nat) (own : Bool) (addr role level hops : Nat) (heads : ArrayHeads) (refusal : Nat) (s : State) : Out :=
  let s0 := s.reach t
  go (if own then s0.assignOwn addr role level hops heads refusal else s0.assignOther addr role level hops)

/-- STATUS (16 R402, R415). -/
def execStatus (t addr : Nat) (health : ModuleReport) (exports : Nat) (aligned : Bool) (delay : Nat) (s : State) : Out :=
  go ((s.reach t).fwMessage (.status addr health exports aligned delay))

/-- TAKEOVER (16 R404, R411). -/
def execTakeover (t mgr level hops : Nat) (e : Int) (table : Option (List Member)) (asym : Option (List (Nat × Int))) (s : State) : Out :=
  go ((s.reach t).takeTakeover mgr level hops e table asym)

/-- ABSENT (16 R409). -/
def execAbsent (t addr : Nat) (s : State) : Out := go ((s.reach t).takeAbsent addr)

/-- PAUSE (16 R413). -/
def execPause (t : Nat) (port : Fin 3) (s : State) : Out := go ((s.reach t).takePause port)

/-- DISSOLVE (16 R404). -/
def execDissolve (t : Nat) (s : State) : Out := go ((s.reach t).takeDissolve)

/-- BAD_MESSAGE (16 R390). -/
def execBadMessage (t : Nat) (port : Fin 3) (s : State) : Out := go (if (s.reach t).ar.ports[port] then (s.reach t).badMessage else s.reach t)

end Sys2Proof.Machine
end

