-- ==== Sys2Proof/Machine/Boot.lean ====
section
/-!
DEFINITION. The boot ROM (19 R462, R463), the measurement registers it extends (19 R464), the debug lock, and what power-up and
a live restart do to the mailboxes (02 R50, 19 R467).
-/

namespace Sys2Proof.Machine

/-- DATA of a firmware or security event (19 R483). -/
def fwData (kind reason version svn : Nat) : List Byte :=
  leBytes 1 kind ++ leBytes 1 reason ++ [0#8, 0#8] ++ leBytes 4 version ++ leBytes 4 svn

/-- Log a firmware or security event at scope 0 (19 R483). -/
def State.fwEvent (s : State) (code sev kind reason version svn : Nat) : State := s.logEv code sev 0 (fwData kind reason version svn)

/-- The owner digest (19 R474). -/
def Firm.ownerDigest (f : Firm) : List Byte := shake256 f.ownKey 32

/-- 64 zero bytes. -/
def zero64 : List Byte := List.replicate 64 0#8

/-- Extend registers 1 to 3 with a slot whose firmware starts (19 R464). -/
def State.measureSlot (s : State) (n : Nat) : State :=
  let v := s.fw.slot n
  ((s.extendMeas 1 v.digest).extendMeas 2 (shake256 v.key 64)).extendMeas 3
    (padTo 64 (leBytes 2 v.svn ++ leBytes 2 s.fw.fused))

/-- Extend register 5 with the owner digest (19 R464). -/
def State.extendOwner (s : State) : State :=
  s.extendMeas 5 (if s.fw.ownState = 1 then padTo 64 s.fw.ownerDigest else zero64)

/-- The mailboxes come into service: every one FREE (02 R50; 17 R430). -/
def State.freeMailboxes (s : State) : State :=
  s.modMr (fun m => { m with
    mbs := Vector.ofFn (fun i : Fin 17 => { Mailbox.reset with vector := m.mbs[i].vector, cmd := m.mbs[i].cmd }), exec := none, held := none })

/-- The firmware in a slot starts (19 R462 step 3). -/
def State.startSlot (s : State) (n : Nat) : State := (s.measureSlot n).modFw (fun f => { f with running := n, recovery := false })

/-- An invalid slot is recorded (19 R462 step 4). -/
def State.slotInvalid (s : State) (n : Nat) : State :=
  s.fwEvent 0x1104 sevWarning n (s.fw.slotFault (s.fw.slot n)) (s.fw.slot n).version (s.fw.slot n).svn

/-- Steps 1 to 5 of the boot (19 R462): the registers are cleared, the debug port locks, the preferred slot starts, or the
other one, or recovery begins. -/
def State.bootRom (s : State) : State :=
  let s1 := (s.modFw (fun f => { f with
    meas := Vector.replicate 8 zero64, unlocked := false, everUnl := false, halted := false, haltReq := false, hcause := 0, bpHit := 0, accErr := false
    bps := Vector.replicate 8 (0, 0#32), dbgAddr := 0#32, restarts := 0, trial := none, restart := none, chal := none
    recovery := false })).extendMeas 0 Config.romDigest
  let a := s1.fw.pref
  if s1.fw.slotFault (s1.fw.slot a) = 0 then s1.startSlot a
  else
    let s2 := s1.slotInvalid a
    let b := 1 - a
    if s2.fw.slotFault (s2.fw.slot b) = 0 then s2.startSlot b
    else ((s2.slotInvalid b).modFw (fun f => { f with recovery := true })).fwEvent 0x1105 sevCritical 0 0 0 0

/-- Step 6 of the boot (19 R462): calibration as `pickCal` selects it, registers 4 and 5, the mailboxes in service; in recovery
the ROM serves them (19 R463). -/
def State.bootServe (s : State) (pickCal : Bool) : State :=
  let s1 := if s.fw.recovery then s
    else ((if pickCal then s.selectCal else s).extendCal).extendOwner
  (s1.freeMailboxes.modFw (fun f => { f with serving := true, booted := true })).flushEvents

/-! Halts of the core (19 R478, R479). -/

/-- The new firmware's first instructions after a live restart (02 R50; 19 R467): mailboxes in service, events that waited logged, array
messages that waited served, the outcome of the activation or the return. -/
def State.restartServe (s : State) (r : Restart) : State :=
  let v := s.fw.slot s.fw.running
  let s1 := (s.freeMailboxes.modFw (fun f => { f with serving := true, restart := none })).flushEvents.serveHeld
  if r.revert = 0 then (s1.fwEvent 0x1102 sevNotice r.slot r.op v.version v.svn).endWork 0x0902 stOk 0
  else
    let s2 := if s.fw.recovery then s1 else s1.fwEvent 0x1103 sevWarning s.fw.running r.revert v.version v.svn
    if s2.working 0x0902 then s2.endWork 0x0902 eHw 0 else s2

/-- The answer kept while the core was halted is given (19 R479). -/
def State.giveHeld (s : State) : State :=
  match s.mr.held with
  | none => s
  | some h => (s.modMr (fun m => { m with held := none })).finish h.1 h.2

/-- The core runs again (19 R478, R479): events are logged, commands complete; a restart that the halt held goes on. -/
def State.resumeCore (s : State) : State :=
  if !s.fw.halted then s
  else
    let s1 := s.modFw (fun f => { f with halted := false, hcause := 0 })
    match s1.fw.restart with
    | some r => if r.began then s1.restartServe r else s1
    | none => s1.flushEvents.giveHeld.serveHeld

/-- The debug port locks (19 R476): register 6, the event; a halt ends (19 R479). Reasons: 1 command, 2 setting, 3 new owner. -/
def State.lockDebug (s : State) (reason : Nat) : State :=
  if !s.fw.unlocked then s
  else
    let s1 := s.modFw (fun f => { f with unlocked := false, haltReq := false })
    ((s1.extendMeas 6 (padTo 64 [2#8])).fwEvent 0x1108 sevNotice 0 reason 0 0).resumeCore

end Sys2Proof.Machine
end

