-- ==== Sys2Proof/Machine/Power.lean ====
section
/-!
DEFINITION. Power states, domains and the belfry (17; 20 R485, R493–R496): PWR_ENTER and its steps, waking, loss of power,
power-up, DOMAIN_CONTROL, the I²C registers, self-refresh; the lantern (20 R497).
-/

namespace Sys2Proof.Machine

/-! Entering a power state (17 R425–R429). -/

/-- Whether the belfry heeds a wake source in the state left, or to be entered, `st` (17 R434). -/
def State.wakeEnabled (s : State) (src st : Nat) : Bool :=
  match src with
  | 1 => st == 1 || st == 2
  | 3 => decide (2 ≤ st)
  | 7 => st == 2 && bitAt s.pw.wakeMask 7
  | 8 => decide (2 ≤ st)
  | 9 => st == 4
  | n => decide (2 ≤ st) && bitAt s.pw.wakeMask n

/-- A wake source that keeps the lower code within one tick (17 R440), the earlier one otherwise. -/
def firstWake (old : Option (Nat × Nat)) (src tick : Nat) : Option (Nat × Nat) :=
  match old with
  | none => some (src, tick)
  | some w => if w.2 = tick then some (min w.1 src, tick) else some w

/-- Whether the belfry runs: it has auxiliary power and is not in the reset after a brown-out (17 R435). -/
def State.belfryOn (s : State) : Bool := s.pw.aux && decide (s.pw.brownTo ≤ s.clk)

/-- Whether a wake event is heeded where only the belfry can heed it, in DEEP and OFF (17 R435). -/
def State.heedsWake (s : State) : Bool := decide (s.pw.st ≤ 2) || s.belfryOn

/-- A wake begins from the state that is left (17 R432); the state follows in WAKE_COMPLETION. IDLE is left at once (17 R420). -/
def State.beginWake (s : State) (src : Nat) : State :=
  if s.pw.st = 1 then s.modPw (fun p => { p with st := 0, prev := 1, core := true, idleAt := s.clk, wakeSrc := src })
  else if s.pw.st < 2 ∨ (3 ≤ s.pw.st ∧ s.pw.main = false) then s
  else s.modPw (fun p => { p with
    waking := match p.waking with
      | none => some (src, p.st, s.clk)
      | some w => if w.2.2 = s.clk then some (min w.1 src, w.2.1, w.2.2) else some w })

/-- A wake event (17 R429, R434): ignored when its source is not enabled, latched while an entry is under way. -/
def State.wakeEvent (s : State) (src : Nat) : State :=
  match s.pw.entry with
  | some e =>
    if s.wakeEnabled src e.target then s.modPw (fun p => { p with entry := some { e with wake := firstWake e.wake src s.clk } }) else s
  | none => if s.wakeEnabled src s.pw.st && s.heedsWake then s.beginWake src else s

/-- Go on to step `n` of an entry (17 R426). -/
def State.entryStep (s : State) (n : Nat) : State :=
  s.modPw (fun p => { p with entry := p.entry.map (fun e => { e with step := n, began := s.clk }) })

/-- Step 9 of an entry (17 R426): memory is asked to enter self-refresh. -/
def State.entryMemory (s : State) : State := (s.entryStep 9).srRequest true

/-- Steps 6 and 7 (17 R426): domains off, no relock under way; for DEEP retention is copied next, else memory follows. -/
def State.entryDomains (s : State) : State :=
  match s.pw.entry with
  | none => s
  | some e =>
    let s1 := (s.entryStep 7).syncDomains
    if s.ck.relock.isSome then s1.rollback 11
    else if e.target = 3 then s1.entryStep 8
    else s1.entryMemory

/-- The block that refuses in steps 1, 2 and 4, 0 none (17 R426, R427). -/
def State.refuses (s : State) : Nat :=
  let chans := allCh.filter s.running
  let outs := ([0, 1] : List (Fin 2)).filter (fun o => decide (2 ≤ s.out[o].st) || s.out[o].loading.isSome)
  match chans with
  | c :: _ => c.val + 1
  | [] => match outs with
    | o :: _ => o.val + 5
    | [] =>
      if s.ar.role = 1 ∨ s.ar.role = 2 then 7
      else if s.mr.work.any (fun w => w.code != 0x0501) then 8 else 0

/-- The steps that follow the acceptance of PWR_ENTER (17 R426): entry from SLEEP starts at step 6. -/
def State.entryBegin (s : State) : State :=
  if s.pw.st = 2 then s.entryDomains
  else
    let b := s.refuses
    let s1 := if s.ar.role = 3 ∧ (b = 0 ∨ b = 8) then s.standalone else s
    if b ≠ 0 then s1.rollback b
    else (s1.entryStep 5).modHv (fun h => { h with stopped := true })

/-- Step 5 (17 R426): harvest has drained, or refuses 50 ms after the step began. -/
def State.entryDrain (s : State) : State :=
  match s.pw.entry with
  | none => s
  | some e =>
    if e.step ≠ 5 then s
    else if s.hv.qs.toList.all (fun q => q.exec.isEmpty) then s.entryDomains
    else if e.began + 150000000 ≤ s.clk then s.rollback 9
    else s

/-- The event log goes to flash (17 R426; 02 R64). -/
def State.flushLog (s : State) (extra : List Event) : State :=
  s.modLog (fun l => { l with
    flash := ((extra.filter (fun e => !(l.uncopied.contains e)) ++ l.uncopied) ++ l.flash).take 65536, uncopied := [] })

/-- Step 8, DEEP only (17 R426): retention banks are written. -/
def State.entryRetain (s : State) : State :=
  match s.pw.entry with
  | none => s
  | some e => if e.step = 8 then (s.flushLog []).entryMemory else s

/-! Loss of power and OFF (17 R419, R420, R435; 20 R485, R496). -/

/-- The events' next number after a power cycle: one above the highest in the flash log (02 R63). -/
def EvLog.afterPower (l : EvLog) : Nat := match l.flash with
  | [] => 1
  | e :: _ => wrapAdd 32 e.seq 1

/-- What the module holds without main power (17 R419; 05 R143; 19 R475, R482): the flash, the fuses, the belfry's records. -/
def State.unpowered (s : State) : State :=
  { State.reset with
    clk := s.clk, pending := s.pending, freeCtr := s.freeCtr + 1, readData := s.readData
    log := { EvLog.reset with next := s.log.afterPower, flash := s.log.flash }
    cal := { Cal.reset with active := none, bank0 := s.banksAfterLoss.1, bank1 := s.banksAfterLoss.2 }
    mem := { MemCtl.reset with
      record := s.mem.record, passFrom := s.clk
      pcs := Vector.ofFn (fun (p : Fin 32) => { Pc.reset with
        trainings := 0, cause := if s.mem.record.contains p then s.mem.pcs[p].cause else 0 }) }
    tw := Vector.replicate 4 { Tower.reset with known := false, graft := none }
    hl := { HostLink.reset with up := false, sent := s.hl.sent, hostMem := s.hl.hostMem }
    ar := { ArrayLink.reset with tx := s.ar.tx, wire := begunWire s.clk s.ar.wire }
    pw := { s.pw with onMap := 0#196, hostHeld := 0#196, failed := 0#196, waking := none, entry := none, core := false, tryRail := none }
    fw := { (if s.fw.staging.isSome then s.fw.spoilOther else s.fw) with
      serving := false, recovery := false, booted := false, trial := none, restart := none, restarts := 0, enrol := none
      ownSlots := s.fw.ownSlots - flag s.fw.enrol.isSome
      ownState := if s.fw.enrol.isSome && s.fw.ownState == 0 then 2 else s.fw.ownState, meas := Vector.replicate 8 zero64, chal := none, unlocked := false
      everUnl := false, halted := false, haltReq := false, hcause := 0, bpHit := 0, accErr := false, bps := Vector.replicate 8 (0, 0#32)
      sram := [], retMem := [] }
    mr := { Marrad.reset with mbs := Marrad.reset.mbs.map (fun b => { b with state := .offline }) }
    mon := { Monitor.reset with conv := .stopped } }

/-- OFF at once, for a cause of BF_OFF_CAUSE (17 R420, R436). -/
def State.goOff (s : State) (cause : Nat) : State :=
  if s.pw.st = 4 ∧ s.pw.waking.isNone = true then s
  else s.unpowered.modPw (fun p => { p with st := 4, prev := if s.pw.st = 4 then p.prev else s.pw.st, offCause := cause })

/-- 12 V is lost (17 R420, R440): OFF at once, and the link with it. -/
def State.mainLoss (s : State) : State := (s.goOff 3).modPw (fun p => { p with main := false })

/-- A die passes its trip temperature (20 R485), in m°C at a sensor of 18 R445. -/
def State.thermalTrip (s : State) (sensor : Nat) (temp : Int) : State :=
  if (16 ≤ sensor ∧ sensor ≤ 20 ∧ 115000 ≤ temp) ∨ (21 ≤ sensor ∧ sensor ≤ 22 ∧ 105000 ≤ temp) then s.mainLoss else s

/-- 3.3 V auxiliary falls below 1.0 V (17 R435; 20 R493, R496): the belfry's records are lost and the module is unpowered. -/
def State.auxLoss (s : State) : State :=
  let s1 := s.goOff 0
  s1.modPw (fun p => { p with
    st := 4, prev := 4, wakeSrc := 0, refusedBy := 0, waking := none, retain := 0, offCause := 0, fail := none, failNew := false, tryRail := none, timer := none
    brownouts := 0, brownSeen := 0, wakeMask := 4, mainRet := 1, wakePins := 0, auxEdge := 0, ovenClk := 0, brownTo := 0, i2cSnap := (0, []), aux := false })

/-! Step 10 (17 R426, R429, R431). -/

/-- What DEEP switches off besides domains: the link, the ports, the reference and the pulses (17 R419, R431). -/
def State.deepStop (s : State) : State :=
  let s1 := ((((s.linkDrop 1).loseLock s.clk).setDisc 2).ppsLose 0).tdcStop
  (s1.modTm (fun m => { m with ppsOut := none, ppsCount := 0, ppsLast := none })).modCk
      (fun k => { k with refState := 0, refFreq := 0, refQual := false, refOutOven := false })
    |>.modAr (fun a => { a with ports := Vector.replicate 3 false, paused := Vector.replicate 3 none, wire := begunWire s.clk a.wire })

/-- The commit of an entry (17 R426 step 10): PW_STATE and CMD_DONE, then the state; a latched wake is replayed (17 R429). -/
def State.entryCommit (s : State) : State :=
  match s.pw.entry with
  | none => s
  | some e =>
    if e.step ≠ 9 ∨ s.mem.sr ≠ .on then s
    else
      let was := s.pw.st
      let s1 := s.modPw (fun p => { p with
        st := e.target, prev := was, entry := none, entryT := s.ticks, core := false, ovenClk := s.clk
        retain := if e.target = 3 then e.retain else p.retain, timer := if e.after = 0 then none else some (s.clk + e.after * 3000000000) })
      let s2 := ((s1.modPw (fun p => { p with st := 0 })).logPower e.target was).endWork 0x0501 stOk 0
      let s3 := s2.modPw (fun p => { p with st := e.target })
      let s4 :=
        if e.target = 2 then (s3.modHv (fun h => { h with stopped := false })).modPw (fun p => { p with core := false })
        else
          let f := s3.flushLog (s3.log.ram.take 2)
          if e.target = 3 then
            let g := f.deepStop
            (g.freeMailboxes.modMr (fun m => { m with mbs := m.mbs.map (fun b => { b with state := .offline }) })).modFw (fun x => { x with serving := false, sram := [] })
          else f.unpowered.modPw (fun p => { p with st := 4, prev := was, offCause := 1 })
      let s5 := if e.target = 4 then s4 else s4.syncDomains
      match e.wake with
      | some w => s5.beginWake (w.1 + 128)
      | none => s5

/-! PWR_ENTER and PWR_STATUS (17 R438, R439). -/

/-- Banks that a choice of retention classes needs (17 R430). -/
def banksOf (r : Nat) : Nat :=
  flag (bitAt r 0) + flag (bitAt r 1) + 5 * flag (bitAt r 2) + 14 * flag (bitAt r 3) + flag (bitAt r 4)

/-- Whether PWR_ENTER's payload is in range (17 R438). -/
def enterForm (p : List Byte) : Bool :=
  let target := fieldAt p 0 1
  let retain := fieldAt p 1 1
  let after := fieldAt p 4 4
  decide (target ≤ 4) && (if target = 3 then decide (retain < 64 ∧ banksOf retain ≤ 16) && (bitAt retain 3 == bitAt retain 5) else retain == 0)
    && fieldAt p 2 2 == 0 && fieldAt p 8 8 == 0 && decide (after ≤ 31536000) && (decide (2 ≤ target) || after == 0)

/-- PWR_ENTER's own part. -/
def pwrEnterBody : Body := fun r s =>
  let target := fieldAt r.payload 0 1
  if !(enterForm r.payload) then fails eParam s
  else if target = s.pw.st then fails eState s
  else if s.ck.relock.isSome || s.entering then fails eBusy s
  else if target ≤ 1 then
    answers [] (if s.pw.st = 2 then s.leaveSleep 1 target
      else (s.logPower target s.pw.st).modPw (fun p => { p with st := target, prev := s.pw.st, idleAt := s.clk }))
  else if s.workFull then fails eNores s
  else
    let s1 := (s.addWork r target 0).modPw (fun p => { p with
      entry := some ⟨r.mb.val, r.tag, target, fieldAt r.payload 1 1, fieldAt r.payload 4 4, 1, s.clk, none⟩ })
    accepted s1.entryBegin

/-- A domain map of 32 bytes (17 R421). -/
def mapBytes (m : BitVec 196) : List Byte := leBytes 32 m.toNat

/-- BF_FAIL (17 R436). -/
def Power.failByte (p : Power) : Nat := p.fail.elim 0 (fun f => 16 * (f.tries % 16) + f.rail % 16)

/-- Seconds left on the wake timer (17 R436). -/
def State.timerLeft (s : State) : Nat := s.pw.timer.elim 0 (fun x => ceilDiv (x - s.clk) 3000000000)

/-- The power record of RESYNC (02 R70). -/
def State.powerRecord (s : State) : List Byte :=
  leBytes 1 s.pw.st ++ leBytes 1 s.pw.prev ++ leBytes 1 s.pw.wakeSrc ++ leBytes 1 s.pw.refusedBy ++ leBytes 4 s.pw.brownouts
    ++ mapBytes s.pw.onMap

/-- PWR_STATUS's own part. -/
def pwrStatusBody : Body := fun _ s =>
  answers (s.powerRecord ++ mapBytes s.pw.hostHeld ++ mapBytes s.pw.failed ++ leBytes 1 s.pw.retain ++ leBytes 1 s.pw.offCause
    ++ leBytes 1 s.pw.failByte ++ [0#8] ++ leBytes 4 s.timerLeft ++ leBytes 8 s.pw.entryT ++ leBytes 8 s.pw.wakeT) s

/-! DOMAIN_CONTROL (17 R424). -/

/-- Domains that DOMAIN_CONTROL does not hold or release. -/
def fixedDomain (d : Nat) : Bool := decide (142 ≤ d ∧ d ≤ 173) || d == 190 || d == 191

/-- The domains that the module's own work holds, the host's holds left out. -/
def State.otherHolds (s : State) : BitVec 196 := domMap ((s.modPw (fun p => { p with hostHeld := 0#196 })).workHolds)

/-- Whether a domain is a slice that has failed. -/
def State.failedSlice (s : State) (d : Nat) : Bool :=
  decide (d < 132) && (s.slice (Fin.ofNat 4 (d / 33)) (Fin.ofNat 33 (d % 33))).cause != 0

/-- The response of DOMAIN_CONTROL. -/
def State.domainResp (s : State) : List Byte := mapBytes s.pw.onMap ++ mapBytes s.pw.hostHeld

/-- A slice that does not wake fails with cause 1, whether or not it is on (04 R99; 17 R424): as one in service where the state of its
tower is held. -/
def State.sliceUnready (s : State) (k : Fin 4) (x : Fin 33) : State :=
  if (s.slice k x).cause != 0 then s
  else match (if s.tw[k].known then s.tw[k].phaseOf x else none) with
    | some p => s.activeFails k x p 1 s.clk
    | none =>
      if s.tw[k].known && s.tw[k].graft == some x then s.failGraft k x 1 s.ticks
      else (s.modSlice k x (fun v => { v with cause := 1 })).twEvent k 0x0202 sevError (some x) none 1 s.ticks

/-- A domain does not report ready (17 R424): failed and logged; a slice fails with cause 1 (04 R99). -/
def State.domainFails (s : State) (d : Nat) : State :=
  let s1 := (s.modPw (fun p => { p with failed := p.failed ||| (1#196 <<< d) })).logEv 0x0F06 sevError 0 (pwData 0 0 d s.ticks)
  if d < 132 then s1.sliceUnready (Fin.ofNat 4 (d / 33)) (Fin.ofNat 33 (d % 33)) else s1

/-- HOLD_ON (17 R424): domains are woken in ascending order up to one that fails. -/
def State.holdOn (s : State) (ds : List Nat) (bad : Option Nat) : Answer × State :=
  let s0 := s.leaveSleep 1 0
  match bad.filter (fun d => ds.contains d && !(s0.domOn d)) with
  | some d =>
    let s1 := (s0.modPw (fun p => { p with hostHeld := p.hostHeld ||| domMap (ds.filter (fun x => decide (x < d))) })).syncDomains
    (.reply ⟨eHw, [], none, d, 0⟩, s1.domainFails d)
  | none =>
    let s1 := (s0.modPw (fun p => { p with hostHeld := p.hostHeld ||| domMap ds })).syncDomains
    answers s1.domainResp s1

/-- DOMAIN_CONTROL's own part; `bad` is a domain that does not report ready. -/
def domainBody (bad : Option Nat) : Body := fun r s =>
  let op := fieldAt r.payload 0 1
  let first := fieldAt r.payload 2 2
  let count := fieldAt r.payload 4 2
  let ds := (List.range count).map (fun i => first + i)
  if 2 < op ∨ fieldAt r.payload 1 1 ≠ 0 ∨ fieldAt r.payload 6 2 ≠ 0 ∨ 196 < first + count ∨ (op ≠ 0 ∧ count = 0)
      ∨ (op ≠ 0 ∧ ds.any fixedDomain = true) then fails eParam s
  else if (op = 2 ∧ ds.any (fun d => s.otherHolds.getLsbD d) = true) ∨ (op = 1 ∧ ds.any s.failedSlice = true) then fails eState s
  else if s.entering then fails eBusy s
  else if op = 0 then answers s.domainResp s
  else if op = 1 then s.holdOn ds bad
  else
    let s1 := (s.modPw (fun p => { p with hostHeld := p.hostHeld &&& ~~~(domMap ds) })).syncDomains
    answers s1.domainResp s1

/-! Power-up and waking (17 R430–R433; 19 R462; 20 R495). -/

/-- The working pseudo-channels of a stack. -/
def stackOf (k : Nat) (l : List (Fin 32)) : List (Fin 32) := l.filter (fun p => p.val / 16 == k)

/-- The highest-numbered of a list. -/
def topOf (l : List (Fin 32)) : Option (Fin 32) := l.reverse.head?

/-- The spares among the working pseudo-channels (13 R317). -/
def sparesOf (l : List (Fin 32)) : List (Fin 32) :=
  let k := if (stackOf 0 l).length < (stackOf 1 l).length then 1 else 0
  (if 30 < l.length then (topOf (stackOf k l)).toList else []) ++ (if 31 < l.length then (topOf (stackOf (1 - k) l)).toList else [])

/-- Whether a pseudo-channel passes training: with a working setting (13 R317, R331). -/
def trainsWith (b : BootChecks) (p : Fin 32) : Bool := trainingWorks (b.pcs.getD p.val default)

/-- A pseudo-channel after training (13 R317). -/
def State.trainPc (s : State) (b : BootChecks) (spares : List (Fin 32)) (p : Fin 32) : Pc :=
  let x := s.mem.pcs[p]
  let t := b.temps.getD p.val x.temp
  if s.mem.record.contains p then { x with st := .retired, temp := t }
  else if trainsWith b p then { x.trainedAt (b.pcs.getD p.val default).set t s.clk with st := if spares.contains p then .spare else .active }
  else { x with st := .retired, cause := 6, temp := t, trainFails := satAdd 16 x.trainFails 1 }

/-- Every pseudo-channel that the record does not mark is trained, and slots are assigned (13 R317). -/
def State.trainAll (s : State) (b : BootChecks) : State :=
  let fresh := (List.finRange 32).filter (fun p => !(s.mem.record.contains p))
  let working := fresh.filter (trainsWith b)
  let spares := sparesOf working
  let slots := working.filter (fun p => !(spares.contains p))
  (s.modMem (fun m => { m with
    pcs := Vector.ofFn (s.trainPc b spares), slots := slots.map some, origSpare := spares, mig := none, waitRet := [], reduce := none
    record := m.record ++ fresh.filter (fun p => !(trainsWith b p)), retrainQ := [], wbq := [], queue := [], sr := .off
    restore := none, retireWork := none })).modTr (fun t => { t with total := slots.length * slotPages, lastSlot := slots.length - 1 })

/-- Trellis state is lost, its counters too (12 R313). -/
def State.loseTrellis (s : State) : State :=
  let s1 := s.modTr (fun t => { Trellis.reset with total := t.total, lastSlot := t.lastSlot })
  allCh.foldl (fun a c => a.modCh c (fun h => { h with
    quota := 4294967295, overQuota := false, acq := 0, segs := 0, refAlloc := 0, reclaimed := 0, rateRef := 0 })) s1

/-- The link trains when the boot says so (14 R370). -/
def State.trainLink (s : State) (b : BootChecks) : State := b.link.elim s (fun l => s.linkRise l.1 l.2)

/-- The band of each attempt of the relock at power-up or on a wake from DEEP: the order of R166 from the entry of the die temperature. -/
def State.bootBands (s : State) (b : BootChecks) : List Nat := bandOrder (s.bandFor b.die).band

/-- The root relocks at power-up or on a wake from DEEP by steps 4 to 7 of R166 (17 R432 step 2): in the band of its attempt, or not at
all, which R167 rules. -/
def State.rootLocked (s : State) (b : BootChecks) : State :=
  let s1 := s.modCk (fun k => { k with synth := 0, relock := none, edge90 := false, gateAt := s.clk })
  match b.tries, (s.bootBands b)[b.tries - 1]? with
  | n + 1, some band => s1.modCk (fun k => { k with band := band, tries := n + 1 })
  | _, _ => s1.lockFail ((s.bootBands b).getLastD 0)

/-- The relock at power-up (06 R165, R166, R173): its events around it. -/
def State.rootStarts (s : State) (b : BootChecks) : State :=
  let s1 := (s.ckEvent 0x0405 sevNotice 0 s.ticks).rootLocked b
  if s1.ck.synth = 0 then s1.ckEvent 0x0406 sevNotice s1.ck.band s1.ck.tries else s1

/-- Without the root, memory stays in self-refresh until a relock succeeds (06 R167). -/
def State.memHeld (s : State) : State := if s.ck.synth = 2 then s.modMem (fun m => { m with sr := .on }) else s

/-- PW_BROWNOUT when the count has risen (17 R435, R441). -/
def State.reportBrown (s : State) : State :=
  if s.pw.brownSeen < s.pw.brownouts then
    (s.logEv 0x0F05 sevError 0 (pwData (min 255 (s.pw.brownouts - s.pw.brownSeen)) 0 0xFFFF s.ticks)).modPw
      (fun p => { p with brownSeen := p.brownouts })
  else s

/-- PW_WAKE_FAILED from a record that has not been logged yet (17 R433). -/
def State.reportFail (s : State) : State :=
  match s.pw.fail with
  | some f => if s.pw.failNew then (s.logEv 0x0F04 sevCritical 0 (pwData f.rail f.tries 0xFFFF s.ticks)).modPw (fun p =>
      { p with failNew := false }) else s
  | none => s

/-- Power-up (17 R432; 19 R462; 20 R495): TICKS starts at zero; memory is trained, the firmware boots, the towers test
themselves. -/
def State.powerUp (s : State) (src : Nat) (b : BootChecks) : State :=
  let s1 := { s.unpowered with
    tm := { Time.reset with off := -(s.clk : Int) }
    tw := Vector.replicate 4 { Tower.reset with known := false, testing := true, graft := none }
    pw := { s.pw with
      st := 0, prev := 4, wakeSrc := src, waking := none, core := true, onMap := Power.reset.onMap, hostHeld := Power.reset.hostHeld
      failed := 0#196, tryRail := none, timer := none, idleAt := s.clk, entryT := 0, wakeT := 0 } }
  let s2 := (((s1.rootStarts b).trainAll b).memHeld.modFw (fun f => { f with bootCount := wrapAdd 32 f.bootCount 1 })).modMon
    (fun m => { m with conv := .run 0 0 (s.clk + 300000000) })
  ((((s2.bootRom.bootServe true).reportFail).reportBrown).trainLink b).syncDomains

/-- The channel correction takes the values of the keys in force at once (05 R131). -/
def State.jumpUser (s : State) (i : Fin 4) : State :=
  ((s.jumpRange i).jumpTo (.userOfs i) (s.ikey 32 0x0310 (i.val + 1))).jumpTo (.userGain i) (s.ikey 32 0x0311 (i.val + 1))

/-- Settings that DEEP did not retain (17 R430): the keys stand at their defaults, and the channel correction with them. -/
def State.loseSettings (s : State) : State :=
  let s1 := s.modMr (fun m => { m with
    stage := [], recorded := [], recHist := (s.clk, m.recorded) :: m.recHist, gen := 0, armed := Vector.replicate 4 [] })
  let s2 := allCh.foldl (fun a c => a.modCh c (fun h => { h with table := none, pendTable := none })) s1
  let s3 := allCh.foldl State.jumpUser s2
  (s3.modCk (fun k => { k with bands := [] })).modMon (fun m => { m with
    table := Monitor.reset.table, accs := if bitAt s.pw.retain 4 then m.accs else Monitor.reset.accs, newTable := none })

/-- What the boot measures of the pseudo-channels, for an exit from self-refresh (13 R340). -/
def State.bootExits (s : State) (b : BootChecks) : List ExitPc :=
  (List.finRange 32).map (fun p => ⟨b.temps.getD p.val s.mem.pcs[p].temp, b.pcs.getD p.val default⟩)

/-- What leaving DEEP finds (17 R430): the classes that were not retained are lost. -/
def State.loseClasses (s : State) (b : BootChecks) : State :=
  let r := s.pw.retain
  let s1 := if bitAt r 0 then s else s.loseSettings
  let s2 := if bitAt r 1 then s1 else s1.modLog (fun l => { l with ram := [] })
  let s3 := if bitAt r 2 then s2 else s2.setTw (s2.tw.map (fun w => { w with known := false }))
  let s4 := if bitAt r 4 then s3 else s3.modMon (fun m => { m with
    accs := m.accs.map (fun _ => MonAcc.reset), slot := MonAcc.reset, coeff := Vector.replicate 64 (0, 16777216) })
  let s5 := s4.setOut (Vector.replicate 2 Output.reset)
  if bitAt r 5 then
    let s6 := s5.modTr (fun t => { t with pages := t.pages.filter (fun p => match p.use with
      | .playback _ => false
      | _ => true) })
    if s.ck.synth = 2 then s6 else s6.srExit (s.bootExits b)
  else
    let segs := s.tr.segs.length
    let pages := s.tr.pages.length
    (s5.trainAll b).memHeld.loseTrellis.logEv 0x0A06 sevError 0 (leBytes 4 segs ++ leBytes 4 pages ++ leBytes 4 2)

/-- A wake from DEEP completes (17 R430–R432). -/
def State.wakeDeep (s : State) (src : Nat) (b : BootChecks) : State :=
  let s1 := s.modPw (fun p => { p with
    st := 0, prev := 3, wakeSrc := src, waking := none, core := true, hostHeld := 0#196, tryRail := none, timer := none, idleAt := s.clk })
  let s2 := ((s1.rootLocked b).bootRom.standalone).loseClasses b
  let s3 := (s2.bootServe (!(bitAt s.pw.retain 2))).modMon (fun m => { m with conv := .stopped })
  ((s3.reportBrown).trainLink b).syncDomains

/-- A wake completes (17 R432): PW_STATE and PW_WAKE. -/
def State.wakeDone (s : State) (b : BootChecks) : State :=
  match s.pw.waking with
  | none => s
  | some (src, left, _) =>
    if left = 2 then s.leaveSleepBy src 0 (s.bootExits b)
    else if s.pw.main = false ∨ src = 0 then s
    else
      let s1 := if left = 3 then s.wakeDeep src b else s.powerUp src b
      ((s1.modPw (fun p => { p with wakeT := s1.ticks, wakeLow := s.clk + 30000000 })).logPower 0 left).logEv 0x0F03 sevInfo 0 (pwData src left 0xFFFF s1.ticks)

/-- Power-up with both rails in range after insertion (20 R495). -/
def State.firstPower (s : State) (b : BootChecks) : State :=
  match s.pw.waking with
  | some (0, 4, _) => if s.pw.main && s.pw.aux then s.powerUp 0 b else s
  | _ => s

/-- The rear connector mates (20 R495): both rails are there and power-up follows. -/
def State.insert (s : State) : State :=
  if s.pw.inserted && s.pw.aux then s
  else (s.goOff s.pw.offCause).modPw (fun p => { p with
    st := 4, inserted := true, main := true, aux := true, waking := some (0, 4, s.clk) })

/-- 12 V returns after its loss, with auxiliary held (17 R434). -/
def State.mainReturn (s : State) : State :=
  if s.pw.st ≠ 4 ∨ s.pw.main = true ∨ s.pw.aux = false then s
  else
    let s1 := s.modPw (fun p => { p with main := true })
    if s.pw.mainRet = 1 ∧ s.belfryOn = true then s1.beginWake 9 else s1

/-- A regulator or oscillator does not report ready (17 R433). -/
def State.railFails (s : State) (rail : Nat) : State :=
  if s.pw.waking.isNone = true ∨ rail = 0 ∨ 6 < rail then s
  else
    let n := match s.pw.tryRail with
      | some f => if f.rail = rail then f.tries + 1 else 1
      | none => 1
    if n < 4 then s.modPw (fun p => { p with tryRail := some ⟨rail, n⟩ })
    else (s.goOff 4).modPw (fun p => { p with fail := some ⟨rail, 4⟩, failNew := true })

/-! IDLE and memory on demand (17 R420, R423). -/

/-- Nothing executes, waits or is outstanding in firmware. -/
def State.quiet (s : State) : Bool :=
  s.mr.exec.isNone && s.mr.work.isEmpty && s.mr.mbs.toList.all (fun b => b.state != .posted) && s.log.uncopied.isEmpty && s.pw.entry.isNone

/-- PW_IDLE_DELAY has passed without command or firmware work (17 R420). -/
def State.idleEntry (s : State) : State :=
  let d := s.mkey 0x0F01
  if d = 0 ∨ s.quiet = false ∨ s.clk < s.pw.idleAt + d * 3000000 then s
  else if s.pw.st = 0 then s.modPw (fun p => { p with st := 1, prev := 0 })
  else if s.pw.st = 2 then (s.modPw (fun p => { p with core := false })).syncDomains
  else s

/-- In SLEEP memory is asked to go back to self-refresh after 1 ms without a request (17 R420; 13 R338). -/
def State.phyIdle (s : State) : State :=
  if s.pw.st = 2 ∧ s.mem.sr = .off ∧ s.pw.phyReq + 3000000 ≤ s.clk then s.srRequest true else s

/-- An access that stalled on an on-demand domain is served (17 R421, R423). -/
def State.demandWake (s : State) (d : Nat) : State :=
  if 2 < s.pw.st then s
  else if d = 190 then s.coreWake
  else if 142 ≤ d ∧ d ≤ 173 then s.memRequest
  else if d = 140 ∨ d = 141 ∨ d = 195 then s.setDomains (s.pw.onMap ||| (1#196 <<< d))
  else s

/-! Self-refresh (13 R338–R340; 17 R426). -/

/-- Whether a migration, a reduction or a retraining is under way, whose requests reach the controller outside SLEEP (13 R344). -/
def State.memWork (s : State) : Bool :=
  decide (s.pw.st ≤ 1) && (s.mem.mig.isSome || s.mem.reduce.isSome || s.mem.pcs.toList.any (fun x => x.retrain.isSome))

/-- Entry to self-refresh: aborted by a request before C when power states asked for it, also by those of work that is under way
(13 R339, R344), else complete. -/
def State.srEntry (s : State) (request : Bool) : State :=
  match s.mem.sr with
  | .entry _ =>
    if s.srAborts && (request || s.memWork) then s.srAbort
    else
      let s1 := (s.modMem (fun m => { m with sr := .on })).syncDomains
      if s1.ck.relock.any (fun r => r.step == 2) then s1.toFallback else s1
  | _ => s

/-- Exit from self-refresh on a demand, outside a relock and outside DEEP (13 R340). -/
def State.srLeave (s : State) (temps : List ExitPc) : State :=
  if s.ck.relock.isNone && s.ck.synth != 2 && decide (s.pw.st ≤ 2) && s.pw.entry.isNone then (s.srExit temps).syncDomains else s

/-! The belfry's registers on I²C (17 R436; 19 R471). -/

/-- The byte of a belfry register as it stands. -/
def State.beltByte (s : State) (a : Nat) : Byte :=
  let at_ (o : Nat) (bs : List Byte) : Byte := byteAt bs (a - o)
  if a = 0 then byteOf (s.pw.st + 8 * flag s.entering + 16 * flag s.pw.fail.isSome)
  else if a = 1 then byteOf s.pw.wakeSrc
  else if a = 2 then byteOf s.pw.refusedBy
  else if 4 ≤ a ∧ a < 8 then at_ 4 (leBytes 4 s.pw.brownouts)
  else if a = 8 then byteOf s.pw.failByte
  else if a = 9 then byteOf s.pw.retain
  else if a = 10 then byteOf s.pw.offCause
  else if 12 ≤ a ∧ a < 16 then at_ 12 (leBytes 4 s.timerLeft)
  else if 0x10 ≤ a ∧ a < 0x20 then at_ 0x10 Config.serial
  else if 0x20 ≤ a ∧ a < 0x40 then at_ 0x20 (shake256 Config.identKey 32)
  else if 0x40 ≤ a ∧ a < 0x42 then at_ 0x40 (leBytes 2 Config.hwRev)
  else if a = 0x42 then byteOf s.fw.ownState
  else 0#8

/-- The multi-byte register that begins at an address: its length, 0 for none; the identity registers are one group. -/
def beltGroup (a : Nat) : Nat := if a = 4 ∨ a = 12 then 4 else if a = 0x10 then 0x33 else 0

/-- Read one belfry byte: the first byte of a group snapshots the rest (17 R436). -/
def State.i2cByte (s : State) (a : Nat) : State :=
  let n := beltGroup a
  let s1 := if n = 0 then s
    else s.modPw (fun p => { p with i2cSnap := (a, (List.range n).map (fun i => s.beltByte (a + i))) })
  let snap := s1.pw.i2cSnap
  let v := if snap.1 ≤ a ∧ a < snap.1 + snap.2.length then byteAt snap.2 (a - snap.1) else s1.beltByte a
  s1.modPw (fun p => { p with i2cOut := p.i2cOut ++ [v] })

/-- An I²C read of `n` bytes from register `a` (17 R436). -/
def State.i2cRead (s : State) (a n : Nat) : State :=
  if s.belfryOn then (List.range n).foldl (fun x i => x.i2cByte ((a + i) % 256)) (s.modPw (fun p => { p with i2cOut := [], i2cSnap := (0, []) }))
  else s

/-- A brown-out of the belfry in low-power mode, which it leaves with a wake (17 R435): it is counted, and the belfry resets within 1
ms, how long being a free value (log entry 36). -/
def State.brownOut (s : State) : State :=
  if (s.pw.st = 3 ∨ s.pw.st = 4) ∧ s.belfryOn = true ∧ s.pw.waking.isNone = true then
    let x := s.free
    x.2.modPw (fun p => { p with
      brownouts := satAdd 32 p.brownouts 1, brownTo := s.clk + 1 + x.1.toNat % 3000000, i2cSnap := (0, []) })
  else s

/-! The lantern (20 R497). -/

/-- What the lantern shows. -/
inductive Lantern where
  | blueFlash | redSteady | redFlash | magenta | white | amber | greenSlow | greenFlash | green | dark
deriving DecidableEq, Repr

/-- The first indication that applies. -/
def State.lantern (s : State) : Lantern :=
  if s.pw.st = 4 ∧ s.pw.waking.isNone = true then .dark
  else if s.pw.st = 3 then .greenSlow
  else if s.mkey 0x0032 = 1 then .blueFlash
  else if s.moduleState = 3 then .redSteady
  else if s.health.contains 2 then .redFlash
  else if s.fw.unlocked then .magenta
  else if !s.fw.serving then .white
  else if s.moduleState = 2 then .amber
  else if s.pw.st = 2 then .greenSlow
  else if allCh.any s.running then .greenFlash
  else .green

/-! The rows. -/

/-- PWR_ENTER (17 R438). -/
def execPwrEnter (t : Nat) (mb : Fin 17) (s : State) : Out := go (s.command t mb 0x0501 (lenIs 16) pwrEnterBody)

/-- PWR_STATUS (17 R439). -/
def execPwrStatus (t : Nat) (mb : Fin 17) (s : State) : Out := go (s.command t mb 0x0502 (lenIs 0) pwrStatusBody)

/-- DOMAIN_CONTROL (17 R424). -/
def execDomainControl (t : Nat) (mb : Fin 17) (bad : Option Nat) (s : State) : Out :=
  go (s.command t mb 0x0503 (lenIs 8) (domainBody bad))

/-- SELF_REFRESH_ENTRY (13 R338, R339). -/
def execSelfRefreshEntry (t : Nat) (request : Bool) (s : State) : Out := go ((s.reach t).srEntry request)

/-- SELF_REFRESH_EXIT (13 R340). -/
def execSelfRefreshExit (t : Nat) (temps : List ExitPc) (s : State) : Out := go ((s.reach t).srLeave temps)

/-- IDLE_ENTRY (17 R420). -/
def execIdleEntry (t : Nat) (s : State) : Out := go ((s.reach t).idleEntry)

/-- HBM_PHY_IDLE (17 R420). -/
def execHbmPhyIdle (t : Nat) (s : State) : Out := go ((s.reach t).phyIdle)

/-- ON_DEMAND_WAKE (17 R423). -/
def execOnDemandWake (t dom : Nat) (s : State) : Out := go ((s.reach t).demandWake dom)

/-- POWER_ENTRY_DRAIN (17 R426). -/
def execPowerEntryDrain (t : Nat) (s : State) : Out := go ((s.reach t).entryDrain)

/-- RETENTION_COPY (17 R426). -/
def execRetentionCopy (t : Nat) (s : State) : Out := go ((s.reach t).entryRetain)

/-- POWER_ENTRY_COMMIT (17 R426, R429). -/
def execPowerEntryCommit (t : Nat) (s : State) : Out := go ((s.reach t).entryCommit)

/-- Whether the module drives WAKE_N low itself, for 10 ms after a wake from DEEP or OFF (17 R434). -/
def State.wakeNDriven (s : State) : Bool := decide (s.clk < s.pw.wakeLow)

/-- WAKE_N_LOW (17 R434): low levels that the module drives itself are ignored. -/
def execWakeNLow (t : Nat) (s : State) : Out := go (if (s.reach t).wakeNDriven then s.reach t else (s.reach t).wakeEvent 2)

/-- WAKE_EDGE (17 R434; 20 R492): a rising edge on TRIG_IN1 or TRIG_IN2 (sources 4, 5), or the selected edge on a wake pin (6). -/
def execWakeEdge (t src pin : Nat) (falling : Bool) (s : State) : Out :=
  let s0 := s.reach t
  go (if (src = 4 ∨ src = 5) ∧ falling = false then s0.wakeEvent src
    else if src = 6 ∧ pin < 4 ∧ bitAt s0.pw.wakePins pin = true ∧ bitAt s0.pw.auxEdge pin = falling then s0.wakeEvent 6
    else s0)

/-- WAKE_TIMER_EXPIRY (17 R434); during the belfry's reset it waits (17 R440). -/
def execWakeTimerExpiry (t : Nat) (s : State) : Out :=
  let s0 := s.reach t
  go (if s0.pw.timer.any (fun x => decide (x ≤ s0.clk)) && s0.heedsWake then (s0.modPw (fun p => { p with timer := none })).wakeEvent 8 else s0)

/-- MAIN_POWER_RETURN (17 R434). -/
def execMainPowerReturn (t : Nat) (s : State) : Out := go ((s.reach t).mainReturn)

/-- BF_CMD_WAKE (17 R436). -/
def execBfCmdWake (t : Nat) (s : State) : Out := go (if (s.reach t).belfryOn then (s.reach t).wakeEvent 3 else s.reach t)

/-- BF_CMD_OFF (17 R436). -/
def execBfCmdOff (t : Nat) (s : State) : Out := go (if (s.reach t).belfryOn then (s.reach t).goOff 2 else s.reach t)

/-- BF_CMD_CLEAR_FAIL (17 R436). -/
def execBfCmdClearFail (t : Nat) (s : State) : Out :=
  go (if (s.reach t).belfryOn then (s.reach t).modPw (fun p => { p with fail := none }) else s.reach t)

/-- I2C_SNAPSHOT_READ (17 R436; 19 R471). -/
def execI2cSnapshotRead (t reg len : Nat) (s : State) : Out := go ((s.reach t).i2cRead reg len)

/-- REGULATOR_TIMEOUT (17 R433). -/
def execRegulatorTimeout (t rail : Nat) (s : State) : Out := go ((s.reach t).railFails rail)

/-- WAKE_COMPLETION (17 R432). -/
def execWakeCompletion (t : Nat) (boot : BootChecks) (s : State) : Out := go ((s.reach t).wakeDone boot)

/-- MAIN_POWER_LOSS (17 R420). -/
def execMainPowerLoss (t : Nat) (s : State) : Out := go ((s.reach t).mainLoss)

/-- THERMAL_TRIP (20 R485). -/
def execThermalTrip (t sensor : Nat) (temp : Int) (s : State) : Out := go ((s.reach t).thermalTrip sensor temp)

/-- BROWN_OUT (17 R435). -/
def execBrownOut (t : Nat) (s : State) : Out := go ((s.reach t).brownOut)

/-- INSERTION (20 R495). -/
def execInsertion (t : Nat) (s : State) : Out := go ((s.reach t).insert)

/-- POWER_UP (20 R495; 19 R462). -/
def execPowerUp (t : Nat) (boot : BootChecks) (s : State) : Out := go ((s.reach t).firstPower boot)

/-- AUX_POWER_LOSS (17 R435). -/
def execAuxPowerLoss (t : Nat) (s : State) : Out := go ((s.reach t).auxLoss)

/-- L1_EXIT (17 R434). -/
def execL1Exit (t : Nat) (s : State) : Out := go ((s.reach t).wakeEvent 1)

end Sys2Proof.Machine
end

