-- ==== Sys2Proof/Machine/Monitor.lean ====
section
/-!
DEFINITION. The housekeeping monitor (18): results, alarms and open wires, MON_LOAD_TABLE, MON_READ, injected conversions, system
calibration.
-/

namespace Sys2Proof.Machine

/-! Results (18 R444, R445, R449, R453). -/

/-- Whether a channel code is a SENSE input. -/
def isSense (chan : Nat) : Bool := decide (chan < 16)

/-- The place of the coefficients of a SENSE input and range. -/
def coeffIdx (chan range : Nat) : Fin 64 := Fin.ofNat 64 (4 * chan + range)

/-- The coefficients z and g of a SENSE input and range (18 R453). -/
def Monitor.coeffs (m : Monitor) (chan range : Nat) : Int × Int := m.coeff[coeffIdx chan range]

/-- Positive full scale, in counts. -/
def monFs : Int := 8388608

/-- 1.25 times full scale. -/
def monSat : Int := 10485760

/-- The result of a conversion with raw value `raw` (18 R444, R453): calibrated and saturated for SENSE, as it is for an internal
sensor. -/
def Monitor.result (m : Monitor) (chan range : Nat) (raw : Int) : Int :=
  if isSense chan then
    let k := m.coeffs chan range
    clampInt (-monSat) monSat (divHalfEven (k.2 * (raw - k.1)) 16777216)
  else clampInt (-2147483648) 2147483647 raw

/-- Whether a result is over-range (18 R444, R445). -/
def overRange (chan : Nat) (v : Int) : Bool := isSense chan && decide (monFs < v.natAbs)

/-- Add a result to an accumulator; `tick` is its end tick (18 R449). -/
def MonAcc.add (a : MonAcc) (v : Int) (wide : Bool) (tick : Nat) : MonAcc :=
  if 2 ^ 32 - 1 ≤ a.n then { a with sat := true }
  else { a with
    n := a.n + 1, sum := a.sum + v, min := if a.n = 0 then v else Min.min a.min v, max := if a.n = 0 then v else Max.max a.max v
    wide := satAdd 16 a.wide (flag wide), last := tick }

/-- An emptied accumulator keeps the alarm and open-wire states (18 R449, R450). -/
def MonAcc.clear (a : MonAcc) : MonAcc := { MonAcc.reset with open_ := a.open_, alarm := a.alarm, beyond := a.beyond }

/-- Accumulator `i`. -/
def Monitor.acc (m : Monitor) (i : Nat) : MonAcc := m.accs.getD i MonAcc.reset

/-- Change accumulator `i`. -/
def State.modAcc (s : State) (i : Nat) (g : MonAcc → MonAcc) : State :=
  s.modMon (fun m => { m with accs := m.accs.modify i g })

/-- The side of the limits on which a result lies: 1 below, 2 above, 0 neither (18 R455, R457). -/
def MonEntry.side (e : MonEntry) (v : Int) : Nat := if v < e.lo then 1 else if e.hi < v then 2 else 0

/-- Whether a result shows an open wire (18 R451). -/
def MonEntry.openAt (e : MonEntry) (v : Int) : Bool := (e.ow == 1 && v == monSat) || (e.ow == 2 && v == -monSat)

/-- Open-wire detection on a result of entry `i` (18 R451). -/
def State.monOpen (s : State) (i : Nat) (v : Int) (tick : Nat) : State :=
  let e := s.mon.entry i
  if e.openAt v then
    if (s.mon.acc i).open_ then s
    else (s.modAcc i (fun a => { a with open_ := true })).logEv 0x1003 sevWarning 0 (monData i e.chan 0 tick)
  else if overRange e.chan v then s
  else s.modAcc i (fun a => { a with open_ := false })

/-- The MON event of an alarm (18 R455; 08 R218): stamped at the first DSP-cycle boundary at or after the conversion's end, slice-clock
instant `e`, for every channel. -/
def State.monEvent (s : State) (e : Nat) : State :=
  let b := s.boundaryOf e
  s.pushEv (b * fineUnit) 0x1B b (s.stampAt (b * fineUnit) 0 false) 0xF#4 false

/-- Entry into alarm at slice-clock instant `b` (18 R455): the event, the trigger, the wake. -/
def State.monAlarmOn (s : State) (i side b : Nat) : State :=
  let e := s.mon.entry i
  let s1 := (s.modAcc i (fun a => { a with alarm := true })).logEv 0x1001 sevWarning 0 (monData i e.chan side (s.ticksAt b))
  let s2 := if e.trig then s1.monEvent b else s1
  if e.wake then s2.wakeEvent 7 else s2

/-- Alarm of entry `i` on a result of slice-clock instant `b` (18 R455). -/
def State.monAlarm (s : State) (i : Nat) (v : Int) (b : Nat) : State :=
  let e := s.mon.entry i
  if !e.alarm then s
  else if e.side v = 0 then
    let s1 := s.modAcc i (fun a => { a with beyond := 0, alarm := false })
    if (s.mon.acc i).alarm then s1.logEv 0x1002 sevInfo 0 (monData i e.chan 0 (s.ticksAt b)) else s1
  else
    let n := satAdd 8 (s.mon.acc i).beyond 1
    let s1 := s.modAcc i (fun a => { a with beyond := n })
    if (s.mon.acc i).alarm = false ∧ s.keyAt 0x1001 0 b ≤ n then s1.monAlarmOn i (e.side v) b else s1

/-- A conversion of entry `i` that ends at slice-clock instant `b` gives a result. -/
def State.monResult (s : State) (i : Nat) (raw : Int) (b : Nat) : State :=
  let e := s.mon.entry i
  let v := s.mon.result e.chan e.range raw
  let s1 := s.modAcc i (fun a => a.add v (overRange e.chan v) (s.ticksAt b))
  (s1.monOpen i v (s.ticksAt b)).monAlarm i v b

/-! Injection and calibration (18 R452, R454). -/

/-- Whether a conversion runs at the present tick, which its end tick is not (18 R452). -/
def State.monConverting (s : State) : Bool :=
  match s.mon.conv with
  | .run i left e => decide (s.clk < e) || left != 0 || s.mon.delayOf (s.mon.after i) == 0
  | .inject e => decide (s.clk < e)
  | .cal left _ e => decide (s.clk < e) || left != 0
  | _ => false

/-- The sequence goes on at tick `b` from where an injection found it (18 R452). -/
def Monitor.goOn (m : Monitor) (b : Nat) : Monitor :=
  match m.resume with
  | .delay i e =>
    if m.calWaits then { m with conv := .delay i b } else if e ≤ b then m.convert i b else { m with conv := .delay i e }
  | _ => { m with conv := .stopped }

/-- The injected conversion ends (18 R452). -/
def State.injectEnd (s : State) (raw : Int) (b : Nat) : State :=
  let c := s.mon.slotChan
  let v := s.mon.result c.1 c.2 raw
  let s1 := s.modMon (fun m => ({ m with slot := m.slot.add v (overRange c.1 v) (s.ticksAt b), conv := .stopped }).goOn b)
  (s1.endWork 0x0603 stOk 0).syncDomains

/-- Full scale of a range, in µV (18 R444). -/
def rangeFs (r : Nat) : Nat :=
  match r with
  | 0 => 20000
  | 1 => 200000
  | 2 => 2000000
  | _ => 12000000

/-- Whether z is within its range (18 R453). -/
def zOk (z : Int) : Bool := decide (-83886 ≤ z ∧ z ≤ 83886)

/-- Whether g is within its range (18 R453). -/
def gOk (g : Int) : Bool := decide (15938355 ≤ g ∧ g ≤ 17616077)

/-- The coefficient g that `STEP` 1 finds (18 R454): `value` µV, `n` raw results with sum `sum`, z; none when it has no value. -/
def gainOf (value : Int) (range : Nat) (sum : Int) (n : Nat) (z : Int) : Option Int :=
  let den : Int := (rangeFs range : Int) * (sum - z * (n : Int))
  let num : Int := value * (2 : Int) ^ 47 * (n : Int)
  if den = 0 then none
  else some (if den < 0 then divHalfEven (-num) den.natAbs else divHalfEven num den.natAbs)

/-- The entry after which the sequence resumes is visited with its delay in full (18 R454). -/
def Monitor.calResume (m : Monitor) (b : Nat) : Monitor :=
  match m.resume with
  | .delay i _ => m.visit i b
  | _ => { m with conv := .stopped }

/-- Set coefficients. -/
def Monitor.setCoeff (m : Monitor) (k : Fin 64) (v : Int × Int) : Monitor := { m with coeff := m.coeff.set k.val v }

/-- The calibration's conversions have ended with sum `sum` (18 R454). -/
def State.calEnd (s : State) (sum : Int) (b : Nat) : State :=
  match s.mon.syscal with
  | none => s
  | some w =>
    let k := coeffIdx w.input.val w.range.val
    let c := s.mon.coeff[k]
    let s1 := s.modMon (fun m => ({ m with syscal := none, conv := .stopped }).calResume b)
    let bad := (s1.endWork 0x0604 eHw 0).syncDomains
    if w.step = 0 then
      let z := divHalfEven sum w.count
      if zOk z then ((s1.modMon (fun m => { m.setCoeff k (z, c.2) with zeroed := (w.input.val, w.range.val) :: m.zeroed })).endWork 0x0604
        stOk (encInt 32 z)).syncDomains else bad
    else match gainOf w.value w.range.val sum w.count c.1 with
      | some g => if gOk g then ((s1.modMon (fun m => m.setCoeff k (c.1, g))).endWork 0x0604 stOk (encInt 32 g)).syncDomains else bad
      | none => bad

/-- A conversion of the calibration ends. -/
def State.calConv (s : State) (left : Nat) (sum raw : Int) (b : Nat) : State :=
  let total := sum + clampInt (-monSat) monSat raw
  if left = 0 then s.calEnd total b
  else s.modMon (fun m => { m with conv := .cal (left - 1) total (b + monPeriod m.period) })

/-! The converter's steps. -/

/-- The sequence goes on after a conversion of entry `i` (18 R446, R454): `left` more conversions of the visit. -/
def Monitor.next (m : Monitor) (i left b : Nat) : Monitor :=
  if left = 0 then m.visit (m.after i) b
  else if m.calWaits then { m with conv := .delay i b }
  else { m with conv := .run i (left - 1) (b + monPeriod m.period) }

/-- Count a conversion. -/
def State.monCount (s : State) : State := s.modMon (fun m => { m with convs := wrapAdd 64 m.convs 1 })

/-- The instant at which what the converter does ends. -/
def Conv.ends : Conv → Nat
  | .delay _ e => e
  | .run _ _ e => e
  | .inject e => e
  | .settle e => e
  | .cal _ _ e => e
  | .stopped => 0

/-- A conversion ends (18 R442, R449). -/
def State.monConvEnd (s0 : State) (raw : Int) : State :=
  let s := s0.dropLateTable s0.mon.conv.ends
  match s.mon.conv with
  | .run i left b =>
    if s.clk < b then s
    else if s.mon.newTable.isSome then (s.monCount.monBoundary b).monCommit b true
    else ((s.monCount.monBoundary b).modMon (fun m => m.next i left b)).monResult i raw b
  | .inject b => if s.clk < b then s else (s.monCount.monBoundary b).injectEnd raw b
  | .cal left sum b => if s.clk < b then s else (s.monCount.monBoundary b).calConv left sum raw b
  | _ => s

/-- An entry's delay ends (18 R446): its conversions begin, unless a table, a calibration or an injection comes first. -/
def State.monDelayEnd (s0 : State) : State :=
  let s := s0.dropLateTable s0.mon.conv.ends
  match s.mon.conv with
  | .delay i b =>
    if s.clk < b then s
    else if s.mon.newTable.isSome then (s.monBoundary b).monCommit b true
    else if s.mon.calWaits || s.mon.inject.isSome then s.monBoundary b
    else (s.monBoundary b).modMon (fun m => m.convert i b)
  | _ => s

/-- A pending injected conversion starts (18 R452). -/
def State.injectStart (s : State) : State :=
  match s.mon.inject with
  | none => s
  | some b =>
    if s.clk < b ∨ s.monConverting = true then s
    else (s.monBoundary b).modMon (fun m => { m with resume := m.conv, conv := .inject (b + monPeriod m.period), inject := none })

/-- The boundary at which a waiting calibration begins (18 R454). -/
def State.calBoundary (s : State) : Option Nat :=
  match s.mon.conv with
  | .delay _ b => if b ≤ s.clk then some b else none
  | .stopped => some s.clk
  | _ => none

/-- A calibration begins: the input settles (18 R454). -/
def State.calStart (s : State) : State :=
  if !s.mon.calWaits then s
  else match s.calBoundary with
    | none => s
    | some b => (s.monBoundary b).modMon (fun m => { m with resume := m.conv, conv := .settle (b + 192000) })

/-- The settling ends and the conversions begin (18 R454). -/
def State.calSettled (s : State) : State :=
  match s.mon.conv, s.mon.syscal with
  | .settle b, some w =>
    if s.clk < b then s else (s.monBoundary b).modMon (fun m => { m with conv := .cal (w.count - 1) 0 (b + monPeriod m.period) })
  | _, _ => s

/-! The commands (18 R447, R450, R452, R454). -/

/-- A table entry as 24 bytes spell it; none when a field is out of range (18 R446, R447). -/
def monEntryOf (b : List Byte) : Option MonEntry :=
  let chan := fieldAt b 0 1
  let range := fieldAt b 1 1
  let fl := fieldAt b 2 1
  let rep := fieldAt b 4 2
  let delay := fieldAt b 8 4
  let lo := decInt 32 (fieldAt b 12 4)
  let hi := decInt 32 (fieldAt b 16 4)
  let ow := fl % 4
  let al := bitAt fl 2
  let ok := decide (chan < 40 ∧ fl < 32 ∧ ow < 3 ∧ rep ≠ 0 ∧ delay ≤ 10000000)
    && fieldAt b 3 1 == 0 && fieldAt b 6 2 == 0 && fieldAt b 20 4 == 0
    && (if isSense chan then decide (range ≤ 3) else range == 0 && ow == 0)
    && (al || (!(bitAt fl 3) && !(bitAt fl 4) && lo == 0 && hi == 0)) && decide (lo ≤ hi)
  if ok then some ⟨chan, range, ow, al, bitAt fl 3, bitAt fl 4, rep, delay, lo, hi⟩ else none

/-- Entries that bytes spell, all or none. -/
def monEntries (bs : List Byte) : Nat → Option (List MonEntry)
  | 0 => some []
  | n + 1 => match monEntryOf (bs.take 24), monEntries (bs.drop 24) n with
    | some e, some es => some (e :: es)
    | _, _ => none

/-- Whether MON_INJECT or MON_SYSCAL work is outstanding. -/
def State.monWork (s : State) : Bool := s.monHolds

/-- MON_LOAD_TABLE's own part (18 R447); `bulk` is what the bulk read delivered. -/
def monLoadBody (bulk : Bulk) : Body := fun r s =>
  let n := fieldAt r.payload 0 1
  let ref := bulkRef r.payload 8
  let ok := decide (n ≤ 64) && allZero (sliceAt r.payload 1 7)
    && (if n = 0 then allZero (sliceAt r.payload 8 16) else bulkOk r.payload 8 && ref.2.1 == 24 * n)
  let data := if n = 0 then some [] else bulkBytes r.payload 8 bulk
  let entries := data.bind (fun bs => monEntries bs n)
  if !ok || (data.isSome && entries.isNone) then fails eParam s
  else if s.monWork then fails eBusy s
  else match entries with
    | none => failsRead r s
    | some tb =>
      let s1 := s.modMon (fun m => { m with newTable := some tb })
      match s.mon.conv with
      | .stopped => answers [] ((s1.monBoundary s.clk).startTable (s.domOn 195))
      | _ => (.wait .monLoad, s1)

/-- Whether the coefficients of a channel and range are at their defaults (18 R450, R453). -/
def Monitor.atDefault (m : Monitor) (chan range : Nat) : Bool := isSense chan && m.coeffs chan range == (0, 16777216)

/-- A record of MON_READ (18 R450). -/
def MonAcc.record (a : MonAcc) (dflt : Bool) : List Byte :=
  leBytes 4 a.n ++ leBytes 2 a.wide ++ leBytes 1 (flag a.open_ + 2 * flag a.alarm + 4 * flag a.sat + 8 * flag dflt) ++ [0#8]
    ++ leBytes 8 (encInt 64 a.sum) ++ leBytes 4 (encInt 32 a.min) ++ leBytes 4 (encInt 32 a.max) ++ leBytes 8 a.last

/-- The record at index `i`; entries beyond the table read zero, and so does an injection slot that was never used. -/
def Monitor.recordAt (m : Monitor) (i : Nat) : List Byte :=
  if i = 64 then (if m.slot.n = 0 then MonAcc.reset.record false else m.slot.record (m.atDefault m.slotChan.1 m.slotChan.2))
  else if i < m.table.length then (m.acc i).record (m.atDefault (m.entry i).chan (m.entry i).range)
  else List.replicate 32 0#8

/-- Empty the accumulators with indexes in a range (18 R449). -/
def Monitor.clearFrom (m : Monitor) (first count : Nat) : Monitor :=
  { m with
    accs := m.accs.mapIdx (fun i a => if first ≤ i ∧ i < first + count then a.clear else a)
    slot := if first ≤ 64 ∧ 64 < first + count then MonAcc.reset else m.slot }

/-- The coefficients of MON_READ `VIEW` 1. -/
def Monitor.coeffBytes (m : Monitor) : List Byte :=
  m.coeff.toList.flatMap (fun k => leBytes 4 (encInt 32 k.1) ++ leBytes 4 (encInt 32 k.2))

/-- MON_READ's own part (18 R450). -/
def monReadBody : Body := fun r s =>
  let view := fieldAt r.payload 0 1
  let first := fieldAt r.payload 1 1
  let count := fieldAt r.payload 2 1
  let clear := fieldAt r.payload 3 1
  let ok := fieldAt r.payload 4 4 == 0
    && (if view = 0 then decide (first ≤ 64 ∧ 1 ≤ count ∧ count ≤ 63 ∧ first + count ≤ 65 ∧ clear ≤ 1)
        else view == 1 && first == 0 && count == 0 && clear == 0)
  if !ok then fails eParam s
  else if view = 1 then answers s.mon.coeffBytes s
  else
    let head := leBytes 8 s.ticks ++ leBytes 1 count ++ leBytes 1 s.mon.period ++ leBytes 1 s.mon.table.length ++ List.replicate 5 0#8
      ++ leBytes 8 s.mon.convs ++ leBytes 4 s.mon.dropped ++ List.replicate 4 0#8
    answers (head ++ (List.range count).flatMap (fun i => s.mon.recordAt (first + i)))
      (if clear = 1 then s.modMon (fun m => m.clearFrom first count) else s)

/-- A request for an injected conversion is dropped (18 R452): `detail` says why. -/
def State.injectDrop (s : State) (detail : Nat) : State :=
  (s.modMon (fun m => { m with inject := none, dropped := wrapAdd 32 m.dropped 1 })).endWork 0x0603 eBusy detail

/-- MON_INJECT's own part (18 R452). -/
def monInjectBody : Body := fun r s =>
  let chan := fieldAt r.payload 0 1
  let range := fieldAt r.payload 1 1
  let ok := allZero (sliceAt r.payload 2 6) && decide (chan < 40) && (if isSense chan then decide (range ≤ 3) else range == 0)
  if !ok then fails eParam s
  else if s.monWork then fails eBusy s
  else if s.workFull then fails eNores s
  else
    let s1 := s.addWork r chan range
    if s.monConverting then accepted (s1.injectDrop 1)
    else accepted ((s1.modMon (fun m => { m with inject := some (s.clk + 192000), slotChan := (chan, range) })).syncDomains)

/-- Whether MON_SYSCAL's payload is in range (18 R454). -/
def syscalForm (p : List Byte) : Bool :=
  let range := fieldAt p 1 1
  let step := fieldAt p 2 1
  let n := fieldAt p 3 1
  let v := decInt 32 (fieldAt p 4 4)
  let g := decInt 32 (fieldAt p 8 4)
  let fs := rangeFs range
  decide (fieldAt p 0 1 < 16 ∧ range < 4 ∧ step < 4) && fieldAt p 12 4 == 0
    && (if step < 2 then decide (1 ≤ n ∧ n ≤ 64) else n == 0)
    && (if step = 1 then decide (fs ≤ 10 * v.natAbs ∧ v.natAbs ≤ fs) else if step = 2 then zOk v else v == 0)
    && (if step = 2 then gOk g else g == 0)

/-- MON_SYSCAL's own part (18 R454). -/
def monSyscalBody : Body := fun r s =>
  let p := r.payload
  let input := fieldAt p 0 1
  let range := fieldAt p 1 1
  let step := fieldAt p 2 1
  let k := coeffIdx input range
  let v := decInt 32 (fieldAt p 4 4)
  if !(syscalForm p) then fails eParam s
  else if step = 1 ∧ s.mon.zeroed.contains (input, range) = false then fails eState s
  else if s.working 0x0604 then fails eBusy s
  else if s.workFull then fails eNores s
  else
    let s1 := s.addWork r input range
    if step = 2 then accepted ((s1.modMon (fun m => m.setCoeff k (v, decInt 32 (fieldAt p 8 4)))).endWork 0x0604 stOk 0)
    else if step = 3 then accepted ((s1.modMon (fun m => m.setCoeff k (0, 16777216))).endWork 0x0604 stOk 0)
    else
      let s2 := if s.mon.inject.isSome then s1.injectDrop 2 else s1
      accepted ((s2.modMon (fun m => { m with
        syscal := some ⟨Fin.ofNat 16 input, Fin.ofNat 4 range, step, fieldAt p 3 1, v⟩ })).syncDomains)

/-! The rows. -/

/-- MON_LOAD_TABLE (18 R447). -/
def execMonLoadTable (t : Nat) (mb : Fin 17) (bulk : Bulk) (s : State) : Out := go (s.command t mb 0x0601 (lenIs 24) (monLoadBody bulk))

/-- MON_READ (18 R450). -/
def execMonRead (t : Nat) (mb : Fin 17) (s : State) : Out := go (s.command t mb 0x0602 (lenIs 8) monReadBody)

/-- MON_INJECT (18 R452). -/
def execMonInject (t : Nat) (mb : Fin 17) (s : State) : Out := go (s.command t mb 0x0603 (lenIs 8) monInjectBody)

/-- MON_SYSCAL (18 R454). -/
def execMonSyscal (t : Nat) (mb : Fin 17) (s : State) : Out := go (s.command t mb 0x0604 (lenIs 16) monSyscalBody)

/-- CONVERSION_END (18 R449). -/
def execConversionEnd (t : Nat) (raw : Int) (s : State) : Out := go ((s.reach t).monConvEnd raw)

/-- ENTRY_DELAY_END (18 R446). -/
def execEntryDelayEnd (t : Nat) (s : State) : Out := go ((s.reach t).monDelayEnd)

/-- INJECTION_START (18 R452). -/
def execInjectionStart (t : Nat) (s : State) : Out := go ((s.reach t).injectStart)

/-- SYSCAL_START (18 R454). -/
def execSyscalStart (t : Nat) (s : State) : Out := go ((s.reach t).calStart)

/-- SYSCAL_SETTLE_END (18 R454). -/
def execSyscalSettleEnd (t : Nat) (s : State) : Out := go ((s.reach t).calSettled)

end Sys2Proof.Machine
end

