-- ==== Sys2Proof/Machine/Cancel.lean ====
section
/-!
DEFINITION. What ends a command under execution without its effect: its expiry, an abort, a firmware restart (02 R50–R52; 09 R230);
the digest of the applied settings (02 R59).
-/

namespace Sys2Proof.Machine

/-- Undo what a waiting command has begun (02 R51; 09 R230). -/
def State.undoWait (s : State) : Wait → State
  | .arm x => s.revertArm (selChans x)
  | .arrayArm _ x => (s.revertArm (selChans x)).modAr (fun a => { a with armWait := [] })
  | .monLoad => s.modMon (fun m => { m with newTable := none })
  | .relay _ => s
  | .playStop _ => s
  | .force _ _ => s
  | .disarm q x => (selChans x).foldl (fun a c => a.modCh c (fun h => { h with
      stopAt := if h.stopAt.any (fun r => r.at_ == q && r.reason == 2) then none else h.stopAt })) s
  | .hqDestroy _ _ _ _ _ => s

/-- The command under execution ends, without its effect where its commit point has not come. -/
def State.cancelExec (s : State) : State :=
  match s.mr.exec with
  | none => s
  | some x => (if x.committed s.clk then s else s.undoWait x.wait).modMr (fun m => { m with exec := none, held := none })

/-- The settings entries of one key, its value in force at each scope. -/
def State.digestOf (s : State) (r : KeyRow) : List Byte :=
  r.scopes.flatMap (fun sc => entryBytes r.key sc 0 (if actionKey r.key then 0 else s.key r.key sc))

/-- APPLIED_DIGEST (02 R59). -/
def State.appliedDigest (s : State) : List Byte := shake256 (keyTable.flatMap s.digestOf) 32

end Sys2Proof.Machine
end

