-- ==== Sys2Proof/Machine/Firmware.lean ====
section
/-!
DEFINITION. Firmware images and their slots, live replacement and trials, identity, quotes, ownership and the debug unlock
(19 R459–R476, R482).
-/

namespace Sys2Proof.Machine

/-! Images (19 R459). -/

/-- The ASCII context string of firmware images. -/
def ctxImage : List Byte := asciiBytes "QSFWIMG1"
/-- Of quotes. -/
def ctxQuote : List Byte := asciiBytes "QSQUOTE1"
/-- Of owner enrolment. -/
def ctxOwner : List Byte := asciiBytes "QSOWNER1"
/-- Of unlock tokens. -/
def ctxDebug : List Byte := asciiBytes "QSDEBUG1"

/-- Bytes of an ML-DSA-65 signature. -/
def sigLen : Nat := 3309

/-- `BODY_LEN` of an image. -/
def bodyLenOf (img : List Byte) : Nat := fieldAt img 16 4

/-- Header and body of an image: what is signed and digested. -/
def imageMsg (img : List Byte) : List Byte := img.take (256 + bodyLenOf img)

/-- The signature of an image. -/
def imageSig (img : List Byte) : List Byte := padTo sigLen (img.drop (256 + bodyLenOf img))

/-- Whether a header is as 19 R459 requires. -/
def headerOk (h : List Byte) : Bool :=
  let body := bodyLenOf h
  h.take 4 == asciiBytes "QFWI" && fieldAt h 4 2 == 1 && decide (fieldAt h 6 1 ≤ 1) && fieldAt h 7 1 == 0
    && decide (fieldAt h 12 2 ≤ 256) && fieldAt h 14 2 == 0 && decide (1 ≤ body ∧ body ≤ 16772864 ∧ fieldAt h 20 4 < body)
    && allZero (sliceAt h 26 230)

/-- The key against which an image must verify; none for an owner's image without an owner (19 R460). -/
def Firm.keyFor (f : Firm) (signer : Nat) : Option (List Byte) :=
  if signer = 0 then some Config.vendorKey else if f.ownState = 1 then some f.ownKey else none

/-- Whether the first pass accepts an image: signature and SVN (19 R466). -/
def Firm.accepts (f : Firm) (img : List Byte) : Bool :=
  (f.keyFor (fieldAt img 6 1)).any (fun k => Config.mldsaVerify k ctxImage (imageMsg img) (imageSig img))
    && decide (f.fused ≤ fieldAt img 12 2)

/-- What a slot holds once an image has been programmed into it. -/
def Firm.slotOf (f : Firm) (img : List Byte) : FwSlot :=
  { intact := true, signer := fieldAt img 6 1, version := fieldAt img 8 4, svn := fieldAt img 12 2, bodyLen := bodyLenOf img
    hwMin := fieldAt img 24 2, digest := shake256 (imageMsg img) 64, key := (f.keyFor (fieldAt img 6 1)).getD []
    image := some img }

/-! Staging (19 R466). -/

/-- Codes whose outstanding work FW_STAGE waits for. -/
def stageBlockers : List Nat := [0x0901, 0x0902, 0x0203, 0x0204, 0x0704]

/-- FW_STAGE's own part; `bulk` is what the bulk read delivered. -/
def fwStageBody (bulk : Bulk) : Body := fun r s =>
  let len := (bulkRef r.payload 0).2.1
  let bad := bulk.any (fun img => !(headerOk (sliceAt img 0 256)) || len != 256 + bodyLenOf img + sigLen)
  if !(bulkOk r.payload 0) || bad then fails eParam s
  else if s.fw.trial.isSome then fails eState s
  else if stageBlockers.any s.working then fails eBusy s
  else if s.workFull then fails eNores s
  else match bulk with
    | none => failsRead r s
    | some img => accepted ((s.addWork r 0 0).modFw (fun f => { f with staging := some img }))

/-- Rewrite the boot record (19 R461): the copy with the lower SEQ takes a SEQ one higher, the record so far stays in the other. -/
def Firm.prefer (f : Firm) (n : Nat) : Firm :=
  { f with pref := n, bootSeq := wrapAdd 32 f.bootSeq 1, bootAt := 1 - f.bootAt, bootOld := some (f.bootSeq, f.pref) }

/-- Log SC_AUTH_FAILED for a command (19 R483). -/
def State.authFailed (s : State) (code : Nat) : State := s.fwEvent 0x1109 sevWarning 0 (code % 256) 0 0

/-- The two passes of staging end; `readBack` says that the slot read back right (19 R466). In recovery the module boots the
image (19 R463). -/
def State.stageEnd (s : State) (readBack : Bool) : State :=
  match s.fw.staging with
  | none => s
  | some img =>
    let done := s.modFw (fun f => { f with staging := none })
    if !(s.fw.accepts img) then (done.authFailed 0x0901).endWork 0x0901 eAuth 0
    else
      let n := s.fw.other
      let v := s.fw.slotOf img
      if !readBack then (s.modFw (fun f => f.spoilOther)).endWork 0x0901 eHw 0
      else
        let s1 := ((done.modFw (fun f => f.setSlot n v)).fwEvent 0x1101 sevInfo n 0 v.version v.svn).endWork 0x0901 stOk 0
        if s.fw.recovery then (s1.modFw (fun f => f.prefer 0)).bootRom.bootServe true else s1

/-! Activation (02 R50; 19 R467). -/

/-- Every mailbox goes OFFLINE: responses and snapshots are lost, a command under execution ends (02 R50). -/
def State.goOffline (s : State) : State :=
  (s.cancelExec.modMr (fun m => { m with mbs := m.mbs.map (fun b => { b with state := .offline, rsp := [], snap := none }) })).modFw
    (fun f => { f with serving := false })

/-- Raise the anti-rollback value to the SVN of slot `n` (19 R465). -/
def Firm.commitSvn (f : Firm) (n : Nat) : Firm := { f with fused := max f.fused (f.slot n).svn }

/-- Whether another mailbox is POSTED or BUSY (02 R50). -/
def State.othersBusy (s : State) (m : Fin 17) : Bool :=
  (List.finRange 17).any (fun j => j != m && ((s.mbox j).state == .posted || (s.mbox j).state == .busy))

/-- OP 2: the trial is confirmed (19 R467, R482). -/
def State.confirmTrial (s : State) : State :=
  match s.fw.trial with
  | none => s
  | some x => s.modFw (fun f =>
      let g := { f.prefer f.running with trial := none }
      if x.commit then g.commitSvn g.running else g)

/-- FW_ACTIVATE's own part. With OP 0 and 1 the mailboxes go OFFLINE once the answer stands (`activateOffline`). -/
def fwActivateBody : Body := fun r s =>
  let op := fieldAt r.payload 0 1
  let commit := fieldAt r.payload 1 1 == 1
  if 2 < op ∨ 1 < fieldAt r.payload 1 1 ∨ fieldAt r.payload 2 6 ≠ 0 then fails eParam s
  else if op = 2 then
    if s.fw.trial.any (fun x => decide (s.clk ≤ x.end_)) = false then fails eState s
    else if s.workFull then fails eNores s
    else accepted ((s.addWork r 2 0).confirmTrial.endWork 0x0902 stOk 0)
  else if s.otherSlotBad || s.fw.trial.isSome then fails eState s
  else if s.othersBusy r.mb || !s.mr.work.isEmpty || s.ck.relock.isSome then fails eBusy s
  else
    let n := s.fw.other
    let s1 := (s.addWork r op 0).modFw (fun f => { f with restart := some ⟨r.mb.val, r.tag, op, n, 0, false⟩ })
    accepted (if op = 0 then s1.modFw (fun f => if commit then (f.prefer n).commitSvn n else f.prefer n)
      else s1.modFw (fun f => { f with trial := some ⟨s.clk + s.mkey 0x1100 * 3000000000, commit⟩ }))

/-- The mailboxes go OFFLINE after the acceptance of an activation. -/
def State.activateOffline (s : State) : State := if s.fw.restart.isSome && s.fw.serving then s.goOffline else s

/-- The trial ends unconfirmed (19 R467): the module restarts live into the previous slot. -/
def State.trialEnd (s : State) : State :=
  match s.fw.trial with
  | none => s
  | some x =>
    if s.clk < x.end_ ∨ s.fw.halted = true ∨ s.fw.serving = false then s
    else s.goOffline.modFw (fun f => { f with trial := none, restart := some ⟨0, 0, 0, f.other, 1, false⟩ })

/-- Firmware has started in a slot, or the ROM in recovery (19 R467, R463): it serves, or halts at its first instruction. -/
def State.restarted (s : State) (r : Restart) : State :=
  let s1 := s.modFw (fun f => { f with restarts := wrapAdd 32 f.restarts 1 })
  if s.fw.haltReq then s1.modFw (fun f => { f with haltReq := false, halted := true, hcause := 1, restart := some { r with began := true } })
  else s1.restartServe r

/-- Both slots fail the check at a live restart: recovery (19 R462 step 5, R463). -/
def State.toRecovery (s : State) : State :=
  (s.modFw (fun f => { f with recovery := true, trial := none })).fwEvent 0x1105 sevCritical 0 0 0 0

/-- LIVE_RESTART_DONE (19 R467): the boot ROM re-checks the slot, `check` being its reading of the flash, and starts it; when
the check fails, the slot that ran before; with neither slot valid, recovery (19 R462). -/
def State.liveDone (s : State) (check : Bool) : State :=
  match s.fw.restart with
  | none => s
  | some r =>
    if r.began || s.fw.serving then s
    else if check && s.fw.slotFault (s.fw.slot r.slot) == 0 then (s.startSlot r.slot).restarted r
    else
      let back := { r with revert := 2 }
      let s1 := s.modFw (fun f => { f with trial := none })
      if s.fw.slotFault (s.fw.slot s.fw.running) = 0 then (s1.startSlot s.fw.running).restarted back
      else s1.toRecovery.restarted back

/-! FW_STATUS (19 R468). -/

/-- One of the slot records. -/
def Firm.slotRecord (f : Firm) (n : Nat) : List Byte :=
  let v := f.slot n
  leBytes 1 (flag (f.slotFault v == 0)) ++ leBytes 1 v.signer ++ leBytes 2 v.svn ++ leBytes 4 v.version ++ leBytes 4 v.bodyLen
    ++ List.replicate 4 0#8 ++ padTo 64 v.digest

/-- RUNNING: 0xFF in recovery. -/
def Firm.runningByte (f : Firm) : Nat := if f.recovery then 0xFF else f.running

/-- Seconds left of the trial. -/
def State.trialLeft (s : State) : Nat := s.fw.trial.elim 0 (fun x => ceilDiv (x.end_ - s.clk) 3000000000)

/-- FW_STATUS's own part; the spec gives no value for the progress of staging under way. -/
def fwStatusBody : Body := fun _ s =>
  let x := if s.fw.staging.isSome then s.free else (0#64, s)
  let f := s.fw
  answers (leBytes 1 f.runningByte ++ leBytes 1 f.pref ++ leBytes 1 (flag f.trial.isSome) ++ leBytes 1 f.ownState ++ leBytes 4 s.trialLeft
    ++ leBytes 2 f.fused ++ leBytes 1 f.ownSlots ++ leBytes 1 (x.1.toNat % 101) ++ leBytes 4 f.restarts ++ f.slotRecord 0 ++ f.slotRecord 1) x.2

/-! Identity and quotes (19 R469, R470, R473). -/

/-- The owner digest, or zero (19 R470, R473). -/
def Firm.ownerField (f : Firm) : List Byte := if f.ownState = 1 then f.ownerDigest else List.replicate 32 0#8

/-- The identity record. -/
def Firm.identRecord (f : Firm) : List Byte :=
  Config.serial ++ leBytes 2 Config.hwRev ++ [1#8] ++ leBytes 1 f.ownState ++ leBytes 2 f.fused ++ [0#8, 0#8] ++ identDigest ++ f.ownerField
    ++ List.replicate 8 0#8 ++ Config.identKey

/-- GET_IDENTITY's own part; a reference shorter than the endorsement is out of range (DESIGN CHOICE, log entry 41). -/
def identityBody : Body := fun r s =>
  let what := fieldAt r.payload 0 1
  let ok := decide (what ≤ 1) && allZero (sliceAt r.payload 1 7)
    && (if what = 0 then allZero (sliceAt r.payload 8 16) else bulkOk r.payload 8 && decide (sigLen ≤ (bulkRef r.payload 8).2.1))
  if !ok then fails eParam s
  else if what = 0 then answers s.fw.identRecord s
  else answers (leBytes 4 sigLen) (s.hostWrite (bulkRef r.payload 8).1 Config.endorsement)

/-- QFLAGS. -/
def Firm.qflags (f : Firm) : Nat :=
  flag f.unlocked + 2 * flag f.everUnl + 4 * flag (f.ownState == 1) + 8 * flag f.trial.isSome + 16 * flag f.recovery

/-- The firmware version in force, 0 in recovery (19 R463). -/
def Firm.versionNow (f : Firm) : Nat := if f.recovery then 0 else (f.slot f.running).version

/-- The body of a quote. -/
def State.quoteMsg (s : State) (nonce : List Byte) : List Byte :=
  let f := s.fw
  asciiBytes "QQTE" ++ leBytes 2 1 ++ leBytes 2 f.qflags ++ Config.serial ++ nonce ++ leBytes 8 s.ticks ++ leBytes 4 s.now.fracq
    ++ leBytes 4 f.versionNow ++ leBytes 1 f.runningByte ++ leBytes 1 (flag f.unlocked) ++ leBytes 2 f.fused ++ leBytes 4 f.bootCount
    ++ identDigest ++ f.ownerField ++ (if f.recovery then List.replicate 32 0#8 else s.appliedDigest)
    ++ f.meas.toList.flatMap (padTo 64) ++ List.replicate 16 0#8

/-- A signature by the module's signing engine, hedged with random number `n`. -/
def signMsg (n : BitVec 64) (ctx msg : List Byte) : List Byte := (List.range sigLen).map (Config.mldsaSignByte n (ctx ++ msg))

/-- QUOTE's own part. -/
def quoteBody : Body := fun r s =>
  let ref := bulkRef r.payload 32
  if !(bulkOk r.payload 32) || decide (ref.2.1 < 4013) then fails eParam s
  else
    let x := s.free
    let msg := s.quoteMsg (sliceAt r.payload 0 32)
    answers (leBytes 4 4013 ++ List.replicate 4 0#8) (x.2.hostWrite ref.1 (msg ++ signMsg x.1 ctxQuote msg))

/-! Ownership (19 R474, R475). -/

/-- The index of the owner slot that the next enrolment programs. -/
def Firm.nextOwner (f : Firm) : Nat := 8 - f.ownSlots

/-- Whether an enrolment is authorised: new key and signature as the bulk read delivered them. -/
def Firm.enrolOk (f : Firm) (bs : List Byte) : Bool :=
  let key := padTo 1952 bs
  Config.mldsaVerify (if f.ownState = 1 then f.ownKey else Config.vendorKey) ctxOwner
    (Config.serial ++ leBytes 1 f.nextOwner ++ shake256 key 32) (padTo sigLen (bs.drop 1952))

/-- ENROLL_OWNER's own part; without a free slot there is no index to sign. -/
def enrolBody (bulk : Bulk) : Body := fun r s =>
  if !(bulkOk r.payload 0) || (bulkRef r.payload 0).2.1 != 5261 then fails eParam s
  else if s.fw.ownSlots ≠ 0 ∧ bulk.any (fun bs => !(s.fw.enrolOk bs)) = true then fails eAuth (s.authFailed 0x0704)
  else if s.working 0x0901 || s.working 0x0704 then fails eBusy s
  else if s.fw.ownSlots = 0 ∨ s.workFull = true then fails eNores s
  else match bulk with
    | none => failsRead r s
    | some bs => accepted ((s.addWork r 0 0).modFw (fun f => { f with enrol := some (padTo 1952 bs) }))

/-- The next owner slot is programmed (19 R475): the new owner is in force. -/
def State.ownerDone (s : State) : State :=
  match s.fw.enrol with
  | none => s
  | some k =>
    let n := s.fw.nextOwner
    let s1 := s.modFw (fun f => { f with enrol := none, ownKey := k, ownState := 1, ownSlots := f.ownSlots - 1 })
    ((s1.lockDebug 3).extendOwner.fwEvent 0x1106 sevNotice 0 n 0 0).endWork 0x0704 stOk 0

/-! The debug unlock (19 R476). -/

/-- Whether the outstanding challenge still stands. -/
def State.challenge (s : State) : Option (List Byte) :=
  (s.fw.chal.filter (fun c => decide (s.clk < c.2 + 180000000000))).map (·.1)

/-- OP 0: a fresh challenge. -/
def State.newChallenge (s : State) : Answer × State :=
  let c := (List.range 32).map (Config.challengeByte s.fw.chalNo)
  answers c (s.modFw (fun f => { f with chal := some (c, s.clk), chalNo := f.chalNo + 1 }))

/-- Whether a token's fields and signature are right for a challenge. -/
def Firm.tokenOk (f : Firm) (chal tok : List Byte) : Bool :=
  sliceAt tok 0 60 == asciiBytes "QDBG" ++ Config.serial ++ chal ++ leBytes 4 f.bootCount ++ List.replicate 4 0#8
    && Config.mldsaVerify f.ownKey ctxDebug (sliceAt tok 0 60) (padTo sigLen (tok.drop 60))

/-- The port unlocks (19 R476): register 6, the event. -/
def State.unlockDebug (s : State) (tok : List Byte) : State :=
  let s1 := s.modFw (fun f => { f with unlocked := true, everUnl := true, chal := none })
  (s1.extendMeas 6 (1#8 :: List.replicate 31 0#8 ++ shake256 tok 32)).fwEvent 0x1107 sevWarning 0 0 0 0

/-- OP 1. A token is checked against the owner and the challenge where there are both; without them the status is E_STATE
(DEDUCED, log entry 42). -/
def State.tokenAnswer (s : State) (tok : List Byte) : Answer × State :=
  let used := s.modFw (fun f => { f with chal := none })
  match s.challenge with
  | none => fails eState used
  | some c =>
    if s.fw.ownState ≠ 1 then fails eState used
    else if s.fw.tokenOk c tok = false then fails eAuth (used.authFailed 0x0703)
    else if s.mkey 0x1101 = 0 ∨ s.fw.unlocked = true then fails eState used
    else answers [] (s.unlockDebug tok)

/-- DEBUG_UNLOCK's own part. -/
def debugUnlockBody (bulk : Bulk) : Body := fun r s =>
  let op := fieldAt r.payload 0 1
  let ok := decide (op ≤ 2) && allZero (sliceAt r.payload 1 7)
    && (if op = 1 then bulkOk r.payload 8 && (bulkRef r.payload 8).2.1 == 3369 else allZero (sliceAt r.payload 8 16))
  if !ok then fails eParam s
  else if op = 0 then s.newChallenge
  else if op = 1 then bulk.elim (failsRead r s) (fun tok => s.tokenAnswer (padTo 3369 tok))
  else if s.fw.unlocked then answers [] (s.lockDebug 1)
  else fails eState s

/-- The challenge lapses 60 s after its issue. -/
def State.challengeEnd (s : State) : State := if s.challenge.isNone then s.modFw (fun f => { f with chal := none }) else s

/-! The rows. -/

/-- GET_IDENTITY (19 R470). -/
def execGetIdentity (t : Nat) (mb : Fin 17) (s : State) : Out := go (s.command t mb 0x0701 (lenIs 24) identityBody)

/-- QUOTE (19 R473). -/
def execQuote (t : Nat) (mb : Fin 17) (s : State) : Out := go (s.command t mb 0x0702 (lenIs 48) quoteBody)

/-- DEBUG_UNLOCK (19 R476). -/
def execDebugUnlock (t : Nat) (mb : Fin 17) (bulk : Bulk) (s : State) : Out := go (s.command t mb 0x0703 (lenIs 24) (debugUnlockBody bulk))

/-- CHALLENGE_EXPIRY (19 R476). -/
def execChallengeExpiry (t : Nat) (s : State) : Out := go ((s.reach t).challengeEnd)

/-- ENROLL_OWNER (19 R475). -/
def execEnrollOwner (t : Nat) (mb : Fin 17) (bulk : Bulk) (s : State) : Out := go (s.command t mb 0x0704 (lenIs 16) (enrolBody bulk))

/-- OWNER_SLOT_PROGRAMMED (19 R475). -/
def execOwnerSlotProgrammed (t : Nat) (s : State) : Out := go ((s.reach t).ownerDone)

/-- FW_STAGE (19 R466). -/
def execFwStage (t : Nat) (mb : Fin 17) (bulk : Bulk) (s : State) : Out := go (s.command t mb 0x0901 (lenIs 16) (fwStageBody bulk))

/-- FW_STAGE_END (19 R466). -/
def execFwStageEnd (t : Nat) (readBack : Bool) (s : State) : Out := go ((s.reach t).stageEnd readBack)

/-- FW_ACTIVATE (19 R467; 02 R50). -/
def execFwActivate (t : Nat) (mb : Fin 17) (s : State) : Out := go ((s.command t mb 0x0902 (lenIs 8) fwActivateBody).activateOffline)

/-- LIVE_RESTART_DONE (02 R50; 19 R467). -/
def execLiveRestartDone (t : Nat) (check : Bool) (s : State) : Out := go ((s.reach t).liveDone check)

/-- TRIAL_EXPIRY (19 R467). -/
def execTrialExpiry (t : Nat) (s : State) : Out := go ((s.reach t).trialEnd)

/-- FW_STATUS (19 R468). -/
def execFwStatus (t : Nat) (mb : Fin 17) (s : State) : Out := go (s.command t mb 0x0903 (lenIs 0) fwStatusBody)

end Sys2Proof.Machine
end

