-- ==== Sys2Proof/Machine/Settings.lean ====
section
/-!
DEFINITION. The settings commands (02 R53–R62): PUT_SETTINGS, GET_SETTINGS, DISCARD_STAGED, and the checks that APPLY
makes (02 R58): the joint checks of every chapter, over the values that would stand in force.
-/

namespace Sys2Proof.Machine

/-! PUT_SETTINGS (02 R55–R57). -/

/-- Entry `i` of a PUT_SETTINGS payload. -/
def putEntry (p : List Byte) (i : Nat) : SetEntry :=
  ⟨fieldAt p (8 + 16 * i) 2, fieldAt p (10 + 16 * i) 1, BitVec.ofNat 64 (fieldAt p (16 + 16 * i) 8)⟩

/-- Whether a key takes effect immediately. -/
def immediate (k : Nat) : Bool := (keyRow k).any (fun r => r.eff == .now)

/-- Whether an entry passes: a defined key, a permitted scope, zero reserved bytes, `VALUE` high bytes under R55, and the range of
a key that takes effect immediately. -/
def putOk (p : List Byte) (i : Nat) : Bool :=
  let e := putEntry p i
  match keyRow e.key with
  | none => false
  | some r => r.scopeOk e.scope && allZero (sliceAt p (11 + 16 * i) 5) && r.rng.widthOk e.val.toNat
      && (r.eff != .now || r.rng.ok e.val.toNat)

/-- The channel or input of a scope from 1 to 4. -/
def chanOfScope (sc : Nat) : Fin 4 := Fin.ofNat 4 (sc + 3)

/-- What writing an action key does (03 R82; 10 R263). -/
def State.actOn (s : State) (e : SetEntry) : State :=
  if e.val.toNat ≠ 1 then s
  else if e.key = 0x0106 then s.feReset (chanOfScope e.scope)
  else if e.key = 0x0808 then s.scheduleReset (chanOfScope e.scope)
  else s

/-- One entry of a PUT_SETTINGS that passes: in force at once, or staged. -/
def State.putOne (s : State) (e : SetEntry) : State :=
  if immediate e.key then (s.modMr (fun m => { m with recorded := setRecord m.recorded e })).actOn e
  else s.modMr (fun m => { m with stage := setPut e m.stage })

/-- PUT_SETTINGS' own part (02 R56, R57). -/
def putSettingsBody : Body := fun r s =>
  let p := r.payload
  let n := fieldAt p 0 2
  if n = 0 ∨ 63 < n ∨ allZero (sliceAt p 2 6) = false then fails eParam s
  else match (List.range n).find? (fun i => !(putOk p i)) with
    | some i => failsKey eParam (putEntry p i).key (putEntry p i).scope i s
    | none =>
      let s1 := (List.range n).foldl (fun a i => a.putOne (putEntry p i)) s
      if 4096 < s1.mr.stage.length then fails eNores s else answers (leBytes 4 s1.mr.stage.length) s1

/-- The payload length of PUT_SETTINGS. -/
def putLen : Req → Bool := fun r => r.plen == 8 + 16 * fieldAt r.payload 0 2

/-- DISCARD_STAGED's own part (02 R60). -/
def discardBody : Body := fun _ s =>
  answers (leBytes 4 s.mr.stage.length) (s.modMr (fun m => { m with stage := [] }))

/-! GET_SETTINGS (02 R61). -/

/-- Whether a key and scope are defined. -/
def keyDefined (k sc : Nat) : Bool := (keyRow k).any (fun r => r.scopeOk sc)

/-- Byte 3 of a returned entry. -/
def State.keyReport (s : State) (k sc : Nat) : Nat :=
  if keyDefined k sc then 1 + 2 * flag (setLookup s.mr.stage k sc).isSome + 4 * flag (immediate k) else 0

/-- The value a view returns. -/
def State.viewValue (s : State) (view k sc : Nat) : Nat :=
  if keyDefined k sc = false ∨ actionKey k = true then 0
  else match view with
    | 0 => s.key k sc
    | 1 => (setLookup s.mr.stage k sc).elim (s.key k sc) (·.toNat)
    | _ => keyDefault k

/-- One entry of a response. -/
def State.viewEntry (s : State) (view k sc : Nat) : List Byte := entryBytes k sc (s.keyReport k sc) (s.viewValue view k sc)

/-- The entries of views 0 to 2, in the order of the key list. -/
def State.listedEntries (s : State) (view : Nat) (p : List Byte) : List Byte :=
  (List.range (fieldAt p 2 2)).flatMap (fun i => s.viewEntry view (fieldAt p (8 + 4 * i) 2) (fieldAt p (10 + 4 * i) 1))

/-- GET_SETTINGS' own part. -/
def getSettingsBody : Body := fun r s =>
  let p := r.payload
  let view := fieldAt p 0 1
  let n := fieldAt p 2 2
  let start := fieldAt p 4 4
  if 3 < view ∨ fieldAt p 1 1 ≠ 0 ∨ n = 0 ∨ 127 < n ∨ (view < 3 ∧ start ≠ 0)
      ∨ (view < 3 ∧ (List.range n).any (fun i => fieldAt p (11 + 4 * i) 1 != 0) = true) then fails eParam s
  else
    let listed := (s.mr.stage.drop start).take n
    let head (k : Nat) : List Byte := leBytes 2 k ++ [0#8, 0#8] ++ leBytes 4 s.mr.stage.length ++ List.replicate 8 0#8
    if view = 3 then answers (head listed.length ++ listed.flatMap (fun e => s.viewEntry 1 e.key e.scope)) s
    else answers (head n ++ s.listedEntries view p) s

/-- The payload length of GET_SETTINGS; a reserved VIEW is refused at step 5. -/
def getLen : Req → Bool := fun r =>
  let view := fieldAt r.payload 0 1
  decide (8 ≤ r.plen) && (decide (3 < view) || (if view = 3 then r.plen == 8 else r.plen == 8 + 4 * fieldAt r.payload 2 2))

/-! The checks of APPLY (02 R58). -/

/-- A failing check: the place of its status in the order of R58, and the key and scope it names. -/
structure Failing where
  rank  : Nat
  key   : Nat
  scope : Nat
deriving DecidableEq, Repr

/-- The statuses of joint checks in the order of R58. -/
def rankStatus (n : Nat) : Nat := [eMode, eParam, eState, eBusy, eNores, eQuota].getD n eConflict

/-- A check that fails when `b` holds. -/
def failIf (b : Bool) (rank key scope : Nat) : List Failing := if b then [⟨rank, key, scope⟩] else []

/-- What an APPLY would bring about: the values standing in force after it, whether it changes a key (00 R499), whether an entry
is staged there. -/
structure Proposal where
  vals   : List SetEntry
  staged : List SetEntry
  before : List SetEntry
deriving DecidableEq, Repr

/-- The proposal of the stage. -/
def State.proposal (s : State) : Proposal := ⟨s.mr.stage.foldl setRecord s.mr.recorded, s.mr.stage, s.mr.recorded⟩

/-- The value that would stand in force. -/
def Proposal.val (v : Proposal) (k sc : Nat) : Nat := recordedVal v.vals k sc

/-- Whether the APPLY changes a key (00 R499). -/
def Proposal.changed (v : Proposal) (k sc : Nat) : Bool := v.val k sc != recordedVal v.before k sc

/-- The mode that would stand in force. -/
def Proposal.mode (v : Proposal) : Nat := v.val 0x0004 0

/-- The channels present in that mode. -/
def Proposal.present (v : Proposal) : List (Fin 4) := allCh.filter (presentIn v.mode)

/-- A key of channel `c`. -/
def Proposal.ch (v : Proposal) (k : Nat) (c : Fin 4) : Nat := v.val k (c.val + 1)

/-- The format entry of a channel. -/
def Proposal.fmt (v : Proposal) (c : Fin 4) : FmtSpec := fmtEntry (v.ch 0x0806 c) (v.val (0x0A00 + v.ch 0x0806 c) 0)

/-- Whether a channel names an entry that is not loaded (01 R26). -/
def Proposal.unloaded (v : Proposal) (c : Fin 4) : Bool := decide (5 ≤ v.ch 0x0806 c) && v.val (0x0A00 + v.ch 0x0806 c) 0 == 0

/-- The entries that decimation without accumulation permits (01 R25). -/
def suitsDecim (mode width f src : Nat) : Bool :=
  match mode with
  | 2 => f == 3 || (decide (5 ≤ f) && src == 1)
  | 3 => f == (if width = 0 then 1 else 2) || (decide (5 ≤ f) && src == 1)
  | _ => decide (f ≤ 1) || (decide (5 ≤ f) && src == 0)

/-- Whether decimation permits a mode of accumulation (11 R273). -/
def accumPermits (acMode dcMode width : Nat) : Bool :=
  if dcMode = 3 then width == 0 else if dcMode = 2 then acMode == 3 else true

/-- The entry that a mode of accumulation requires (11 R274). -/
def accumFmt (acMode dcMode acRun : Nat) : Nat :=
  if acMode = 3 then 3
  else if acMode = 1 ∧ (if dcMode = 3 then 65536 else 1048576) < acRun then 4
  else 2

/-- Towers of a channel in the proposed mode. -/
def Proposal.towers (v : Proposal) (c : Fin 4) : Nat := (towersIn v.mode c).length

/-- The staging need of a channel's towers, in bytes (12 R293). -/
def State.stagingIn (s : State) (v : Proposal) (c : Fin 4) : Nat :=
  stagingNeed v.mode (v.towers c) (v.fmt c).count (s.nextTable c) c (fun d k => v.ch k d)

/-- The checks of 11 R272 on a channel, row by row: rank, key, row. -/
def State.accumRows (s : State) (v : Proposal) (c : Fin 4) : List (Nat × Failing) :=
  let ac := v.ch 0x0900 c
  let dc := v.ch 0x0800 c
  let pts := v.ch 0x0901 c
  let t := v.towers c
  let row (n : Nat) (b : Bool) (rank key : Nat) : List (Nat × Failing) := (failIf b rank key (c.val + 1)).map (fun f => (n, f))
  if ac = 0 then []
  else row 0 (decide (pts ≤ v.ch 0x0902 c)) 1 0x0902
    ++ row 1 (!(accumPermits ac dc (v.ch 0x0804 c))) 0 0x0900
    ++ row 2 (v.ch 0x0806 c != accumFmt ac dc (v.ch 0x0903 c)) 0 0x0806
    ++ row 3 (decide (458752 * t < pts)) 0 0x0901
    ++ row 4 (decide (v.ch 0x0904 c * 1024 < ceilDiv pts (max 1 t) * 4)) 4 0x0901
    ++ row 5 (decide (3600 * samplesPerTick v.mode < (v.ch 0x0902 c + 1) * v.ch 0x0801 c)) 4 0x0902
    ++ row 6 (decide (2097152 < v.ch 0x0904 c * 1024 + s.stagingIn v c)) 6 0x0904

/-- Order of failing rows: the row, then the scope. -/
def rowBefore (a b : Nat × Failing) : Bool := decide (a.1 < b.1) || (a.1 == b.1 && decide (a.2.scope ≤ b.2.scope))

/-- The earliest failing row of one status. -/
def firstRow (rank : Nat) : List (Nat × Failing) → Option (Nat × Failing)
  | [] => none
  | x :: xs =>
    match firstRow rank xs with
    | none => if x.2.rank = rank then some x else none
    | some y => if x.2.rank = rank ∧ rowBefore x y = true then some x else some y

/-- The checks of 11 R272 over all present channels, the earliest row of each status. -/
def State.accumChecks (s : State) (v : Proposal) : List Failing :=
  let rows := v.present.flatMap (s.accumRows v)
  ([0, 1, 4, 6] : List Nat).filterMap (fun n => (firstRow n rows).map (·.2))


/-- Checks of a present channel's own keys and its input's (01 R25, R26; 03 R77; 08 R201; 10 R253; 12 R293, R294). -/
def State.chanChecks (s : State) (v : Proposal) (c : Fin 4) : List Failing :=
  let k := fun a => v.ch a c
  let sc := c.val + 1
  let f := k 0x0806
  let plain := k 0x0900 == 0
  let ty := k 0x0600
  failIf (plain && !(v.unloaded c) && !(suitsDecim (k 0x0800) (k 0x0804) f (v.fmt c).src)) 0 0x0806 sc
    ++ failIf (v.unloaded c) 1 0x0806 sc
    ++ failIf (k 0x0800 == 2 && decide (5 ≤ f) && !(v.unloaded c)
        && ((v.fmt c).width != 32 || (v.fmt c).align != 0 || !(v.fmt c).signed)) 0 0x0806 sc
    ++ failIf ((k 0x0800 == 0) != (k 0x0801 == 1)) 1 0x0801 sc
    ++ failIf (decide (fullScaleSq (k 0x0100) < (decInt 32 (k 0x0101)).natAbs ^ 2)) 1 0x0101 sc
    ++ failIf ((ty == 3 || ty == 5 || ty == 6) && decide (decInt 16 (k 0x0603) ≤ decInt 16 (k 0x0602))) 1 0x0603 sc
    ++ failIf ((ty == 4 || ty == 6 || ty == 7) && decide (2 ≤ k 0x0605) && decide (k 0x0607 < k 0x0606)) 1 0x0607 sc
    ++ failIf (ty == 8 && k 0x0608 == 0) 1 0x0608 sc
    ++ failIf (ty == 8 && allCh.any (fun d => bitsAt (k 0x0608) (2 * d.val) 2 != 0 && !(presentIn v.mode d))) 0 0x0608 sc
    ++ failIf (plain && (decide (k 0x0A02 ≤ k 0x0A03) || (k 0x0A01 == 1 && k 0x0A03 != 0))) 1 0x0A03 sc
    ++ failIf (plain && k 0x0A01 == 1 && k 0x0A00 == 2) 0 0x0A00 sc
    ++ failIf (plain && decide (2097152 < s.stagingIn v c)) 4 0x0A03 sc

/-- The word rate of a channel as proposed (01 R28; 11 R280). -/
def Proposal.rate (v : Proposal) (c : Fin 4) : Frac :=
  if v.ch 0x0900 c = 0 then wordRate (samplesPerTick v.mode) (v.ch 0x0801 c) (v.fmt c).count else (0, 1)

/-- The first channel at which a word rate, or the sum of those up to it, passes its limit (01 R28, R33). -/
def Proposal.overRate (v : Proposal) (active : Nat) : List (Fin 4) → Frac → Option (Fin 4)
  | [], _ => none
  | c :: cs, sum =>
    let r := v.rate c
    let t := sum.add r
    if !(r.le (towerLimit (v.towers c))) || !(t.le (sumLimit active)) then some c else v.overRate active cs t

/-- The first channel at which the rate of segments recorded continuously passes 150,000,000 per second (12 R294). -/
def Proposal.overSegs (v : Proposal) : List (Fin 4) → Frac → Option (Fin 4)
  | [], _ => none
  | c :: cs, sum =>
    let on := v.ch 0x0900 c == 0 && v.ch 0x0A01 c == 1
    let t := if on then sum.add (samplesPerTick v.mode, max 1 (v.ch 0x0801 c) * max 1 (v.ch 0x0A02 c)) else sum
    if !(t.le (1, 20)) then some c else v.overSegs cs t

/-- The sum of the word rates of the channels present (01 R28). -/
def Proposal.rates (v : Proposal) : Frac := v.present.foldl (fun a c => a.add (v.rate c)) (0, 1)

/-- The share that the values recorded after the first `n` staged entries would leave to streaming, in 10 MB/s (01 R31). -/
def State.shareAfter (s : State) (n : Nat) : Nat :=
  unreserved s.activeSlots ({ s.proposal with vals := (s.mr.stage.take n).foldl setRecord s.mr.recorded } : Proposal).rates

/-- The first staged entry, in the order of the stage, that lowers the share to less than the streaming outputs need, when the whole
stage leaves less than that (01 R31; log entry 51). -/
def State.streamShort (s : State) : Option SetEntry :=
  let n := s.mr.stage.length
  if s.streamUse ≤ s.shareAfter n ∨ s.shareAfter 0 ≤ s.shareAfter n then none
  else (((List.range n).find? (fun i =>
    decide (s.shareAfter (i + 1) < s.streamUse ∧ s.shareAfter (i + 1) < s.shareAfter i))).bind (fun i => s.mr.stage[i]?))

/-- The capacity checks over channels together. -/
def State.rateChecks (s : State) (v : Proposal) : List Failing :=
  s.streamShort.elim [] (fun e => [⟨4, e.key, e.scope⟩]) ++
  (v.overRate s.activeSlots v.present (0, 1)).elim [] (fun c => [⟨4, 0x0806, c.val + 1⟩])
    ++ (v.overSegs v.present (0, 1)).elim [] (fun c => [⟨4, 0x0A02, c.val + 1⟩])

/-- Whether an injection source is an output that would be routed to its front panel. -/
def Proposal.routed (v : Proposal) (src : Nat) : Bool := (src == 1 && v.val 0x0D00 0 == 1) || (src == 2 && v.val 0x0D08 0 == 1)

/-- Whether an input would inject from an output routed to its front panel, or its running channel injects so now (03 R85). -/
def State.injectsRouted (s : State) (v : Proposal) (i : Fin 4) : Bool :=
  v.routed (v.ch 0x0103 i) || (s.running i && v.routed (s.akey 0x0103 i))

/-- Whether a port carries a member below the module (16 R394). -/
def State.carriesBelow (s : State) (p : Fin 3) : Bool := s.ar.ports[p] && s.ar.carries[p] && !(s.isUpstream p)

/-- Checks of module keys taken together (03 R85; 06 R151; 13 R330; 16 R394). -/
def State.moduleChecks (s : State) (v : Proposal) : List Failing :=
  failIf (v.val 0x0406 0 == 2 && decide (2500 < v.val 0x0407 0)) 1 0x0407 0
    ++ failIf (decide (v.val 0x0B03 0 ≤ v.val 0x0B02 0)) 1 0x0B03 0
    ++ ((v.present.find? (s.injectsRouted v)).elim [] (fun i => [⟨6, 0x0103, i.val + 1⟩]))
    ++ failIf (s.ar.role == 1 && decide (v.val 0x0E04 0 < s.ar.w)) 4 0x0E04 0
    ++ failIf ((v.val 0x0E06 0 == 1 && s.carriesBelow 1) || (v.val 0x0E06 0 == 2 && s.carriesBelow 2)) 6 0x0E06 0

/-- Whether an output waits or plays (15 R376). -/
def State.outBusy (s : State) (o : Fin 2) : Bool := s.out[o].st == 2 || s.out[o].st == 3

/-- Checks of state (01 R13, R27; 15 R376). -/
def State.stateChecks (s : State) (v : Proposal) : List Failing :=
  failIf (v.changed 0x0004 0 && allCh.any (fun c => s.ch[c].st != .stopped)) 2 0x0004 0
    ++ ([5, 6, 7] : List Nat).flatMap (fun n =>
      failIf (v.changed (0x0A00 + n) 0 && allCh.any (fun c => s.ch[c].st != .stopped && s.akey 0x0806 c == n)) 2 (0x0A00 + n) 0)
    ++ ([0x0D00, 0x0D01] : List Nat).flatMap (fun k => failIf (v.changed k 0 && s.outBusy 0) 2 k 0)
    ++ ([0x0D08, 0x0D09] : List Nat).flatMap (fun k => failIf (v.changed k 0 && s.outBusy 1) 2 k 0)

/-- The first staged entry that satisfies `q`, as a check that fails with E_BUSY. -/
def Proposal.firstStaged (v : Proposal) (q : SetEntry → Bool) : List Failing :=
  (v.staged.find? q).elim [] (fun e => [⟨3, e.key, e.scope⟩])

/-- Whether TDC_MEASURE work holds an AUX_IO pin (07 R193; 20 R491). -/
def State.pinMeasured (s : State) (p : Nat) : Bool := s.tm.meas.any (fun m => m.holds (3 + p))

/-- Whether an entry changes the function of a pin that TDC_MEASURE work holds (20 R491). -/
def State.movesHeldPin (s : State) (v : Proposal) (k : Nat) : Bool :=
  ([0, 1, 2, 3] : List Nat).any (fun p => s.pinMeasured p && bitAt (v.val k 0) p != bitAt (recordedVal v.before k 0) p)

/-- Checks of what work in progress holds (02 R49; 03 R85; 05 R135; 06 R169, R170; 17 R425; 20 R491). -/
def State.busyChecks (s : State) (v : Proposal) : List Failing :=
  v.firstStaged (fun e => e.key / 256 == 1 && s.calHeld (chanOfScope e.scope))
    ++ failIf (v.changed 0x0004 0 && s.working 0x0201) 3 0x0004 0
    ++ (if s.clockBusy then v.firstStaged (fun e => e.key / 256 == 4) else [])
    ++ (if s.entering then v.firstStaged (fun e => e.key / 256 == 15) else [])
    ++ pinKeys.flatMap (fun k => failIf (s.movesHeldPin v k) 3 k 0)

/-- Two function keys that select one pin: named is the one whose new value selects it, the higher when both are new (20 R491). -/
def Proposal.pairClash (v : Proposal) (a b : Nat) : List Failing :=
  if v.changed b 0 then [⟨6, b, 0⟩] else if v.changed a 0 then [⟨6, a, 0⟩] else []

/-- The clashes on a pin, pair by pair of the function keys that select it (20 R491). -/
def Proposal.pinClash (v : Proposal) (p : Nat) : List Failing :=
  let on := pinKeys.filter (fun k => bitAt (v.val k 0) p)
  on.flatMap (fun a => (on.filter (fun b => decide (a < b))).flatMap (v.pairClash a))

/-- Every joint check that fails. -/
def State.jointChecks (s : State) (v : Proposal) : List Failing :=
  v.present.flatMap (s.chanChecks v) ++ s.accumChecks v ++ s.rateChecks v ++ s.moduleChecks v ++ s.stateChecks v ++ s.busyChecks v
    ++ ([0, 1, 2, 3, 4] : List Nat).flatMap v.pinClash

/-- Order of failing checks (02 R58): status, then key, then scope. -/
def Failing.before (a b : Failing) : Bool :=
  decide (a.rank < b.rank) || (a.rank == b.rank && (decide (a.key < b.key) || (a.key == b.key && decide (a.scope ≤ b.scope))))

/-- The check that decides among those that fail. -/
def firstFailing : List Failing → Option Failing
  | [] => none
  | x :: xs =>
    match firstFailing xs with
    | none => some x
    | some y => if x.before y then some x else some y

/-- Whether a staged value lies outside its range (00 R9). -/
def outOfRange (e : SetEntry) : Bool := (keyRow e.key).all (fun r => !(r.rng.ok e.val.toNat))

/-- The status and key with which an APPLY of the stage would fail (02 R58). -/
def State.applyFails (s : State) : Option (Nat × Nat × Nat) :=
  if s.mr.stage.isEmpty then none
  else match s.mr.stage.find? outOfRange with
    | some e => some (eParam, e.key, e.scope)
    | none => (firstFailing (s.jointChecks s.proposal)).map (fun f => (rankStatus f.rank, f.key, f.scope))

/-! The rows. -/

/-- PUT_SETTINGS (02 R56). -/
def execPutSettings (t : Nat) (mb : Fin 17) (s : State) : Out := go (s.command t mb 0x0003 putLen putSettingsBody)

/-- GET_SETTINGS (02 R61). -/
def execGetSettings (t : Nat) (mb : Fin 17) (s : State) : Out := go (s.command t mb 0x0004 getLen getSettingsBody)

/-- DISCARD_STAGED (02 R60). -/
def execDiscardStaged (t : Nat) (mb : Fin 17) (s : State) : Out := go (s.command t mb 0x0006 (lenIs 0) discardBody)

end Sys2Proof.Machine
end

