-- ==== Sys2Proof/Machine/Apply.lean ====
section
/-!
DEFINITION. APPLY (02 R58): the commit of the stage, and what a changed key does to the running device (00 R8, R499).
-/

namespace Sys2Proof.Machine

/-- Do something when `b` holds. -/
def State.onlyIf (s : State) (b : Bool) (g : State → State) : State := if b then g s else s

/-- The timing trims of active slices ramp from the commit boundary to the targets of the mode in force (05 R114, R118, R123). -/
def State.retargetPhase (s : State) (k : Fin 4) (p : Fin 32) : State :=
  match s.tw[k].phases[p] with
  | none => s
  | some x => s.retime k x p s.clk

/-- All towers. -/
def State.retarget (s : State) : State :=
  ([0, 1, 2, 3] : List (Fin 4)).foldl (fun a k => (List.finRange 32).foldl (fun b p => b.retargetPhase k p) a) s

/-- Front end and calibration of one input (03 R78, R79; 05 R132). -/
def State.inputChanges (s : State) (v : Proposal) (i : Fin 4) : State :=
  let rng := v.changed 0x0100 (i.val + 1)
  let ofs := v.changed 0x0101 (i.val + 1)
  let user := v.changed 0x0310 (i.val + 1) || v.changed 0x0311 (i.val + 1)
  let s1 := (s.onlyIf (rng || ofs) (fun a => a.feQuiet i a.clk rng)).onlyIf (s.armedOn i && (rng || ofs)) (fun a => a.feSettle i a.clk rng)
  (s1.onlyIf rng (fun a => a.jumpRange i)).onlyIf user (fun a => a.rampUser i a.clk)

/-- A changed CK_REF_SELECT: a loss of the reference, then a fresh qualification, whose gate begins now; selection 3 frees the oven
(06 R151, R157). -/
def State.reselect (s : State) : State :=
  let s1 := (s.refLose s.ck.refState s.ck.refFreq s.ck.gateAt).modCk (fun k => { k with refSince := s.clk, gateAt := s.clk })
  if s1.mkey 0x0400 = 3 ∧ s1.isMember = false then s1.setDisc 0 else s1

/-- Clock and time (06 R151; 07 R181, R182; 08 R215). -/
def State.clockChanges (s : State) (v : Proposal) : State :=
  let c (k : Nat) : Bool := v.changed k 0
  let s1 := s.onlyIf (c 0x0400) State.reselect
  let s2 := s1.onlyIf (c 0x0500 || c 0x0502) (fun a => (a.ppsLose 0).modTm (fun m => { m with ppsCount := 0, ppsLast := none }))
  let s3 := s2.onlyIf (s2.mkey 0x0504 == 0) (fun a => a.modTm (fun m => { m with ppsOut := none }))
  let s4 := s3.onlyIf (c 0x0641) (fun a => a.modTm (fun m => { m with blank := m.blank.set 0 (a.clk + 30000) }))
  s4.onlyIf (c 0x0643) (fun a => a.modTm (fun m => { m with blank := m.blank.set 1 (a.clk + 30000) }))

/-- The manager's own entry shows its export (16 R402, R406). -/
def State.exportChanged (s : State) : State :=
  if s.ar.role = 1 then (s.modMember s.ar.addr (fun m => { m with export_ := s.mkey 0x0E05 != 0 })).recomputeW else s.sendStatus

/-- AR_STANDBY names another port (16 R394, R410): a member whose upstream came through the old one goes back to N_UP, or has none. -/
def State.standbyChanged (s : State) : State :=
  if s.isMember && s.ar.viaSb then
    let s1 := s.modAr (fun a => { a with viaSb := false })
    if s1.ar.ports[0] then ((s1.loseUp).unalign).sendJoin else s1.loseUpstream false none
  else s

/-- What the belfry takes over of the keys that the APPLY changes (00 R499; 17 R431, R437). -/
def State.belfryKeys (s : State) (v : Proposal) : State :=
  s.modPw (fun p => { p with
    wakeMask := if v.changed 0x0F00 0 then s.mkey 0x0F00 else p.wakeMask
    mainRet := if v.changed 0x0F02 0 then s.mkey 0x0F02 else p.mainRet
    wakePins := if v.changed 0x0050 0 then s.mkey 0x0050 else p.wakePins
    auxEdge := if v.changed 0x0031 0 then s.mkey 0x0031 else p.auxEdge })

/-- The function key that a pin carries under a list of recorded values. -/
def pinFunctionOf (l : List SetEntry) (p : Nat) : Option Nat := pinKeys.find? (fun k => bitAt (recordedVal l k 0) p)

/-- Everything that the changed keys of an APPLY do at its commit boundary, which is now. -/
def State.keyChanges (s : State) (v : Proposal) : State :=
  let s1 := s.onlyIf (v.changed 0x0004 0) (fun a => a.netSwitch.retarget)
  let s2 := ([0, 1, 2, 3] : List (Fin 4)).foldl (fun a i => a.inputChanges v i) s1
  let s3 := ((s2.clockChanges v).onlyIf (v.changed 0x0E05 0) State.exportChanged).onlyIf (v.changed 0x0E06 0) State.standbyChanged
  let s4 := (s3.belfryKeys v).cutPulses (fun p => pinFunctionOf v.before p != pinFunctionOf v.vals p)
  let s5 := s4.onlyIf (s4.mon.conv == .stopped) (fun a => a.monBoundary a.clk)
  (s5.onlyIf (s5.mkey 0x1101 == 0) (fun a => a.lockDebug 2)).syncDomains

/-- The commit of the stage at the present boundary (02 R58, R66). -/
def State.commitStage (s : State) : State :=
  let v := s.proposal
  let s1 := s.modMr (fun m => { m with
    recHist := (s.clk, m.recorded) :: m.recHist, recorded := v.vals, stage := [], gen := wrapAdd 32 m.gen 1, lastApply := s.ticks })
  (s1.logEv 0x0003 sevInfo 0 (leBytes 4 s1.mr.gen ++ leBytes 4 s.mr.stage.length)).keyChanges v

/-- The response of APPLY. -/
def applyReply (st : Nat) (key : Option Nat) (scope gen count ev : Nat) : Answer :=
  .reply ⟨st, leBytes 4 gen ++ leBytes 4 count, key, scope, ev⟩

/-- APPLY's own part: the commit falls on the first DSP-cycle boundary after the checks (00 R8, 01 R17). -/
def applyBody : Body := fun r s =>
  let mode := fieldAt r.payload 0 1
  let n := s.mr.stage.length
  if 1 < mode ∨ allZero (sliceAt r.payload 1 7) = false then fails eParam s
  else match s.applyFails with
    | some (st, k, sc) => if mode = 1 then (applyReply st (some k) sc s.mr.gen 0 0, s) else failsKey st k sc 0 s
    | none =>
      if mode = 1 ∨ n = 0 then (applyReply stOk none 0 s.mr.gen n 0, s)
      else
        let s1 := s.reach (s.boundaryFrom (s.clk + 1))
        (applyReply stOk none 0 (wrapAdd 32 s.mr.gen 1) n s1.nextSeq, s1.commitStage)

/-- APPLY (02 R58). -/
def execApply (t : Nat) (mb : Fin 17) (s : State) : Out := go (s.command t mb 0x0005 (lenIs 8) applyBody)

end Sys2Proof.Machine
end

