-- ==== Sys2Proof/Machine/General.lean ====
section
/-!
DEFINITION. The general commands (02 R63–R70): RESYNC and its summary, GET_INFO, ECHO, GET_EVENTS, and the rows of the event log.
-/

namespace Sys2Proof.Machine

/-! The event log (02 R63–R65). -/

/-- The 32 bytes of an event entry (02 R63). -/
def Event.bytes (e : Event) : List Byte :=
  leBytes 4 e.seq ++ leBytes 2 e.code ++ leBytes 1 e.sev ++ leBytes 1 e.scope ++ leBytes 8 e.ticks ++ leBytes 4 e.fracq ++ padTo 12 e.data

/-- How far a sequence number lies behind NEXT_SEQ, modulo 2^32. -/
def EvLog.age (l : EvLog) (seq : Nat) : Nat := (l.next + 2 ^ 32 - seq % 2 ^ 32) % 2 ^ 32

/-- OLDEST_SEQ of a ring, newest entry first: NEXT_SEQ when it holds none. -/
def EvLog.oldest (l : EvLog) (ring : List Event) : Nat := (ring.getLast?).elim l.next (·.seq)

/-- The newest entry programmed into flash, or the number before NEXT_SEQ (02 R70). -/
def EvLog.flashNewest (l : EvLog) : Nat := (l.flash.head?).elim ((l.next + 2 ^ 32 - 1) % 2 ^ 32) (·.seq)

/-- The entries that GET_EVENTS returns, ascending: not older than FROM_SEQ, of the least severity asked for. -/
def EvLog.pick (l : EvLog) (ring : List Event) (from_ max sev : Nat) : List Event :=
  ((ring.reverse).filter (fun e => decide (l.age e.seq ≤ l.age from_) && decide (sev ≤ e.sev))).take max

/-- The response of GET_EVENTS. -/
def EvLog.answer (l : EvLog) (ring : List Event) (from_ max sev : Nat) : List Byte :=
  let old := l.oldest ring
  let ahead := decide (2 ^ 31 < l.age from_)
  let lost := if ahead then 0 else l.age from_ - l.age old
  let es := if ahead then [] else l.pick ring from_ max sev
  leBytes 4 l.next ++ leBytes 4 old ++ leBytes 4 lost ++ leBytes 2 es.length ++ leBytes 1 (flag ahead) ++ List.replicate 17 0#8
    ++ es.flatMap Event.bytes

/-- GET_EVENTS' own part (02 R65). -/
def getEventsBody : Body := fun r s =>
  let p := r.payload
  let n := fieldAt p 4 2
  if n = 0 ∨ 63 < n ∨ 4 < fieldAt p 6 1 ∨ 1 < fieldAt p 7 1 then fails eParam s
  else answers (s.log.answer (if fieldAt p 7 1 = 0 then s.log.ram else s.log.flash) (fieldAt p 0 4) n (fieldAt p 6 1)) s

/-- The message at the end of a notification interval (02 R64). -/
def State.notifyEnd (s : State) : State :=
  if s.log.due && s.log.lastMsg.any (fun p => decide (p + 30000 ≤ s.clk)) then
    (s.msix (s.mkey 0x0021)).modLog (fun l => { l with lastMsg := some s.clk, due := false })
  else s

/-- Events due for the flash ring are copied into it (02 R64). -/
def State.copyFlash (s : State) : State := s.modLog (fun l => { l with flash := (l.uncopied ++ l.flash).take 65536, uncopied := [] })

/-! GET_INFO and ECHO (02 R67, R68). -/

/-- The 64 bytes of GET_INFO. -/
def State.info (s : State) : List Byte :=
  padTo 16 (asciiBytes "QS-SA384-2H") ++ padTo 16 Config.serial ++ leBytes 2 Config.hwRev ++ [0x00#8, 0x01#8]
    ++ leBytes 4 s.fw.versionNow ++ leBytes 1 s.fw.runningByte ++ leBytes 1 s.mode ++ leBytes 1 s.presentMask ++ [0#8]
    ++ leBytes 4 4096 ++ leBytes 4 1024 ++ leBytes 4 2048 ++ leBytes 4 16 ++ List.replicate 4 0#8

/-- GET_INFO's own part. -/
def infoBody : Body := fun _ s => answers s.info s

/-- ECHO's own part. -/
def echoBody : Body := fun r s => answers r.payload s

/-! RESYNC (02 R69, R70). -/

/-- A channel record. -/
def State.chanRecord (s : State) (c : Fin 4) : List Byte :=
  let h := s.ch[c]
  padTo 128 (leBytes 1 (if s.present c then (h.report s.clk).st.code else 7) ++ leBytes 1 (s.chanFlags c) ++ leBytes 1 (s.forceKey 0x0806 c)
    ++ leBytes 1 (s.forceKey 0x0A00 c) ++ leBytes 8 h.trigs ++ leBytes 4 h.segs ++ leBytes 4 (s.heldPages c) ++ leBytes 4 h.quota
    ++ leBytes 4 (s.pinnedPages c) ++ leBytes 4 0 ++ h.lastTrig.bytes ++ leBytes 4 0 ++ leBytes 8 h.armedAt)

/-- A tower's slice map. -/
def State.towerMap (s : State) (k : Fin 4) : List Byte := padTo 64 ((List.finRange 33).map (fun x => byteOf (s.sliceByte k x)))

/-- A mailbox record. -/
def Mailbox.record (b : Mailbox) : List Byte :=
  let done := b.state == .done
  leBytes 1 b.state.code ++ leBytes 1 (if done then b.rflags else 0) ++ leBytes 2 b.code ++ leBytes 2 b.tag
    ++ leBytes 2 (if done then b.status else 0) ++ leBytes 8 b.doorTicks

/-- A record of accepted work; `prog` is its progress, for which the spec gives no rule. -/
def State.workRecord (s : State) (w : Work) (prog : Nat) : List Byte :=
  [1#8] ++ leBytes 1 w.mb ++ leBytes 2 w.code ++ leBytes 2 w.tag ++ leBytes 1 prog ++ [0#8] ++ leBytes 8 (s.ticksAt w.since)

/-- The records of accepted work, each with a free value from 0 to 100 as its progress (log entry 7). -/
def State.workRecords (s : State) : List Byte :=
  (s.mr.work.zip (List.range s.mr.work.length)).flatMap (fun x => s.workRecord x.1 ((Config.freeBits (s.freeCtr + x.2)).toNat % 101))

/-- The trellis record. -/
def State.trellisPart (s : State) : List Byte :=
  leBytes 4 s.tr.total ++ leBytes 4 s.freePages ++ leBytes 4 ((allCh.map s.pinnedPages).sum) ++ leBytes 4 s.playPages
    ++ leBytes 8 s.tr.reclaimedPages ++ leBytes 8 s.tr.refused

/-- The memory record. -/
def State.memPart (s : State) : List Byte :=
  let a := s.activeSlots
  leBytes 1 a ++ leBytes 1 s.sparesShown ++ leBytes 2 0 ++ leBytes 4 s.retiredMask ++ leBytes 4 (harvestReserve a)
    ++ leBytes 1 (s.shownMig.elim 0xFF (fun g => g.from_.val)) ++ List.replicate 3 0#8 ++ leBytes 8 s.mem.poisoned
    ++ leBytes 8 ((s.mem.pcs.toList.map (·.corrected)).sum)

/-- The time record. -/
def State.timePart (s : State) : List Byte :=
  leBytes 1 s.refReport ++ leBytes 1 (if s.isMember then 0 else s.ck.refFreq) ++ leBytes 1 (s.mkey 0x0403) ++ [0#8]
    ++ leBytes 4 s.holdSeconds ++ leBytes 8 s.ck.lastStepT ++ leBytes 4 (encInt 32 s.slewLeft) ++ leBytes 4 0

/-- The array record. -/
def State.arrayPart (s : State) : List Byte :=
  leBytes 2 s.ar.addr ++ leBytes 2 s.presentMembers ++ leBytes 1 s.ar.hops ++ leBytes 1 (s.portBits % 8) ++ leBytes 2 0
    ++ leBytes 4 s.ar.rms ++ leBytes 4 s.ar.takeovers

/-- The firmware record. -/
def State.fwPart (s : State) : List Byte :=
  leBytes 4 s.fw.versionNow ++ leBytes 1 s.fw.runningByte ++ leBytes 1 (flag s.fw.unlocked) ++ leBytes 2 s.fw.fused

/-- The event-log head. -/
def State.logPart (s : State) : List Byte :=
  leBytes 4 s.log.next ++ leBytes 4 (s.log.oldest s.log.ram) ++ leBytes 4 (s.log.oldest s.log.flash) ++ leBytes 4 s.log.flashNewest
    ++ leBytes 4 s.log.errors ++ leBytes 4 s.log.criticals

/-- A pseudo-channel's record. -/
def State.pcPart (s : State) (p : Fin 32) : List Byte :=
  let x := s.mem.pcs[p]
  leBytes 1 (s.shownPc p).1.code ++ leBytes 1 (p.val / 16) ++ leBytes 2 0 ++ leBytes 4 x.corrected ++ leBytes 4 x.uncorr
    ++ leBytes 4 ((s.clk - x.trained) / 3000000000)

/-- A harvest queue's record. -/
def HQueue.record (h : HQueue) : List Byte :=
  leBytes 1 h.state ++ leBytes 1 h.weight ++ leBytes 2 0 ++ leBytes 4 ((h.tail + h.entries - h.head) % max 1 h.entries) ++ leBytes 8 h.done

/-- The monitor record. -/
def State.monPart (s : State) : List Byte :=
  leBytes 8 (bitList (s.mon.accs.map (·.alarm))) ++ leBytes 4 s.mon.dropped ++ leBytes 4 0

/-- A slice's trim record. -/
def State.trimRecord (s : State) (k : Fin 4) (x : Fin 33) : List Byte :=
  let v := s.slice k x
  leBytes 2 (encInt 16 v.ofs) ++ leBytes 2 (encInt 16 v.gain) ++ leBytes 2 (encInt 16 v.tim)
    ++ leBytes 1 (flag (s.sliceRamps k x) + 2 * flag (v.atLim != 0#3)) ++ [0#8]

/-- The parts of the summary with their offsets, ascending (02 R70). -/
def State.summaryParts (s : State) (snap : Nat) : List (Nat × List Byte) :=
  [(0x0000, leBytes 4 1 ++ leBytes 4 snap ++ leBytes 8 s.ticks ++ leBytes 4 s.now.fracq ++ leBytes 1 s.moduleState ++ leBytes 1 s.mode
      ++ leBytes 1 s.presentMask ++ leBytes 1 s.ar.role ++ leBytes 4 s.fw.bootCount),
   (0x0040, s.health.map byteOf),
   (0x0048, leBytes 4 s.degradeCause),
   (0x0080, ([0, 1, 2, 3] : List (Fin 4)).flatMap s.towerMap ++ allCh.flatMap s.chanRecord ++ s.appliedDigest ++ leBytes 4 s.mr.gen
      ++ leBytes 4 s.mr.stage.length ++ leBytes 8 s.mr.lastApply),
   (0x03C0, ((List.finRange 16).flatMap (fun m => (s.mbox (m.castLE (by decide))).record))),
   (0x04C0, s.workRecords),
   (0x05C0, s.trellisPart),
   (0x0600, s.memPart),
   (0x0800, s.timePart),
   (0x0840, s.arrayPart),
   (0x08C0, s.powerRecord),
   (0x0900, s.fw.meas.toList.flatMap (padTo 64) ++ s.fwPart),
   (0x0B40, s.logPart),
   (0x1000, (List.finRange 32).flatMap s.pcPart ++ s.hv.qs.toList.flatMap HQueue.record ++ s.monPart),
   (0x1800, ([0, 1, 2, 3] : List (Fin 4)).flatMap (fun k => (List.finRange 33).flatMap (s.trimRecord k)))]

/-- Parts laid out from position `pos`, zeros between them. -/
def layOut : Nat → List (Nat × List Byte) → List Byte
  | _, [] => []
  | pos, (o, bs) :: rest => List.replicate (o - pos) 0#8 ++ bs ++ layOut (max o pos + bs.length) rest

/-- The 8 KiB summary. -/
def State.summary (s : State) (snap : Nat) : List Byte := padTo 8192 (layOut 0 (s.summaryParts snap))

/-- Part `p` of a snapshot. -/
def Snapshot.part (x : Snapshot) (p : Nat) : List Byte := (x.bytes.drop (2048 * p)).take 2048

/-- The number of a new snapshot: never zero (02 R70). -/
def nextSnap (n : Nat) : Nat := n % (2 ^ 32 - 1) + 1

/-- Capture a snapshot for a mailbox, which is BUSY with the RESYNC that captures it (02 R36, R38). -/
def State.capture (s : State) (m : Fin 17) : Snapshot × State :=
  let n := nextSnap s.mr.snapNo
  let x : Snapshot := ⟨n, (s.modMb m (fun b => { b with state := .busy })).summary n⟩
  (x, ((s.modMb m (fun b => { b with snap := some x })).modMr (fun y => { y with snapNo := n })).modFreeCtr (· + s.mr.work.length))

/-- RESYNC's own part (02 R69). -/
def resyncBody : Body := fun r s =>
  let part := fieldAt r.payload 0 1
  let num := fieldAt r.payload 4 4
  if 3 < part ∨ fieldAt r.payload 1 3 ≠ 0 ∨ (part = 0 ∧ num ≠ 0) then fails eParam s
  else if part = 0 then
    let x := s.capture r.mb
    answers (x.1.part 0) x.2
  else match (s.mbox r.mb).snap with
    | none => fails eState s
    | some x => if x.num = num then answers (x.part part) s else fails eState s

/-! The rows. -/

/-- RESYNC (02 R69). -/
def execResync (t : Nat) (mb : Fin 17) (s : State) : Out := go (s.command t mb 0x0001 (lenIs 8) resyncBody)

/-- GET_INFO (02 R67). -/
def execGetInfo (t : Nat) (mb : Fin 17) (s : State) : Out := go (s.command t mb 0x0002 (lenIs 0) infoBody)

/-- GET_EVENTS (02 R65). -/
def execGetEvents (t : Nat) (mb : Fin 17) (s : State) : Out := go (s.command t mb 0x0007 (lenIs 8) getEventsBody)

/-- ECHO (02 R68). -/
def execEcho (t : Nat) (mb : Fin 17) (s : State) : Out := go (s.command t mb 0x0008 (fun _ => true) echoBody)

/-- EVENT_NOTIFY_INTERVAL (02 R64). -/
def execEventNotifyInterval (t : Nat) (s : State) : Out := go ((s.reach t).notifyEnd)

/-- FLASH_LOG_COPY (02 R64). -/
def execFlashLogCopy (t : Nat) (s : State) : Out := go ((s.reach t).copyFlash)

end Sys2Proof.Machine
end

