-- ==== Sys2Proof/Machine/Mailbox.lean ====
section
/-!
DEFINITION. BAR0 as the host reaches it (02 R34–R39; 14 R347–R356): the doorbells of the mailboxes, expiry and abort, register
writes, and reads with their shadows.
-/

namespace Sys2Proof.Machine

/-! Expiry and abort (02 R51, R52). -/

/-- Whether an answer to the command of mailbox `m` stands already: its commit point has passed. -/
def State.committedIn (s : State) (m : Fin 17) : Bool :=
  s.mr.exec.any (fun x => x.mb == m && (x.committed s.clk || s.mr.held.isSome))

/-- The command of mailbox `m` ends at its expiry tick, if that has come first (02 R51). While the core is halted, or no firmware
serves, expiry waits to be settled (19 R479). -/
def State.expireMb (s : State) (m : Fin 17) : State :=
  let r := (s.mbox m).req m
  match r.expiry with
  | none => s
  | some e =>
    if s.clk < e ∨ s.fw.halted = true ∨ s.fw.serving = false ∨ s.committedIn m = true then s
    else match (s.mbox m).state with
      | .posted => s.timeoutEnd r e
      | .busy => s.cancelExec.timeoutEnd r e
      | .free => s
      | .done => s
      | .offline => s

/-- A write of ABORT alone (02 R37, R52): expiry at this tick of a command that has not committed. -/
def State.abortMb (s : State) (m : Fin 17) : State :=
  let live := (s.mbox m).state == .posted || (s.mbox m).state == .busy
  if live && !(s.committedIn m) then
    (s.modMb m (fun b => { b with abort := some (b.abort.elim s.clk (min s.clk)) })).expireMb m
  else s

/-- Whether the mailbox takes a command: FREE or DONE (02 R36, R37). -/
def MbState.open_ : MbState → Bool
  | .free => true
  | .done => true
  | .posted => false
  | .busy => false
  | .offline => false

/-- A write of GO alone (02 R37, R38). -/
def State.goMb (s : State) (m : Fin 17) : State := if (s.mbox m).state.open_ then s.post m else s.overrun m

/-- A write of MB_DOORBELL (02 R35, R37). -/
def State.doorbellWrite (s : State) (m : Fin 17) (v : BitVec 32) : State :=
  if v.getLsbD 0 && v.getLsbD 1 then s.overrun m
  else if v.getLsbD 0 then s.goMb m
  else if v.getLsbD 1 then s.abortMb m
  else s

/-- A host access reaches a core whose domain may be stopped (17 R420): IDLE becomes RUN, in SLEEP the core clock starts. -/
def State.touchCore (s : State) : State := if s.pw.st = 1 then s.beginWake 1 else s.coreWake

/-- A mailbox of BAR0. -/
def hostMb (i : Nat) : Fin 17 := (Fin.ofNat 16 i).castLE (by decide)

/-- A host write of a mailbox's doorbell. -/
def State.hostDoorbell (s : State) (m : Fin 17) (v : BitVec 32) : State := if s.hl.up then s.touchCore.doorbellWrite m v else s

/-! Register writes (00 R6; 14 R347). -/

/-- A write of some bytes of one 32-bit register: its offset in BAR0, the bits written, their values. -/
structure Wr where
  addr : Nat
  mask : BitVec 32
  val  : BitVec 32
deriving DecidableEq, Repr

/-- The bits that a write of `size` bytes at `off` covers in the register at `a`. -/
def maskOf (off size a : Nat) : BitVec 32 :=
  BitVec.ofNat 32 (((List.range 4).map (fun i => if off ≤ a + i ∧ a + i < off + size then 255 * 256 ^ i else 0)).sum)

/-- What such a write of value `v` does at the register at `a`. -/
def wrOf (off size v a : Nat) : Wr :=
  let m := maskOf off size a
  ⟨a, m, BitVec.ofNat 32 (if off ≤ a then v / 256 ^ (a - off) else v * 256 ^ (off - a)) &&& m⟩

/-- A register after a write. -/
def Wr.merge (w : Wr) (old : Nat) : Nat := (((BitVec.ofNat 32 old) &&& ~~~w.mask) ||| w.val).toNat

/-- Whether bit `i` is written 1. -/
def Wr.sets (w : Wr) (i : Nat) : Bool := w.val.getLsbD i

/-- The bytes a write puts into a command area at offset `o`. -/
def Wr.into (w : Wr) (o : Nat) (m : Memory) : Memory :=
  (List.range 4).foldl (fun a i => if w.mask.getLsbD (8 * i) then memWrite a (o + i) (byteOf (w.val.toNat / 256 ^ i)) else a) m

/-- A write within mailbox `m` at offset `o` (02 R34, R35, R37). -/
def State.mailboxWrite (s : State) (m : Fin 17) (o : Nat) (w : Wr) : State :=
  if o < 0x420 then
    if (s.mbox m).state.open_ then s.modMb m (fun b => { b with cmd := w.into o b.cmd }) else s.overrun m
  else if o = 0xFF0 then s.doorbellWrite m w.val
  else if o = 0xFF4 then s.modMb m (fun b => { b with overrun := b.overrun.wipe (w.sets 8) s.clk })
  else if o = 0xFF8 then s.modMb m (fun b => { b with vector := w.merge b.vector % 64 })
  else s

/-- A write within the block of queue `q` at offset `o` (14 R355, R356). -/
def State.queueWrite (s : State) (q : Fin 64) (o : Nat) (w : Wr) : State :=
  let h := s.hv.qs[q]
  if o = 0 then s.tailWrite q (w.merge h.tail)
  else if o = 8 then s.cheadWrite q (w.merge h.chead)
  else if o = 0x20 ∧ h.live = true then s.modQ q (fun x => { x with dbErr := x.dbErr.wipe (w.sets 2) s.clk })
  else s

/-- Change an MSI-X entry. -/
def State.modMsix (s : State) (v : Fin 64) (g : MsixEntry → MsixEntry) : State :=
  s.modHl (fun h => { h with msix := h.msix.set v.val (g h.msix[v]) })

/-- A write within the MSI-X table at part `p` of entry `v` (14 R353). -/
def State.msixWrite (s : State) (v : Fin 64) (p : Nat) (w : Wr) : State :=
  let e := s.hl.msix[v]
  match p with
  | 0 => s.modMsix v (fun x => { x with addr := e.addr / 2 ^ 32 * 2 ^ 32 + w.merge (e.addr % 2 ^ 32) })
  | 1 => s.modMsix v (fun x => { x with addr := w.merge (e.addr / 2 ^ 32) * 2 ^ 32 + e.addr % 2 ^ 32 })
  | 2 => s.modMsix v (fun x => { x with data := w.merge e.data })
  | _ => if bitAt (w.merge (flag e.masked)) 0 then s.modMsix v (fun x => { x with masked := true }) else s.unmask v

/-- The channel of a fast-window block of 0x20 bytes from `base`. -/
def blockChan (base a : Nat) : Fin 4 := Fin.ofNat 4 ((a - base) / 0x20)

/-- Clear the trellis flags of a channel that are written 1 (12 R312). -/
def State.clearTr (s : State) (c : Fin 4) (w : Wr) : State :=
  s.modCh c (fun h => { h with
    fRate := h.fRate.wipe (w.sets 6) s.clk, fTrunc := h.fTrunc.wipe (w.sets 5) s.clk, fReclaim := h.fReclaim.wipe (w.sets 4) s.clk })

/-- Clear the flags of the fast window that are written 1 (08 R224; 10 R269; 11 R286; 12 R312; 14 R350; 15 R385). -/
def State.flagWrite (s : State) (w : Wr) : State :=
  let a := w.addr
  if a = 0x8 then s.modHl (fun h => { h with linkReset := h.linkReset.wipe (w.sets 16) s.clk })
  else if 0x500 ≤ a ∧ a < 0x520 then
    (if a % 0x10 = 0 then s.modOut (Fin.ofNat 2 ((a - 0x500) / 0x10)) (fun x => { x with underrun := x.underrun.wipe (w.sets 7) s.clk })
      else s)
  else if a % 0x20 ≠ 0x1C then s
  else if 0x200 ≤ a ∧ a < 0x280 then
    s.modCh (blockChan 0x200 a) (fun h => { h with det := { h.det with lost := h.det.lost.wipe (w.sets 5) s.clk } })
  else if 0x300 ≤ a ∧ a < 0x380 then
    s.modCh (blockChan 0x300 a) (fun h => { h with dec := { h.dec with satFlag := h.dec.satFlag.wipe (w.sets 6) s.clk } })
  else if 0x380 ≤ a ∧ a < 0x400 then
    s.modCh (blockChan 0x380 a) (fun h => { h with acc := { h.acc with
      lost := h.acc.lost.wipe (w.sets 5) s.clk, cut := h.acc.cut.wipe (w.sets 4) s.clk } })
  else if 0x400 ≤ a ∧ a < 0x480 then s.clearTr (blockChan 0x400 a) w
  else s

/-- A write to one 32-bit register of BAR0 (14 R347). -/
def State.writeWord (s : State) (w : Wr) : State :=
  let a := w.addr
  if a < 0x10000 then s.flagWrite w
  else if 0x100000 ≤ a ∧ a < 0x110000 then s.touchCore.mailboxWrite (hostMb ((a - 0x100000) / 0x1000)) (a % 0x1000) w
  else if 0x200000 ≤ a ∧ a < 0x201000 then s.queueWrite (Fin.ofNat 64 ((a - 0x200000) / 0x40)) (a % 0x40) w
  else if 0x300000 ≤ a ∧ a < 0x300400 then s.msixWrite (Fin.ofNat 64 ((a - 0x300000) / 16)) (a % 16 / 4) w
  else s

/-- Whether a BAR0 access is served: 1 to 8 bytes within one aligned unit of 8 (14 R347). -/
def accessOk (off size : Nat) : Bool := decide (1 ≤ size ∧ off % 8 + size ≤ 8 ∧ off + size ≤ 0x400000)

/-- The registers that an access covers, ascending. -/
def barWords (off size : Nat) : List Nat :=
  if (off + size - 1) / 4 = off / 4 then [off / 4 * 4] else [off / 4 * 4, off / 4 * 4 + 4]

/-- A host write of BAR0. -/
def State.barWrite (s : State) (off size v : Nat) : State :=
  if s.hl.up && accessOk off size then (barWords off size).foldl (fun a x => a.writeWord (wrOf off size v x)) s else s

/-! Register reads (00 R6; 14 R347–R356). -/

/-- The key of a channel's unit in force: what it took at its start while it runs, else what its channel's ARM took, or, where the channel
does not run, the recorded value (00 R8; 09 R229). -/
def unitKey (running : Bool) (taken recorded : Nat) : Nat := if running then taken else recorded

/-- TD_STATUS (08 R224). -/
def State.tdStatus (s : State) (c : Fin 4) : Nat :=
  let d := s.ch[c].det
  bitList [d.aR, d.aF, d.above, d.cand0.isSome || d.cand1.isSome, d.running, d.lost.isSome]
    + 65536 * d.ty

/-- DC_STATUS (10 R269). -/
def State.dcStatus (s : State) (c : Fin 4) : Nat :=
  let d := s.ch[c].dec
  bitList [(d.primed 0).1, (d.primed 0).2, (d.primed 1).1, (d.primed 1).2, false, d.running, d.satFlag.isSome, d.resetAt.isSome] + 65536 * min 255 (s.settleLeft c)
    + 16777216 * unitKey d.running (s.decKey 0x0800 c) (s.forceKey 0x0800 c)

/-- AC_STATUS (11 R286). -/
def State.acStatus (s : State) (c : Fin 4) : Nat :=
  let a := s.ch[c].acc
  let begun := decide (a.drainAt ≤ s.clk)
  bitList [a.runOpen, a.busyFrom.isSome, a.folding && begun, a.pass && begun, a.cut.isSome, a.lost.isSome] + 16777216 * s.forceKey 0x0900 c

/-- TM_STATUS (07 R196). MISSED_SUM adds the channels' counts as they stand, before each is saturated at 255 for its own report
(DESIGN CHOICE, log entry 59). -/
def State.tmStatus (s : State) : Nat :=
  s.ck.disc % 8 + 8 * s.ck.synth + 32 * s.refReport + 128 * flag s.tm.ppsQual + 256 * flag s.tm.allCal
    + 512 * flag s.tm.epoch.isSome + 65536 * min 65535 s.tm.missed.toList.sum

/-- PB_STATUS (15 R385). -/
def State.pbStatus (s : State) (o : Fin 2) : Nat :=
  let x := s.out[o]
  (if x.st = 0 ∧ x.loading.isSome = true then 4 else x.st) + 16 * flag x.streamed + 32 * s.mkey (0x0D00 + 8 * o.val) + 128 * flag x.underrun.isSome

/-- PB_PLAYS (15 R384). -/
def State.pbPlays (s : State) (o : Fin 2) : Nat :=
  let x := s.out[o]
  min (2 ^ 32 - 1) (if x.st = 3 then x.playsAt s.clk else x.plays)

/-- The four least significant bytes at offset `o` of a list of bytes. -/
def wordIn (bs : List Byte) (o : Nat) : Nat := fieldAt bs o 4

/-- A saturating 32-bit reading. -/
def sat32 (n : Nat) : Nat := min (2 ^ 32 - 1) n

/-- The identity and status block (14 R349). -/
def State.idReg (s : State) (a : Nat) : Nat :=
  match a with
  | 0x00 => 0x53840100
  | 0x04 => s.fw.versionNow
  | 0x08 => s.hlStatus
  | 0x0C => s.hl.rate + 16 * s.hl.lanes
  | 0x10 => s.fw.bootCount
  | 0x14 => s.hl.downs
  | 0x18 => s.log.next
  | 0x1C => wrapAdd 32 s.log.errors s.log.criticals
  | n => if n < 0x30 then wordIn Config.serial (n - 0x20) else 0

/-- Decimation, accumulation and trellis registers of a channel at offset `o` of its block (10 R268; 11 R285; 12 R311). -/
def State.decReg (s : State) (c : Fin 4) (o : Nat) : Nat :=
  match o with
  | 0x18 => sat32 s.ch[c].dec.sat
  | 0x1C => s.dcStatus c
  | _ => 0

/-- Accumulation registers. -/
def State.acReg (s : State) (c : Fin 4) (o : Nat) : Nat :=
  let a := s.ch[c].acc
  match o with
  | 0x08 => a.results % 2 ^ 32
  | 0x0C => sat32 a.discard
  | 0x10 => sat32 a.busyRef
  | 0x14 => sat32 a.clipped
  | 0x18 => if a.runOpen then a.folds else 0
  | 0x1C => s.acStatus c
  | _ => 0

/-- Trellis registers. -/
def State.trReg (s : State) (c : Fin 4) (o : Nat) : Nat :=
  let h := s.ch[c]
  match o with
  | 0x00 => sat32 h.segs
  | 0x04 => s.heldPages c
  | 0x08 => s.pinnedPages c
  | 0x0C => h.quota
  | 0x10 => sat32 h.refAlloc
  | 0x14 => sat32 h.reclaimed
  | 0x18 => sat32 h.rateRef
  | 0x1C => s.trStatus c
  | _ => 0

/-- Playback registers. -/
def State.pbReg (s : State) (o : Fin 2) (a : Nat) : Nat :=
  match a with
  | 0x0 => s.pbStatus o
  | 0x4 => s.pbPlays o
  | 0x8 => sat32 s.out[o].underruns
  | _ => 0

/-- A register of the fast window outside the groups (07 R195; 08 R223; 12 R311; 15 R384). -/
def State.fastReg (s : State) (a : Nat) : Nat :=
  if a < 0x100 then s.idReg a
  else if a = 0x11C then s.tmStatus
  else if 0x200 ≤ a ∧ a < 0x280 then (if a % 0x20 = 0x1C then s.tdStatus (blockChan 0x200 a) else 0)
  else if a = 0x280 then s.tm.extCount[0]
  else if a = 0x284 then s.tm.extCount[1]
  else if a = 0x288 then s.tm.niredLate
  else if 0x300 ≤ a ∧ a < 0x380 then s.decReg (blockChan 0x300 a) (a % 0x20)
  else if 0x380 ≤ a ∧ a < 0x400 then s.acReg (blockChan 0x380 a) (a % 0x20)
  else if 0x400 ≤ a ∧ a < 0x480 then s.trReg (blockChan 0x400 a) (a % 0x20)
  else if a = 0x480 then s.tr.total
  else if a = 0x484 then s.freePages
  else if a = 0x488 then s.tr.descQ.length
  else if 0x500 ≤ a ∧ a < 0x520 then s.pbReg (Fin.ofNat 2 ((a - 0x500) / 0x10)) (a % 0x10)
  else 0

/-- A word of mailbox `m` at offset `o` (02 R34, R35). -/
def State.mailboxWord (s : State) (m : Fin 17) (o : Nat) : Nat :=
  let b := s.mbox m
  if o < 0x420 then ofLe (memReadBytes b.cmd o 4)
  else if o < 0xC40 then wordIn b.rsp (o - 0x420)
  else if o = 0xFF4 then 65536 * b.tag + 256 * flag b.overrun.isSome + b.state.code
  else if o = 0xFF8 then b.vector
  else 0

/-- A register of a queue's block outside the groups; 0 for a queue that does not exist (14 R355). -/
def HQueue.reg (h : HQueue) (o : Nat) : Nat :=
  if !h.live then 0
  else match o with
    | 0x00 => h.tail
    | 0x04 => h.head
    | 0x08 => h.chead
    | 0x0C => h.ctail
    | 0x20 => h.status
    | _ => 0

/-- A word of the MSI-X table (14 R353). -/
def MsixEntry.word (e : MsixEntry) (p : Nat) : Nat :=
  match p with
  | 0 => e.addr % 2 ^ 32
  | 1 => e.addr / 2 ^ 32
  | 2 => e.data
  | _ => flag e.masked

/-- A register of BAR0 outside the groups. -/
def State.plainReg (s : State) (a : Nat) : Nat :=
  if a < 0x10000 then s.fastReg a
  else if 0x100000 ≤ a ∧ a < 0x110000 then s.mailboxWord (hostMb ((a - 0x100000) / 0x1000)) (a % 0x1000)
  else if 0x200000 ≤ a ∧ a < 0x201000 then (s.hv.qs[Fin.ofNat 64 ((a - 0x200000) / 0x40)]).reg (a % 0x40)
  else if 0x300000 ≤ a ∧ a < 0x300400 then (s.hl.msix[Fin.ofNat 64 ((a - 0x300000) / 16)]).word (a % 16 / 4)
  else if a = 0x300800 then s.hl.pba.toNat % 2 ^ 32
  else if a = 0x300804 then s.hl.pba.toNat / 2 ^ 32
  else 0

/-- The bytes of a stamp as one number of 96 bits: TICKS, then FRACQ. -/
def Stamp.wide (x : Stamp) : Nat := x.ticks + 2 ^ 64 * x.fracq

/-- The live queues, one bit each. -/
def State.queueBits (s : State) : Nat := bitList (s.hv.qs.toList.map (·.live))

/-- The whole value of the register group whose RS register stands at `a` (07 R195; 08 R223; 10 R268; 11 R285; 14 R355). -/
def State.groupValue (s : State) (a : Nat) : Option Nat :=
  if a = 0x100 then some s.now.wide
  else if a = 0x110 then some s.ppsStamp.wide
  else if 0x200 ≤ a ∧ a < 0x280 then
    let d := s.ch[blockChan 0x200 a].det
    match a % 0x20 with
    | 0x00 => some d.count
    | 0x08 => some d.coal
    | 0x10 => some d.last.wide
    | _ => none
  else if 0x300 ≤ a ∧ a < 0x380 then
    let c := blockChan 0x300 a
    match a % 0x20 with
    | 0x00 => some s.ch[c].dec.flt[0]
    | 0x08 => some s.ch[c].dec.flt[1]
    | 0x10 => some (s.dcOut c)
    | _ => none
  else if 0x380 ≤ a ∧ a < 0x400 ∧ a % 0x20 = 0 then
    let x := s.ch[blockChan 0x380 a].acc
    some (if x.runOpen then x.records else 0)
  else if 0x200000 ≤ a ∧ a < 0x201000 then
    let h := s.hv.qs[Fin.ofNat 64 ((a - 0x200000) / 0x40)]
    if !h.live then none
    else match a % 0x40 with
      | 0x10 => some h.done
      | 0x18 => some h.bytes
      | _ => none
  else if a = 0x201000 then some s.queueBits
  else if a = 0x201008 then some s.hv.bytes
  else none

/-- Whether the group at `a` has three registers. -/
def wideGroup (a : Nat) : Bool := a == 0x100 || a == 0x110 || (decide (0x200 ≤ a ∧ a < 0x280) && a % 0x20 == 0x10)

/-- The group and place of a register read from the shadow. -/
def State.shadowOf (s : State) (a : Nat) : Option (Nat × Nat) :=
  if 4 ≤ a ∧ (s.groupValue (a - 4)).isSome = true then some (a - 4, 1)
  else if 8 ≤ a ∧ wideGroup (a - 8) = true then some (a - 8, 2)
  else none

/-- The shadow of a group: zero until its RS register is read (14 R351). -/
def State.shadow (s : State) (a : Nat) : Nat := (s.hl.shadows.find? (fun e => e.1 == a)).elim 0 (·.2)

/-- Fill the shadow of a group. -/
def State.setShadow (s : State) (a v : Nat) : State :=
  s.modHl (fun h => { h with shadows := (a, v) :: h.shadows.filter (fun e => e.1 != a) })

/-- Whether a register belongs to the mailboxes, which the core serves. -/
def mailboxAddr (a : Nat) : Bool := decide (0x100000 ≤ a ∧ a < 0x110000)

/-- A read of one 32-bit register (14 R351). -/
def State.regRead (s : State) (a : Nat) : Nat × State :=
  match s.groupValue a with
  | some v => (v % 2 ^ 32, s.setShadow a v)
  | none =>
    match s.shadowOf a with
    | some (g, k) => (s.shadow g / 2 ^ (32 * k) % 2 ^ 32, s)
    | none => if mailboxAddr a then (s.plainReg a, s.touchCore) else (s.plainReg a, s)

/-- A host read of BAR0: the value it returns, and the state after it. -/
def State.barRead (s : State) (off size : Nat) : Nat × State :=
  if s.hl.up && accessOk off size then
    let r := (barWords off size).foldl (fun (x : Nat × State) a =>
      let y := x.2.regRead a
      (x.1 + y.1 * 2 ^ (8 * (a - off / 4 * 4)), y.2)) (0, s)
    (r.1 / 256 ^ (off % 4) % 256 ^ size, r.2)
  else (0, s)

/-! The rows. -/

/-- MB_GO (02 R38): a write of the doorbell. -/
def execMbGo (t : Nat) (mb : Fin 16) (v : BitVec 32) (s : State) : Out := go ((s.reach t).hostDoorbell (mb.castLE (by decide)) v)

/-- MB_ABORT (02 R52): a write of the doorbell. -/
def execMbAbort (t : Nat) (mb : Fin 16) (v : BitVec 32) (s : State) : Out := go ((s.reach t).hostDoorbell (mb.castLE (by decide)) v)

/-- COMMAND_EXPIRY (02 R51). -/
def execCommandExpiry (t : Nat) (mb : Fin 17) (s : State) : Out := go ((s.reach t).expireMb mb)

/-- A command whose CODE is not defined is taken and fails (02 R43, R46). -/
def State.takeUndefined (s : State) (t : Nat) (mb : Fin 17) : State :=
  let code := (s.mbox mb).code
  if (cmdSel code).isNone then s.command t mb code (fun _ => true) (fun _ x => fails eUnknown x) else s.reach t

/-- UNDEFINED_COMMAND (02 R43). -/
def execUndefinedCommand (t : Nat) (mb : Fin 17) (s : State) : Out := go (s.takeUndefined t mb)

/-- REGISTER_WRITE (00 R6; 14 R347). -/
def execRegisterWrite (t off size : Nat) (v : BitVec 64) (s : State) : Out := go ((s.reach t).barWrite off size v.toNat)

/-- RS_READ (14 R351): the value returned stands in `readData`. -/
def execRsRead (t off size : Nat) (s : State) : Out :=
  let r := (s.reach t).barRead off size
  go (r.2.setReadData (BitVec.ofNat 64 r.1))

end Sys2Proof.Machine
end

