-- ==== Sys2Proof/Machine/Debug.lean ====
section
/-!
DEFINITION. The debug port: DBG_CTRL, DBG_DATA and breakpoints (19 R477–R480).
-/

namespace Sys2Proof.Machine

/-! The test access port (19 R477, R478). -/

/-- The data registers of the port. -/
inductive DbgReg where
  | idcode | status | ctrl | addr | data | bp | bypass
deriving DecidableEq, Repr

/-- The register that an opcode selects; a locked port gives IDCODE and DBG_STATUS only. -/
def dbgSelect (unlocked : Bool) (opcode : BitVec 8) : DbgReg :=
  match opcode.toNat with
  | 0x01 => .idcode
  | 0x10 => .status
  | 0x20 => if unlocked then .ctrl else .bypass
  | 0x21 => if unlocked then .addr else .bypass
  | 0x22 => if unlocked then .data else .bypass
  | 0x23 => if unlocked then .bp else .bypass
  | _ => .bypass

/-- The length of a register in bits. -/
def DbgReg.bits : DbgReg → Nat
  | .bypass => 1
  | .bp => 40
  | .idcode => 32
  | .status => 32
  | .ctrl => 32
  | .addr => 32
  | .data => 32

/-- What the instruction register captures. -/
def dbgIrCapture : BitVec 8 := 1#8

/-- IDCODE, with HW_REV [3:0] in [31:28]. -/
def dbgIdcode : BitVec 32 := BitVec.ofNat 32 (0x0538476B + 2 ^ 28 * (Config.hwRev % 16))

/-- DBG_STATUS as it stands. -/
def State.dbgStatus (s : State) : BitVec 32 :=
  BitVec.ofNat 32 (flag s.fw.unlocked + 2 * flag s.fw.halted + 4 * (s.fw.hcause % 8) + 256 * (s.fw.bpHit % 8) + 2048 * flag s.fw.accErr)

/-! Control (19 R478, R479). -/

/-- The core halts, with its cause. -/
def State.haltFor (s : State) (cause : Nat) : State := s.modFw (fun f => { f with halted := true, haltReq := false, hcause := cause })

/-- HALT: the core halts at the next instruction boundary; during a live restart, at the new firmware's first instruction. -/
def State.dbgHaltOp (s : State) : State :=
  if s.fw.halted then s
  else if s.fw.serving then s.haltFor 1
  else if s.fw.restart.isSome then s.modFw (fun f => { f with haltReq := true })
  else s

/-- STEP: when halted, one instruction and a halt; while the core runs, nothing. -/
def State.dbgStepOp (s : State) : State := if s.fw.halted then s.haltFor 2 else s

/-- A write of DBG_CTRL (19 R477, R478): a locked port selects BYPASS. -/
def State.dbgCtrl (s : State) (v : BitVec 32) : State :=
  if !s.fw.unlocked then s
  else
    let s1 := if v.getLsbD 3 then s.modFw (fun f => { f with accErr := false }) else s
    let halts := v.getLsbD 0 && !v.getLsbD 1
    let resumes := v.getLsbD 1 && !v.getLsbD 0
    let s2 := if resumes then s1.resumeCore else s1
    let s3 := if v.getLsbD 2 then s2.dbgStepOp else s2
    if halts then s3.dbgHaltOp else s3

/-- A row for a DBG_CTRL write that sets bit `i`. -/
def State.dbgCtrlBit (s : State) (i : Nat) (v : BitVec 32) : State := if v.getLsbD i then s.dbgCtrl v else s

/-! The debug memory map (19 R480). -/

/-- A range of the map, with the offset of an address in it. -/
inductive DbgRange where
  | rom (o : Nat)
  | sram (o : Nat)
  | mbox (o : Nat)
  | fast (o : Nat)
  | flash (o : Nat)
  | ret (o : Nat)
  | none
deriving DecidableEq, Repr

/-- The range that a word address lies in. -/
def dbgRange (a : Nat) : DbgRange :=
  if a < 0x40000 then .rom a
  else if 0x10000000 ≤ a ∧ a < 0x10200000 then .sram (a - 0x10000000)
  else if 0x20000000 ≤ a ∧ a < 0x20010000 then .mbox (a - 0x20000000)
  else if 0x30000000 ≤ a ∧ a < 0x30010000 then .fast (a - 0x30000000)
  else if 0x50000000 ≤ a ∧ a < 0x54000000 then .flash (a - 0x50000000)
  else if 0x60000000 ≤ a ∧ a < 0x60400000 then .ret (a - 0x60000000)
  else .none

/-- Whether writes reach a range. -/
def DbgRange.writable : DbgRange → Bool
  | .sram _ => true
  | .mbox _ => true
  | .ret _ => true
  | .rom _ => false
  | .fast _ => false
  | .flash _ => false
  | .none => false

/-- Whether an offset of the internal flash lies in a reserved region, which reads as erased (19 R458). -/
def flashReserved (o : Nat) : Bool := decide ((0x3004000 ≤ o ∧ o < 0x3100000) ∨ 0x3310000 ≤ o)

/-- The byte of a firmware slot that holds an image, none of it where the image is empty (19 R459): header and body, the
signature at 0xFF_F000, and erased flash. -/
def slotByte (img : List Byte) (o : Nat) : Byte :=
  if img.isEmpty then 0xFF#8
  else if o < 256 + bodyLenOf img then (imageMsg img).getD o 0#8
  else if 0xFFF000 ≤ o ∧ o < 0xFFF000 + sigLen then (imageSig img).getD (o - 0xFFF000) 0#8
  else 0xFF#8

/-- The word of a firmware slot; none where the model does not hold what it contains, or it is being programmed (19 R466). -/
def State.slotWord (s : State) (n o : Nat) : Option Nat :=
  if s.fw.staging.isSome ∧ n = s.fw.other then none
  else (s.fw.slot n).image.map (fun img => ofLe ((List.range 4).map (fun i => slotByte img (o + i))))

/-- The word of a calibration bank (05 R138); none for one without a record, and outside what R138 lays out. -/
def Bank.word (b : Bank) (o : Nat) : Option Nat :=
  match b.commit with
  | none => none
  | some r =>
    if o < 0x114000 then some (ofLe (sliceAt (bankImage b.format b.serial b.data) o 4))
    else if o < 0x7FE000 then some 0xFFFFFFFF
    else if o < 0x7FE020 then some (ofLe (sliceAt b.digest (o - 0x7FE000) 4))
    else if 0x7FF000 ≤ o ∧ o < 0x7FF040 then some (ofLe (sliceAt r.bytes (o - 0x7FF000) 4))
    else none

/-- The 64 bytes of a boot record (19 R461). -/
def bootRecord (seq slot : Nat) : List Byte :=
  let b := asciiBytes "QBOT" ++ leBytes 4 seq ++ leBytes 1 slot ++ List.replicate 23 0#8
  b ++ shake256 b 32

/-- The SEQ and SLOT that a copy of the boot record holds; none where it is not valid (19 R461). -/
def Firm.bootCopy (f : Firm) (c : Nat) : Option (Nat × Nat) := if c = f.bootAt then some (f.bootSeq, f.pref) else f.bootOld

/-- The word at an offset in a copy of the boot record; none where the spec does not fix it (19 R461). -/
def Firm.bootWord (f : Firm) (c o : Nat) : Option Nat :=
  if o < 64 then (f.bootCopy c).map (fun r => ofLe (sliceAt (bootRecord r.1 r.2) o 4)) else none

/-- The word of the internal flash at an offset, where the spec fixes it (19 R458). -/
def State.flashWord (s : State) (o : Nat) : Option Nat :=
  if flashReserved o then some 0xFFFFFFFF
  else if 0x3002000 ≤ o ∧ o < 0x3004000 then s.fw.bootWord ((o - 0x3002000) / 0x1000) (o % 0x1000)
  else if o < 0x2000000 then s.slotWord (o / 0x1000000) (o % 0x1000000)
  else if o < 0x3000000 then (s.cal.bank (if o < 0x2800000 then 0 else 1)).word (o % 0x800000)
  else none

/-- The word that a read returns, and the state after it. What the spec does not fix in flash is a free value. -/
def State.dbgRead (s : State) (a : Nat) : Nat × State :=
  match dbgRange a with
  | .rom o => ((Config.romWord o).toNat, s)
  | .sram o => (ofLe (memReadBytes s.fw.sram o 4), s)
  | .mbox o => (s.mailboxWord (hostMb (o / 0x1000)) (o % 0x1000), s)
  | .fast o => s.regRead o
  | .flash o => (s.flashWord o).elim (s.free.1.toNat % 2 ^ 32, s.free.2) (fun w => (w, s))
  | .ret o => (ofLe (memReadBytes s.fw.retMem o 4), s)
  | .none => (0, s)

/-- A write of a word that the map admits. -/
def State.dbgWrite (s : State) (a v : Nat) : State :=
  match dbgRange a with
  | .sram o => s.modFw (fun f => { f with sram := memWriteBytes f.sram o (leBytes 4 v) })
  | .mbox o => s.mailboxWrite (hostMb (o / 0x1000)) (o % 0x1000) (wrOf o 4 v o)
  | .ret o => s.modFw (fun f => { f with retMem := memWriteBytes f.retMem o (leBytes 4 v) })
  | .rom _ => s
  | .fast _ => s
  | .flash _ => s
  | .none => s

/-- Set ACC_ERR: the access is refused and reads zero. -/
def State.accFail (s : State) : State := s.modFw (fun f => { f with accErr := true, dbgData := 0#32 })

/-- An access at a word address: captures the word, then writes (19 R477, R480). -/
def State.dbgAccess (s : State) (a : Nat) (wr : Option (BitVec 32)) : State :=
  if dbgRange a = .none ∨ (wr.isSome = true ∧ (dbgRange a).writable = false) then s.accFail
  else
    let r := s.dbgRead a
    let s1 := r.2.modFw (fun f => { f with dbgData := BitVec.ofNat 32 r.1 })
    wr.elim s1 (fun v => s1.dbgWrite a v.toNat)

/-- A DBG_DATA scan, after a scan of DBG_ADDR where one is given; DBG_ADDR then advances by 4. A locked port selects BYPASS. -/
def State.dbgData (s : State) (setAddr : Option (BitVec 32)) (wr : Option (BitVec 32)) : State :=
  if !s.fw.unlocked then s
  else
    let a := setAddr.getD s.fw.dbgAddr
    (s.dbgAccess (a.toNat / 4 * 4) wr).modFw (fun f => { f with dbgAddr := a + 4 })

/-! Breakpoints (19 R477, R478). -/

/-- A scan of DBG_BP: index [39:37], kind [36:35], address [31:2]. -/
def State.scanBp (s : State) (v : BitVec 40) : State :=
  s.modFw (fun f => { f with
    bps := f.bps.set (Fin.ofNat 8 (v.toNat / 2 ^ 37)).val (v.toNat / 2 ^ 35 % 4, BitVec.ofNat 32 (v.toNat % 2 ^ 32 / 4 * 4)) })

/-- The core meets breakpoint `i`: it halts when that breakpoint is on and the core runs. -/
def State.meetBp (s : State) (i : Fin 8) : State :=
  if s.fw.bps[i].1 ≠ 0 ∧ s.fw.serving = true ∧ s.fw.halted = false then (s.haltFor 3).modFw (fun f => { f with bpHit := i.val })
  else s

/-- A scan of DBG_BP where one is given, then the meeting; a locked port selects BYPASS, and its core meets none. -/
def State.bpHit (s : State) (scan : Option (BitVec 40)) (i : Fin 8) : State :=
  if !s.fw.unlocked then s else (scan.elim s s.scanBp).meetBp i

/-! The rows. -/

/-- DBG_HALT (19 R478, R479). -/
def execDbgHalt (t : Nat) (v : BitVec 32) (s : State) : Out := go ((s.reach t).dbgCtrlBit 0 v)

/-- DBG_RESUME (19 R478, R479). -/
def execDbgResume (t : Nat) (v : BitVec 32) (s : State) : Out := go ((s.reach t).dbgCtrlBit 1 v)

/-- DBG_STEP (19 R478). -/
def execDbgStep (t : Nat) (v : BitVec 32) (s : State) : Out := go ((s.reach t).dbgCtrlBit 2 v)

/-- DBG_CLR_ERR (19 R478). -/
def execDbgClrErr (t : Nat) (v : BitVec 32) (s : State) : Out := go ((s.reach t).dbgCtrlBit 3 v)

/-- DBG_DATA_ACCESS (19 R477, R480). -/
def execDbgDataAccess (t : Nat) (setAddr wr : Option (BitVec 32)) (s : State) : Out := go ((s.reach t).dbgData setAddr wr)

/-- BREAKPOINT_HIT (19 R478, R479). -/
def execBreakpointHit (t : Nat) (scan : Option (BitVec 40)) (idx : Fin 8) (s : State) : Out := go ((s.reach t).bpHit scan idx)

end Sys2Proof.Machine
end

