-- ==== Sys2Proof/Machine/Detector.lean ====
section
/-!
DEFINITION. The channel detector (08): crossings and hysteresis, the trigger types, patterns, interpolation, and
DETECTOR_EVENT, which examines one sample of every running detector.
-/

namespace Sys2Proof.Machine

/-- The four samples around one step of the detector (08 R211, R212). -/
structure Window where
  xm : Sample
  x0 : Sample
  x1 : Sample
  x2 : Sample
deriving DecidableEq, Repr

/-! Interpolation (08 R211–R213). -/

/-- A coefficient with 16 fractional bits, rounded half away from zero; `num` is over 2 · 1024³ (08 R211). -/
def kernelRound (num : Int) : Int := divHalfAway num 32768

/-- The four coefficients of kernel entry `j` (08 R211). -/
def kernelCoeffs (j : Nat) : Int × Int × Int × Int :=
  let f : Int := j
  (kernelRound (2048 * f * f - f * f * f - 1048576 * f), kernelRound (3 * f * f * f - 5120 * f * f + 2147483648),
    kernelRound (4096 * f * f - 3 * f * f * f + 1048576 * f), kernelRound (f * f * f - 1024 * f * f))

/-- Four sample values around a crossing. -/
structure Quad where
  m : Int
  a : Int
  b : Int
  c : Int
deriving DecidableEq, Repr

/-- The values of a window. -/
def quadOf (w : Window) : Quad := ⟨w.xm.val.toInt, w.x0.val.toInt, w.x1.val.toInt, w.x2.val.toInt⟩

/-- Whether the interpolated signal has crossed level `l` at entry `j` (08 R212). -/
def crossedAt (q : Quad) (linear rising : Bool) (l : Int) (j : Nat) : Bool :=
  let y : Int × Int :=
    if linear then (1024 * q.a + (q.b - q.a) * (j : Int), 1024 * l)
    else
      let h := kernelCoeffs j
      (h.1 * q.m + h.2.1 * q.a + h.2.2.1 * q.b + h.2.2.2 * q.c, 65536 * l)
  if rising then decide (y.2 ≤ y.1) else decide (y.1 ≤ y.2)

/-- The bisection of 08 R212. -/
def bisect (crossed : Nat → Bool) : Nat → Nat → Nat → Nat
  | 0, lo, _ => lo
  | n + 1, lo, hi =>
    let m := (lo + hi) / 2
    if crossed m then bisect crossed n lo m else bisect crossed n m hi

/-- The entry at which a crossing lies. -/
def interpAt (w : Window) (linear rising : Bool) (l : Int) : Nat := bisect (crossedAt (quadOf w) linear rising l) 10 0 1024

/-- Whether a sample makes a crossing's interpolation linear and its stamp not valid (08 R209, R212). -/
def sampleFlat (x : Sample) : Bool := x.clipped || x.filled

/-- Whether any of the four samples does. -/
def windowFlat (w : Window) : Bool := sampleFlat w.xm || sampleFlat w.x0 || sampleFlat w.x1 || sampleFlat w.x2

/-- Whether any of the four samples is settling (08 R209). -/
def windowSettles (w : Window) : Bool := w.xm.settling || w.x0.settling || w.x1.settling || w.x2.settling

/-! Crossings and hysteresis (08 R203). -/

/-- A rising crossing of level `l`. -/
def risesThrough (l prev x : Int) (primed : Bool) : Bool := decide (prev < l ∧ l ≤ x) && primed

/-- A falling crossing of level `l`. -/
def fallsThrough (l prev x : Int) (primed : Bool) : Bool := decide (l < prev ∧ x ≤ l) && primed

/-- The rising side after a sample. -/
def primeR (l h x : Int) (primed crossed : Bool) : Bool := decide (x ≤ l - h) || (primed && !crossed)

/-- The falling side after a sample. -/
def primeF (l h x : Int) (primed crossed : Bool) : Bool := decide (l + h ≤ x) || (primed && !crossed)

/-- A crossing: whether of B, its direction, its level. -/
structure Crossing where
  ofB    : Bool
  rising : Bool
  level  : Int
deriving DecidableEq, Repr

/-- Levels and hysteresis in force for a sample (08 R210). -/
structure Levels where
  a : Int
  b : Int
  h : Int
deriving DecidableEq, Repr

/-- Prime both sides of both levels at a sample; crossings unprime (08 R203). -/
def Det.prime (d : Det) (v : Levels) (x : Int) (cs : List Crossing) : Det :=
  let has (b r : Bool) : Bool := cs.any (fun c => c.ofB == b && c.rising == r)
  { d with
    aR := primeR v.a v.h x d.aR (has false true), aF := primeF v.a v.h x d.aF (has false false)
    bR := primeR v.b v.h x d.bR (has true true), bF := primeF v.b v.h x d.bF (has true false) }

/-- The crossings that a sample makes, in signal order (08 R203, R205): on a rising signal A first, on a falling one B. -/
def Det.crossings (d : Det) (v : Levels) (prev x : Int) : List Crossing :=
  if prev ≤ x then
    (if risesThrough v.a prev x d.aR then [⟨false, true, v.a⟩] else []) ++ (if risesThrough v.b prev x d.bR then [⟨true, true, v.b⟩] else [])
  else
    (if fallsThrough v.b prev x d.bF then [⟨true, false, v.b⟩] else []) ++ (if fallsThrough v.a prev x d.aF then [⟨false, false, v.a⟩] else [])

/-- The pattern state after crossings of A (08 R208). -/
def aboveAfter (above : Bool) (cs : List Crossing) : Bool :=
  match cs.find? (fun c => !c.ofB) with
  | none => above
  | some c => c.rising

/-! Types (08 R205, R206). -/

/-- What a crossing does in a column. -/
inductive ColAct where
  | nothing | fire | opens | closes | ends | abandons | closesOpens
deriving DecidableEq, Repr

/-- The rising column of the table of 08 R205 for a crossing. -/
def colAct (ty : Nat) (ofB rising : Bool) : ColAct :=
  match ty, ofB, rising with
  | 1, false, true => .fire
  | 2, false, true => .fire
  | 3, true, true => .fire
  | 3, false, false => .fire
  | 4, false, true => .opens
  | 4, false, false => .closes
  | 5, false, true => .opens
  | 5, true, true => .abandons
  | 5, false, false => .ends
  | 6, false, true => .opens
  | 6, false, false => .abandons
  | 6, true, true => .closes
  | 7, false, true => .closesOpens
  | _, _, _ => .nothing

/-- The action of a crossing in column `col`: the falling column mirrors the rising one, runt and slew with A and B exchanged. -/
def colActIn (ty : Nat) (col : Bool) (c : Crossing) : ColAct :=
  if col then colAct ty (if ty = 5 ∨ ty = 6 then !c.ofB else c.ofB) (!c.rising) else colAct ty c.ofB c.rising

/-- The columns that act (08 R201, R205). -/
def columnsOf (slope : Nat) : List Bool :=
  match slope with
  | 0 => [false]
  | 1 => [true]
  | _ => [false, true]

/-- How long a candidate was open qualifies it, against limits in units of 2^-24 tick (08 R206). -/
def timeQualifies (mode : Nat) (lo hi t : Int) : Bool :=
  match mode with
  | 0 => decide (t < lo)
  | 1 => decide (lo < t)
  | 2 => decide (lo ≤ t ∧ t ≤ hi)
  | _ => decide (t < lo ∨ hi < t)

/-- A limit in fs in units of 2^-24 tick (08 R206). -/
def limitUnits (fs : Nat) : Int := divHalfEven ((fs * 786432 : Nat) : Int) 15625

/-- The longest time that is compared: 2^48 ticks (08 R206). -/
def timeCap : Int := 2 ^ 72

/-- An event that a detector fires: its fine instant and whether its interpolation is valid. -/
structure Fired where
  fine  : Int
  valid : Bool
deriving DecidableEq, Repr

/-- What a detector's keys give for firing: type, columns, time mode and limits. -/
structure DetCfg where
  ty   : Nat
  cols : List Bool
  tm   : Nat
  lo   : Int
  hi   : Int
deriving DecidableEq, Repr

/-- The candidate of a column. -/
def Det.cand (d : Det) (col : Bool) : Option Cand := if col then d.cand1 else d.cand0

/-- Set the candidate of a column. -/
def Det.setCand (d : Det) (col : Bool) (x : Option Cand) : Det := if col then { d with cand1 := x } else { d with cand0 := x }

/-- Carry out the action of a crossing stamped `f` in a column (08 R205). -/
def Det.act (d : Det) (g : DetCfg) (col : Bool) (a : ColAct) (f : Fired) : Det × List Fired :=
  let qualifies := (d.cand col).any (fun c => timeQualifies g.tm g.lo g.hi (min timeCap (f.fine - c.fine)))
  match a with
  | .nothing => (d, [])
  | .fire => (d, [f])
  | .opens => (d.setCand col (some ⟨f.fine⟩), [])
  | .closes => (d.setCand col none, if qualifies then [f] else [])
  | .ends => (d.setCand col none, if (d.cand col).isSome then [f] else [])
  | .abandons => (d.setCand col none, [])
  | .closesOpens => (d.setCand col (some ⟨f.fine⟩), if qualifies then [f] else [])

/-- The actions of one crossing in the columns that act; interval in either direction uses one column (08 R205). -/
def Det.cross (d : Det) (g : DetCfg) (c : Crossing) (f : Fired) : Det × List Fired :=
  if g.ty = 7 ∧ g.cols.length = 2 then (if c.ofB then (d, []) else d.act g false .closesOpens f)
  else g.cols.foldl (fun r col =>
    let x := r.1.act g col (colActIn g.ty col c) f
    (x.1, r.2 ++ x.2)) (d, [])

/-! One sample of one detector. -/

/-- The configuration of a detector at an instant (08 R201, R206, R210). -/
def State.detCfg (s : State) (c : Fin 4) (tick : Nat) : DetCfg :=
  { ty := s.detKey 0x0600 c, cols := columnsOf (s.detKey 0x0601 c), tm := s.detKey 0x0605 c
    lo := limitUnits (s.keyAt 0x0606 (c.val + 1) tick), hi := limitUnits (s.keyAt 0x0607 (c.val + 1) tick) }

/-- Its levels at an instant. -/
def State.detLevels (s : State) (c : Fin 4) (tick : Nat) : Levels :=
  { a := decInt 16 (s.keyAt 0x0602 (c.val + 1) tick), b := decInt 16 (s.keyAt 0x0603 (c.val + 1) tick)
    h := s.keyAt 0x0604 (c.val + 1) tick }

/-- The codes around nominal fine instant `i0` of a channel: nine samples before it to ten after (04 R109). -/
def State.windowStream (s : State) (c : Fin 4) (i0 : Nat) (codes : Codes) : Stream :=
  s.streamFrom c ((i0 : Int) - ((9 * samplePeriod s.mode : Nat) : Int)) 20 codes

/-- The window of a channel around nominal fine instant `i0` of `x0`, from codes that begin nine samples before it: corrected samples with
their marks (01 R12; 03 R78, R81; 04 R105). -/
def State.windowOf (s : State) (c : Fin 4) (i0 : Nat) (codes : Codes) : Window :=
  let g := s.windowStream c i0 codes
  let x (i : Nat) : Sample := s.sampleOf c (s.feUnits c (s.detKey 0x0102 c)) g i
  ⟨x 8, x 9, x 10, x 11⟩

/-- The instant at the connector plane of the sample of a channel with nominal fine instant `i1` (01 R20, 08 R213). -/
def State.detInstant (s : State) (c : Fin 4) (i1 : Nat) : Nat := i1 - s.feUnits c (s.detKey 0x0102 c)

/-- Whether a detector examines the sample with nominal fine instant `i1` now: the detector runs, or ran at the sample's instant, has not
examined it, and the sample has passed the correction path (01 R19). Start and end are judged at the connector plane (08 R200; log
entry 55). -/
def State.examines (s : State) (c : Fin 4) (i1 : Nat) : Bool :=
  let d := s.ch[c].det
  s.present c && d.runsAt (s.detEnd c) (s.detInstant c i1)
    && decide (d.started * fineUnit ≤ s.detInstant c i1 ∧ d.seen < i1 ∧ s.detInstant c i1 / fineUnit + pathTicks ≤ s.clk)

/-- The stamp instant of a crossing found at the sample after the one at `i0` (08 R213). -/
def State.crossFine (s : State) (c : Fin 4) (i0 : Nat) (w : Window) (x : Crossing) : Int :=
  let j := interpAt w (windowFlat w) x.rising x.level
  ((i0 + (2 * j + 1) * (samplePeriod s.mode / 2048) : Nat) : Int) - (s.feUnits c (s.detKey 0x0102 c) : Int)

/-- What examining one sample finds: the detector after it, the events it fires, and its crossing of A for patterns. -/
structure Found where
  det   : Det
  fired : List Fired
  edge  : Option Fired
  hush  : Bool
deriving DecidableEq, Repr

/-- The first sample of a start, or after settling: it primes; at a start it sets the pattern state and fires the level type
(08 R204, R205, R209). -/
def Det.first (d : Det) (g : DetCfg) (v : Levels) (x : Int) (fine : Int) : Found :=
  let d1 := { d.prime v x [] with fresh := false, atStart := false, above := if d.atStart then decide (v.a ≤ x) else d.above }
  { det := d1, fired := if d.atStart ∧ g.ty = 2 ∧ g.cols.contains (!decide (v.a ≤ x)) then [⟨fine, false⟩] else []
    edge := none, hush := false }

/-- A sample compared with its predecessor: its crossings, their stamps and what they do; a crossing bracketed by a settling
sample fires nothing (08 R203, R205, R209). -/
def State.compareSample (s : State) (c : Fin 4) (i0 : Nat) (w : Window) (g : DetCfg) (v : Levels) (d : Det) : Found :=
  let cs := d.crossings v w.x0.val.toInt w.x1.val.toInt
  let stamped := cs.map (fun x => (x, (⟨s.crossFine c i0 w x, !(windowFlat w)⟩ : Fired)))
  let r := stamped.foldl (fun (r : Det × List Fired) x =>
    let y := r.1.cross g x.1 x.2
    (y.1, r.2 ++ y.2)) (d, [])
  { det := { r.1.prime v w.x1.val.toInt cs with above := aboveAfter d.above cs }
    fired := if windowSettles w then [] else r.2
    edge := (stamped.find? (fun x => !x.1.ofB)).map (·.2), hush := windowSettles w }

/-- Examine sample `x1` of a window (08 R200–R210). -/
def State.examine (s : State) (c : Fin 4) (i0 : Nat) (w : Window) : Found :=
  let i1 := i0 + samplePeriod s.mode
  let d := s.ch[c].det
  let g := s.detCfg c (i1 / fineUnit)
  let v := s.detLevels c (i1 / fineUnit)
  let f := if w.x1.settling then { det := { d with fresh := true, cand0 := none, cand1 := none }, fired := [], edge := none, hush := false }
    else if d.fresh || w.x0.settling then
      d.first g v w.x1.val.toInt ((i1 : Int) - (s.feUnits c (s.detKey 0x0102 c) : Int))
    else s.compareSample c i0 w g v d
  { f with det := { f.det with seen := i1 } }

/-- Raise a detector event that the sample at nominal instant `i1` makes (08 R199, R200, R220). -/
def State.raiseDet (s : State) (c : Fin 4) (i1 : Nat) (f : Fired) : State :=
  let n := f.fine.toNat
  s.setEvq (s.evq ++ [⟨n, 1 + c.val, s.stampAt n 1 f.valid, 0xF#4, s.cycleOf n + 404, f.valid, s.detInstant c i1⟩])

/-- Whether the pattern of a channel holds, given the states of the detectors (08 R208). -/
def patternTrue (pat : Nat) (above : Fin 4 → Bool) : Bool :=
  allCh.all (fun c => match bitsAt pat (2 * c.val) 2 with
    | 1 => above c
    | 2 => !(above c)
    | _ => true)

/-- The latest of the crossings that change a pattern, valid when all are (08 R208). -/
def latestOf : List Fired → Option Fired
  | [] => none
  | x :: xs => some (xs.foldl (fun a b => ⟨max a.fine b.fine, a.valid && b.valid⟩) x)

/-- The state of a detector before a sample, as patterns compare it: the sample that sets it at a start is no change (08 R204). -/
def Det.wasAbove (d : Det) (after : Bool) : Bool := if d.atStart then after else d.above

/-- The event of channel `c`'s pattern at one sample index, from the detectors before and after it and the crossings found at it
(08 R208): of the channels whose state changes there, the latest crossing. A pattern has no state before each detector it names has
had the first sample of its start (08 R204). -/
def State.patternEvent (s : State) (c : Fin 4) (before after : Fin 4 → Det) (found : Fin 4 → Option Found) : Option Fired :=
  let pat := s.detKey 0x0608 c
  let named := allCh.filter (fun d => bitsAt pat (2 * d.val) 2 != 0)
  let was (d : Fin 4) : Bool := (before d).wasAbove (after d).above
  let is := patternTrue pat (fun d => (after d).above)
  let hits := (named.filter (fun d => was d != (after d).above)).filterMap found
  if patternTrue pat was == is || named.any (fun d => (after d).atStart) || !((columnsOf (s.detKey 0x0601 c)).contains (!is))
      || hits.any (·.hush) then none
  else latestOf (hits.filterMap (·.edge))

/-- One sample index of every running detector, then the patterns over it (08 R200, R208). -/
def State.sampleStep (s : State) (i0 : Nat) (w : Fin 4 → Window) : State :=
  let i1 := i0 + samplePeriod s.mode
  let found (c : Fin 4) : Option Found := if s.examines c i1 then some (s.examine c i0 (w c)) else none
  let s1 := allCh.foldl (fun a c => match found c with
    | none => a
    | some f => f.fired.foldl (fun b x => b.raiseDet c i1 x) (a.modCh c (fun h => { h with det := f.det }))) s
  allCh.foldl (fun a c =>
    if s.examines c i1 && s.detKey 0x0600 c == 8 then
      (s.patternEvent c (fun d => s.ch[d].det) (fun d => s1.ch[d].det) found).elim a (a.raiseDet c i1)
    else a) s1

/-- DETECTOR_EVENT (08 R205): the module's detectors examine the samples of one index; `tick` and `pos` place the sample before it.
The codes of each channel begin nine samples before that one; those of channels whose detector does not examine it are not used. -/
def execDetectorEvent (t : Nat) (tick pos : Nat) (a b c d : Codes) (s : State) : Out :=
  let s0 := s.reach t
  let i0 := tick * fineUnit + pos % samplesPerTick s0.mode * samplePeriod s0.mode
  let codes (i : Fin 4) : Codes := match i with
    | 0 => a
    | 1 => b
    | 2 => c
    | _ => d
  go (allCh.foldl (fun x i => if s0.examines i (i0 + samplePeriod s0.mode) then x.hear i (s0.windowStream i i0 (codes i)) else x)
    (s0.sampleStep i0 (fun i => s0.windowOf i i0 (codes i))))

end Sys2Proof.Machine
end

