-- ==== Sys2Proof/Machine/Dispatch.lean ====
section
/-!
DEFINITION. One arm per command: a direct call of its meaning, or its rejection by name.
-/

namespace Sys2Proof.Machine

/-- The effect of a command on everything but the queue. -/
def exec (i : Instr) (s : State) : Host.Outcome State Fault Refusal :=
  match i with
  | .mbGo t mb v => Sys2Proof.Machine.execMbGo t mb v s
  | .mbAbort t mb v => Sys2Proof.Machine.execMbAbort t mb v s
  | .commandExpiry t mb => Sys2Proof.Machine.execCommandExpiry t mb s
  | .undefinedCommand t mb => Sys2Proof.Machine.execUndefinedCommand t mb s
  | .resync t mb => Sys2Proof.Machine.execResync t mb s
  | .getInfo t mb => Sys2Proof.Machine.execGetInfo t mb s
  | .putSettings t mb => Sys2Proof.Machine.execPutSettings t mb s
  | .getSettings t mb => Sys2Proof.Machine.execGetSettings t mb s
  | .apply t mb => Sys2Proof.Machine.execApply t mb s
  | .discardStaged t mb => Sys2Proof.Machine.execDiscardStaged t mb s
  | .getEvents t mb => Sys2Proof.Machine.execGetEvents t mb s
  | .echo t mb => Sys2Proof.Machine.execEcho t mb s
  | .arm t mb => Sys2Proof.Machine.execArm t mb s
  | .armCommit t => Sys2Proof.Machine.execArmCommit t s
  | .disarm t mb => Sys2Proof.Machine.execDisarm t mb s
  | .forceTrigger t mb => Sys2Proof.Machine.execForceTrigger t mb s
  | .getAcqStatus t mb => Sys2Proof.Machine.execGetAcqStatus t mb s
  | .loadSeqTable t mb => Sys2Proof.Machine.execLoadSeqTable t mb s
  | .calRun t mb => Sys2Proof.Machine.execCalRun t mb s
  | .calRunEnd t ch r => Sys2Proof.Machine.execCalRunEnd t ch r s
  | .calStatus t mb => Sys2Proof.Machine.execCalStatus t mb s
  | .calCommit t mb => Sys2Proof.Machine.execCalCommit t mb s
  | .calStoreCompletion t ok => Sys2Proof.Machine.execCalStoreCompletion t ok s
  | .calRevert t mb => Sys2Proof.Machine.execCalRevert t mb s
  | .graftControl t mb test => Sys2Proof.Machine.execGraftControl t mb test s
  | .loadCurve t mb bulk => Sys2Proof.Machine.execLoadCurve t mb bulk s
  | .setQuota t mb => Sys2Proof.Machine.execSetQuota t mb s
  | .releaseSegments t mb => Sys2Proof.Machine.execReleaseSegments t mb s
  | .getTrellisStatus t mb => Sys2Proof.Machine.execGetTrellisStatus t mb s
  | .memHealth t mb => Sys2Proof.Machine.execMemHealth t mb s
  | .retirePc t mb => Sys2Proof.Machine.execRetirePc t mb s
  | .scrubControl t mb => Sys2Proof.Machine.execScrubControl t mb s
  | .setTime t mb => Sys2Proof.Machine.execSetTime t mb s
  | .getTimeStatus t mb => Sys2Proof.Machine.execGetTimeStatus t mb s
  | .loadBandTable t mb temp => Sys2Proof.Machine.execLoadBandTable t mb temp s
  | .relock t mb temp => Sys2Proof.Machine.execRelock t mb temp s
  | .tdcMeasure t mb => Sys2Proof.Machine.execTdcMeasure t mb s
  | .pwrEnter t mb => Sys2Proof.Machine.execPwrEnter t mb s
  | .pwrStatus t mb => Sys2Proof.Machine.execPwrStatus t mb s
  | .domainControl t mb bad => Sys2Proof.Machine.execDomainControl t mb bad s
  | .monLoadTable t mb bulk => Sys2Proof.Machine.execMonLoadTable t mb bulk s
  | .monRead t mb => Sys2Proof.Machine.execMonRead t mb s
  | .monInject t mb => Sys2Proof.Machine.execMonInject t mb s
  | .monSyscal t mb => Sys2Proof.Machine.execMonSyscal t mb s
  | .getIdentity t mb => Sys2Proof.Machine.execGetIdentity t mb s
  | .quote t mb => Sys2Proof.Machine.execQuote t mb s
  | .debugUnlock t mb bulk => Sys2Proof.Machine.execDebugUnlock t mb bulk s
  | .challengeExpiry t => Sys2Proof.Machine.execChallengeExpiry t s
  | .enrollOwner t mb bulk => Sys2Proof.Machine.execEnrollOwner t mb bulk s
  | .ownerSlotProgrammed t => Sys2Proof.Machine.execOwnerSlotProgrammed t s
  | .arrayJoin t mb => Sys2Proof.Machine.execArrayJoin t mb s
  | .joinSilenceExpiry t => Sys2Proof.Machine.execJoinSilenceExpiry t s
  | .arrayStatus t mb => Sys2Proof.Machine.execArrayStatus t mb s
  | .arrayLeave t mb => Sys2Proof.Machine.execArrayLeave t mb s
  | .arrayCalibrateLinks t mb bulk => Sys2Proof.Machine.execArrayCalibrateLinks t mb bulk s
  | .linkCalibrationEnd t measured failed => Sys2Proof.Machine.execLinkCalibrationEnd t measured failed s
  | .fwStage t mb bulk => Sys2Proof.Machine.execFwStage t mb bulk s
  | .fwStageEnd t readBack => Sys2Proof.Machine.execFwStageEnd t readBack s
  | .fwActivate t mb => Sys2Proof.Machine.execFwActivate t mb s
  | .liveRestartDone t check => Sys2Proof.Machine.execLiveRestartDone t check s
  | .trialExpiry t => Sys2Proof.Machine.execTrialExpiry t s
  | .fwStatus t mb => Sys2Proof.Machine.execFwStatus t mb s
  | .playLoad t mb => Sys2Proof.Machine.execPlayLoad t mb s
  | .playLoadEnd t out bulk => Sys2Proof.Machine.execPlayLoadEnd t out bulk s
  | .playStart t mb => Sys2Proof.Machine.execPlayStart t mb s
  | .playStop t mb => Sys2Proof.Machine.execPlayStop t mb s
  | .harvestQueueCreate t mb => Sys2Proof.Machine.execHarvestQueueCreate t mb s
  | .harvestQueueDestroy t mb moved => Sys2Proof.Machine.execHarvestQueueDestroy t mb moved s
  | .queueDrainExpiry t q moved => Sys2Proof.Machine.execQueueDrainExpiry t q moved s
  | .eventNotifyInterval t => Sys2Proof.Machine.execEventNotifyInterval t s
  | .flashLogCopy t => Sys2Proof.Machine.execFlashLogCopy t s
  | .registerWrite t off size v => Sys2Proof.Machine.execRegisterWrite t off size v s
  | .rsRead t off size => Sys2Proof.Machine.execRsRead t off size s
  | .overloadAsserted t input first last => Sys2Proof.Machine.execOverloadAsserted t input first last s
  | .protectionTrip t input => Sys2Proof.Machine.execProtectionTrip t input s
  | .protectionAutoClose t input => Sys2Proof.Machine.execProtectionAutoClose t input s
  | .towerSelfTest t tower tests => Sys2Proof.Machine.execTowerSelfTest t tower tests s
  | .graftSelfTest t tower test => Sys2Proof.Machine.execGraftSelfTest t tower test s
  | .graftShadowSettled t tower => Sys2Proof.Machine.execGraftShadowSettled t tower s
  | .graftWindow t tower w => Sys2Proof.Machine.execGraftWindow t tower w s
  | .swap t tower => Sys2Proof.Machine.execSwap t tower s
  | .sliceFailure t tower slice cause onset => Sys2Proof.Machine.execSliceFailure t tower slice cause onset s
  | .sliceReplacement t tower => Sys2Proof.Machine.execSliceReplacement t tower s
  | .trimRampStep t e => Sys2Proof.Machine.execTrimRampStep t e s
  | .skewWindow t ch tick codes => Sys2Proof.Machine.execSkewWindow t ch tick codes s
  | .refGate t edges freq => Sys2Proof.Machine.execRefGate t edges freq s
  | .refLoss t => Sys2Proof.Machine.execRefLoss t s
  | .refQualification t e => Sys2Proof.Machine.execRefQualification t e s
  | .disciplineUpdate t e steer => Sys2Proof.Machine.execDisciplineUpdate t e steer s
  | .clockStep t e => Sys2Proof.Machine.execClockStep t e s
  | .lockLoss t temp => Sys2Proof.Machine.execLockLoss t temp s
  | .bandEdge t ctl temp => Sys2Proof.Machine.execBandEdge t ctl temp s
  | .overspeed t excess temp => Sys2Proof.Machine.execOverspeed t excess temp s
  | .lockDeclared t => Sys2Proof.Machine.execLockDeclared t s
  | .frequencyAgreement t => Sys2Proof.Machine.execFrequencyAgreement t s
  | .relockAttemptFailure t => Sys2Proof.Machine.execRelockAttemptFailure t s
  | .relockCompletion t => Sys2Proof.Machine.execRelockCompletion t s
  | .sscChange t => Sys2Proof.Machine.execSscChange t s
  | .ppsEdge t frac falling => Sys2Proof.Machine.execPpsEdge t frac falling s
  | .ppsMissing t => Sys2Proof.Machine.execPpsMissing t s
  | .ppsOutPulse t => Sys2Proof.Machine.execPpsOutPulse t s
  | .ppsOutEnd t => Sys2Proof.Machine.execPpsOutEnd t s
  | .epochMark t => Sys2Proof.Machine.execEpochMark t s
  | .tdcEdge t chan frac swing => Sys2Proof.Machine.execTdcEdge t chan frac swing s
  | .tdcCalibration t chan err => Sys2Proof.Machine.execTdcCalibration t chan err s
  | .tdcCalTimeout t chan => Sys2Proof.Machine.execTdcCalTimeout t chan s
  | .measurementExpiry t chan => Sys2Proof.Machine.execMeasurementExpiry t chan s
  | .detectorEvent t tick pos a b c d => Sys2Proof.Machine.execDetectorEvent t tick pos a b c d s
  | .fltEvent t ch v codes => Sys2Proof.Machine.execFltEvent t ch v codes s
  | .timerEvent t ch => Sys2Proof.Machine.execTimerEvent t ch s
  | .eventPresentation t => Sys2Proof.Machine.execEventPresentation t s
  | .expiryEvent t ch tm => Sys2Proof.Machine.execExpiryEvent t ch tm s
  | .holdoffEnd t ch => Sys2Proof.Machine.execHoldoffEnd t ch s
  | .autoTrigger t ch => Sys2Proof.Machine.execAutoTrigger t ch s
  | .segmentClose t ch codes => Sys2Proof.Machine.execSegmentClose t ch codes s
  | .outputPulse t => Sys2Proof.Machine.execOutputPulse t s
  | .pulseEnd t pin => Sys2Proof.Machine.execPulseEnd t pin s
  | .synchronisingReset t ch => Sys2Proof.Machine.execSynchronisingReset t ch s
  | .fold t ch => Sys2Proof.Machine.execFold t ch s
  | .resultPass t ch => Sys2Proof.Machine.execResultPass t ch s
  | .busyIntervalEnd t ch => Sys2Proof.Machine.execBusyIntervalEnd t ch s
  | .pageNeed t ch => Sys2Proof.Machine.execPageNeed t ch s
  | .descriptorWrite t => Sys2Proof.Machine.execDescriptorWrite t s
  | .patrolScrub t raw => Sys2Proof.Machine.execPatrolScrub t raw s
  | .writeBack t raw => Sys2Proof.Machine.execWriteBack t raw s
  | .migrationCompletion t => Sys2Proof.Machine.execMigrationCompletion t s
  | .capacityReduction t => Sys2Proof.Machine.execCapacityReduction t s
  | .retrainingWindow t pc works lanes temp => Sys2Proof.Machine.execRetrainingWindow t pc works lanes temp s
  | .ceWindow t pc => Sys2Proof.Machine.execCeWindow t pc s
  | .pcRestoreTraining t pass temp => Sys2Proof.Machine.execPcRestoreTraining t pass temp s
  | .selfRefreshEntry t request => Sys2Proof.Machine.execSelfRefreshEntry t request s
  | .selfRefreshExit t temps => Sys2Proof.Machine.execSelfRefreshExit t temps s
  | .hqTailWrite t q v => Sys2Proof.Machine.execHqTailWrite t q v s
  | .hqCheadWrite t q v => Sys2Proof.Machine.execHqCheadWrite t q v s
  | .descriptorTake t q fetch => Sys2Proof.Machine.execDescriptorTake t q fetch s
  | .completionRecord t q => Sys2Proof.Machine.execCompletionRecord t q s
  | .msixUnmask t vec => Sys2Proof.Machine.execMsixUnmask t vec s
  | .linkDown t cause => Sys2Proof.Machine.execLinkDown t cause s
  | .linkUp t rate lanes => Sys2Proof.Machine.execLinkUp t rate lanes s
  | .playStartTick t out => Sys2Proof.Machine.execPlayStartTick t out s
  | .playEnd t out => Sys2Proof.Machine.execPlayEnd t out s
  | .streamUnderrun t out => Sys2Proof.Machine.execStreamUnderrun t out s
  | .portUp t port peer standby => Sys2Proof.Machine.execPortUp t port peer standby s
  | .portDown t port lock alive route => Sys2Proof.Machine.execPortDown t port lock alive route s
  | .reroute t level hops => Sys2Proof.Machine.execReroute t level hops s
  | .takeoverWaitExpiry t e table asym => Sys2Proof.Machine.execTakeoverWaitExpiry t e table asym s
  | .pauseExpiry t port alive route => Sys2Proof.Machine.execPauseExpiry t port alive route s
  | .timeExchange t port => Sys2Proof.Machine.execTimeExchange t port s
  | .statusReport t => Sys2Proof.Machine.execStatusReport t s
  | .time t port m => Sys2Proof.Machine.execTime t port m s
  | .epoch t b delta kind => Sys2Proof.Machine.execEpoch t b delta kind s
  | .trigReq t origin ch ticks frac qual => Sys2Proof.Machine.execTrigReq t origin ch ticks frac qual s
  | .trig t origin ch ticks frac qual delay => Sys2Proof.Machine.execTrig t origin ch ticks frac qual delay s
  | .armMessage t c number => Sys2Proof.Machine.execArmMessage t c number s
  | .disarmMessage t q => Sys2Proof.Machine.execDisarmMessage t q s
  | .ready t addr number result => Sys2Proof.Machine.execReady t addr number result s
  | .relayCmd t msg => Sys2Proof.Machine.execRelayCmd t msg s
  | .relayRsp t addr part => Sys2Proof.Machine.execRelayRsp t addr part s
  | .join t parent port serial digest role => Sys2Proof.Machine.execJoin t parent port serial digest role s
  | .assign t own addr role level hops heads refusal => Sys2Proof.Machine.execAssign t own addr role level hops heads refusal s
  | .status t addr health exports aligned delay => Sys2Proof.Machine.execStatus t addr health exports aligned delay s
  | .takeover t mgr level hops e table asym => Sys2Proof.Machine.execTakeover t mgr level hops e table asym s
  | .absent t addr => Sys2Proof.Machine.execAbsent t addr s
  | .pause t port => Sys2Proof.Machine.execPause t port s
  | .dissolve t => Sys2Proof.Machine.execDissolve t s
  | .badMessage t port => Sys2Proof.Machine.execBadMessage t port s
  | .idleEntry t => Sys2Proof.Machine.execIdleEntry t s
  | .hbmPhyIdle t => Sys2Proof.Machine.execHbmPhyIdle t s
  | .onDemandWake t dom => Sys2Proof.Machine.execOnDemandWake t dom s
  | .powerEntryDrain t => Sys2Proof.Machine.execPowerEntryDrain t s
  | .retentionCopy t => Sys2Proof.Machine.execRetentionCopy t s
  | .powerEntryCommit t => Sys2Proof.Machine.execPowerEntryCommit t s
  | .wakeNLow t => Sys2Proof.Machine.execWakeNLow t s
  | .wakeEdge t src pin falling => Sys2Proof.Machine.execWakeEdge t src pin falling s
  | .wakeTimerExpiry t => Sys2Proof.Machine.execWakeTimerExpiry t s
  | .mainPowerReturn t => Sys2Proof.Machine.execMainPowerReturn t s
  | .bfCmdWake t => Sys2Proof.Machine.execBfCmdWake t s
  | .bfCmdOff t => Sys2Proof.Machine.execBfCmdOff t s
  | .bfCmdClearFail t => Sys2Proof.Machine.execBfCmdClearFail t s
  | .i2cSnapshotRead t reg len => Sys2Proof.Machine.execI2cSnapshotRead t reg len s
  | .regulatorTimeout t rail => Sys2Proof.Machine.execRegulatorTimeout t rail s
  | .wakeCompletion t boot => Sys2Proof.Machine.execWakeCompletion t boot s
  | .mainPowerLoss t => Sys2Proof.Machine.execMainPowerLoss t s
  | .thermalTrip t sensor temp => Sys2Proof.Machine.execThermalTrip t sensor temp s
  | .brownOut t => Sys2Proof.Machine.execBrownOut t s
  | .insertion t => Sys2Proof.Machine.execInsertion t s
  | .powerUp t boot => Sys2Proof.Machine.execPowerUp t boot s
  | .conversionEnd t raw => Sys2Proof.Machine.execConversionEnd t raw s
  | .entryDelayEnd t => Sys2Proof.Machine.execEntryDelayEnd t s
  | .injectionStart t => Sys2Proof.Machine.execInjectionStart t s
  | .syscalStart t => Sys2Proof.Machine.execSyscalStart t s
  | .dbgHalt t v => Sys2Proof.Machine.execDbgHalt t v s
  | .dbgResume t v => Sys2Proof.Machine.execDbgResume t v s
  | .dbgStep t v => Sys2Proof.Machine.execDbgStep t v s
  | .dbgClrErr t v => Sys2Proof.Machine.execDbgClrErr t v s
  | .dbgDataAccess t setAddr wr => Sys2Proof.Machine.execDbgDataAccess t setAddr wr s
  | .breakpointHit t scan idx => Sys2Proof.Machine.execBreakpointHit t scan idx s
  | .armWakeFailure t dom => Sys2Proof.Machine.execArmWakeFailure t dom s
  | .retrainingStart t pc temp deskew => Sys2Proof.Machine.execRetrainingStart t pc temp deskew s
  | .groupRead t pc row raw copy => Sys2Proof.Machine.execGroupRead t pc row raw copy s
  | .heldAllocation t => Sys2Proof.Machine.execHeldAllocation t s
  | .auxPowerLoss t => Sys2Proof.Machine.execAuxPowerLoss t s
  | .l1Exit t => Sys2Proof.Machine.execL1Exit t s
  | .syscalSettleEnd t => Sys2Proof.Machine.execSyscalSettleEnd t s

end Sys2Proof.Machine
end

