-- ==== Sys2Proof/Safety.lean ====
section
/-!
DEFINITION. The words in which statements speak of a run: when a command is ready to be executed, what it answers, what stays as it
was, and the invariant of the stored data.
-/

namespace Sys2Proof.Machine

/-- An outcome that goes on to a state with a property. -/
def Leads (o : Out) (P : State → Prop) : Prop := ∃ u, o = .next u ∧ P u

/-- The command that mailbox `m` holds. -/
def State.reqOf (s : State) (m : Fin 17) : Req := (s.mbox m).req m

/-- At tick `t` it is the turn of the command of mailbox `m`, which has this code; it passes the checks that every command shares
(02 R46 steps 1 to 4), firmware serves in the ordinary way, and its expiry tick has not passed (02 R47, R51). -/
abbrev Ready (s : State) (t : Nat) (m : Fin 17) (code : Nat) (lenOk : Req → Bool) : Prop :=
  (s.reach t).mayTake m code = true ∧ (s.reqOf m).code = code ∧ headerCheck s.mode lenOk (s.reqOf m) = none ∧ s.fw.recovery = false
    ∧ (s.reqOf m).expired (s.reach t).clk = false

/-- Mailbox `m` is DONE with a status and a response payload (02 R38, R41). -/
abbrev Replied (u : State) (m : Fin 17) (status : Nat) (payload : List Byte) : Prop :=
  (u.mbox m).state = .done ∧ (u.mbox m).status = status ∧ (u.mbox m).rsp.drop 32 = payload

/-- The units of the device stand in `u` as they stood in `s`: all but time, command interface, event log, host link, array link
and power. -/
abbrev SameUnits (s u : State) : Prop :=
  u.fe = s.fe ∧ u.tw = s.tw ∧ u.cal = s.cal ∧ u.ck = s.ck ∧ u.tm = s.tm ∧ u.ch = s.ch ∧ u.evq = s.evq ∧ u.tr = s.tr
    ∧ u.mem = s.mem ∧ u.hv = s.hv ∧ u.out = s.out ∧ u.mon = s.mon ∧ u.fw = s.fw ∧ u.pins = s.pins

/-- Settings, stage and accepted work stand as they stood. -/
abbrev SameSettings (s u : State) : Prop :=
  u.mr.stage = s.mr.stage ∧ u.mr.recorded = s.mr.recorded ∧ u.mr.armed = s.mr.armed ∧ u.mr.gen = s.mr.gen ∧ u.mr.work = s.mr.work

/-- The invariant of the stored data: memories in canonical form (log entry 5), the event log (02 R63, R64), the stage (02 R57) and
the list of accepted work (02 R49) within their sizes, a power state that exists and no entry but to a deeper one (17 R419, R426). -/
structure Inv (s : State) : Prop where
  cmd   : ∀ m : Fin 17, Memory.wf (s.mbox m).cmd = true
  host  : Memory.wf s.hl.hostMem = true
  hbm   : Memory.wf s.tr.mem = true
  sram  : Memory.wf s.fw.sram = true
  ret   : Memory.wf s.fw.retMem = true
  ring  : s.log.ram.length ≤ 4096
  flash : s.log.flash.length ≤ 65536
  stage : s.mr.stage.length ≤ 4096
  work  : s.mr.work.length ≤ 16
  power : s.pw.st ≤ 4
  entry : ∀ e, s.pw.entry = some e → 2 ≤ e.target ∧ e.target ≤ 4

end Sys2Proof.Machine
end

