-- ==== Sys2Proof/Certificates/Slice0/Obligations.lean ====
section
/-!
DEFINITION. The statements about the model, from the rules of the spec and, where a docstring says so, from the model's own choices.
-/

open Sys2Proof Sys2Proof.Machine

/-- A step executes the command at the front of the queue; on an empty queue the block idles (the model's choice, log entry 3). -/
def Obligations.StepRunsFrontCommand : Prop :=
  (∀ (c : Instr) (rest : List Instr) (s : State), s.pending = c :: rest → step s = exec c { s with pending := rest })
    ∧ ∀ s : State, s.pending = [] → step s = .next s

/-- R68, with the frame: units and settings stand.

Completes with its own effect (`exec c s = .next u` for the `u` that `Leads` or the equation gives): `echo`. -/
def Obligations.EchoReturnsPayload : Prop :=
  ∀ (s : State) (t : Nat) (m : Fin 17), Ready s t m 0x0008 (fun _ => true) →
    Leads (exec (.echo t m) s) (fun u => Replied u m stOk (s.reqOf m).payload ∧ fieldAt (u.mbox m).rsp 6 2 = (s.reqOf m).plen
      ∧ SameUnits s u ∧ SameSettings s u)

/-- R60: no payload; the stage is emptied and counted; values in force stand.

Completes with its own effect (`exec c s = .next u` for the `u` that `Leads` or the equation gives): `discardStaged`. -/
def Obligations.DiscardEmptiesStage : Prop :=
  (∀ (s : State) (t : Nat) (m : Fin 17), Ready s t m 0x0006 (lenIs 0) →
    Leads (exec (.discardStaged t m) s) (fun u => Replied u m stOk (leBytes 4 s.mr.stage.length) ∧ u.mr.stage = []
      ∧ u.mr.recorded = s.mr.recorded ∧ u.mr.armed = s.mr.armed ∧ u.mr.gen = s.mr.gen ∧ SameUnits s u))
  ∧ ∀ (s : State) (t : Nat) (m : Fin 17), (s.reach t).mayTake m 0x0006 = true → (s.reqOf m).code = 0x0006 → (s.reqOf m).plen ≠ 0 →
      (s.reqOf m).expired (s.reach t).clk = false →
    Leads (exec (.discardStaged t m) s) (fun u => Replied u m eParam [] ∧ SameUnits s u ∧ SameSettings s u)

/-- R56, R57: all entries pass and are staged or in force at once; or the first that fails is named and nothing changes.

Completes with its own effect (`exec c s = .next u` for the `u` that `Leads` or the equation gives): `putSettings`. -/
def Obligations.PutSettingsStages : Prop :=
  ∀ (s : State) (t : Nat) (m : Fin 17), Ready s t m 0x0003 putLen →
    let p := (s.reqOf m).payload
    let n := fieldAt p 0 2
    let es := (List.range n).map (putEntry p)
    let staged := (es.filter (fun e => !immediate e.key)).foldl (fun l e => setPut e l) s.mr.stage
    1 ≤ n → n ≤ 63 → allZero (sliceAt p 2 6) = true →
      ((∀ i < n, putOk p i = true) → staged.length ≤ 4096 →
        Leads (exec (.putSettings t m) s) (fun u => Replied u m stOk (leBytes 4 staged.length) ∧ u.mr.stage = staged
          ∧ u.mr.recorded = (es.filter (fun e => immediate e.key)).foldl setRecord s.mr.recorded ∧ u.mr.gen = s.mr.gen))
      ∧ ∀ i < n, putOk p i = false → (∀ j < i, putOk p j = true) →
        Leads (exec (.putSettings t m) s) (fun u => Replied u m eParam [] ∧ fieldAt (u.mbox m).rsp 8 2 = (putEntry p i).key
          ∧ bitAt (fieldAt (u.mbox m).rsp 10 1) 0 = true ∧ fieldAt (u.mbox m).rsp 12 4 = (putEntry p i).scope + 65536 * i
          ∧ SameUnits s u ∧ SameSettings s u)

/-- R58: all staged values at one commit point, or none.

Completes with its own effect (`exec c s = .next u` for the `u` that `Leads` or the equation gives): `apply`. -/
def Obligations.ApplyCommitsTheStage : Prop :=
  ∀ (s : State) (t : Nat) (m : Fin 17), Ready s t m 0x0005 (lenIs 8) →
    let s0 := s.reach t
    let p := (s.reqOf m).payload
    allZero (sliceAt p 1 7) = true →
      (fieldAt p 0 1 = 0 → s.mr.stage ≠ [] → s0.applyFails = none →
        (s.reqOf m).expired (s0.boundaryFrom (s0.clk + 1)) = false →
        Leads (exec (.apply t m) s) (fun u =>
          Replied u m stOk (leBytes 4 (wrapAdd 32 s.mr.gen 1) ++ leBytes 4 s.mr.stage.length)
          ∧ u.mr.stage = [] ∧ u.mr.recorded = s.mr.stage.foldl setRecord s.mr.recorded ∧ u.mr.gen = wrapAdd 32 s.mr.gen 1))
      ∧ (∀ st k sc, fieldAt p 0 1 = 0 → s0.applyFails = some (st, k, sc) →
        Leads (exec (.apply t m) s) (fun u => Replied u m st [] ∧ bitAt (fieldAt (u.mbox m).rsp 10 1) 0 = true
          ∧ SameUnits s u ∧ SameSettings s u))
      ∧ (fieldAt p 0 1 = 1 → Leads (exec (.apply t m) s) (fun u => SameUnits s u ∧ SameSettings s u))
      ∧ (fieldAt p 0 1 = 0 → s.mr.stage = [] →
        Leads (exec (.apply t m) s) (fun u => Replied u m stOk (leBytes 4 s.mr.gen ++ leBytes 4 0) ∧ SameUnits s u ∧ SameSettings s u))

/-- R61, R65, R67, R69, R70.

Completes with its own effect (`exec c s = .next u` for the `u` that `Leads` or the equation gives): `getInfo`, `getSettings`,
`getEvents`, `resync`. -/
def Obligations.GeneralReports : Prop :=
  ∀ (s : State) (t : Nat) (m : Fin 17),
    let p := (s.reqOf m).payload
    let s0 := s.reach t
    (Ready s t m 0x0002 (lenIs 0) →
      Leads (exec (.getInfo t m) s) (fun u => Replied u m stOk s0.info ∧ SameUnits s u ∧ SameSettings s u))
    ∧ (Ready s t m 0x0004 getLen → fieldAt p 0 1 < 3 → fieldAt p 1 1 = 0 → 1 ≤ fieldAt p 2 2 → fieldAt p 2 2 ≤ 127 →
        fieldAt p 4 4 = 0 → (∀ i < fieldAt p 2 2, fieldAt p (11 + 4 * i) 1 = 0) →
      Leads (exec (.getSettings t m) s) (fun u => (∃ head, head.length = 16
          ∧ Replied u m stOk (head ++ s.listedEntries (fieldAt p 0 1) p)) ∧ SameUnits s u ∧ SameSettings s u))
    ∧ (Ready s t m 0x0007 (lenIs 8) → 1 ≤ fieldAt p 4 2 → fieldAt p 4 2 ≤ 63 → fieldAt p 6 1 ≤ 4 → fieldAt p 7 1 ≤ 1 →
      Leads (exec (.getEvents t m) s) (fun u =>
        Replied u m stOk (s.log.answer (if fieldAt p 7 1 = 0 then s.log.ram else s.log.flash) (fieldAt p 0 4) (fieldAt p 4 2) (fieldAt p 6 1))
          ∧ SameUnits s u ∧ SameSettings s u))
    ∧ (Ready s t m 0x0001 (lenIs 8) → fieldAt p 0 1 = 0 → fieldAt p 1 3 = 0 → fieldAt p 4 4 = 0 →
      let sum := (s0.modMb m (fun b => { b with state := .busy })).summary (nextSnap s.mr.snapNo)
      Leads (exec (.resync t m) s) (fun u => Replied u m stOk (sum.take 2048)
        ∧ (u.mbox m).snap = some ⟨nextSnap s.mr.snapNo, sum⟩ ∧ u.mr.snapNo = nextSnap s.mr.snapNo
        ∧ SameUnits s u ∧ SameSettings s u))
    ∧ (∀ x : Snapshot, Ready s t m 0x0001 (lenIs 8) → 1 ≤ fieldAt p 0 1 → fieldAt p 0 1 ≤ 3 → fieldAt p 1 3 = 0 →
        (s.mbox m).snap = some x →
      Leads (exec (.resync t m) s) (fun u =>
        (if x.num = fieldAt p 4 4 then Replied u m stOk ((x.bytes.drop (2048 * fieldAt p 0 1)).take 2048) else Replied u m eState [])
        ∧ (u.mbox m).snap = some x ∧ SameUnits s u ∧ SameSettings s u))

/-- R35, R37, R38 step 2, R52.

Completes with its own effect (`exec c s = .next u` for the `u` that `Leads` or the equation gives): `mbGo`, `mbAbort`. -/
def Obligations.DoorbellPostsOrAborts : Prop :=
  ∀ (s : State) (t : Nat) (mb : Fin 16), s.hl.up = true → s.pw.st = 0 →
    let m : Fin 17 := mb.castLE (by decide)
    (∀ v : BitVec 32, v.getLsbD 0 = true → v.getLsbD 1 = false → ((s.mbox m).state = .free ∨ (s.mbox m).state = .done) →
      Leads (exec (.mbGo t mb v) s) (fun u => (u.mbox m).state = .posted ∧ (u.mbox m).tag = (s.reqOf m).tag
        ∧ (u.mbox m).doorbell = (s.reach t).clk ∧ (∀ j, j ≠ m → u.mbox j = s.mbox j) ∧ SameUnits s u ∧ SameSettings s u))
    ∧ (∀ v : BitVec 32, v.getLsbD 0 = true → v.getLsbD 1 = false →
        ((s.mbox m).state = .posted ∨ (s.mbox m).state = .busy ∨ (s.mbox m).state = .offline) →
      Leads (exec (.mbGo t mb v) s) (fun u => u.mbox m = { s.mbox m with overrun := some (max s.clk t) }
        ∧ (∀ j, j ≠ m → u.mbox j = s.mbox j) ∧ SameUnits s u ∧ SameSettings s u))
    ∧ (∀ v : BitVec 32, v.getLsbD 0 = true → v.getLsbD 1 = true →
      Leads (exec (.mbAbort t mb v) s) (fun u => u.mbox m = { s.mbox m with overrun := some (max s.clk t) } ∧ (∀ j, j ≠ m → u.mbox j = s.mbox j)
        ∧ SameUnits s u ∧ SameSettings s u))
    ∧ (∀ v : BitVec 32, v.getLsbD 0 = false → v.getLsbD 1 = true → (s.mbox m).state = .posted → s.committedIn m = false →
        s.fw.serving = true → s.fw.halted = false →
      Leads (exec (.mbAbort t mb v) s) (fun u => Replied u m eTimeout [] ∧ (∃ e ∈ u.log.ram, e.code = 0x0002)
        ∧ SameUnits s u ∧ SameSettings s u))
    ∧ (∀ v : BitVec 32, v.getLsbD 0 = false → v.getLsbD 1 = true → ((s.mbox m).state = .free ∨ (s.mbox m).state = .done) →
      exec (.mbAbort t mb v) s = .next (s.reach t))

/-- R51: no effect, CMD_TIMEOUT.

Completes with its own effect (`exec c s = .next u` for the `u` that `Leads` or the equation gives): `commandExpiry`. -/
def Obligations.ExpiredCommandEnds : Prop :=
  ∀ (s : State) (t : Nat) (m : Fin 17), (s.mbox m).state = .posted → s.fw.serving = true → s.fw.halted = false →
    s.committedIn m = false → (s.mbox m).abort = none → (s.reqOf m).timeout ≠ 0 →
    let e := (s.mbox m).doorbell + (s.reqOf m).timeout * 3000
    (e ≤ max s.clk t → Leads (exec (.commandExpiry t m) s) (fun u => Replied u m eTimeout []
        ∧ fieldAt (u.mbox m).rsp 16 8 = s.ticksAt e ∧ (∃ v ∈ u.log.ram, v.code = 0x0002) ∧ SameUnits s u ∧ SameSettings s u))
    ∧ (max s.clk t < e → exec (.commandExpiry t m) s = .next (s.reach t))

/-- R43; R46 step 1.

Completes with its own effect (`exec c s = .next u` for the `u` that `Leads` or the equation gives): `undefinedCommand`. -/
def Obligations.UnknownCodeFails : Prop :=
  ∀ (s : State) (t : Nat) (m : Fin 17), (s.reach t).mayTake m (s.mbox m).code = true → cmdSel (s.mbox m).code = none →
    cmdSel (s.reqOf m).code = none → (s.reqOf m).expired (s.reach t).clk = false →
    Leads (exec (.undefinedCommand t m) s) (fun u => Replied u m eUnknown [] ∧ SameUnits s u ∧ SameSettings s u)

/-- R64; R353 for the message.

Completes with its own effect (`exec c s = .next u` for the `u` that `Leads` or the equation gives): `flashLogCopy`,
`eventNotifyInterval`. -/
def Obligations.EventRingsAndSignal : Prop :=
  (∀ (s : State) (t : Nat), exec (.flashLogCopy t) s
      = .next ((s.reach t).modLog (fun l => { l with flash := (l.uncopied ++ l.flash).take 65536, uncopied := [] })))
  ∧ (∀ (s : State) (t p : Nat), s.log.due = true → s.log.lastMsg = some p → p + 30000 ≤ max s.clk t → s.hl.up = true →
      s.hl.msixOn = true → (s.hl.msix[s.mkey 0x0021 % 64]!).masked = false →
    Leads (exec (.eventNotifyInterval t) s) (fun u => u.hl.sent = ⟨max s.clk t, s.mkey 0x0021 % 64⟩ :: s.hl.sent
      ∧ u.log = { s.log with lastMsg := some (max s.clk t), due := false } ∧ SameUnits s u ∧ SameSettings s u))
  ∧ ∀ (s : State) (t : Nat), s.log.due = false → exec (.eventNotifyInterval t) s = .next (s.reach t)

/-- R7, R37, R347, R350, R351; R195 for the time group.

Completes with its own effect (`exec c s = .next u` for the `u` that `Leads` or the equation gives): `registerWrite`, `rsRead`. -/
def Obligations.RegisterAccess : Prop :=
  (∀ (s : State) (t : Nat) (mb : Fin 16) (o : Nat) (v : BitVec 64), s.hl.up = true → s.pw.st = 0 → o < 0x420 → o % 4 = 0 →
    let m : Fin 17 := mb.castLE (by decide)
    Memory.wf (s.mbox m).cmd = true →
    (((s.mbox m).state = .free ∨ (s.mbox m).state = .done) →
      Leads (exec (.registerWrite t (0x100000 + 0x1000 * mb.val + o) 4 v) s) (fun u =>
        memReadBytes (u.mbox m).cmd o 4 = leBytes 4 (v.toNat % 2 ^ 32)
        ∧ (∀ a, (a < o ∨ o + 4 ≤ a) → memRead (u.mbox m).cmd a = memRead (s.mbox m).cmd a)
        ∧ (u.mbox m).state = (s.mbox m).state ∧ (∀ j, j ≠ m → u.mbox j = s.mbox j) ∧ SameUnits s u ∧ SameSettings s u))
    ∧ (((s.mbox m).state = .posted ∨ (s.mbox m).state = .busy ∨ (s.mbox m).state = .offline) →
      Leads (exec (.registerWrite t (0x100000 + 0x1000 * mb.val + o) 4 v) s) (fun u =>
        u.mbox m = { s.mbox m with overrun := some (max s.clk t) } ∧ (∀ j, j ≠ m → u.mbox j = s.mbox j) ∧ SameUnits s u ∧ SameSettings s u)))
  ∧ (∀ (s : State) (t : Nat), s.hl.up = true →
    Leads (exec (.registerWrite t 0x8 4 0x10000#64) s) (fun u =>
      u.hl.linkReset = (if s.hl.linkReset = some (max s.clk t) then s.hl.linkReset else none) ∧ SameUnits s u ∧ SameSettings s u))
  ∧ (∀ (s : State) (t : Nat), s.hl.up = true →
    Leads (exec (.rsRead t 0x100 4) s) (fun u => u.readData = BitVec.ofNat 64 ((s.reach t).now.ticks % 2 ^ 32)
      ∧ u.shadow 0x100 = (s.reach t).now.wide ∧ SameUnits s u ∧ SameSettings s u))
  ∧ (∀ (s : State) (t : Nat), s.hl.up = true →
    Leads (exec (.rsRead t 0x104 4) s) (fun u => u.readData = BitVec.ofNat 64 (s.shadow 0x100 / 2 ^ 32 % 2 ^ 32) ∧ u.hl = s.hl
      ∧ SameUnits s u))
  ∧ (∀ (s : State) (t : Nat), s.hl.up = true →
    Leads (exec (.rsRead t 0x108 4) s) (fun u => u.readData = BitVec.ofNat 64 (s.shadow 0x100 / 2 ^ 64 % 2 ^ 32) ∧ u.hl = s.hl
      ∧ SameUnits s u))
  ∧ ∀ (s : State) (t : Nat), s.hl.up = true →
    Leads (exec (.rsRead t 0x0 4) s) (fun u => u.readData = 0x53840100#64 ∧ u.hl = s.hl ∧ SameUnits s u)

/-- R81, R82, R83, with the frame: only the front end of that input changes; R77: `sq` is the square of the full scale.

Completes with its own effect (`exec c s = .next u` for the `u` that `Leads` or the equation gives): `overloadAsserted`,
`protectionTrip`, `protectionAutoClose`. -/
def Obligations.FrontEndProtects : Prop :=
  (∀ (sq : Nat) (off : Int), off.natAbs ^ 2 ≤ sq → 0 < sq →
    let n := (offsetSteps sq off).natAbs
    (2 * off.natAbs) ^ 2 * 2 ^ 30 ≤ (2 * n + 1) ^ 2 * sq ∧ (1 ≤ n → (2 * n - 1) ^ 2 * sq ≤ (2 * off.natAbs) ^ 2 * 2 ^ 30)
      ∧ (0 ≤ off → 0 ≤ offsetSteps sq off) ∧ (off ≤ 0 → offsetSteps sq off ≤ 0))
  ∧ ∀ (s : State) (t : Nat) (i : Fin 4),
    let f := s.fe[i]
    let c := max s.clk t
    let frame := fun u : State => (∀ j, j ≠ i → u.fe[j] = s.fe[j]) ∧ SameUnits { s with fe := u.fe } u ∧ SameSettings s u
    (s.feOn i = true →
      (∀ first last : Nat, first ≤ last → f.asserted first = false →
        Leads (exec (.overloadAsserted t i first last) s) (fun u => u.fe[i].ovFrom = first ∧ u.fe[i].ovUntil = last + 12 * fineUnit
          ∧ u.fe[i].prot = f.prot ∧ frame u
          ∧ ((∀ a, f.ovLog = some a → a + 3000000000 ≤ c) → u.fe[i].ovCount = 0 ∧ u.fe[i].ovLog = some c
              ∧ (s.fw.serving = true → s.fw.halted = false → ∃ e ∈ u.log.ram, e.code = 0x0101))))
      ∧ (∀ first last : Nat, first ≤ last → f.asserted first = true →
        Leads (exec (.overloadAsserted t i first last) s) (fun u => u.fe[i].ovFrom = f.ovFrom
          ∧ u.fe[i].ovUntil = max f.ovUntil (last + 12 * fineUnit) ∧ u.fe[i].prot = f.prot ∧ frame u))
      ∧ (f.prot = .closed →
        let n := (f.openings.filter (fun o => decide (c < o + 3000000000))).length + 1
        Leads (exec (.protectionTrip t i) s) (fun u =>
          u.fe[i].prot = (if s.ckey 0x0105 i = 1 ∨ 9 ≤ n then .openHeld else .openAuto) ∧ u.fe[i].since = c
            ∧ u.fe[i].asserted (c * fineUnit) = true ∧ u.fe[i].openings.length = n ∧ frame u
            ∧ (s.fw.serving = true → s.fw.halted = false → ∃ e ∈ u.log.ram, e.code = 0x0102)))
      ∧ (f.prot = .openAuto → f.since + 3000000 ≤ c →
        Leads (exec (.protectionAutoClose t i) s) (fun u => u.fe[i].prot = .closed ∧ u.fe[i].ovUntil = (c + 1200) * fineUnit ∧ frame u)))
    ∧ (f.prot ≠ .closed → exec (.protectionTrip t i) s = .next (s.reach t))
    ∧ (c < f.since + 3000000 → exec (.protectionAutoClose t i) s = .next (s.reach t))
    ∧ (s.feOn i = false → ∀ first last : Nat, exec (.overloadAsserted t i first last) s = .next (s.reach t))

/-- R93 to R97.

Completes with its own effect (`exec c s = .next u` for the `u` that `Leads` or the equation gives): `graftSelfTest`,
`graftShadowSettled`, `graftWindow`, `swap`. -/
def Obligations.GraftSteps : Prop :=
  ∀ (s : State) (t : Nat) (k : Fin 4) (g : Fin 33), s.tw[k].graft = some g →
    let c := max s.clk t
    let others := fun u : State => (∀ j, j ≠ k → u.tw[j] = s.tw[j]) ∧ SameUnits { s with tw := u.tw, cal := u.cal } u ∧ SameSettings s u
    (s.stepping k = true →
      (∀ x : SliceTest, testPasses x = false → (s.tw[k].gstep = .select ∨ s.tw[k].gstep = .selfTest) →
        Leads (exec (.graftSelfTest t k x) s) (fun u => (u.slice k g).cause = 5 ∧ u.tw[k].graft = none ∧ u.tw[k].phases = s.tw[k].phases))
      ∧ (∀ x : SliceTest, testPasses x = true → (s.tw[k].gstep = .select ∨ s.tw[k].gstep = .selfTest) →
        Leads (exec (.graftSelfTest t k x) s) (fun u => u.tw[k].gstep = .shadow ∧ (u.slice k g).tOfs = x.tOfs ∧ (u.slice k g).ofs = x.tOfs
          ∧ (u.slice k g).tGain = x.tGain ∧ (u.slice k g).gain = x.tGain ∧ (u.slice k g).tim = s.timTarget k g s.tw[k].target
          ∧ (∀ y, y ≠ g → u.slice k y = s.slice k y) ∧ u.tw[k].phases = s.tw[k].phases ∧ others u))
      ∧ (s.tw[k].gstep = .shadow → exec (.graftShadowSettled t k) s
          = .next ((s.reach t).modTw k (fun v => { v with gstep := .converge, stepAt := c })))
      ∧ (∀ w : GraftWin, s.tw[k].gstep = .converge →
        Leads (exec (.graftWindow t k w) s) (fun u =>
          u.tw[k].gstep = (if w.slope < 4 ∨ w.timDiff.natAbs ≤ s.mkey 0x0202 then .match_ else .converge)
          ∧ (w.slope < 4 → u.tw[k].waived = true ∧ (u.slice k g).tim = s.timTarget k g s.tw[k].target)
          ∧ (4 ≤ w.slope → (u.slice k g).tim = clampInt (-500) 500 w.tim)
          ∧ (∀ y, y ≠ g → u.slice k y = s.slice k y) ∧ u.tw[k].phases = s.tw[k].phases ∧ others u))
      ∧ ∀ w : GraftWin, s.tw[k].gstep = .match_ →
        Leads (exec (.graftWindow t k w) s) (fun u =>
          u.tw[k].gstep = (if w.meanDiff.natAbs ≤ 8 ∧ w.gainDiff.natAbs ≤ 30 then .ready else .match_)
          ∧ (u.slice k g).ofs = clampInt (-2048) 2047 w.ofs ∧ (u.slice k g).gain = clampInt (-512) 511 w.gain
          ∧ (∀ y, y ≠ g → u.slice k y = s.slice k y) ∧ u.tw[k].phases = s.tw[k].phases ∧ others u))
    ∧ ∀ (b : Nat) (d : Fin 33), s.rotates k = true → s.tw[k].retiring = false → s.tw[k].swapNow = false →
        s.tw[k].grid = some b →
        s.tw[k].phases[s.tw[k].target] = some d →
      (c < b → exec (.swap t k) s = .next (s.reach t))
      ∧ (b ≤ c → s.tw[k].gstep = .ready → Leads (exec (.swap t k) s) (fun u =>
          u.tw[k].graft = some d ∧ u.tw[k].phases = s.tw[k].phases.set s.tw[k].target.val (some g)
          ∧ u.tw[k].swaps = satAdd 32 s.tw[k].swaps 1 ∧ u.tw[k].target = s.tw[k].target + 1 ∧ u.tw[k].gstep = .select
          ∧ u.tw[k].grid = some (b + s.swapPeriod) ∧ others u))
      ∧ (b ≤ c → s.tw[k].gstep ≠ .ready → s.tw[k].grids + 1 < s.mkey 0x0203 → exec (.swap t k) s
          = .next ((s.reach t).modTw k (fun v => { v with grid := some (b + s.swapPeriod), deferred := true, grids := v.grids + 1 })))

/-- R88, R99 to R105; R118.

Completes with its own effect (`exec c s = .next u` for the `u` that `Leads` or the equation gives): `sliceFailure`,
`sliceReplacement`, `towerSelfTest`, `trimRampStep`. -/
def Obligations.SlicesFailAndAreReplaced : Prop :=
  (∀ (s : State) (t cause onset : Nat) (k : Fin 4) (x : Fin 33), s.towerOn k = true → s.tw[k].known = true → (s.slice k x).cause = 0 →
      s.sliceOn k x = true →
    let s0 := s.reach t
    (∀ (p : Fin 32) (g : Fin 33), s.tw[k].phaseOf x = some p → 1 ≤ cause → cause ≤ 4 → s.tw[k].graft = some g → s.tw[k].repl = [] →
        s.tw[k].gstep ≠ .ready → s0.freshSwap k = none →
      Leads (exec (.sliceFailure t k x cause onset) s) (fun u => (u.slice k x).cause = cause
        ∧ u.tw[k].repl = [⟨p, some x, s0.boundaryFrom (s0.clk + 3064), false⟩] ∧ u.tw[k].oos = ⟨p, onset, none⟩ :: s.tw[k].oos
        ∧ (u.slice k g).ofs = (s.slice k g).tOfs ∧ (u.slice k g).gain = (s.slice k g).tGain ∧ u.tw[k].phases = s.tw[k].phases
        ∧ u.tw[k].graft = some g ∧ (∀ y, y ≠ x → y ≠ g → u.slice k y = s.slice k y) ∧ ∀ j, j ≠ k → u.tw[j] = s.tw[j]))
    ∧ (∀ p : Fin 32, s.tw[k].phaseOf x = some p → 1 ≤ cause → cause ≤ 4 → s.tw[k].graft = none →
      Leads (exec (.sliceFailure t k x cause onset) s) (fun u => (u.slice k x).cause = cause ∧ u.tw[k].phases = s.tw[k].phases.set p.val none
        ∧ u.tw[k].oos = ⟨p, onset, none⟩ :: s.tw[k].oos ∧ ∀ y, y ≠ x → u.slice k y = s.slice k y))
    ∧ (s.tw[k].phaseOf x = none → s.tw[k].graft = some x →
      (s.tw[k].repl = [] → Leads (exec (.sliceFailure t k x 1 onset) s) (fun u => (u.slice k x).cause = 1 ∧ u.tw[k].graft = none
        ∧ u.tw[k].phases = s.tw[k].phases))
      ∧ ∀ (r : Repl) (y : Fin 33), s.tw[k].repl = [r] → r.ready = false → r.slice = some y → (s.slice k y).cause < 6 →
        Leads (exec (.sliceFailure t k x 1 onset) s) (fun u => (u.slice k x).cause = 1 ∧ u.tw[k].graft = none ∧ u.tw[k].repl = []
          ∧ u.tw[k].phases = s.tw[k].phases.set r.phase.val none)))
  ∧ (∀ (s : State) (t : Nat) (k : Fin 4) (g : Fin 33) (r : Repl), s.towerOn k = true → s.tw[k].graft = some g → s.tw[k].repl = [r] →
    (r.ready = false → max s.clk t < r.due → exec (.sliceReplacement t k) s = .next (s.reach t))
    ∧ (r.ready = true → s.tw[k].gstep ≠ .ready → exec (.sliceReplacement t k) s = .next (s.reach t))
    ∧ ((r.ready = false ∧ r.due ≤ max s.clk t) ∨ (r.ready = true ∧ s.tw[k].gstep = .ready ∧ s.tw[k].target = r.phase
          ∧ s.boundaryFrom (s.tw[k].stepAt + 1) ≤ max s.clk t) → Leads (exec (.sliceReplacement t k) s) (fun u =>
        u.tw[k].phases = s.tw[k].phases.set r.phase.val (some g) ∧ u.tw[k].graft = none ∧ u.tw[k].repl = []
        ∧ ∀ o ∈ u.tw[k].oos, o.phase = r.phase → o.fin ≠ none)))
  ∧ (∀ (s : State) (t : Nat) (k : Fin 4) (l : List SliceTest), s.towerOn k = true → s.tw[k].known = false →
      (∀ x : Fin 33, testPasses (l.getD x.val default) = true) →
    Leads (exec (.towerSelfTest t k l) s) (fun u => (∀ p : Fin 32, u.tw[k].phases[p] = some (p.castLE (by decide)))
      ∧ u.tw[k].graft = some 32 ∧ u.tw[k].known = true
      ∧ ∀ x : Fin 33, (u.slice k x).cause = 0 ∧ (u.slice k x).tOfs = (l.getD x.val default).tOfs
          ∧ (u.slice k x).tGain = (l.getD x.val default).tGain))
  ∧ ∀ (s : State) (t : Nat) (e : RampElem) (r : Ramp), s.rampOf e = some r →
      (max s.clk t < r.start + (r.step + 1) * r.ivl → exec (.trimRampStep t e) s = .next (s.reach t))
      ∧ (r.start + (r.step + 1) * r.ivl ≤ max s.clk t → Leads (exec (.trimRampStep t e) s) (fun u =>
          u.elemVal e = stepToward (s.elemVal e) r.target (rampUnit e) ∧ SameUnits { s with tw := u.tw, cal := u.cal } u))

/-- R110, R111, R112.

Completes with its own effect (`exec c s = .next u` for the `u` that `Leads` or the equation gives): `graftControl`. -/
def Obligations.GraftControlOperations : Prop :=
  ∀ (s : State) (t : Nat) (m : Fin 17) (x : SliceTest), Ready s t m 0x0205 (lenIs 8) →
    let p := (s.reqOf m).payload
    let ts := s.selTowers (s.reqOf m).chsel
    let k := ts.getD (fieldAt p 1 1) 0
    let op := fieldAt p 0 1
    let ph : Fin 32 := Fin.ofNat 32 (fieldAt p 3 1)
    let y : Fin 33 := Fin.ofNat 33 (fieldAt p 2 1)
    let denied := s.graftDenied k op y ph
    (graftForm ts.length p = false →
      Leads (exec (.graftControl t m x) s) (fun u => Replied u m eParam [] ∧ SameUnits s u ∧ SameSettings s u))
    ∧ (graftForm ts.length p = true → denied = true →
      Leads (exec (.graftControl t m x) s) (fun u => Replied u m eState [] ∧ SameUnits s u ∧ SameSettings s u))
    ∧ (graftForm ts.length p = true → denied = false → (s.reqOf m).expired ((s.reach t).boundary) = false →
      (op = 0 → Leads (exec (.graftControl t m x) s) (fun u =>
          Replied u m stOk (((s.reach t).reach (s.reach t).boundary).towerRecord k) ∧ SameUnits s u ∧ SameSettings s u))
      ∧ (op = 1 → Leads (exec (.graftControl t m x) s) (fun u => (∃ rec, Replied u m stOk rec) ∧ u.tw[k].paused = true
          ∧ u.tw[k].phases = s.tw[k].phases ∧ ∀ j, j ≠ k → u.tw[j] = s.tw[j]))
      ∧ (op = 2 → Leads (exec (.graftControl t m x) s) (fun u => (∃ rec, Replied u m stOk rec) ∧ u.tw[k].paused = false
          ∧ u.tw[k].phases = s.tw[k].phases ∧ ∀ j, j ≠ k → u.tw[j] = s.tw[j]))
      ∧ (op = 3 → Leads (exec (.graftControl t m x) s) (fun u => (∃ rec, Replied u m stOk rec) ∧ u.tw[k].target = ph
          ∧ u.tw[k].phases = s.tw[k].phases ∧ ∀ j, j ≠ k → u.tw[j] = s.tw[j]))
      ∧ (op = 4 → Leads (exec (.graftControl t m x) s) (fun u => (∃ rec, Replied u m stOk rec) ∧ (u.slice k y).cause = 7
          ∧ ∀ q, s.tw[k].phaseOf y = some q → u.tw[k].phases = s.tw[k].phases ∧ ∃ r ∈ u.tw[k].repl, r.phase = q ∧ r.slice = some y ∧ r.ready = true))
      ∧ (op = 5 → testPasses x = true → Leads (exec (.graftControl t m x) s) (fun u => (∃ rec, Replied u m stOk rec)
          ∧ (u.slice k y).cause = 0 ∧ u.tw[k].graft = some y ∧ u.tw[k].phases = s.tw[k].phases))
      ∧ (op = 5 → testPasses x = false → Leads (exec (.graftControl t m x) s) (fun u => (∃ rec, Replied u m eHw rec)
          ∧ (u.slice k y).cause = (s.slice k y).cause ∧ u.tw[k].graft = s.tw[k].graft ∧ u.tw[k].phases = s.tw[k].phases))
      ∧ (op = 6 → Leads (exec (.graftControl t m x) s) (fun u => (∃ rec, Replied u m stOk rec) ∧ u.tw[k].swapNow = true
          ∧ u.tw[k].phases = s.tw[k].phases ∧ ∀ j, j ≠ k → u.tw[j] = s.tw[j])))

/-- R133 to R137.

Completes with its own effect (`exec c s = .next u` for the `u` that `Leads` or the equation gives): `calRun`, `calRunEnd`,
`calStatus`. -/
def Obligations.CalibrationRuns : Prop :=
  (∀ (s : State) (t : Nat) (m : Fin 17), Ready s t m 0x0201 (lenIs 8) →
    let p := (s.reqOf m).payload
    let kind := fieldAt p 0 1
    let cs := selChans (s.reqOf m).chsel
    let bad := !(decide (kind ≤ 5)) || (if kind = 0 ∨ kind = 5 then fieldAt p 1 1 == 0 else fieldAt p 1 1 != 0) || !(allZero (p.drop 2))
    let fails := fun st => Leads (exec (.calRun t m) s) (fun u => Replied u m st [] ∧ SameUnits s u ∧ SameSettings s u)
    (bad = true → fails eParam)
    ∧ (bad = false → s.calMay kind cs = false → fails eState)
    ∧ (bad = false → s.calMay kind cs = true → (∃ c ∈ cs, s.calHeld c = true) → fails eBusy)
    ∧ (bad = false → s.calMay kind cs = true → (∀ c ∈ cs, s.calHeld c = false) → s.mr.work.length < 16 →
        (combKind kind = true → ∀ c ∈ cs, s.ckey 0x0103 c = 0) →
        Leads (exec (.calRun t m) s) (fun u => Replied u m stAccepted [] ∧ SameUnits { s with cal := { s.cal with covered := u.cal.covered } } u
          ∧ u.mr.work = s.mr.work ++ [⟨m.val, (s.reqOf m).code, (s.reqOf m).tag, max s.clk t, (s.reqOf m).chsel, kind + 256 * fieldAt p 1 1⟩])))
  ∧ (∀ (s : State) (t : Nat) (c : Fin 4) (r : CalResult),
      s.mr.work.find? (Work.calOf c) = none → exec (.calRunEnd t c r) s = .next (s.reach t))
  ∧ (∀ (s : State) (t kind : Nat) (h : kind % 6 < 6) (c : Fin 4) (r : CalResult) (w : Work),
      s.mr.work.find? (Work.calOf c) = some w → w.arg2 % 256 = kind →
      let done := fun u : State => u.mr.work = s.mr.work.eraseP (Work.calOf c) ∧ SameUnits { s with tw := u.tw, cal := u.cal } u
      (combKind kind = true → calOk r = false → Leads (exec (.calRunEnd t c r) s) (fun u => u.cal.ws = s.cal.ws
        ∧ u.cal.runs[kind % 6].status = eHw ∧ u.cal.runs[kind % 6].cover = 0 ∧ u.tw = s.tw ∧ done u))
      ∧ (combKind kind = true → calOk r = true → Leads (exec (.calRunEnd t c r) s) (fun u =>
          u.cal.runs[kind % 6].status = stOk ∧ u.cal.runs[kind % 6].cover = 100 ∧ done u
          ∧ (kind = 0 →
            let new : List (Nat × Corr) := (r.corrs.filter (fun e => corrWanted w.arg (w.arg2 / 256) e.1)).map (fun e => (e.1, ⟨e.2.1, e.2.2⟩))
            u.cal.ws = { s.cal.ws with corrs := itemsPut new s.cal.ws.corrs })
          ∧ (kind = 1 → u.cal.ws = { s.cal.ws with
              delays := itemsPut (r.delays.filter (fun e => s.delayWanted w.arg e.1)) s.cal.ws.delays
              eqs := itemsPut (r.eqs.filter (fun e => s.eqWanted w.arg e.1)) s.cal.ws.eqs })
          ∧ (kind = 2 → u.cal.ws = { s.cal.ws with fe := itemsPut (r.fe.filter (fun e => s.feWanted w.arg e.1)) s.cal.ws.fe })))
      ∧ (combKind kind = false → r.final = true → r.fits = [] → Leads (exec (.calRunEnd t c r) s) (fun u => done u
          ∧ u.cal.runs[kind % 6].status = (if (s.toCover w.arg).all (s.isCovered kind) then stOk else eDegraded)))
      ∧ (kind = 4 → r.final = false → exec (.calRunEnd t c r) s = .next (s.reach t))
      ∧ (kind = 3 → r.final = false → ∀ (f : SliceFit) (k : Fin 4) (x : Fin 33), r.fits = [f] →
          (s.toCover w.arg).find? (fun e => sliceKey e.1 e.2 == f.slice) = some (k, x) → fitDone f = true → s.towerOn k = true →
          Leads (exec (.calRunEnd t c r) s) (fun u => (u.slice k x).tOfs = clampInt (-2048) 2047 f.ofs
            ∧ (u.slice k x).tGain = (if fitGains f = true then clampInt (-512) 511 f.gain else (s.slice k x).tGain)
            ∧ u.mr.work = s.mr.work ∧ SameUnits { s with tw := u.tw, cal := u.cal } u)))
  ∧ ∀ (s : State) (t : Nat) (m : Fin 17), Ready s t m 0x0202 (lenIs 0) →
      Leads (exec (.calStatus t m) s) (fun u => (∃ bs, Replied u m stOk bs ∧ bs.length = 136
        ∧ bs = (s.reach t).calStatus ((selChans (s.reqOf m).chsel).headD 0)) ∧ SameUnits s u ∧ SameSettings s u)

/-- R128 to R130; R141, R142; R144.

Completes with its own effect (`exec c s = .next u` for the `u` that `Leads` or the equation gives): `loadCurve`, `calCommit`,
`calStoreCompletion`, `calRevert`. -/
def Obligations.CurvesAndBanks : Prop :=
  (∀ (s : State) (t : Nat) (m : Fin 17) (b : Bulk), Ready s t m 0x0206 (lenIs 24) →
    let p := (s.reqOf m).payload
    let ts := s.selTowers (s.reqOf m).chsel
    let c := (selChans (s.reqOf m).chsel).headD 0
    let k := ts.getD (fieldAt p 1 1) 0
    let x : Fin 33 := Fin.ofNat 33 (fieldAt p 2 1)
    let fails := fun st => Leads (exec (.loadCurve t m b) s) (fun u => Replied u m st [] ∧ SameUnits s u ∧ SameSettings s u)
    (curveForm ts.length p = false → fails eParam)
    ∧ (curveForm ts.length p = true → s.calHeld c = false → b = none → fails eHw)
    ∧ (curveForm ts.length p = true → fieldAt p 0 1 = 1 → s.calHeld c = false → ∀ bs, bulkBytes p 8 b = some bs →
        let kp := s.phaseOfChan c (fieldAt p 4 2)
        let key := phaseKey s.mode kp.1 kp.2
        (eqValid (eqOf bs) = false → fails eParam)
        ∧ (eqValid (eqOf bs) = true → s.running c = true → Leads (exec (.loadCurve t m b) s) (fun u =>
            Replied u m stOk (leBytes 1 2 ++ List.replicate 7 0#8) ∧ u.cal.ws = s.cal.ws ∧ u.cal.pendEqs = itemPut key (eqOf bs) s.cal.pendEqs))
        ∧ (eqValid (eqOf bs) = true → s.running c = false → Leads (exec (.loadCurve t m b) s) (fun u =>
            Replied u m stOk (List.replicate 8 0#8) ∧ u.cal.ws = { s.cal.ws with eqs := itemPut key (eqOf bs) s.cal.ws.eqs })))
    ∧ (curveForm ts.length p = true → fieldAt p 0 1 = 0 → ∀ bs, bulkBytes p 8 b = some bs →
        (curveValid (curveOf bs) = false → fails eParam)
        ∧ (curveValid (curveOf bs) = true → s.calHeld c = true → fails eBusy)
        ∧ (curveValid (curveOf bs) = true → s.calHeld c = false →
            let waits := (s.tw[k].phaseOf x).isSome && (s.slice k x).cause == 0 && s.sliceOn k x && s.running c
            (waits = false → Leads (exec (.loadCurve t m b) s) (fun u => Replied u m stOk (List.replicate 8 0#8)
              ∧ u.cal.ws = { s.cal.ws with curves := itemPut (sliceKey k x) (curveOf bs) s.cal.ws.curves } ∧ SameSettings s u))
            ∧ (waits = true → Leads (exec (.loadCurve t m b) s) (fun u => u.cal.ws = s.cal.ws ∧ SameSettings s u
              ∧ Replied u m stOk (leBytes 1 (if s.tw[k].graft.isSome then 1 else 2) ++ List.replicate 7 0#8)
              ∧ u.cal.pendCurves = itemPut (sliceKey k x) (curveOf bs) s.cal.pendCurves)))))
  ∧ (∀ (s : State) (t : Nat) (m : Fin 17), Ready s t m 0x0203 (lenIs 0) →
      (s.working 0x0203 = true → Leads (exec (.calCommit t m) s) (fun u => Replied u m eBusy [] ∧ SameUnits s u ∧ SameSettings s u))
      ∧ (s.working 0x0203 = false → s.working 0x0901 = false → s.mr.work.length < 16 → s.cal.seq < 0xFFFFFFFF →
        Leads (exec (.calCommit t m) s) (fun u => Replied u m stAccepted [] ∧ (u.cal.bank s.cal.inactive).valid = false
          ∧ u.cal.storing = some (s.cal.inactive, s.workSet, (s.reach t).ticks) ∧ u.cal.active = s.cal.active
          ∧ (∀ a, s.cal.active = some a → u.cal.bank a = s.cal.bank a) ∧ u.cal.ws = s.cal.ws
          ∧ SameUnits { s with cal := u.cal } u)))
  ∧ (∀ (s : State) (t : Nat) (ok : Bool), s.cal.storing = none → exec (.calStoreCompletion t ok) s = .next (s.reach t))
  ∧ (∀ (s : State) (t at_ : Nat) (b : Fin 2) (w : WorkSet), s.cal.storing = some (b, w, at_) →
      Leads (exec (.calStoreCompletion t true) s) (fun u => u.cal.active = some b ∧ u.cal.storing = none ∧ (u.cal.bank b).valid = true
          ∧ (u.cal.bank b).seq = s.cal.seq + 1 ∧ (u.cal.bank b).data = w ∧ (u.cal.bank b).ticks = at_ ∧ u.cal.ws = s.cal.ws
          ∧ SameUnits { s with cal := u.cal, fw := u.fw } u)
      ∧ Leads (exec (.calStoreCompletion t false) s) (fun u => u.cal = { s.cal with storing := none }
          ∧ SameUnits { s with cal := u.cal } u))
  ∧ ∀ (s : State) (t : Nat) (m : Fin 17) (a : Fin 2), Ready s t m 0x0204 (lenIs 8) → allZero ((s.reqOf m).payload.drop 1) = true →
      s.working 0x0203 = false → s.working 0x0201 = false → s.working 0x0901 = false → (∀ c, s.running c = false) → s.cal.active = some a →
      let pending := fun u : State => u.cal.pendCurves = [] ∧ u.cal.pendEqs = [] ∧ u.cal.pendDelays = [] ∧ u.cal.pendFe = []
      (fieldAt (s.reqOf m).payload 0 1 = 0 → s.cal.seq < 0xFFFFFFFF → Leads (exec (.calRevert t m) s) (fun u => Replied u m stOk []
        ∧ u.cal.ws = (s.cal.bank a).data ∧ u.cal.active = some a ∧ pending u ∧ SameSettings s u))
      ∧ (fieldAt (s.reqOf m).payload 0 1 = 1 → (s.cal.bank s.cal.inactive).valid = true → s.cal.seq < 0xFFFFFFFF →
        Leads (exec (.calRevert t m) s) (fun u => Replied u m stOk [] ∧ u.cal.ws = (s.cal.bank s.cal.inactive).data
          ∧ u.cal.active = some s.cal.inactive ∧ (u.cal.bank s.cal.inactive).seq = s.cal.seq + 1 ∧ pending u ∧ SameSettings s u))

/-- R122 to R125.

Completes with its own effect (`exec c s = .next u` for the `u` that `Leads` or the equation gives): `skewWindow`. -/
def Obligations.SkewLoopWindows : Prop :=
  (∀ (s : State) (t tick : Nat) (c : Fin 4) (codes : Codes),
    let s0 := s.reach t
    let g := s0.skewStream tick codes
    let ends := s.present c && (s.towers c).all s.towerOn && s0.skewEnds c tick g
    (ends = false → exec (.skewWindow t c tick codes) s = .next s0)
    ∧ (ends = true → exec (.skewWindow t c tick codes) s = .next (s0.skewUpdate c (s0.skewEst c g) (s0.skewSlope c g) (s0.skewFull c g)))
    ∧ ∀ q : Nat, ((s0.phaseIndexes c g q).length < skewLen ∨ s0.disturbed c q s.cal.winFrom[c] = true) → s0.skewPair c g q = none)
  ∧ ∀ (s : State) (c : Fin 4) (est : List (Option (Nat × Nat))),
    let ps := s.chanPhases c
    let new := skewStep (samplesPerTick s.mode) (s.mkey 0x0302) (ps.map (fun e => s.loopCorr e.1 e.2)) est
    let ds := skewDeltas (samplesPerTick s.mode) ps.length s.cal.deltas[c] est
    (∀ full, s.skewUpdate c est false full = s.modCal (fun k => { k with
        windows := satAdd 32 k.windows 1, held := satAdd 32 k.held 1, winFrom := k.winFrom.set c.val s.clk }))
    ∧ s.skewUpdate c est true false = s.modCal (fun k => { k with
        windows := satAdd 32 k.windows 1, winFrom := k.winFrom.set c.val s.clk })
    ∧ (s.mkey 0x0301 = 0 → s.skewUpdate c est true true = s.modCal (fun k => { k with
        windows := satAdd 32 k.windows 1, winFrom := k.winFrom.set c.val s.clk, deltas := k.deltas.set c.val ds }))
    ∧ (s.mkey 0x0301 ≠ 0 →
        let u := s.skewUpdate c est true true
        u.cal.deltas = s.cal.deltas.set c.val ds ∧ u.cal.winFrom[c] = s.clk ∧ u.cal.windows = satAdd 32 s.cal.windows 1
        ∧ (∀ i < ps.length, u.loopCorr (ps.getD i (0, 0)).1 (ps.getD i (0, 0)).2 = (new.getD i (0, false)).1
            ∧ -250 ≤ (new.getD i (0, false)).1 ∧ (new.getD i (0, false)).1 ≤ 250)
        ∧ SameSettings s u ∧ SameUnits { s with cal := u.cal, tw := u.tw } u)

/-- R152 to R154, R156, R157, R161; R171.

Completes with its own effect (`exec c s = .next u` for the `u` that `Leads` or the equation gives): `refGate`, `refLoss`,
`refQualification`, `disciplineUpdate`, `sscChange`. -/
def Obligations.ReferenceAndDiscipline : Prop :=
  ∀ (s : State) (t : Nat), s.ar.role = 0 →
    let c := max s.clk t
    (∀ (edges : Bool) (freq : Nat),
      let code := if edges then nominalOf (s.mkey 0x0400) freq else 0
      let st := if !edges then 0 else if s.inWindow code freq then 1 else 2
      let changed := s.ck.refState != 1 || s.ck.refFreq != code
      ((s.ck.refQual = false ∨ (st = 1 ∧ changed = false)) →
        Leads (exec (.refGate t edges freq) s) (fun u => u.ck = { s.ck with
            refState := st, refFreq := code, gateAt := c, refSince := if changed then s.ck.gateAt else s.ck.refSince }
          ∧ SameUnits { s with ck := u.ck } u ∧ SameSettings s u))
      ∧ (s.ck.refQual = true → (st ≠ 1 ∨ changed = true) → s.ck.disc = 1 →
        Leads (exec (.refGate t edges freq) s) (fun u => u.ck.refState = st ∧ u.ck.refFreq = code ∧ u.ck.refQual = false ∧ u.ck.disc = 2
          ∧ u.tm.qual.getLsbD 0 = false ∧ u.tm.qual.getLsbD 1 = true ∧ SameUnits { s with ck := u.ck, tm := u.tm } u
          ∧ (s.fw.serving = true → s.fw.halted = false → ∃ e ∈ u.log.ram, e.code = 0x0401))))
    ∧ (s.ck.refState = 0 → exec (.refLoss t) s = .next (s.reach t))
    ∧ (s.ck.refState ≠ 0 → s.ck.refQual = true → s.ck.disc = 1 →
      Leads (exec (.refLoss t) s) (fun u => u.ck.refState = 0 ∧ u.ck.refQual = false ∧ u.ck.disc = 2 ∧ u.ck.steer = s.meanSteer s.ck.gateAt
        ∧ u.tm.qual.getLsbD 0 = false ∧ u.tm.qual.getLsbD 1 = true ∧ SameUnits { s with ck := u.ck, tm := u.tm } u))
    ∧ (∀ e : Int, s.ck.refState = 1 → s.ck.refQual = false → s.mkey 0x0400 ≠ 3 → s.pw.st ≤ 2 →
        let e1 := (s.measured e).1
        (s.ck.refSince + s.mkey 0x0402 * 3000000 ≤ c →
          Leads (exec (.refQualification t e) s) (fun u => u.ck.refQual = true ∧ u.ck.firstQual = true ∧ u.ck.e = e1
            ∧ u.ck.disc = (if s.ck.disc = 0 ∧ s.ck.firstQual = false ∧ s.anyArmed = false then 5
                else if e1.natAbs ≤ s.phaseTol then 1
                else if s.mkey 0x0403 = 0 then 4 else if s.mkey 0x0403 = 1 then 5 else 3)
            ∧ SameUnits { s with ck := u.ck, tm := u.tm } u))
        ∧ (c < s.ck.refSince + s.mkey 0x0402 * 3000000 → exec (.refQualification t e) s = .next (s.reach t)))
    ∧ (∀ e steer : Int,
        let e1 := (s.measured e).1
        let d := if s.ck.disc = 4 ∧ e1.natAbs ≤ s.phaseTol then 1 else s.ck.disc
        let pull := (s.modCk (fun k => { k with e := e1, disc := d })).phasePull
        pull.natAbs ≤ 10000
        ∧ (s.ck.refQual = true → (s.ck.disc = 1 ∨ 3 ≤ s.ck.disc) → s.pw.st ≤ 2 → (s.reach t).loopDue = true →
          Leads (exec (.disciplineUpdate t e steer) s) (fun u => u.ck.e = e1
            ∧ u.ck.steer = clampInt (-2500000) 2500000 (steer + pull) ∧ u.ck.disc = d
            ∧ SameUnits { s with ck := u.ck, tm := u.tm } u))
        ∧ ((s.ck.refQual = false ∨ (s.reach t).loopDue = false) → exec (.disciplineUpdate t e steer) s = .next (s.reach t)))
    ∧ exec (.sscChange t) s = .next ((s.reach t).modCk (fun k => { k with sscMode := s.mkey 0x0406, sscDepth := s.mkey 0x0407 }))

/-- R159.

Completes with its own effect (`exec c s = .next u` for the `u` that `Leads` or the equation gives): `clockStep`. -/
def Obligations.ClockSteps : Prop :=
  (∀ (s : State) (t : Nat) (e : Int), s.ar.role = 0 → s.ar.epochs = [] →
    (s.ck.disc ≠ 5 → exec (.clockStep t e) s = .next (s.reach t))
    ∧ (s.ck.synth ≠ 0 → exec (.clockStep t e) s = .next (s.reach t))
    ∧ ∀ f : Nat, s.ck.disc = 5 → s.ck.synth = 0 → s.tm.epoch = none → s.ppsEpoch s.ck.since = some f →
      let b := s.boundaryFrom (ceilDiv f fineUnit)
      let e1 := (s.measured e).1
      let k := stepTicks e1
      let rest := e1 - divHalfEven (k * 1000000) 3
      (max s.clk t < b → exec (.clockStep t e) s = .next (s.reach t))
      ∧ (b ≤ max s.clk t → Leads (exec (.clockStep t e) s) (fun u => u.tm.off = s.tm.off - k ∧ u.tm.epochEdge = none ∧ u.ck.e = rest
          ∧ u.ck.disc = (if rest.natAbs ≤ s.phaseTol then 1 else 4)
          ∧ (k ≠ 0 → u.ck.lastStep = -k ∧ u.tm.qual.getLsbD 2 = true)
          ∧ u.mr.work = (if rest.natAbs ≤ s.phaseTol then s.mr.work.eraseP (fun w => w.code == 0x0404 && w.arg == 1) else s.mr.work)
          ∧ SameUnits { s with ck := u.ck, tm := u.tm, ch := u.ch, evq := u.evq } u
          ∧ SameSettings { s with mr := { s.mr with work := u.mr.work } } u)))
  ∧ (∀ (s : State) (t f : Nat) (e : Int), s.ar.role = 1 → s.ar.epochs = [] → s.ck.disc = 5 → s.ck.synth = 0 → s.tm.epoch = none →
      s.ppsEpoch s.ck.since = some f → ceilDiv f fineUnit ≤ max s.clk t → 0 ≤ (max s.clk t : Int) + s.tm.off →
    let b := s.boundaryFrom (ceilDiv f fineUnit + s.mkey 0x0E04)
    let e1 := (s.measured e).1
    let k := stepTicks e1
    max s.clk t < b → k ≠ 0 → Leads (exec (.clockStep t e) s) (fun u => u.tm = s.tm
      ∧ u.ar.epochs = [⟨s.ticksAt b, -k, 0, some (e1 - divHalfEven (k * 1000000) 3)⟩]
      ∧ ⟨max s.clk t, 0x02, 0xFFFF, [s.ticksAt b, encInt 64 (-k), 0]⟩ ∈ u.ar.tx))
  ∧ ∀ (s : State) (t : Nat) (e : Int) (d : DueEpoch), (s.reach t).dueEpoch false = some d → d.rest = none →
      Leads (exec (.clockStep t e) s) (fun u => u.tm.off = s.tm.off + d.delta ∧ u.ar.epochs = s.ar.epochs.erase d)

/-- R163 to R168, R170.

Completes with its own effect (`exec c s = .next u` for the `u` that `Leads` or the equation gives): `loadBandTable`, `relock`,
`lockLoss`, `bandEdge`, `overspeed`, `lockDeclared`, `frequencyAgreement`, `relockAttemptFailure`, `relockCompletion`. -/
def Obligations.RelockCourse : Prop :=
  (∀ (s : State) (t : Nat) (m : Fin 17) (x : Int),
    let p := (s.reqOf m).payload
    (Ready s t m 0x0403 bandLen →
      let n := fieldAt p 0 1
      let good := 1 ≤ n ∧ n ≤ 32 ∧ fieldAt p 1 7 = 0 ∧ (List.range n).all (bandOk p) = true
      (good → s.clockBusy = false → Leads (exec (.loadBandTable t m x) s) (fun u => u.ck.bands = (List.range n).map (bandAt p)
        ∧ (∃ bs, Replied u m stOk bs) ∧ SameUnits { s with ck := { s.ck with bands := u.ck.bands } } u ∧ SameSettings s u))
      ∧ (good → s.clockBusy = true → Leads (exec (.loadBandTable t m x) s) (fun u => Replied u m eBusy [] ∧ SameUnits s u))
      ∧ (¬ good → Leads (exec (.loadBandTable t m x) s) (fun u => Replied u m eParam [] ∧ SameUnits s u)))
    ∧ (Ready s t m 0x0404 (lenIs 8) → fieldAt p 0 1 = 0 → fieldAt p 1 1 = 0 → fieldAt p 2 6 = 0 →
      ((∃ c, s.running c = true) → Leads (exec (.relock t m x) s) (fun u => Replied u m eState [] ∧ SameUnits s u ∧ SameSettings s u))
      ∧ ((∀ c, s.running c = false) → (∀ o, s.out[(o : Fin 2)].st ≠ 3) → s.clockBusy = false → s.mr.work.length < 16 →
        Leads (exec (.relock t m x) s) (fun u => Replied u m stAccepted [] ∧ u.ck.synth = 1
          ∧ ∃ r, u.ck.relock = some r ∧ r.cause = 1 ∧ r.entry = s.bandFor x))))
  ∧ (∀ (s : State) (t : Nat) (x : Int),
      let begins := fun (o : Out) (cause : Nat) => Leads o (fun u => u.ck.synth = 1
        ∧ ∃ r, u.ck.relock = some r ∧ r.cause = cause ∧ r.entry = s.bandFor x)
      (s.rootDrives = true → begins (exec (.lockLoss t x) s) 3)
      ∧ (s.rootDrives = false → exec (.lockLoss t x) s = .next (s.reach t))
      ∧ (∀ v : Nat, s.rootDrives = true → (970 < v ∨ v < 30) → s.mkey 0x0409 = 1 → s.ck.synth = 0 → begins (exec (.bandEdge t v x) s) 2)
      ∧ (∀ v : Nat, s.rootDrives = true → 30 ≤ v → v ≤ 970 → Leads (exec (.bandEdge t v x) s) (fun u =>
          u.ck = { s.ck with edge90 := decide (900 < v ∨ v < 100) } ∧ SameUnits { s with ck := u.ck } u ∧ SameSettings s u))
      ∧ (∀ v : Nat, s.rootDrives = true → 300 < v → begins (exec (.overspeed t v x) s) 4)
      ∧ ∀ v : Nat, v ≤ 300 → exec (.overspeed t v x) s = .next (s.reach t))
  ∧ ∀ (s : State) (t : Nat) (r : Relock), s.ck.relock = some r →
      (r.step = 4 → exec (.lockDeclared t) s
        = .next ((s.reach t).modCk (fun k => { k with relock := some { r with step := 5, began := max s.clk t } })))
      ∧ (r.step ≠ 4 → exec (.lockDeclared t) s = .next (s.reach t))
      ∧ (r.step = 5 → exec (.frequencyAgreement t) s = .next ((s.reach t).modCk (fun k => { k with
          relock := some { r with step := 8, began := max s.clk t }, band := r.band, tries := r.attempt, refOutOven := false
          edge90 := false })))
      ∧ (∀ (v : Nat) (x : Int), 300 < v → s.rootDrives = false → r.step = 2 → Leads (exec (.overspeed t v x) s) (fun u =>
          u.ck.relock = some { r with step := 4, attempt := 1 } ∧ u.ck.synth = s.ck.synth ∧ u.ck.refOutOven = true))
      ∧ (r.step = 4 ∨ r.step = 5 → ∀ b, (bandOrder r.entry.band)[r.attempt]? = some b → exec (.relockAttemptFailure t) s
          = .next ((s.reach t).modCk (fun k => { k with
            relock := some { r with step := 4, attempt := r.attempt + 1, band := b, began := max s.clk t } })))
      ∧ (r.step = 4 ∨ r.step = 5 → (bandOrder r.entry.band)[r.attempt]? = none → s.waitingArm = none → s.followers = [] →
          Leads (exec (.relockAttemptFailure t) s) (fun u => u.ck = { s.ck with synth := 2, relock := none }
            ∧ SameUnits { s with ck := u.ck } u))
      ∧ (r.step = 8 → Leads (exec (.relockCompletion t) s) (fun u => u.ck.synth = 0 ∧ u.ck.relock = none ∧ u.ck.sscOn = true
          ∧ u.ck.since = max s.clk t ∧ u.tm.epochEdge = none))

/-- R183, R184, R197.

Completes with its own effect (`exec c s = .next u` for the `u` that `Leads` or the equation gives): `setTime`, `epochMark`,
`getTimeStatus`. -/
def Obligations.TimeIsSetByMarks : Prop :=
  (∀ (s : State) (t : Nat) (m : Fin 17), Ready s t m 0x0401 (lenIs 16) →
    let p := (s.reqOf m).payload
    let f := fieldAt p 0 1
    let good := f ≤ 1 ∧ fieldAt p 1 7 = 0 ∧ fieldAt p 8 8 ≤ 4000000000
    let denied := s.isMember = true ∨ (f = 1 ∧ s.tm.ppsQual = false)
    (¬ good → Leads (exec (.setTime t m) s) (fun u => Replied u m eParam [] ∧ SameUnits s u ∧ SameSettings s u))
    ∧ (good → denied → Leads (exec (.setTime t m) s) (fun u => Replied u m eState [] ∧ SameUnits s u ∧ SameSettings s u))
    ∧ (good → ¬ denied → Leads (exec (.setTime t m) s) (fun u => Replied u m stOk (s.reach t).setTimeResp
        ∧ ((s.reach t).epochCome = false →
            u.tm = { s.tm with epoch := some ⟨fieldAt p 8 8, f == 1, max s.clk t⟩, epochEdge := none })
        ∧ ((s.reach t).epochCome = true → u.tm = { s.tm with epochNext := some ⟨fieldAt p 8 8, f == 1, max s.clk t⟩ })
        ∧ SameUnits { s with tm := u.tm } u ∧ SameSettings s u)))
  ∧ (∀ (s : State) (t : Nat), s.ar.role = 0 → s.ar.epochs = [] →
      (s.tm.epoch = none → exec (.epochMark t) s = .next (s.reach t))
      ∧ ∀ (q : EpochReq) (f : Nat), s.tm.epoch = some q → s.ck.relock = none → s.ck.synth ≠ 2 → s.ppsEpoch q.since = some f →
          s.ck.disc ≠ 5 →
        let b := s.boundaryFrom (ceilDiv f fineUnit)
        (max s.clk t < b → exec (.epochMark t) s = .next (s.reach t))
        ∧ (b ≤ max s.clk t → Leads (exec (.epochMark t) s) (fun u =>
            u.tm.off = s.tm.off + ((q.seconds * 3000000000 : Nat) - nearest4 ((f : Int) + s.tm.off * fineUnit))
            ∧ u.tm.epoch = s.tm.epochNext.map (fun x => { x with since := max s.clk t }) ∧ u.tm.epochNext = none
            ∧ u.tm.epochEdge = none ∧ u.tm.epochAt = some b ∧ u.tm.qual.getLsbD 2 = false ∧ u.ck.disc = s.ck.disc
            ∧ SameUnits { s with ck := u.ck, tm := u.tm, ch := u.ch, evq := u.evq } u ∧ SameSettings s u)))
  ∧ (∀ (s : State) (t : Nat) (d : DueEpoch), (s.reach t).dueEpoch true = some d → d.rest = none →
      Leads (exec (.epochMark t) s) (fun u => u.tm.off = s.tm.off + d.delta ∧ u.tm.qual.getLsbD 2 = false
        ∧ u.ar.epochs = s.ar.epochs.erase d))
  ∧ ∀ (s : State) (t : Nat) (m : Fin 17), Ready s t m 0x0402 (lenIs 0) →
      Leads (exec (.getTimeStatus t m) s) (fun u => Replied u m stOk (s.reach t).timeStatus ∧ (s.reach t).timeStatus.length = 96
        ∧ SameUnits s u ∧ SameSettings s u)

/-- R180, R181; R186 to R188.

Completes with its own effect (`exec c s = .next u` for the `u` that `Leads` or the equation gives): `tdcEdge`, `ppsEdge`,
`ppsMissing`, `ppsOutPulse`, `ppsOutEnd`, `tdcCalibration`, `tdcCalTimeout`. -/
def Obligations.PpsAndTdcEdges : Prop :=
  (∀ (s : State) (t frac : Nat) (c : Fin 10) (fall : Bool) (low high : Int),
    let fine := t * fineUnit + frac % fineUnit
    (s.edgeSwings c low high t = false ∨ s.edgeActive c fall t = false → exec (.tdcEdge t c frac ⟨fall, low, high⟩) s = .next (s.reach t))
    ∧ (s.edgeSwings c low high t = true → s.edgeActive c fall t = true → s.pw.st ≤ 2 → (s.clockStopped = true ∨ fine < s.tm.dead[c]) →
        exec (.tdcEdge t c frac ⟨fall, low, high⟩) s
          = .next ((s.reach t).modTm (fun m => { m with missed := m.missed.set c.val (m.missed[c] + 1) })))
    ∧ (s.edgeSwings 0 low high t = true → s.edgeUser 0 fall t = true → s.pw.st ≤ 2 → s.clockStopped = false →
        s.tm.dead[(0 : Fin 10)] ≤ fine → s.tm.blank[(0 : Fin 2)] = 0 → s.tm.meas = [] →
        Leads (exec (.tdcEdge t 0 frac ⟨fall, low, high⟩) s) (fun u =>
          u.evq = s.evq ++ [⟨fine, 0x10, s.stampAt fine 2 s.tm.cal[(0 : Fin 10)], 0xF#4, s.cycleOf fine + 404,
            s.tm.cal[(0 : Fin 10)], fine⟩]
          ∧ u.tm = { s.tm with dead := s.tm.dead.set 0 (fine + 300 * fineUnit) } ∧ u.ch = s.ch))
    ∧ (s.keyAt 0x0500 0 t = flag fall → s.pw.st ≤ 2 → s.clockStopped = false → s.tm.dead[(2 : Fin 10)] ≤ fine → s.tm.meas = [] →
        let near := s.tm.ppsLast.any (fun a => s.ppsNear a fine)
        (near = true → Leads (exec (.ppsEdge t frac fall) s) (fun u => u.tm.ppsLast = some fine
          ∧ u.tm.ppsCount = min 65535 (s.tm.ppsCount + 1) ∧ u.tm.off = s.tm.off
          ∧ u.tm.ppsQual = (s.tm.ppsQual || decide (s.mkey 0x0502 ≤ min 65535 (s.tm.ppsCount + 1)))))
        ∧ (near = false → Leads (exec (.ppsEdge t frac fall) s) (fun u => u.tm.ppsLast = some fine ∧ u.tm.ppsCount = 1
          ∧ u.tm.ppsQual = false ∧ u.tm.off = s.tm.off))))
  ∧ (∀ (s : State) (t : Nat),
      let c := max s.clk t
      (∀ f : Nat, s.tm.ppsLast = some f →
        let late := f + (3000000000 + s.mkey 0x0501 * 3000) * fineUnit
        (c * fineUnit ≤ late → exec (.ppsMissing t) s = .next (s.reach t))
        ∧ (late < c * fineUnit → Leads (exec (.ppsMissing t) s) (fun u => u.tm.ppsQual = false ∧ u.tm.ppsCount = 0
          ∧ SameUnits { s with tm := u.tm, ck := u.ck } u)))
      ∧ (s.mkey 0x0504 = 1 → s.pw.st ≤ 2 → (s.reach t).ticks % 3000000000 = 0 → (∀ e ∈ s.tm.offHist, e.1 ≠ c) →
          exec (.ppsOutPulse t) s = .next ((s.reach t).modTm (fun m => { m with ppsOut := some (c + s.mkey 0x0505 * 3000000) })))
      ∧ (s.mkey 0x0504 ≠ 1 → exec (.ppsOutPulse t) s = .next (s.reach t))
      ∧ ∀ e : Nat, s.tm.ppsOut = some e →
        (e ≤ c → exec (.ppsOutEnd t) s = .next ((s.reach t).modTm (fun m => { m with ppsOut := none })))
        ∧ (c < e → exec (.ppsOutEnd t) s = .next (s.reach t)))
  ∧ ∀ (s : State) (t err : Nat) (c : Fin 10),
      (s.clockStopped = true → exec (.tdcCalibration t c err) s = .next (s.reach t))
      ∧ (s.clockStopped = false → s.pw.st ≤ 2 → s.tm.dead[c] ≤ max s.clk t * fineUnit →
        Leads (exec (.tdcCalibration t c err) s) (fun u => u.tm.calAt[c] = max s.clk t
          ∧ u.tm.cal[c] = (if 2000 < err then false else if err ≤ 500 then true else s.tm.cal[c])
          ∧ (∀ d, d ≠ c → u.tm.cal[d] = s.tm.cal[d]) ∧ SameUnits { s with tm := u.tm } u))
      ∧ (s.tm.cal[c] = true → s.tm.calAt[c] + 9000000 ≤ max s.clk t →
        Leads (exec (.tdcCalTimeout t c) s) (fun u => u.tm = { s.tm with cal := s.tm.cal.set c.val false } ∧ SameUnits { s with tm := u.tm } u))
      ∧ (max s.clk t < s.tm.calAt[c] + 9000000 → exec (.tdcCalTimeout t c) s = .next (s.reach t))

/-- R189, R190, R192, R193.

Completes with its own effect (`exec c s = .next u` for the `u` that `Leads` or the equation gives): `tdcMeasure`, `measurementExpiry`. -/
def Obligations.IntervalMeasurements : Prop :=
  (∀ (s : State) (t : Nat) (m : Fin 17), Ready s t m 0x0405 (lenIs 32) →
    let p := (s.reqOf m).payload
    let w := measureOf m.val p
    let same := s.tm.meas.find? (fun x => x.key == w.key && x.count == w.count)
    let held := s.tm.meas.any (fun x => x.holds w.startSrc || x.holds w.stopSrc)
    (measureOk p = false → Leads (exec (.tdcMeasure t m) s) (fun u => Replied u m eParam [] ∧ SameUnits s u ∧ SameSettings s u))
    ∧ (measureOk p = true → same = none → held = true →
        Leads (exec (.tdcMeasure t m) s) (fun u => Replied u m eBusy [] ∧ SameUnits s u ∧ SameSettings s u))
    ∧ (measureOk p = true → ∀ x, same = some x → Leads (exec (.tdcMeasure t m) s) (fun u => Replied u m eBusy []
        ∧ u.tm.meas = s.tm.meas.filter (fun y => y.key != x.key)))
    ∧ (measureOk p = true → same = none → held = false → s.auxWanting w.startSrc = false → s.auxWanting w.stopSrc = false →
        s.mr.work.length < 16 → Leads (exec (.tdcMeasure t m) s) (fun u => Replied u m stAccepted []
          ∧ u.tm = { s.tm with meas := s.tm.meas ++ [w] } ∧ SameUnits { s with tm := u.tm } u
          ∧ u.mr.work = s.mr.work ++ [⟨m.val, (s.reqOf m).code, (s.reqOf m).tag, max s.clk t, w.key, 0⟩])))
  ∧ ∀ (s : State) (t : Nat) (m : Measure), s.tm.meas = [m] →
      let c := max s.clk t
      (m.open_ = none → exec (.measurementExpiry t m.startSrc) s = .next (s.reach t))
      ∧ ∀ a : Nat × Stamp × Bool, m.open_ = some a →
        let x := a.1 / fineUnit + 3000 * m.wait
        let fl := 8 + 16 * flag (!a.2.2)
        (c < x → exec (.measurementExpiry t m.startSrc) s = .next (s.reach t))
        ∧ (x ≤ c → s.hl.up = true → m.done + 1 < m.count → Memory.wf s.hl.hostMem = true →
          Leads (exec (.measurementExpiry t m.startSrc) s) (fun u =>
            u.tm.meas = [{ m with done := m.done + 1, orFlags := m.orFlags ||| fl, unpaired := 0, open_ := none,
                                  lastClose := some (x * fineUnit) }]
            ∧ memReadBytes u.hl.hostMem (m.buf + 32 * m.done) 32 = measRecord ((s.reach t).freshEdge a) fl m.unpaired 0
            ∧ (∀ y, (y < m.buf + 32 * m.done ∨ m.buf + 32 * m.done + 32 ≤ y) → memRead u.hl.hostMem y = memRead s.hl.hostMem y)
            ∧ SameUnits { s with tm := u.tm } u ∧ SameSettings s u))

/-- R229: the checks in their order, step 1.

Completes with its own effect (`exec c s = .next u` for the `u` that `Leads` or the equation gives): `arm`. -/
def Obligations.ArmEntersArming : Prop :=
  ∀ (s : State) (t : Nat) (m : Fin 17), Ready s t m 0x0101 (lenIs 0) →
    let sel := selChans (s.reqOf m).chsel
    (s.pw.st = 0 → (s.reach t).armsArray = false → (s.reach t).armFail sel = none →
      Leads (exec (.arm t m) s) (fun u => (u.mbox m).state = .busy ∧ (∃ k, u.mr.exec = some ⟨m, k, .arm (s.reqOf m).chsel⟩)
        ∧ u.mr.recorded = s.mr.recorded ∧ ∀ c ∈ sel, u.ch[c].st = .arming ∧ u.mr.armed[c] = s.mr.recorded
          ∧ u.ch[c].table = (if s.ch[c].pendTable.isSome then s.ch[c].pendTable else s.ch[c].table) ∧ u.ch[c].trigs = 0
          ∧ u.ch[c].segs = 0 ∧ u.ch[c].refused = 0 ∧ u.ch[c].auto = 0 ∧ u.ch[c].marks = [] ∧ u.ch[c].markNext = 0))
    ∧ ∀ st c, (s.reach t).armFail sel = some (st, c) →
      Leads (exec (.arm t m) s) (fun u => Replied u m st [] ∧ fieldAt (u.mbox m).rsp 12 4 = 2 ^ c.val
        ∧ SameUnits s u ∧ SameSettings s u)

/-- R229 step 5.

Completes with its own effect (`exec c s = .next u` for the `u` that `Leads` or the equation gives): `armCommit`. -/
def Obligations.ArmCommitArms : Prop :=
  ∀ (s : State) (t : Nat) (m : Fin 17) (sel : List (Fin 4)), s.waitingArm = some (m, sel, none) → s.followers = [] →
    s.fw.halted = false →
    let b := (s.reach t).reach (s.reach t).boundary
    (∀ c ∈ sel, b.armReady c = true) → (s.reqOf m).expired b.clk = false →
    Leads (exec (.armCommit t) s) (fun u => Replied u m stOk [] ∧ u.mr.exec = none
      ∧ ∀ c ∈ sel, s.accum c = false → s.contin c = false → u.ch[c].st = .armed ∧ u.ch[c].seqState = (s.seqTable c).init
        ∧ u.ch[c].cnt0 = 0 ∧ u.ch[c].cnt1 = 0 ∧ u.ch[c].tmr0 = .idle ∧ u.ch[c].tmr1 = .idle ∧ u.ch[c].armedAt = b.ticks
        ∧ u.ch[c].shown = s.ch[c].shown.filter (fun x => decide (b.clk < x.1)) ++ [(b.clk + 404, s.ch[c].present)])

/-- R231, R227, R228.

Completes with its own effect (`exec c s = .next u` for the `u` that `Leads` or the equation gives): `disarm`, `eventPresentation`. -/
def Obligations.DisarmEndsAcquisition : Prop :=
  (∀ (s : State) (t : Nat) (m : Fin 17), Ready s t m 0x0102 (lenIs 0) → s.armsArray = false →
    let s0 := s.reach t
    let q := s0.boundaryFrom (s0.clk + 1)
    (s.reqOf m).expired q = false →
    Leads (exec (.disarm t m) s) (fun u => (u.mbox m).state = .busy ∧ (∃ k, u.mr.exec = some ⟨m, k, .disarm q (s.reqOf m).chsel⟩)
      ∧ ∀ c, (c ∉ selChans (s.reqOf m).chsel → u.ch[c] = s.ch[c])
        ∧ (c ∈ selChans (s.reqOf m).chsel →
          (s.ch[c].st = .stopped → u.ch[c] = s.ch[c])
          ∧ ((s.armedOn c = true ∨ s.ch[c].st = .done) → s.ch[c].stopAt = none →
              u.ch[c] = { s.ch[c] with stopAt := some ⟨q, 2, 1⟩ }))))
  ∧ ∀ (s : State) (t q reason cause : Nat) (c : Fin 4), s.evq = [] → s.followers = [] → s.ch[c].stopAt = some ⟨q, reason, cause⟩ →
      (∀ d, d ≠ c → s.ch[d].stopAt = none) → q + 404 ≤ max s.clk t →
      let answered (u : State) : Prop := ∀ m k x, s.mr.exec = some ⟨m, k, .disarm q x⟩ → selChans x = [c] → s.fw.halted = false →
        Replied u m stOk [] ∧ u.mr.exec = none
      (s.ch[c].st = .armed → s.ch[c].tmr0 = .idle → s.ch[c].tmr1 = .idle → s.ch[c].autoX = none → s.ch[c].open_ = none →
        Leads (exec (.eventPresentation t) s) (fun u => u.ch[c].st = .done ∧ u.ch[c].stopAt = none ∧ u.ch[c].trigs = s.ch[c].trigs
          ∧ answered u))
      ∧ (s.ch[c].st = .done → Leads (exec (.eventPresentation t) s) (fun u => u.ch[c] = { s.ch[c] with st := .stopped, stopAt := none }
          ∧ (∀ d, d ≠ c → u.ch[d] = s.ch[d]) ∧ answered u))

/-- R246 with R218; R235; R249.

Completes with its own effect (`exec c s = .next u` for the `u` that `Leads` or the equation gives): `forceTrigger`,
`eventPresentation`, `loadSeqTable`, `getAcqStatus`. -/
def Obligations.AcquisitionCommands : Prop :=
  ∀ (s : State) (t : Nat) (m : Fin 17),
    let p := (s.reqOf m).payload
    let s0 := s.reach t
    let sel := selChans (s.reqOf m).chsel
    (Ready s t m 0x0103 (lenIs 8) → fieldAt p 0 1 ≤ 1 → fieldAt p 1 7 = 0 →
      ((∃ c ∈ sel, s.armedOn c = false) →
        Leads (exec (.forceTrigger t m) s) (fun u => Replied u m eState [] ∧ SameUnits s u ∧ SameSettings s u))
      ∧ ((∀ c ∈ sel, s.armedOn c = true) →
        let b := s0.reach s0.boundary
        (s.reqOf m).expired b.clk = false →
        Leads (exec (.forceTrigger t m) s) (fun u =>
          (u.mbox m).state = .busy ∧ u.mr.exec = some ⟨m, b.clk, .force b.clk 0⟩ ∧ u.ch = s.ch ∧ u.tr = s.tr
          ∧ u.evq = s.evq ++ [⟨b.clk * fineUnit, if fieldAt p 0 1 = 0 then srcForce else srcDirect, b.now,
              BitVec.ofNat 4 (s.reqOf m).chsel, b.clk + 404, false, b.clk * fineUnit⟩])))
    ∧ (∀ taken st k, s.mr.exec = some ⟨m, taken, .force st k⟩ → s.evq = [] → s.haltAt = none → s.fw.halted = false →
        s0.presentAt (st * fineUnit) ≤ s0.clk →
        Leads (exec (.eventPresentation t) s) (fun u =>
          Replied u m stOk (leBytes 1 k ++ List.replicate 7 0#8 ++ leBytes 8 (s0.ticksAt st)) ∧ u.ch = s.ch ∧ u.mr.exec = none))
    ∧ (Ready s t m 0x0105 (lenIs 544) → ∀ c, sel = [c] →
      (tableOk p = true → Leads (exec (.loadSeqTable t m) s) (fun u =>
        Replied u m stOk (leBytes 1 (flag (s.running c)) ++ List.replicate 7 0#8)
        ∧ u.ch[c] = { s.ch[c] with pendTable := some (tableOf p) } ∧ (∀ d, d ≠ c → u.ch[d] = s.ch[d])
        ∧ SameUnits s { u with ch := s.ch } ∧ SameSettings s u))
      ∧ (tableOk p = false → Leads (exec (.loadSeqTable t m) s) (fun u => Replied u m eParam [] ∧ SameUnits s u ∧ SameSettings s u)))
    ∧ (Ready s t m 0x0104 (lenIs 8) → ∀ c, sel = [c] → fieldAt p 4 2 ≤ 96 → fieldAt p 6 2 = 0 →
      Leads (exec (.getAcqStatus t m) s) (fun u =>
        Replied u m stOk (s0.acqStatus c (fieldAt p 0 4) (fieldAt p 4 2)) ∧ SameUnits s u ∧ SameSettings s u))

/-- R232: refused, counted in REFUSED, and changes nothing else; R281: counted in AC_BUSY_REFUSED too. -/
def Obligations.RefusedTriggerChangesNothingElse : Prop :=
  ∀ (s : State) (c : Fin 4) (x : TrigIn), s.contin c = false → (∀ n r, s.ch[c].hold ≠ .events n r) →
    let busy := s.accum c && s.ch[c].acc.busyAtPoint x.p
    (busy = false → s.armedAt c x.p = false →
      s.trigger c x = (s.modCh c (fun h => { h with refused := satAdd 32 h.refused 1 }), false))
    ∧ (busy = true → s.trigger c x = (s.modCh c (fun h => { h with
        refused := satAdd 32 h.refused 1, acc := { h.acc with busyRef := satAdd 32 h.acc.busyRef 1 } }), false))

/-- R228 with R220; R239; R240 with R242, R243; R245; R275.

Completes with its own effect (`exec c s = .next u` for the `u` that `Leads` or the equation gives): `expiryEvent`, `holdoffEnd`,
`autoTrigger`. -/
def Obligations.SequencerHappenings : Prop :=
  ∀ (s : State) (t : Nat) (c : Fin 4), s.evq = [] → s.ch[c].open_ = none → s.ch[c].tmr1 = .idle → s.ch[c].stopAt = none →
    let s0 := s.reach t
    (∀ x, s.ch[c].st = .armed → s.ch[c].autoX = none → s.ch[c].tmr0 = .running x → s0.presentAt x ≤ s0.clk →
      (((s.seqTable c).entries s.ch[c].seqState).find? (fun e => e.valid && e.source == 0 && e.kind == 4 && e.index == 0)) = none →
      exec (.expiryEvent t c 0) s = .next (s0.modCh c (fun h => { h.keep x with tmr0 := .expired })))
    ∧ (∀ x, s.ch[c].st = .holdoff → s.ch[c].tmr0 = .idle → s.ch[c].hold = .until_ x → s0.presentAt x ≤ s0.clk →
      Leads (exec (.holdoffEnd t c) s) (fun u => u.ch[c].st = .armed ∧ u.ch[c].hold = .off
        ∧ (if (s.seqTable c).resume = 0xFF then u.ch[c].seqState = s.ch[c].seqState
          else u.ch[c].seqState = (s.seqTable c).resume ∧ u.ch[c].cnt0 = 0 ∧ u.ch[c].cnt1 = 0)
        ∧ u.ch[c].tmr0 = .idle ∧ u.ch[c].tmr1 = .idle ∧ ∀ d, d ≠ c → u.ch[d] = s.ch[d]))
    ∧ (∀ x, s.ch[c].st = .armed → s.ch[c].tmr0 = .idle → s.ch[c].autoX = some x → s0.presentAt x ≤ s0.clk → s.contin c = false →
      (s.accum c = true → s.ch[c].acc.busyAtPoint x = false → s.armedAt c x = true → s.tr.descQ.length < 1024 →
        Leads (exec (.autoTrigger t c) s) (fun u => u.ch[c].auto = satAdd 32 s.ch[c].auto 1 ∧ u.ch[c].st = .acquiring
          ∧ u.ch[c].trigs = satAdd 64 s.ch[c].trigs 1 ∧ u.ch[c].refused = s.ch[c].refused ∧ u.ch[c].autoX = none
          ∧ u.ch[c].lastTrig = s.stampAt x 0 false
          ∧ u.ch[c].acc.recs = s.ch[c].acc.recs
            ++ [⟨s.trigValue c x - (s.akey 0x0902 c : Int), s.akey 0x0901 c, 0, s.stampAt x 0 false, srcForce, false, 0, false⟩]
          ∧ ∀ d, d ≠ c → u.ch[d] = s.ch[d]))
      ∧ (s.armedAt c x = false → s.ch[c].hold = .off →
        Leads (exec (.autoTrigger t c) s) (fun u => u.ch[c].auto = satAdd 32 s.ch[c].auto 1
          ∧ u.ch[c].refused = satAdd 32 s.ch[c].refused 1 ∧ u.ch[c].trigs = s.ch[c].trigs ∧ u.ch[c].st = .armed
          ∧ u.ch[c].autoX = s.autoAt c x)))

/-- R220, R221, R223, with R200; R297 with R24.

Completes with its own effect (`exec c s = .next u` for the `u` that `Leads` or the equation gives): `eventPresentation`,
`segmentClose`. -/
def Obligations.PresentationAndClose : Prop :=
  (∀ (s : State) (t p : Nat), s.ar.role = 0 → s.mr.exec = none → s.haltAt = none → firstCycle s.evq = some p → p ≤ max s.clk t →
    let plain (e : Ev) : Bool := e.src == 0 || decide (4 < e.src)
    Leads (exec (.eventPresentation t) s) (fun u => u.evq.Sublist (s.evq.filter (fun e => e.pres != p))
      ∧ u.evq.filter plain = s.evq.filter (fun e => e.pres != p && plain e)))
  ∧ (∀ (s : State) (t : Nat) (e : Ev) (d : Fin 4), s.evq = [e] → s.mr.exec = none → s.haltAt = none → e.pres ≤ max s.clk t →
      e.src = 1 + d.val →
      (∀ c, s.receives c e = false) →
      (s.stands e = true →
        exec (.eventPresentation t) s = .next (((s.reach t).setEvq []).modCh d (fun x => { x with det := { x.det with
          count := wrapAdd 64 x.det.count 1, last := (s.restamp e).stamp, lost := x.det.lost.raise (!e.valid) (max s.clk t) } })))
      ∧ (s.stands e = false → exec (.eventPresentation t) s = .next ((s.reach t).setEvq [])))
  ∧ ∀ (s : State) (t : Nat) (c : Fin 4) (codes : Codes) (g : Seg), s.ch[c].open_ = none → s.accum c = false →
      s.tr.segs.find? (fun x => x.ch == c && x.awaiting) = some g → g.run = s.ch[c].dec.run →
      (s.reach t).descFrom g ≤ max s.clk t → s.tr.descQ.length < 1024 →
    let vals := (s.reach t).valuesOf c g.firstVal g.length codes
    let tags := (vals.zip (List.range g.length)).map (fun p => s.tagValue c g p.1 (g.firstVal + p.2))
    let ws := packWords (s.fmtSpec g.fmt) (s.decMode c) (s.decKey 0x0804 c) (s.tailMark c g tags)
    Leads (exec (.segmentClose t c codes) s) (fun u => u.tr.descQ = s.tr.descQ ++ [(c, g.acq, g.idx)]
      ∧ (∃ x ∈ u.tr.segs, x.is c g.acq g.idx = true ∧ x.awaiting = false ∧ x.queued = true)
      ∧ (∀ a, a / 32768 ∈ g.pages → memRead u.tr.mem a = memRead (writeChain g.pages g.firstWord (wordBytes ws) s.tr.mem) a)
      ∧ u.ch[c].segs = s.ch[c].segs)

/-- R230; the domain's mark under R424.

Completes with its own effect (`exec c s = .next u` for the `u` that `Leads` or the equation gives): `armWakeFailure`. -/
def Obligations.ArmEndsOnWakeFailure : Prop :=
  ∀ (s : State) (t d : Nat) (m : Fin 17) (sel : List (Fin 4)), s.waitingArm = some (m, sel, none) → s.followers = [] →
    s.fw.halted = false → s.fw.serving = true → d < 196 → (∃ c ∈ sel, d ∈ s.chanDomains c) → (s.reqOf m).expired (s.reach t).clk = false →
    Leads (exec (.armWakeFailure t d) s) (fun u => Replied u m eHw [] ∧ fieldAt (u.mbox m).rsp 12 4 = d ∧ u.mr.exec = none
      ∧ u.pw.failed.getLsbD d = true
      ∧ ∀ c ∈ sel, s.ch[c].st = .arming → u.ch[c].st = s.ch[c].left)

/-- R203 for level A; crossings of B are defined the same way. -/
def Obligations.CrossingsAndHysteresis : Prop :=
  ∀ (d : Det) (v : Levels) (prev x : Int),
    let cs := d.crossings v prev x
    ((⟨false, true, v.a⟩ : Crossing) ∈ cs ↔ (prev < v.a ∧ v.a ≤ x ∧ d.aR = true))
    ∧ ((⟨false, false, v.a⟩ : Crossing) ∈ cs ↔ (v.a < prev ∧ x ≤ v.a ∧ d.aF = true))
    ∧ ((⟨true, true, v.b⟩ : Crossing) ∈ cs ↔ (prev < v.b ∧ v.b ≤ x ∧ d.bR = true))
    ∧ ((⟨true, false, v.b⟩ : Crossing) ∈ cs ↔ (v.b < prev ∧ x ≤ v.b ∧ d.bF = true))
    ∧ ((d.prime v x cs).aR = true ↔ (x ≤ v.a - v.h ∨ (d.aR = true ∧ ¬ (prev < v.a ∧ v.a ≤ x ∧ d.aR = true))))
    ∧ ((d.prime v x cs).aF = true ↔ (v.a + v.h ≤ x ∨ (d.aF = true ∧ ¬ (v.a < prev ∧ x ≤ v.a ∧ d.aF = true))))

/-- R205, R220; R217.

Completes with its own effect (`exec c s = .next u` for the `u` that `Leads` or the equation gives): `detectorEvent`, `timerEvent`. -/
def Obligations.DetectorEventsQueue : Prop :=
  (∀ (s : State) (t tick pos : Nat) (cs : Fin 4 → Codes),
    let s0 := s.reach t
    let i0 := tick * fineUnit + pos % samplesPerTick s.mode * samplePeriod s.mode
    let i1 := i0 + samplePeriod s.mode
    ((∀ k : Fin 4, s0.examines k i1 = false) →
      exec (.detectorEvent t tick pos (cs 0) (cs 1) (cs 2) (cs 3)) s = .next s0)
    ∧ ∀ c : Fin 4, s0.examines c i1 = true → (∀ k : Fin 4, k ≠ c → s0.examines k i1 = false) → s.detKey 0x0600 c ≠ 8 →
      let f := s0.examine c i0 (s0.windowOf c i0 (cs c))
      Leads (exec (.detectorEvent t tick pos (cs 0) (cs 1) (cs 2) (cs 3)) s) (fun u => u.ch[c].det = f.det
        ∧ u.evq = s.evq ++ f.fired.map (fun x => ⟨x.fine.toNat, 1 + c.val, s.stampAt x.fine.toNat 1 x.valid, 0xF#4,
            s.cycleOf x.fine.toNat + 404, x.valid, i1 - s.feUnits c (s.detKey 0x0102 c)⟩)
        ∧ (∀ k : Fin 4, k ≠ c → u.ch[k] = s.ch[k]) ∧ u.tr = s.tr ∧ u.log = s.log))
  ∧ (∀ (s : State) (i0 : Nat) (c : Fin 4) (w : Window) (v : Levels) (g : DetCfg), g.ty = 1 → g.cols = [false] →
      windowSettles w = false →
      let d := s.ch[c].det
      (s.compareSample c i0 w g v d).fired
        = if w.x0.val.toInt < v.a ∧ v.a ≤ w.x1.val.toInt ∧ d.aR = true
          then [⟨s.crossFine c i0 w ⟨false, true, v.a⟩, !windowFlat w⟩] else [])
  ∧ ∀ (s : State) (t x : Nat) (c : Fin 4), s.armedOn c = true → s.timerTick c = some x → x ≤ max s.clk t →
      Leads (exec (.timerEvent t c) s) (fun u =>
        u.evq = s.evq ++ [⟨x * fineUnit, 0x19, s.stampAt (x * fineUnit) 0 false, BitVec.ofNat 4 (2 ^ c.val),
          s.cycleOf (x * fineUnit) + 404, false, x * fineUnit⟩]
        ∧ u.timerTick c = (if s.akey 0x0610 c = 2 then some (x + s.akey 0x0612 c) else none) ∧ u.tr = s.tr)

/-- R265, R266; R263 with R262.

Completes with its own effect (`exec c s = .next u` for the `u` that `Leads` or the equation gives): `fltEvent`, `synchronisingReset`. -/
def Obligations.DecimatedThresholds : Prop :=
  (∀ (s : State) (t : Nat) (c : Fin 4) (j : Nat) (codes : Codes),
    let s0 := s.reach t
    let y := s0.valueOf c j (s0.valueStream c j 1 codes) eqReach
    let v := s0.comparedValue c y
    let d := s.ch[c].dec.meet (s.resetBefore c j)
    (s0.comparesValue c j = false → exec (.fltEvent t c ⟨false, j⟩ codes) s = .next s0)
    ∧ (s0.comparesValue c j = true → y.set = true →
      Leads (exec (.fltEvent t c ⟨false, j⟩ codes) s) (fun u => u.evq = s.evq ∧ u.ch[c].dec.fR = d.fR ∧ u.ch[c].dec.fF = d.fF
        ∧ u.ch[c].dec.prev = d.prev ∧ u.ch[c].dec.seen = some j))
    ∧ (s0.comparesValue c j = true → y.set = false →
      Leads (exec (.fltEvent t c ⟨false, j⟩ codes) s) (fun u => u.ch[c].dec.prev = some v ∧ u.ch[c].dec.seen = some j
        ∧ ∀ th : Fin 2,
          let k := s.fltKeys c th (s.completion c j)
          let x := d.fltCross th k.2.1 v
          u.ch[c].dec.fR[th] = (decide (v.1 ≤ k.2.1 - k.2.2) || (d.fR[th] && !x.1))
          ∧ u.ch[c].dec.fF[th] = (decide (k.2.1 + k.2.2 ≤ v.2) || (d.fF[th] && !x.2))
          ∧ ((x.1 = true ∧ bitAt k.1 0 = true) ∨ (x.2 = true ∧ bitAt k.1 1 = true) →
              ∃ e ∈ u.evq, e.src = 8 + 2 * c.val + th.val ∧ e.fine = (s.valueInstant c j).toNat)))
    ∧ (s.ch[c].dec.old = none → exec (.fltEvent t c ⟨true, j⟩ codes) s = .next s0)
    ∧ (∀ r w, s.ch[c].dec.old = some r →
        exec (.fltEvent t c ⟨false, j⟩ codes) (s.modCh c (fun h => { h with dec := h.dec.back r })) = .next w →
      Leads (exec (.fltEvent t c ⟨true, j⟩ codes) s) (fun u => u.evq = w.evq ∧ u.ch[c].dec.old = some w.ch[c].dec.leave
        ∧ u.ch[c].dec.leave = s.ch[c].dec.leave ∧ u.ch[c].dec.running = s.ch[c].dec.running
        ∧ ∀ d, d ≠ c → u.ch[d] = w.ch[d])))
  ∧ ∀ (s : State) (t b : Nat) (c : Fin 4), s.ch[c].dec.resetAt = some b →
    (max s.clk t < b → exec (.synchronisingReset t c) s = .next (s.reach t))
    ∧ (b ≤ max s.clk t → Leads (exec (.synchronisingReset t c) s) (fun u => u.ch[c].dec.resetAt = none
        ∧ (s.ch[c].dec.cleared < b → (∀ th : Fin 2, u.ch[c].dec.primed th = (false, false))
            ∧ ∀ j, b ≤ u.completion c j → (u.ch[c].dec.meet (u.resetBefore c j)).prev = none)
        ∧ u.ch[c].dec.grid = s.ch[c].dec.grid
        ∧ u.ch[c].dec.resets = (s.firstFrom c b, s.settleCount c, b) :: s.ch[c].dec.resets
        ∧ u.ch[c].dec.firstVal = min s.ch[c].dec.firstVal (s.firstFrom c b) ∧ ∀ d, d ≠ c → u.ch[d] = s.ch[d]))

/-- R273, R276, R277; R279, R280, R283.

Completes with its own effect (`exec c s = .next u` for the `u` that `Leads` or the equation gives): `segmentClose`, `fold`,
`resultPass`, `busyIntervalEnd`. -/
def Obligations.AccumulationPasses : Prop :=
  ∀ (s : State) (t : Nat) (c : Fin 4),
    let s0 := s.reach t
    let a := s.ch[c].acc
    (∀ (codes : Codes) (r : Rec) (rest : List Rec), s.accum c = true → s.ch[c].open_ = none → a.recs = r :: rest → r.closed = true →
      s0.settlePoint c r = none → s0.discards c r = false → r.done < r.points →
      s0.leftLine c (r.first.toNat + r.done) (r.points - r.done) = r.points - r.done →
      let vals := s0.valuesOf c (r.first.toNat + r.done) (r.points - r.done) codes
      Leads (exec (.segmentClose t c codes) s) (fun u => u.ch[c].acc.recs = rest ∧ u.ch[c].acc.records = a.records + 1
        ∧ u.ch[c].acc.store = a.store.take r.done ++ addPoints (s.akey 0x0900 c == 3) (a.records == 0) (vals.map (s.pointOf c))
            (if a.records = 0 then [] else a.store.drop r.done)
        ∧ u.ch[c].acc.lastT = r.stamp ∧ u.ch[c].acc.cutCause = r.cut))
    ∧ (a.folding = true → s0.clk < a.drainAt + s.passTicks c → exec (.fold t c) s = .next s0)
    ∧ (a.folding = true → a.drainAt + s.passTicks c ≤ s0.clk → s.ck.relock = none → s.tr.descQ.length < 1024 → a.runOpen = true →
      Leads (exec (.fold t c) s) (fun u => u.ch[c].acc.fold = addSums a.fold (a.store.map (·.1))
        ∧ u.ch[c].acc.store = a.store.map (fun _ => (0, 0)) ∧ u.ch[c].acc.folds = a.folds + 1 ∧ u.ch[c].acc.folding = false
        ∧ (∀ d, d ≠ c → u.ch[d] = s.ch[d]) ∧ u.tr = s.tr))
    ∧ (a.pass = true → s0.clk < a.drainAt + s.passTicks c → exec (.resultPass t c) s = .next s0)
    ∧ (a.pass = true → a.drainAt + s.passTicks c ≤ s0.clk → s.ck.relock = none → s.tr.descQ.length < 1024 →
      (s0.getDesc c (s0.nextIdx c)).2 = false →
      Leads (exec (.resultPass t c) s) (fun u => u.ch[c].acc.pass = false ∧ u.ch[c].acc.results = wrapAdd 32 a.results 1
        ∧ u.tr.descQ = s.tr.descQ ++ [(c, s.ch[c].acq, s0.nextIdx c)]))
    ∧ (a.busyFrom.isSome = true → a.folding = false → a.pass = false → a.recs = [] → a.runOpen = true →
      exec (.busyIntervalEnd t c) s = .next (s0.modCh c (fun h => { h with acc := { h.acc with busyFrom := none, drainAt := s0.clk } })))
    ∧ (a.busyFrom.isSome = true → a.folding = false → a.pass = false → a.recs = [] → a.runOpen = false → s.accum c = true → s.armedOn c = true →
      (State.takeRunPages c ((s.runPages c).1 + (s.runPages c).2)
        (s0.modCh c (fun h => { h with acc := { h.acc with busyFrom := none, drainAt := s0.clk } })) []).2.2 = false →
      Leads (exec (.busyIntervalEnd t c) s) (fun u => u.ch[c].acc.runOpen = true ∧ u.ch[c].acc.runNo = a.runNo + 1
        ∧ u.ch[c].acc.records = 0 ∧ u.ch[c].acc.busyFrom = none))

/-- R306; R307, R308; R309.

Completes with its own effect (`exec c s = .next u` for the `u` that `Leads` or the equation gives): `setQuota`, `releaseSegments`,
`getTrellisStatus`. -/
def Obligations.TrellisCommands : Prop :=
  ∀ (s : State) (t : Nat) (m : Fin 17),
    let p := (s.reqOf m).payload
    let s0 := s.reach t
    let b := s0.reach (s0.boundaryFrom (s0.clk + 1))
    let c := oneChan (s.reqOf m).chsel
    (Ready s t m 0x0301 (lenIs 8) →
      (fieldAt p 4 4 = 0 → (s.reqOf m).expired b.clk = false →
        Leads (exec (.setQuota t m) s) (fun u => (∃ rest, Replied u m stOk (leBytes 4 s.ch[c].quota ++ rest))
          ∧ u.ch[c].quota = fieldAt p 0 4 ∧ (∀ d, d ≠ c → u.ch[d] = s.ch[d]) ∧ u.tr = s.tr))
      ∧ (fieldAt p 4 4 ≠ 0 → Leads (exec (.setQuota t m) s) (fun u => Replied u m eParam [] ∧ SameUnits s u ∧ SameSettings s u)))
    ∧ (Ready s t m 0x0302 (lenIs 16) → ∀ k, s.ownerOf c (fieldAt p 1 1) = some k → fieldAt p 2 2 = 0 → fieldAt p 4 4 ≤ 1073741823 →
        1 ≤ fieldAt p 12 4 → fieldAt p 8 4 ≤ 16777215 → fieldAt p 8 4 + fieldAt p 12 4 ≤ 16777216 → (s.reqOf m).expired b.clk = false →
        let n : NameRange := ⟨k, b.namedAcqs k (fieldAt p 4 4), fieldAt p 8 4, fieldAt p 12 4⟩
        (fieldAt p 0 1 = 2 → Leads (exec (.releaseSegments t m) s) (fun u =>
          u.tr.segs = s.tr.segs.map (fun g => if n.has g then { g with pinned := false } else g)))
        ∧ (fieldAt p 0 1 = 0 → Leads (exec (.releaseSegments t m) s) (fun u =>
          (∀ g ∈ s.tr.segs, n.has g = true → s.countsOpen g = false → g.busy = 0 → ∀ x ∈ u.tr.segs, x.is g.ch g.acq g.idx = false)
          ∧ ∀ g ∈ s.tr.segs, n.has g = false → g ∈ u.tr.segs)))
    ∧ (Ready s t m 0x0303 (lenIs 16) → fieldAt p 0 1 = 0 → fieldAt p 1 3 = 0 → fieldAt p 4 4 = 0 → fieldAt p 8 8 = 0 →
      Leads (exec (.getTrellisStatus t m) s) (fun u => Replied u m stOk s0.trellisSummary ∧ SameUnits s u ∧ SameSettings s u))

/-- R300 with R291; R318; R297.

Completes with its own effect (`exec c s = .next u` for the `u` that `Leads` or the equation gives): `pageNeed`, `heldAllocation`,
`descriptorWrite`. -/
def Obligations.PagesAndDescriptors : Prop :=
  (∀ (s : State) (t i first last : Nat) (c : Fin 4) (g : Seg), s.ch[c].open_ = some ⟨some i, first, last⟩ →
    s.seg? c s.ch[c].acq i = some g → (s.descPage c s.ch[c].acq i).isSome = true →
    let s0 := s.reach t
    let w := s.wordsOf (s.akey 0x0806 c) (s0.stagedValues c first last)
    let early := s.contin c && decide (s0.clk < s.packedAt c first)
    (early = true ∨ w ≤ g.capacity → exec (.pageNeed t c) s = .next s0)
    ∧ ∀ p k, early = false → g.capacity < w → w ≤ (g.pages.length + 1) * 4096 - g.firstWord → g.reserved = [] → s0.request c = .page p k →
      Leads (exec (.pageNeed t c) s) (fun u => (u.seg? c s.ch[c].acq i).map (·.pages) = some (g.pages ++ [p])
        ∧ (∃ q ∈ u.tr.pages, q.num = p ∧ q.use = .data c) ∧ u.ch = s.ch))
  ∧ (∀ (s : State) (t : Nat) (h : HeldAlloc) (rest : List HeldAlloc), s.tr.held = h :: rest →
    let s0 := s.reach t
    (s.armedOn h.ch = false → exec (.heldAllocation t) s = .next (s0.modTr (fun x => { x with held := rest })))
    ∧ ∀ d n k, s.armedOn h.ch = true → h.desc = some d → s0.pick = .page n k → s.heldPages h.ch + 1 ≤ s.ch[h.ch].quota →
      (s.acq? h.ch s.ch[h.ch].acq).isSome = true → s.descPage h.ch s.ch[h.ch].acq (1024 * d) = none →
      Leads (exec (.heldAllocation t) s) (fun u => u.tr.held = rest ∧ u.descPage h.ch s.ch[h.ch].acq (1024 * d) = some n
        ∧ (∃ q ∈ u.tr.pages, q.num = n ∧ q.use = .desc h.ch) ∧ u.ch = s.ch))
  ∧ ∀ (s : State) (t a i p : Nat) (c : Fin 4) (rest : List (Fin 4 × Nat × Nat)) (g : Seg), s.tr.descQ = (c, a, i) :: rest →
    s.tr.descNext ≤ max s.clk t → s.seg? c a i = some g → s.descPage c a i = some p →
    Memory.wf s.tr.mem = true →
    Leads (exec (.descriptorWrite t) s) (fun u => u.tr.descQ = rest ∧ u.tr.descNext = max s.clk t + 20
      ∧ (u.seg? c a i).map (·.written) = some true
      ∧ memReadBytes u.tr.mem (p * 32768 + 32 * (i % 1024)) 32 = g.descBytes
      ∧ (∀ x, (x < p * 32768 + 32 * (i % 1024) ∨ p * 32768 + 32 * (i % 1024) + 32 ≤ x) → memRead u.tr.mem x = memRead s.tr.mem x)
      ∧ u.tr.pages = s.tr.pages ∧ u.ch = s.ch)

/-- R323, R325, R329, R343.

Completes with its own effect (`exec c s = .next u` for the `u` that `Leads` or the equation gives): `groupRead`, `patrolScrub`,
`writeBack`, `scrubControl`. -/
def Obligations.GroupsAndScrub : Prop :=
  (∀ (s : State) (t row : Nat) (p : Fin 32) (r : RawGroup),
    let o := s.decodeAt p row r
    let fixed := o.corrected != 0 || o.check == .corrected
    (((s.pcWorks p) && s.memServes) = false → s.srAborts = false → ∀ raw copy, exec (.groupRead t p row raw copy) s = .next (s.reach t))
    ∧ (s.pcWorks p = true → s.memServes = true → s.srAborts = false → row < 1048576 → o.losses.2 = [] →
      Leads (exec (.groupRead t p row [r] false) s) (fun u => u.mem.pcs[p].corrected = s.mem.pcs[p].corrected + o.corrected
        ∧ u.tr = s.tr ∧ u.ch = s.ch ∧ (∀ q, q ≠ p → u.mem.pcs[q] = s.mem.pcs[q])
        ∧ u.mem.wbq = (if fixed = true ∧ (p, row) ∉ s.mem.wbq then s.mem.wbq ++ [(p, row)] else s.mem.wbq)))
    ∧ ∀ (g : Migration) (k : Nat), s.pcWorks p = true → s.memServes = true → s.srAborts = false → row < 1048576 → s.memBackground = true →
        s.mem.mig = some g → g.from_ = p → g.ptr = row → s.liveSlot p row = some k → (∀ x ∈ s.tr.segs, x.written = false) →
      Leads (exec (.groupRead t p row [r] true) s) (fun u => u.mem.mig.map (·.ptr) = some (row + 1)
        ∧ ∀ i ∈ o.losses.2, s.pageUsed (pageOfWord k (112 * row + 7 * r.group + i)).1 = true →
            (pageOfWord k (112 * row + 7 * r.group + i)).1 * 4096 + (pageOfWord k (112 * row + 7 * r.group + i)).2 ∈ u.tr.poison))
  ∧ (∀ (s : State) (t : Nat) (raw : List RawGroup), s.srAborts = false →
      (s.memBackground = false → exec (.patrolScrub t raw) s = .next (s.reach t) ∧ exec (.writeBack t raw) s = .next (s.reach t))
      ∧ (s.memBackground = true → s.mem.queue = [] → s.pcWorks (Fin.ofNat 32 s.mem.scrubPc) = true → s.mem.scrubRow + 1 < 1048576 →
        Leads (exec (.patrolScrub t raw) s) (fun u => u.mem.scrubPc = s.mem.scrubPc ∧ u.mem.scrubRow = s.mem.scrubRow + 1
          ∧ u.mem.passRows = wrapAdd 32 s.mem.passRows 1 ∧ u.mem.queue = []))
      ∧ (s.memBackground = true → ∀ q n rest, s.mem.queue = (q, n) :: rest → Leads (exec (.patrolScrub t raw) s) (fun u =>
          u.mem.queue = (if n + 1 < (pageRows q).2 then (q, n + 1) :: rest else rest) ∧ u.mem.scrubRow = s.mem.scrubRow))
      ∧ (s.memBackground = true → ∀ e rest, s.mem.wbq = e :: rest →
          Leads (exec (.writeBack t raw) s) (fun u => u.mem.wbq = rest ∧ u.mem.scrubRow = s.mem.scrubRow))
      ∧ (s.mem.wbq = [] → exec (.writeBack t raw) s = .next (s.reach t)))
  ∧ ∀ (s : State) (t : Nat) (m : Fin 17), Ready s t m 0x0306 (lenIs 16) →
      let b := (s.reqOf m).payload
      fieldAt b 1 3 = 0 → fieldAt b 12 4 = 0 →
      (fieldAt b 0 1 = 0 → fieldAt b 4 4 = 0 → fieldAt b 8 4 = 0 →
        Leads (exec (.scrubControl t m) s) (fun u => Replied u m stOk s.scrubStatus ∧ SameUnits s u ∧ SameSettings s u))
      ∧ (fieldAt b 0 1 = 1 → 1 ≤ fieldAt b 8 4 → fieldAt b 8 4 ≤ 65536 → s.pagesExist (fieldAt b 4 4) (fieldAt b 8 4) = true →
          s.mem.queue.length + fieldAt b 8 4 ≤ 65536 →
        Leads (exec (.scrubControl t m) s) (fun u => (∃ bs, Replied u m stOk bs)
          ∧ u.mem = { s.mem with queue := s.mem.queue ++ (List.range (fieldAt b 8 4)).map (fun i => (fieldAt b 4 4 + i, 0)) }
          ∧ SameUnits { s with mem := u.mem } u ∧ SameSettings s u))

/-- R317, R334, R335, R337, R341, R342.

Completes with its own effect (`exec c s = .next u` for the `u` that `Leads` or the equation gives): `retirePc`, `migrationCompletion`,
`capacityReduction`, `pcRestoreTraining`, `memHealth`. -/
def Obligations.RetirementOfPseudoChannels : Prop :=
  (∀ (s : State) (t : Nat) (m : Fin 17), Ready s t m 0x0305 (lenIs 8) →
    let b := (s.reqOf m).payload
    let p : Fin 32 := Fin.ofNat 32 (fieldAt b 0 1)
    let good := fieldAt b 0 1 ≤ 31 ∧ fieldAt b 1 1 ≤ 1 ∧ fieldAt b 2 1 ≤ 1 ∧ allZero (b.drop 3) = true
    let wrong := if fieldAt b 1 1 = 0 then s.mem.pcs[p].st = .retired else s.mem.pcs[p].st ≠ .retired
    let free := s.mem.mig = none ∧ s.mem.reduce = none ∧ s.working 0x0305 = false ∧ s.mr.work.length < 16
    (¬ good → Leads (exec (.retirePc t m) s) (fun u => Replied u m eParam [] ∧ SameUnits s u ∧ SameSettings s u))
    ∧ (good → wrong → Leads (exec (.retirePc t m) s) (fun u => Replied u m eState [] ∧ SameUnits s u ∧ SameSettings s u))
    ∧ (good → free → fieldAt b 1 1 = 0 → s.mem.pcs[p].st = .spare → Leads (exec (.retirePc t m) s) (fun u =>
        Replied u m stAccepted [] ∧ u.mem.pcs[p].st = .retired ∧ u.mem.pcs[p].cause = 5 ∧ p ∈ u.mem.record))
    ∧ (good → free → fieldAt b 1 1 = 0 → s.mem.pcs[p].st = .active → ∀ q, s.spareFor p = some q → p ≠ q →
        Leads (exec (.retirePc t m) s) (fun u => Replied u m stAccepted []
          ∧ (∃ b, u.mem.mig = some ⟨p, q, 0, 5, 0, b, s.mem.pcs[p].cause, .active⟩ ∧ max s.clk t < b ∧ b ≤ max s.clk t + 4)
          ∧ u.mem.pcs[p].st = .migFrom ∧ u.mem.pcs[q].st = .migTo ∧ u.mem.slots = s.mem.slots))
    ∧ (good → free → fieldAt b 1 1 = 1 → s.mem.pcs[p].st = .retired → Leads (exec (.retirePc t m) s) (fun u =>
        Replied u m stAccepted [] ∧ u.mem = { s.mem with restore := some p })))
  ∧ (∀ (s : State) (t : Nat),
      ((∀ g : Migration, s.mem.mig = some g → g.ptr ≠ 1048576) → exec (.migrationCompletion t) s = .next (s.reach t))
      ∧ (∀ g : Migration, s.mem.mig = some g → g.ptr = 1048576 → g.from_ ≠ g.dst → s.mem.waitRet = [] →
        Leads (exec (.migrationCompletion t) s) (fun u => u.mem.mig = none ∧ u.mem.pcs[g.dst].st = .active
          ∧ u.mem.pcs[g.from_].st = .retired ∧ u.mem.pcs[g.from_].cause = g.cause ∧ g.from_ ∈ u.mem.record
          ∧ u.mem.slots = s.mem.slots.map (fun x => if x = some g.from_ then some g.dst else x) ∧ u.tr = s.tr))
      ∧ (s.mem.reduce = none → exec (.capacityReduction t) s = .next (s.reach t))
      ∧ (∀ p k cause, s.mem.reduce = some (p, k, cause) → s.mem.waitRet = [] → (∀ c, s.armedOn c = false) →
        Leads (exec (.capacityReduction t) s) (fun u => u.mem.reduce = none ∧ u.mem.slots = s.mem.slots.set k none
          ∧ u.tr.total = s.tr.total - 28672 ∧ u.mem.pcs[p].st = .retired ∧ u.mem.pcs[p].cause = cause))
      ∧ (s.mem.restore = none → ∀ b x, exec (.pcRestoreTraining t b x) s = .next (s.reach t))
      ∧ ∀ (p : Fin 32) (tr : PcTraining) (x : Int), s.mem.restore = some p →
        (trainingWorks tr = true → Leads (exec (.pcRestoreTraining t tr x) s) (fun u => u.mem.restore = none
          ∧ u.mem.pcs[p].st = .spare ∧ u.mem.pcs[p].tempTr = x ∧ u.mem.pcs[p].set = tr.set
          ∧ p ∉ u.mem.record ∧ (∀ q, q ≠ p → u.mem.pcs[q] = s.mem.pcs[q])))
        ∧ (trainingWorks tr = false → Leads (exec (.pcRestoreTraining t tr x) s) (fun u => u.mem.restore = none
          ∧ u.mem.pcs[p].st = s.mem.pcs[p].st ∧ u.mem.pcs[p].set = s.mem.pcs[p].set
          ∧ u.mem.pcs[p].trainFails = satAdd 16 s.mem.pcs[p].trainFails 1 ∧ (∀ q, q ≠ p → u.mem.pcs[q] = s.mem.pcs[q]))))
  ∧ ∀ (s : State) (t : Nat) (m : Fin 17), Ready s t m 0x0304 (lenIs 0) →
      Leads (exec (.memHealth t m) s) (fun u => Replied u m stOk (s.reach t).memHealth ∧ (s.reach t).memHealth.length = 1568
        ∧ SameUnits s u ∧ SameSettings s u)

/-- R331 to R333, R338 to R340.

Completes with its own effect (`exec c s = .next u` for the `u` that `Leads` or the equation gives): `retrainingStart`,
`retrainingWindow`, `ceWindow`, `selfRefreshEntry`, `selfRefreshExit`. -/
def Obligations.TrainingAndSelfRefresh : Prop :=
  (∀ (s : State) (t : Nat) (p : Fin 32) (x : Int) (d : List Int), s.srAborts = false →
    let y := s.mem.pcs[p]
    let moved := deskewEnds d || decide (s.mkey 0x0B01 * 10 ≤ (x - y.tempTr).natAbs)
    let idle := (y.st = .active ∨ y.st = .spare) ∧ y.retrain = none ∧ p ∉ s.mem.retrainQ ∧ s.stackTrains p = false
    (moved = false → exec (.retrainingStart t p x d) s = .next ((s.reach t).modPc p (fun y => { y with temp := x, deskew := d })))
    ∧ (moved = true → idle → exec (.retrainingStart t p x d) s
        = .next ((s.reach t).modPc p (fun y => { y with temp := x, deskew := d, retrain := some 0 })))
    ∧ (∀ (set : PcSetting) (eyes : List Eye), y.retrain = none → exec (.retrainingWindow t p set eyes x) s = .next (s.reach t))
    ∧ (∀ (set : PcSetting) (eyes : List Eye) (n : Nat), y.retrain = some n → s.memBackground = true → n + 1 < 2048 →
        exec (.retrainingWindow t p set eyes x) s = .next ((s.reach t).modPc p (fun y => { y with retrain := some (n + 1) })))
    ∧ (∀ (set : PcSetting) (eyes : List Eye) (n : Nat), y.retrain = some n → s.memBackground = true → 2048 ≤ n + 1 →
        s.mem.retrainQ = [] →
        (settingWorks eyes = true → Leads (exec (.retrainingWindow t p set eyes x) s) (fun u => u.mem.pcs[p] = { y with
            retrain := none, trained := max s.clk t, temp := x, tempTr := x, set := set, deskew := []
            trainings := satAdd 16 y.trainings 1 }
          ∧ (∀ q, q ≠ p → u.mem.pcs[q] = s.mem.pcs[q]) ∧ SameUnits { s with mem := u.mem } u))
        ∧ (settingWorks eyes = false → Leads (exec (.retrainingWindow t p set eyes x) s) (fun u => u.mem.pcs[p].retrain = none
          ∧ u.mem.pcs[p].set = y.set ∧ u.mem.pcs[p].trainFails = satAdd 16 y.trainFails 1)))
    ∧ (y.st = .retired → exec (.ceWindow t p) s = .next (s.reach t))
    ∧ (y.st ≠ .retired →
        let judged := y.ceTrig && y.retrain.isNone && !(s.mem.retrainQ.contains p)
        (y.ceWin < s.mkey 0x0B02 → (judged = true → y.ceWin < s.mkey 0x0B03) →
          exec (.ceWindow t p) s = .next ((s.reach t).modPc p (fun y => { y with
            ceLast := y.ceWin % 2 ^ 32, ceWin := 0, ceTrig := y.ceTrig && !judged })))
        ∧ (s.mkey 0x0B02 ≤ y.ceWin → y.ceTrig = false → idle → Leads (exec (.ceWindow t p) s) (fun u =>
            u.mem.pcs[p] = { y with ceLast := y.ceWin % 2 ^ 32, ceWin := 0, ceTrig := true, retrain := some 0 }
            ∧ (∀ q, q ≠ p → u.mem.pcs[q] = s.mem.pcs[q]) ∧ u.mem.mig = s.mem.mig))))
  ∧ ∀ (s : State) (t : Nat),
      (∀ b r, s.mem.sr = .entry b → (b = false ∨ (r = false ∧ s.memWork = false)) → s.ck.relock = none →
        exec (.selfRefreshEntry t r) s = .next ((s.reach t).modMem (fun m => { m with sr := .on })).syncDomains)
      ∧ (s.mem.sr = .entry true → s.ck.relock = none → Leads (exec (.selfRefreshEntry t true) s) (fun u => u.mem.sr = .off
          ∧ u.pw.entry = none ∧ (s.pw.entry ≠ none → u.pw.refusedBy = 10)))
      ∧ ((s.mem.sr = .off ∨ s.mem.sr = .on) → ∀ r, exec (.selfRefreshEntry t r) s = .next (s.reach t))
      ∧ (∀ exits : List ExitPc, s.mem.sr = .on → s.ck.relock = none → s.ck.synth ≠ 2 → s.pw.st ≤ 2 → s.pw.entry = none →
        Leads (exec (.selfRefreshExit t exits) s) (fun u => u.mem.sr = .off ∧ u.tr = s.tr ∧ ∀ p : Fin 32, s.pcWorks p = true →
          let y := s.mem.pcs[p]
          let e := s.exitOf exits p
          u.mem.pcs[p].temp = e.temp
            ∧ u.mem.pcs[p].tempTr = (if s.mkey 0x0B01 * 10 ≤ (e.temp - y.tempTr).natAbs ∧ trainingWorks e.tr = true
                then e.temp else y.tempTr)))
      ∧ (s.ck.relock ≠ none ∨ s.ck.synth = 2 → ∀ exits, exec (.selfRefreshExit t exits) s = .next (s.reach t))

/-- R354 to R358; R361, R363 to R365.

Completes with its own effect (`exec c s = .next u` for the `u` that `Leads` or the equation gives): `harvestQueueCreate`,
`hqCheadWrite`, `hqTailWrite`, `descriptorTake`, `completionRecord`. -/
def Obligations.QueuesAndDescriptors : Prop :=
  (∀ (s : State) (t : Nat) (m : Fin 17), Ready s t m 0x0B01 (lenIs 32) →
    let p := (s.reqOf m).payload
    let n := fieldAt p 4 4
    let q : Fin 64 := Fin.ofNat 64 (fieldAt p 0 1)
    let bad := 63 < fieldAt p 0 1 ∨ fieldAt p 1 1 = 0 ∨ 63 < fieldAt p 2 1 ∨ fieldAt p 3 1 ≠ 0 ∨ n < 16 ∨ 65536 < n ∨ 2 ^ Nat.log2 n ≠ n
      ∨ fieldAt p 8 8 % 4096 ≠ 0 ∨ fieldAt p 16 8 % 4096 ≠ 0 ∨ fieldAt p 24 8 ≠ 0
    (bad → Leads (exec (.harvestQueueCreate t m) s) (fun u => Replied u m eParam [] ∧ SameUnits s u ∧ SameSettings s u))
    ∧ (¬ bad → (s.hv.qs[q]).live = true →
        Leads (exec (.harvestQueueCreate t m) s) (fun u => Replied u m eState [] ∧ SameUnits s u ∧ SameSettings s u))
    ∧ (¬ bad → (s.hv.qs[q]).live = false → Leads (exec (.harvestQueueCreate t m) s) (fun u => Replied u m stOk []
        ∧ u.hv = { s.hv with qs := s.hv.qs.set q.val { HQueue.reset with
            live := true, weight := fieldAt p 1 1, vector := fieldAt p 2 1, entries := n, ring := fieldAt p 8 8, cring := fieldAt p 16 8 } }
        ∧ SameUnits { s with hv := u.hv } u ∧ SameSettings s u)))
  ∧ (∀ (s : State) (t : Nat) (q : Fin 64) (v : BitVec 32),
      let h := s.hv.qs[q]
      (h.live = false → exec (.hqCheadWrite t q v) s = .next (s.reach t) ∧ (h.dying = false → exec (.hqTailWrite t q v) s = .next (s.reach t)))
      ∧ (s.hl.up = true → h.live = true → v.toNat < h.entries →
        exec (.hqCheadWrite t q v) s = .next ((s.reach t).modQ q (fun x => { x with chead := v.toNat }))
        ∧ (h.dying = false → exec (.hqTailWrite t q v) s = .next ((s.reach t).modQ q (fun x => { x with tail := v.toNat }))))
      ∧ (s.hl.up = true → h.live = true → h.entries ≤ v.toNat →
        exec (.hqCheadWrite t q v) s = .next ((s.reach t).modQ q (fun x => { x with dbErr := some (max s.clk t) }))
        ∧ (h.dying = false → exec (.hqTailWrite t q v) s = .next ((s.reach t).modQ q (fun x => { x with dbErr := some (max s.clk t) })))))
  ∧ (∀ (s : State) (t : Nat) (q : Fin 64),
      let h := s.hv.qs[q]
      (s.mayFetch q = false → ∀ f, exec (.descriptorTake t q f) s = .next (s.reach t))
      ∧ (s.mayFetch q = true → ∀ code, 1 ≤ code → code ≤ 3 → Leads (exec (.descriptorTake t q (.failed code)) s) (fun u =>
          u.hv.qs[q] = { h with err := code } ∧ (∀ j, j ≠ q → u.hv.qs[j] = s.hv.qs[j]) ∧ SameUnits { s with hv := u.hv } u))
      ∧ (s.mayFetch q = true → s.pw.st ≠ 2 → ∀ bs, Leads (exec (.descriptorTake t q (.bytes bs)) s) (fun u =>
          (∃ e, u.hv.qs[q] = { h with head := (h.head + 1) % max 1 h.entries, exec := h.exec ++ [e] }
            ∧ e.index = h.head ∧ e.desc = HDesc.ofBytes bs ∧ e.status = s.takeCheck (HDesc.ofBytes bs))
          ∧ (∀ j, j ≠ q → u.hv.qs[j] = s.hv.qs[j]) ∧ u.tr.pages = s.tr.pages ∧ u.hl = s.hl ∧ u.ch = s.ch)))
  ∧ ∀ (s : State) (t : Nat) (q : Fin 64) (e : Executing) (rest : List Executing), (s.hv.qs[q]).exec = e :: rest → s.hl.up = true →
      (s.hv.qs[q]).dying = false → (e.status ≠ none ∨ (s.memServes = true ∧ s.ck.relock = none)) → Memory.wf s.hl.hostMem = true →
      let h := s.hv.qs[q]
      let v := s.deliver e
      let r := h.cring + 32 * h.ctail
      Leads (exec (.completionRecord t q) s) (fun u => (u.hv.qs[q]).exec = rest ∧ (u.hv.qs[q]).ctail = (h.ctail + 1) % max 1 h.entries
        ∧ (u.hv.qs[q]).done = wrapAdd 64 h.done 1 ∧ u.hv.bytes = wrapAdd 64 s.hv.bytes v.bytes.length
        ∧ memReadBytes u.hl.hostMem r 32 = recordBytes e v h.phase (bitAt e.desc.flags 1 && decide (v.status ≤ 1)) (s.reach t).ticks
        ∧ ((e.desc.dest + v.bytes.length ≤ r ∨ r + 32 ≤ e.desc.dest) →
            memReadBytes u.hl.hostMem e.desc.dest v.bytes.length = v.bytes)
        ∧ (∀ x, (x < r ∨ r + 32 ≤ x) → (x < e.desc.dest ∨ e.desc.dest + v.bytes.length ≤ x) →
            memRead u.hl.hostMem x = memRead s.hl.hostMem x)
        ∧ (∀ j, j ≠ q → { u.hv.qs[j] with exec := [] } = { s.hv.qs[j] with exec := [] }
            ∧ (u.hv.qs[j]).exec.map (·.desc) = (s.hv.qs[j]).exec.map (·.desc))
        ∧ (e.status ≠ none → ∀ j, j ≠ q → u.hv.qs[j] = s.hv.qs[j]))

/-- R353; R367, R368, R370.

Completes with its own effect (`exec c s = .next u` for the `u` that `Leads` or the equation gives): `harvestQueueDestroy`,
`queueDrainExpiry`, `msixUnmask`, `linkDown`, `linkUp`. -/
def Obligations.QueueEndsAndLink : Prop :=
  (∀ (s : State) (t : Nat) (m : Fin 17) (moved : List Nat), Ready s t m 0x0B02 (lenIs 8) → fieldAt (s.reqOf m).payload 0 1 ≤ 63 →
      fieldAt (s.reqOf m).payload 2 6 = 0 →
    let mode := fieldAt (s.reqOf m).payload 1 1
    let q : Fin 64 := Fin.ofNat 64 (fieldAt (s.reqOf m).payload 0 1)
    let h := s.hv.qs[q]
    (mode ≤ 1 → h.live = false →
      Leads (exec (.harvestQueueDestroy t m moved) s) (fun u => Replied u m eState [] ∧ SameUnits s u ∧ SameSettings s u))
    ∧ (mode ≤ 1 → h.live = true → h.exec = [] → Leads (exec (.harvestQueueDestroy t m moved) s) (fun u =>
        Replied u m stOk (leBytes 4 0 ++ leBytes 4 0) ∧ u.hv = { s.hv with qs := s.hv.qs.set q.val HQueue.reset }
        ∧ SameUnits { s with hv := u.hv } u ∧ SameSettings s u))
    ∧ (mode = 1 → h.live = true → h.exec ≠ [] → h.exec.length ≤ 4 → Leads (exec (.harvestQueueDestroy t m moved) s) (fun u =>
        Replied u m stOk (leBytes 4 (h.exec.length - s.cancelledIn h moved) ++ leBytes 4 (s.cancelledIn h moved)) ∧ u.hv.qs[q] = HQueue.reset
        ∧ ∀ j, j ≠ q → u.hv.qs[j] = s.hv.qs[j]))
    ∧ (mode = 0 → h.live = true → h.exec ≠ [] → Leads (exec (.harvestQueueDestroy t m moved) s) (fun u =>
        (u.mbox m).state = .busy ∧ u.mr.exec = some ⟨m, max s.clk t, .hqDestroy q 0 0 (max s.clk t + 300000000) true⟩
        ∧ u.hv.qs[q] = { h with dying := true } ∧ ∀ j, j ≠ q → u.hv.qs[j] = s.hv.qs[j])))
  ∧ (∀ (s : State) (t taken d c due : Nat) (m : Fin 17) (q : Fin 64) (b : Bool) (moved : List Nat),
      s.mr.exec = some ⟨m, taken, .hqDestroy q d c due b⟩ →
      (max s.clk t < due → exec (.queueDrainExpiry t q moved) s = .next (s.reach t))
      ∧ (due ≤ max s.clk t → (s.hv.qs[q]).dying = true → (s.hv.qs[q]).exec.length ≤ 4 → s.fw.halted = false →
        Leads (exec (.queueDrainExpiry t q moved) s) (fun u => u.hv.qs[q] = HQueue.reset ∧ u.mr.exec = none
          ∧ (u.mbox m).state = .done ∧ (u.mbox m).status = stOk ∧ ∀ j, j ≠ q → u.hv.qs[j] = s.hv.qs[j])))
  ∧ (∀ (s : State) (t : Nat) (v : Fin 64),
      (s.hl.up = false → exec (.msixUnmask t v) s = .next (s.reach t))
      ∧ (s.hl.up = true → s.hl.pba.getLsbD v.val = false → exec (.msixUnmask t v) s = .next ((s.reach t).modHl (fun h =>
          { h with msix := h.msix.set v.val { h.msix[v] with masked := false } })))
      ∧ (s.hl.up = true → s.hl.msixOn = true → s.hl.pba.getLsbD v.val = true → Leads (exec (.msixUnmask t v) s) (fun u =>
          u.hl.sent = ⟨max s.clk t, v.val⟩ :: s.hl.sent ∧ u.hl.pba = s.hl.pba &&& ~~~(1#64 <<< v.val)
          ∧ (u.hl.msix[v]).masked = false ∧ SameUnits s u ∧ SameSettings s u)))
  ∧ ∀ (s : State) (t : Nat),
      (∀ cause, s.hl.up = false → (cause = 1 ∨ 3 ≤ s.pw.st) → exec (.linkDown t cause) s = .next (s.reach t))
      ∧ (∀ cause, (s.hl.up = true ∨ (cause ≠ 1 ∧ s.pw.st ≤ 2)) → Leads (exec (.linkDown t cause) s) (fun u => u.hl.up = false ∧ u.hl.wasDown = true
          ∧ u.hl.downs = wrapAdd 32 s.hl.downs 1 ∧ u.hl.pba = 0#64 ∧ (∀ q : Fin 64, u.hv.qs[q] = HQueue.reset)
          ∧ u.tm.meas = [] ∧ (∀ o : Fin 2, (u.out[o]).loading = none)))
      ∧ ((s.hl.up = true ∨ s.pw.main = false ∨ s.pw.inserted = false ∨ 3 ≤ s.pw.st) →
          ∀ rate lanes, exec (.linkUp t rate lanes) s = .next (s.reach t))
      ∧ (s.hl.up = false → s.pw.main = true → s.pw.inserted = true → s.pw.st ≤ 2 → ∀ rate lanes,
          Leads (exec (.linkUp t rate lanes) s) (fun u => u.hl.up = true ∧ u.hl.rate = rate ∧ u.hl.lanes = lanes
            ∧ u.hl.linkReset = s.hl.linkReset.raise s.hl.wasDown (max s.clk t) ∧ u.hl.downs = s.hl.downs ∧ SameUnits s u ∧ SameSettings s u))

/-- R375, R377.

Completes with its own effect (`exec c s = .next u` for the `u` that `Leads` or the equation gives): `playLoad`, `playLoadEnd`. -/
def Obligations.PlayLoading : Prop :=
  (∀ (s : State) (t : Nat) (m : Fin 17), Ready s t m 0x0A01 (lenIs 32) →
    let b := (s.reqOf m).payload
    let n := fieldAt b 4 4
    let o : Fin 2 := Fin.ofNat 2 (fieldAt b 0 1)
    let good := fieldAt b 0 1 ≤ 1 ∧ fieldAt b 1 3 = 0 ∧ fieldAt b 24 8 = 0 ∧ bulkOk b 8 = true
      ∧ n % 8 = 0 ∧ 80 ≤ n ∧ n ≤ 1342177280 ∧ (bulkRef b 8).2.1 = waveWords n * 8
    let fails := fun st => Leads (exec (.playLoad t m) s) (fun u => Replied u m st [] ∧ SameUnits s u ∧ SameSettings s u)
    (¬ good → fails eParam)
    ∧ (good → (s.out[o].st = 2 ∨ s.out[o].st = 3) → fails eState)
    ∧ (good → s.out[o].st ≤ 1 → s.out[o].loading ≠ none → fails eBusy)
    ∧ (good → s.out[o].st ≤ 1 → s.out[o].loading = none → s.pw.entry = none → s.pw.st = 0 → wavePages n ≤ s.freePages →
        s.mr.work.length < 16 → Leads (exec (.playLoad t m) s) (fun u => Replied u m stAccepted []
          ∧ (∃ ps, u.out = s.out.set o.val { s.out[o] with loading := some (ps, n) })
          ∧ u.mr.work = s.mr.work ++ [⟨m.val, (s.reqOf m).code, (s.reqOf m).tag, max s.clk t, o.val, 0⟩])))
  ∧ ∀ (s : State) (t n : Nat) (o : Fin 2) (ps : List Nat), s.out[o].loading = some (ps, n) →
      (∀ bs : List Byte, Leads (exec (.playLoadEnd t o (some bs)) s) (fun u => u.out = s.out.set o.val { s.out[o] with
            loading := none, region := ps, samples := n, streamed := decide (65536 < waveWords n), st := 1 }
          ∧ u.tr.mem = writeChain ps 0 (padTo (waveWords n * 8) bs) (s.returnPages s.out[o].region).tr.mem
          ∧ u.mr.work = s.mr.work.eraseP (loadsOut o)))
      ∧ Leads (exec (.playLoadEnd t o none) s) (fun u => u.out = s.out.set o.val { s.out[o] with loading := none }
          ∧ u.tr = (s.returnPages ps).tr ∧ u.mr.work = s.mr.work.eraseP (loadsOut o))

/-- R379, R380, R382 to R384; R374 with R84.

Completes with its own effect (`exec c s = .next u` for the `u` that `Leads` or the equation gives): `playStart`, `playStop`,
`playStartTick`, `playEnd`, `streamUnderrun`. -/
def Obligations.PlaySchedule : Prop :=
  (∀ (s : State) (t : Nat) (m : Fin 17), Ready s t m 0x0A02 (lenIs 16) →
    let b := (s.reqOf m).payload
    let o : Fin 2 := Fin.ofNat 2 (fieldAt b 0 1)
    let x := s.out[o]
    let s0 := s.reach t
    let w := fieldAt b 1 1
    let at_ := if w = 1 then s.clkOf (fieldAt b 8 8) else s.boundaryFrom (s0.clk + x.lead)
    fieldAt b 0 1 ≤ 1 → w ≤ 1 → fieldAt b 2 2 = 0 → (w = 1 → fieldAt b 8 8 % 4 = 0 ∧ s0.ticks + x.lead ≤ fieldAt b 8 8) →
        (w = 0 → fieldAt b 8 8 = 0) →
      (x.st ≠ 1 → Leads (exec (.playStart t m) s) (fun u => Replied u m eState [] ∧ SameUnits s u ∧ SameSettings s u))
      ∧ (x.st = 1 → x.loading = none → s.ck.synth = 0 → s.pw.entry = none → s.pw.st = 0 →
          (x.streamed = true → streamNeed + s.streamUse ≤ unreserved s.activeSlots s.appliedRates) →
        Leads (exec (.playStart t m) s) (fun u => Replied u m stOk (startResp (s0.ticks + (at_ - s0.clk)) x.streamed)
          ∧ u.out = s.out.set o.val { x with st := 2, start := at_, loops := fieldAt b 4 4, stopAt := none, plays := 0, underruns := 0,
                                             under := [] } ∧ SameSettings s u)))
  ∧ (∀ (s : State) (t : Nat) (m : Fin 17), Ready s t m 0x0A03 (lenIs 8) →
      let b := (s.reqOf m).payload
      let o : Fin 2 := Fin.ofNat 2 (fieldAt b 0 1)
      let at_ := (s.reach t).stopTick o (fieldAt b 1 1)
      fieldAt b 0 1 ≤ 1 → fieldAt b 1 1 ≤ 1 → fieldAt b 2 6 = 0 →
        ((s.out[o].st = 2 ∨ s.out[o].st = 3) → s.out[o].stopAt = none → Leads (exec (.playStop t m) s) (fun u =>
          (u.mbox m).state = .busy ∧ u.mr.exec = some ⟨m, max s.clk t, .playStop o.val⟩
          ∧ u.out = s.out.set o.val { s.out[o] with stopAt := some (at_, 2) } ∧ SameUnits { s with out := u.out } u))
        ∧ (s.out[o].st ≤ 1 → Leads (exec (.playStop t m) s) (fun u => Replied u m eState [] ∧ SameUnits s u ∧ SameSettings s u)))
  ∧ (∀ (s : State) (t : Nat) (o : Fin 2),
      let x := s.out[o]
      let c := max s.clk t
      ((x.st ≠ 2 ∨ c < x.start) → exec (.playStartTick t o) s = .next (s.reach t))
      ∧ (x.st = 2 → x.start ≤ c → x.stopAt = none → Leads (exec (.playStartTick t o) s) (fun u =>
          u.out = s.out.set o.val { x with st := 3 } ∧ SameUnits { s with out := u.out } u ∧ SameSettings s u))
      ∧ (x.ending = none → exec (.playEnd t o) s = .next (s.reach t))
      ∧ (∀ e r, x.ending = some (e, r) →
        let n := x.playsAt e
        (c < e → exec (.playEnd t o) s = .next (s.reach t))
        ∧ (e ≤ c → x.st = 3 → Leads (exec (.playEnd t o) s) (fun u =>
            u.out = s.out.set o.val { x with st := 1, stopAt := none, plays := min (2 ^ 32 - 1) n }
            ∧ ∀ m taken, s.mr.exec = some ⟨m, taken, .playStop o.val⟩ → s.fw.halted = false →
                Replied u m stOk (stopResp n (s.ticksAt e)) ∧ u.mr.exec = none)))
      ∧ (x.st = 3 → x.streamed = true → x.ending = none → ∀ n : Nat,
        let hit := ((x.wordsAt c)[n]?).filter (fun w => !(x.under.contains w.1))
        (hit = none → exec (.streamUnderrun t ⟨o, n⟩) s = .next (s.reach t))
        ∧ ∀ w, hit = some w → Leads (exec (.streamUnderrun t ⟨o, n⟩) s) (fun u => u.out[o].underruns = satAdd 32 x.underruns 1
            ∧ u.out[o].underrun = some c ∧ u.out[o].under = w.1 :: x.under ∧ (∀ j, j ≠ o → u.out[j] = s.out[j])
            ∧ SameUnits { s with out := u.out } u)))
  ∧ ∀ (s : State) (t k : Nat) (o : Fin 2) (i : Fin 4), (s.out[o].st ≤ 1 ∨ t < s.out[o].start) →
      s.outCode o t k = 0 ∧ (s.akey 0x0103 i = 1 + o.val → (s.injected i t k).2 = 0)

/-- R392, R393, R403 to R406, R409.

Completes with its own effect (`exec c s = .next u` for the `u` that `Leads` or the equation gives): `arrayJoin`, `joinSilenceExpiry`,
`join`, `assign`, `absent`, `dissolve`, `arrayLeave`, `arrayStatus`. -/
def Obligations.ArrayMembership : Prop :=
  (∀ (s : State) (t : Nat) (m : Fin 17), Ready s t m 0x0801 (lenIs 8) →
    let p := (s.reqOf m).payload
    let ro := fieldAt p 0 1
    let free := s.working 0x0801 = false ∧ s.mr.work.length < 16
    (byteForm p 1 3 = false → Leads (exec (.arrayJoin t m) s) (fun u => Replied u m eParam [] ∧ SameUnits s u ∧ SameSettings s u))
    ∧ (byteForm p 1 3 = true → ((ro ≠ 2 ∧ s.ar.role ≠ 0) ∨ (ro = 3 ∧ s.ar.ports[(0 : Fin 3)] = false)) →
        Leads (exec (.arrayJoin t m) s) (fun u => Replied u m eState [] ∧ SameUnits s u ∧ SameSettings s u))
    ∧ (byteForm p 1 3 = true → ro = 1 → s.ar.role = 0 → free → (s.ar.ports[(0 : Fin 3)] = true → s.ar.peers[(0 : Fin 3)] = 0) →
        Leads (exec (.arrayJoin t m) s) (fun u => Replied u m stAccepted [] ∧ u.ar.role = 1 ∧ u.ar.astate = 2 ∧ u.ar.addr = 0
          ∧ u.ar.mgr = 0 ∧ u.ar.level = 1 ∧ u.ar.hops = 0 ∧ u.ar.aligned = true ∧ u.ar.joinAt = some (max s.clk t) ∧ u.ar.w = 404
          ∧ u.ar.members.map (·.addr) = [0]))
    ∧ (byteForm p 1 3 = true → ro = 3 → s.ar.role = 0 → free → s.ar.ports[(0 : Fin 3)] = true → s.fw.serving = true → s.fw.halted = false →
        Leads (exec (.arrayJoin t m) s) (fun u => Replied u m stAccepted [] ∧ u.ar.role = 0 ∧ u.ar.astate = 1
          ∧ ⟨max s.clk t, 0x0A, s.ar.addr, joinArgs Config.serial identDigest⟩ ∈ u.ar.tx ∧ u.tr = s.tr ∧ u.ch = s.ch ∧ u.mem = s.mem)))
  ∧ (∀ (s : State) (t a : Nat), s.ar.joinAt = some a →
      (max s.clk t < a + 300000000 → exec (.joinSilenceExpiry t) s = .next (s.reach t))
      ∧ (a + 300000000 ≤ max s.clk t → Leads (exec (.joinSilenceExpiry t) s) (fun u => u.ar.joinAt = none ∧ u.ar.role = s.ar.role
          ∧ u.ar.members = s.ar.members ∧ u.mr.work = s.mr.work.eraseP (fun w => w.code == 0x0801 && w.arg == 1)
          ∧ u.tr = s.tr ∧ u.ch = s.ch ∧ u.mem = s.mem)))
  ∧ (∀ (s : State) (t parent port role : Nat) (ser dig : List Byte),
      let old := positionOf s.ar.members parent port ser dig
      let addr := (old.map (·.addr)).getD ((freeAddr s.ar.members).getD 1024)
      (s.ar.role = 0 → exec (.join t parent port ser dig role) s = .next (s.reach t))
      ∧ (s.ar.role = 1 → s.fw.serving = true → s.fw.halted = false → (∀ x : Member, limitBroken (putMember { x with addr := addr, parent := parent, port := port } s.ar.members) addr = 0) →
          Leads (exec (.join t parent port ser dig role) s) (fun u => ∃ x, memberAt u.ar.members addr = some x ∧ x.mstate = 0
            ∧ x.parent = parent ∧ x.port = port ∧ x.serial = ser ∧ x.digest = dig))
      ∧ (s.ar.role = 1 → s.fw.serving = true → s.fw.halted = false → ∀ bad, bad ≠ 0 →
          (∀ x : Member, limitBroken (putMember { x with addr := addr, parent := parent, port := port } s.ar.members) addr = bad) →
          Leads (exec (.join t parent port ser dig role) s) (fun u => u.ar.members = s.ar.members
            ∧ ⟨max s.clk t, 0x0B, 0xFFFF, [0xFFFF, 0, 0, 0, bad]⟩ ∈ u.ar.tx))
      ∧ (s.isMember = true → s.fw.serving = true → s.fw.halted = false → Leads (exec (.join t parent port ser dig role) s) (fun u => u.ar.role = s.ar.role
          ∧ ⟨max s.clk t, 0x0A, parent, joinArgs ser dig ++ [port]⟩ ∈ u.ar.tx)))
  ∧ (∀ (s : State) (t addr role level hops : Nat) (mgr : ArrayHeads),
      (s.ar.role = 0 → s.ar.astate = 1 → Leads (exec (.assign t true addr role level hops mgr 0) s) (fun u => u.ar.role = role
        ∧ u.ar.addr = addr ∧ u.ar.level = level ∧ u.ar.hops = hops ∧ u.ar.mgr = mgr.mgr
        ∧ u.ar.deputy = (if role = 2 then addr else if mgr.deputy = addr then 65535 else mgr.deputy)
        ∧ u.ar.astate = 2 ∧ u.ar.exchanges = 0))
      ∧ (s.ar.role = 0 → s.ar.astate = 1 → ∀ n, n ≠ 0 → Leads (exec (.assign t true addr role level hops mgr n) s) (fun u =>
          u.ar.role = 0 ∧ u.ar.astate = 0 ∧ SameUnits s u))
      ∧ (s.isMember = true → Leads (exec (.assign t false addr role level hops mgr 0) s) (fun u => u.ar.role = s.ar.role
          ∧ u.ar.addr = s.ar.addr ∧ ⟨max s.clk t, 0x0B, addr, [addr, role, level, hops, 0]⟩ ∈ u.ar.tx ∧ SameUnits s u))
      ∧ (∀ x, s.ar.role = 1 → memberAt s.ar.members addr = some x → x.mstate = 0 → Leads (exec (.absent t addr) s) (fun u =>
          memberAt u.ar.members addr = some { x with mstate := 1, aligned := false }))
      ∧ (s.isMember = true → Leads (exec (.absent t addr) s) (fun u => ⟨max s.clk t, 0x0E, s.ar.addr, [addr]⟩ ∈ u.ar.tx ∧ SameUnits s u))
      ∧ (s.isMember = true → Leads (exec (.dissolve t) s) (fun u => u.ar.role = 0 ∧ u.ar.addr = 65535 ∧ u.ar.members = [] ∧ u.ar.noAuto = true))
      ∧ (s.isMember = false → exec (.dissolve t) s = .next (s.reach t)))
  ∧ ∀ (s : State) (t : Nat) (m : Fin 17),
      let p := (s.reqOf m).payload
      (Ready s t m 0x0803 (lenIs 8) → byteForm p 0 2 = true →
        (s.ar.role = 0 → Leads (exec (.arrayLeave t m) s) (fun u => Replied u m eState [] ∧ SameUnits s u ∧ SameSettings s u))
        ∧ (((s.ar.role = 3 ∧ fieldAt p 0 1 = 0) ∨ (s.ar.role = 1 ∧ fieldAt p 0 1 = 1)) →
            Leads (exec (.arrayLeave t m) s) (fun u => Replied u m stOk [] ∧ u.ar.role = 0 ∧ u.ar.addr = 65535 ∧ u.ar.noAuto = true)))
      ∧ (Ready s t m 0x0802 arrayStatusLen → fieldAt p 1 1 = 0 → fieldAt p 6 2 = 0 →
        (fieldAt p 0 1 = 0 → Leads (exec (.arrayStatus t m) s) (fun u => Replied u m stOk s.arraySummary ∧ SameUnits s u ∧ SameSettings s u))
        ∧ (fieldAt p 0 1 = 1 → Leads (exec (.arrayStatus t m) s) (fun u =>
            (if s.ar.role = 1 then Replied u m stOk ((s.reach t).memberPage (fieldAt p 4 2)) else Replied u m eState [])
            ∧ SameUnits s u ∧ SameSettings s u)))

/-- R389, R390, R395, R398, R402, R409 to R413.

Completes with its own effect (`exec c s = .next u` for the `u` that `Leads` or the equation gives): `portUp`, `portDown`,
`pauseExpiry`, `pause`, `badMessage`, `reroute`, `takeoverWaitExpiry`, `takeover`, `timeExchange`, `time`, `statusReport`, `status`,
`epoch`. -/
def Obligations.ArrayPortsAndTime : Prop :=
  (∀ (s : State) (t peer : Nat) (p : Fin 3) (sb : Bool),
    ((s.ar.ports[p] = true ∨ s.clockStopped = true ∨ 2 ≤ s.pw.st ∨ s.domOn (192 + p.val) = false) → exec (.portUp t p peer sb) s = .next (s.reach t))
    ∧ (s.ar.ports[p] = false → s.clockStopped = false → s.pw.st ≤ 1 → s.domOn (192 + p.val) = true → Leads (exec (.portUp t p peer sb) s) (fun u =>
        u.ar.ports = s.ar.ports.set p.val true ∧ u.ar.peers[p] = peer ∧ u.ar.lastTime[p] = max s.clk t ∧ u.ar.role = s.ar.role
        ∧ SameUnits s u ∧ SameSettings s u)))
  ∧ (∀ (s : State) (t : Nat) (p : Fin 3) (lock alive : Bool) (route : Option (Nat × Nat)),
      ((s.ar.ports[p] = false ∨ (lock = false ∧ max s.clk t < max s.ar.lastTime[p] (s.linkBusy p) + 9000000)) →
        exec (.portDown t p lock alive route) s = .next (s.reach t))
      ∧ (s.ar.ports[p] = true → s.ar.role = 0 → Leads (exec (.portDown t p true alive route) s) (fun u =>
          u.ar.ports = s.ar.ports.set p.val false ∧ u.ar.role = 0 ∧ SameUnits s u ∧ SameSettings s u))
      ∧ (s.ar.ports[(0 : Fin 3)] = true → s.ar.viaSb = false → s.ar.paused[(0 : Fin 3)] = none → s.ar.astate ≠ 3 →
          (s.ar.role = 2 → Leads (exec (.portDown t 0 true alive route) s) (fun u => u.ar.ports[(0 : Fin 3)] = false
            ∧ u.ar.takeWait = some (max s.clk t, alive) ∧ u.ar.exchanges = 0 ∧ u.ar.aligned = false ∧ u.ar.role = 2))
          ∧ (s.ar.role = 3 → s.sbUp = false → Leads (exec (.portDown t 0 true alive route) s) (fun u =>
            u.ar.ports[(0 : Fin 3)] = false ∧ u.ar.astate = 3 ∧ u.ar.aligned = false ∧ u.ar.addr = s.ar.addr)))
      ∧ (s.ar.paused[p] = none → exec (.pauseExpiry t p alive route) s = .next (s.reach t))
      ∧ (∀ x, s.ar.paused[p] = some x → x + 300000000 ≤ max s.clk t → s.ar.ports[p] = false → s.ar.role = 0 →
          exec (.pauseExpiry t p alive route) s = .next ((s.reach t).modAr (fun a => { a with paused := a.paused.set p.val none })))
      ∧ exec (.pause t p) s = .next ((s.reach t).modAr (fun a => { a with paused := a.paused.set p.val (some (max s.clk t)) }))
      ∧ (s.ar.ports[p] = true → exec (.badMessage t p) s = .next ((s.reach t).modAr (fun a => { a with crc := satAdd 16 a.crc 1 })))
      ∧ (s.ar.ports[p] = false → exec (.badMessage t p) s = .next (s.reach t)))
  ∧ (∀ (s : State) (t level hops : Nat),
      (s.isMember = true → s.ar.astate = 3 → s.sbUp = true → s.ar.viaSb = false → level ≤ 8 → hops ≤ 32 →
        Leads (exec (.reroute t level hops) s) (fun u => u.ar.astate = 2 ∧ u.ar.viaSb = true ∧ u.ar.level = level ∧ u.ar.hops = hops
          ∧ u.ar.exchanges = 0 ∧ u.ar.aligned = false ∧ u.ar.role = s.ar.role))
      ∧ (s.ar.astate ≠ 3 → exec (.reroute t level hops) s = .next (s.reach t)))
  ∧ (∀ (s : State) (t a : Nat) (e : Int) (table : Option (List Member)) (asym : Option (List (Nat × Int))), s.ar.takeWait = some (a, false) →
      (max s.clk t < a + 3000000 → exec (.takeoverWaitExpiry t e table asym) s = .next (s.reach t))
      ∧ (a + 3000000 ≤ max s.clk t → s.ar.role = 2 → Leads (exec (.takeoverWaitExpiry t e table asym) s) (fun u => u.ar.role = 1
          ∧ u.ar.astate = 2 ∧ u.ar.addr = s.ar.addr ∧ u.ar.mgr = s.ar.addr ∧ u.ar.takeWait = none
          ∧ u.ar.takeovers = wrapAdd 32 s.ar.takeovers 1)))
  ∧ (∀ (s : State) (t mgr level hops : Nat) (e : Int) (table : Option (List Member)) (asym : Option (List (Nat × Int))),
      (s.isMember = false → exec (.takeover t mgr level hops e table asym) s = .next (s.reach t))
      ∧ (s.isMember = true → mgr ≠ s.ar.addr → Leads (exec (.takeover t mgr level hops e table asym) s) (fun u => u.ar.mgr = mgr
          ∧ u.ar.deputy = 65535 ∧ u.ar.level = level ∧ u.ar.hops = hops ∧ u.ar.role = s.ar.role ∧ u.ar.aligned = false)))
  ∧ (∀ (s : State) (t : Nat) (p : Fin 3) (m : TimeMsg),
      (s.ar.ports[p] = false → exec (.timeExchange t p) s = .next (s.reach t) ∧ exec (.time t p m) s = .next (s.reach t))
      ∧ (s.ar.ports[p] = true → s.linkBusy p ≤ max s.clk t →
        let msg : NMsg := ⟨max s.clk t, 1, if s.isUpstream p then s.ar.addr else 0xFFFF, [(s.ar.echo[p]).1, (s.ar.echo[p]).2,
          s.tm.qual.toNat % 16, flag s.ar.aligned, s.ar.level, s.ar.hops]⟩
        Leads (exec (.timeExchange t p) s) (fun u => SameUnits s u ∧ SameSettings s u ∧ u.ar.tx = msg :: s.ar.tx
          ∧ (∃ w ∈ u.ar.wire, w.port = p.val ∧ w.seq = s.ar.seq ∧ w.msg = msg)
          ∧ { u.ar with tx := [], seq := 0, wire := [] } = { s.ar with tx := [], seq := 0, wire := [] }))
      ∧ (s.ar.ports[p] = true → max s.clk t < s.linkBusy p →
          exec (.timeExchange t p) s = .next (s.reach t) ∧ exec (.time t p m) s = .next (s.reach t))
      ∧ (s.ar.ports[p] = true → s.linkBusy p ≤ max s.clk t → s.isUpstream p = false →
          exec (.time t p m) s = .next ((s.reach t).modAr (fun a => { a with
            lastTime := a.lastTime.set p.val (max s.clk t), echo := a.echo.set p.val (m.t1, ((m.t2 : Int) - (s.linkConst p).rx).toNat)
            linkDelay := a.linkDelay.set p.val (delayOf (s.linkConst p) m) })))
      ∧ (s.ar.ports[p] = true → s.linkBusy p ≤ max s.clk t → s.isUpstream p = true →
          Leads (exec (.time t p m) s) (fun u => u.ar.theta = thetaOf (s.linkConst p) m
          ∧ u.ar.delay = delayOf (s.linkConst p) m ∧ u.ar.exchanges = min 16 (s.ar.exchanges + 1) ∧ u.ar.lastTime[p] = max s.clk t
          ∧ u.ar.level = m.level ∧ u.ar.hops = m.hops ∧ u.ar.upQual = m.qual)))
  ∧ (∀ (s : State) (t addr delay ex : Nat) (health : ModuleReport) (al : Bool),
      (s.isMember = true → s.fw.serving = true → s.fw.halted = false → Leads (exec (.statusReport t) s) (fun u => SameUnits s u ∧ SameSettings s u
        ∧ ⟨max s.clk t, 0x0C, s.ar.addr, [s.ar.addr, (s.reach t).moduleLevel, flag s.log.due, s.mkey 0x0E05]⟩ ∈ u.ar.tx))
      ∧ (s.isMember = false → exec (.statusReport t) s = .next (s.reach t))
      ∧ (∀ x, s.ar.role = 1 → s.fw.serving = true → s.fw.halted = false → memberAt s.ar.members addr = some x → Leads (exec (.status t addr health ex al delay) s) (fun u =>
          memberAt u.ar.members addr = some { x with health := health.level, export_ := ex != 0, aligned := al, delay := delay }
            ∧ SameUnits s u ∧ SameSettings s u))
      ∧ (s.ar.role ≠ 0 → (s.fw.serving = false ∨ s.fw.halted = true) → exec (.status t addr health ex al delay) s = .next ((s.reach t).modAr (fun a =>
          { a with held := a.held ++ [.status addr health ex al delay] })))
      ∧ (s.ar.role = 0 → exec (.status t addr health ex al delay) s = .next (s.reach t)))
  ∧ ∀ (s : State) (t b kind : Nat) (d : Int),
      (s.isMember = false → exec (.epoch t b d kind) s = .next (s.reach t))
      ∧ (s.isMember = true → (s.reach t).ticks ≤ b → Leads (exec (.epoch t b d kind) s) (fun u =>
          u.ar.epochs = s.ar.epochs ++ [⟨b, d, kind, none⟩] ∧ SameUnits s u ∧ SameSettings s u))
      ∧ (s.isMember = true → b < (s.reach t).ticks → kind = 0 → Leads (exec (.epoch t b d kind) s) (fun u =>
          u.tm.off = s.tm.off + d ∧ u.ar.epochs = s.ar.epochs))

/-- R399 to R402; R407, R408.

Completes with its own effect (`exec c s = .next u` for the `u` that `Leads` or the equation gives): `trigReq`, `trig`, `armMessage`,
`disarmMessage`, `ready`, `relayCmd`, `relayRsp`, `arrayCalibrateLinks`, `linkCalibrationEnd`. -/
def Obligations.ArrayTriggersAndRelays : Prop :=
  (∀ (s : State) (t origin ticks frac delay : Nat) (c : Fin 4) (qual : BitVec 8),
    let f := (s.reach t).fineOf ticks frac
    (s.ar.role = 0 → exec (.trigReq t origin c ticks frac qual) s = .next (s.reach t)
      ∧ exec (.trig t origin c ticks frac qual delay) s = .next (s.reach t))
    ∧ (s.ar.role = 1 → (∀ p, s.ar.lastP = some p → 1500 * fineUnit < ((f : Int) - p).natAbs) →
      Leads (exec (.trigReq t origin c ticks frac qual) s) (fun u => u.ar.lastP = some f
        ∧ ⟨max s.clk t, 0x04, 0xFFFF, [origin, c.val, (s.reach t).ticksAt (f / fineUnit), f % fineUnit, flag (qual.getLsbD 5)]⟩ ∈ u.ar.tx
        ∧ u.ar.merged = s.ar.merged))
    ∧ (∀ p, s.ar.role = 1 → s.ar.lastP = some p → ((f : Int) - p).natAbs ≤ 1500 * fineUnit →
      exec (.trigReq t origin c ticks frac qual) s = .next ((s.reach t).modAr (fun a => { a with merged := wrapAdd 32 a.merged 1 })))
    ∧ (s.isMember = true → Leads (exec (.trigReq t origin c ticks frac qual) s) (fun u => u.evq = s.evq ∧ SameUnits s u
        ∧ ⟨max s.clk t, 0x03, origin, [origin, c.val, ticks, frac % fineUnit, flag (qual.getLsbD 5)]⟩ ∈ u.ar.tx))
    ∧ (s.isMember = true →
        let g := (s.reach t).fineOf (ticks + delay) frac
        let v := qual.getLsbD 5
        (max s.clk t ≤ g / fineUnit + 384 → Leads (exec (.trig t origin c ticks frac qual delay) s) (fun u =>
          u.ar.recv = wrapAdd 32 s.ar.recv 1 ∧ u.evq = s.evq ++ [⟨g, 0x18, s.stampAt g 3 v, 0xF#4, s.cycleOf g + 404, v, g⟩]
          ∧ u.tm = s.tm ∧ u.ch = s.ch))
        ∧ (g / fineUnit + 384 < max s.clk t → Leads (exec (.trig t origin c ticks frac qual delay) s) (fun u =>
          u.ar.recv = wrapAdd 32 s.ar.recv 1 ∧ u.evq = s.evq ∧ u.tm.niredLate = wrapAdd 32 s.tm.niredLate 1 ∧ u.ch = s.ch))))
  ∧ (∀ (s : State) (t c number q : Nat),
      (s.isMember = false → exec (.armMessage t c number) s = .next (s.reach t) ∧ exec (.disarmMessage t q) s = .next (s.reach t))
      ∧ (s.isMember = true → (s.reach t).followSet = [] → Leads (exec (.armMessage t c number) s) (fun u => SameUnits s u
          ∧ ⟨max s.clk t, 0x07, s.ar.addr, [s.ar.addr, number, 2]⟩ ∈ u.ar.tx))
      ∧ (s.isMember = true → (s.reach t).followSet ≠ [] → s.pw.st = 0 → Leads (exec (.armMessage t c number) s) (fun u =>
          u.ar.armNo = number ∧ u.ar.armC = some c ∧ u.ar.armTold = false
          ∧ ∀ d ∈ (s.reach t).followSet, u.ch[d].st = .arming ∧ u.ch[d].follow = true ∧ u.mr.armed[d] = s.mr.recorded))
      ∧ (s.isMember = true →
          let b := s.boundaryFrom (max (max s.clk t + 1) (s.clkOf q))
          Leads (exec (.disarmMessage t q) s) (fun u => u.evq = s.evq ∧ u.tr = s.tr ∧ ∀ d : Fin 4,
            (s.ch[d].follow = false → u.ch[d] = s.ch[d])
            ∧ (s.ch[d].follow = true → s.running d = true → s.ch[d].stopAt = none →
                u.ch[d] = { s.ch[d] with stopAt := some ⟨b, 6, 1⟩ }))))
  ∧ (∀ (s : State) (t addr result : Nat),
      (s.ar.role = 0 → ∀ n, exec (.ready t addr n result) s = .next (s.reach t))
      ∧ (s.ar.role = 1 → addr ∈ s.ar.armWait → exec (.ready t addr s.ar.armNo result) s = .next ((s.reach t).modAr (fun a => { a with
          armWait := a.armWait.erase addr, armLate := a.armLate + flag (result == 1), armNot := a.armNot + flag (result == 2) })))
      ∧ (s.ar.role = 1 → ∀ n, n ≠ s.ar.armNo → exec (.ready t addr n result) s = .next (s.reach t))
      ∧ (s.isMember = true → ∀ n, Leads (exec (.ready t addr n result) s) (fun u => SameUnits s u ∧ SameSettings s u
          ∧ ⟨max s.clk t, 0x07, addr, [addr, n, result]⟩ ∈ u.ar.tx)))
  ∧ (∀ (s : State) (t addr : Nat) (bs : List Byte),
      (s.isMember = false → exec (.relayCmd t ⟨addr, bs⟩) s = .next (s.reach t))
      ∧ (s.isMember = true → addr ≠ s.ar.addr → Leads (exec (.relayCmd t ⟨addr, bs⟩) s) (fun u => SameUnits s u ∧ SameSettings s u
          ∧ ⟨max s.clk t, 0x08, addr, bs.map (·.toNat)⟩ ∈ u.ar.tx))
      ∧ (s.isMember = true → s.fw.serving = true → s.fw.halted = false → ((s.mbox 16).state = .free ∨ (s.mbox 16).state = .done) →
          relayMore bs = false → Leads (exec (.relayCmd t ⟨s.ar.addr, bs⟩) s) (fun u => (u.mbox 16).state = .posted
            ∧ (u.mbox 16).cmd = memWriteBytes [] 0 (bs.take 1016)
            ∧ (u.mbox 16).doorbell = max s.clk t ∧ (∀ j, j ≠ 16 → u.mbox j = s.mbox j) ∧ SameUnits s u ∧ SameSettings s u))
      ∧ (s.ar.role = 0 → ∀ last, exec (.relayRsp t addr ⟨bs, last⟩) s = .next (s.reach t))
      ∧ (∀ m taken, s.ar.role = 1 → s.mr.exec = some ⟨m, taken, .relay addr⟩ → s.fw.halted = false →
          (s.reqOf m).expired (max s.clk t) = false →
          exec (.relayRsp t addr ⟨bs, false⟩) s = .next ((s.reach t).modAr (fun a => { a with relayGot := (a.relayGot ++ bs).take 2048 }))
          ∧ Leads (exec (.relayRsp t addr ⟨bs, true⟩) s) (fun u => Replied u m stOk ((s.ar.relayGot ++ bs).take 2048)
              ∧ u.mr.exec = none ∧ u.ar.relayGot = [] ∧ SameUnits s u)))
  ∧ (∀ (s : State) (t : Nat) (m : Fin 17) (b : Bulk), Ready s t m 0x0804 (lenIs 24) →
      let p := (s.reqOf m).payload
      let one := fieldAt p 0 1 = 1 ∧ s.ar.members.any (fun x => x.addr == fieldAt p 2 2 && x.port != 255) = true
      fieldAt p 1 1 = 0 → fieldAt p 4 4 = 0 → allZero (p.drop 8) = true →
      (s.ar.role ≠ 1 → fieldAt p 0 1 ≤ 1 →
        Leads (exec (.arrayCalibrateLinks t m b) s) (fun u => Replied u m eState [] ∧ SameUnits s u ∧ SameSettings s u))
      ∧ (s.ar.role = 1 → (fieldAt p 0 1 = 0 ∨ one) → s.working 0x0804 = false → s.mr.work.length < 16 →
        Leads (exec (.arrayCalibrateLinks t m b) s) (fun u => Replied u m stAccepted [] ∧ SameUnits s u
          ∧ u.mr.work = s.mr.work ++ [⟨m.val, (s.reqOf m).code, (s.reqOf m).tag, max s.clk t, fieldAt p 0 1, fieldAt p 2 2⟩]
          ∧ ∃ r, u.ar.calNow = some r ∧ r.began = max s.clk t ∧ r.host = true ∧ r.links.map (·.1) =
              (if fieldAt p 0 1 = 0 then (s.ar.members.filter (fun x => x.mstate == 0 && x.port != 255)).map (·.addr)
                else [fieldAt p 2 2]))))
  ∧ ∀ (s : State) (t : Nat) (good : List LinkEnd) (bad : List Nat),
      (∀ r, s.ar.calNow = some r → r.host = true → s.ar.calNext = [] → Leads (exec (.linkCalibrationEnd t good bad) s) (fun u =>
        u.ar.calNow = none ∧ u.ar.lastCal = (s.reach t).ticks ∧ SameUnits s u
        ∧ u.mr.work = s.mr.work.eraseP (fun w => w.code == 0x0804)
        ∧ ∀ addr x e, addr ∈ r.links.map (·.1) → memberAt s.ar.members addr = some x →
            good.find? (fun e => e.addr == addr && e.standby == (x.port == 2 || x.port == 3)) = some e →
            memberAt u.ar.members addr = some { x with cal := true, delay := e.delay, replaced := false }))
      ∧ (s.ar.calNow = none → s.isMember = false → exec (.linkCalibrationEnd t good bad) s = .next (s.reach t))
      ∧ (s.ar.calNow = none → s.isMember = true → Leads (exec (.linkCalibrationEnd t good bad) s) (fun u =>
          u.ar.lastCal = (s.reach t).ticks ∧ u.ar.links = ((s.reach t).setLinks good).ar.links ∧ SameUnits s u ∧ SameSettings s u))

/-- R420, R425 to R429, R438.

Completes with its own effect (`exec c s = .next u` for the `u` that `Leads` or the equation gives): `pwrEnter`, `powerEntryDrain`,
`retentionCopy`, `powerEntryCommit`, `idleEntry`. -/
def Obligations.PowerStatesAreEntered : Prop :=
  (∀ (s : State) (t : Nat) (m : Fin 17), Ready s t m 0x0501 (lenIs 16) →
    let p := (s.reqOf m).payload
    let target := fieldAt p 0 1
    (enterForm p = false → Leads (exec (.pwrEnter t m) s) (fun u => Replied u m eParam [] ∧ SameUnits s u ∧ SameSettings s u))
    ∧ (enterForm p = true → target = s.pw.st →
        Leads (exec (.pwrEnter t m) s) (fun u => Replied u m eState [] ∧ SameUnits s u ∧ SameSettings s u))
    ∧ (enterForm p = true → target ≠ s.pw.st → (s.ck.relock.isSome = true ∨ s.pw.entry.isSome = true) →
        Leads (exec (.pwrEnter t m) s) (fun u => Replied u m eBusy [] ∧ SameUnits s u ∧ SameSettings s u))
    ∧ (enterForm p = true → target ≠ s.pw.st → s.ck.relock = none → s.pw.entry = none →
        (target ≤ 1 → s.pw.st ≠ 2 → (target = 1 → bitAt (s.reqOf m).flags 1 = false) → Leads (exec (.pwrEnter t m) s) (fun u => Replied u m stOk [] ∧ u.pw.st = target ∧ u.pw.prev = s.pw.st
          ∧ SameUnits s u ∧ SameSettings s u))
        ∧ (target ≤ 1 → s.pw.st = 2 → (target = 1 → bitAt (s.reqOf m).flags 1 = false) → Leads (exec (.pwrEnter t m) s) (fun u => Replied u m stOk [] ∧ u.pw.st = target ∧ u.pw.prev = 2
          ∧ u.pw.wakeSrc = 1))
        ∧ (2 ≤ target → s.pw.st ≤ 1 → s.mr.work.length < 16 → s.refuses = 0 → Leads (exec (.pwrEnter t m) s) (fun u =>
          Replied u m stAccepted [] ∧ u.hv.stopped = true ∧ u.pw.entry = some ⟨m.val, (s.reqOf m).tag, target, fieldAt p 1 1, fieldAt p 4 4, 5,
            max s.clk t, none⟩))
        ∧ (2 ≤ target → s.pw.st ≤ 1 → s.mr.work.length < 16 → s.working 0x0501 = false → ∀ b, b ≠ 0 → s.refuses = b →
          Leads (exec (.pwrEnter t m) s) (fun u => Replied u m stAccepted [] ∧ u.pw.entry = none ∧ u.pw.refusedBy = b ∧ u.pw.st ≤ 1
            ∧ ((s.ar.role = 3 → s.working 0x0404 = false) → u.mr.work = s.mr.work) ∧ u.hv.stopped = false))
        ∧ (target = 3 → s.pw.st = 2 → s.mr.work.length < 16 → Leads (exec (.pwrEnter t m) s) (fun u => Replied u m stAccepted []
            ∧ u.pw.entry.map (fun e => (e.target, e.step)) = some (3, 8)))))
  ∧ (∀ (s : State) (t : Nat) (e : Entry),
      (s.pw.entry = none → exec (.powerEntryDrain t) s = .next (s.reach t) ∧ exec (.retentionCopy t) s = .next (s.reach t)
        ∧ exec (.powerEntryCommit t) s = .next (s.reach t))
      ∧ (s.pw.entry = some e → e.step = 5 → s.hv.qs.toList.all (fun q => q.exec.isEmpty) = true →
        (s.ck.relock = none → Leads (exec (.powerEntryDrain t) s) (fun u =>
          u.pw.entry.map (fun x => (x.target, x.step)) = some (e.target, if e.target = 3 then 8 else 9)
          ∧ (e.target ≠ 3 → u.mem.sr ≠ .off)))
        ∧ (s.ck.relock.isSome = true → Leads (exec (.powerEntryDrain t) s) (fun u => u.pw.entry = none ∧ u.pw.refusedBy = 11
          ∧ u.hv.stopped = false)))
      ∧ (s.pw.entry = some e → e.step = 5 → s.hv.qs.toList.all (fun q => q.exec.isEmpty) = false →
        (max s.clk t < e.began + 150000000 → exec (.powerEntryDrain t) s = .next (s.reach t))
        ∧ (e.began + 150000000 ≤ max s.clk t → Leads (exec (.powerEntryDrain t) s) (fun u => u.pw.entry = none ∧ u.pw.refusedBy = 9
          ∧ u.hv.stopped = false)))
      ∧ (s.pw.entry = some e → e.step = 8 → Leads (exec (.retentionCopy t) s) (fun u => u.log.uncopied = []
          ∧ u.log.flash = (s.log.uncopied ++ s.log.flash).take 65536 ∧ u.pw.entry.map (·.step) = some 9 ∧ u.mem.sr ≠ .off))
      ∧ (s.pw.entry = some e → (e.step ≠ 9 ∨ s.mem.sr ≠ .on) → exec (.powerEntryCommit t) s = .next (s.reach t))
      ∧ (s.pw.entry = some e → e.step = 9 → s.mem.sr = .on →
        (e.target = 2 → Leads (exec (.powerEntryCommit t) s) (fun u => u.pw.st = 2 ∧ u.pw.prev = s.pw.st ∧ u.pw.entry = none
          ∧ u.hv.stopped = false
          ∧ (∀ w, e.wake = some w → s.pw.waking = none → u.pw.waking = some (w.1 + 128, 2, max s.clk t))))
        ∧ (e.target = 3 → e.wake = none → Leads (exec (.powerEntryCommit t) s) (fun u => u.pw.st = 3 ∧ u.pw.prev = s.pw.st ∧ u.pw.entry = none
          ∧ u.pw.retain = e.retain ∧ u.hl.up = false ∧ u.ar.ports = Vector.replicate 3 false ∧ ∀ j, (u.mbox j).state = .offline))
        ∧ (e.target = 4 → e.wake = none → Leads (exec (.powerEntryCommit t) s) (fun u => u.pw.st = 4 ∧ u.pw.prev = s.pw.st
          ∧ u.pw.offCause = 1 ∧ u.hl.up = false ∧ u.fw.serving = false))))
  ∧ ∀ (s : State) (t : Nat),
      let d := s.mkey 0x0F01
      (d = 0 ∨ s.quiet = false ∨ max s.clk t < s.pw.idleAt + d * 3000000 → exec (.idleEntry t) s = .next (s.reach t))
      ∧ (d ≠ 0 → s.quiet = true → s.pw.idleAt + d * 3000000 ≤ max s.clk t → s.pw.st = 0 →
        exec (.idleEntry t) s = .next ((s.reach t).modPw (fun p => { p with st := 1, prev := 0 })))

/-- R420 to R424, R436, R439.

Completes with its own effect (`exec c s = .next u` for the `u` that `Leads` or the equation gives): `pwrStatus`, `domainControl`,
`onDemandWake`, `hbmPhyIdle`, `i2cSnapshotRead`. -/
def Obligations.PowerStatusAndDomains : Prop :=
  (∀ (s : State) (t : Nat) (m : Fin 17), Ready s t m 0x0502 (lenIs 0) → Leads (exec (.pwrStatus t m) s) (fun u =>
    Replied u m stOk (leBytes 1 s.pw.st ++ leBytes 1 s.pw.prev ++ leBytes 1 s.pw.wakeSrc ++ leBytes 1 s.pw.refusedBy ++ leBytes 4 s.pw.brownouts
      ++ leBytes 32 s.pw.onMap.toNat ++ leBytes 32 s.pw.hostHeld.toNat ++ leBytes 32 s.pw.failed.toNat ++ leBytes 1 s.pw.retain
      ++ leBytes 1 s.pw.offCause ++ leBytes 1 (s.pw.fail.elim 0 (fun f => 16 * (f.tries % 16) + f.rail % 16)) ++ [0#8]
      ++ leBytes 4 (s.pw.timer.elim 0 (fun x => ceilDiv (x - max s.clk t) 3000000000)) ++ leBytes 8 s.pw.entryT ++ leBytes 8 s.pw.wakeT)
    ∧ SameUnits s u ∧ SameSettings s u))
  ∧ (∀ (s : State) (t : Nat) (m : Fin 17) (bad : Option Nat), Ready s t m 0x0503 (lenIs 8) →
      let p := (s.reqOf m).payload
      let op := fieldAt p 0 1
      let first := fieldAt p 2 2
      let count := fieldAt p 4 2
      let ds := (List.range count).map (fun i => first + i)
      let ok := op ≤ 2 ∧ fieldAt p 1 1 = 0 ∧ fieldAt p 6 2 = 0 ∧ first + count ≤ 196 ∧ (op = 0 ∨ (count ≠ 0 ∧ ds.any fixedDomain = false))
      (¬ ok → Leads (exec (.domainControl t m bad) s) (fun u => Replied u m eParam [] ∧ SameUnits s u ∧ SameSettings s u))
      ∧ (ok → ((op = 2 ∧ ds.any (fun d => s.otherHolds.getLsbD d) = true) ∨ (op = 1 ∧ ds.any s.failedSlice = true)) →
          Leads (exec (.domainControl t m bad) s) (fun u => Replied u m eState [] ∧ SameUnits s u ∧ SameSettings s u))
      ∧ (ok → op = 0 → s.pw.entry = none → Leads (exec (.domainControl t m bad) s) (fun u =>
          Replied u m stOk (leBytes 32 s.pw.onMap.toNat ++ leBytes 32 s.pw.hostHeld.toNat) ∧ SameUnits s u ∧ SameSettings s u))
      ∧ (ok → op = 1 → s.pw.entry = none → s.pw.st ≤ 1 → ds.any s.failedSlice = false →
          (bad = none → Leads (exec (.domainControl t m bad) s) (fun u => (u.mbox m).status = stOk
            ∧ u.pw.hostHeld = s.pw.hostHeld ||| domMap ds ∧ u.ch = s.ch ∧ u.ck = s.ck ∧ u.tm = s.tm ∧ u.mem = s.mem ∧ u.tr = s.tr
            ∧ ∀ d ∈ ds, u.pw.onMap.getLsbD d = true))
          ∧ (∀ d, bad = some d → d ∈ ds → s.pw.onMap.getLsbD d = false → Leads (exec (.domainControl t m bad) s) (fun u =>
            Replied u m eHw [] ∧ u.pw.failed.getLsbD d = true ∧ fieldAt (u.mbox m).rsp 12 4 = d)))
      ∧ (ok → op = 2 → s.pw.entry = none → ds.any (fun d => s.otherHolds.getLsbD d) = false →
          Leads (exec (.domainControl t m bad) s) (fun u => (u.mbox m).status = stOk ∧ u.pw.hostHeld = s.pw.hostHeld &&& ~~~(domMap ds))))
  ∧ (∀ (s : State) (t d : Nat),
      (2 < s.pw.st → exec (.onDemandWake t d) s = .next (s.reach t))
      ∧ (s.pw.st ≤ 2 → (d = 140 ∨ d = 141 ∨ d = 195) → Leads (exec (.onDemandWake t d) s) (fun u =>
          u.pw.onMap.getLsbD d = true ∧ u.ch = s.ch ∧ u.ck = s.ck ∧ u.tm = s.tm ∧ u.mem = s.mem))
      ∧ (s.pw.st = 2 → s.pw.core = false → Leads (exec (.onDemandWake t 190) s) (fun u => u.pw.core = true ∧ u.pw.st = 2
          ∧ u.pw.onMap.getLsbD 190 = true ∧ SameUnits s u))
      ∧ (s.pw.st = 2 → s.mem.sr = .off → s.pw.phyReq + 3000000 ≤ max s.clk t →
          exec (.hbmPhyIdle t) s = .next ((s.reach t).modMem (fun m => { m with sr := .entry true })))
      ∧ ((s.pw.st ≠ 2 ∨ s.mem.sr ≠ .off ∨ max s.clk t < s.pw.phyReq + 3000000) → exec (.hbmPhyIdle t) s = .next (s.reach t)))
  ∧ ∀ (s : State) (t a n : Nat),
      ((s.pw.aux = false ∨ max s.clk t < s.pw.brownTo) → exec (.i2cSnapshotRead t a n) s = .next (s.reach t))
      ∧ (s.pw.aux = true → s.pw.brownTo ≤ max s.clk t → beltGroup (a % 256) = 0 → a % 256 ≠ 0 → exec (.i2cSnapshotRead t a 1) s
          = .next ((s.reach t).modPw (fun p => { p with i2cOut := [(s.reach t).beltByte (a % 256)], i2cSnap := (0, []) })))
      ∧ (s.pw.aux = true → s.pw.brownTo ≤ max s.clk t → Leads (exec (.i2cSnapshotRead t 4 4) s) (fun u => u.pw.i2cOut = leBytes 4 s.pw.brownouts
          ∧ SameUnits s u ∧ SameSettings s u))
      ∧ (s.pw.aux = true → s.pw.brownTo ≤ max s.clk t → Leads (exec (.i2cSnapshotRead t 12 4) s) (fun u => u.pw.i2cOut =
          leBytes 4 (s.pw.timer.elim 0 (fun x => ceilDiv (x - max s.clk t) 3000000000)) ∧ SameUnits s u ∧ SameSettings s u))

/-- R420; R429 to R436; R485; R495.

Completes with its own effect (`exec c s = .next u` for the `u` that `Leads` or the equation gives): `l1Exit`, `wakeEdge`,
`wakeTimerExpiry`, `wakeNLow`, `bfCmdWake`, `mainPowerReturn`, `wakeCompletion`, `powerUp`, `regulatorTimeout`, `mainPowerLoss`,
`bfCmdOff`, `thermalTrip`, `bfCmdClearFail`, `auxPowerLoss`, `brownOut`, `insertion`. -/
def Obligations.WakesAndLossOfPower : Prop :=
  (∀ (s : State) (st : Nat),
    (s.wakeEnabled 1 st = true ↔ st = 1 ∨ st = 2) ∧ (s.wakeEnabled 3 st = true ↔ 2 ≤ st) ∧ (s.wakeEnabled 8 st = true ↔ 2 ≤ st)
    ∧ ∀ n, (n = 2 ∨ n = 4 ∨ n = 5 ∨ n = 6) → (s.wakeEnabled n st = true ↔ 2 ≤ st ∧ bitAt s.pw.wakeMask n = true))
  ∧ (∀ (s : State) (t pin : Nat) (falling : Bool) (e : Nat × Instr), s.pw.aux = true →
      (e ∈ ([(1, .l1Exit t), (2, .wakeNLow t), (3, .bfCmdWake t), (4, .wakeEdge t 4 pin false), (5, .wakeEdge t 5 pin false)] : List (Nat × Instr))
        ∨ (e = (6, .wakeEdge t 6 pin falling) ∧ pin < 4 ∧ bitAt s.pw.wakePins pin = true ∧ bitAt s.pw.auxEdge pin = falling)) →
      (e.1 = 2 → s.pw.wakeLow ≤ max s.clk t) → s.pw.brownTo ≤ max s.clk t →
      (s.pw.entry = none → s.wakeEnabled e.1 s.pw.st = false → exec e.2 s = .next (s.reach t))
      ∧ (s.pw.entry = none → s.wakeEnabled e.1 s.pw.st = true → (s.pw.st = 2 ∨ (3 ≤ s.pw.st ∧ s.pw.main = true)) → s.pw.waking = none →
          exec e.2 s = .next ((s.reach t).modPw (fun p => { p with waking := some (e.1, s.pw.st, max s.clk t) })))
      ∧ (∀ x, s.pw.entry = some x → s.wakeEnabled e.1 x.target = true → x.wake = none →
          exec e.2 s = .next ((s.reach t).modPw (fun p => { p with entry := some { x with wake := some (e.1, max s.clk t) } })))
      ∧ (∀ x, s.pw.entry = some x → s.wakeEnabled e.1 x.target = false → exec e.2 s = .next (s.reach t)))
  ∧ (∀ (s : State) (t pin : Nat),
      (s.pw.st = 1 → s.pw.entry = none → exec (.l1Exit t) s = .next ((s.reach t).modPw (fun p => { p with
        st := 0, prev := 1, core := true, idleAt := max s.clk t, wakeSrc := 1 })))
      ∧ exec (.wakeEdge t 4 pin true) s = .next (s.reach t)
      ∧ (s.pw.timer = none → exec (.wakeTimerExpiry t) s = .next (s.reach t))
      ∧ (∀ x, s.pw.timer = some x → max s.clk t < x → exec (.wakeTimerExpiry t) s = .next (s.reach t))
      ∧ (∀ x, s.pw.timer = some x → x ≤ max s.clk t → s.pw.entry = none → s.pw.waking = none →
          (s.pw.st = 2 ∨ (3 ≤ s.pw.st ∧ s.pw.main = true ∧ s.pw.aux = true ∧ s.pw.brownTo ≤ max s.clk t)) →
          exec (.wakeTimerExpiry t) s = .next ((s.reach t).modPw (fun p => { p with
            timer := none, waking := some (8, s.pw.st, max s.clk t) })))
      ∧ (3 ≤ s.pw.st → (s.pw.aux = false ∨ max s.clk t < s.pw.brownTo) → s.pw.entry = none →
          exec (.wakeNLow t) s = .next (s.reach t) ∧ exec (.bfCmdWake t) s = .next (s.reach t)
          ∧ (∀ falling, exec (.wakeEdge t 4 pin falling) s = .next (s.reach t) ∧ exec (.wakeEdge t 6 pin falling) s = .next (s.reach t))
          ∧ exec (.wakeTimerExpiry t) s = .next (s.reach t))
      ∧ (s.pw.st = 4 → s.pw.main = false → s.pw.aux = true → s.pw.mainRet = 1 → s.pw.waking = none → s.pw.brownTo ≤ max s.clk t →
          exec (.mainPowerReturn t) s = .next ((s.reach t).modPw (fun p => { p with main := true, waking := some (9, 4, max s.clk t) })))
      ∧ (s.pw.st = 4 → s.pw.main = false → s.pw.aux = true → max s.clk t < s.pw.brownTo →
          exec (.mainPowerReturn t) s = .next ((s.reach t).modPw (fun p => { p with main := true })))
      ∧ (s.pw.st = 4 → s.pw.main = false → s.pw.aux = true → s.pw.mainRet ≠ 1 →
          exec (.mainPowerReturn t) s = .next ((s.reach t).modPw (fun p => { p with main := true })))
      ∧ ((s.pw.st ≠ 4 ∨ s.pw.main = true) → exec (.mainPowerReturn t) s = .next (s.reach t))
      ∧ (max s.clk t < s.pw.wakeLow → exec (.wakeNLow t) s = .next (s.reach t)))
  ∧ (∀ (s : State) (t : Nat) (b : BootChecks),
      (s.pw.waking = none → exec (.wakeCompletion t b) s = .next (s.reach t) ∧ exec (.powerUp t b) s = .next (s.reach t))
      ∧ (∀ src a, s.pw.waking = some (src, 2, a) → s.pw.st = 2 → Leads (exec (.wakeCompletion t b) s) (fun u =>
          u.pw.st = 0 ∧ u.pw.prev = 2 ∧ u.pw.wakeSrc = src ∧ u.pw.waking = none))
      ∧ (∀ src a, s.pw.waking = some (src, 3, a) → src ≠ 0 → s.pw.main = true → Leads (exec (.wakeCompletion t b) s) (fun u =>
          u.pw.st = 0 ∧ u.pw.prev = 3 ∧ u.pw.wakeSrc = src ∧ u.fw.serving = true ∧ (∀ j, (u.mbox j).state = .free)
          ∧ u.mr.recorded = (if bitAt s.pw.retain 0 then s.mr.recorded else []) ∧ u.fw.bootCount = s.fw.bootCount))
      ∧ (∀ src a, s.pw.waking = some (src, 4, a) → src ≠ 0 → s.pw.main = true → Leads (exec (.wakeCompletion t b) s) (fun u =>
          u.pw.st = 0 ∧ u.pw.prev = 4 ∧ u.pw.wakeSrc = src ∧ u.ticks = 0 ∧ u.fw.bootCount = wrapAdd 32 s.fw.bootCount 1
          ∧ u.pw.wakeLow = u.clk + 30000000))
      ∧ (∀ a, s.pw.waking = some (0, 4, a) → s.pw.main = true → s.pw.aux = true → s.fw.staging = none → s.fw.enrol = none →
          s.fw.slotFault (s.fw.slot s.fw.pref) = 0 → Leads (exec (.powerUp t b) s) (fun u =>
            u.pw.st = 0 ∧ u.pw.prev = 4 ∧ u.pw.wakeSrc = 0 ∧ u.ticks = 0 ∧ u.fw.bootCount = wrapAdd 32 s.fw.bootCount 1
            ∧ u.fw.serving = true ∧ u.fw.running = s.fw.pref ∧ u.fw.recovery = false ∧ ∀ j, (u.mbox j).state = .free))
      ∧ (∀ rail, s.pw.waking.isSome = true → 1 ≤ rail → rail ≤ 6 →
          (s.pw.tryRail = none → exec (.regulatorTimeout t rail) s = .next ((s.reach t).modPw (fun p => { p with tryRail := some ⟨rail, 1⟩ })))
          ∧ (s.pw.tryRail = some ⟨rail, 3⟩ → Leads (exec (.regulatorTimeout t rail) s) (fun u => u.pw.st = 4 ∧ u.pw.offCause = 4
            ∧ u.pw.fail = some ⟨rail, 4⟩)))
      ∧ (s.pw.waking = none → ∀ rail, exec (.regulatorTimeout t rail) s = .next (s.reach t)))
  ∧ ∀ (s : State) (t sensor : Nat) (temp : Int),
      (s.pw.st ≠ 4 →
        Leads (exec (.mainPowerLoss t) s) (fun u => u.pw.st = 4 ∧ u.pw.offCause = 3 ∧ u.pw.prev = s.pw.st ∧ u.pw.main = false
          ∧ u.log.flash = s.log.flash ∧ u.hl.up = false)
        ∧ (s.pw.aux = true → s.pw.brownTo ≤ max s.clk t → Leads (exec (.bfCmdOff t) s) (fun u => u.pw.st = 4 ∧ u.pw.offCause = 2 ∧ u.pw.prev = s.pw.st
          ∧ u.log.flash = s.log.flash ∧ u.hl.up = false ∧ u.pw.main = s.pw.main))
        ∧ (((16 ≤ sensor ∧ sensor ≤ 20 ∧ 115000 ≤ temp) ∨ (21 ≤ sensor ∧ sensor ≤ 22 ∧ 105000 ≤ temp)) →
          Leads (exec (.thermalTrip t sensor temp) s) (fun u => u.pw.st = 4 ∧ u.pw.offCause = 3)))
      ∧ (temp < 105000 → exec (.thermalTrip t sensor temp) s = .next (s.reach t))
      ∧ (s.pw.st = 4 → s.pw.waking = none → exec (.bfCmdOff t) s = .next (s.reach t))
      ∧ (s.pw.aux = true → s.pw.brownTo ≤ max s.clk t → exec (.bfCmdClearFail t) s = .next ((s.reach t).modPw (fun p => { p with fail := none })))
      ∧ Leads (exec (.auxPowerLoss t) s) (fun u => u.pw.st = 4 ∧ u.pw.aux = false ∧ u.pw.brownouts = 0 ∧ u.pw.wakeSrc = 0 ∧ u.pw.refusedBy = 0
          ∧ u.pw.fail = none ∧ u.pw.offCause = 0 ∧ u.pw.retain = 0 ∧ u.pw.timer = none)
      ∧ ((s.pw.st = 3 ∨ s.pw.st = 4) → s.pw.aux = true → s.pw.waking = none → s.pw.brownTo ≤ max s.clk t →
          ∃ d, 1 ≤ d ∧ d ≤ 3000000 ∧ exec (.brownOut t) s = .next (((s.reach t).setFreeCtr (s.freeCtr + 1)).modPw (fun p => { p with
            brownouts := satAdd 32 p.brownouts 1, brownTo := max s.clk t + d, i2cSnap := (0, []) })))
      ∧ ((s.pw.st < 3 ∨ s.pw.aux = false ∨ s.pw.waking.isSome = true) → exec (.brownOut t) s = .next (s.reach t))
      ∧ ((s.pw.inserted = false ∨ s.pw.aux = false) → Leads (exec (.insertion t) s) (fun u => u.pw.st = 4 ∧ u.pw.inserted = true
          ∧ u.pw.main = true ∧ u.pw.aux = true ∧ u.pw.waking = some (0, 4, max s.clk t)))
      ∧ (s.pw.inserted = true → s.pw.aux = true → exec (.insertion t) s = .next (s.reach t))

/-- R442, R444, R446, R447, R449, R450, R452 to R454.

Completes with its own effect (`exec c s = .next u` for the `u` that `Leads` or the equation gives): `monLoadTable`, `monRead`,
`monInject`, `monSyscal`, `conversionEnd`, `entryDelayEnd`, `syscalSettleEnd`, `syscalStart`, `injectionStart`. -/
def Obligations.MonitorMeasuresAndCalibrates : Prop :=
  (∀ (s : State) (t : Nat) (m : Fin 17) (b : Bulk), Ready s t m 0x0601 (lenIs 24) →
    let p := (s.reqOf m).payload
    let n := fieldAt p 0 1
    let shape := n ≤ 64 ∧ allZero (sliceAt p 1 7) = true
      ∧ (if n = 0 then allZero (sliceAt p 8 16) = true else bulkOk p 8 = true ∧ (bulkRef p 8).2.1 = 24 * n)
    (¬ shape → Leads (exec (.monLoadTable t m b) s) (fun u => Replied u m eParam [] ∧ SameUnits s u ∧ SameSettings s u))
    ∧ (∀ bs, shape → n ≠ 0 → b = some bs → monEntries (padTo (24 * n) bs) n = none →
        Leads (exec (.monLoadTable t m b) s) (fun u => Replied u m eParam [] ∧ SameUnits s u ∧ SameSettings s u))
    ∧ (∀ bs tb, shape → ((n = 0 ∧ tb = []) ∨ (n ≠ 0 ∧ b = some bs ∧ monEntries (padTo (24 * n) bs) n = some tb)) →
        (s.monHolds = true → Leads (exec (.monLoadTable t m b) s) (fun u => Replied u m eBusy [] ∧ SameUnits s u ∧ SameSettings s u))
        ∧ (s.monHolds = false → s.mon.conv = .stopped → Leads (exec (.monLoadTable t m b) s) (fun u => Replied u m stOk []
            ∧ u.mon.table = tb ∧ u.mon.accs = tb.map (fun _ => MonAcc.reset) ∧ u.mon.coeff = s.mon.coeff
            ∧ SameUnits { s with mon := u.mon } u ∧ SameSettings s u))
        ∧ (s.monHolds = false → s.mon.conv ≠ .stopped → Leads (exec (.monLoadTable t m b) s) (fun u => (u.mbox m).state = .busy
            ∧ u.mon = { s.mon with newTable := some tb } ∧ SameUnits { s with mon := u.mon } u ∧ SameSettings s u))))
  ∧ (∀ (s : State) (t : Nat) (m : Fin 17), Ready s t m 0x0602 (lenIs 8) →
      let p := (s.reqOf m).payload
      let first := fieldAt p 1 1
      let count := fieldAt p 2 1
      let clear := fieldAt p 3 1
      let ok0 := fieldAt p 0 1 = 0 ∧ fieldAt p 4 4 = 0 ∧ first ≤ 64 ∧ 1 ≤ count ∧ count ≤ 63 ∧ first + count ≤ 65 ∧ clear ≤ 1
      let ok1 := fieldAt p 0 1 = 1 ∧ fieldAt p 4 4 = 0 ∧ first = 0 ∧ count = 0 ∧ clear = 0
      (¬ ok0 → ¬ ok1 → Leads (exec (.monRead t m) s) (fun u => Replied u m eParam [] ∧ SameUnits s u ∧ SameSettings s u))
      ∧ (ok1 → Leads (exec (.monRead t m) s) (fun u => Replied u m stOk (s.mon.coeff.toList.flatMap (fun k =>
          leBytes 4 (encInt 32 k.1) ++ leBytes 4 (encInt 32 k.2))) ∧ SameUnits s u ∧ SameSettings s u))
      ∧ (ok0 → Leads (exec (.monRead t m) s) (fun u => Replied u m stOk (leBytes 8 (s.reach t).ticks ++ leBytes 1 count ++ leBytes 1 s.mon.period
          ++ leBytes 1 s.mon.table.length ++ List.replicate 5 0#8 ++ leBytes 8 s.mon.convs ++ leBytes 4 s.mon.dropped ++ List.replicate 4 0#8
          ++ (List.range count).flatMap (fun i => s.mon.recordAt (first + i)))
          ∧ u.mon = (if clear = 1 then s.mon.clearFrom first count else s.mon) ∧ SameUnits { s with mon := u.mon } u ∧ SameSettings s u)))
  ∧ (∀ (s : State) (t : Nat) (m : Fin 17), Ready s t m 0x0603 (lenIs 8) →
      let p := (s.reqOf m).payload
      let chan := fieldAt p 0 1
      let range := fieldAt p 1 1
      let ok := allZero (sliceAt p 2 6) = true ∧ chan < 40 ∧ (if chan < 16 then range ≤ 3 else range = 0)
      (¬ ok → Leads (exec (.monInject t m) s) (fun u => Replied u m eParam [] ∧ SameUnits s u ∧ SameSettings s u))
      ∧ (ok → s.monHolds = true → Leads (exec (.monInject t m) s) (fun u => Replied u m eBusy [] ∧ SameUnits s u ∧ SameSettings s u))
      ∧ (ok → s.monHolds = false → s.mr.work.length < 16 →
          ((s.reach t).monConverting = true → Leads (exec (.monInject t m) s) (fun u => Replied u m stAccepted []
            ∧ u.mon = { s.mon with inject := none, dropped := wrapAdd 32 s.mon.dropped 1 } ∧ u.mr.work = s.mr.work))
          ∧ ((s.reach t).monConverting = false → s.pw.st ≤ 2 → Leads (exec (.monInject t m) s) (fun u => Replied u m stAccepted []
            ∧ u.mon.inject = some (max s.clk t + 192000) ∧ u.mon.slotChan = (chan, range)
            ∧ u.mr.work = s.mr.work ++ [⟨m.val, 0x0603, (s.reqOf m).tag, max s.clk t, chan, range⟩]))))
  ∧ (∀ (s : State) (t : Nat) (m : Fin 17), Ready s t m 0x0604 (lenIs 16) →
      let p := (s.reqOf m).payload
      let input := fieldAt p 0 1
      let range := fieldAt p 1 1
      let step := fieldAt p 2 1
      (syscalForm p = false → Leads (exec (.monSyscal t m) s) (fun u => Replied u m eParam [] ∧ SameUnits s u ∧ SameSettings s u))
      ∧ (syscalForm p = true → step = 1 → (input, range) ∉ s.mon.zeroed →
          Leads (exec (.monSyscal t m) s) (fun u => Replied u m eState [] ∧ SameUnits s u ∧ SameSettings s u))
      ∧ (syscalForm p = true → s.working 0x0604 = false → s.mr.work.length < 16 →
          (step = 2 → Leads (exec (.monSyscal t m) s) (fun u => Replied u m stAccepted [] ∧ u.mr.work = s.mr.work
            ∧ u.mon = { s.mon with coeff := s.mon.coeff.set (coeffIdx input range).val (decInt 32 (fieldAt p 4 4), decInt 32 (fieldAt p 8 4)) }
            ∧ SameUnits { s with mon := u.mon } u))
          ∧ (step = 3 → Leads (exec (.monSyscal t m) s) (fun u => Replied u m stAccepted [] ∧ u.mr.work = s.mr.work
            ∧ u.mon = { s.mon with coeff := s.mon.coeff.set (coeffIdx input range).val (0, 16777216) } ∧ SameUnits { s with mon := u.mon } u))
          ∧ ((step = 0 ∨ (step = 1 ∧ (input, range) ∈ s.mon.zeroed)) → s.pw.st ≤ 2 → Leads (exec (.monSyscal t m) s) (fun u =>
            Replied u m stAccepted [] ∧ u.mon.coeff = s.mon.coeff
            ∧ u.mon.syscal = some ⟨Fin.ofNat 16 input, Fin.ofNat 4 range, step, fieldAt p 3 1, decInt 32 (fieldAt p 4 4)⟩))))
  ∧ ∀ (s : State) (t : Nat) (raw : Int), s.mon.newTable = none →
      let period (b : Nat) := if s.mon.conv = .stopped then s.mkey 0x1000 else s.keyAt 0x1000 0 (b - 1)
      (s.mon.conv = .stopped → exec (.conversionEnd t raw) s = .next (s.reach t) ∧ exec (.entryDelayEnd t) s = .next (s.reach t)
        ∧ exec (.syscalSettleEnd t) s = .next (s.reach t))
      ∧ (∀ i left b, s.mon.conv = .run i left b →
          (max s.clk t < b → exec (.conversionEnd t raw) s = .next (s.reach t))
          ∧ (b ≤ max s.clk t → i < s.mon.accs.length → (s.mon.acc i).n < 2 ^ 32 - 1 → Leads (exec (.conversionEnd t raw) s) (fun u =>
            let v := s.mon.result (s.mon.entry i).chan (s.mon.entry i).range raw
            u.mon.convs = wrapAdd 64 s.mon.convs 1 ∧ u.mon.period = period b ∧ (u.mon.acc i).n = (s.mon.acc i).n + 1
            ∧ (u.mon.acc i).sum = (s.mon.acc i).sum + v ∧ (u.mon.acc i).last = s.ticksAt b
            ∧ (∀ k, left = k + 1 → s.mon.syscal = none → u.mon.conv = .run i k (b + monPeriod (period b)))
            ∧ (∀ j, j ≠ i → u.mon.acc j = s.mon.acc j) ∧ u.mon.coeff = s.mon.coeff ∧ u.mr = s.mr)))
      ∧ (∀ b, s.mon.conv = .inject b → b ≤ max s.clk t → Leads (exec (.conversionEnd t raw) s) (fun u =>
          let v := s.mon.result s.mon.slotChan.1 s.mon.slotChan.2 raw
          u.mon.slot = s.mon.slot.add v (overRange s.mon.slotChan.1 v) (s.ticksAt b) ∧ u.mon.convs = wrapAdd 64 s.mon.convs 1))
      ∧ (∀ w sum b, s.mon.conv = .cal 0 sum b → s.mon.syscal = some w → w.step = 0 → b ≤ max s.clk t →
          let z := divHalfEven (sum + clampInt (-10485760) 10485760 raw) w.count
          (-83886 ≤ z ∧ z ≤ 83886) → Leads (exec (.conversionEnd t raw) s) (fun u =>
            u.mon.coeff = s.mon.coeff.set (coeffIdx w.input.val w.range.val).val (z, (s.mon.coeff[coeffIdx w.input.val w.range.val]).2)
            ∧ (w.input.val, w.range.val) ∈ u.mon.zeroed ∧ u.mon.syscal = none))
      ∧ (∀ i b, s.mon.conv = .delay i b →
          (max s.clk t < b → exec (.entryDelayEnd t) s = .next (s.reach t))
          ∧ (b ≤ max s.clk t → s.mon.syscal = none → s.mon.inject = none → exec (.entryDelayEnd t) s
            = .next ((s.reach t).modMon (fun m => { m with
                period := period b, conv := .run i ((s.mon.entry i).repeats - 1) (b + monPeriod (period b)) })))
          ∧ (b ≤ max s.clk t → s.mon.syscal.isSome = true → exec (.syscalStart t) s = .next ((s.reach t).modMon (fun m => { m with
                period := period b, resume := .delay i b, conv := .settle (b + 192000) }))))
      ∧ (s.mon.inject = none → exec (.injectionStart t) s = .next (s.reach t))
      ∧ (∀ b, s.mon.inject = some b → max s.clk t < b → exec (.injectionStart t) s = .next (s.reach t))
      ∧ (∀ b, s.mon.inject = some b → b ≤ max s.clk t → (s.reach t).monConverting = false →
          exec (.injectionStart t) s = .next ((s.reach t).modMon (fun m => { m with
            period := period b, resume := s.mon.conv, conv := .inject (b + monPeriod (period b)), inject := none })))
      ∧ (s.mon.syscal = none → exec (.syscalStart t) s = .next (s.reach t))
      ∧ (∀ w b, s.mon.conv = .settle b → s.mon.syscal = some w →
          (max s.clk t < b → exec (.syscalSettleEnd t) s = .next (s.reach t))
          ∧ (b ≤ max s.clk t → exec (.syscalSettleEnd t) s = .next ((s.reach t).modMon (fun m => { m with
            period := period b, conv := .cal (w.count - 1) 0 (b + monPeriod (period b)) }))))

/-- R50, R464 to R468; the outcome of a signature check is the configuration's, and both outcomes are stated.

Completes with its own effect (`exec c s = .next u` for the `u` that `Leads` or the equation gives): `fwStage`, `fwStageEnd`,
`fwActivate`, `liveRestartDone`, `trialExpiry`, `fwStatus`. -/
def Obligations.FirmwareIsStagedAndActivated : Prop :=
  (∀ (s : State) (t : Nat) (m : Fin 17) (img : List Byte), Ready s t m 0x0901 (lenIs 16) →
    let p := (s.reqOf m).payload
    let good := bulkOk p 0 = true ∧ headerOk (sliceAt img 0 256) = true ∧ (bulkRef p 0).2.1 = 256 + bodyLenOf img + 3309
    (¬ good → Leads (exec (.fwStage t m (some img)) s) (fun u => Replied u m eParam [] ∧ SameUnits s u ∧ SameSettings s u))
    ∧ (good → s.fw.trial.isSome = true →
        Leads (exec (.fwStage t m (some img)) s) (fun u => Replied u m eState [] ∧ SameUnits s u ∧ SameSettings s u))
    ∧ (good → s.fw.trial = none → [0x0901, 0x0902, 0x0203, 0x0204, 0x0704].any s.working = true →
        Leads (exec (.fwStage t m (some img)) s) (fun u => Replied u m eBusy [] ∧ SameUnits s u ∧ SameSettings s u))
    ∧ (good → s.fw.trial = none → [0x0901, 0x0902, 0x0203, 0x0204, 0x0704].any s.working = false → s.mr.work.length < 16 →
        Leads (exec (.fwStage t m (some img)) s) (fun u => Replied u m stAccepted [] ∧ u.fw = { s.fw with staging := some img }
          ∧ u.mr.work = s.mr.work ++ [⟨m.val, 0x0901, (s.reqOf m).tag, max s.clk t, 0, 0⟩] ∧ SameUnits { s with fw := u.fw } u)))
  ∧ (∀ (s : State) (t : Nat) (ok : Bool) (img : List Byte),
      (s.fw.staging = none → exec (.fwStageEnd t ok) s = .next (s.reach t))
      ∧ (s.fw.staging = some img → s.fw.recovery = false → Leads (exec (.fwStageEnd t ok) s) (fun u => SameUnits { s with fw := u.fw } u
          ∧ u.mr.work = s.mr.work.eraseP (fun w => w.code == 0x0901)
          ∧ (if s.fw.accepts img = true then
              (if ok = true then u.fw = { s.fw with staging := none }.setSlot s.fw.other (s.fw.slotOf img)
                else u.fw = { s.fw with staging := none }.setSlot s.fw.other { s.fw.slot s.fw.other with intact := false, image := none })
            else u.fw = { s.fw with staging := none }))))
  ∧ (∀ (s : State) (t : Nat) (m : Fin 17), Ready s t m 0x0902 (lenIs 8) → s.fw.restart = none →
      let p := (s.reqOf m).payload
      let op := fieldAt p 0 1
      let commit := decide (fieldAt p 1 1 = 1)
      ((2 < op ∨ 1 < fieldAt p 1 1 ∨ fieldAt p 2 6 ≠ 0) →
        Leads (exec (.fwActivate t m) s) (fun u => Replied u m eParam [] ∧ SameUnits s u ∧ SameSettings s u))
      ∧ (fieldAt p 1 1 ≤ 1 → fieldAt p 2 6 = 0 →
        (op = 2 → s.fw.trial = none → Leads (exec (.fwActivate t m) s) (fun u => Replied u m eState [] ∧ SameUnits s u ∧ SameSettings s u))
        ∧ (∀ x, op = 2 → s.fw.trial = some x → max s.clk t ≤ x.end_ → s.mr.work.length < 16 → Leads (exec (.fwActivate t m) s) (fun u =>
            Replied u m stAccepted [] ∧ u.fw.trial = none ∧ u.fw.pref = s.fw.running ∧ u.fw.bootSeq = wrapAdd 32 s.fw.bootSeq 1
            ∧ u.fw.bootAt = 1 - s.fw.bootAt ∧ u.fw.bootOld = some (s.fw.bootSeq, s.fw.pref)
            ∧ u.fw.fused = (if x.commit then max s.fw.fused (s.fw.slot s.fw.running).svn else s.fw.fused)))
        ∧ (op ≤ 1 → (s.fw.slotFault (s.fw.slot s.fw.other) ≠ 0 ∨ s.fw.trial.isSome = true) →
            Leads (exec (.fwActivate t m) s) (fun u => Replied u m eState [] ∧ SameUnits s u ∧ SameSettings s u))
        ∧ (op ≤ 1 → s.fw.slotFault (s.fw.slot s.fw.other) = 0 → s.fw.trial = none → s.othersBusy m = false → s.mr.work = [] →
            s.ck.relock = none → Leads (exec (.fwActivate t m) s) (fun u => (∀ j, (u.mbox j).state = .offline) ∧ u.fw.serving = false
              ∧ u.fw.restart = some ⟨m.val, (s.reqOf m).tag, op, s.fw.other, 0, false⟩
              ∧ (op = 0 → u.fw.pref = s.fw.other ∧ u.fw.trial = none
                ∧ u.fw.fused = (if commit then max s.fw.fused (s.fw.slot s.fw.other).svn else s.fw.fused))
              ∧ (op = 1 → u.fw.pref = s.fw.pref ∧ u.fw.fused = s.fw.fused
                ∧ u.fw.trial = some ⟨max s.clk t + s.mkey 0x1100 * 3000000000, commit⟩)))))
  ∧ (∀ (s : State) (t : Nat) (ok : Bool) (r : Restart),
      (s.fw.restart = none → exec (.liveRestartDone t ok) s = .next (s.reach t))
      ∧ (s.fw.restart = some r → r.began = false → s.fw.serving = false →
        (s.fw.slotFault (s.fw.slot r.slot) = 0 → s.fw.haltReq = false → Leads (exec (.liveRestartDone t true) s) (fun u =>
          u.fw.running = r.slot ∧ u.fw.serving = true ∧ u.fw.recovery = false ∧ u.fw.restart = none
          ∧ u.fw.restarts = wrapAdd 32 s.fw.restarts 1 ∧ (∀ j, (u.mbox j).state = .free)
          ∧ u.fw.meas = ((s.fw.meas.set 1 (extendReg s.fw.meas[(1 : Fin 8)] (s.fw.slot r.slot).digest)).set 2
              (extendReg s.fw.meas[(2 : Fin 8)] (shake256 (s.fw.slot r.slot).key 64))).set 3
              (extendReg s.fw.meas[(3 : Fin 8)] (padTo 64 (leBytes 2 (s.fw.slot r.slot).svn ++ leBytes 2 s.fw.fused)))))
        ∧ (s.fw.slotFault (s.fw.slot r.slot) = 0 → s.fw.haltReq = true → Leads (exec (.liveRestartDone t true) s) (fun u =>
          u.fw.running = r.slot ∧ u.fw.serving = false ∧ u.fw.halted = true ∧ u.fw.hcause = 1 ∧ u.fw.haltReq = false))
        ∧ (s.fw.slotFault (s.fw.slot s.fw.running) = 0 → s.fw.haltReq = false → Leads (exec (.liveRestartDone t false) s) (fun u =>
          u.fw.running = s.fw.running ∧ u.fw.serving = true ∧ u.fw.recovery = false ∧ u.fw.trial = none
          ∧ ∀ j, (u.mbox j).state = .free))))
  ∧ (∀ (s : State) (t : Nat) (x : Trial),
      (s.fw.trial = none → exec (.trialExpiry t) s = .next (s.reach t))
      ∧ (s.fw.trial = some x → max s.clk t < x.end_ → exec (.trialExpiry t) s = .next (s.reach t))
      ∧ (s.fw.trial = some x → x.end_ ≤ max s.clk t → s.fw.halted = false → s.fw.serving = true →
          Leads (exec (.trialExpiry t) s) (fun u => u.fw.trial = none ∧ u.fw.serving = false ∧ (∀ j, (u.mbox j).state = .offline)
            ∧ u.fw.restart = some ⟨0, 0, 0, s.fw.other, 1, false⟩ ∧ u.fw.pref = s.fw.pref)))
  ∧ ∀ (s : State) (t : Nat) (m : Fin 17), Ready s t m 0x0903 (lenIs 0) →
      let rec_ : FwSlot → List Byte := fun v => leBytes 1 (flag (s.fw.slotFault v == 0)) ++ leBytes 1 v.signer ++ leBytes 2 v.svn
        ++ leBytes 4 v.version ++ leBytes 4 v.bodyLen ++ List.replicate 4 0#8 ++ padTo 64 v.digest
      Leads (exec (.fwStatus t m) s) (fun u => SameUnits s u ∧ SameSettings s u ∧ ∃ x, x ≤ 100 ∧ (s.fw.staging = none → x = 0)
        ∧ Replied u m stOk (leBytes 1 (if s.fw.recovery then 0xFF else s.fw.running) ++ leBytes 1 s.fw.pref
          ++ leBytes 1 (flag s.fw.trial.isSome) ++ leBytes 1 s.fw.ownState
          ++ leBytes 4 (s.fw.trial.elim 0 (fun x => ceilDiv (x.end_ - max s.clk t) 3000000000)) ++ leBytes 2 s.fw.fused
          ++ leBytes 1 s.fw.ownSlots ++ leBytes 1 x ++ leBytes 4 s.fw.restarts ++ rec_ s.fw.slotA ++ rec_ s.fw.slotB))

/-- R464, R470, R473, R475 to R480; the outcome of a signature check is the configuration's, and both outcomes are stated.

Completes with its own effect (`exec c s = .next u` for the `u` that `Leads` or the equation gives): `getIdentity`, `quote`,
`debugUnlock`, `challengeExpiry`, `enrollOwner`, `ownerSlotProgrammed`, `dbgHalt`, `dbgResume`, `dbgStep`, `dbgClrErr`,
`dbgDataAccess`, `breakpointHit`. -/
def Obligations.IdentityOwnershipAndDebug : Prop :=
  (∀ (s : State) (t : Nat) (m : Fin 17), Ready s t m 0x0701 (lenIs 24) →
    let p := (s.reqOf m).payload
    let what := fieldAt p 0 1
    ((1 < what ∨ allZero (sliceAt p 1 7) = false) →
      Leads (exec (.getIdentity t m) s) (fun u => Replied u m eParam [] ∧ SameUnits s u ∧ SameSettings s u))
    ∧ (what = 0 → allZero (p.drop 1) = true → p.length = 24 → Leads (exec (.getIdentity t m) s) (fun u => SameUnits s u ∧ SameSettings s u
        ∧ Replied u m stOk (Config.serial ++ leBytes 2 Config.hwRev ++ [1#8] ++ leBytes 1 s.fw.ownState ++ leBytes 2 s.fw.fused ++ [0#8, 0#8]
          ++ shake256 Config.identKey 32 ++ (if s.fw.ownState = 1 then shake256 s.fw.ownKey 32 else List.replicate 32 0#8)
          ++ List.replicate 8 0#8 ++ Config.identKey)))
    ∧ (what = 1 → allZero (sliceAt p 1 7) = true → bulkOk p 8 = true → 3309 ≤ (bulkRef p 8).2.1 →
        Leads (exec (.getIdentity t m) s) (fun u => Replied u m stOk (leBytes 4 3309) ∧ SameUnits s u ∧ SameSettings s u
          ∧ u.hl.hostMem = memWriteBytes s.hl.hostMem (bulkRef p 8).1 Config.endorsement)))
  ∧ (∀ (s : State) (t : Nat) (m : Fin 17), Ready s t m 0x0702 (lenIs 48) →
      let p := (s.reqOf m).payload
      ((bulkOk p 32 = false ∨ (bulkRef p 32).2.1 < 4013) →
        Leads (exec (.quote t m) s) (fun u => Replied u m eParam [] ∧ SameUnits s u ∧ SameSettings s u))
      ∧ (bulkOk p 32 = true → 4013 ≤ (bulkRef p 32).2.1 → Leads (exec (.quote t m) s) (fun u =>
          Replied u m stOk (leBytes 4 4013 ++ List.replicate 4 0#8) ∧ SameUnits s u ∧ SameSettings s u
          ∧ u.hl.hostMem = memWriteBytes s.hl.hostMem (bulkRef p 32).1 ((s.reach t).quoteMsg (sliceAt p 0 32)
              ++ signMsg (Config.freeBits s.freeCtr) ctxQuote ((s.reach t).quoteMsg (sliceAt p 0 32))))))
  ∧ (∀ (s : State) (t : Nat) (m : Fin 17) (b : Bulk), Ready s t m 0x0703 (lenIs 24) →
      let p := (s.reqOf m).payload
      let op := fieldAt p 0 1
      let zeros := allZero (sliceAt p 1 7) = true
      (2 < op → Leads (exec (.debugUnlock t m b) s) (fun u => Replied u m eParam [] ∧ SameUnits s u ∧ SameSettings s u))
      ∧ (op = 0 → zeros → allZero (sliceAt p 8 16) = true → Leads (exec (.debugUnlock t m b) s) (fun u => ∃ c, Replied u m stOk c
          ∧ c.length = 32 ∧ u.fw = { s.fw with chal := some (c, max s.clk t), chalNo := s.fw.chalNo + 1 } ∧ SameUnits { s with fw := u.fw } u))
      ∧ (∀ tok, op = 1 → zeros → bulkOk p 8 = true → (bulkRef p 8).2.1 = 3369 → b = some tok →
          (s.fw.chal = none → Leads (exec (.debugUnlock t m b) s) (fun u => Replied u m eState [] ∧ SameUnits s u ∧ SameSettings s u))
          ∧ (∀ c a, s.fw.chal = some (c, a) → max s.clk t < a + 180000000000 → s.fw.ownState = 1 → s.mkey 0x1101 ≠ 0 → s.fw.unlocked = false →
            Leads (exec (.debugUnlock t m b) s) (fun u => u.fw.chal = none ∧ SameUnits { s with fw := u.fw } u ∧
              (if s.fw.tokenOk c (padTo 3369 tok) = true then Replied u m stOk [] ∧ u.fw.unlocked = true ∧ u.fw.everUnl = true
                ∧ u.fw.meas = s.fw.meas.set 6 (extendReg s.fw.meas[(6 : Fin 8)] (1#8 :: List.replicate 31 0#8 ++ shake256 (padTo 3369 tok) 32))
              else Replied u m eAuth [] ∧ u.fw.unlocked = false ∧ u.fw.meas = s.fw.meas))))
      ∧ (op = 2 → zeros → allZero (sliceAt p 8 16) = true →
          (s.fw.unlocked = false → Leads (exec (.debugUnlock t m b) s) (fun u => Replied u m eState [] ∧ SameUnits s u ∧ SameSettings s u))
          ∧ (s.fw.unlocked = true → Leads (exec (.debugUnlock t m b) s) (fun u => Replied u m stOk [] ∧ u.fw.unlocked = false
            ∧ u.fw.meas = s.fw.meas.set 6 (extendReg s.fw.meas[(6 : Fin 8)] (padTo 64 [2#8]))))))
  ∧ (∀ (s : State) (t : Nat) (c : List Byte) (a : Nat), s.fw.chal = some (c, a) →
      (max s.clk t < a + 180000000000 → exec (.challengeExpiry t) s = .next (s.reach t))
      ∧ (a + 180000000000 ≤ max s.clk t → exec (.challengeExpiry t) s = .next ((s.reach t).modFw (fun f => { f with chal := none }))))
  ∧ (∀ (s : State) (t : Nat) (m : Fin 17) (bs : List Byte), Ready s t m 0x0704 (lenIs 16) →
      let p := (s.reqOf m).payload
      let shape := bulkOk p 0 = true ∧ (bulkRef p 0).2.1 = 5261
      let quiet := s.working 0x0901 = false ∧ s.working 0x0704 = false ∧ s.mr.work.length < 16
      (¬ shape → Leads (exec (.enrollOwner t m (some bs)) s) (fun u => Replied u m eParam [] ∧ SameUnits s u ∧ SameSettings s u))
      ∧ (shape → quiet → s.fw.ownSlots = 0 →
          Leads (exec (.enrollOwner t m (some bs)) s) (fun u => Replied u m eNores [] ∧ SameUnits s u ∧ SameSettings s u))
      ∧ (shape → quiet → s.fw.ownSlots ≠ 0 → Leads (exec (.enrollOwner t m (some bs)) s) (fun u => SameUnits { s with fw := u.fw } u ∧
          (if s.fw.enrolOk bs = true then Replied u m stAccepted [] ∧ u.fw = { s.fw with enrol := some (padTo 1952 bs) }
            ∧ u.mr.work = s.mr.work ++ [⟨m.val, 0x0704, (s.reqOf m).tag, max s.clk t, 0, 0⟩]
          else Replied u m eAuth [] ∧ u.fw = s.fw ∧ SameSettings s u))))
  ∧ (∀ (s : State) (t : Nat) (k : List Byte),
      (s.fw.enrol = none → exec (.ownerSlotProgrammed t) s = .next (s.reach t))
      ∧ (s.fw.enrol = some k → Leads (exec (.ownerSlotProgrammed t) s) (fun u => u.fw.ownKey = k ∧ u.fw.ownState = 1
          ∧ u.fw.ownSlots = s.fw.ownSlots - 1 ∧ u.fw.enrol = none ∧ u.fw.unlocked = false
          ∧ u.fw.meas[(5 : Fin 8)] = extendReg s.fw.meas[(5 : Fin 8)] (padTo 64 (shake256 k 32)))))
  ∧ (∀ (s : State) (t : Nat), s.fw.unlocked = true →
      (s.fw.halted = false → s.fw.serving = true → exec (.dbgHalt t 1#32) s = .next ((s.reach t).modFw (fun f => { f with
        halted := true, haltReq := false, hcause := 1 })))
      ∧ exec (.dbgHalt t 3#32) s = .next (s.reach t)
      ∧ (s.fw.halted = false → exec (.dbgResume t 2#32) s = .next (s.reach t) ∧ exec (.dbgStep t 4#32) s = .next (s.reach t))
      ∧ (s.fw.halted = true → s.fw.serving = true → s.fw.restart = none → Leads (exec (.dbgResume t 2#32) s) (fun u =>
          u.fw = { s.fw with halted := false, hcause := 0 } ∧ u.log.deferred = [] ∧ SameUnits { s with fw := u.fw } u))
      ∧ (s.fw.halted = true → exec (.dbgStep t 4#32) s = .next ((s.reach t).modFw (fun f => { f with haltReq := false, hcause := 2 })))
      ∧ exec (.dbgClrErr t 8#32) s = .next ((s.reach t).modFw (fun f => { f with accErr := false }))
      ∧ (∀ (a w : BitVec 32), 0x10000000 ≤ a.toNat → a.toNat < 0x10200000 →
          let o := a.toNat / 4 * 4 - 0x10000000
          exec (.dbgDataAccess t (some a) none) s = .next ((s.reach t).modFw (fun f => { f with
            dbgData := BitVec.ofNat 32 (ofLe (memReadBytes s.fw.sram o 4)), dbgAddr := a + 4 }))
          ∧ exec (.dbgDataAccess t (some a) (some w)) s = .next ((s.reach t).modFw (fun f => { f with
            dbgData := BitVec.ofNat 32 (ofLe (memReadBytes s.fw.sram o 4)), dbgAddr := a + 4
            sram := memWriteBytes s.fw.sram o (leBytes 4 w.toNat) })))
      ∧ (∀ (a : BitVec 32) (w : Option (BitVec 32)), 0x60400000 ≤ a.toNat → exec (.dbgDataAccess t (some a) w) s
          = .next ((s.reach t).modFw (fun f => { f with accErr := true, dbgData := 0#32, dbgAddr := a + 4 })))
      ∧ (∀ i : Fin 8, s.fw.serving = true → s.fw.halted = false → (s.fw.bps[i]).1 ≠ 0 → exec (.breakpointHit t none i) s
          = .next ((s.reach t).modFw (fun f => { f with halted := true, haltReq := false, hcause := 3, bpHit := i.val })))
      ∧ (∀ i : Fin 8, (s.fw.bps[i]).1 = 0 → exec (.breakpointHit t none i) s = .next (s.reach t)))
  ∧ (∀ (s : State) (op : BitVec 8), s.fw.hcause < 8 → s.fw.bpHit < 8 →
      (dbgSelect false op ≠ .bypass → dbgSelect false op = dbgSelect true op ∧ (op = 0x01#8 ∨ op = 0x10#8))
      ∧ (dbgSelect true op ≠ .bypass → op ∈ [0x01#8, 0x10#8, 0x20#8, 0x21#8, 0x22#8, 0x23#8])
      ∧ s.dbgStatus.getLsbD 0 = s.fw.unlocked ∧ s.dbgStatus.getLsbD 1 = s.fw.halted ∧ s.dbgStatus.getLsbD 11 = s.fw.accErr
      ∧ (s.dbgStatus.extractLsb' 2 3).toNat = s.fw.hcause ∧ (s.dbgStatus.extractLsb' 8 3).toNat = s.fw.bpHit)
  ∧ ∀ (s : State) (t : Nat) (v : BitVec 32) (a w : Option (BitVec 32)) (sc : Option (BitVec 40)) (i : Fin 8), s.fw.unlocked = false →
      exec (.dbgHalt t v) s = .next (s.reach t) ∧ exec (.dbgResume t v) s = .next (s.reach t) ∧ exec (.dbgStep t v) s = .next (s.reach t)
      ∧ exec (.dbgClrErr t v) s = .next (s.reach t) ∧ exec (.dbgDataAccess t a w) s = .next (s.reach t)
      ∧ exec (.breakpointHit t sc i) s = .next (s.reach t)

/-- R248, R491, R492.

Completes with its own effect (`exec c s = .next u` for the `u` that `Leads` or the equation gives): `outputPulse`, `pulseEnd`. -/
def Obligations.OutputPulsesStartAndEnd : Prop :=
  (∀ (s : State) (t : Nat), let c := max s.clk t
    (s.reach t).playMarks 0 c = [] → (s.reach t).playMarks 1 c = [] →
      ((∀ e ∈ s.pins.duePulses, c < e.1) → exec (.outputPulse t) s = .next (s.reach t))
      ∧ (∀ b key rest, s.pins.duePulses = (b, key) :: rest → b ≤ c → (∀ e ∈ rest, c < e.1) → Leads (exec (.outputPulse t) s) (fun u =>
          u.pins.duePulses = rest ∧ SameUnits { s with pins := u.pins } u ∧ SameSettings s u
          ∧ ∀ p : Fin 5, u.pins.pulse[p] = if bitAt (s.keyAt key 0 b) p.val
              then some (max (b + s.keyAt 0x0030 0 b) ((s.pins.pulse[p]).getD 0)) else s.pins.pulse[p])))
  ∧ ∀ (s : State) (t : Nat) (p : Fin 5),
      (s.pins.pulse[p] = none → exec (.pulseEnd t p) s = .next (s.reach t))
      ∧ ∀ e, s.pins.pulse[p] = some e →
        (max s.clk t < e → exec (.pulseEnd t p) s = .next (s.reach t))
        ∧ (e ≤ max s.clk t → exec (.pulseEnd t p) s = .next ((s.reach t).modPins (fun q => { q with pulse := q.pulse.set p.val none })))

/-- The values that the spec gives for the state after power-up (R35, R36, R48, R63, R178, R404, R449, R453, R464, R478); the reset
moment itself is the model's choice (log entry 1). -/
def Obligations.ResetState : Prop :=
  State.reset.pending = [] ∧ State.reset.ticks = 0 ∧ State.reset.pw.st = 0 ∧ State.reset.fw.serving = true
    ∧ (∀ m : Fin 16, (State.reset.mbox (m.castLE (by decide))).state = .free ∧ (State.reset.mbox (m.castLE (by decide))).vector = m.val)
    ∧ State.reset.mr.stage = [] ∧ State.reset.mr.recorded = [] ∧ State.reset.mr.gen = 0 ∧ State.reset.mr.work = [] ∧ State.reset.mr.exec = none
    ∧ State.reset.log.ram = [] ∧ State.reset.log.next = 1
    ∧ (∀ c : Fin 4, State.reset.ch[c].st = .stopped) ∧ State.reset.ar.role = 0 ∧ State.reset.ar.members = []
    ∧ (∀ p : Fin 3, State.reset.ar.ports[p] = false) ∧ (∀ k : Fin 64, State.reset.mon.coeff[k] = (0, 16777216))
    ∧ State.reset.fw.unlocked = false ∧ State.reset.fw.halted = false ∧ ∀ p : Fin 5, State.reset.pins.pulse[p] = none

/-- Every command of the table has an effect in every state (a command without an occasion only lets time pass: log entry 4). -/
def Obligations.EveryCommandCompletes : Prop :=
  ∀ (i : Instr) (s : State), ∃ u, exec i s = .next u

/-- The queue is the sender's alone, and the slice clock never goes back (R16), over all commands and states. -/
def Obligations.CommandsKeepQueueAndTime : Prop :=
  ∀ (i : Instr) (s u : State), exec i s = .next u → u.pending = s.pending ∧ s.clk ≤ u.clk

/-- Reset meets the invariant. -/
def Obligations.ResetMeetsInvariant : Prop := Inv State.reset

/-- The invariant is kept by every step, from every state that meets it (R49, R57, R63, R64, R419, R426). -/
def Obligations.StepsKeepInvariant : Prop :=
  ∀ s u : State, Inv s → step s = .next u → Inv u
end

