-- ==== Sys2Proof/Laws/Banks.lean ====
section
/-!
SUPPORT. What a store leaves in a bank (05 R141, R143): a bank that ended well is valid, an erased or partly programmed one is not.
-/

namespace Sys2Proof.Machine

/-- The record that a store programs passes its own check (05 R139). -/
theorem commitRec_checks (seq ticks boot : Nat) : (commitRec seq ticks boot).checks = true := by
  show (some _ == some _) = true
  exact beq_self_eq_true _

/-- A bank that a store left when it ended well is valid (05 R140, R141). -/
theorem storedBank_valid (seq ticks boot : Nat) (w : WorkSet) : (storedBank seq ticks boot w).valid = true := by
  have hm : ((commitRec seq ticks boot).magic == asciiBytes "QCAL" && (commitRec seq ticks boot).format == 1) = true :=
    Bool.and_eq_true_iff.2 ⟨beq_self_eq_true _, rfl⟩
  have hd : ((storedBank seq ticks boot w).digest
      == shake256 (bankImage (storedBank seq ticks boot w).format (storedBank seq ticks boot w).serial (storedBank seq ticks boot w).data) 32)
        = true := beq_self_eq_true _
  have hs : ((storedBank seq ticks boot w).serial == Config.serial) = true := beq_self_eq_true _
  have hr : ((commitRec seq ticks boot).res1 == 0 && (commitRec seq ticks boot).res2 == 0) = true := rfl
  have hc : (storedBank seq ticks boot w).commit = some (commitRec seq ticks boot) := rfl
  unfold Bank.valid Bank.fault
  rw [hc]
  simp only [hm, commitRec_checks, hr, hs, hd, Bool.not_true, Bool.false_eq_true, if_false, Option.isNone_none]

/-- A bank whose record is erased is not valid (05 R140). -/
theorem erased_invalid (b : Bank) : b.erased.valid = false := rfl

/-- A bank whose record is only partly programmed is not valid (05 R140, R143). -/
theorem partBank_invalid (seq ticks boot : Nat) (w : WorkSet) : (partBank seq ticks boot w).valid = false := by
  have hc : (partBank seq ticks boot w).commit = some { commitRec seq ticks boot with check := none } := rfl
  have hm : ((commitRec seq ticks boot).magic == asciiBytes "QCAL" && (commitRec seq ticks boot).format == 1) = true :=
    Bool.and_eq_true_iff.2 ⟨beq_self_eq_true _, rfl⟩
  have hk : CommitRec.checks { commitRec seq ticks boot with check := none } = false := rfl
  unfold Bank.valid Bank.fault
  rw [hc]
  simp only [hm, hk, Bool.not_true, Bool.not_false, Bool.false_eq_true, if_false, if_true, Option.isNone_some]

/-- The sequence number of a stored bank. -/
@[simp] theorem storedBank_seq (seq ticks boot : Nat) (w : WorkSet) : (storedBank seq ticks boot w).seq = seq := rfl

/-- The working set of a stored bank. -/
@[simp] theorem storedBank_data (seq ticks boot : Nat) (w : WorkSet) : (storedBank seq ticks boot w).data = w := rfl

end Sys2Proof.Machine
end

