-- ==== Sys2Proof/Laws/State.lean ====
section
/-!
SUPPORT. The small lemmas of the state: what each named update writes, and that it leaves every other field as it was.
-/

namespace Sys2Proof.Machine

/-! Updates of `clk`. -/

@[simp] theorem State.setClk_clk (s : State) (v : Nat) : (s.setClk v).clk = v := rfl
@[simp] theorem State.setClk_pending (s : State) (v : Nat) : (s.setClk v).pending = s.pending := rfl
@[simp] theorem State.setClk_freeCtr (s : State) (v : Nat) : (s.setClk v).freeCtr = s.freeCtr := rfl
@[simp] theorem State.setClk_readData (s : State) (v : Nat) : (s.setClk v).readData = s.readData := rfl
@[simp] theorem State.setClk_mr (s : State) (v : Nat) : (s.setClk v).mr = s.mr := rfl
@[simp] theorem State.setClk_log (s : State) (v : Nat) : (s.setClk v).log = s.log := rfl
@[simp] theorem State.setClk_fe (s : State) (v : Nat) : (s.setClk v).fe = s.fe := rfl
@[simp] theorem State.setClk_tw (s : State) (v : Nat) : (s.setClk v).tw = s.tw := rfl
@[simp] theorem State.setClk_cal (s : State) (v : Nat) : (s.setClk v).cal = s.cal := rfl
@[simp] theorem State.setClk_ck (s : State) (v : Nat) : (s.setClk v).ck = s.ck := rfl
@[simp] theorem State.setClk_tm (s : State) (v : Nat) : (s.setClk v).tm = s.tm := rfl
@[simp] theorem State.setClk_ch (s : State) (v : Nat) : (s.setClk v).ch = s.ch := rfl
@[simp] theorem State.setClk_evq (s : State) (v : Nat) : (s.setClk v).evq = s.evq := rfl
@[simp] theorem State.setClk_tr (s : State) (v : Nat) : (s.setClk v).tr = s.tr := rfl
@[simp] theorem State.setClk_mem (s : State) (v : Nat) : (s.setClk v).mem = s.mem := rfl
@[simp] theorem State.setClk_hl (s : State) (v : Nat) : (s.setClk v).hl = s.hl := rfl
@[simp] theorem State.setClk_hv (s : State) (v : Nat) : (s.setClk v).hv = s.hv := rfl
@[simp] theorem State.setClk_out (s : State) (v : Nat) : (s.setClk v).out = s.out := rfl
@[simp] theorem State.setClk_ar (s : State) (v : Nat) : (s.setClk v).ar = s.ar := rfl
@[simp] theorem State.setClk_pw (s : State) (v : Nat) : (s.setClk v).pw = s.pw := rfl
@[simp] theorem State.setClk_mon (s : State) (v : Nat) : (s.setClk v).mon = s.mon := rfl
@[simp] theorem State.setClk_fw (s : State) (v : Nat) : (s.setClk v).fw = s.fw := rfl
@[simp] theorem State.setClk_pins (s : State) (v : Nat) : (s.setClk v).pins = s.pins := rfl
@[simp] theorem State.modClk_clk (s : State) (g : Nat → Nat) : (s.modClk g).clk = g s.clk := rfl
@[simp] theorem State.modClk_pending (s : State) (h : Nat → Nat) : (s.modClk h).pending = s.pending := rfl
@[simp] theorem State.modClk_freeCtr (s : State) (h : Nat → Nat) : (s.modClk h).freeCtr = s.freeCtr := rfl
@[simp] theorem State.modClk_readData (s : State) (h : Nat → Nat) : (s.modClk h).readData = s.readData := rfl
@[simp] theorem State.modClk_mr (s : State) (h : Nat → Nat) : (s.modClk h).mr = s.mr := rfl
@[simp] theorem State.modClk_log (s : State) (h : Nat → Nat) : (s.modClk h).log = s.log := rfl
@[simp] theorem State.modClk_fe (s : State) (h : Nat → Nat) : (s.modClk h).fe = s.fe := rfl
@[simp] theorem State.modClk_tw (s : State) (h : Nat → Nat) : (s.modClk h).tw = s.tw := rfl
@[simp] theorem State.modClk_cal (s : State) (h : Nat → Nat) : (s.modClk h).cal = s.cal := rfl
@[simp] theorem State.modClk_ck (s : State) (h : Nat → Nat) : (s.modClk h).ck = s.ck := rfl
@[simp] theorem State.modClk_tm (s : State) (h : Nat → Nat) : (s.modClk h).tm = s.tm := rfl
@[simp] theorem State.modClk_ch (s : State) (h : Nat → Nat) : (s.modClk h).ch = s.ch := rfl
@[simp] theorem State.modClk_evq (s : State) (h : Nat → Nat) : (s.modClk h).evq = s.evq := rfl
@[simp] theorem State.modClk_tr (s : State) (h : Nat → Nat) : (s.modClk h).tr = s.tr := rfl
@[simp] theorem State.modClk_mem (s : State) (h : Nat → Nat) : (s.modClk h).mem = s.mem := rfl
@[simp] theorem State.modClk_hl (s : State) (h : Nat → Nat) : (s.modClk h).hl = s.hl := rfl
@[simp] theorem State.modClk_hv (s : State) (h : Nat → Nat) : (s.modClk h).hv = s.hv := rfl
@[simp] theorem State.modClk_out (s : State) (h : Nat → Nat) : (s.modClk h).out = s.out := rfl
@[simp] theorem State.modClk_ar (s : State) (h : Nat → Nat) : (s.modClk h).ar = s.ar := rfl
@[simp] theorem State.modClk_pw (s : State) (h : Nat → Nat) : (s.modClk h).pw = s.pw := rfl
@[simp] theorem State.modClk_mon (s : State) (h : Nat → Nat) : (s.modClk h).mon = s.mon := rfl
@[simp] theorem State.modClk_fw (s : State) (h : Nat → Nat) : (s.modClk h).fw = s.fw := rfl
@[simp] theorem State.modClk_pins (s : State) (h : Nat → Nat) : (s.modClk h).pins = s.pins := rfl

/-! Updates of `pending`. -/

@[simp] theorem State.setPending_pending (s : State) (v : List Instr) : (s.setPending v).pending = v := rfl
@[simp] theorem State.setPending_clk (s : State) (v : List Instr) : (s.setPending v).clk = s.clk := rfl
@[simp] theorem State.setPending_freeCtr (s : State) (v : List Instr) : (s.setPending v).freeCtr = s.freeCtr := rfl
@[simp] theorem State.setPending_readData (s : State) (v : List Instr) : (s.setPending v).readData = s.readData := rfl
@[simp] theorem State.setPending_mr (s : State) (v : List Instr) : (s.setPending v).mr = s.mr := rfl
@[simp] theorem State.setPending_log (s : State) (v : List Instr) : (s.setPending v).log = s.log := rfl
@[simp] theorem State.setPending_fe (s : State) (v : List Instr) : (s.setPending v).fe = s.fe := rfl
@[simp] theorem State.setPending_tw (s : State) (v : List Instr) : (s.setPending v).tw = s.tw := rfl
@[simp] theorem State.setPending_cal (s : State) (v : List Instr) : (s.setPending v).cal = s.cal := rfl
@[simp] theorem State.setPending_ck (s : State) (v : List Instr) : (s.setPending v).ck = s.ck := rfl
@[simp] theorem State.setPending_tm (s : State) (v : List Instr) : (s.setPending v).tm = s.tm := rfl
@[simp] theorem State.setPending_ch (s : State) (v : List Instr) : (s.setPending v).ch = s.ch := rfl
@[simp] theorem State.setPending_evq (s : State) (v : List Instr) : (s.setPending v).evq = s.evq := rfl
@[simp] theorem State.setPending_tr (s : State) (v : List Instr) : (s.setPending v).tr = s.tr := rfl
@[simp] theorem State.setPending_mem (s : State) (v : List Instr) : (s.setPending v).mem = s.mem := rfl
@[simp] theorem State.setPending_hl (s : State) (v : List Instr) : (s.setPending v).hl = s.hl := rfl
@[simp] theorem State.setPending_hv (s : State) (v : List Instr) : (s.setPending v).hv = s.hv := rfl
@[simp] theorem State.setPending_out (s : State) (v : List Instr) : (s.setPending v).out = s.out := rfl
@[simp] theorem State.setPending_ar (s : State) (v : List Instr) : (s.setPending v).ar = s.ar := rfl
@[simp] theorem State.setPending_pw (s : State) (v : List Instr) : (s.setPending v).pw = s.pw := rfl
@[simp] theorem State.setPending_mon (s : State) (v : List Instr) : (s.setPending v).mon = s.mon := rfl
@[simp] theorem State.setPending_fw (s : State) (v : List Instr) : (s.setPending v).fw = s.fw := rfl
@[simp] theorem State.setPending_pins (s : State) (v : List Instr) : (s.setPending v).pins = s.pins := rfl
@[simp] theorem State.modPending_pending (s : State) (g : List Instr → List Instr) : (s.modPending g).pending = g s.pending := rfl
@[simp] theorem State.modPending_clk (s : State) (h : List Instr → List Instr) : (s.modPending h).clk = s.clk := rfl
@[simp] theorem State.modPending_freeCtr (s : State) (h : List Instr → List Instr) : (s.modPending h).freeCtr = s.freeCtr := rfl
@[simp] theorem State.modPending_readData (s : State) (h : List Instr → List Instr) : (s.modPending h).readData = s.readData := rfl
@[simp] theorem State.modPending_mr (s : State) (h : List Instr → List Instr) : (s.modPending h).mr = s.mr := rfl
@[simp] theorem State.modPending_log (s : State) (h : List Instr → List Instr) : (s.modPending h).log = s.log := rfl
@[simp] theorem State.modPending_fe (s : State) (h : List Instr → List Instr) : (s.modPending h).fe = s.fe := rfl
@[simp] theorem State.modPending_tw (s : State) (h : List Instr → List Instr) : (s.modPending h).tw = s.tw := rfl
@[simp] theorem State.modPending_cal (s : State) (h : List Instr → List Instr) : (s.modPending h).cal = s.cal := rfl
@[simp] theorem State.modPending_ck (s : State) (h : List Instr → List Instr) : (s.modPending h).ck = s.ck := rfl
@[simp] theorem State.modPending_tm (s : State) (h : List Instr → List Instr) : (s.modPending h).tm = s.tm := rfl
@[simp] theorem State.modPending_ch (s : State) (h : List Instr → List Instr) : (s.modPending h).ch = s.ch := rfl
@[simp] theorem State.modPending_evq (s : State) (h : List Instr → List Instr) : (s.modPending h).evq = s.evq := rfl
@[simp] theorem State.modPending_tr (s : State) (h : List Instr → List Instr) : (s.modPending h).tr = s.tr := rfl
@[simp] theorem State.modPending_mem (s : State) (h : List Instr → List Instr) : (s.modPending h).mem = s.mem := rfl
@[simp] theorem State.modPending_hl (s : State) (h : List Instr → List Instr) : (s.modPending h).hl = s.hl := rfl
@[simp] theorem State.modPending_hv (s : State) (h : List Instr → List Instr) : (s.modPending h).hv = s.hv := rfl
@[simp] theorem State.modPending_out (s : State) (h : List Instr → List Instr) : (s.modPending h).out = s.out := rfl
@[simp] theorem State.modPending_ar (s : State) (h : List Instr → List Instr) : (s.modPending h).ar = s.ar := rfl
@[simp] theorem State.modPending_pw (s : State) (h : List Instr → List Instr) : (s.modPending h).pw = s.pw := rfl
@[simp] theorem State.modPending_mon (s : State) (h : List Instr → List Instr) : (s.modPending h).mon = s.mon := rfl
@[simp] theorem State.modPending_fw (s : State) (h : List Instr → List Instr) : (s.modPending h).fw = s.fw := rfl
@[simp] theorem State.modPending_pins (s : State) (h : List Instr → List Instr) : (s.modPending h).pins = s.pins := rfl

/-! Updates of `freeCtr`. -/

@[simp] theorem State.setFreeCtr_freeCtr (s : State) (v : Nat) : (s.setFreeCtr v).freeCtr = v := rfl
@[simp] theorem State.setFreeCtr_clk (s : State) (v : Nat) : (s.setFreeCtr v).clk = s.clk := rfl
@[simp] theorem State.setFreeCtr_pending (s : State) (v : Nat) : (s.setFreeCtr v).pending = s.pending := rfl
@[simp] theorem State.setFreeCtr_readData (s : State) (v : Nat) : (s.setFreeCtr v).readData = s.readData := rfl
@[simp] theorem State.setFreeCtr_mr (s : State) (v : Nat) : (s.setFreeCtr v).mr = s.mr := rfl
@[simp] theorem State.setFreeCtr_log (s : State) (v : Nat) : (s.setFreeCtr v).log = s.log := rfl
@[simp] theorem State.setFreeCtr_fe (s : State) (v : Nat) : (s.setFreeCtr v).fe = s.fe := rfl
@[simp] theorem State.setFreeCtr_tw (s : State) (v : Nat) : (s.setFreeCtr v).tw = s.tw := rfl
@[simp] theorem State.setFreeCtr_cal (s : State) (v : Nat) : (s.setFreeCtr v).cal = s.cal := rfl
@[simp] theorem State.setFreeCtr_ck (s : State) (v : Nat) : (s.setFreeCtr v).ck = s.ck := rfl
@[simp] theorem State.setFreeCtr_tm (s : State) (v : Nat) : (s.setFreeCtr v).tm = s.tm := rfl
@[simp] theorem State.setFreeCtr_ch (s : State) (v : Nat) : (s.setFreeCtr v).ch = s.ch := rfl
@[simp] theorem State.setFreeCtr_evq (s : State) (v : Nat) : (s.setFreeCtr v).evq = s.evq := rfl
@[simp] theorem State.setFreeCtr_tr (s : State) (v : Nat) : (s.setFreeCtr v).tr = s.tr := rfl
@[simp] theorem State.setFreeCtr_mem (s : State) (v : Nat) : (s.setFreeCtr v).mem = s.mem := rfl
@[simp] theorem State.setFreeCtr_hl (s : State) (v : Nat) : (s.setFreeCtr v).hl = s.hl := rfl
@[simp] theorem State.setFreeCtr_hv (s : State) (v : Nat) : (s.setFreeCtr v).hv = s.hv := rfl
@[simp] theorem State.setFreeCtr_out (s : State) (v : Nat) : (s.setFreeCtr v).out = s.out := rfl
@[simp] theorem State.setFreeCtr_ar (s : State) (v : Nat) : (s.setFreeCtr v).ar = s.ar := rfl
@[simp] theorem State.setFreeCtr_pw (s : State) (v : Nat) : (s.setFreeCtr v).pw = s.pw := rfl
@[simp] theorem State.setFreeCtr_mon (s : State) (v : Nat) : (s.setFreeCtr v).mon = s.mon := rfl
@[simp] theorem State.setFreeCtr_fw (s : State) (v : Nat) : (s.setFreeCtr v).fw = s.fw := rfl
@[simp] theorem State.setFreeCtr_pins (s : State) (v : Nat) : (s.setFreeCtr v).pins = s.pins := rfl
@[simp] theorem State.modFreeCtr_freeCtr (s : State) (g : Nat → Nat) : (s.modFreeCtr g).freeCtr = g s.freeCtr := rfl
@[simp] theorem State.modFreeCtr_clk (s : State) (h : Nat → Nat) : (s.modFreeCtr h).clk = s.clk := rfl
@[simp] theorem State.modFreeCtr_pending (s : State) (h : Nat → Nat) : (s.modFreeCtr h).pending = s.pending := rfl
@[simp] theorem State.modFreeCtr_readData (s : State) (h : Nat → Nat) : (s.modFreeCtr h).readData = s.readData := rfl
@[simp] theorem State.modFreeCtr_mr (s : State) (h : Nat → Nat) : (s.modFreeCtr h).mr = s.mr := rfl
@[simp] theorem State.modFreeCtr_log (s : State) (h : Nat → Nat) : (s.modFreeCtr h).log = s.log := rfl
@[simp] theorem State.modFreeCtr_fe (s : State) (h : Nat → Nat) : (s.modFreeCtr h).fe = s.fe := rfl
@[simp] theorem State.modFreeCtr_tw (s : State) (h : Nat → Nat) : (s.modFreeCtr h).tw = s.tw := rfl
@[simp] theorem State.modFreeCtr_cal (s : State) (h : Nat → Nat) : (s.modFreeCtr h).cal = s.cal := rfl
@[simp] theorem State.modFreeCtr_ck (s : State) (h : Nat → Nat) : (s.modFreeCtr h).ck = s.ck := rfl
@[simp] theorem State.modFreeCtr_tm (s : State) (h : Nat → Nat) : (s.modFreeCtr h).tm = s.tm := rfl
@[simp] theorem State.modFreeCtr_ch (s : State) (h : Nat → Nat) : (s.modFreeCtr h).ch = s.ch := rfl
@[simp] theorem State.modFreeCtr_evq (s : State) (h : Nat → Nat) : (s.modFreeCtr h).evq = s.evq := rfl
@[simp] theorem State.modFreeCtr_tr (s : State) (h : Nat → Nat) : (s.modFreeCtr h).tr = s.tr := rfl
@[simp] theorem State.modFreeCtr_mem (s : State) (h : Nat → Nat) : (s.modFreeCtr h).mem = s.mem := rfl
@[simp] theorem State.modFreeCtr_hl (s : State) (h : Nat → Nat) : (s.modFreeCtr h).hl = s.hl := rfl
@[simp] theorem State.modFreeCtr_hv (s : State) (h : Nat → Nat) : (s.modFreeCtr h).hv = s.hv := rfl
@[simp] theorem State.modFreeCtr_out (s : State) (h : Nat → Nat) : (s.modFreeCtr h).out = s.out := rfl
@[simp] theorem State.modFreeCtr_ar (s : State) (h : Nat → Nat) : (s.modFreeCtr h).ar = s.ar := rfl
@[simp] theorem State.modFreeCtr_pw (s : State) (h : Nat → Nat) : (s.modFreeCtr h).pw = s.pw := rfl
@[simp] theorem State.modFreeCtr_mon (s : State) (h : Nat → Nat) : (s.modFreeCtr h).mon = s.mon := rfl
@[simp] theorem State.modFreeCtr_fw (s : State) (h : Nat → Nat) : (s.modFreeCtr h).fw = s.fw := rfl
@[simp] theorem State.modFreeCtr_pins (s : State) (h : Nat → Nat) : (s.modFreeCtr h).pins = s.pins := rfl

/-! Updates of `readData`. -/

@[simp] theorem State.setReadData_readData (s : State) (v : BitVec 64) : (s.setReadData v).readData = v := rfl
@[simp] theorem State.setReadData_clk (s : State) (v : BitVec 64) : (s.setReadData v).clk = s.clk := rfl
@[simp] theorem State.setReadData_pending (s : State) (v : BitVec 64) : (s.setReadData v).pending = s.pending := rfl
@[simp] theorem State.setReadData_freeCtr (s : State) (v : BitVec 64) : (s.setReadData v).freeCtr = s.freeCtr := rfl
@[simp] theorem State.setReadData_mr (s : State) (v : BitVec 64) : (s.setReadData v).mr = s.mr := rfl
@[simp] theorem State.setReadData_log (s : State) (v : BitVec 64) : (s.setReadData v).log = s.log := rfl
@[simp] theorem State.setReadData_fe (s : State) (v : BitVec 64) : (s.setReadData v).fe = s.fe := rfl
@[simp] theorem State.setReadData_tw (s : State) (v : BitVec 64) : (s.setReadData v).tw = s.tw := rfl
@[simp] theorem State.setReadData_cal (s : State) (v : BitVec 64) : (s.setReadData v).cal = s.cal := rfl
@[simp] theorem State.setReadData_ck (s : State) (v : BitVec 64) : (s.setReadData v).ck = s.ck := rfl
@[simp] theorem State.setReadData_tm (s : State) (v : BitVec 64) : (s.setReadData v).tm = s.tm := rfl
@[simp] theorem State.setReadData_ch (s : State) (v : BitVec 64) : (s.setReadData v).ch = s.ch := rfl
@[simp] theorem State.setReadData_evq (s : State) (v : BitVec 64) : (s.setReadData v).evq = s.evq := rfl
@[simp] theorem State.setReadData_tr (s : State) (v : BitVec 64) : (s.setReadData v).tr = s.tr := rfl
@[simp] theorem State.setReadData_mem (s : State) (v : BitVec 64) : (s.setReadData v).mem = s.mem := rfl
@[simp] theorem State.setReadData_hl (s : State) (v : BitVec 64) : (s.setReadData v).hl = s.hl := rfl
@[simp] theorem State.setReadData_hv (s : State) (v : BitVec 64) : (s.setReadData v).hv = s.hv := rfl
@[simp] theorem State.setReadData_out (s : State) (v : BitVec 64) : (s.setReadData v).out = s.out := rfl
@[simp] theorem State.setReadData_ar (s : State) (v : BitVec 64) : (s.setReadData v).ar = s.ar := rfl
@[simp] theorem State.setReadData_pw (s : State) (v : BitVec 64) : (s.setReadData v).pw = s.pw := rfl
@[simp] theorem State.setReadData_mon (s : State) (v : BitVec 64) : (s.setReadData v).mon = s.mon := rfl
@[simp] theorem State.setReadData_fw (s : State) (v : BitVec 64) : (s.setReadData v).fw = s.fw := rfl
@[simp] theorem State.setReadData_pins (s : State) (v : BitVec 64) : (s.setReadData v).pins = s.pins := rfl
@[simp] theorem State.modReadData_readData (s : State) (g : BitVec 64 → BitVec 64) : (s.modReadData g).readData = g s.readData := rfl
@[simp] theorem State.modReadData_clk (s : State) (h : BitVec 64 → BitVec 64) : (s.modReadData h).clk = s.clk := rfl
@[simp] theorem State.modReadData_pending (s : State) (h : BitVec 64 → BitVec 64) : (s.modReadData h).pending = s.pending := rfl
@[simp] theorem State.modReadData_freeCtr (s : State) (h : BitVec 64 → BitVec 64) : (s.modReadData h).freeCtr = s.freeCtr := rfl
@[simp] theorem State.modReadData_mr (s : State) (h : BitVec 64 → BitVec 64) : (s.modReadData h).mr = s.mr := rfl
@[simp] theorem State.modReadData_log (s : State) (h : BitVec 64 → BitVec 64) : (s.modReadData h).log = s.log := rfl
@[simp] theorem State.modReadData_fe (s : State) (h : BitVec 64 → BitVec 64) : (s.modReadData h).fe = s.fe := rfl
@[simp] theorem State.modReadData_tw (s : State) (h : BitVec 64 → BitVec 64) : (s.modReadData h).tw = s.tw := rfl
@[simp] theorem State.modReadData_cal (s : State) (h : BitVec 64 → BitVec 64) : (s.modReadData h).cal = s.cal := rfl
@[simp] theorem State.modReadData_ck (s : State) (h : BitVec 64 → BitVec 64) : (s.modReadData h).ck = s.ck := rfl
@[simp] theorem State.modReadData_tm (s : State) (h : BitVec 64 → BitVec 64) : (s.modReadData h).tm = s.tm := rfl
@[simp] theorem State.modReadData_ch (s : State) (h : BitVec 64 → BitVec 64) : (s.modReadData h).ch = s.ch := rfl
@[simp] theorem State.modReadData_evq (s : State) (h : BitVec 64 → BitVec 64) : (s.modReadData h).evq = s.evq := rfl
@[simp] theorem State.modReadData_tr (s : State) (h : BitVec 64 → BitVec 64) : (s.modReadData h).tr = s.tr := rfl
@[simp] theorem State.modReadData_mem (s : State) (h : BitVec 64 → BitVec 64) : (s.modReadData h).mem = s.mem := rfl
@[simp] theorem State.modReadData_hl (s : State) (h : BitVec 64 → BitVec 64) : (s.modReadData h).hl = s.hl := rfl
@[simp] theorem State.modReadData_hv (s : State) (h : BitVec 64 → BitVec 64) : (s.modReadData h).hv = s.hv := rfl
@[simp] theorem State.modReadData_out (s : State) (h : BitVec 64 → BitVec 64) : (s.modReadData h).out = s.out := rfl
@[simp] theorem State.modReadData_ar (s : State) (h : BitVec 64 → BitVec 64) : (s.modReadData h).ar = s.ar := rfl
@[simp] theorem State.modReadData_pw (s : State) (h : BitVec 64 → BitVec 64) : (s.modReadData h).pw = s.pw := rfl
@[simp] theorem State.modReadData_mon (s : State) (h : BitVec 64 → BitVec 64) : (s.modReadData h).mon = s.mon := rfl
@[simp] theorem State.modReadData_fw (s : State) (h : BitVec 64 → BitVec 64) : (s.modReadData h).fw = s.fw := rfl
@[simp] theorem State.modReadData_pins (s : State) (h : BitVec 64 → BitVec 64) : (s.modReadData h).pins = s.pins := rfl

/-! Updates of `mr`. -/

@[simp] theorem State.setMr_mr (s : State) (v : Marrad) : (s.setMr v).mr = v := rfl
@[simp] theorem State.setMr_clk (s : State) (v : Marrad) : (s.setMr v).clk = s.clk := rfl
@[simp] theorem State.setMr_pending (s : State) (v : Marrad) : (s.setMr v).pending = s.pending := rfl
@[simp] theorem State.setMr_freeCtr (s : State) (v : Marrad) : (s.setMr v).freeCtr = s.freeCtr := rfl
@[simp] theorem State.setMr_readData (s : State) (v : Marrad) : (s.setMr v).readData = s.readData := rfl
@[simp] theorem State.setMr_log (s : State) (v : Marrad) : (s.setMr v).log = s.log := rfl
@[simp] theorem State.setMr_fe (s : State) (v : Marrad) : (s.setMr v).fe = s.fe := rfl
@[simp] theorem State.setMr_tw (s : State) (v : Marrad) : (s.setMr v).tw = s.tw := rfl
@[simp] theorem State.setMr_cal (s : State) (v : Marrad) : (s.setMr v).cal = s.cal := rfl
@[simp] theorem State.setMr_ck (s : State) (v : Marrad) : (s.setMr v).ck = s.ck := rfl
@[simp] theorem State.setMr_tm (s : State) (v : Marrad) : (s.setMr v).tm = s.tm := rfl
@[simp] theorem State.setMr_ch (s : State) (v : Marrad) : (s.setMr v).ch = s.ch := rfl
@[simp] theorem State.setMr_evq (s : State) (v : Marrad) : (s.setMr v).evq = s.evq := rfl
@[simp] theorem State.setMr_tr (s : State) (v : Marrad) : (s.setMr v).tr = s.tr := rfl
@[simp] theorem State.setMr_mem (s : State) (v : Marrad) : (s.setMr v).mem = s.mem := rfl
@[simp] theorem State.setMr_hl (s : State) (v : Marrad) : (s.setMr v).hl = s.hl := rfl
@[simp] theorem State.setMr_hv (s : State) (v : Marrad) : (s.setMr v).hv = s.hv := rfl
@[simp] theorem State.setMr_out (s : State) (v : Marrad) : (s.setMr v).out = s.out := rfl
@[simp] theorem State.setMr_ar (s : State) (v : Marrad) : (s.setMr v).ar = s.ar := rfl
@[simp] theorem State.setMr_pw (s : State) (v : Marrad) : (s.setMr v).pw = s.pw := rfl
@[simp] theorem State.setMr_mon (s : State) (v : Marrad) : (s.setMr v).mon = s.mon := rfl
@[simp] theorem State.setMr_fw (s : State) (v : Marrad) : (s.setMr v).fw = s.fw := rfl
@[simp] theorem State.setMr_pins (s : State) (v : Marrad) : (s.setMr v).pins = s.pins := rfl
@[simp] theorem State.modMr_mr (s : State) (g : Marrad → Marrad) : (s.modMr g).mr = g s.mr := rfl
@[simp] theorem State.modMr_clk (s : State) (h : Marrad → Marrad) : (s.modMr h).clk = s.clk := rfl
@[simp] theorem State.modMr_pending (s : State) (h : Marrad → Marrad) : (s.modMr h).pending = s.pending := rfl
@[simp] theorem State.modMr_freeCtr (s : State) (h : Marrad → Marrad) : (s.modMr h).freeCtr = s.freeCtr := rfl
@[simp] theorem State.modMr_readData (s : State) (h : Marrad → Marrad) : (s.modMr h).readData = s.readData := rfl
@[simp] theorem State.modMr_log (s : State) (h : Marrad → Marrad) : (s.modMr h).log = s.log := rfl
@[simp] theorem State.modMr_fe (s : State) (h : Marrad → Marrad) : (s.modMr h).fe = s.fe := rfl
@[simp] theorem State.modMr_tw (s : State) (h : Marrad → Marrad) : (s.modMr h).tw = s.tw := rfl
@[simp] theorem State.modMr_cal (s : State) (h : Marrad → Marrad) : (s.modMr h).cal = s.cal := rfl
@[simp] theorem State.modMr_ck (s : State) (h : Marrad → Marrad) : (s.modMr h).ck = s.ck := rfl
@[simp] theorem State.modMr_tm (s : State) (h : Marrad → Marrad) : (s.modMr h).tm = s.tm := rfl
@[simp] theorem State.modMr_ch (s : State) (h : Marrad → Marrad) : (s.modMr h).ch = s.ch := rfl
@[simp] theorem State.modMr_evq (s : State) (h : Marrad → Marrad) : (s.modMr h).evq = s.evq := rfl
@[simp] theorem State.modMr_tr (s : State) (h : Marrad → Marrad) : (s.modMr h).tr = s.tr := rfl
@[simp] theorem State.modMr_mem (s : State) (h : Marrad → Marrad) : (s.modMr h).mem = s.mem := rfl
@[simp] theorem State.modMr_hl (s : State) (h : Marrad → Marrad) : (s.modMr h).hl = s.hl := rfl
@[simp] theorem State.modMr_hv (s : State) (h : Marrad → Marrad) : (s.modMr h).hv = s.hv := rfl
@[simp] theorem State.modMr_out (s : State) (h : Marrad → Marrad) : (s.modMr h).out = s.out := rfl
@[simp] theorem State.modMr_ar (s : State) (h : Marrad → Marrad) : (s.modMr h).ar = s.ar := rfl
@[simp] theorem State.modMr_pw (s : State) (h : Marrad → Marrad) : (s.modMr h).pw = s.pw := rfl
@[simp] theorem State.modMr_mon (s : State) (h : Marrad → Marrad) : (s.modMr h).mon = s.mon := rfl
@[simp] theorem State.modMr_fw (s : State) (h : Marrad → Marrad) : (s.modMr h).fw = s.fw := rfl
@[simp] theorem State.modMr_pins (s : State) (h : Marrad → Marrad) : (s.modMr h).pins = s.pins := rfl

/-! Updates of `log`. -/

@[simp] theorem State.setLog_log (s : State) (v : EvLog) : (s.setLog v).log = v := rfl
@[simp] theorem State.setLog_clk (s : State) (v : EvLog) : (s.setLog v).clk = s.clk := rfl
@[simp] theorem State.setLog_pending (s : State) (v : EvLog) : (s.setLog v).pending = s.pending := rfl
@[simp] theorem State.setLog_freeCtr (s : State) (v : EvLog) : (s.setLog v).freeCtr = s.freeCtr := rfl
@[simp] theorem State.setLog_readData (s : State) (v : EvLog) : (s.setLog v).readData = s.readData := rfl
@[simp] theorem State.setLog_mr (s : State) (v : EvLog) : (s.setLog v).mr = s.mr := rfl
@[simp] theorem State.setLog_fe (s : State) (v : EvLog) : (s.setLog v).fe = s.fe := rfl
@[simp] theorem State.setLog_tw (s : State) (v : EvLog) : (s.setLog v).tw = s.tw := rfl
@[simp] theorem State.setLog_cal (s : State) (v : EvLog) : (s.setLog v).cal = s.cal := rfl
@[simp] theorem State.setLog_ck (s : State) (v : EvLog) : (s.setLog v).ck = s.ck := rfl
@[simp] theorem State.setLog_tm (s : State) (v : EvLog) : (s.setLog v).tm = s.tm := rfl
@[simp] theorem State.setLog_ch (s : State) (v : EvLog) : (s.setLog v).ch = s.ch := rfl
@[simp] theorem State.setLog_evq (s : State) (v : EvLog) : (s.setLog v).evq = s.evq := rfl
@[simp] theorem State.setLog_tr (s : State) (v : EvLog) : (s.setLog v).tr = s.tr := rfl
@[simp] theorem State.setLog_mem (s : State) (v : EvLog) : (s.setLog v).mem = s.mem := rfl
@[simp] theorem State.setLog_hl (s : State) (v : EvLog) : (s.setLog v).hl = s.hl := rfl
@[simp] theorem State.setLog_hv (s : State) (v : EvLog) : (s.setLog v).hv = s.hv := rfl
@[simp] theorem State.setLog_out (s : State) (v : EvLog) : (s.setLog v).out = s.out := rfl
@[simp] theorem State.setLog_ar (s : State) (v : EvLog) : (s.setLog v).ar = s.ar := rfl
@[simp] theorem State.setLog_pw (s : State) (v : EvLog) : (s.setLog v).pw = s.pw := rfl
@[simp] theorem State.setLog_mon (s : State) (v : EvLog) : (s.setLog v).mon = s.mon := rfl
@[simp] theorem State.setLog_fw (s : State) (v : EvLog) : (s.setLog v).fw = s.fw := rfl
@[simp] theorem State.setLog_pins (s : State) (v : EvLog) : (s.setLog v).pins = s.pins := rfl
@[simp] theorem State.modLog_log (s : State) (g : EvLog → EvLog) : (s.modLog g).log = g s.log := rfl
@[simp] theorem State.modLog_clk (s : State) (h : EvLog → EvLog) : (s.modLog h).clk = s.clk := rfl
@[simp] theorem State.modLog_pending (s : State) (h : EvLog → EvLog) : (s.modLog h).pending = s.pending := rfl
@[simp] theorem State.modLog_freeCtr (s : State) (h : EvLog → EvLog) : (s.modLog h).freeCtr = s.freeCtr := rfl
@[simp] theorem State.modLog_readData (s : State) (h : EvLog → EvLog) : (s.modLog h).readData = s.readData := rfl
@[simp] theorem State.modLog_mr (s : State) (h : EvLog → EvLog) : (s.modLog h).mr = s.mr := rfl
@[simp] theorem State.modLog_fe (s : State) (h : EvLog → EvLog) : (s.modLog h).fe = s.fe := rfl
@[simp] theorem State.modLog_tw (s : State) (h : EvLog → EvLog) : (s.modLog h).tw = s.tw := rfl
@[simp] theorem State.modLog_cal (s : State) (h : EvLog → EvLog) : (s.modLog h).cal = s.cal := rfl
@[simp] theorem State.modLog_ck (s : State) (h : EvLog → EvLog) : (s.modLog h).ck = s.ck := rfl
@[simp] theorem State.modLog_tm (s : State) (h : EvLog → EvLog) : (s.modLog h).tm = s.tm := rfl
@[simp] theorem State.modLog_ch (s : State) (h : EvLog → EvLog) : (s.modLog h).ch = s.ch := rfl
@[simp] theorem State.modLog_evq (s : State) (h : EvLog → EvLog) : (s.modLog h).evq = s.evq := rfl
@[simp] theorem State.modLog_tr (s : State) (h : EvLog → EvLog) : (s.modLog h).tr = s.tr := rfl
@[simp] theorem State.modLog_mem (s : State) (h : EvLog → EvLog) : (s.modLog h).mem = s.mem := rfl
@[simp] theorem State.modLog_hl (s : State) (h : EvLog → EvLog) : (s.modLog h).hl = s.hl := rfl
@[simp] theorem State.modLog_hv (s : State) (h : EvLog → EvLog) : (s.modLog h).hv = s.hv := rfl
@[simp] theorem State.modLog_out (s : State) (h : EvLog → EvLog) : (s.modLog h).out = s.out := rfl
@[simp] theorem State.modLog_ar (s : State) (h : EvLog → EvLog) : (s.modLog h).ar = s.ar := rfl
@[simp] theorem State.modLog_pw (s : State) (h : EvLog → EvLog) : (s.modLog h).pw = s.pw := rfl
@[simp] theorem State.modLog_mon (s : State) (h : EvLog → EvLog) : (s.modLog h).mon = s.mon := rfl
@[simp] theorem State.modLog_fw (s : State) (h : EvLog → EvLog) : (s.modLog h).fw = s.fw := rfl
@[simp] theorem State.modLog_pins (s : State) (h : EvLog → EvLog) : (s.modLog h).pins = s.pins := rfl

/-! Updates of `fe`. -/

@[simp] theorem State.setFe_fe (s : State) (v : Vector FrontEnd 4) : (s.setFe v).fe = v := rfl
@[simp] theorem State.setFe_clk (s : State) (v : Vector FrontEnd 4) : (s.setFe v).clk = s.clk := rfl
@[simp] theorem State.setFe_pending (s : State) (v : Vector FrontEnd 4) : (s.setFe v).pending = s.pending := rfl
@[simp] theorem State.setFe_freeCtr (s : State) (v : Vector FrontEnd 4) : (s.setFe v).freeCtr = s.freeCtr := rfl
@[simp] theorem State.setFe_readData (s : State) (v : Vector FrontEnd 4) : (s.setFe v).readData = s.readData := rfl
@[simp] theorem State.setFe_mr (s : State) (v : Vector FrontEnd 4) : (s.setFe v).mr = s.mr := rfl
@[simp] theorem State.setFe_log (s : State) (v : Vector FrontEnd 4) : (s.setFe v).log = s.log := rfl
@[simp] theorem State.setFe_tw (s : State) (v : Vector FrontEnd 4) : (s.setFe v).tw = s.tw := rfl
@[simp] theorem State.setFe_cal (s : State) (v : Vector FrontEnd 4) : (s.setFe v).cal = s.cal := rfl
@[simp] theorem State.setFe_ck (s : State) (v : Vector FrontEnd 4) : (s.setFe v).ck = s.ck := rfl
@[simp] theorem State.setFe_tm (s : State) (v : Vector FrontEnd 4) : (s.setFe v).tm = s.tm := rfl
@[simp] theorem State.setFe_ch (s : State) (v : Vector FrontEnd 4) : (s.setFe v).ch = s.ch := rfl
@[simp] theorem State.setFe_evq (s : State) (v : Vector FrontEnd 4) : (s.setFe v).evq = s.evq := rfl
@[simp] theorem State.setFe_tr (s : State) (v : Vector FrontEnd 4) : (s.setFe v).tr = s.tr := rfl
@[simp] theorem State.setFe_mem (s : State) (v : Vector FrontEnd 4) : (s.setFe v).mem = s.mem := rfl
@[simp] theorem State.setFe_hl (s : State) (v : Vector FrontEnd 4) : (s.setFe v).hl = s.hl := rfl
@[simp] theorem State.setFe_hv (s : State) (v : Vector FrontEnd 4) : (s.setFe v).hv = s.hv := rfl
@[simp] theorem State.setFe_out (s : State) (v : Vector FrontEnd 4) : (s.setFe v).out = s.out := rfl
@[simp] theorem State.setFe_ar (s : State) (v : Vector FrontEnd 4) : (s.setFe v).ar = s.ar := rfl
@[simp] theorem State.setFe_pw (s : State) (v : Vector FrontEnd 4) : (s.setFe v).pw = s.pw := rfl
@[simp] theorem State.setFe_mon (s : State) (v : Vector FrontEnd 4) : (s.setFe v).mon = s.mon := rfl
@[simp] theorem State.setFe_fw (s : State) (v : Vector FrontEnd 4) : (s.setFe v).fw = s.fw := rfl
@[simp] theorem State.setFe_pins (s : State) (v : Vector FrontEnd 4) : (s.setFe v).pins = s.pins := rfl
@[simp] theorem State.modFe_fe (s : State) (i : Fin 4) (g : FrontEnd → FrontEnd) : (s.modFe i g).fe = s.fe.set i.val (g s.fe[i]) := rfl
@[simp] theorem State.modFe_clk (s : State) (i : Fin 4) (h : FrontEnd → FrontEnd) : (s.modFe i h).clk = s.clk := rfl
@[simp] theorem State.modFe_pending (s : State) (i : Fin 4) (h : FrontEnd → FrontEnd) : (s.modFe i h).pending = s.pending := rfl
@[simp] theorem State.modFe_freeCtr (s : State) (i : Fin 4) (h : FrontEnd → FrontEnd) : (s.modFe i h).freeCtr = s.freeCtr := rfl
@[simp] theorem State.modFe_readData (s : State) (i : Fin 4) (h : FrontEnd → FrontEnd) : (s.modFe i h).readData = s.readData := rfl
@[simp] theorem State.modFe_mr (s : State) (i : Fin 4) (h : FrontEnd → FrontEnd) : (s.modFe i h).mr = s.mr := rfl
@[simp] theorem State.modFe_log (s : State) (i : Fin 4) (h : FrontEnd → FrontEnd) : (s.modFe i h).log = s.log := rfl
@[simp] theorem State.modFe_tw (s : State) (i : Fin 4) (h : FrontEnd → FrontEnd) : (s.modFe i h).tw = s.tw := rfl
@[simp] theorem State.modFe_cal (s : State) (i : Fin 4) (h : FrontEnd → FrontEnd) : (s.modFe i h).cal = s.cal := rfl
@[simp] theorem State.modFe_ck (s : State) (i : Fin 4) (h : FrontEnd → FrontEnd) : (s.modFe i h).ck = s.ck := rfl
@[simp] theorem State.modFe_tm (s : State) (i : Fin 4) (h : FrontEnd → FrontEnd) : (s.modFe i h).tm = s.tm := rfl
@[simp] theorem State.modFe_ch (s : State) (i : Fin 4) (h : FrontEnd → FrontEnd) : (s.modFe i h).ch = s.ch := rfl
@[simp] theorem State.modFe_evq (s : State) (i : Fin 4) (h : FrontEnd → FrontEnd) : (s.modFe i h).evq = s.evq := rfl
@[simp] theorem State.modFe_tr (s : State) (i : Fin 4) (h : FrontEnd → FrontEnd) : (s.modFe i h).tr = s.tr := rfl
@[simp] theorem State.modFe_mem (s : State) (i : Fin 4) (h : FrontEnd → FrontEnd) : (s.modFe i h).mem = s.mem := rfl
@[simp] theorem State.modFe_hl (s : State) (i : Fin 4) (h : FrontEnd → FrontEnd) : (s.modFe i h).hl = s.hl := rfl
@[simp] theorem State.modFe_hv (s : State) (i : Fin 4) (h : FrontEnd → FrontEnd) : (s.modFe i h).hv = s.hv := rfl
@[simp] theorem State.modFe_out (s : State) (i : Fin 4) (h : FrontEnd → FrontEnd) : (s.modFe i h).out = s.out := rfl
@[simp] theorem State.modFe_ar (s : State) (i : Fin 4) (h : FrontEnd → FrontEnd) : (s.modFe i h).ar = s.ar := rfl
@[simp] theorem State.modFe_pw (s : State) (i : Fin 4) (h : FrontEnd → FrontEnd) : (s.modFe i h).pw = s.pw := rfl
@[simp] theorem State.modFe_mon (s : State) (i : Fin 4) (h : FrontEnd → FrontEnd) : (s.modFe i h).mon = s.mon := rfl
@[simp] theorem State.modFe_fw (s : State) (i : Fin 4) (h : FrontEnd → FrontEnd) : (s.modFe i h).fw = s.fw := rfl
@[simp] theorem State.modFe_pins (s : State) (i : Fin 4) (h : FrontEnd → FrontEnd) : (s.modFe i h).pins = s.pins := rfl

/-! Updates of `tw`. -/

@[simp] theorem State.setTw_tw (s : State) (v : Vector Tower 4) : (s.setTw v).tw = v := rfl
@[simp] theorem State.setTw_clk (s : State) (v : Vector Tower 4) : (s.setTw v).clk = s.clk := rfl
@[simp] theorem State.setTw_pending (s : State) (v : Vector Tower 4) : (s.setTw v).pending = s.pending := rfl
@[simp] theorem State.setTw_freeCtr (s : State) (v : Vector Tower 4) : (s.setTw v).freeCtr = s.freeCtr := rfl
@[simp] theorem State.setTw_readData (s : State) (v : Vector Tower 4) : (s.setTw v).readData = s.readData := rfl
@[simp] theorem State.setTw_mr (s : State) (v : Vector Tower 4) : (s.setTw v).mr = s.mr := rfl
@[simp] theorem State.setTw_log (s : State) (v : Vector Tower 4) : (s.setTw v).log = s.log := rfl
@[simp] theorem State.setTw_fe (s : State) (v : Vector Tower 4) : (s.setTw v).fe = s.fe := rfl
@[simp] theorem State.setTw_cal (s : State) (v : Vector Tower 4) : (s.setTw v).cal = s.cal := rfl
@[simp] theorem State.setTw_ck (s : State) (v : Vector Tower 4) : (s.setTw v).ck = s.ck := rfl
@[simp] theorem State.setTw_tm (s : State) (v : Vector Tower 4) : (s.setTw v).tm = s.tm := rfl
@[simp] theorem State.setTw_ch (s : State) (v : Vector Tower 4) : (s.setTw v).ch = s.ch := rfl
@[simp] theorem State.setTw_evq (s : State) (v : Vector Tower 4) : (s.setTw v).evq = s.evq := rfl
@[simp] theorem State.setTw_tr (s : State) (v : Vector Tower 4) : (s.setTw v).tr = s.tr := rfl
@[simp] theorem State.setTw_mem (s : State) (v : Vector Tower 4) : (s.setTw v).mem = s.mem := rfl
@[simp] theorem State.setTw_hl (s : State) (v : Vector Tower 4) : (s.setTw v).hl = s.hl := rfl
@[simp] theorem State.setTw_hv (s : State) (v : Vector Tower 4) : (s.setTw v).hv = s.hv := rfl
@[simp] theorem State.setTw_out (s : State) (v : Vector Tower 4) : (s.setTw v).out = s.out := rfl
@[simp] theorem State.setTw_ar (s : State) (v : Vector Tower 4) : (s.setTw v).ar = s.ar := rfl
@[simp] theorem State.setTw_pw (s : State) (v : Vector Tower 4) : (s.setTw v).pw = s.pw := rfl
@[simp] theorem State.setTw_mon (s : State) (v : Vector Tower 4) : (s.setTw v).mon = s.mon := rfl
@[simp] theorem State.setTw_fw (s : State) (v : Vector Tower 4) : (s.setTw v).fw = s.fw := rfl
@[simp] theorem State.setTw_pins (s : State) (v : Vector Tower 4) : (s.setTw v).pins = s.pins := rfl
@[simp] theorem State.modTw_tw (s : State) (i : Fin 4) (g : Tower → Tower) : (s.modTw i g).tw = s.tw.set i.val (g s.tw[i]) := rfl
@[simp] theorem State.modTw_clk (s : State) (i : Fin 4) (h : Tower → Tower) : (s.modTw i h).clk = s.clk := rfl
@[simp] theorem State.modTw_pending (s : State) (i : Fin 4) (h : Tower → Tower) : (s.modTw i h).pending = s.pending := rfl
@[simp] theorem State.modTw_freeCtr (s : State) (i : Fin 4) (h : Tower → Tower) : (s.modTw i h).freeCtr = s.freeCtr := rfl
@[simp] theorem State.modTw_readData (s : State) (i : Fin 4) (h : Tower → Tower) : (s.modTw i h).readData = s.readData := rfl
@[simp] theorem State.modTw_mr (s : State) (i : Fin 4) (h : Tower → Tower) : (s.modTw i h).mr = s.mr := rfl
@[simp] theorem State.modTw_log (s : State) (i : Fin 4) (h : Tower → Tower) : (s.modTw i h).log = s.log := rfl
@[simp] theorem State.modTw_fe (s : State) (i : Fin 4) (h : Tower → Tower) : (s.modTw i h).fe = s.fe := rfl
@[simp] theorem State.modTw_cal (s : State) (i : Fin 4) (h : Tower → Tower) : (s.modTw i h).cal = s.cal := rfl
@[simp] theorem State.modTw_ck (s : State) (i : Fin 4) (h : Tower → Tower) : (s.modTw i h).ck = s.ck := rfl
@[simp] theorem State.modTw_tm (s : State) (i : Fin 4) (h : Tower → Tower) : (s.modTw i h).tm = s.tm := rfl
@[simp] theorem State.modTw_ch (s : State) (i : Fin 4) (h : Tower → Tower) : (s.modTw i h).ch = s.ch := rfl
@[simp] theorem State.modTw_evq (s : State) (i : Fin 4) (h : Tower → Tower) : (s.modTw i h).evq = s.evq := rfl
@[simp] theorem State.modTw_tr (s : State) (i : Fin 4) (h : Tower → Tower) : (s.modTw i h).tr = s.tr := rfl
@[simp] theorem State.modTw_mem (s : State) (i : Fin 4) (h : Tower → Tower) : (s.modTw i h).mem = s.mem := rfl
@[simp] theorem State.modTw_hl (s : State) (i : Fin 4) (h : Tower → Tower) : (s.modTw i h).hl = s.hl := rfl
@[simp] theorem State.modTw_hv (s : State) (i : Fin 4) (h : Tower → Tower) : (s.modTw i h).hv = s.hv := rfl
@[simp] theorem State.modTw_out (s : State) (i : Fin 4) (h : Tower → Tower) : (s.modTw i h).out = s.out := rfl
@[simp] theorem State.modTw_ar (s : State) (i : Fin 4) (h : Tower → Tower) : (s.modTw i h).ar = s.ar := rfl
@[simp] theorem State.modTw_pw (s : State) (i : Fin 4) (h : Tower → Tower) : (s.modTw i h).pw = s.pw := rfl
@[simp] theorem State.modTw_mon (s : State) (i : Fin 4) (h : Tower → Tower) : (s.modTw i h).mon = s.mon := rfl
@[simp] theorem State.modTw_fw (s : State) (i : Fin 4) (h : Tower → Tower) : (s.modTw i h).fw = s.fw := rfl
@[simp] theorem State.modTw_pins (s : State) (i : Fin 4) (h : Tower → Tower) : (s.modTw i h).pins = s.pins := rfl

/-! Updates of `cal`. -/

@[simp] theorem State.setCal_cal (s : State) (v : Cal) : (s.setCal v).cal = v := rfl
@[simp] theorem State.setCal_clk (s : State) (v : Cal) : (s.setCal v).clk = s.clk := rfl
@[simp] theorem State.setCal_pending (s : State) (v : Cal) : (s.setCal v).pending = s.pending := rfl
@[simp] theorem State.setCal_freeCtr (s : State) (v : Cal) : (s.setCal v).freeCtr = s.freeCtr := rfl
@[simp] theorem State.setCal_readData (s : State) (v : Cal) : (s.setCal v).readData = s.readData := rfl
@[simp] theorem State.setCal_mr (s : State) (v : Cal) : (s.setCal v).mr = s.mr := rfl
@[simp] theorem State.setCal_log (s : State) (v : Cal) : (s.setCal v).log = s.log := rfl
@[simp] theorem State.setCal_fe (s : State) (v : Cal) : (s.setCal v).fe = s.fe := rfl
@[simp] theorem State.setCal_tw (s : State) (v : Cal) : (s.setCal v).tw = s.tw := rfl
@[simp] theorem State.setCal_ck (s : State) (v : Cal) : (s.setCal v).ck = s.ck := rfl
@[simp] theorem State.setCal_tm (s : State) (v : Cal) : (s.setCal v).tm = s.tm := rfl
@[simp] theorem State.setCal_ch (s : State) (v : Cal) : (s.setCal v).ch = s.ch := rfl
@[simp] theorem State.setCal_evq (s : State) (v : Cal) : (s.setCal v).evq = s.evq := rfl
@[simp] theorem State.setCal_tr (s : State) (v : Cal) : (s.setCal v).tr = s.tr := rfl
@[simp] theorem State.setCal_mem (s : State) (v : Cal) : (s.setCal v).mem = s.mem := rfl
@[simp] theorem State.setCal_hl (s : State) (v : Cal) : (s.setCal v).hl = s.hl := rfl
@[simp] theorem State.setCal_hv (s : State) (v : Cal) : (s.setCal v).hv = s.hv := rfl
@[simp] theorem State.setCal_out (s : State) (v : Cal) : (s.setCal v).out = s.out := rfl
@[simp] theorem State.setCal_ar (s : State) (v : Cal) : (s.setCal v).ar = s.ar := rfl
@[simp] theorem State.setCal_pw (s : State) (v : Cal) : (s.setCal v).pw = s.pw := rfl
@[simp] theorem State.setCal_mon (s : State) (v : Cal) : (s.setCal v).mon = s.mon := rfl
@[simp] theorem State.setCal_fw (s : State) (v : Cal) : (s.setCal v).fw = s.fw := rfl
@[simp] theorem State.setCal_pins (s : State) (v : Cal) : (s.setCal v).pins = s.pins := rfl
@[simp] theorem State.modCal_cal (s : State) (g : Cal → Cal) : (s.modCal g).cal = g s.cal := rfl
@[simp] theorem State.modCal_clk (s : State) (h : Cal → Cal) : (s.modCal h).clk = s.clk := rfl
@[simp] theorem State.modCal_pending (s : State) (h : Cal → Cal) : (s.modCal h).pending = s.pending := rfl
@[simp] theorem State.modCal_freeCtr (s : State) (h : Cal → Cal) : (s.modCal h).freeCtr = s.freeCtr := rfl
@[simp] theorem State.modCal_readData (s : State) (h : Cal → Cal) : (s.modCal h).readData = s.readData := rfl
@[simp] theorem State.modCal_mr (s : State) (h : Cal → Cal) : (s.modCal h).mr = s.mr := rfl
@[simp] theorem State.modCal_log (s : State) (h : Cal → Cal) : (s.modCal h).log = s.log := rfl
@[simp] theorem State.modCal_fe (s : State) (h : Cal → Cal) : (s.modCal h).fe = s.fe := rfl
@[simp] theorem State.modCal_tw (s : State) (h : Cal → Cal) : (s.modCal h).tw = s.tw := rfl
@[simp] theorem State.modCal_ck (s : State) (h : Cal → Cal) : (s.modCal h).ck = s.ck := rfl
@[simp] theorem State.modCal_tm (s : State) (h : Cal → Cal) : (s.modCal h).tm = s.tm := rfl
@[simp] theorem State.modCal_ch (s : State) (h : Cal → Cal) : (s.modCal h).ch = s.ch := rfl
@[simp] theorem State.modCal_evq (s : State) (h : Cal → Cal) : (s.modCal h).evq = s.evq := rfl
@[simp] theorem State.modCal_tr (s : State) (h : Cal → Cal) : (s.modCal h).tr = s.tr := rfl
@[simp] theorem State.modCal_mem (s : State) (h : Cal → Cal) : (s.modCal h).mem = s.mem := rfl
@[simp] theorem State.modCal_hl (s : State) (h : Cal → Cal) : (s.modCal h).hl = s.hl := rfl
@[simp] theorem State.modCal_hv (s : State) (h : Cal → Cal) : (s.modCal h).hv = s.hv := rfl
@[simp] theorem State.modCal_out (s : State) (h : Cal → Cal) : (s.modCal h).out = s.out := rfl
@[simp] theorem State.modCal_ar (s : State) (h : Cal → Cal) : (s.modCal h).ar = s.ar := rfl
@[simp] theorem State.modCal_pw (s : State) (h : Cal → Cal) : (s.modCal h).pw = s.pw := rfl
@[simp] theorem State.modCal_mon (s : State) (h : Cal → Cal) : (s.modCal h).mon = s.mon := rfl
@[simp] theorem State.modCal_fw (s : State) (h : Cal → Cal) : (s.modCal h).fw = s.fw := rfl
@[simp] theorem State.modCal_pins (s : State) (h : Cal → Cal) : (s.modCal h).pins = s.pins := rfl

/-! Updates of `ck`. -/

@[simp] theorem State.setCk_ck (s : State) (v : Clock) : (s.setCk v).ck = v := rfl
@[simp] theorem State.setCk_clk (s : State) (v : Clock) : (s.setCk v).clk = s.clk := rfl
@[simp] theorem State.setCk_pending (s : State) (v : Clock) : (s.setCk v).pending = s.pending := rfl
@[simp] theorem State.setCk_freeCtr (s : State) (v : Clock) : (s.setCk v).freeCtr = s.freeCtr := rfl
@[simp] theorem State.setCk_readData (s : State) (v : Clock) : (s.setCk v).readData = s.readData := rfl
@[simp] theorem State.setCk_mr (s : State) (v : Clock) : (s.setCk v).mr = s.mr := rfl
@[simp] theorem State.setCk_log (s : State) (v : Clock) : (s.setCk v).log = s.log := rfl
@[simp] theorem State.setCk_fe (s : State) (v : Clock) : (s.setCk v).fe = s.fe := rfl
@[simp] theorem State.setCk_tw (s : State) (v : Clock) : (s.setCk v).tw = s.tw := rfl
@[simp] theorem State.setCk_cal (s : State) (v : Clock) : (s.setCk v).cal = s.cal := rfl
@[simp] theorem State.setCk_tm (s : State) (v : Clock) : (s.setCk v).tm = s.tm := rfl
@[simp] theorem State.setCk_ch (s : State) (v : Clock) : (s.setCk v).ch = s.ch := rfl
@[simp] theorem State.setCk_evq (s : State) (v : Clock) : (s.setCk v).evq = s.evq := rfl
@[simp] theorem State.setCk_tr (s : State) (v : Clock) : (s.setCk v).tr = s.tr := rfl
@[simp] theorem State.setCk_mem (s : State) (v : Clock) : (s.setCk v).mem = s.mem := rfl
@[simp] theorem State.setCk_hl (s : State) (v : Clock) : (s.setCk v).hl = s.hl := rfl
@[simp] theorem State.setCk_hv (s : State) (v : Clock) : (s.setCk v).hv = s.hv := rfl
@[simp] theorem State.setCk_out (s : State) (v : Clock) : (s.setCk v).out = s.out := rfl
@[simp] theorem State.setCk_ar (s : State) (v : Clock) : (s.setCk v).ar = s.ar := rfl
@[simp] theorem State.setCk_pw (s : State) (v : Clock) : (s.setCk v).pw = s.pw := rfl
@[simp] theorem State.setCk_mon (s : State) (v : Clock) : (s.setCk v).mon = s.mon := rfl
@[simp] theorem State.setCk_fw (s : State) (v : Clock) : (s.setCk v).fw = s.fw := rfl
@[simp] theorem State.setCk_pins (s : State) (v : Clock) : (s.setCk v).pins = s.pins := rfl
@[simp] theorem State.modCk_ck (s : State) (g : Clock → Clock) : (s.modCk g).ck = g s.ck := rfl
@[simp] theorem State.modCk_clk (s : State) (h : Clock → Clock) : (s.modCk h).clk = s.clk := rfl
@[simp] theorem State.modCk_pending (s : State) (h : Clock → Clock) : (s.modCk h).pending = s.pending := rfl
@[simp] theorem State.modCk_freeCtr (s : State) (h : Clock → Clock) : (s.modCk h).freeCtr = s.freeCtr := rfl
@[simp] theorem State.modCk_readData (s : State) (h : Clock → Clock) : (s.modCk h).readData = s.readData := rfl
@[simp] theorem State.modCk_mr (s : State) (h : Clock → Clock) : (s.modCk h).mr = s.mr := rfl
@[simp] theorem State.modCk_log (s : State) (h : Clock → Clock) : (s.modCk h).log = s.log := rfl
@[simp] theorem State.modCk_fe (s : State) (h : Clock → Clock) : (s.modCk h).fe = s.fe := rfl
@[simp] theorem State.modCk_tw (s : State) (h : Clock → Clock) : (s.modCk h).tw = s.tw := rfl
@[simp] theorem State.modCk_cal (s : State) (h : Clock → Clock) : (s.modCk h).cal = s.cal := rfl
@[simp] theorem State.modCk_tm (s : State) (h : Clock → Clock) : (s.modCk h).tm = s.tm := rfl
@[simp] theorem State.modCk_ch (s : State) (h : Clock → Clock) : (s.modCk h).ch = s.ch := rfl
@[simp] theorem State.modCk_evq (s : State) (h : Clock → Clock) : (s.modCk h).evq = s.evq := rfl
@[simp] theorem State.modCk_tr (s : State) (h : Clock → Clock) : (s.modCk h).tr = s.tr := rfl
@[simp] theorem State.modCk_mem (s : State) (h : Clock → Clock) : (s.modCk h).mem = s.mem := rfl
@[simp] theorem State.modCk_hl (s : State) (h : Clock → Clock) : (s.modCk h).hl = s.hl := rfl
@[simp] theorem State.modCk_hv (s : State) (h : Clock → Clock) : (s.modCk h).hv = s.hv := rfl
@[simp] theorem State.modCk_out (s : State) (h : Clock → Clock) : (s.modCk h).out = s.out := rfl
@[simp] theorem State.modCk_ar (s : State) (h : Clock → Clock) : (s.modCk h).ar = s.ar := rfl
@[simp] theorem State.modCk_pw (s : State) (h : Clock → Clock) : (s.modCk h).pw = s.pw := rfl
@[simp] theorem State.modCk_mon (s : State) (h : Clock → Clock) : (s.modCk h).mon = s.mon := rfl
@[simp] theorem State.modCk_fw (s : State) (h : Clock → Clock) : (s.modCk h).fw = s.fw := rfl
@[simp] theorem State.modCk_pins (s : State) (h : Clock → Clock) : (s.modCk h).pins = s.pins := rfl

/-! Updates of `tm`. -/

@[simp] theorem State.setTm_tm (s : State) (v : Time) : (s.setTm v).tm = v := rfl
@[simp] theorem State.setTm_clk (s : State) (v : Time) : (s.setTm v).clk = s.clk := rfl
@[simp] theorem State.setTm_pending (s : State) (v : Time) : (s.setTm v).pending = s.pending := rfl
@[simp] theorem State.setTm_freeCtr (s : State) (v : Time) : (s.setTm v).freeCtr = s.freeCtr := rfl
@[simp] theorem State.setTm_readData (s : State) (v : Time) : (s.setTm v).readData = s.readData := rfl
@[simp] theorem State.setTm_mr (s : State) (v : Time) : (s.setTm v).mr = s.mr := rfl
@[simp] theorem State.setTm_log (s : State) (v : Time) : (s.setTm v).log = s.log := rfl
@[simp] theorem State.setTm_fe (s : State) (v : Time) : (s.setTm v).fe = s.fe := rfl
@[simp] theorem State.setTm_tw (s : State) (v : Time) : (s.setTm v).tw = s.tw := rfl
@[simp] theorem State.setTm_cal (s : State) (v : Time) : (s.setTm v).cal = s.cal := rfl
@[simp] theorem State.setTm_ck (s : State) (v : Time) : (s.setTm v).ck = s.ck := rfl
@[simp] theorem State.setTm_ch (s : State) (v : Time) : (s.setTm v).ch = s.ch := rfl
@[simp] theorem State.setTm_evq (s : State) (v : Time) : (s.setTm v).evq = s.evq := rfl
@[simp] theorem State.setTm_tr (s : State) (v : Time) : (s.setTm v).tr = s.tr := rfl
@[simp] theorem State.setTm_mem (s : State) (v : Time) : (s.setTm v).mem = s.mem := rfl
@[simp] theorem State.setTm_hl (s : State) (v : Time) : (s.setTm v).hl = s.hl := rfl
@[simp] theorem State.setTm_hv (s : State) (v : Time) : (s.setTm v).hv = s.hv := rfl
@[simp] theorem State.setTm_out (s : State) (v : Time) : (s.setTm v).out = s.out := rfl
@[simp] theorem State.setTm_ar (s : State) (v : Time) : (s.setTm v).ar = s.ar := rfl
@[simp] theorem State.setTm_pw (s : State) (v : Time) : (s.setTm v).pw = s.pw := rfl
@[simp] theorem State.setTm_mon (s : State) (v : Time) : (s.setTm v).mon = s.mon := rfl
@[simp] theorem State.setTm_fw (s : State) (v : Time) : (s.setTm v).fw = s.fw := rfl
@[simp] theorem State.setTm_pins (s : State) (v : Time) : (s.setTm v).pins = s.pins := rfl
@[simp] theorem State.modTm_tm (s : State) (g : Time → Time) : (s.modTm g).tm = g s.tm := rfl
@[simp] theorem State.modTm_clk (s : State) (h : Time → Time) : (s.modTm h).clk = s.clk := rfl
@[simp] theorem State.modTm_pending (s : State) (h : Time → Time) : (s.modTm h).pending = s.pending := rfl
@[simp] theorem State.modTm_freeCtr (s : State) (h : Time → Time) : (s.modTm h).freeCtr = s.freeCtr := rfl
@[simp] theorem State.modTm_readData (s : State) (h : Time → Time) : (s.modTm h).readData = s.readData := rfl
@[simp] theorem State.modTm_mr (s : State) (h : Time → Time) : (s.modTm h).mr = s.mr := rfl
@[simp] theorem State.modTm_log (s : State) (h : Time → Time) : (s.modTm h).log = s.log := rfl
@[simp] theorem State.modTm_fe (s : State) (h : Time → Time) : (s.modTm h).fe = s.fe := rfl
@[simp] theorem State.modTm_tw (s : State) (h : Time → Time) : (s.modTm h).tw = s.tw := rfl
@[simp] theorem State.modTm_cal (s : State) (h : Time → Time) : (s.modTm h).cal = s.cal := rfl
@[simp] theorem State.modTm_ck (s : State) (h : Time → Time) : (s.modTm h).ck = s.ck := rfl
@[simp] theorem State.modTm_ch (s : State) (h : Time → Time) : (s.modTm h).ch = s.ch := rfl
@[simp] theorem State.modTm_evq (s : State) (h : Time → Time) : (s.modTm h).evq = s.evq := rfl
@[simp] theorem State.modTm_tr (s : State) (h : Time → Time) : (s.modTm h).tr = s.tr := rfl
@[simp] theorem State.modTm_mem (s : State) (h : Time → Time) : (s.modTm h).mem = s.mem := rfl
@[simp] theorem State.modTm_hl (s : State) (h : Time → Time) : (s.modTm h).hl = s.hl := rfl
@[simp] theorem State.modTm_hv (s : State) (h : Time → Time) : (s.modTm h).hv = s.hv := rfl
@[simp] theorem State.modTm_out (s : State) (h : Time → Time) : (s.modTm h).out = s.out := rfl
@[simp] theorem State.modTm_ar (s : State) (h : Time → Time) : (s.modTm h).ar = s.ar := rfl
@[simp] theorem State.modTm_pw (s : State) (h : Time → Time) : (s.modTm h).pw = s.pw := rfl
@[simp] theorem State.modTm_mon (s : State) (h : Time → Time) : (s.modTm h).mon = s.mon := rfl
@[simp] theorem State.modTm_fw (s : State) (h : Time → Time) : (s.modTm h).fw = s.fw := rfl
@[simp] theorem State.modTm_pins (s : State) (h : Time → Time) : (s.modTm h).pins = s.pins := rfl

/-! Updates of `ch`. -/

@[simp] theorem State.setCh_ch (s : State) (v : Vector Chan 4) : (s.setCh v).ch = v := rfl
@[simp] theorem State.setCh_clk (s : State) (v : Vector Chan 4) : (s.setCh v).clk = s.clk := rfl
@[simp] theorem State.setCh_pending (s : State) (v : Vector Chan 4) : (s.setCh v).pending = s.pending := rfl
@[simp] theorem State.setCh_freeCtr (s : State) (v : Vector Chan 4) : (s.setCh v).freeCtr = s.freeCtr := rfl
@[simp] theorem State.setCh_readData (s : State) (v : Vector Chan 4) : (s.setCh v).readData = s.readData := rfl
@[simp] theorem State.setCh_mr (s : State) (v : Vector Chan 4) : (s.setCh v).mr = s.mr := rfl
@[simp] theorem State.setCh_log (s : State) (v : Vector Chan 4) : (s.setCh v).log = s.log := rfl
@[simp] theorem State.setCh_fe (s : State) (v : Vector Chan 4) : (s.setCh v).fe = s.fe := rfl
@[simp] theorem State.setCh_tw (s : State) (v : Vector Chan 4) : (s.setCh v).tw = s.tw := rfl
@[simp] theorem State.setCh_cal (s : State) (v : Vector Chan 4) : (s.setCh v).cal = s.cal := rfl
@[simp] theorem State.setCh_ck (s : State) (v : Vector Chan 4) : (s.setCh v).ck = s.ck := rfl
@[simp] theorem State.setCh_tm (s : State) (v : Vector Chan 4) : (s.setCh v).tm = s.tm := rfl
@[simp] theorem State.setCh_evq (s : State) (v : Vector Chan 4) : (s.setCh v).evq = s.evq := rfl
@[simp] theorem State.setCh_tr (s : State) (v : Vector Chan 4) : (s.setCh v).tr = s.tr := rfl
@[simp] theorem State.setCh_mem (s : State) (v : Vector Chan 4) : (s.setCh v).mem = s.mem := rfl
@[simp] theorem State.setCh_hl (s : State) (v : Vector Chan 4) : (s.setCh v).hl = s.hl := rfl
@[simp] theorem State.setCh_hv (s : State) (v : Vector Chan 4) : (s.setCh v).hv = s.hv := rfl
@[simp] theorem State.setCh_out (s : State) (v : Vector Chan 4) : (s.setCh v).out = s.out := rfl
@[simp] theorem State.setCh_ar (s : State) (v : Vector Chan 4) : (s.setCh v).ar = s.ar := rfl
@[simp] theorem State.setCh_pw (s : State) (v : Vector Chan 4) : (s.setCh v).pw = s.pw := rfl
@[simp] theorem State.setCh_mon (s : State) (v : Vector Chan 4) : (s.setCh v).mon = s.mon := rfl
@[simp] theorem State.setCh_fw (s : State) (v : Vector Chan 4) : (s.setCh v).fw = s.fw := rfl
@[simp] theorem State.setCh_pins (s : State) (v : Vector Chan 4) : (s.setCh v).pins = s.pins := rfl
@[simp] theorem State.modCh_ch (s : State) (i : Fin 4) (g : Chan → Chan) : (s.modCh i g).ch = s.ch.set i.val (g s.ch[i]) := rfl
@[simp] theorem State.modCh_clk (s : State) (i : Fin 4) (h : Chan → Chan) : (s.modCh i h).clk = s.clk := rfl
@[simp] theorem State.modCh_pending (s : State) (i : Fin 4) (h : Chan → Chan) : (s.modCh i h).pending = s.pending := rfl
@[simp] theorem State.modCh_freeCtr (s : State) (i : Fin 4) (h : Chan → Chan) : (s.modCh i h).freeCtr = s.freeCtr := rfl
@[simp] theorem State.modCh_readData (s : State) (i : Fin 4) (h : Chan → Chan) : (s.modCh i h).readData = s.readData := rfl
@[simp] theorem State.modCh_mr (s : State) (i : Fin 4) (h : Chan → Chan) : (s.modCh i h).mr = s.mr := rfl
@[simp] theorem State.modCh_log (s : State) (i : Fin 4) (h : Chan → Chan) : (s.modCh i h).log = s.log := rfl
@[simp] theorem State.modCh_fe (s : State) (i : Fin 4) (h : Chan → Chan) : (s.modCh i h).fe = s.fe := rfl
@[simp] theorem State.modCh_tw (s : State) (i : Fin 4) (h : Chan → Chan) : (s.modCh i h).tw = s.tw := rfl
@[simp] theorem State.modCh_cal (s : State) (i : Fin 4) (h : Chan → Chan) : (s.modCh i h).cal = s.cal := rfl
@[simp] theorem State.modCh_ck (s : State) (i : Fin 4) (h : Chan → Chan) : (s.modCh i h).ck = s.ck := rfl
@[simp] theorem State.modCh_tm (s : State) (i : Fin 4) (h : Chan → Chan) : (s.modCh i h).tm = s.tm := rfl
@[simp] theorem State.modCh_evq (s : State) (i : Fin 4) (h : Chan → Chan) : (s.modCh i h).evq = s.evq := rfl
@[simp] theorem State.modCh_tr (s : State) (i : Fin 4) (h : Chan → Chan) : (s.modCh i h).tr = s.tr := rfl
@[simp] theorem State.modCh_mem (s : State) (i : Fin 4) (h : Chan → Chan) : (s.modCh i h).mem = s.mem := rfl
@[simp] theorem State.modCh_hl (s : State) (i : Fin 4) (h : Chan → Chan) : (s.modCh i h).hl = s.hl := rfl
@[simp] theorem State.modCh_hv (s : State) (i : Fin 4) (h : Chan → Chan) : (s.modCh i h).hv = s.hv := rfl
@[simp] theorem State.modCh_out (s : State) (i : Fin 4) (h : Chan → Chan) : (s.modCh i h).out = s.out := rfl
@[simp] theorem State.modCh_ar (s : State) (i : Fin 4) (h : Chan → Chan) : (s.modCh i h).ar = s.ar := rfl
@[simp] theorem State.modCh_pw (s : State) (i : Fin 4) (h : Chan → Chan) : (s.modCh i h).pw = s.pw := rfl
@[simp] theorem State.modCh_mon (s : State) (i : Fin 4) (h : Chan → Chan) : (s.modCh i h).mon = s.mon := rfl
@[simp] theorem State.modCh_fw (s : State) (i : Fin 4) (h : Chan → Chan) : (s.modCh i h).fw = s.fw := rfl
@[simp] theorem State.modCh_pins (s : State) (i : Fin 4) (h : Chan → Chan) : (s.modCh i h).pins = s.pins := rfl

/-! Updates of `evq`. -/

@[simp] theorem State.setEvq_evq (s : State) (v : List Ev) : (s.setEvq v).evq = v := rfl
@[simp] theorem State.setEvq_clk (s : State) (v : List Ev) : (s.setEvq v).clk = s.clk := rfl
@[simp] theorem State.setEvq_pending (s : State) (v : List Ev) : (s.setEvq v).pending = s.pending := rfl
@[simp] theorem State.setEvq_freeCtr (s : State) (v : List Ev) : (s.setEvq v).freeCtr = s.freeCtr := rfl
@[simp] theorem State.setEvq_readData (s : State) (v : List Ev) : (s.setEvq v).readData = s.readData := rfl
@[simp] theorem State.setEvq_mr (s : State) (v : List Ev) : (s.setEvq v).mr = s.mr := rfl
@[simp] theorem State.setEvq_log (s : State) (v : List Ev) : (s.setEvq v).log = s.log := rfl
@[simp] theorem State.setEvq_fe (s : State) (v : List Ev) : (s.setEvq v).fe = s.fe := rfl
@[simp] theorem State.setEvq_tw (s : State) (v : List Ev) : (s.setEvq v).tw = s.tw := rfl
@[simp] theorem State.setEvq_cal (s : State) (v : List Ev) : (s.setEvq v).cal = s.cal := rfl
@[simp] theorem State.setEvq_ck (s : State) (v : List Ev) : (s.setEvq v).ck = s.ck := rfl
@[simp] theorem State.setEvq_tm (s : State) (v : List Ev) : (s.setEvq v).tm = s.tm := rfl
@[simp] theorem State.setEvq_ch (s : State) (v : List Ev) : (s.setEvq v).ch = s.ch := rfl
@[simp] theorem State.setEvq_tr (s : State) (v : List Ev) : (s.setEvq v).tr = s.tr := rfl
@[simp] theorem State.setEvq_mem (s : State) (v : List Ev) : (s.setEvq v).mem = s.mem := rfl
@[simp] theorem State.setEvq_hl (s : State) (v : List Ev) : (s.setEvq v).hl = s.hl := rfl
@[simp] theorem State.setEvq_hv (s : State) (v : List Ev) : (s.setEvq v).hv = s.hv := rfl
@[simp] theorem State.setEvq_out (s : State) (v : List Ev) : (s.setEvq v).out = s.out := rfl
@[simp] theorem State.setEvq_ar (s : State) (v : List Ev) : (s.setEvq v).ar = s.ar := rfl
@[simp] theorem State.setEvq_pw (s : State) (v : List Ev) : (s.setEvq v).pw = s.pw := rfl
@[simp] theorem State.setEvq_mon (s : State) (v : List Ev) : (s.setEvq v).mon = s.mon := rfl
@[simp] theorem State.setEvq_fw (s : State) (v : List Ev) : (s.setEvq v).fw = s.fw := rfl
@[simp] theorem State.setEvq_pins (s : State) (v : List Ev) : (s.setEvq v).pins = s.pins := rfl
@[simp] theorem State.modEvq_evq (s : State) (g : List Ev → List Ev) : (s.modEvq g).evq = g s.evq := rfl
@[simp] theorem State.modEvq_clk (s : State) (h : List Ev → List Ev) : (s.modEvq h).clk = s.clk := rfl
@[simp] theorem State.modEvq_pending (s : State) (h : List Ev → List Ev) : (s.modEvq h).pending = s.pending := rfl
@[simp] theorem State.modEvq_freeCtr (s : State) (h : List Ev → List Ev) : (s.modEvq h).freeCtr = s.freeCtr := rfl
@[simp] theorem State.modEvq_readData (s : State) (h : List Ev → List Ev) : (s.modEvq h).readData = s.readData := rfl
@[simp] theorem State.modEvq_mr (s : State) (h : List Ev → List Ev) : (s.modEvq h).mr = s.mr := rfl
@[simp] theorem State.modEvq_log (s : State) (h : List Ev → List Ev) : (s.modEvq h).log = s.log := rfl
@[simp] theorem State.modEvq_fe (s : State) (h : List Ev → List Ev) : (s.modEvq h).fe = s.fe := rfl
@[simp] theorem State.modEvq_tw (s : State) (h : List Ev → List Ev) : (s.modEvq h).tw = s.tw := rfl
@[simp] theorem State.modEvq_cal (s : State) (h : List Ev → List Ev) : (s.modEvq h).cal = s.cal := rfl
@[simp] theorem State.modEvq_ck (s : State) (h : List Ev → List Ev) : (s.modEvq h).ck = s.ck := rfl
@[simp] theorem State.modEvq_tm (s : State) (h : List Ev → List Ev) : (s.modEvq h).tm = s.tm := rfl
@[simp] theorem State.modEvq_ch (s : State) (h : List Ev → List Ev) : (s.modEvq h).ch = s.ch := rfl
@[simp] theorem State.modEvq_tr (s : State) (h : List Ev → List Ev) : (s.modEvq h).tr = s.tr := rfl
@[simp] theorem State.modEvq_mem (s : State) (h : List Ev → List Ev) : (s.modEvq h).mem = s.mem := rfl
@[simp] theorem State.modEvq_hl (s : State) (h : List Ev → List Ev) : (s.modEvq h).hl = s.hl := rfl
@[simp] theorem State.modEvq_hv (s : State) (h : List Ev → List Ev) : (s.modEvq h).hv = s.hv := rfl
@[simp] theorem State.modEvq_out (s : State) (h : List Ev → List Ev) : (s.modEvq h).out = s.out := rfl
@[simp] theorem State.modEvq_ar (s : State) (h : List Ev → List Ev) : (s.modEvq h).ar = s.ar := rfl
@[simp] theorem State.modEvq_pw (s : State) (h : List Ev → List Ev) : (s.modEvq h).pw = s.pw := rfl
@[simp] theorem State.modEvq_mon (s : State) (h : List Ev → List Ev) : (s.modEvq h).mon = s.mon := rfl
@[simp] theorem State.modEvq_fw (s : State) (h : List Ev → List Ev) : (s.modEvq h).fw = s.fw := rfl
@[simp] theorem State.modEvq_pins (s : State) (h : List Ev → List Ev) : (s.modEvq h).pins = s.pins := rfl

/-! Updates of `tr`. -/

@[simp] theorem State.setTr_tr (s : State) (v : Trellis) : (s.setTr v).tr = v := rfl
@[simp] theorem State.setTr_clk (s : State) (v : Trellis) : (s.setTr v).clk = s.clk := rfl
@[simp] theorem State.setTr_pending (s : State) (v : Trellis) : (s.setTr v).pending = s.pending := rfl
@[simp] theorem State.setTr_freeCtr (s : State) (v : Trellis) : (s.setTr v).freeCtr = s.freeCtr := rfl
@[simp] theorem State.setTr_readData (s : State) (v : Trellis) : (s.setTr v).readData = s.readData := rfl
@[simp] theorem State.setTr_mr (s : State) (v : Trellis) : (s.setTr v).mr = s.mr := rfl
@[simp] theorem State.setTr_log (s : State) (v : Trellis) : (s.setTr v).log = s.log := rfl
@[simp] theorem State.setTr_fe (s : State) (v : Trellis) : (s.setTr v).fe = s.fe := rfl
@[simp] theorem State.setTr_tw (s : State) (v : Trellis) : (s.setTr v).tw = s.tw := rfl
@[simp] theorem State.setTr_cal (s : State) (v : Trellis) : (s.setTr v).cal = s.cal := rfl
@[simp] theorem State.setTr_ck (s : State) (v : Trellis) : (s.setTr v).ck = s.ck := rfl
@[simp] theorem State.setTr_tm (s : State) (v : Trellis) : (s.setTr v).tm = s.tm := rfl
@[simp] theorem State.setTr_ch (s : State) (v : Trellis) : (s.setTr v).ch = s.ch := rfl
@[simp] theorem State.setTr_evq (s : State) (v : Trellis) : (s.setTr v).evq = s.evq := rfl
@[simp] theorem State.setTr_mem (s : State) (v : Trellis) : (s.setTr v).mem = s.mem := rfl
@[simp] theorem State.setTr_hl (s : State) (v : Trellis) : (s.setTr v).hl = s.hl := rfl
@[simp] theorem State.setTr_hv (s : State) (v : Trellis) : (s.setTr v).hv = s.hv := rfl
@[simp] theorem State.setTr_out (s : State) (v : Trellis) : (s.setTr v).out = s.out := rfl
@[simp] theorem State.setTr_ar (s : State) (v : Trellis) : (s.setTr v).ar = s.ar := rfl
@[simp] theorem State.setTr_pw (s : State) (v : Trellis) : (s.setTr v).pw = s.pw := rfl
@[simp] theorem State.setTr_mon (s : State) (v : Trellis) : (s.setTr v).mon = s.mon := rfl
@[simp] theorem State.setTr_fw (s : State) (v : Trellis) : (s.setTr v).fw = s.fw := rfl
@[simp] theorem State.setTr_pins (s : State) (v : Trellis) : (s.setTr v).pins = s.pins := rfl
@[simp] theorem State.modTr_tr (s : State) (g : Trellis → Trellis) : (s.modTr g).tr = g s.tr := rfl
@[simp] theorem State.modTr_clk (s : State) (h : Trellis → Trellis) : (s.modTr h).clk = s.clk := rfl
@[simp] theorem State.modTr_pending (s : State) (h : Trellis → Trellis) : (s.modTr h).pending = s.pending := rfl
@[simp] theorem State.modTr_freeCtr (s : State) (h : Trellis → Trellis) : (s.modTr h).freeCtr = s.freeCtr := rfl
@[simp] theorem State.modTr_readData (s : State) (h : Trellis → Trellis) : (s.modTr h).readData = s.readData := rfl
@[simp] theorem State.modTr_mr (s : State) (h : Trellis → Trellis) : (s.modTr h).mr = s.mr := rfl
@[simp] theorem State.modTr_log (s : State) (h : Trellis → Trellis) : (s.modTr h).log = s.log := rfl
@[simp] theorem State.modTr_fe (s : State) (h : Trellis → Trellis) : (s.modTr h).fe = s.fe := rfl
@[simp] theorem State.modTr_tw (s : State) (h : Trellis → Trellis) : (s.modTr h).tw = s.tw := rfl
@[simp] theorem State.modTr_cal (s : State) (h : Trellis → Trellis) : (s.modTr h).cal = s.cal := rfl
@[simp] theorem State.modTr_ck (s : State) (h : Trellis → Trellis) : (s.modTr h).ck = s.ck := rfl
@[simp] theorem State.modTr_tm (s : State) (h : Trellis → Trellis) : (s.modTr h).tm = s.tm := rfl
@[simp] theorem State.modTr_ch (s : State) (h : Trellis → Trellis) : (s.modTr h).ch = s.ch := rfl
@[simp] theorem State.modTr_evq (s : State) (h : Trellis → Trellis) : (s.modTr h).evq = s.evq := rfl
@[simp] theorem State.modTr_mem (s : State) (h : Trellis → Trellis) : (s.modTr h).mem = s.mem := rfl
@[simp] theorem State.modTr_hl (s : State) (h : Trellis → Trellis) : (s.modTr h).hl = s.hl := rfl
@[simp] theorem State.modTr_hv (s : State) (h : Trellis → Trellis) : (s.modTr h).hv = s.hv := rfl
@[simp] theorem State.modTr_out (s : State) (h : Trellis → Trellis) : (s.modTr h).out = s.out := rfl
@[simp] theorem State.modTr_ar (s : State) (h : Trellis → Trellis) : (s.modTr h).ar = s.ar := rfl
@[simp] theorem State.modTr_pw (s : State) (h : Trellis → Trellis) : (s.modTr h).pw = s.pw := rfl
@[simp] theorem State.modTr_mon (s : State) (h : Trellis → Trellis) : (s.modTr h).mon = s.mon := rfl
@[simp] theorem State.modTr_fw (s : State) (h : Trellis → Trellis) : (s.modTr h).fw = s.fw := rfl
@[simp] theorem State.modTr_pins (s : State) (h : Trellis → Trellis) : (s.modTr h).pins = s.pins := rfl

/-! Updates of `mem`. -/

@[simp] theorem State.setMem_mem (s : State) (v : MemCtl) : (s.setMem v).mem = v := rfl
@[simp] theorem State.setMem_clk (s : State) (v : MemCtl) : (s.setMem v).clk = s.clk := rfl
@[simp] theorem State.setMem_pending (s : State) (v : MemCtl) : (s.setMem v).pending = s.pending := rfl
@[simp] theorem State.setMem_freeCtr (s : State) (v : MemCtl) : (s.setMem v).freeCtr = s.freeCtr := rfl
@[simp] theorem State.setMem_readData (s : State) (v : MemCtl) : (s.setMem v).readData = s.readData := rfl
@[simp] theorem State.setMem_mr (s : State) (v : MemCtl) : (s.setMem v).mr = s.mr := rfl
@[simp] theorem State.setMem_log (s : State) (v : MemCtl) : (s.setMem v).log = s.log := rfl
@[simp] theorem State.setMem_fe (s : State) (v : MemCtl) : (s.setMem v).fe = s.fe := rfl
@[simp] theorem State.setMem_tw (s : State) (v : MemCtl) : (s.setMem v).tw = s.tw := rfl
@[simp] theorem State.setMem_cal (s : State) (v : MemCtl) : (s.setMem v).cal = s.cal := rfl
@[simp] theorem State.setMem_ck (s : State) (v : MemCtl) : (s.setMem v).ck = s.ck := rfl
@[simp] theorem State.setMem_tm (s : State) (v : MemCtl) : (s.setMem v).tm = s.tm := rfl
@[simp] theorem State.setMem_ch (s : State) (v : MemCtl) : (s.setMem v).ch = s.ch := rfl
@[simp] theorem State.setMem_evq (s : State) (v : MemCtl) : (s.setMem v).evq = s.evq := rfl
@[simp] theorem State.setMem_tr (s : State) (v : MemCtl) : (s.setMem v).tr = s.tr := rfl
@[simp] theorem State.setMem_hl (s : State) (v : MemCtl) : (s.setMem v).hl = s.hl := rfl
@[simp] theorem State.setMem_hv (s : State) (v : MemCtl) : (s.setMem v).hv = s.hv := rfl
@[simp] theorem State.setMem_out (s : State) (v : MemCtl) : (s.setMem v).out = s.out := rfl
@[simp] theorem State.setMem_ar (s : State) (v : MemCtl) : (s.setMem v).ar = s.ar := rfl
@[simp] theorem State.setMem_pw (s : State) (v : MemCtl) : (s.setMem v).pw = s.pw := rfl
@[simp] theorem State.setMem_mon (s : State) (v : MemCtl) : (s.setMem v).mon = s.mon := rfl
@[simp] theorem State.setMem_fw (s : State) (v : MemCtl) : (s.setMem v).fw = s.fw := rfl
@[simp] theorem State.setMem_pins (s : State) (v : MemCtl) : (s.setMem v).pins = s.pins := rfl
@[simp] theorem State.modMem_mem (s : State) (g : MemCtl → MemCtl) : (s.modMem g).mem = g s.mem := rfl
@[simp] theorem State.modMem_clk (s : State) (h : MemCtl → MemCtl) : (s.modMem h).clk = s.clk := rfl
@[simp] theorem State.modMem_pending (s : State) (h : MemCtl → MemCtl) : (s.modMem h).pending = s.pending := rfl
@[simp] theorem State.modMem_freeCtr (s : State) (h : MemCtl → MemCtl) : (s.modMem h).freeCtr = s.freeCtr := rfl
@[simp] theorem State.modMem_readData (s : State) (h : MemCtl → MemCtl) : (s.modMem h).readData = s.readData := rfl
@[simp] theorem State.modMem_mr (s : State) (h : MemCtl → MemCtl) : (s.modMem h).mr = s.mr := rfl
@[simp] theorem State.modMem_log (s : State) (h : MemCtl → MemCtl) : (s.modMem h).log = s.log := rfl
@[simp] theorem State.modMem_fe (s : State) (h : MemCtl → MemCtl) : (s.modMem h).fe = s.fe := rfl
@[simp] theorem State.modMem_tw (s : State) (h : MemCtl → MemCtl) : (s.modMem h).tw = s.tw := rfl
@[simp] theorem State.modMem_cal (s : State) (h : MemCtl → MemCtl) : (s.modMem h).cal = s.cal := rfl
@[simp] theorem State.modMem_ck (s : State) (h : MemCtl → MemCtl) : (s.modMem h).ck = s.ck := rfl
@[simp] theorem State.modMem_tm (s : State) (h : MemCtl → MemCtl) : (s.modMem h).tm = s.tm := rfl
@[simp] theorem State.modMem_ch (s : State) (h : MemCtl → MemCtl) : (s.modMem h).ch = s.ch := rfl
@[simp] theorem State.modMem_evq (s : State) (h : MemCtl → MemCtl) : (s.modMem h).evq = s.evq := rfl
@[simp] theorem State.modMem_tr (s : State) (h : MemCtl → MemCtl) : (s.modMem h).tr = s.tr := rfl
@[simp] theorem State.modMem_hl (s : State) (h : MemCtl → MemCtl) : (s.modMem h).hl = s.hl := rfl
@[simp] theorem State.modMem_hv (s : State) (h : MemCtl → MemCtl) : (s.modMem h).hv = s.hv := rfl
@[simp] theorem State.modMem_out (s : State) (h : MemCtl → MemCtl) : (s.modMem h).out = s.out := rfl
@[simp] theorem State.modMem_ar (s : State) (h : MemCtl → MemCtl) : (s.modMem h).ar = s.ar := rfl
@[simp] theorem State.modMem_pw (s : State) (h : MemCtl → MemCtl) : (s.modMem h).pw = s.pw := rfl
@[simp] theorem State.modMem_mon (s : State) (h : MemCtl → MemCtl) : (s.modMem h).mon = s.mon := rfl
@[simp] theorem State.modMem_fw (s : State) (h : MemCtl → MemCtl) : (s.modMem h).fw = s.fw := rfl
@[simp] theorem State.modMem_pins (s : State) (h : MemCtl → MemCtl) : (s.modMem h).pins = s.pins := rfl

/-! Updates of `hl`. -/

@[simp] theorem State.setHl_hl (s : State) (v : HostLink) : (s.setHl v).hl = v := rfl
@[simp] theorem State.setHl_clk (s : State) (v : HostLink) : (s.setHl v).clk = s.clk := rfl
@[simp] theorem State.setHl_pending (s : State) (v : HostLink) : (s.setHl v).pending = s.pending := rfl
@[simp] theorem State.setHl_freeCtr (s : State) (v : HostLink) : (s.setHl v).freeCtr = s.freeCtr := rfl
@[simp] theorem State.setHl_readData (s : State) (v : HostLink) : (s.setHl v).readData = s.readData := rfl
@[simp] theorem State.setHl_mr (s : State) (v : HostLink) : (s.setHl v).mr = s.mr := rfl
@[simp] theorem State.setHl_log (s : State) (v : HostLink) : (s.setHl v).log = s.log := rfl
@[simp] theorem State.setHl_fe (s : State) (v : HostLink) : (s.setHl v).fe = s.fe := rfl
@[simp] theorem State.setHl_tw (s : State) (v : HostLink) : (s.setHl v).tw = s.tw := rfl
@[simp] theorem State.setHl_cal (s : State) (v : HostLink) : (s.setHl v).cal = s.cal := rfl
@[simp] theorem State.setHl_ck (s : State) (v : HostLink) : (s.setHl v).ck = s.ck := rfl
@[simp] theorem State.setHl_tm (s : State) (v : HostLink) : (s.setHl v).tm = s.tm := rfl
@[simp] theorem State.setHl_ch (s : State) (v : HostLink) : (s.setHl v).ch = s.ch := rfl
@[simp] theorem State.setHl_evq (s : State) (v : HostLink) : (s.setHl v).evq = s.evq := rfl
@[simp] theorem State.setHl_tr (s : State) (v : HostLink) : (s.setHl v).tr = s.tr := rfl
@[simp] theorem State.setHl_mem (s : State) (v : HostLink) : (s.setHl v).mem = s.mem := rfl
@[simp] theorem State.setHl_hv (s : State) (v : HostLink) : (s.setHl v).hv = s.hv := rfl
@[simp] theorem State.setHl_out (s : State) (v : HostLink) : (s.setHl v).out = s.out := rfl
@[simp] theorem State.setHl_ar (s : State) (v : HostLink) : (s.setHl v).ar = s.ar := rfl
@[simp] theorem State.setHl_pw (s : State) (v : HostLink) : (s.setHl v).pw = s.pw := rfl
@[simp] theorem State.setHl_mon (s : State) (v : HostLink) : (s.setHl v).mon = s.mon := rfl
@[simp] theorem State.setHl_fw (s : State) (v : HostLink) : (s.setHl v).fw = s.fw := rfl
@[simp] theorem State.setHl_pins (s : State) (v : HostLink) : (s.setHl v).pins = s.pins := rfl
@[simp] theorem State.modHl_hl (s : State) (g : HostLink → HostLink) : (s.modHl g).hl = g s.hl := rfl
@[simp] theorem State.modHl_clk (s : State) (h : HostLink → HostLink) : (s.modHl h).clk = s.clk := rfl
@[simp] theorem State.modHl_pending (s : State) (h : HostLink → HostLink) : (s.modHl h).pending = s.pending := rfl
@[simp] theorem State.modHl_freeCtr (s : State) (h : HostLink → HostLink) : (s.modHl h).freeCtr = s.freeCtr := rfl
@[simp] theorem State.modHl_readData (s : State) (h : HostLink → HostLink) : (s.modHl h).readData = s.readData := rfl
@[simp] theorem State.modHl_mr (s : State) (h : HostLink → HostLink) : (s.modHl h).mr = s.mr := rfl
@[simp] theorem State.modHl_log (s : State) (h : HostLink → HostLink) : (s.modHl h).log = s.log := rfl
@[simp] theorem State.modHl_fe (s : State) (h : HostLink → HostLink) : (s.modHl h).fe = s.fe := rfl
@[simp] theorem State.modHl_tw (s : State) (h : HostLink → HostLink) : (s.modHl h).tw = s.tw := rfl
@[simp] theorem State.modHl_cal (s : State) (h : HostLink → HostLink) : (s.modHl h).cal = s.cal := rfl
@[simp] theorem State.modHl_ck (s : State) (h : HostLink → HostLink) : (s.modHl h).ck = s.ck := rfl
@[simp] theorem State.modHl_tm (s : State) (h : HostLink → HostLink) : (s.modHl h).tm = s.tm := rfl
@[simp] theorem State.modHl_ch (s : State) (h : HostLink → HostLink) : (s.modHl h).ch = s.ch := rfl
@[simp] theorem State.modHl_evq (s : State) (h : HostLink → HostLink) : (s.modHl h).evq = s.evq := rfl
@[simp] theorem State.modHl_tr (s : State) (h : HostLink → HostLink) : (s.modHl h).tr = s.tr := rfl
@[simp] theorem State.modHl_mem (s : State) (h : HostLink → HostLink) : (s.modHl h).mem = s.mem := rfl
@[simp] theorem State.modHl_hv (s : State) (h : HostLink → HostLink) : (s.modHl h).hv = s.hv := rfl
@[simp] theorem State.modHl_out (s : State) (h : HostLink → HostLink) : (s.modHl h).out = s.out := rfl
@[simp] theorem State.modHl_ar (s : State) (h : HostLink → HostLink) : (s.modHl h).ar = s.ar := rfl
@[simp] theorem State.modHl_pw (s : State) (h : HostLink → HostLink) : (s.modHl h).pw = s.pw := rfl
@[simp] theorem State.modHl_mon (s : State) (h : HostLink → HostLink) : (s.modHl h).mon = s.mon := rfl
@[simp] theorem State.modHl_fw (s : State) (h : HostLink → HostLink) : (s.modHl h).fw = s.fw := rfl
@[simp] theorem State.modHl_pins (s : State) (h : HostLink → HostLink) : (s.modHl h).pins = s.pins := rfl

/-! Updates of `hv`. -/

@[simp] theorem State.setHv_hv (s : State) (v : Harvest) : (s.setHv v).hv = v := rfl
@[simp] theorem State.setHv_clk (s : State) (v : Harvest) : (s.setHv v).clk = s.clk := rfl
@[simp] theorem State.setHv_pending (s : State) (v : Harvest) : (s.setHv v).pending = s.pending := rfl
@[simp] theorem State.setHv_freeCtr (s : State) (v : Harvest) : (s.setHv v).freeCtr = s.freeCtr := rfl
@[simp] theorem State.setHv_readData (s : State) (v : Harvest) : (s.setHv v).readData = s.readData := rfl
@[simp] theorem State.setHv_mr (s : State) (v : Harvest) : (s.setHv v).mr = s.mr := rfl
@[simp] theorem State.setHv_log (s : State) (v : Harvest) : (s.setHv v).log = s.log := rfl
@[simp] theorem State.setHv_fe (s : State) (v : Harvest) : (s.setHv v).fe = s.fe := rfl
@[simp] theorem State.setHv_tw (s : State) (v : Harvest) : (s.setHv v).tw = s.tw := rfl
@[simp] theorem State.setHv_cal (s : State) (v : Harvest) : (s.setHv v).cal = s.cal := rfl
@[simp] theorem State.setHv_ck (s : State) (v : Harvest) : (s.setHv v).ck = s.ck := rfl
@[simp] theorem State.setHv_tm (s : State) (v : Harvest) : (s.setHv v).tm = s.tm := rfl
@[simp] theorem State.setHv_ch (s : State) (v : Harvest) : (s.setHv v).ch = s.ch := rfl
@[simp] theorem State.setHv_evq (s : State) (v : Harvest) : (s.setHv v).evq = s.evq := rfl
@[simp] theorem State.setHv_tr (s : State) (v : Harvest) : (s.setHv v).tr = s.tr := rfl
@[simp] theorem State.setHv_mem (s : State) (v : Harvest) : (s.setHv v).mem = s.mem := rfl
@[simp] theorem State.setHv_hl (s : State) (v : Harvest) : (s.setHv v).hl = s.hl := rfl
@[simp] theorem State.setHv_out (s : State) (v : Harvest) : (s.setHv v).out = s.out := rfl
@[simp] theorem State.setHv_ar (s : State) (v : Harvest) : (s.setHv v).ar = s.ar := rfl
@[simp] theorem State.setHv_pw (s : State) (v : Harvest) : (s.setHv v).pw = s.pw := rfl
@[simp] theorem State.setHv_mon (s : State) (v : Harvest) : (s.setHv v).mon = s.mon := rfl
@[simp] theorem State.setHv_fw (s : State) (v : Harvest) : (s.setHv v).fw = s.fw := rfl
@[simp] theorem State.setHv_pins (s : State) (v : Harvest) : (s.setHv v).pins = s.pins := rfl
@[simp] theorem State.modHv_hv (s : State) (g : Harvest → Harvest) : (s.modHv g).hv = g s.hv := rfl
@[simp] theorem State.modHv_clk (s : State) (h : Harvest → Harvest) : (s.modHv h).clk = s.clk := rfl
@[simp] theorem State.modHv_pending (s : State) (h : Harvest → Harvest) : (s.modHv h).pending = s.pending := rfl
@[simp] theorem State.modHv_freeCtr (s : State) (h : Harvest → Harvest) : (s.modHv h).freeCtr = s.freeCtr := rfl
@[simp] theorem State.modHv_readData (s : State) (h : Harvest → Harvest) : (s.modHv h).readData = s.readData := rfl
@[simp] theorem State.modHv_mr (s : State) (h : Harvest → Harvest) : (s.modHv h).mr = s.mr := rfl
@[simp] theorem State.modHv_log (s : State) (h : Harvest → Harvest) : (s.modHv h).log = s.log := rfl
@[simp] theorem State.modHv_fe (s : State) (h : Harvest → Harvest) : (s.modHv h).fe = s.fe := rfl
@[simp] theorem State.modHv_tw (s : State) (h : Harvest → Harvest) : (s.modHv h).tw = s.tw := rfl
@[simp] theorem State.modHv_cal (s : State) (h : Harvest → Harvest) : (s.modHv h).cal = s.cal := rfl
@[simp] theorem State.modHv_ck (s : State) (h : Harvest → Harvest) : (s.modHv h).ck = s.ck := rfl
@[simp] theorem State.modHv_tm (s : State) (h : Harvest → Harvest) : (s.modHv h).tm = s.tm := rfl
@[simp] theorem State.modHv_ch (s : State) (h : Harvest → Harvest) : (s.modHv h).ch = s.ch := rfl
@[simp] theorem State.modHv_evq (s : State) (h : Harvest → Harvest) : (s.modHv h).evq = s.evq := rfl
@[simp] theorem State.modHv_tr (s : State) (h : Harvest → Harvest) : (s.modHv h).tr = s.tr := rfl
@[simp] theorem State.modHv_mem (s : State) (h : Harvest → Harvest) : (s.modHv h).mem = s.mem := rfl
@[simp] theorem State.modHv_hl (s : State) (h : Harvest → Harvest) : (s.modHv h).hl = s.hl := rfl
@[simp] theorem State.modHv_out (s : State) (h : Harvest → Harvest) : (s.modHv h).out = s.out := rfl
@[simp] theorem State.modHv_ar (s : State) (h : Harvest → Harvest) : (s.modHv h).ar = s.ar := rfl
@[simp] theorem State.modHv_pw (s : State) (h : Harvest → Harvest) : (s.modHv h).pw = s.pw := rfl
@[simp] theorem State.modHv_mon (s : State) (h : Harvest → Harvest) : (s.modHv h).mon = s.mon := rfl
@[simp] theorem State.modHv_fw (s : State) (h : Harvest → Harvest) : (s.modHv h).fw = s.fw := rfl
@[simp] theorem State.modHv_pins (s : State) (h : Harvest → Harvest) : (s.modHv h).pins = s.pins := rfl

/-! Updates of `out`. -/

@[simp] theorem State.setOut_out (s : State) (v : Vector Output 2) : (s.setOut v).out = v := rfl
@[simp] theorem State.setOut_clk (s : State) (v : Vector Output 2) : (s.setOut v).clk = s.clk := rfl
@[simp] theorem State.setOut_pending (s : State) (v : Vector Output 2) : (s.setOut v).pending = s.pending := rfl
@[simp] theorem State.setOut_freeCtr (s : State) (v : Vector Output 2) : (s.setOut v).freeCtr = s.freeCtr := rfl
@[simp] theorem State.setOut_readData (s : State) (v : Vector Output 2) : (s.setOut v).readData = s.readData := rfl
@[simp] theorem State.setOut_mr (s : State) (v : Vector Output 2) : (s.setOut v).mr = s.mr := rfl
@[simp] theorem State.setOut_log (s : State) (v : Vector Output 2) : (s.setOut v).log = s.log := rfl
@[simp] theorem State.setOut_fe (s : State) (v : Vector Output 2) : (s.setOut v).fe = s.fe := rfl
@[simp] theorem State.setOut_tw (s : State) (v : Vector Output 2) : (s.setOut v).tw = s.tw := rfl
@[simp] theorem State.setOut_cal (s : State) (v : Vector Output 2) : (s.setOut v).cal = s.cal := rfl
@[simp] theorem State.setOut_ck (s : State) (v : Vector Output 2) : (s.setOut v).ck = s.ck := rfl
@[simp] theorem State.setOut_tm (s : State) (v : Vector Output 2) : (s.setOut v).tm = s.tm := rfl
@[simp] theorem State.setOut_ch (s : State) (v : Vector Output 2) : (s.setOut v).ch = s.ch := rfl
@[simp] theorem State.setOut_evq (s : State) (v : Vector Output 2) : (s.setOut v).evq = s.evq := rfl
@[simp] theorem State.setOut_tr (s : State) (v : Vector Output 2) : (s.setOut v).tr = s.tr := rfl
@[simp] theorem State.setOut_mem (s : State) (v : Vector Output 2) : (s.setOut v).mem = s.mem := rfl
@[simp] theorem State.setOut_hl (s : State) (v : Vector Output 2) : (s.setOut v).hl = s.hl := rfl
@[simp] theorem State.setOut_hv (s : State) (v : Vector Output 2) : (s.setOut v).hv = s.hv := rfl
@[simp] theorem State.setOut_ar (s : State) (v : Vector Output 2) : (s.setOut v).ar = s.ar := rfl
@[simp] theorem State.setOut_pw (s : State) (v : Vector Output 2) : (s.setOut v).pw = s.pw := rfl
@[simp] theorem State.setOut_mon (s : State) (v : Vector Output 2) : (s.setOut v).mon = s.mon := rfl
@[simp] theorem State.setOut_fw (s : State) (v : Vector Output 2) : (s.setOut v).fw = s.fw := rfl
@[simp] theorem State.setOut_pins (s : State) (v : Vector Output 2) : (s.setOut v).pins = s.pins := rfl
@[simp] theorem State.modOut_out (s : State) (i : Fin 2) (g : Output → Output) : (s.modOut i g).out = s.out.set i.val (g s.out[i]) := rfl
@[simp] theorem State.modOut_clk (s : State) (i : Fin 2) (h : Output → Output) : (s.modOut i h).clk = s.clk := rfl
@[simp] theorem State.modOut_pending (s : State) (i : Fin 2) (h : Output → Output) : (s.modOut i h).pending = s.pending := rfl
@[simp] theorem State.modOut_freeCtr (s : State) (i : Fin 2) (h : Output → Output) : (s.modOut i h).freeCtr = s.freeCtr := rfl
@[simp] theorem State.modOut_readData (s : State) (i : Fin 2) (h : Output → Output) : (s.modOut i h).readData = s.readData := rfl
@[simp] theorem State.modOut_mr (s : State) (i : Fin 2) (h : Output → Output) : (s.modOut i h).mr = s.mr := rfl
@[simp] theorem State.modOut_log (s : State) (i : Fin 2) (h : Output → Output) : (s.modOut i h).log = s.log := rfl
@[simp] theorem State.modOut_fe (s : State) (i : Fin 2) (h : Output → Output) : (s.modOut i h).fe = s.fe := rfl
@[simp] theorem State.modOut_tw (s : State) (i : Fin 2) (h : Output → Output) : (s.modOut i h).tw = s.tw := rfl
@[simp] theorem State.modOut_cal (s : State) (i : Fin 2) (h : Output → Output) : (s.modOut i h).cal = s.cal := rfl
@[simp] theorem State.modOut_ck (s : State) (i : Fin 2) (h : Output → Output) : (s.modOut i h).ck = s.ck := rfl
@[simp] theorem State.modOut_tm (s : State) (i : Fin 2) (h : Output → Output) : (s.modOut i h).tm = s.tm := rfl
@[simp] theorem State.modOut_ch (s : State) (i : Fin 2) (h : Output → Output) : (s.modOut i h).ch = s.ch := rfl
@[simp] theorem State.modOut_evq (s : State) (i : Fin 2) (h : Output → Output) : (s.modOut i h).evq = s.evq := rfl
@[simp] theorem State.modOut_tr (s : State) (i : Fin 2) (h : Output → Output) : (s.modOut i h).tr = s.tr := rfl
@[simp] theorem State.modOut_mem (s : State) (i : Fin 2) (h : Output → Output) : (s.modOut i h).mem = s.mem := rfl
@[simp] theorem State.modOut_hl (s : State) (i : Fin 2) (h : Output → Output) : (s.modOut i h).hl = s.hl := rfl
@[simp] theorem State.modOut_hv (s : State) (i : Fin 2) (h : Output → Output) : (s.modOut i h).hv = s.hv := rfl
@[simp] theorem State.modOut_ar (s : State) (i : Fin 2) (h : Output → Output) : (s.modOut i h).ar = s.ar := rfl
@[simp] theorem State.modOut_pw (s : State) (i : Fin 2) (h : Output → Output) : (s.modOut i h).pw = s.pw := rfl
@[simp] theorem State.modOut_mon (s : State) (i : Fin 2) (h : Output → Output) : (s.modOut i h).mon = s.mon := rfl
@[simp] theorem State.modOut_fw (s : State) (i : Fin 2) (h : Output → Output) : (s.modOut i h).fw = s.fw := rfl
@[simp] theorem State.modOut_pins (s : State) (i : Fin 2) (h : Output → Output) : (s.modOut i h).pins = s.pins := rfl

/-! Updates of `ar`. -/

@[simp] theorem State.setAr_ar (s : State) (v : ArrayLink) : (s.setAr v).ar = v := rfl
@[simp] theorem State.setAr_clk (s : State) (v : ArrayLink) : (s.setAr v).clk = s.clk := rfl
@[simp] theorem State.setAr_pending (s : State) (v : ArrayLink) : (s.setAr v).pending = s.pending := rfl
@[simp] theorem State.setAr_freeCtr (s : State) (v : ArrayLink) : (s.setAr v).freeCtr = s.freeCtr := rfl
@[simp] theorem State.setAr_readData (s : State) (v : ArrayLink) : (s.setAr v).readData = s.readData := rfl
@[simp] theorem State.setAr_mr (s : State) (v : ArrayLink) : (s.setAr v).mr = s.mr := rfl
@[simp] theorem State.setAr_log (s : State) (v : ArrayLink) : (s.setAr v).log = s.log := rfl
@[simp] theorem State.setAr_fe (s : State) (v : ArrayLink) : (s.setAr v).fe = s.fe := rfl
@[simp] theorem State.setAr_tw (s : State) (v : ArrayLink) : (s.setAr v).tw = s.tw := rfl
@[simp] theorem State.setAr_cal (s : State) (v : ArrayLink) : (s.setAr v).cal = s.cal := rfl
@[simp] theorem State.setAr_ck (s : State) (v : ArrayLink) : (s.setAr v).ck = s.ck := rfl
@[simp] theorem State.setAr_tm (s : State) (v : ArrayLink) : (s.setAr v).tm = s.tm := rfl
@[simp] theorem State.setAr_ch (s : State) (v : ArrayLink) : (s.setAr v).ch = s.ch := rfl
@[simp] theorem State.setAr_evq (s : State) (v : ArrayLink) : (s.setAr v).evq = s.evq := rfl
@[simp] theorem State.setAr_tr (s : State) (v : ArrayLink) : (s.setAr v).tr = s.tr := rfl
@[simp] theorem State.setAr_mem (s : State) (v : ArrayLink) : (s.setAr v).mem = s.mem := rfl
@[simp] theorem State.setAr_hl (s : State) (v : ArrayLink) : (s.setAr v).hl = s.hl := rfl
@[simp] theorem State.setAr_hv (s : State) (v : ArrayLink) : (s.setAr v).hv = s.hv := rfl
@[simp] theorem State.setAr_out (s : State) (v : ArrayLink) : (s.setAr v).out = s.out := rfl
@[simp] theorem State.setAr_pw (s : State) (v : ArrayLink) : (s.setAr v).pw = s.pw := rfl
@[simp] theorem State.setAr_mon (s : State) (v : ArrayLink) : (s.setAr v).mon = s.mon := rfl
@[simp] theorem State.setAr_fw (s : State) (v : ArrayLink) : (s.setAr v).fw = s.fw := rfl
@[simp] theorem State.setAr_pins (s : State) (v : ArrayLink) : (s.setAr v).pins = s.pins := rfl
@[simp] theorem State.modAr_ar (s : State) (g : ArrayLink → ArrayLink) : (s.modAr g).ar = g s.ar := rfl
@[simp] theorem State.modAr_clk (s : State) (h : ArrayLink → ArrayLink) : (s.modAr h).clk = s.clk := rfl
@[simp] theorem State.modAr_pending (s : State) (h : ArrayLink → ArrayLink) : (s.modAr h).pending = s.pending := rfl
@[simp] theorem State.modAr_freeCtr (s : State) (h : ArrayLink → ArrayLink) : (s.modAr h).freeCtr = s.freeCtr := rfl
@[simp] theorem State.modAr_readData (s : State) (h : ArrayLink → ArrayLink) : (s.modAr h).readData = s.readData := rfl
@[simp] theorem State.modAr_mr (s : State) (h : ArrayLink → ArrayLink) : (s.modAr h).mr = s.mr := rfl
@[simp] theorem State.modAr_log (s : State) (h : ArrayLink → ArrayLink) : (s.modAr h).log = s.log := rfl
@[simp] theorem State.modAr_fe (s : State) (h : ArrayLink → ArrayLink) : (s.modAr h).fe = s.fe := rfl
@[simp] theorem State.modAr_tw (s : State) (h : ArrayLink → ArrayLink) : (s.modAr h).tw = s.tw := rfl
@[simp] theorem State.modAr_cal (s : State) (h : ArrayLink → ArrayLink) : (s.modAr h).cal = s.cal := rfl
@[simp] theorem State.modAr_ck (s : State) (h : ArrayLink → ArrayLink) : (s.modAr h).ck = s.ck := rfl
@[simp] theorem State.modAr_tm (s : State) (h : ArrayLink → ArrayLink) : (s.modAr h).tm = s.tm := rfl
@[simp] theorem State.modAr_ch (s : State) (h : ArrayLink → ArrayLink) : (s.modAr h).ch = s.ch := rfl
@[simp] theorem State.modAr_evq (s : State) (h : ArrayLink → ArrayLink) : (s.modAr h).evq = s.evq := rfl
@[simp] theorem State.modAr_tr (s : State) (h : ArrayLink → ArrayLink) : (s.modAr h).tr = s.tr := rfl
@[simp] theorem State.modAr_mem (s : State) (h : ArrayLink → ArrayLink) : (s.modAr h).mem = s.mem := rfl
@[simp] theorem State.modAr_hl (s : State) (h : ArrayLink → ArrayLink) : (s.modAr h).hl = s.hl := rfl
@[simp] theorem State.modAr_hv (s : State) (h : ArrayLink → ArrayLink) : (s.modAr h).hv = s.hv := rfl
@[simp] theorem State.modAr_out (s : State) (h : ArrayLink → ArrayLink) : (s.modAr h).out = s.out := rfl
@[simp] theorem State.modAr_pw (s : State) (h : ArrayLink → ArrayLink) : (s.modAr h).pw = s.pw := rfl
@[simp] theorem State.modAr_mon (s : State) (h : ArrayLink → ArrayLink) : (s.modAr h).mon = s.mon := rfl
@[simp] theorem State.modAr_fw (s : State) (h : ArrayLink → ArrayLink) : (s.modAr h).fw = s.fw := rfl
@[simp] theorem State.modAr_pins (s : State) (h : ArrayLink → ArrayLink) : (s.modAr h).pins = s.pins := rfl

/-! Updates of `pw`. -/

@[simp] theorem State.setPw_pw (s : State) (v : Power) : (s.setPw v).pw = v := rfl
@[simp] theorem State.setPw_clk (s : State) (v : Power) : (s.setPw v).clk = s.clk := rfl
@[simp] theorem State.setPw_pending (s : State) (v : Power) : (s.setPw v).pending = s.pending := rfl
@[simp] theorem State.setPw_freeCtr (s : State) (v : Power) : (s.setPw v).freeCtr = s.freeCtr := rfl
@[simp] theorem State.setPw_readData (s : State) (v : Power) : (s.setPw v).readData = s.readData := rfl
@[simp] theorem State.setPw_mr (s : State) (v : Power) : (s.setPw v).mr = s.mr := rfl
@[simp] theorem State.setPw_log (s : State) (v : Power) : (s.setPw v).log = s.log := rfl
@[simp] theorem State.setPw_fe (s : State) (v : Power) : (s.setPw v).fe = s.fe := rfl
@[simp] theorem State.setPw_tw (s : State) (v : Power) : (s.setPw v).tw = s.tw := rfl
@[simp] theorem State.setPw_cal (s : State) (v : Power) : (s.setPw v).cal = s.cal := rfl
@[simp] theorem State.setPw_ck (s : State) (v : Power) : (s.setPw v).ck = s.ck := rfl
@[simp] theorem State.setPw_tm (s : State) (v : Power) : (s.setPw v).tm = s.tm := rfl
@[simp] theorem State.setPw_ch (s : State) (v : Power) : (s.setPw v).ch = s.ch := rfl
@[simp] theorem State.setPw_evq (s : State) (v : Power) : (s.setPw v).evq = s.evq := rfl
@[simp] theorem State.setPw_tr (s : State) (v : Power) : (s.setPw v).tr = s.tr := rfl
@[simp] theorem State.setPw_mem (s : State) (v : Power) : (s.setPw v).mem = s.mem := rfl
@[simp] theorem State.setPw_hl (s : State) (v : Power) : (s.setPw v).hl = s.hl := rfl
@[simp] theorem State.setPw_hv (s : State) (v : Power) : (s.setPw v).hv = s.hv := rfl
@[simp] theorem State.setPw_out (s : State) (v : Power) : (s.setPw v).out = s.out := rfl
@[simp] theorem State.setPw_ar (s : State) (v : Power) : (s.setPw v).ar = s.ar := rfl
@[simp] theorem State.setPw_mon (s : State) (v : Power) : (s.setPw v).mon = s.mon := rfl
@[simp] theorem State.setPw_fw (s : State) (v : Power) : (s.setPw v).fw = s.fw := rfl
@[simp] theorem State.setPw_pins (s : State) (v : Power) : (s.setPw v).pins = s.pins := rfl
@[simp] theorem State.modPw_pw (s : State) (g : Power → Power) : (s.modPw g).pw = g s.pw := rfl
@[simp] theorem State.modPw_clk (s : State) (h : Power → Power) : (s.modPw h).clk = s.clk := rfl
@[simp] theorem State.modPw_pending (s : State) (h : Power → Power) : (s.modPw h).pending = s.pending := rfl
@[simp] theorem State.modPw_freeCtr (s : State) (h : Power → Power) : (s.modPw h).freeCtr = s.freeCtr := rfl
@[simp] theorem State.modPw_readData (s : State) (h : Power → Power) : (s.modPw h).readData = s.readData := rfl
@[simp] theorem State.modPw_mr (s : State) (h : Power → Power) : (s.modPw h).mr = s.mr := rfl
@[simp] theorem State.modPw_log (s : State) (h : Power → Power) : (s.modPw h).log = s.log := rfl
@[simp] theorem State.modPw_fe (s : State) (h : Power → Power) : (s.modPw h).fe = s.fe := rfl
@[simp] theorem State.modPw_tw (s : State) (h : Power → Power) : (s.modPw h).tw = s.tw := rfl
@[simp] theorem State.modPw_cal (s : State) (h : Power → Power) : (s.modPw h).cal = s.cal := rfl
@[simp] theorem State.modPw_ck (s : State) (h : Power → Power) : (s.modPw h).ck = s.ck := rfl
@[simp] theorem State.modPw_tm (s : State) (h : Power → Power) : (s.modPw h).tm = s.tm := rfl
@[simp] theorem State.modPw_ch (s : State) (h : Power → Power) : (s.modPw h).ch = s.ch := rfl
@[simp] theorem State.modPw_evq (s : State) (h : Power → Power) : (s.modPw h).evq = s.evq := rfl
@[simp] theorem State.modPw_tr (s : State) (h : Power → Power) : (s.modPw h).tr = s.tr := rfl
@[simp] theorem State.modPw_mem (s : State) (h : Power → Power) : (s.modPw h).mem = s.mem := rfl
@[simp] theorem State.modPw_hl (s : State) (h : Power → Power) : (s.modPw h).hl = s.hl := rfl
@[simp] theorem State.modPw_hv (s : State) (h : Power → Power) : (s.modPw h).hv = s.hv := rfl
@[simp] theorem State.modPw_out (s : State) (h : Power → Power) : (s.modPw h).out = s.out := rfl
@[simp] theorem State.modPw_ar (s : State) (h : Power → Power) : (s.modPw h).ar = s.ar := rfl
@[simp] theorem State.modPw_mon (s : State) (h : Power → Power) : (s.modPw h).mon = s.mon := rfl
@[simp] theorem State.modPw_fw (s : State) (h : Power → Power) : (s.modPw h).fw = s.fw := rfl
@[simp] theorem State.modPw_pins (s : State) (h : Power → Power) : (s.modPw h).pins = s.pins := rfl

/-! Updates of `mon`. -/

@[simp] theorem State.setMon_mon (s : State) (v : Monitor) : (s.setMon v).mon = v := rfl
@[simp] theorem State.setMon_clk (s : State) (v : Monitor) : (s.setMon v).clk = s.clk := rfl
@[simp] theorem State.setMon_pending (s : State) (v : Monitor) : (s.setMon v).pending = s.pending := rfl
@[simp] theorem State.setMon_freeCtr (s : State) (v : Monitor) : (s.setMon v).freeCtr = s.freeCtr := rfl
@[simp] theorem State.setMon_readData (s : State) (v : Monitor) : (s.setMon v).readData = s.readData := rfl
@[simp] theorem State.setMon_mr (s : State) (v : Monitor) : (s.setMon v).mr = s.mr := rfl
@[simp] theorem State.setMon_log (s : State) (v : Monitor) : (s.setMon v).log = s.log := rfl
@[simp] theorem State.setMon_fe (s : State) (v : Monitor) : (s.setMon v).fe = s.fe := rfl
@[simp] theorem State.setMon_tw (s : State) (v : Monitor) : (s.setMon v).tw = s.tw := rfl
@[simp] theorem State.setMon_cal (s : State) (v : Monitor) : (s.setMon v).cal = s.cal := rfl
@[simp] theorem State.setMon_ck (s : State) (v : Monitor) : (s.setMon v).ck = s.ck := rfl
@[simp] theorem State.setMon_tm (s : State) (v : Monitor) : (s.setMon v).tm = s.tm := rfl
@[simp] theorem State.setMon_ch (s : State) (v : Monitor) : (s.setMon v).ch = s.ch := rfl
@[simp] theorem State.setMon_evq (s : State) (v : Monitor) : (s.setMon v).evq = s.evq := rfl
@[simp] theorem State.setMon_tr (s : State) (v : Monitor) : (s.setMon v).tr = s.tr := rfl
@[simp] theorem State.setMon_mem (s : State) (v : Monitor) : (s.setMon v).mem = s.mem := rfl
@[simp] theorem State.setMon_hl (s : State) (v : Monitor) : (s.setMon v).hl = s.hl := rfl
@[simp] theorem State.setMon_hv (s : State) (v : Monitor) : (s.setMon v).hv = s.hv := rfl
@[simp] theorem State.setMon_out (s : State) (v : Monitor) : (s.setMon v).out = s.out := rfl
@[simp] theorem State.setMon_ar (s : State) (v : Monitor) : (s.setMon v).ar = s.ar := rfl
@[simp] theorem State.setMon_pw (s : State) (v : Monitor) : (s.setMon v).pw = s.pw := rfl
@[simp] theorem State.setMon_fw (s : State) (v : Monitor) : (s.setMon v).fw = s.fw := rfl
@[simp] theorem State.setMon_pins (s : State) (v : Monitor) : (s.setMon v).pins = s.pins := rfl
@[simp] theorem State.modMon_mon (s : State) (g : Monitor → Monitor) : (s.modMon g).mon = g s.mon := rfl
@[simp] theorem State.modMon_clk (s : State) (h : Monitor → Monitor) : (s.modMon h).clk = s.clk := rfl
@[simp] theorem State.modMon_pending (s : State) (h : Monitor → Monitor) : (s.modMon h).pending = s.pending := rfl
@[simp] theorem State.modMon_freeCtr (s : State) (h : Monitor → Monitor) : (s.modMon h).freeCtr = s.freeCtr := rfl
@[simp] theorem State.modMon_readData (s : State) (h : Monitor → Monitor) : (s.modMon h).readData = s.readData := rfl
@[simp] theorem State.modMon_mr (s : State) (h : Monitor → Monitor) : (s.modMon h).mr = s.mr := rfl
@[simp] theorem State.modMon_log (s : State) (h : Monitor → Monitor) : (s.modMon h).log = s.log := rfl
@[simp] theorem State.modMon_fe (s : State) (h : Monitor → Monitor) : (s.modMon h).fe = s.fe := rfl
@[simp] theorem State.modMon_tw (s : State) (h : Monitor → Monitor) : (s.modMon h).tw = s.tw := rfl
@[simp] theorem State.modMon_cal (s : State) (h : Monitor → Monitor) : (s.modMon h).cal = s.cal := rfl
@[simp] theorem State.modMon_ck (s : State) (h : Monitor → Monitor) : (s.modMon h).ck = s.ck := rfl
@[simp] theorem State.modMon_tm (s : State) (h : Monitor → Monitor) : (s.modMon h).tm = s.tm := rfl
@[simp] theorem State.modMon_ch (s : State) (h : Monitor → Monitor) : (s.modMon h).ch = s.ch := rfl
@[simp] theorem State.modMon_evq (s : State) (h : Monitor → Monitor) : (s.modMon h).evq = s.evq := rfl
@[simp] theorem State.modMon_tr (s : State) (h : Monitor → Monitor) : (s.modMon h).tr = s.tr := rfl
@[simp] theorem State.modMon_mem (s : State) (h : Monitor → Monitor) : (s.modMon h).mem = s.mem := rfl
@[simp] theorem State.modMon_hl (s : State) (h : Monitor → Monitor) : (s.modMon h).hl = s.hl := rfl
@[simp] theorem State.modMon_hv (s : State) (h : Monitor → Monitor) : (s.modMon h).hv = s.hv := rfl
@[simp] theorem State.modMon_out (s : State) (h : Monitor → Monitor) : (s.modMon h).out = s.out := rfl
@[simp] theorem State.modMon_ar (s : State) (h : Monitor → Monitor) : (s.modMon h).ar = s.ar := rfl
@[simp] theorem State.modMon_pw (s : State) (h : Monitor → Monitor) : (s.modMon h).pw = s.pw := rfl
@[simp] theorem State.modMon_fw (s : State) (h : Monitor → Monitor) : (s.modMon h).fw = s.fw := rfl
@[simp] theorem State.modMon_pins (s : State) (h : Monitor → Monitor) : (s.modMon h).pins = s.pins := rfl

/-! Updates of `fw`. -/

@[simp] theorem State.setFw_fw (s : State) (v : Firm) : (s.setFw v).fw = v := rfl
@[simp] theorem State.setFw_clk (s : State) (v : Firm) : (s.setFw v).clk = s.clk := rfl
@[simp] theorem State.setFw_pending (s : State) (v : Firm) : (s.setFw v).pending = s.pending := rfl
@[simp] theorem State.setFw_freeCtr (s : State) (v : Firm) : (s.setFw v).freeCtr = s.freeCtr := rfl
@[simp] theorem State.setFw_readData (s : State) (v : Firm) : (s.setFw v).readData = s.readData := rfl
@[simp] theorem State.setFw_mr (s : State) (v : Firm) : (s.setFw v).mr = s.mr := rfl
@[simp] theorem State.setFw_log (s : State) (v : Firm) : (s.setFw v).log = s.log := rfl
@[simp] theorem State.setFw_fe (s : State) (v : Firm) : (s.setFw v).fe = s.fe := rfl
@[simp] theorem State.setFw_tw (s : State) (v : Firm) : (s.setFw v).tw = s.tw := rfl
@[simp] theorem State.setFw_cal (s : State) (v : Firm) : (s.setFw v).cal = s.cal := rfl
@[simp] theorem State.setFw_ck (s : State) (v : Firm) : (s.setFw v).ck = s.ck := rfl
@[simp] theorem State.setFw_tm (s : State) (v : Firm) : (s.setFw v).tm = s.tm := rfl
@[simp] theorem State.setFw_ch (s : State) (v : Firm) : (s.setFw v).ch = s.ch := rfl
@[simp] theorem State.setFw_evq (s : State) (v : Firm) : (s.setFw v).evq = s.evq := rfl
@[simp] theorem State.setFw_tr (s : State) (v : Firm) : (s.setFw v).tr = s.tr := rfl
@[simp] theorem State.setFw_mem (s : State) (v : Firm) : (s.setFw v).mem = s.mem := rfl
@[simp] theorem State.setFw_hl (s : State) (v : Firm) : (s.setFw v).hl = s.hl := rfl
@[simp] theorem State.setFw_hv (s : State) (v : Firm) : (s.setFw v).hv = s.hv := rfl
@[simp] theorem State.setFw_out (s : State) (v : Firm) : (s.setFw v).out = s.out := rfl
@[simp] theorem State.setFw_ar (s : State) (v : Firm) : (s.setFw v).ar = s.ar := rfl
@[simp] theorem State.setFw_pw (s : State) (v : Firm) : (s.setFw v).pw = s.pw := rfl
@[simp] theorem State.setFw_mon (s : State) (v : Firm) : (s.setFw v).mon = s.mon := rfl
@[simp] theorem State.setFw_pins (s : State) (v : Firm) : (s.setFw v).pins = s.pins := rfl
@[simp] theorem State.modFw_fw (s : State) (g : Firm → Firm) : (s.modFw g).fw = g s.fw := rfl
@[simp] theorem State.modFw_clk (s : State) (h : Firm → Firm) : (s.modFw h).clk = s.clk := rfl
@[simp] theorem State.modFw_pending (s : State) (h : Firm → Firm) : (s.modFw h).pending = s.pending := rfl
@[simp] theorem State.modFw_freeCtr (s : State) (h : Firm → Firm) : (s.modFw h).freeCtr = s.freeCtr := rfl
@[simp] theorem State.modFw_readData (s : State) (h : Firm → Firm) : (s.modFw h).readData = s.readData := rfl
@[simp] theorem State.modFw_mr (s : State) (h : Firm → Firm) : (s.modFw h).mr = s.mr := rfl
@[simp] theorem State.modFw_log (s : State) (h : Firm → Firm) : (s.modFw h).log = s.log := rfl
@[simp] theorem State.modFw_fe (s : State) (h : Firm → Firm) : (s.modFw h).fe = s.fe := rfl
@[simp] theorem State.modFw_tw (s : State) (h : Firm → Firm) : (s.modFw h).tw = s.tw := rfl
@[simp] theorem State.modFw_cal (s : State) (h : Firm → Firm) : (s.modFw h).cal = s.cal := rfl
@[simp] theorem State.modFw_ck (s : State) (h : Firm → Firm) : (s.modFw h).ck = s.ck := rfl
@[simp] theorem State.modFw_tm (s : State) (h : Firm → Firm) : (s.modFw h).tm = s.tm := rfl
@[simp] theorem State.modFw_ch (s : State) (h : Firm → Firm) : (s.modFw h).ch = s.ch := rfl
@[simp] theorem State.modFw_evq (s : State) (h : Firm → Firm) : (s.modFw h).evq = s.evq := rfl
@[simp] theorem State.modFw_tr (s : State) (h : Firm → Firm) : (s.modFw h).tr = s.tr := rfl
@[simp] theorem State.modFw_mem (s : State) (h : Firm → Firm) : (s.modFw h).mem = s.mem := rfl
@[simp] theorem State.modFw_hl (s : State) (h : Firm → Firm) : (s.modFw h).hl = s.hl := rfl
@[simp] theorem State.modFw_hv (s : State) (h : Firm → Firm) : (s.modFw h).hv = s.hv := rfl
@[simp] theorem State.modFw_out (s : State) (h : Firm → Firm) : (s.modFw h).out = s.out := rfl
@[simp] theorem State.modFw_ar (s : State) (h : Firm → Firm) : (s.modFw h).ar = s.ar := rfl
@[simp] theorem State.modFw_pw (s : State) (h : Firm → Firm) : (s.modFw h).pw = s.pw := rfl
@[simp] theorem State.modFw_mon (s : State) (h : Firm → Firm) : (s.modFw h).mon = s.mon := rfl
@[simp] theorem State.modFw_pins (s : State) (h : Firm → Firm) : (s.modFw h).pins = s.pins := rfl

/-! Updates of `pins`. -/

@[simp] theorem State.setPins_pins (s : State) (v : Pins) : (s.setPins v).pins = v := rfl
@[simp] theorem State.setPins_clk (s : State) (v : Pins) : (s.setPins v).clk = s.clk := rfl
@[simp] theorem State.setPins_pending (s : State) (v : Pins) : (s.setPins v).pending = s.pending := rfl
@[simp] theorem State.setPins_freeCtr (s : State) (v : Pins) : (s.setPins v).freeCtr = s.freeCtr := rfl
@[simp] theorem State.setPins_readData (s : State) (v : Pins) : (s.setPins v).readData = s.readData := rfl
@[simp] theorem State.setPins_mr (s : State) (v : Pins) : (s.setPins v).mr = s.mr := rfl
@[simp] theorem State.setPins_log (s : State) (v : Pins) : (s.setPins v).log = s.log := rfl
@[simp] theorem State.setPins_fe (s : State) (v : Pins) : (s.setPins v).fe = s.fe := rfl
@[simp] theorem State.setPins_tw (s : State) (v : Pins) : (s.setPins v).tw = s.tw := rfl
@[simp] theorem State.setPins_cal (s : State) (v : Pins) : (s.setPins v).cal = s.cal := rfl
@[simp] theorem State.setPins_ck (s : State) (v : Pins) : (s.setPins v).ck = s.ck := rfl
@[simp] theorem State.setPins_tm (s : State) (v : Pins) : (s.setPins v).tm = s.tm := rfl
@[simp] theorem State.setPins_ch (s : State) (v : Pins) : (s.setPins v).ch = s.ch := rfl
@[simp] theorem State.setPins_evq (s : State) (v : Pins) : (s.setPins v).evq = s.evq := rfl
@[simp] theorem State.setPins_tr (s : State) (v : Pins) : (s.setPins v).tr = s.tr := rfl
@[simp] theorem State.setPins_mem (s : State) (v : Pins) : (s.setPins v).mem = s.mem := rfl
@[simp] theorem State.setPins_hl (s : State) (v : Pins) : (s.setPins v).hl = s.hl := rfl
@[simp] theorem State.setPins_hv (s : State) (v : Pins) : (s.setPins v).hv = s.hv := rfl
@[simp] theorem State.setPins_out (s : State) (v : Pins) : (s.setPins v).out = s.out := rfl
@[simp] theorem State.setPins_ar (s : State) (v : Pins) : (s.setPins v).ar = s.ar := rfl
@[simp] theorem State.setPins_pw (s : State) (v : Pins) : (s.setPins v).pw = s.pw := rfl
@[simp] theorem State.setPins_mon (s : State) (v : Pins) : (s.setPins v).mon = s.mon := rfl
@[simp] theorem State.setPins_fw (s : State) (v : Pins) : (s.setPins v).fw = s.fw := rfl
@[simp] theorem State.modPins_pins (s : State) (g : Pins → Pins) : (s.modPins g).pins = g s.pins := rfl
@[simp] theorem State.modPins_clk (s : State) (h : Pins → Pins) : (s.modPins h).clk = s.clk := rfl
@[simp] theorem State.modPins_pending (s : State) (h : Pins → Pins) : (s.modPins h).pending = s.pending := rfl
@[simp] theorem State.modPins_freeCtr (s : State) (h : Pins → Pins) : (s.modPins h).freeCtr = s.freeCtr := rfl
@[simp] theorem State.modPins_readData (s : State) (h : Pins → Pins) : (s.modPins h).readData = s.readData := rfl
@[simp] theorem State.modPins_mr (s : State) (h : Pins → Pins) : (s.modPins h).mr = s.mr := rfl
@[simp] theorem State.modPins_log (s : State) (h : Pins → Pins) : (s.modPins h).log = s.log := rfl
@[simp] theorem State.modPins_fe (s : State) (h : Pins → Pins) : (s.modPins h).fe = s.fe := rfl
@[simp] theorem State.modPins_tw (s : State) (h : Pins → Pins) : (s.modPins h).tw = s.tw := rfl
@[simp] theorem State.modPins_cal (s : State) (h : Pins → Pins) : (s.modPins h).cal = s.cal := rfl
@[simp] theorem State.modPins_ck (s : State) (h : Pins → Pins) : (s.modPins h).ck = s.ck := rfl
@[simp] theorem State.modPins_tm (s : State) (h : Pins → Pins) : (s.modPins h).tm = s.tm := rfl
@[simp] theorem State.modPins_ch (s : State) (h : Pins → Pins) : (s.modPins h).ch = s.ch := rfl
@[simp] theorem State.modPins_evq (s : State) (h : Pins → Pins) : (s.modPins h).evq = s.evq := rfl
@[simp] theorem State.modPins_tr (s : State) (h : Pins → Pins) : (s.modPins h).tr = s.tr := rfl
@[simp] theorem State.modPins_mem (s : State) (h : Pins → Pins) : (s.modPins h).mem = s.mem := rfl
@[simp] theorem State.modPins_hl (s : State) (h : Pins → Pins) : (s.modPins h).hl = s.hl := rfl
@[simp] theorem State.modPins_hv (s : State) (h : Pins → Pins) : (s.modPins h).hv = s.hv := rfl
@[simp] theorem State.modPins_out (s : State) (h : Pins → Pins) : (s.modPins h).out = s.out := rfl
@[simp] theorem State.modPins_ar (s : State) (h : Pins → Pins) : (s.modPins h).ar = s.ar := rfl
@[simp] theorem State.modPins_pw (s : State) (h : Pins → Pins) : (s.modPins h).pw = s.pw := rfl
@[simp] theorem State.modPins_mon (s : State) (h : Pins → Pins) : (s.modPins h).mon = s.mon := rfl
@[simp] theorem State.modPins_fw (s : State) (h : Pins → Pins) : (s.modPins h).fw = s.fw := rfl

/-! Time that passes. -/

@[simp] theorem State.reach_clk (s : State) (t : Nat) : (s.reach t).clk = max s.clk t := rfl
@[simp] theorem State.reach_pending (s : State) (t : Nat) : (s.reach t).pending = s.pending := rfl
@[simp] theorem State.reach_freeCtr (s : State) (t : Nat) : (s.reach t).freeCtr = s.freeCtr := rfl
@[simp] theorem State.reach_readData (s : State) (t : Nat) : (s.reach t).readData = s.readData := rfl
@[simp] theorem State.reach_mr (s : State) (t : Nat) : (s.reach t).mr = s.mr := rfl
@[simp] theorem State.reach_log (s : State) (t : Nat) : (s.reach t).log = s.log := rfl
@[simp] theorem State.reach_fe (s : State) (t : Nat) : (s.reach t).fe = s.fe := rfl
@[simp] theorem State.reach_tw (s : State) (t : Nat) : (s.reach t).tw = s.tw := rfl
@[simp] theorem State.reach_cal (s : State) (t : Nat) : (s.reach t).cal = s.cal := rfl
@[simp] theorem State.reach_ck (s : State) (t : Nat) : (s.reach t).ck = s.ck := rfl
@[simp] theorem State.reach_tm (s : State) (t : Nat) : (s.reach t).tm = s.tm := rfl
@[simp] theorem State.reach_ch (s : State) (t : Nat) : (s.reach t).ch = s.ch := rfl
@[simp] theorem State.reach_evq (s : State) (t : Nat) : (s.reach t).evq = s.evq := rfl
@[simp] theorem State.reach_tr (s : State) (t : Nat) : (s.reach t).tr = s.tr := rfl
@[simp] theorem State.reach_mem (s : State) (t : Nat) : (s.reach t).mem = s.mem := rfl
@[simp] theorem State.reach_hl (s : State) (t : Nat) : (s.reach t).hl = s.hl := rfl
@[simp] theorem State.reach_hv (s : State) (t : Nat) : (s.reach t).hv = s.hv := rfl
@[simp] theorem State.reach_out (s : State) (t : Nat) : (s.reach t).out = s.out := rfl
@[simp] theorem State.reach_ar (s : State) (t : Nat) : (s.reach t).ar = s.ar := rfl
@[simp] theorem State.reach_pw (s : State) (t : Nat) : (s.reach t).pw = s.pw := rfl
@[simp] theorem State.reach_mon (s : State) (t : Nat) : (s.reach t).mon = s.mon := rfl
@[simp] theorem State.reach_fw (s : State) (t : Nat) : (s.reach t).fw = s.fw := rfl
@[simp] theorem State.reach_pins (s : State) (t : Nat) : (s.reach t).pins = s.pins := rfl

end Sys2Proof.Machine
end

