-- ==== Sys2Proof/Laws/Ops.lean ====
section
/-!
SUPPORT. What the shared operations can do. `Quiet s u`: all that may differ is the event log, the host link, the array's sent
messages, power and the model's own counters. Signals, events and free values are quiet; a response is quiet but for its mailbox.
-/

namespace Sys2Proof.Machine

/-- Only log, host link and power differ. -/
structure Quiet (s u : State) : Prop where
  clk : u.clk = s.clk
  pending : u.pending = s.pending
  mr : u.mr = s.mr
  ar : u.ar = s.ar
  units : SameUnits s u

theorem SameUnits.refl (s : State) : SameUnits s s := ⟨rfl, rfl, rfl, rfl, rfl, rfl, rfl, rfl, rfl, rfl, rfl, rfl, rfl, rfl⟩

theorem SameUnits.trans {s u v : State} (h : SameUnits s u) (k : SameUnits u v) : SameUnits s v := by
  unfold SameUnits at *
  obtain ⟨h1, h2, h3, h4, h5, h6, h7, h8, h9, h10, h11, h12, h13, h14⟩ := h
  obtain ⟨k1, k2, k3, k4, k5, k6, k7, k8, k9, k10, k11, k12, k13, k14⟩ := k
  exact ⟨k1.trans h1, k2.trans h2, k3.trans h3, k4.trans h4, k5.trans h5, k6.trans h6, k7.trans h7, k8.trans h8, k9.trans h9,
    k10.trans h10, k11.trans h11, k12.trans h12, k13.trans h13, k14.trans h14⟩

theorem SameSettings.refl (s : State) : SameSettings s s := ⟨rfl, rfl, rfl, rfl, rfl⟩

theorem SameSettings.trans {s u v : State} (h : SameSettings s u) (k : SameSettings u v) : SameSettings s v := by
  obtain ⟨h1, h2, h3, h4, h5⟩ := h
  obtain ⟨k1, k2, k3, k4, k5⟩ := k
  exact ⟨k1.trans h1, k2.trans h2, k3.trans h3, k4.trans h4, k5.trans h5⟩

theorem SameSettings.of_mr {s u : State} (h : u.mr = s.mr) : SameSettings s u := by simp [SameSettings, h]

theorem Quiet.refl (s : State) : Quiet s s := ⟨rfl, rfl, rfl, rfl, SameUnits.refl s⟩

theorem Quiet.trans {s u v : State} (h : Quiet s u) (k : Quiet u v) : Quiet s v :=
  ⟨k.clk.trans h.clk, k.pending.trans h.pending, k.mr.trans h.mr, k.ar.trans h.ar, h.units.trans k.units⟩

theorem Quiet.settings {s u : State} (h : Quiet s u) : SameSettings s u := SameSettings.of_mr h.mr

theorem modLog_quiet (s : State) (g : EvLog → EvLog) : Quiet s (s.modLog g) :=
  ⟨rfl, rfl, rfl, rfl, SameUnits.refl s⟩

theorem modHl_quiet (s : State) (g : HostLink → HostLink) : Quiet s (s.modHl g) :=
  ⟨rfl, rfl, rfl, rfl, SameUnits.refl s⟩

theorem modPw_quiet (s : State) (g : Power → Power) : Quiet s (s.modPw g) :=
  ⟨rfl, rfl, rfl, rfl, SameUnits.refl s⟩

theorem setFreeCtr_quiet (s : State) (n : Nat) : Quiet s (s.setFreeCtr n) :=
  ⟨rfl, rfl, rfl, rfl, SameUnits.refl s⟩

theorem free_quiet (s : State) : Quiet s s.free.2 := setFreeCtr_quiet s _

/-- A message to the host. -/
theorem msix_quiet (s : State) (v : Nat) : Quiet s (s.msix v) := by
  unfold State.msix
  split
  · exact Quiet.refl s
  · exact modHl_quiet s _

theorem record_quiet (s : State) (e : Event) : Quiet s (s.record e) := modLog_quiet s _

theorem notify_quiet (s : State) (sev : Nat) : Quiet s (s.notify sev) := by
  unfold State.notify
  split
  · exact Quiet.refl s
  · split
    · exact (msix_quiet s _).trans (modLog_quiet _ _)
    · split
      · exact (msix_quiet s _).trans (modLog_quiet _ _)
      · exact modLog_quiet s _

theorem coreWake_quiet (s : State) : Quiet s s.coreWake := by
  unfold State.coreWake
  split
  · exact modPw_quiet s _
  · split
    · exact modPw_quiet s _
    · exact Quiet.refl s

theorem logEntry_quiet (s : State) (e : Event) : Quiet s (s.logEntry e) := by
  unfold State.logEntry
  split
  · exact ((record_quiet s _).trans (notify_quiet _ _)).trans (coreWake_quiet _)
  · exact modLog_quiet s _

/-- An event is logged. -/
theorem logEv_quiet (s : State) (code sev scope : Nat) (data : List Byte) : Quiet s (s.logEv code sev scope data) :=
  logEntry_quiet s _

/-- An event is logged with the time of another tick. -/
theorem logEvAt_quiet (s : State) (b code sev scope : Nat) (data : List Byte) : Quiet s (s.logEvAt b code sev scope data) :=
  logEntry_quiet s _

theorem foldr_quiet {α : Type} (f : α → State → State) (h : ∀ x s, Quiet s (f x s)) (l : List α) (s : State) :
    Quiet s (l.foldr f s) := by
  induction l with
  | nil => exact Quiet.refl s
  | cons x xs ih => exact ih.trans (h x _)

theorem flushEvents_quiet (s : State) : Quiet s s.flushEvents :=
  (modLog_quiet s _).trans (foldr_quiet _ (fun e a => logEntry_quiet a e) _ _)

end Sys2Proof.Machine
end

