-- ==== Sys2Proof/Laws/Marrad.lean ====
section
/-!
SUPPORT. What a command's way through its mailbox can do: a ready command is judged by its own part alone, and a response touches
its mailbox, the log, the link's messages and the idle time.
-/

namespace Sys2Proof.Machine

@[simp] theorem leBytes_length (n v : Nat) : (leBytes n v).length = n := by
  induction n generalizing v with
  | zero => rfl
  | succ n ih => simp [leBytes, ih]

@[simp] theorem responseHeader_length (r : Req) (a : Reply) (rf d e : Nat) : (responseHeader r a rf d e).length = 32 := by
  simp [responseHeader]

@[simp] theorem reach_mode (s : State) (t : Nat) : (s.reach t).mode = s.mode := rfl

@[simp] theorem reach_mbox (s : State) (t : Nat) (m : Fin 17) : (s.reach t).mbox m = s.mbox m := rfl

theorem Quiet.mbox {s u : State} (h : Quiet s u) (m : Fin 17) : u.mbox m = s.mbox m := by
  unfold State.mbox
  rw [h.mr]

@[simp] theorem modMb_same (s : State) (m : Fin 17) (g : Mailbox → Mailbox) : (s.modMb m g).mbox m = g (s.mbox m) := by
  simp [State.modMb, State.mbox]

theorem modMb_other (s : State) (m j : Fin 17) (g : Mailbox → Mailbox) (h : j ≠ m) : (s.modMb m g).mbox j = s.mbox j := by
  have h' : m.val ≠ j.val := fun e => h (Fin.ext e.symm)
  simp [State.modMb, State.mbox, h']

theorem modMb_units (s : State) (m : Fin 17) (g : Mailbox → Mailbox) : SameUnits s (s.modMb m g) := SameUnits.refl s

theorem modMb_settings (s : State) (m : Fin 17) (g : Mailbox → Mailbox) : SameSettings s (s.modMb m g) := SameSettings.refl s

/-- The event that LOG asks for. -/
theorem respond_log_quiet (s : State) (b : Bool) (code sev scope : Nat) (d : List Byte) :
    Quiet s (if b then s.logEv code sev scope d else s) := by
  split
  · exact logEv_quiet s _ _ _ _
  · exact Quiet.refl s

/-- A signal that NOTIFY asks for, or the relayed response, leaves units and command interface as they were. -/
theorem sendN_units (s : State) (a b : Nat) (l : List Nat) : SameUnits s (s.sendN a b l) := SameUnits.refl s

/-- The fragments of a response leave units and command interface as they were. -/
theorem sendParts_frame (s : State) (a n : Nat) (bs : List Byte) :
    SameUnits s (s.sendParts a n bs) ∧ (s.sendParts a n bs).mr = s.mr := by
  induction n generalizing s bs with
  | zero => exact ⟨sendN_units s _ _ _, rfl⟩
  | succ n ih =>
    unfold State.sendParts
    split
    · exact ⟨sendN_units s _ _ _, rfl⟩
    · exact ⟨(sendN_units s _ _ _).trans (ih _ _).1, (ih _ _).2⟩

/-- What a response does: mailbox `r.mb` is DONE with the answer's status and payload. -/
theorem respond_replied (s : State) (r : Req) (a : Reply) (c : Nat) : Replied (s.respond r a c) r.mb a.status a.payload := by
  unfold State.respond Replied
  dsimp only
  split
  · refine ⟨?_, ?_, ?_⟩ <;> simp [State.mbox, State.modMb, (sendParts_frame _ _ _ _).2]
  · split
    · rw [(msix_quiet _ _).mbox]
      refine ⟨?_, ?_, ?_⟩ <;> simp [State.mbox, State.modMb]
    · refine ⟨?_, ?_, ?_⟩ <;> simp [State.mbox, State.modMb]

/-- A response leaves the units of the device as they were. -/
theorem respond_units (s : State) (r : Req) (a : Reply) (c : Nat) : SameUnits s (s.respond r a c) := by
  have h1 : SameUnits s (if (bitAt r.flags 1 && a.status != stAccepted && a.status != eTimeout) = true then
      s.logEv 0x0001 (cmdSev a.status) 0 (cmdData r.mb.val r.code r.tag a.status a.detail) else s) :=
    (respond_log_quiet s _ _ _ _ _).units
  unfold State.respond
  dsimp only
  split
  · exact h1.trans (sendParts_frame _ _ _ _).1
  · split
    · exact h1.trans (msix_quiet _ _).units
    · exact h1

/-- A response leaves settings, stage and work as they were. -/
theorem respond_settings (s : State) (r : Req) (a : Reply) (c : Nat) : SameSettings s (s.respond r a c) := by
  have h1 : SameSettings s (if (bitAt r.flags 1 && a.status != stAccepted && a.status != eTimeout) = true then
      s.logEv 0x0001 (cmdSev a.status) 0 (cmdData r.mb.val r.code r.tag a.status a.detail) else s) :=
    (respond_log_quiet s _ _ _ _ _).settings
  unfold State.respond
  dsimp only
  split
  · refine SameSettings.trans ?_ (SameSettings.of_mr (sendParts_frame _ _ _ _).2)
    exact h1
  · split
    · exact h1.trans (msix_quiet _ _).settings
    · exact h1

/-- A ready command whose own part answers at once, its commit point not past the expiry tick, ends with that answer. -/
theorem command_reply {s : State} {t : Nat} {m : Fin 17} {code : Nat} {lenOk : Req → Bool} {body : Body} {a : Reply} {x : State}
    (h : Ready s t m code lenOk) (hb : body (s.reqOf m) (s.reach t) = (.reply a, x)) (he : (s.reqOf m).expired x.clk = false) :
    s.command t m code lenOk body = x.respond (s.reqOf m) a x.clk := by
  obtain ⟨hm, -, hh, hr, -⟩ := h
  unfold State.command
  dsimp only
  rw [if_pos hm]
  have hq : ((s.reach t).mbox m).req m = s.reqOf m := rfl
  have ha : (s.reach t).answer (s.reqOf m) lenOk body = (.reply a, x) := by
    unfold State.answer
    rw [reach_mode, hh]
    dsimp only
    rw [hb]
    simp [hr]
  rw [hq, ha]
  unfold State.conclude
  simp [he]

/-- The same, as a property of the outcome: what the own part left of units and settings stands in the next state. -/
theorem command_leads {s : State} {t : Nat} {m : Fin 17} {code : Nat} {lenOk : Req → Bool} {body : Body} {a : Reply} {x : State}
    (h : Ready s t m code lenOk) (hb : body (s.reqOf m) (s.reach t) = (.reply a, x)) (he : (s.reqOf m).expired x.clk = false) :
    Leads (go (s.command t m code lenOk body)) (fun u => Replied u m a.status a.payload ∧ SameUnits x u ∧ SameSettings x u) := by
  refine ⟨_, rfl, ?_⟩
  rw [command_reply h hb he]
  exact ⟨respond_replied x (s.reqOf m) a x.clk, respond_units _ _ _ _, respond_settings _ _ _ _⟩

/-- A ready command that waits is BUSY and stands under execution. -/
theorem command_wait {s : State} {t : Nat} {m : Fin 17} {code : Nat} {lenOk : Req → Bool} {body : Body} {w : Wait} {x : State}
    (h : Ready s t m code lenOk) (hb : body (s.reqOf m) (s.reach t) = (.wait w, x)) (he : (s.reqOf m).expired x.clk = false) :
    s.command t m code lenOk body
      = (x.modMb m (fun b => { b with state := .busy })).modMr (fun y => { y with exec := some ⟨m, x.clk, w⟩ }) := by
  obtain ⟨hm, -, hh, hr, -⟩ := h
  unfold State.command
  dsimp only
  rw [if_pos hm]
  have hq : ((s.reach t).mbox m).req m = s.reqOf m := rfl
  have ha : (s.reach t).answer (s.reqOf m) lenOk body = (.wait w, x) := by
    unfold State.answer
    rw [reach_mode, hh]
    dsimp only
    rw [hb]
    simp [hr]
  rw [hq, ha]
  unfold State.conclude
  simp [he]
  rfl

/-- A command that fails a shared check has no effect but its answer. -/
theorem command_header {s : State} {t : Nat} {m : Fin 17} {code st : Nat} {lenOk : Req → Bool} {body : Body}
    (hm : (s.reach t).mayTake m code = true) (hh : headerCheck s.mode lenOk (s.reqOf m) = some st)
    (he : (s.reqOf m).expired (s.reach t).clk = false) :
    s.command t m code lenOk body = (s.reach t).respond (s.reqOf m) ⟨st, [], none, 0, 0⟩ (s.reach t).clk := by
  unfold State.command
  dsimp only
  rw [if_pos hm]
  have hq : ((s.reach t).mbox m).req m = s.reqOf m := rfl
  have ha : (s.reach t).answer (s.reqOf m) lenOk body = fails st (s.reach t) := by
    unfold State.answer
    rw [reach_mode, hh]
  rw [hq, ha]
  unfold State.conclude fails
  dsimp only
  rw [he]
  simp

/-- Where no such command is to be taken, only time passes. -/
theorem command_idle {s : State} {t : Nat} {m : Fin 17} {code : Nat} {lenOk : Req → Bool} {body : Body}
    (hm : (s.reach t).mayTake m code = false) : s.command t m code lenOk body = s.reach t := by
  unfold State.command
  dsimp only
  rw [hm]
  simp

end Sys2Proof.Machine
end

