-- ==== Sys2Proof/Laws/Memory.lean ====
section
/-!
SUPPORT. Byte memory: its canonical form is kept by every write, and a read after a write gives the byte written at its address and
the byte that stood at every other.
-/

namespace Sys2Proof.Machine

theorem memSorted_mono {lo lo' : Nat} (h : lo' ≤ lo) : ∀ {m : Memory}, memSorted lo m = true → memSorted lo' m = true
  | [], _ => rfl
  | (k, v) :: m, hs => by
    simp only [memSorted, Bool.and_eq_true, decide_eq_true_eq] at hs ⊢
    exact ⟨⟨by omega, hs.1.2⟩, hs.2⟩

theorem memWrite_sorted {lo : Nat} (a : Nat) (b : Byte) (ha : lo ≤ a) :
    ∀ {m : Memory}, memSorted lo m = true → memSorted lo (memWrite m a b) = true
  | [], _ => by
    unfold memWrite
    split
    · rfl
    · rename_i hb
      simp [memSorted, hb, ha]
  | (k, v) :: m, hs => by
    have hs' := hs
    simp only [memSorted, Bool.and_eq_true, decide_eq_true_eq, bne_iff_ne, ne_eq] at hs'
    obtain ⟨⟨hk, hv⟩, hm⟩ := hs'
    unfold memWrite
    split
    · split
      · exact hs
      · rename_i hlt hb
        simp only [memSorted, Bool.and_eq_true, decide_eq_true_eq, bne_iff_ne, ne_eq]
        exact ⟨⟨ha, hb⟩, ⟨by omega, hv⟩, hm⟩
    · split
      · rename_i heq
        subst heq
        split
        · exact memSorted_mono (by omega) hm
        · rename_i hb
          simp only [memSorted, Bool.and_eq_true, decide_eq_true_eq, bne_iff_ne, ne_eq]
          exact ⟨⟨hk, hb⟩, hm⟩
      · rename_i h1 h2
        simp only [memSorted, Bool.and_eq_true, decide_eq_true_eq, bne_iff_ne, ne_eq]
        exact ⟨⟨hk, hv⟩, memWrite_sorted a b (by omega) hm⟩

/-- A write keeps the canonical form. -/
theorem memWrite_wf {m : Memory} (a : Nat) (b : Byte) (h : Memory.wf m = true) : Memory.wf (memWrite m a b) = true :=
  memWrite_sorted a b (Nat.zero_le a) h

/-- Writing bytes keeps the canonical form. -/
theorem memWriteBytes_wf (bs : List Byte) :
    ∀ {m : Memory} (a : Nat), Memory.wf m = true → Memory.wf (memWriteBytes m a bs) = true := by
  induction bs with
  | nil => intro m a h; exact h
  | cons b bs ih => intro m a h; exact ih (a + 1) (memWrite_wf a b h)

/-- Keeping some of the cells keeps the canonical form. -/
theorem filter_sorted (p : Host.Cell → Bool) : ∀ {m : Memory} {lo : Nat}, memSorted lo m = true → memSorted lo (m.filter p) = true
  | [], _, _ => rfl
  | (k, v) :: m, lo, hs => by
    simp only [memSorted, Bool.and_eq_true, decide_eq_true_eq, bne_iff_ne, ne_eq] at hs
    have ih := filter_sorted p hs.2
    rw [List.filter_cons]
    split
    · simp only [memSorted, Bool.and_eq_true, decide_eq_true_eq, bne_iff_ne, ne_eq]
      exact ⟨hs.1, ih⟩
    · exact memSorted_mono (by omega) ih

theorem filter_wf (p : Host.Cell → Bool) {m : Memory} (h : Memory.wf m = true) : Memory.wf (m.filter p) = true := filter_sorted p h

/-- Below its lowest key a memory reads 0. -/
theorem memRead_below {lo a : Nat} (ha : a < lo) : ∀ {m : Memory}, memSorted lo m = true → memRead m a = 0#8
  | [], _ => rfl
  | (k, v) :: m, hs => by
    simp only [memSorted, Bool.and_eq_true, decide_eq_true_eq] at hs
    unfold memRead
    rw [if_neg (by omega)]
    exact memRead_below (lo := k + 1) (by omega) hs.2

/-- What a memory reads after a write. -/
theorem memRead_memWrite (a a' : Nat) (b : Byte) {lo : Nat} :
    ∀ {m : Memory}, memSorted lo m = true → memRead (memWrite m a b) a' = if a' = a then b else memRead m a'
  | [], _ => by
    unfold memWrite
    split
    · rename_i hb
      subst hb
      simp [memRead]
    · simp only [memRead]
      split <;> split <;> simp_all
  | (k, v) :: m, hs => by
    have hs' := hs
    simp only [memSorted, Bool.and_eq_true, decide_eq_true_eq, bne_iff_ne, ne_eq] at hs'
    obtain ⟨⟨hk, hv⟩, hm⟩ := hs'
    unfold memWrite
    split
    · rename_i hlt
      split
      · rename_i hb
        subst hb
        split
        · rename_i he
          subst he
          have hz : memRead m a' = 0#8 := memRead_below (lo := k + 1) (by omega) hm
          unfold memRead
          rw [if_neg (by omega), hz]
        · rfl
      · simp only [memRead]
        by_cases he : a' = a
        · subst he; simp
        · rw [if_neg (fun h => he h.symm), if_neg he]
    · split
      · rename_i heq
        subst heq
        split
        · rename_i hb
          subst hb
          by_cases he : a' = a
          · subst he
            rw [if_pos rfl]
            exact memRead_below (lo := a' + 1) (by omega) hm
          · rw [if_neg he]
            simp only [memRead]
            rw [if_neg (fun h => he h.symm)]
        · simp only [memRead]
          by_cases he : a' = a
          · subst he; simp
          · rw [if_neg (fun h => he h.symm), if_neg he, if_neg (fun h => he h.symm)]
      · rename_i h1 h2
        simp only [memRead]
        rw [memRead_memWrite a a' b hm]
        by_cases hk' : k = a'
        · rw [if_pos hk', if_pos hk', if_neg (by omega)]
        · rw [if_neg hk', if_neg hk']

theorem memRead_write_same {m : Memory} (h : Memory.wf m = true) (a : Nat) (b : Byte) : memRead (memWrite m a b) a = b := by
  rw [memRead_memWrite a a b h, if_pos rfl]

theorem memRead_write_other {m : Memory} (h : Memory.wf m = true) {a a' : Nat} (b : Byte) (hne : a' ≠ a) :
    memRead (memWrite m a b) a' = memRead m a' := by
  rw [memRead_memWrite a a' b h, if_neg hne]

/-- Bytes outside those written read as before. -/
theorem memRead_writeBytes_outside (bs : List Byte) :
    ∀ {m : Memory} (a a' : Nat), Memory.wf m = true → (a' < a ∨ a + bs.length ≤ a') →
      memRead (memWriteBytes m a bs) a' = memRead m a' := by
  induction bs with
  | nil => intro m a a' _ _; rfl
  | cons b bs ih =>
    intro m a a' h hout
    simp only [List.length_cons] at hout
    show memRead (memWriteBytes (memWrite m a b) (a + 1) bs) a' = _
    rw [ih (a + 1) a' (memWrite_wf a b h) (by omega), memRead_write_other h b (by omega)]

/-- Byte `i` of those written reads as written. -/
theorem memRead_writeBytes_inside (bs : List Byte) :
    ∀ {m : Memory} (a i : Nat), Memory.wf m = true → (hi : i < bs.length) → memRead (memWriteBytes m a bs) (a + i) = bs[i] := by
  induction bs with
  | nil => intro m a i _ hi; exact absurd hi (by simp)
  | cons b bs ih =>
    intro m a i h hi
    show memRead (memWriteBytes (memWrite m a b) (a + 1) bs) (a + i) = _
    cases i with
    | zero =>
      rw [memRead_writeBytes_outside bs (a + 1) (a + 0) (memWrite_wf a b h) (by omega)]
      exact memRead_write_same h a b
    | succ j =>
      have := ih (m := memWrite m a b) (a + 1) j (memWrite_wf a b h) (by simpa using hi)
      rw [show a + (j + 1) = a + 1 + j by omega, this]
      rfl

end Sys2Proof.Machine
end

