-- ==== Sys2Proof/WellFormed.lean ====
section
/-!
DEFINITION. Which terms of `Instr` spell a command of the table: operands within the ranges that the spec gives them. The machine
gives every term an effect all the same; a sender need only send well-formed ones.
-/

namespace Sys2Proof

/-- A self-test's cause of failure is one of 04 R99, or none when the slice passes. -/
def SliceTest.wf (x : SliceTest) : Bool := if x.pass then x.cause == 0 else decide (1 ≤ x.cause ∧ x.cause ≤ 6)

/-- A group's number in its row, its seven data words and eight sideband bytes (13 R319, R320). -/
def RawGroup.wf (x : RawGroup) : Bool := decide (x.group < 16 ∧ x.words.length = 7 ∧ x.side.length = 8)

/-- A descriptor is 64 bytes (14 R359), and a failed fetch has a code of 14 R356. -/
def Fetch.wf : Fetch → Bool
  | .bytes bs => bs.length == 64
  | .failed code => decide (1 ≤ code ∧ code ≤ 3)

/-- Training measures the eyes of 64 data and 8 sideband lanes (13 R316, R331). -/
def PcTraining.wf (x : PcTraining) : Bool := x.eyes.length == 72

/-- Trainings and temperatures of at most 32 pseudo-channels, a link that PCIe can train (14 R370). -/
def BootChecks.wf (b : BootChecks) : Bool :=
  decide (b.temps.length ≤ 32 ∧ b.pcs.length ≤ 32) && b.pcs.all (·.wf)
    && b.link.all (fun l => decide (1 ≤ l.1 ∧ l.1 ≤ 5) && [1, 2, 4, 8, 16].contains l.2)

/-- Whether an access names 1 to 8 bytes of BAR0 (14 R346, R347). -/
def barSpan (off size : Nat) : Bool := decide (1 ≤ size ∧ size ≤ 8 ∧ off + size ≤ 0x400000)

/-- Whether a term spells a command. -/
def Instr.wf (i : Instr) : Bool :=
  match i with
  | .mbGo _ _ _ => true
  | .mbAbort _ _ _ => true
  | .commandExpiry _ _ => true
  | .undefinedCommand _ _ => true
  | .resync _ _ => true
  | .getInfo _ _ => true
  | .putSettings _ _ => true
  | .getSettings _ _ => true
  | .apply _ _ => true
  | .discardStaged _ _ => true
  | .getEvents _ _ => true
  | .echo _ _ => true
  | .arm _ _ => true
  | .armCommit _ => true
  | .disarm _ _ => true
  | .forceTrigger _ _ => true
  | .getAcqStatus _ _ => true
  | .loadSeqTable _ _ => true
  | .calRun _ _ => true
  | .calRunEnd _ _ _ => true
  | .calStatus _ _ => true
  | .calCommit _ _ => true
  | .calStoreCompletion _ _ => true
  | .calRevert _ _ => true
  | .graftControl _ _ test => test.wf
  | .loadCurve _ _ _ => true
  | .setQuota _ _ => true
  | .releaseSegments _ _ => true
  | .getTrellisStatus _ _ => true
  | .memHealth _ _ => true
  | .retirePc _ _ => true
  | .scrubControl _ _ => true
  | .setTime _ _ => true
  | .getTimeStatus _ _ => true
  | .loadBandTable _ _ _ => true
  | .relock _ _ _ => true
  | .tdcMeasure _ _ => true
  | .pwrEnter _ _ => true
  | .pwrStatus _ _ => true
  | .domainControl _ _ bad => bad.all (fun d => decide (d < 196))
  | .monLoadTable _ _ _ => true
  | .monRead _ _ => true
  | .monInject _ _ => true
  | .monSyscal _ _ => true
  | .getIdentity _ _ => true
  | .quote _ _ => true
  | .debugUnlock _ _ _ => true
  | .challengeExpiry _ => true
  | .enrollOwner _ _ _ => true
  | .ownerSlotProgrammed _ => true
  | .arrayJoin _ _ => true
  | .joinSilenceExpiry _ => true
  | .arrayStatus _ _ => true
  | .arrayLeave _ _ => true
  | .arrayCalibrateLinks _ _ _ => true
  | .linkCalibrationEnd _ measured failed => measured.all (fun e => decide (e.addr < 1024)) && failed.all (fun a => decide (a < 1024))
  | .fwStage _ _ _ => true
  | .fwStageEnd _ _ => true
  | .fwActivate _ _ => true
  | .liveRestartDone _ _ => true
  | .trialExpiry _ => true
  | .fwStatus _ _ => true
  | .playLoad _ _ => true
  | .playLoadEnd _ _ _ => true
  | .playStart _ _ => true
  | .playStop _ _ => true
  | .harvestQueueCreate _ _ => true
  | .harvestQueueDestroy _ _ _ => true
  | .queueDrainExpiry _ _ _ => true
  | .eventNotifyInterval _ => true
  | .flashLogCopy _ => true
  | .registerWrite _ off size _ => barSpan off size
  | .rsRead _ off size => barSpan off size
  | .overloadAsserted t _ first last => decide (first ≤ last ∧ last < (t + 1) * 2 ^ 24)
  | .protectionTrip _ _ => true
  | .protectionAutoClose _ _ => true
  | .towerSelfTest _ _ tests => tests.length == 33 && tests.all (·.wf)
  | .graftSelfTest _ _ test => test.wf
  | .graftShadowSettled _ _ => true
  | .graftWindow _ _ _ => true
  | .swap _ _ => true
  | .sliceFailure t _ _ cause onset => decide (1 ≤ cause ∧ cause ≤ 4 ∧ onset ≤ t)
  | .sliceReplacement _ _ => true
  | .trimRampStep _ _ => true
  | .skewWindow _ _ _ _ => true
  | .refGate _ _ _ => true
  | .refLoss _ => true
  | .refQualification _ _ => true
  | .disciplineUpdate _ _ _ => true
  | .clockStep _ _ => true
  | .lockLoss _ _ => true
  | .bandEdge _ _ _ => true
  | .overspeed _ _ _ => true
  | .lockDeclared _ => true
  | .frequencyAgreement _ => true
  | .relockAttemptFailure _ => true
  | .relockCompletion _ => true
  | .sscChange _ => true
  | .ppsEdge _ frac _ => decide (frac < 2 ^ 24)
  | .ppsMissing _ => true
  | .ppsOutPulse _ => true
  | .ppsOutEnd _ => true
  | .epochMark _ => true
  | .tdcEdge _ _ frac _ => decide (frac < 2 ^ 24)
  | .tdcCalibration _ _ _ => true
  | .tdcCalTimeout _ _ => true
  | .measurementExpiry _ chan => decide (chan < 10)
  | .detectorEvent _ _ pos _ _ _ _ => decide (pos < 128)
  | .fltEvent _ _ _ _ => true
  | .timerEvent _ _ => true
  | .eventPresentation _ => true
  | .expiryEvent _ _ _ => true
  | .holdoffEnd _ _ => true
  | .autoTrigger _ _ => true
  | .segmentClose _ _ _ => true
  | .outputPulse _ => true
  | .pulseEnd _ _ => true
  | .synchronisingReset _ _ => true
  | .fold _ _ => true
  | .resultPass _ _ => true
  | .busyIntervalEnd _ _ => true
  | .pageNeed _ _ => true
  | .descriptorWrite _ => true
  | .patrolScrub _ raw => raw.all (·.wf)
  | .writeBack _ raw => raw.all (·.wf)
  | .migrationCompletion _ => true
  | .capacityReduction _ => true
  | .retrainingWindow _ _ _ lanes _ => lanes.length == 72
  | .ceWindow _ _ => true
  | .pcRestoreTraining _ pass _ => pass.wf
  | .selfRefreshEntry _ _ => true
  | .selfRefreshExit _ temps => temps.all (fun e => e.tr.wf)
  | .hqTailWrite _ _ _ => true
  | .hqCheadWrite _ _ _ => true
  | .descriptorTake _ _ fetch => fetch.wf
  | .completionRecord _ _ => true
  | .msixUnmask _ _ => true
  | .linkDown _ cause => decide (1 ≤ cause ∧ cause ≤ 4)
  | .linkUp _ rate lanes => decide (1 ≤ rate ∧ rate ≤ 5) && [1, 2, 4, 8, 16].contains lanes
  | .playStartTick _ _ => true
  | .playEnd _ _ => true
  | .streamUnderrun _ out => decide (out.nth < 2)
  | .portUp _ _ peer _ => decide (peer ≤ 3)
  | .portDown _ _ _ _ route => route.all (fun r => decide (r.1 ≤ 8 ∧ r.2 ≤ 32))
  | .reroute _ level hops => decide (level ≤ 8 ∧ hops ≤ 32)
  | .takeoverWaitExpiry _ _ _ _ => true
  | .pauseExpiry _ _ _ route => route.all (fun r => decide (r.1 ≤ 8 ∧ r.2 ≤ 32))
  | .timeExchange _ _ => true
  | .statusReport _ => true
  | .time _ _ _ => true
  | .epoch _ _ _ kind => decide (kind ≤ 2)
  | .trigReq _ origin _ _ frac _ => decide (origin < 1024 ∧ frac < 2 ^ 24)
  | .trig _ origin _ _ frac _ _ => decide (origin < 1024 ∧ frac < 2 ^ 24)
  | .armMessage _ _ _ => true
  | .disarmMessage _ _ => true
  | .ready _ addr _ result => decide (addr < 1024 ∧ result ≤ 2)
  | .relayCmd _ msg => decide (msg.addr < 1024 ∧ 32 ≤ msg.bytes.length ∧ msg.bytes.length ≤ 1016)
  | .relayRsp _ addr part => decide (addr < 1024 ∧ part.bytes.length ≤ 1024)
  | .join _ _ port serial digest role => decide (port ≤ 3 ∧ serial.length = 16 ∧ digest.length = 32 ∧ (role = 2 ∨ role = 3))
  | .assign _ _ addr role level hops _ refusal => decide (refusal ≤ 3 ∧ (refusal = 0 → addr < 1024 ∧ (role = 2 ∨ role = 3) ∧ level ≤ 8 ∧ hops ≤ 32))
  | .status _ addr health exports _ _ => decide (addr < 1024 ∧ health.level ≤ 3 ∧ exports < 16)
  | .takeover _ mgr _ _ _ _ _ => decide (mgr < 1024)
  | .absent _ addr => decide (addr < 1024)
  | .pause _ _ => true
  | .dissolve _ => true
  | .badMessage _ _ => true
  | .idleEntry _ => true
  | .hbmPhyIdle _ => true
  | .onDemandWake _ dom => decide (dom < 196)
  | .powerEntryDrain _ => true
  | .retentionCopy _ => true
  | .powerEntryCommit _ => true
  | .wakeNLow _ => true
  | .wakeEdge _ src pin _ => decide (4 ≤ src ∧ src ≤ 6 ∧ (src = 6 → pin < 4))
  | .wakeTimerExpiry _ => true
  | .mainPowerReturn _ => true
  | .bfCmdWake _ => true
  | .bfCmdOff _ => true
  | .bfCmdClearFail _ => true
  | .i2cSnapshotRead _ reg len => decide (reg < 256 ∧ 1 ≤ len ∧ len ≤ 256)
  | .regulatorTimeout _ rail => decide (1 ≤ rail ∧ rail ≤ 6)
  | .wakeCompletion _ boot => boot.wf
  | .mainPowerLoss _ => true
  | .thermalTrip _ sensor _ => decide (16 ≤ sensor ∧ sensor ≤ 22)
  | .brownOut _ => true
  | .insertion _ => true
  | .powerUp _ boot => boot.wf
  | .conversionEnd _ _ => true
  | .entryDelayEnd _ => true
  | .injectionStart _ => true
  | .syscalStart _ => true
  | .dbgHalt _ _ => true
  | .dbgResume _ _ => true
  | .dbgStep _ _ => true
  | .dbgClrErr _ _ => true
  | .dbgDataAccess _ _ _ => true
  | .breakpointHit _ _ _ => true
  | .armWakeFailure _ dom => decide (dom < 196)
  | .retrainingStart _ _ _ deskew => decide (deskew.length ≤ 72)
  | .groupRead _ _ _ raw _ => raw.all (·.wf)
  | .heldAllocation _ => true
  | .auxPowerLoss _ => true
  | .l1Exit _ => true
  | .syscalSettleEnd _ => true

end Sys2Proof
end

