-- ==== Sys2Proof/Tests/Slice0.lean ====
section
/-!
SUPPORT. Tests: ill-formed terms are refused by `Instr.wf`; for every statement with hypotheses a concrete state and operands that
meet them; single steps whose results are worked out from the spec.
-/

namespace Sys2Proof.Tests

-- One theorem after the other: the checks would wait for each other, each on a thread of its own.
set_option Elab.async false

open Sys2Proof.Machine

/-- A command as the host writes it: header with tag 7, no timeout, no flags (02 R40), and payload. -/
def cmd (code chsel : Nat) (p : List Byte) : List Byte :=
  leBytes 2 code ++ leBytes 2 7 ++ leBytes 2 p.length ++ leBytes 1 chsel ++ leBytes 1 0 ++ List.replicate 24 0#8 ++ p

/-- A state in which that command has been posted in mailbox 0. -/
def issued (s : State) (code chsel : Nat) (p : List Byte) : State :=
  (s.modMb 0 (fun b => { b with cmd := memWriteBytes [] 0 (cmd code chsel p) })).post 0

/-- The same on the state after reset. -/
def fresh (code chsel : Nat) (p : List Byte) : State := issued State.reset code chsel p

/-- `n` zero bytes. -/
def zs (n : Nat) : List Byte := List.replicate n 0#8

/-- The state an outcome leads to. -/
def out (o : Out) : State := match o with
  | .next u => u
  | _ => State.reset

/-- The state after reset with every power domain on. -/
def lit : State := State.reset.modPw (fun p => { p with onMap := BitVec.allOnes 196 })


/-- A self-test that passes and measures nothing. -/
def sound : SliceTest := ⟨true, 0, 0, 0, 0, 0, 0, []⟩

/-- A group of zeros. -/
def plainGroup : RawGroup := ⟨0, List.replicate 7 0, 0, List.replicate 8 0⟩

theorem test_wf_graftControl_cause : Instr.wf (.graftControl 0 0 ⟨false, 0, 0, 0, 0, 0, 0, []⟩) = false
    ∧ Instr.wf (.graftControl 0 0 ⟨false, 6, 0, 0, 0, 0, 0, []⟩) = true := by decide

theorem test_wf_domainControl_domain : Instr.wf (.domainControl 0 0 (some 196)) = false
    ∧ Instr.wf (.domainControl 0 0 (some 195)) = true := by decide

theorem test_wf_linkCalibrationEnd_measured : Instr.wf (.linkCalibrationEnd 0 [⟨1024, false, 0, default⟩] []) = false
    ∧ Instr.wf (.linkCalibrationEnd 0 [⟨1023, false, 0, default⟩] []) = true := by decide

theorem test_wf_linkCalibrationEnd_failed : Instr.wf (.linkCalibrationEnd 0 [] [1024]) = false
    ∧ Instr.wf (.linkCalibrationEnd 0 [] [1023]) = true := by decide

theorem test_wf_registerWrite_size : Instr.wf (.registerWrite 0 0 9 0) = false
    ∧ Instr.wf (.registerWrite 0 0 8 0) = true := by decide

theorem test_wf_registerWrite_end : Instr.wf (.registerWrite 0 0x3FFFFF 2 0) = false
    ∧ Instr.wf (.registerWrite 0 0x3FFFFE 2 0) = true := by decide

theorem test_wf_rsRead_size : Instr.wf (.rsRead 0 0 0) = false
    ∧ Instr.wf (.rsRead 0 0 1) = true := by decide

theorem test_wf_overloadAsserted_order : Instr.wf (.overloadAsserted 9 0 6 5) = false
    ∧ Instr.wf (.overloadAsserted 9 0 5 5) = true := by decide

theorem test_wf_overloadAsserted_later : Instr.wf (.overloadAsserted 4 0 3 83886080) = false
    ∧ Instr.wf (.overloadAsserted 4 0 3 83886079) = true := by decide

theorem test_wf_towerSelfTest_slices : Instr.wf (.towerSelfTest 0 0 (List.replicate 32 sound)) = false
    ∧ Instr.wf (.towerSelfTest 0 0 (List.replicate 33 sound)) = true := by decide

theorem test_wf_towerSelfTest_cause : Instr.wf (.towerSelfTest 0 0 (⟨true, 1, 0, 0, 0, 0, 0, []⟩ :: List.replicate 32 sound)) = false := by decide

theorem test_wf_graftSelfTest_cause : Instr.wf (.graftSelfTest 0 0 ⟨false, 7, 0, 0, 0, 0, 0, []⟩) = false
    ∧ Instr.wf (.graftSelfTest 0 0 sound) = true := by decide

theorem test_wf_sliceFailure_cause : Instr.wf (.sliceFailure 9 0 0 5 9) = false
    ∧ Instr.wf (.sliceFailure 9 0 0 4 9) = true := by decide

theorem test_wf_sliceFailure_onset : Instr.wf (.sliceFailure 9 0 0 1 10) = false
    ∧ Instr.wf (.sliceFailure 9 0 0 1 0) = true := by decide

theorem test_wf_ppsEdge_frac : Instr.wf (.ppsEdge 0 0x1000000 false) = false
    ∧ Instr.wf (.ppsEdge 0 0xFFFFFF false) = true := by decide

theorem test_wf_tdcEdge_frac : Instr.wf (.tdcEdge 0 0 0x1000000 ⟨false, 0, 0⟩) = false
    ∧ Instr.wf (.tdcEdge 0 0 0xFFFFFF ⟨false, 0, 0⟩) = true := by decide

theorem test_wf_measurementExpiry_channel : Instr.wf (.measurementExpiry 0 10) = false
    ∧ Instr.wf (.measurementExpiry 0 9) = true := by decide

theorem test_wf_detectorEvent_position : Instr.wf (.detectorEvent 0 0 128 [] [] [] []) = false
    ∧ Instr.wf (.detectorEvent 0 0 127 [] [] [] []) = true := by decide

theorem test_wf_patrolScrub_group : Instr.wf (.patrolScrub 0 [⟨16, List.replicate 7 0, 0, List.replicate 8 0⟩]) = false
    ∧ Instr.wf (.patrolScrub 0 [plainGroup]) = true := by decide

theorem test_wf_writeBack_words : Instr.wf (.writeBack 0 [⟨0, List.replicate 8 0, 0, List.replicate 8 0⟩]) = false
    ∧ Instr.wf (.writeBack 0 [plainGroup]) = true := by decide

theorem test_wf_groupRead_sideband : Instr.wf (.groupRead 0 0 0 [⟨0, List.replicate 7 0, 0, []⟩] false) = false
    ∧ Instr.wf (.groupRead 0 0 0 [plainGroup] false) = true := by decide

theorem test_wf_retrainingStart_lanes : Instr.wf (.retrainingStart 0 0 0 (List.replicate 73 0)) = false
    ∧ Instr.wf (.retrainingStart 0 0 0 (List.replicate 72 0)) = true := by decide

theorem test_wf_retrainingWindow_lanes : Instr.wf (.retrainingWindow 0 0 default (List.replicate 71 default) 0) = false
    ∧ Instr.wf (.retrainingWindow 0 0 default (List.replicate 72 default) 0) = true := by decide

theorem test_wf_pcRestoreTraining_lanes : Instr.wf (.pcRestoreTraining 0 ⟨default, []⟩ 0) = false
    ∧ Instr.wf (.pcRestoreTraining 0 ⟨default, List.replicate 72 default⟩ 0) = true := by decide

theorem test_wf_selfRefreshExit_lanes : Instr.wf (.selfRefreshExit 0 [⟨0, default, []⟩]) = false
    ∧ Instr.wf (.selfRefreshExit 0 [⟨0, default, List.replicate 72 default⟩]) = true := by decide

theorem test_wf_streamUnderrun_word : Instr.wf (.streamUnderrun 0 ⟨0, 2⟩) = false
    ∧ Instr.wf (.streamUnderrun 0 ⟨0, 1⟩) = true := by decide

theorem test_wf_descriptorTake_length : Instr.wf (.descriptorTake 0 0 (.bytes (zs 63))) = false
    ∧ Instr.wf (.descriptorTake 0 0 (.bytes (zs 64))) = true := by decide

theorem test_wf_descriptorTake_code : Instr.wf (.descriptorTake 0 0 (.failed 4)) = false
    ∧ Instr.wf (.descriptorTake 0 0 (.failed 3)) = true := by decide

theorem test_wf_linkDown_cause : Instr.wf (.linkDown 0 0) = false
    ∧ Instr.wf (.linkDown 0 4) = true := by decide

theorem test_wf_linkUp_rate : Instr.wf (.linkUp 0 6 16) = false
    ∧ Instr.wf (.linkUp 0 5 16) = true := by decide

theorem test_wf_linkUp_lanes : Instr.wf (.linkUp 0 5 3) = false
    ∧ Instr.wf (.linkUp 0 1 1) = true := by decide

theorem test_wf_portUp_peer : Instr.wf (.portUp 0 0 4 false) = false
    ∧ Instr.wf (.portUp 0 0 3 false) = true := by decide

theorem test_wf_portDown_route : Instr.wf (.portDown 0 0 false false (some (9, 0))) = false
    ∧ Instr.wf (.portDown 0 0 false false (some (8, 32))) = true := by decide

theorem test_wf_reroute_hops : Instr.wf (.reroute 0 8 33) = false
    ∧ Instr.wf (.reroute 0 8 32) = true := by decide

theorem test_wf_pauseExpiry_route : Instr.wf (.pauseExpiry 0 0 false (some (0, 33))) = false
    ∧ Instr.wf (.pauseExpiry 0 0 false none) = true := by decide

theorem test_wf_epoch_kind : Instr.wf (.epoch 0 0 0 3) = false
    ∧ Instr.wf (.epoch 0 0 0 2) = true := by decide

theorem test_wf_trigReq_origin : Instr.wf (.trigReq 0 1024 0 0 0 0) = false
    ∧ Instr.wf (.trigReq 0 1023 0 0 0 0) = true := by decide

theorem test_wf_trig_frac : Instr.wf (.trig 0 0 0 0 0x1000000 0 0) = false
    ∧ Instr.wf (.trig 0 0 0 0 0xFFFFFF 0 0) = true := by decide

theorem test_wf_ready_result : Instr.wf (.ready 0 0 0 3) = false
    ∧ Instr.wf (.ready 0 0 0 2) = true := by decide

theorem test_wf_relayCmd_short : Instr.wf (.relayCmd 0 ⟨0, zs 31⟩) = false
    ∧ Instr.wf (.relayCmd 0 ⟨0, zs 32⟩) = true := by decide

theorem test_wf_relayRsp_origin : Instr.wf (.relayRsp 0 1024 ⟨[], true⟩) = false
    ∧ Instr.wf (.relayRsp 0 1023 ⟨[], true⟩) = true := by decide

theorem test_wf_join_serial : Instr.wf (.join 0 0 0 (zs 15) (zs 32) 2) = false
    ∧ Instr.wf (.join 0 0 0 (zs 16) (zs 32) 2) = true := by decide

theorem test_wf_join_role : Instr.wf (.join 0 0 0 (zs 16) (zs 32) 1) = false
    ∧ Instr.wf (.join 0 0 0 (zs 16) (zs 32) 3) = true := by decide

theorem test_wf_assign_role : Instr.wf (.assign 0 true 1 0 1 1 ⟨0, 1⟩ 0) = false
    ∧ Instr.wf (.assign 0 true 1 2 1 1 ⟨0, 1⟩ 0) = true := by decide

theorem test_wf_assign_refusal : Instr.wf (.assign 0 true 0 0 0 0 ⟨0, 1⟩ 4) = false
    ∧ Instr.wf (.assign 0 true 0 0 0 0 ⟨0, 1⟩ 3) = true := by decide

theorem test_wf_status_health : Instr.wf (.status 0 0 ⟨4, 0⟩ 0 false 0) = false
    ∧ Instr.wf (.status 0 0 ⟨3, 0⟩ 15 false 0) = true := by decide

theorem test_wf_takeover_manager : Instr.wf (.takeover 0 1024 0 0 0 none none) = false
    ∧ Instr.wf (.takeover 0 1023 0 0 0 none none) = true := by decide

theorem test_wf_absent_address : Instr.wf (.absent 0 1024) = false
    ∧ Instr.wf (.absent 0 1023) = true := by decide

theorem test_wf_onDemandWake_domain : Instr.wf (.onDemandWake 0 196) = false
    ∧ Instr.wf (.onDemandWake 0 195) = true := by decide

theorem test_wf_wakeEdge_source : Instr.wf (.wakeEdge 0 3 0 false) = false
    ∧ Instr.wf (.wakeEdge 0 4 0 false) = true := by decide

theorem test_wf_wakeEdge_pin : Instr.wf (.wakeEdge 0 6 4 false) = false
    ∧ Instr.wf (.wakeEdge 0 6 3 false) = true := by decide

theorem test_wf_i2cSnapshotRead_length : Instr.wf (.i2cSnapshotRead 0 0 0) = false
    ∧ Instr.wf (.i2cSnapshotRead 0 255 256) = true := by decide

theorem test_wf_regulatorTimeout_rail : Instr.wf (.regulatorTimeout 0 7) = false
    ∧ Instr.wf (.regulatorTimeout 0 6) = true := by decide

theorem test_wf_thermalTrip_sensor : Instr.wf (.thermalTrip 0 15 0) = false
    ∧ Instr.wf (.thermalTrip 0 16 0) = true := by decide

theorem test_wf_wakeCompletion_lanes : Instr.wf (.wakeCompletion 0 { (default : BootChecks) with pcs := [⟨default, []⟩] }) = false
    ∧ Instr.wf (.wakeCompletion 0 { (default : BootChecks) with pcs := [⟨default, List.replicate 72 default⟩] }) = true := by decide

theorem test_wf_powerUp_temps : Instr.wf (.powerUp 0 { (default : BootChecks) with temps := List.replicate 33 0 }) = false
    ∧ Instr.wf (.powerUp 0 { (default : BootChecks) with temps := List.replicate 32 0 }) = true := by decide

theorem test_wf_powerUp_link : Instr.wf (.powerUp 0 { (default : BootChecks) with link := some (0, 16) }) = false
    ∧ Instr.wf (.powerUp 0 { (default : BootChecks) with link := some (5, 16) }) = true := by decide

theorem test_wf_armWakeFailure_domain : Instr.wf (.armWakeFailure 0 196) = false
    ∧ Instr.wf (.armWakeFailure 0 195) = true := by decide

/-- A settings entry (02 R55). -/
def entry (key scope val : Nat) : List Byte := leBytes 2 key ++ leBytes 1 scope ++ zs 5 ++ leBytes 8 val

/-- PW_IDLE_DELAY staged at 5 ms. -/
def staged : State := State.reset.modMr (fun m => { m with stage := [⟨0x0F01, 0, 5#64⟩] })

/-- A stage whose one value is out of range. -/
def badStage : State := State.reset.modMr (fun m => { m with stage := [⟨0x0F01, 0, 60001#64⟩] })

/-- ECHO posted with a timeout of 1 µs. -/
def timed : State := (State.reset.modMb 0 (fun b => { b with
  cmd := memWriteBytes [] 0 (leBytes 2 8 ++ leBytes 2 7 ++ leBytes 2 0 ++ zs 2 ++ leBytes 4 1 ++ zs 20) })).post 0

/-- An event message that is due, the last one sent at reset. -/
def dueMsg : State := (State.reset.modLog (fun l => { l with due := true, lastMsg := some 0 })).modHl (fun h =>
  { h with msixOn := true, msix := Vector.replicate 64 ⟨0, 0, false⟩ })

/-- STATUS_REPORT waits. -/
def oneWaiting : State := { State.reset with pending := [.statusReport 0] }

/-- Mailbox 0 with a snapshot. -/
def snapped : State := State.reset.modMb 0 (fun b => { b with snap := some ⟨1, zs 2100⟩ })


set_option maxRecDepth 20000 in
/-- The hypotheses of `Obligations.StepRunsFrontCommand` are met. -/
theorem witness_StepRunsFrontCommand :
    (oneWaiting.pending = [Instr.statusReport 0])
    ∧ (State.reset.pending = []) := by
  decide +kernel

set_option maxRecDepth 20000 in
/-- The hypotheses of `Obligations.EchoReturnsPayload` are met. -/
theorem witness_EchoReturnsPayload :
    (Ready (fresh 8 0 [1, 2, 3]) 5 0 8 fun (_ : Req) => true) := by
  decide +kernel

set_option maxRecDepth 20000 in
/-- The hypotheses of `Obligations.DiscardEmptiesStage` are met. -/
theorem witness_DiscardEmptiesStage :
    (Ready (issued staged 6 0 []) 5 0 6 (lenIs 0))
    ∧ (((fresh 6 0 [1]).reach 5).mayTake 0 6 = true ∧ ((fresh 6 0 [1]).reqOf 0).code = 6 ∧ ((fresh 6 0 [1]).reqOf 0).plen ≠ 0 ∧ ((fresh 6 0 [1]).reqOf 0).expired ((fresh 6 0 [1]).reach 5).clk = false) := by
  repeat' with_reducible apply And.intro
  all_goals first | decide +kernel | (intros; rfl) | (intro _ _ h; cases h) | exact ⟨_, List.Mem.head _, rfl⟩

set_option maxRecDepth 20000 in
/-- The hypotheses of `Obligations.PutSettingsStages` are met. -/
theorem witness_PutSettingsStages :
    (Ready (fresh 3 0 (leBytes 2 1 ++ zs 6 ++ entry 3841 0 5)) 5 0 3 putLen ∧ 1 ≤ fieldAt ((fresh 3 0 (leBytes 2 1 ++ zs 6 ++ entry 3841 0 5)).reqOf 0).payload 0 2 ∧ fieldAt ((fresh 3 0 (leBytes 2 1 ++ zs 6 ++ entry 3841 0 5)).reqOf 0).payload 0 2 ≤ 63 ∧ allZero (sliceAt ((fresh 3 0 (leBytes 2 1 ++ zs 6 ++ entry 3841 0 5)).reqOf 0).payload 2 6) = true ∧ (∀ (i : Nat), i < fieldAt ((fresh 3 0 (leBytes 2 1 ++ zs 6 ++ entry 3841 0 5)).reqOf 0).payload 0 2 → putOk ((fresh 3 0 (leBytes 2 1 ++ zs 6 ++ entry 3841 0 5)).reqOf 0).payload i = true) ∧ (List.foldl (fun (l : List SetEntry) (e : SetEntry) => setPut e l) (fresh 3 0 (leBytes 2 1 ++ zs 6 ++ entry 3841 0 5)).mr.stage (List.filter (fun (e : SetEntry) => !immediate e.key) (List.map (putEntry ((fresh 3 0 (leBytes 2 1 ++ zs 6 ++ entry 3841 0 5)).reqOf 0).payload) (List.range (fieldAt ((fresh 3 0 (leBytes 2 1 ++ zs 6 ++ entry 3841 0 5)).reqOf 0).payload 0 2))))).length ≤ 4096)
    ∧ (Ready (fresh 3 0 (leBytes 2 2 ++ zs 6 ++ entry 3841 0 5 ++ entry 65535 0 5)) 5 0 3 putLen ∧ 1 ≤ fieldAt ((fresh 3 0 (leBytes 2 2 ++ zs 6 ++ entry 3841 0 5 ++ entry 65535 0 5)).reqOf 0).payload 0 2 ∧ fieldAt ((fresh 3 0 (leBytes 2 2 ++ zs 6 ++ entry 3841 0 5 ++ entry 65535 0 5)).reqOf 0).payload 0 2 ≤ 63 ∧ allZero (sliceAt ((fresh 3 0 (leBytes 2 2 ++ zs 6 ++ entry 3841 0 5 ++ entry 65535 0 5)).reqOf 0).payload 2 6) = true ∧ 1 < fieldAt ((fresh 3 0 (leBytes 2 2 ++ zs 6 ++ entry 3841 0 5 ++ entry 65535 0 5)).reqOf 0).payload 0 2 ∧ putOk ((fresh 3 0 (leBytes 2 2 ++ zs 6 ++ entry 3841 0 5 ++ entry 65535 0 5)).reqOf 0).payload 1 = false ∧ (∀ (j : Nat), j < 1 → putOk ((fresh 3 0 (leBytes 2 2 ++ zs 6 ++ entry 3841 0 5 ++ entry 65535 0 5)).reqOf 0).payload j = true)) := by
  repeat' with_reducible apply And.intro
  all_goals first | decide +kernel | (intros; rfl) | (intro _ _ h; cases h) | exact ⟨_, List.Mem.head _, rfl⟩

set_option maxRecDepth 20000 in
/-- The hypotheses of `Obligations.ApplyCommitsTheStage` are met. -/
theorem witness_ApplyCommitsTheStage :
    (Ready (issued staged 5 0 (zs 8)) 5 0 5 (lenIs 8) ∧ allZero (sliceAt ((issued staged 5 0 (zs 8)).reqOf 0).payload 1 7) = true ∧ fieldAt ((issued staged 5 0 (zs 8)).reqOf 0).payload 0 1 = 0 ∧ (issued staged 5 0 (zs 8)).mr.stage ≠ [] ∧ ((issued staged 5 0 (zs 8)).reach 5).applyFails = none ∧ ((issued staged 5 0 (zs 8)).reqOf 0).expired (((issued staged 5 0 (zs 8)).reach 5).boundaryFrom (((issued staged 5 0 (zs 8)).reach 5).clk + 1)) = false)
    ∧ (Ready (issued badStage 5 0 (zs 8)) 5 0 5 (lenIs 8) ∧ allZero (sliceAt ((issued badStage 5 0 (zs 8)).reqOf 0).payload 1 7) = true ∧ fieldAt ((issued badStage 5 0 (zs 8)).reqOf 0).payload 0 1 = 0 ∧ ((issued badStage 5 0 (zs 8)).reach 5).applyFails = some (eParam, 3841, 0))
    ∧ (Ready (issued badStage 5 0 (1 :: zs 7)) 5 0 5 (lenIs 8) ∧ allZero (sliceAt ((issued badStage 5 0 (1 :: zs 7)).reqOf 0).payload 1 7) = true ∧ fieldAt ((issued badStage 5 0 (1 :: zs 7)).reqOf 0).payload 0 1 = 1)
    ∧ (Ready (fresh 5 0 (zs 8)) 5 0 5 (lenIs 8) ∧ allZero (sliceAt ((fresh 5 0 (zs 8)).reqOf 0).payload 1 7) = true ∧ fieldAt ((fresh 5 0 (zs 8)).reqOf 0).payload 0 1 = 0 ∧ (fresh 5 0 (zs 8)).mr.stage = []) := by
  repeat' with_reducible apply And.intro
  all_goals first | decide +kernel | (intros; rfl) | (intro _ _ h; cases h) | exact ⟨_, List.Mem.head _, rfl⟩

set_option maxRecDepth 20000 in
/-- The hypotheses of `Obligations.GeneralReports` are met. -/
theorem witness_GeneralReports :
    (Ready (fresh 2 0 []) 5 0 2 (lenIs 0))
    ∧ (Ready (fresh 4 0 (zs 2 ++ leBytes 2 1 ++ zs 4 ++ leBytes 2 3841 ++ zs 2)) 5 0 4 getLen ∧ fieldAt ((fresh 4 0 (zs 2 ++ leBytes 2 1 ++ zs 4 ++ leBytes 2 3841 ++ zs 2)).reqOf 0).payload 0 1 < 3 ∧ fieldAt ((fresh 4 0 (zs 2 ++ leBytes 2 1 ++ zs 4 ++ leBytes 2 3841 ++ zs 2)).reqOf 0).payload 1 1 = 0 ∧ 1 ≤ fieldAt ((fresh 4 0 (zs 2 ++ leBytes 2 1 ++ zs 4 ++ leBytes 2 3841 ++ zs 2)).reqOf 0).payload 2 2 ∧ fieldAt ((fresh 4 0 (zs 2 ++ leBytes 2 1 ++ zs 4 ++ leBytes 2 3841 ++ zs 2)).reqOf 0).payload 2 2 ≤ 127 ∧ fieldAt ((fresh 4 0 (zs 2 ++ leBytes 2 1 ++ zs 4 ++ leBytes 2 3841 ++ zs 2)).reqOf 0).payload 4 4 = 0 ∧ (∀ (i : Nat), i < fieldAt ((fresh 4 0 (zs 2 ++ leBytes 2 1 ++ zs 4 ++ leBytes 2 3841 ++ zs 2)).reqOf 0).payload 2 2 → fieldAt ((fresh 4 0 (zs 2 ++ leBytes 2 1 ++ zs 4 ++ leBytes 2 3841 ++ zs 2)).reqOf 0).payload (11 + 4 * i) 1 = 0))
    ∧ (Ready (fresh 7 0 (zs 4 ++ leBytes 2 63 ++ zs 2)) 5 0 7 (lenIs 8) ∧ 1 ≤ fieldAt ((fresh 7 0 (zs 4 ++ leBytes 2 63 ++ zs 2)).reqOf 0).payload 4 2 ∧ fieldAt ((fresh 7 0 (zs 4 ++ leBytes 2 63 ++ zs 2)).reqOf 0).payload 4 2 ≤ 63 ∧ fieldAt ((fresh 7 0 (zs 4 ++ leBytes 2 63 ++ zs 2)).reqOf 0).payload 6 1 ≤ 4 ∧ fieldAt ((fresh 7 0 (zs 4 ++ leBytes 2 63 ++ zs 2)).reqOf 0).payload 7 1 ≤ 1)
    ∧ (Ready (fresh 1 0 (zs 8)) 5 0 1 (lenIs 8) ∧ fieldAt ((fresh 1 0 (zs 8)).reqOf 0).payload 0 1 = 0 ∧ fieldAt ((fresh 1 0 (zs 8)).reqOf 0).payload 1 3 = 0 ∧ fieldAt ((fresh 1 0 (zs 8)).reqOf 0).payload 4 4 = 0)
    ∧ (Ready (issued snapped 1 0 (1 :: zs 3 ++ leBytes 4 1)) 5 0 1 (lenIs 8) ∧ 1 ≤ fieldAt ((issued snapped 1 0 (1 :: zs 3 ++ leBytes 4 1)).reqOf 0).payload 0 1 ∧ fieldAt ((issued snapped 1 0 (1 :: zs 3 ++ leBytes 4 1)).reqOf 0).payload 0 1 ≤ 3 ∧ fieldAt ((issued snapped 1 0 (1 :: zs 3 ++ leBytes 4 1)).reqOf 0).payload 1 3 = 0 ∧ ((issued snapped 1 0 (1 :: zs 3 ++ leBytes 4 1)).mbox 0).snap = some (Snapshot.mk 1 (zs 2100))) := by
  repeat' with_reducible apply And.intro
  all_goals first | decide +kernel | (intros; rfl) | (intro _ _ h; cases h) | exact ⟨_, List.Mem.head _, rfl⟩

set_option maxRecDepth 20000 in
/-- The hypotheses of `Obligations.DoorbellPostsOrAborts` are met. -/
theorem witness_DoorbellPostsOrAborts :
    (State.reset.hl.up = true ∧ State.reset.pw.st = 0 ∧ (1#32).getLsbD 0 = true ∧ (1#32).getLsbD 1 = false ∧ ((State.reset.mbox (Fin.castLE (n := 16) (m := 17) (by omega) 0)).state = MbState.free ∨ (State.reset.mbox (Fin.castLE (n := 16) (m := 17) (by omega) 0)).state = MbState.done))
    ∧ ((fresh 8 0 []).hl.up = true ∧ (fresh 8 0 []).pw.st = 0 ∧ (1#32).getLsbD 0 = true ∧ (1#32).getLsbD 1 = false ∧ (((fresh 8 0 []).mbox (Fin.castLE (n := 16) (m := 17) (by omega) 0)).state = MbState.posted ∨ ((fresh 8 0 []).mbox (Fin.castLE (n := 16) (m := 17) (by omega) 0)).state = MbState.busy ∨ ((fresh 8 0 []).mbox (Fin.castLE (n := 16) (m := 17) (by omega) 0)).state = MbState.offline))
    ∧ (State.reset.hl.up = true ∧ State.reset.pw.st = 0 ∧ (3#32).getLsbD 0 = true ∧ (3#32).getLsbD 1 = true)
    ∧ ((fresh 8 0 []).hl.up = true ∧ (fresh 8 0 []).pw.st = 0 ∧ (2#32).getLsbD 0 = false ∧ (2#32).getLsbD 1 = true ∧ ((fresh 8 0 []).mbox (Fin.castLE (n := 16) (m := 17) (by omega) 0)).state = MbState.posted ∧ (fresh 8 0 []).committedIn (Fin.castLE (n := 16) (m := 17) (by omega) 0) = false ∧ (fresh 8 0 []).fw.serving = true ∧ (fresh 8 0 []).fw.halted = false)
    ∧ (State.reset.hl.up = true ∧ State.reset.pw.st = 0 ∧ (2#32).getLsbD 0 = false ∧ (2#32).getLsbD 1 = true ∧ ((State.reset.mbox (Fin.castLE (n := 16) (m := 17) (by omega) 15)).state = MbState.free ∨ (State.reset.mbox (Fin.castLE (n := 16) (m := 17) (by omega) 15)).state = MbState.done)) := by
  repeat' with_reducible apply And.intro
  all_goals first | decide +kernel | (intros; rfl) | (intro _ _ h; cases h) | exact ⟨_, List.Mem.head _, rfl⟩

set_option maxRecDepth 20000 in
/-- The hypotheses of `Obligations.ExpiredCommandEnds` are met. -/
theorem witness_ExpiredCommandEnds :
    ((timed.mbox 0).state = MbState.posted ∧ timed.fw.serving = true ∧ timed.fw.halted = false ∧ timed.committedIn 0 = false ∧ (timed.mbox 0).abort = none ∧ (timed.reqOf 0).timeout ≠ 0 ∧ (timed.mbox 0).doorbell + (timed.reqOf 0).timeout * 3000 ≤ max timed.clk 3000)
    ∧ ((timed.mbox 0).state = MbState.posted ∧ timed.fw.serving = true ∧ timed.fw.halted = false ∧ timed.committedIn 0 = false ∧ (timed.mbox 0).abort = none ∧ (timed.reqOf 0).timeout ≠ 0 ∧ max timed.clk 2999 < (timed.mbox 0).doorbell + (timed.reqOf 0).timeout * 3000) := by
  repeat' with_reducible apply And.intro
  all_goals first | decide +kernel | (intros; rfl) | (intro _ _ h; cases h) | exact ⟨_, List.Mem.head _, rfl⟩

set_option maxRecDepth 20000 in
/-- The hypotheses of `Obligations.UnknownCodeFails` are met. -/
theorem witness_UnknownCodeFails :
    (((fresh 65535 0 []).reach 5).mayTake 0 ((fresh 65535 0 []).mbox 0).code = true ∧ cmdSel ((fresh 65535 0 []).mbox 0).code = none ∧ cmdSel ((fresh 65535 0 []).reqOf 0).code = none ∧ ((fresh 65535 0 []).reqOf 0).expired ((fresh 65535 0 []).reach 5).clk = false) := by
  repeat' with_reducible apply And.intro
  all_goals first | decide +kernel | (intros; rfl) | (intro _ _ h; cases h) | exact ⟨_, List.Mem.head _, rfl⟩

set_option maxRecDepth 20000 in
/-- The hypotheses of `Obligations.EventRingsAndSignal` are met. -/
theorem witness_EventRingsAndSignal :
    (dueMsg.log.due = true ∧ dueMsg.log.lastMsg = some 0 ∧ 0 + 30000 ≤ max dueMsg.clk 30000 ∧ dueMsg.hl.up = true ∧ dueMsg.hl.msixOn = true ∧ dueMsg.hl.msix[dueMsg.mkey 33 % 64]!.masked = false)
    ∧ (State.reset.log.due = false) := by
  repeat' with_reducible apply And.intro
  all_goals first | decide +kernel | (intros; rfl) | (intro _ _ h; cases h) | exact ⟨_, List.Mem.head _, rfl⟩

set_option maxRecDepth 20000 in
/-- The hypotheses of `Obligations.RegisterAccess` are met. -/
theorem witness_RegisterAccess :
    (State.reset.hl.up = true ∧ State.reset.pw.st = 0 ∧ 1052 < 1056 ∧ 1052 % 4 = 0 ∧ (State.reset.mbox (Fin.castLE (n := 16) (m := 17) (by omega) 0)).cmd.wf = true ∧ ((State.reset.mbox (Fin.castLE (n := 16) (m := 17) (by omega) 0)).state = MbState.free ∨ (State.reset.mbox (Fin.castLE (n := 16) (m := 17) (by omega) 0)).state = MbState.done))
    ∧ ((fresh 8 0 []).hl.up = true ∧ (fresh 8 0 []).pw.st = 0 ∧ 0 < 1056 ∧ 0 % 4 = 0 ∧ ((fresh 8 0 []).mbox (Fin.castLE (n := 16) (m := 17) (by omega) 0)).cmd.wf = true ∧ (((fresh 8 0 []).mbox (Fin.castLE (n := 16) (m := 17) (by omega) 0)).state = MbState.posted ∨ ((fresh 8 0 []).mbox (Fin.castLE (n := 16) (m := 17) (by omega) 0)).state = MbState.busy ∨ ((fresh 8 0 []).mbox (Fin.castLE (n := 16) (m := 17) (by omega) 0)).state = MbState.offline))
    ∧ (State.reset.hl.up = true) := by
  repeat' with_reducible apply And.intro
  all_goals first | decide +kernel | (intros; rfl) | (intro _ _ h; cases h) | exact ⟨_, List.Mem.head _, rfl⟩

/-- Front end 1 closed, with an overload interval asserted. -/
def feOver : State := lit.modFe 1 (fun f => { f with prot := .closed, ovFrom := 5, ovUntil := 50 })

/-- Front end 3 closed, eight openings within the last second. -/
def feEight : State := lit.modFe 3 (fun f => { f with prot := .closed, openings := List.replicate 8 1 })


set_option maxRecDepth 20000 in
/-- The hypotheses of `Obligations.FrontEndProtects` are met. -/
theorem witness_FrontEndProtects :
    (Int.natAbs 30 ^ 2 ≤ 1000000 ∧ 0 < 1000000)
    ∧ (feEight.feOn 3 = true ∧ 7 ≤ 7 ∧ feEight.fe[3].asserted 7 = false)
    ∧ (feOver.feOn 1 = true ∧ 49 ≤ 70 ∧ feOver.fe[1].asserted 49 = true)
    ∧ (feEight.feOn 3 = true ∧ feEight.fe[3].prot = Prot.closed)
    ∧ (lit.feOn 0 = true ∧ lit.fe[0].prot = Prot.openAuto ∧ lit.fe[0].since + 3000000 ≤ max lit.clk 3000000)
    ∧ (lit.fe[0].prot ≠ Prot.closed)
    ∧ (max lit.clk 2999999 < lit.fe[3].since + 3000000)
    ∧ (State.reset.feOn 2 = false) := by
  repeat' with_reducible apply And.intro
  all_goals first | decide +kernel | (intros; rfl) | (intro _ _ h; cases h) | exact ⟨_, List.Mem.head _, rfl⟩

/-- A tower whose graft stands in a step of its swap period, with its grid due at tick 100. -/
def atStep (k : Fin 4) (st : GStep) : State := lit.modTw k (fun w => { w with gstep := st, grid := some 100 })

/-- A slice test that passes with trims at the ends of their ranges. -/
def passed : SliceTest := { (default : SliceTest) with pass := true, tOfs := 2047, tGain := -512 }

/-- A tower without a graft. -/
def noGraft : State := lit.modTw 2 (fun w => { w with graft := none, grid := none })

/-- A tower whose replacement is due at tick 200. -/
def replacing : State := lit.modTw 3 (fun w => { w with gstep := .waiting, repl := [⟨31, some 31, 200, false⟩], oos := [⟨31, 5, none⟩] })

/-- A tower whose retired slice of phase 31 waits for the graft, which is not ready. -/
def retiring : State := lit.modTw 3 (fun w => { w with gstep := .match_, repl := [⟨31, some 31, 0, true⟩], oos := [] })

/-- A tower that awaits the self-test of power-up. -/
def untested : State := lit.modTw 1 (fun w => { w with known := false, testing := true })

/-- A trim ramp of slice 32 of tower 0 with its last step due at tick 44. -/
def ramping : State := (lit.modSlice 0 32 (fun v => { v with ofs := 2046 })).modCal (fun c => { c with
  ramps := [⟨.ofs 0 32, 0, 44, 1, 0, 2047⟩] })

/-- A window of the graft's comparison. -/
def win (slope : Nat) (d tim : Int) : GraftWin := { (default : GraftWin) with slope := slope, timDiff := d, tim := tim }

/-- A window within the limits of MATCH, its trims beyond theirs. -/
def matched : GraftWin := { win 4 0 0 with ofs := 2048, gain := -513, meanDiff := 8, gainDiff := -30 }

/-- The rotation of tower 0 is paused. -/
def paused0 : State := (lit.modTw 0 (fun w => { w with paused := true }))

/-- Slice 5 of tower 0 is retired, phase 5 filled, and the tower has no graft. -/
def retired5 : State := (lit.modSlice 0 5 (fun v => { v with cause := 7 })).modTw 0 (fun w => { w with graft := none, phases := w.phases.set 5 none })


set_option maxRecDepth 20000 in
/-- The hypotheses of `Obligations.GraftSteps` are met. -/
theorem witness_GraftSteps :
    ((atStep 0 GStep.select).tw[0].graft = some 32 ∧ (atStep 0 GStep.select).stepping 0 = true ∧ testPasses (SliceTest.mk passed.pass passed.cause passed.tOfs 512 passed.ofsRes passed.gainRes passed.timRes passed.curve) = false ∧ ((atStep 0 GStep.select).tw[0].gstep = GStep.select ∨ (atStep 0 GStep.select).tw[0].gstep = GStep.selfTest))
    ∧ ((atStep 0 GStep.select).tw[0].graft = some 32 ∧ (atStep 0 GStep.select).stepping 0 = true ∧ testPasses passed = true ∧ ((atStep 0 GStep.select).tw[0].gstep = GStep.select ∨ (atStep 0 GStep.select).tw[0].gstep = GStep.selfTest))
    ∧ ((atStep 1 GStep.selfTest).tw[1].graft = some 32 ∧ (atStep 1 GStep.selfTest).stepping 1 = true ∧ testPasses passed = true ∧ ((atStep 1 GStep.selfTest).tw[1].gstep = GStep.select ∨ (atStep 1 GStep.selfTest).tw[1].gstep = GStep.selfTest))
    ∧ ((atStep 2 GStep.shadow).tw[2].graft = some 32 ∧ (atStep 2 GStep.shadow).stepping 2 = true ∧ (atStep 2 GStep.shadow).tw[2].gstep = GStep.shadow)
    ∧ ((atStep 3 GStep.converge).tw[3].graft = some 32 ∧ (atStep 3 GStep.converge).stepping 3 = true ∧ (atStep 3 GStep.converge).tw[3].gstep = GStep.converge)
    ∧ ((atStep 3 GStep.match_).tw[3].graft = some 32 ∧ (atStep 3 GStep.match_).stepping 3 = true ∧ (atStep 3 GStep.match_).tw[3].gstep = GStep.match_)
    ∧ ((atStep 0 GStep.ready).tw[0].graft = some 32 ∧ (atStep 0 GStep.ready).rotates 0 = true ∧ (atStep 0 GStep.ready).tw[0].retiring = false ∧ (atStep 0 GStep.ready).tw[0].swapNow = false ∧ (atStep 0 GStep.ready).tw[0].grid = some 100 ∧ (atStep 0 GStep.ready).tw[0].phases[(atStep 0 GStep.ready).tw[0].target] = some 0 ∧ max (atStep 0 GStep.ready).clk 99 < 100)
    ∧ ((atStep 0 GStep.ready).tw[0].graft = some 32 ∧ (atStep 0 GStep.ready).rotates 0 = true ∧ (atStep 0 GStep.ready).tw[0].retiring = false ∧ (atStep 0 GStep.ready).tw[0].swapNow = false ∧ (atStep 0 GStep.ready).tw[0].grid = some 100 ∧ (atStep 0 GStep.ready).tw[0].phases[(atStep 0 GStep.ready).tw[0].target] = some 0 ∧ 100 ≤ max (atStep 0 GStep.ready).clk 100 ∧ (atStep 0 GStep.ready).tw[0].gstep = GStep.ready)
    ∧ ((atStep 0 GStep.match_).tw[0].graft = some 32 ∧ (atStep 0 GStep.match_).rotates 0 = true ∧ (atStep 0 GStep.match_).tw[0].retiring = false ∧ (atStep 0 GStep.match_).tw[0].swapNow = false ∧ (atStep 0 GStep.match_).tw[0].grid = some 100 ∧ (atStep 0 GStep.match_).tw[0].phases[(atStep 0 GStep.match_).tw[0].target] = some 0 ∧ 100 ≤ max (atStep 0 GStep.match_).clk 100 ∧ (atStep 0 GStep.match_).tw[0].gstep ≠ GStep.ready ∧ (atStep 0 GStep.match_).tw[0].grids + 1 < (atStep 0 GStep.match_).mkey 515) := by
  repeat' with_reducible apply And.intro
  all_goals first | decide +kernel | (intros; rfl) | (intro _ _ h; cases h) | exact ⟨_, List.Mem.head _, rfl⟩

set_option maxRecDepth 20000 in
/-- The hypotheses of `Obligations.SlicesFailAndAreReplaced` are met, part 1 of 3. -/
theorem witness_SlicesFailAndAreReplaced_1 :
    ((atStep 0 GStep.select).towerOn 0 = true ∧ (atStep 0 GStep.select).tw[0].known = true ∧ ((atStep 0 GStep.select).slice 0 0).cause = 0 ∧ (atStep 0 GStep.select).sliceOn 0 0 = true ∧ (atStep 0 GStep.select).tw[0].phaseOf 0 = some 0 ∧ 1 ≤ 1 ∧ 1 ≤ 4 ∧ (atStep 0 GStep.select).tw[0].graft = some 32 ∧ (atStep 0 GStep.select).tw[0].repl = [] ∧ (atStep 0 GStep.select).tw[0].gstep ≠ GStep.ready ∧ ((atStep 0 GStep.select).reach 5).freshSwap 0 = none)
    ∧ ((atStep 0 GStep.select).towerOn 0 = true ∧ (atStep 0 GStep.select).tw[0].known = true ∧ ((atStep 0 GStep.select).slice 0 31).cause = 0 ∧ (atStep 0 GStep.select).sliceOn 0 31 = true ∧ (atStep 0 GStep.select).tw[0].phaseOf 31 = some 31 ∧ 1 ≤ 4 ∧ 4 ≤ 4 ∧ (atStep 0 GStep.select).tw[0].graft = some 32 ∧ (atStep 0 GStep.select).tw[0].repl = [] ∧ (atStep 0 GStep.select).tw[0].gstep ≠ GStep.ready ∧ ((atStep 0 GStep.select).reach 5).freshSwap 0 = none)
    ∧ (noGraft.towerOn 2 = true ∧ noGraft.tw[2].known = true ∧ (noGraft.slice 2 31).cause = 0 ∧ noGraft.sliceOn 2 31 = true ∧ noGraft.tw[2].phaseOf 31 = some 31 ∧ 1 ≤ 1 ∧ 1 ≤ 4 ∧ noGraft.tw[2].graft = none)
    ∧ (lit.towerOn 3 = true ∧ lit.tw[3].known = true ∧ (lit.slice 3 32).cause = 0 ∧ lit.sliceOn 3 32 = true ∧ lit.tw[3].phaseOf 32 = none ∧ lit.tw[3].graft = some 32 ∧ lit.tw[3].repl = [])
    ∧ (replacing.towerOn 3 = true ∧ replacing.tw[3].known = true ∧ (replacing.slice 3 32).cause = 0 ∧ replacing.sliceOn 3 32 = true ∧ replacing.tw[3].phaseOf 32 = none ∧ replacing.tw[3].graft = some 32 ∧ replacing.tw[3].repl = [Repl.mk 31 (some 31) 200 false] ∧ (Repl.mk 31 (some 31) 200 false).ready = false ∧ (Repl.mk 31 (some 31) 200 false).slice = some 31 ∧ (replacing.slice 3 31).cause < 6)
    ∧ (replacing.towerOn 3 = true ∧ replacing.tw[3].graft = some 32 ∧ replacing.tw[3].repl = [Repl.mk 31 (some 31) 200 false] ∧ (Repl.mk 31 (some 31) 200 false).ready = false ∧ max replacing.clk 199 < (Repl.mk 31 (some 31) 200 false).due)
    ∧ (retiring.towerOn 3 = true ∧ retiring.tw[3].graft = some 32 ∧ retiring.tw[3].repl = [Repl.mk 31 (some 31) 0 true] ∧ (Repl.mk 31 (some 31) 0 true).ready = true ∧ retiring.tw[3].gstep ≠ GStep.ready)
    ∧ (replacing.towerOn 3 = true ∧ replacing.tw[3].graft = some 32 ∧ replacing.tw[3].repl = [Repl.mk 31 (some 31) 200 false] ∧ ((Repl.mk 31 (some 31) 200 false).ready = false ∧ (Repl.mk 31 (some 31) 200 false).due ≤ max replacing.clk 200 ∨ (Repl.mk 31 (some 31) 200 false).ready = true ∧ replacing.tw[3].gstep = GStep.ready ∧ replacing.tw[3].target = (Repl.mk 31 (some 31) 200 false).phase ∧ replacing.boundaryFrom (replacing.tw[3].stepAt + 1) ≤ max replacing.clk 200)) := by
  repeat' with_reducible apply And.intro
  all_goals first | decide +kernel | (intros; rfl) | (intro _ _ h; cases h) | exact ⟨_, List.Mem.head _, rfl⟩

set_option maxRecDepth 20000 in
/-- The hypotheses of `Obligations.SlicesFailAndAreReplaced` are met, part 2 of 3. -/
theorem witness_SlicesFailAndAreReplaced_2 :
    ((retiring.modTw 3 fun (w : Tower) => Tower.mk w.slices w.phases w.graft 31 GStep.ready w.paused w.waived w.deferred w.swaps w.fails w.lastSwap w.grid w.period0 w.grids w.lastFail w.phFail w.undo w.served w.lin w.repl w.swapNow w.oos w.known w.testing w.stepAt).towerOn 3 = true ∧ (retiring.modTw 3 fun (w : Tower) => Tower.mk w.slices w.phases w.graft 31 GStep.ready w.paused w.waived w.deferred w.swaps w.fails w.lastSwap w.grid w.period0 w.grids w.lastFail w.phFail w.undo w.served w.lin w.repl w.swapNow w.oos w.known w.testing w.stepAt).tw[3].graft = some 32 ∧ (retiring.modTw 3 fun (w : Tower) => Tower.mk w.slices w.phases w.graft 31 GStep.ready w.paused w.waived w.deferred w.swaps w.fails w.lastSwap w.grid w.period0 w.grids w.lastFail w.phFail w.undo w.served w.lin w.repl w.swapNow w.oos w.known w.testing w.stepAt).tw[3].repl = [Repl.mk 31 (some 31) 0 true] ∧ ((Repl.mk 31 (some 31) 0 true).ready = false ∧ (Repl.mk 31 (some 31) 0 true).due ≤ max (retiring.modTw 3 fun (w : Tower) => Tower.mk w.slices w.phases w.graft 31 GStep.ready w.paused w.waived w.deferred w.swaps w.fails w.lastSwap w.grid w.period0 w.grids w.lastFail w.phFail w.undo w.served w.lin w.repl w.swapNow w.oos w.known w.testing w.stepAt).clk 5 ∨ (Repl.mk 31 (some 31) 0 true).ready = true ∧ (retiring.modTw 3 fun (w : Tower) => Tower.mk w.slices w.phases w.graft 31 GStep.ready w.paused w.waived w.deferred w.swaps w.fails w.lastSwap w.grid w.period0 w.grids w.lastFail w.phFail w.undo w.served w.lin w.repl w.swapNow w.oos w.known w.testing w.stepAt).tw[3].gstep = GStep.ready ∧ (retiring.modTw 3 fun (w : Tower) => Tower.mk w.slices w.phases w.graft 31 GStep.ready w.paused w.waived w.deferred w.swaps w.fails w.lastSwap w.grid w.period0 w.grids w.lastFail w.phFail w.undo w.served w.lin w.repl w.swapNow w.oos w.known w.testing w.stepAt).tw[3].target = (Repl.mk 31 (some 31) 0 true).phase ∧ (retiring.modTw 3 fun (w : Tower) => Tower.mk w.slices w.phases w.graft 31 GStep.ready w.paused w.waived w.deferred w.swaps w.fails w.lastSwap w.grid w.period0 w.grids w.lastFail w.phFail w.undo w.served w.lin w.repl w.swapNow w.oos w.known w.testing w.stepAt).boundaryFrom ((retiring.modTw 3 fun (w : Tower) => Tower.mk w.slices w.phases w.graft 31 GStep.ready w.paused w.waived w.deferred w.swaps w.fails w.lastSwap w.grid w.period0 w.grids w.lastFail w.phFail w.undo w.served w.lin w.repl w.swapNow w.oos w.known w.testing w.stepAt).tw[3].stepAt + 1) ≤ max (retiring.modTw 3 fun (w : Tower) => Tower.mk w.slices w.phases w.graft 31 GStep.ready w.paused w.waived w.deferred w.swaps w.fails w.lastSwap w.grid w.period0 w.grids w.lastFail w.phFail w.undo w.served w.lin w.repl w.swapNow w.oos w.known w.testing w.stepAt).clk 5))
    ∧ (untested.towerOn 1 = true ∧ untested.tw[1].known = false ∧ (∀ (x : Fin 33), testPasses ((List.replicate 33 passed).getD (↑x) default) = true)) := by
  repeat' with_reducible apply And.intro
  all_goals first | decide +kernel | (intros; rfl) | (intro _ _ h; cases h) | exact ⟨_, List.Mem.head _, rfl⟩

set_option maxRecDepth 20000 in
/-- The hypotheses of `Obligations.SlicesFailAndAreReplaced` are met, part 3 of 3. -/
theorem witness_SlicesFailAndAreReplaced_3 :
    (ramping.rampOf (RampElem.ofs 0 32) = some (Ramp.mk (RampElem.ofs 0 32) 0 44 1 0 2047) ∧ max ramping.clk 43 < (Ramp.mk (RampElem.ofs 0 32) 0 44 1 0 2047).start + ((Ramp.mk (RampElem.ofs 0 32) 0 44 1 0 2047).step + 1) * (Ramp.mk (RampElem.ofs 0 32) 0 44 1 0 2047).ivl)
    ∧ (ramping.rampOf (RampElem.ofs 0 32) = some (Ramp.mk (RampElem.ofs 0 32) 0 44 1 0 2047) ∧ (Ramp.mk (RampElem.ofs 0 32) 0 44 1 0 2047).start + ((Ramp.mk (RampElem.ofs 0 32) 0 44 1 0 2047).step + 1) * (Ramp.mk (RampElem.ofs 0 32) 0 44 1 0 2047).ivl ≤ max ramping.clk 44) := by
  repeat' with_reducible apply And.intro
  all_goals first | decide +kernel | (intros; rfl) | (intro _ _ h; cases h) | exact ⟨_, List.Mem.head _, rfl⟩

set_option maxRecDepth 20000 in
/-- The hypotheses of `Obligations.GraftControlOperations` are met, part 1 of 4. -/
theorem witness_GraftControlOperations_1 :
    (Ready (issued lit 517 1 (7 :: zs 7)) 5 0 517 (lenIs 8) ∧ graftForm ((issued lit 517 1 (7 :: zs 7)).selTowers ((issued lit 517 1 (7 :: zs 7)).reqOf 0).chsel).length ((issued lit 517 1 (7 :: zs 7)).reqOf 0).payload = false)
    ∧ (Ready (issued lit 517 8 (2 :: zs 7)) 5 0 517 (lenIs 8) ∧ graftForm ((issued lit 517 8 (2 :: zs 7)).selTowers ((issued lit 517 8 (2 :: zs 7)).reqOf 0).chsel).length ((issued lit 517 8 (2 :: zs 7)).reqOf 0).payload = true ∧ (issued lit 517 8 (2 :: zs 7)).graftDenied (((issued lit 517 8 (2 :: zs 7)).selTowers ((issued lit 517 8 (2 :: zs 7)).reqOf 0).chsel).getD (fieldAt ((issued lit 517 8 (2 :: zs 7)).reqOf 0).payload 1 1) 0) (fieldAt ((issued lit 517 8 (2 :: zs 7)).reqOf 0).payload 0 1) (Fin.ofNat 33 (fieldAt ((issued lit 517 8 (2 :: zs 7)).reqOf 0).payload 2 1)) (Fin.ofNat 32 (fieldAt ((issued lit 517 8 (2 :: zs 7)).reqOf 0).payload 3 1)) = true)
    ∧ (Ready (issued lit 517 1 (zs 8)) 5 0 517 (lenIs 8) ∧ graftForm ((issued lit 517 1 (zs 8)).selTowers ((issued lit 517 1 (zs 8)).reqOf 0).chsel).length ((issued lit 517 1 (zs 8)).reqOf 0).payload = true ∧ (issued lit 517 1 (zs 8)).graftDenied (((issued lit 517 1 (zs 8)).selTowers ((issued lit 517 1 (zs 8)).reqOf 0).chsel).getD (fieldAt ((issued lit 517 1 (zs 8)).reqOf 0).payload 1 1) 0) (fieldAt ((issued lit 517 1 (zs 8)).reqOf 0).payload 0 1) (Fin.ofNat 33 (fieldAt ((issued lit 517 1 (zs 8)).reqOf 0).payload 2 1)) (Fin.ofNat 32 (fieldAt ((issued lit 517 1 (zs 8)).reqOf 0).payload 3 1)) = false ∧ ((issued lit 517 1 (zs 8)).reqOf 0).expired ((issued lit 517 1 (zs 8)).reach 5).boundary = false ∧ fieldAt ((issued lit 517 1 (zs 8)).reqOf 0).payload 0 1 = 0)
    ∧ (Ready (issued lit 517 1 (1 :: zs 7)) 5 0 517 (lenIs 8) ∧ graftForm ((issued lit 517 1 (1 :: zs 7)).selTowers ((issued lit 517 1 (1 :: zs 7)).reqOf 0).chsel).length ((issued lit 517 1 (1 :: zs 7)).reqOf 0).payload = true ∧ (issued lit 517 1 (1 :: zs 7)).graftDenied (((issued lit 517 1 (1 :: zs 7)).selTowers ((issued lit 517 1 (1 :: zs 7)).reqOf 0).chsel).getD (fieldAt ((issued lit 517 1 (1 :: zs 7)).reqOf 0).payload 1 1) 0) (fieldAt ((issued lit 517 1 (1 :: zs 7)).reqOf 0).payload 0 1) (Fin.ofNat 33 (fieldAt ((issued lit 517 1 (1 :: zs 7)).reqOf 0).payload 2 1)) (Fin.ofNat 32 (fieldAt ((issued lit 517 1 (1 :: zs 7)).reqOf 0).payload 3 1)) = false ∧ ((issued lit 517 1 (1 :: zs 7)).reqOf 0).expired ((issued lit 517 1 (1 :: zs 7)).reach 5).boundary = false ∧ fieldAt ((issued lit 517 1 (1 :: zs 7)).reqOf 0).payload 0 1 = 1) := by
  repeat' with_reducible apply And.intro
  all_goals first | decide +kernel | (intros; rfl) | (intro _ _ h; cases h) | exact ⟨_, List.Mem.head _, rfl⟩

set_option maxRecDepth 20000 in
/-- The hypotheses of `Obligations.GraftControlOperations` are met, part 2 of 4. -/
theorem witness_GraftControlOperations_2 :
    (Ready (issued paused0 517 1 (2 :: zs 7)) 5 0 517 (lenIs 8) ∧ graftForm ((issued paused0 517 1 (2 :: zs 7)).selTowers ((issued paused0 517 1 (2 :: zs 7)).reqOf 0).chsel).length ((issued paused0 517 1 (2 :: zs 7)).reqOf 0).payload = true ∧ (issued paused0 517 1 (2 :: zs 7)).graftDenied (((issued paused0 517 1 (2 :: zs 7)).selTowers ((issued paused0 517 1 (2 :: zs 7)).reqOf 0).chsel).getD (fieldAt ((issued paused0 517 1 (2 :: zs 7)).reqOf 0).payload 1 1) 0) (fieldAt ((issued paused0 517 1 (2 :: zs 7)).reqOf 0).payload 0 1) (Fin.ofNat 33 (fieldAt ((issued paused0 517 1 (2 :: zs 7)).reqOf 0).payload 2 1)) (Fin.ofNat 32 (fieldAt ((issued paused0 517 1 (2 :: zs 7)).reqOf 0).payload 3 1)) = false ∧ ((issued paused0 517 1 (2 :: zs 7)).reqOf 0).expired ((issued paused0 517 1 (2 :: zs 7)).reach 5).boundary = false ∧ fieldAt ((issued paused0 517 1 (2 :: zs 7)).reqOf 0).payload 0 1 = 2)
    ∧ (Ready (issued lit 517 1 ([3, 0, 0, 31] ++ zs 4)) 5 0 517 (lenIs 8) ∧ graftForm ((issued lit 517 1 ([3, 0, 0, 31] ++ zs 4)).selTowers ((issued lit 517 1 ([3, 0, 0, 31] ++ zs 4)).reqOf 0).chsel).length ((issued lit 517 1 ([3, 0, 0, 31] ++ zs 4)).reqOf 0).payload = true ∧ (issued lit 517 1 ([3, 0, 0, 31] ++ zs 4)).graftDenied (((issued lit 517 1 ([3, 0, 0, 31] ++ zs 4)).selTowers ((issued lit 517 1 ([3, 0, 0, 31] ++ zs 4)).reqOf 0).chsel).getD (fieldAt ((issued lit 517 1 ([3, 0, 0, 31] ++ zs 4)).reqOf 0).payload 1 1) 0) (fieldAt ((issued lit 517 1 ([3, 0, 0, 31] ++ zs 4)).reqOf 0).payload 0 1) (Fin.ofNat 33 (fieldAt ((issued lit 517 1 ([3, 0, 0, 31] ++ zs 4)).reqOf 0).payload 2 1)) (Fin.ofNat 32 (fieldAt ((issued lit 517 1 ([3, 0, 0, 31] ++ zs 4)).reqOf 0).payload 3 1)) = false ∧ ((issued lit 517 1 ([3, 0, 0, 31] ++ zs 4)).reqOf 0).expired ((issued lit 517 1 ([3, 0, 0, 31] ++ zs 4)).reach 5).boundary = false ∧ fieldAt ((issued lit 517 1 ([3, 0, 0, 31] ++ zs 4)).reqOf 0).payload 0 1 = 3)
    ∧ (Ready (issued lit 517 1 ([4, 0, 5, 0] ++ zs 4)) 5 0 517 (lenIs 8) ∧ graftForm ((issued lit 517 1 ([4, 0, 5, 0] ++ zs 4)).selTowers ((issued lit 517 1 ([4, 0, 5, 0] ++ zs 4)).reqOf 0).chsel).length ((issued lit 517 1 ([4, 0, 5, 0] ++ zs 4)).reqOf 0).payload = true ∧ (issued lit 517 1 ([4, 0, 5, 0] ++ zs 4)).graftDenied (((issued lit 517 1 ([4, 0, 5, 0] ++ zs 4)).selTowers ((issued lit 517 1 ([4, 0, 5, 0] ++ zs 4)).reqOf 0).chsel).getD (fieldAt ((issued lit 517 1 ([4, 0, 5, 0] ++ zs 4)).reqOf 0).payload 1 1) 0) (fieldAt ((issued lit 517 1 ([4, 0, 5, 0] ++ zs 4)).reqOf 0).payload 0 1) (Fin.ofNat 33 (fieldAt ((issued lit 517 1 ([4, 0, 5, 0] ++ zs 4)).reqOf 0).payload 2 1)) (Fin.ofNat 32 (fieldAt ((issued lit 517 1 ([4, 0, 5, 0] ++ zs 4)).reqOf 0).payload 3 1)) = false ∧ ((issued lit 517 1 ([4, 0, 5, 0] ++ zs 4)).reqOf 0).expired ((issued lit 517 1 ([4, 0, 5, 0] ++ zs 4)).reach 5).boundary = false ∧ fieldAt ((issued lit 517 1 ([4, 0, 5, 0] ++ zs 4)).reqOf 0).payload 0 1 = 4) := by
  repeat' with_reducible apply And.intro
  all_goals first | decide +kernel | (intros; rfl) | (intro _ _ h; cases h) | exact ⟨_, List.Mem.head _, rfl⟩

set_option maxRecDepth 20000 in
/-- The hypotheses of `Obligations.GraftControlOperations` are met, part 3 of 4. -/
theorem witness_GraftControlOperations_3 :
    (Ready (issued retired5 517 1 ([5, 0, 5, 0] ++ zs 4)) 5 0 517 (lenIs 8) ∧ graftForm ((issued retired5 517 1 ([5, 0, 5, 0] ++ zs 4)).selTowers ((issued retired5 517 1 ([5, 0, 5, 0] ++ zs 4)).reqOf 0).chsel).length ((issued retired5 517 1 ([5, 0, 5, 0] ++ zs 4)).reqOf 0).payload = true ∧ (issued retired5 517 1 ([5, 0, 5, 0] ++ zs 4)).graftDenied (((issued retired5 517 1 ([5, 0, 5, 0] ++ zs 4)).selTowers ((issued retired5 517 1 ([5, 0, 5, 0] ++ zs 4)).reqOf 0).chsel).getD (fieldAt ((issued retired5 517 1 ([5, 0, 5, 0] ++ zs 4)).reqOf 0).payload 1 1) 0) (fieldAt ((issued retired5 517 1 ([5, 0, 5, 0] ++ zs 4)).reqOf 0).payload 0 1) (Fin.ofNat 33 (fieldAt ((issued retired5 517 1 ([5, 0, 5, 0] ++ zs 4)).reqOf 0).payload 2 1)) (Fin.ofNat 32 (fieldAt ((issued retired5 517 1 ([5, 0, 5, 0] ++ zs 4)).reqOf 0).payload 3 1)) = false ∧ ((issued retired5 517 1 ([5, 0, 5, 0] ++ zs 4)).reqOf 0).expired ((issued retired5 517 1 ([5, 0, 5, 0] ++ zs 4)).reach 5).boundary = false ∧ fieldAt ((issued retired5 517 1 ([5, 0, 5, 0] ++ zs 4)).reqOf 0).payload 0 1 = 5 ∧ testPasses passed = true)
    ∧ (Ready (issued retired5 517 1 ([5, 0, 5, 0] ++ zs 4)) 5 0 517 (lenIs 8) ∧ graftForm ((issued retired5 517 1 ([5, 0, 5, 0] ++ zs 4)).selTowers ((issued retired5 517 1 ([5, 0, 5, 0] ++ zs 4)).reqOf 0).chsel).length ((issued retired5 517 1 ([5, 0, 5, 0] ++ zs 4)).reqOf 0).payload = true ∧ (issued retired5 517 1 ([5, 0, 5, 0] ++ zs 4)).graftDenied (((issued retired5 517 1 ([5, 0, 5, 0] ++ zs 4)).selTowers ((issued retired5 517 1 ([5, 0, 5, 0] ++ zs 4)).reqOf 0).chsel).getD (fieldAt ((issued retired5 517 1 ([5, 0, 5, 0] ++ zs 4)).reqOf 0).payload 1 1) 0) (fieldAt ((issued retired5 517 1 ([5, 0, 5, 0] ++ zs 4)).reqOf 0).payload 0 1) (Fin.ofNat 33 (fieldAt ((issued retired5 517 1 ([5, 0, 5, 0] ++ zs 4)).reqOf 0).payload 2 1)) (Fin.ofNat 32 (fieldAt ((issued retired5 517 1 ([5, 0, 5, 0] ++ zs 4)).reqOf 0).payload 3 1)) = false ∧ ((issued retired5 517 1 ([5, 0, 5, 0] ++ zs 4)).reqOf 0).expired ((issued retired5 517 1 ([5, 0, 5, 0] ++ zs 4)).reach 5).boundary = false ∧ fieldAt ((issued retired5 517 1 ([5, 0, 5, 0] ++ zs 4)).reqOf 0).payload 0 1 = 5 ∧ testPasses (SliceTest.mk passed.pass passed.cause passed.tOfs 512 passed.ofsRes passed.gainRes passed.timRes passed.curve) = false) := by
  repeat' with_reducible apply And.intro
  all_goals first | decide +kernel | (intros; rfl) | (intro _ _ h; cases h) | exact ⟨_, List.Mem.head _, rfl⟩

set_option maxRecDepth 20000 in
/-- The hypotheses of `Obligations.GraftControlOperations` are met, part 4 of 4. -/
theorem witness_GraftControlOperations_4 :
    (Ready (issued (atStep 0 GStep.ready) 517 1 (6 :: zs 7)) 5 0 517 (lenIs 8) ∧ graftForm ((issued (atStep 0 GStep.ready) 517 1 (6 :: zs 7)).selTowers ((issued (atStep 0 GStep.ready) 517 1 (6 :: zs 7)).reqOf 0).chsel).length ((issued (atStep 0 GStep.ready) 517 1 (6 :: zs 7)).reqOf 0).payload = true ∧ (issued (atStep 0 GStep.ready) 517 1 (6 :: zs 7)).graftDenied (((issued (atStep 0 GStep.ready) 517 1 (6 :: zs 7)).selTowers ((issued (atStep 0 GStep.ready) 517 1 (6 :: zs 7)).reqOf 0).chsel).getD (fieldAt ((issued (atStep 0 GStep.ready) 517 1 (6 :: zs 7)).reqOf 0).payload 1 1) 0) (fieldAt ((issued (atStep 0 GStep.ready) 517 1 (6 :: zs 7)).reqOf 0).payload 0 1) (Fin.ofNat 33 (fieldAt ((issued (atStep 0 GStep.ready) 517 1 (6 :: zs 7)).reqOf 0).payload 2 1)) (Fin.ofNat 32 (fieldAt ((issued (atStep 0 GStep.ready) 517 1 (6 :: zs 7)).reqOf 0).payload 3 1)) = false ∧ ((issued (atStep 0 GStep.ready) 517 1 (6 :: zs 7)).reqOf 0).expired ((issued (atStep 0 GStep.ready) 517 1 (6 :: zs 7)).reach 5).boundary = false ∧ fieldAt ((issued (atStep 0 GStep.ready) 517 1 (6 :: zs 7)).reqOf 0).payload 0 1 = 6) := by
  repeat' with_reducible apply And.intro
  all_goals first | decide +kernel | (intros; rfl) | (intro _ _ h; cases h) | exact ⟨_, List.Mem.head _, rfl⟩

/-- CAL_RUN work of a kind on channel A is outstanding. -/
def calWork (kind : Nat) : Work := ⟨0, 0x0201, 7, 0, 1, kind⟩

/-- A state with that work. -/
def calibrating (kind : Nat) : State := lit.modMr (fun m => { m with work := [calWork kind] })

/-- Results inside their limits. -/
def results : CalResult := { (default : CalResult) with inRange := true, delays := [(1, 5)], corrs := [(0, 3, -2)], eqs := [(3, List.replicate 16 1)], fe := [(2, 9)] }

/-- The payload of LOAD_CURVE for slice 32 of the first tower, 8,192 bytes at address 0. -/
def curveLoad (x : Nat) : List Byte := [0, 0, byteOf x, 0] ++ zs 12 ++ leBytes 4 8192 ++ zs 4

/-- The payload of LOAD_CURVE for the equaliser set of channel phase 5. -/
def eqLoad : List Byte := [1, 0, 0, 0, 5, 0] ++ zs 10 ++ leBytes 4 64 ++ zs 4

/-- The identity curve's bytes. -/
def idCurve : List Byte := identityCurve.flatMap (fun v => leBytes 2 (encInt 16 v))

/-- A 16-bit field of bytes that stand in pairs. -/
theorem fieldAt_pairs (f : Int → List Byte) (hf : ∀ v, ∃ a b, f v = [a, b]) :
    ∀ (l : List Int) (i : Nat) (h : i < l.length), fieldAt (l.flatMap f) (2 * i) 2 = fieldAt (f l[i]) 0 2
  | v :: l, 0, _ => by
    obtain ⟨a, b, h⟩ := hf v
    simp [fieldAt, byteAt, h, List.range_succ]
  | v :: l, i + 1, h => by
    have ih := fieldAt_pairs f hf l i (by simpa using h)
    obtain ⟨a, b, h⟩ := hf v
    rw [List.getElem_cons_succ, ← ih]
    simp [fieldAt, byteAt, h, List.range_succ, Nat.mul_add]

/-- An entry of the identity curve reads back as itself. -/
theorem read_entry (i : Nat) (h : i < 4096) :
    decInt 16 (fieldAt (leBytes 2 (encInt 16 (((i : Int) - 2048) * 16))) 0 2) = ((i : Int) - 2048) * 16 := by
  have h1 : fieldAt (leBytes 2 (encInt 16 (((i : Int) - 2048) * 16))) 0 2 = encInt 16 (((i : Int) - 2048) * 16) % 65536 := by
    generalize encInt 16 (((i : Int) - 2048) * 16) = n
    simp [fieldAt, byteAt, List.range_succ, leBytes, ofLe, byteOf]
    omega
  rw [h1]
  unfold decInt encInt
  dsimp only
  split <;> omega

/-- The first `n` entries of the identity curve read back. -/
theorem steps_read (n : Nat) (hn : n ≤ 4096) (l : List Int) (hl : l = (List.range n).map (fun (i : Nat) => ((i : Int) - 2048) * 16)) :
    (List.range n).map (fun i => decInt 16 (fieldAt (l.flatMap (fun v => leBytes 2 (encInt 16 v))) (2 * i) 2)) = l := by
  have len : l.length = n := by rw [hl, List.length_map, List.length_range]
  apply List.ext_getElem
  · rw [List.length_map, List.length_range, len]
  · intro i h1 h2
    have hg : l[i] = ((i : Int) - 2048) * 16 := by simp only [hl, List.getElem_map, List.getElem_range]
    rw [List.getElem_map, List.getElem_range, fieldAt_pairs (fun v => leBytes 2 (encInt 16 v)) (fun v => ⟨byteOf (encInt 16 v), byteOf (encInt 16 v / 256), rfl⟩) l i h2, hg]
    exact read_entry i (by omega)

/-- The identity curve is valid (05 R127). -/
theorem idCurve_valid : curveValid (curveOf idCurve) = true := by
  have h : curveOf idCurve = identityCurve := steps_read 4096 (by omega) identityCurve rfl
  rw [h]
  decide +kernel

/-- An equaliser set beyond 18 bits, and a curve that falls. -/
def badEq : List Byte := List.replicate 64 0x7F#8
def badCurve : List Byte := 1#8 :: zs 8191

/-- A store of bank 1 is under way. -/
def storing : State := lit.modCal (fun c => { c with storing := some (1, ⟨[(0, [1])], [], [], [], [], [], []⟩, 77) })

/-- Bank 1 valid, and a curve pending. -/
def twoBanks : State := lit.modCal (fun c => { c with
  bank1 := storedBank 4 9 0 ⟨[], [], [], [], [(0, 3)], [], []⟩, pendCurves := [(0, [])] })

/-- That bank is valid: a store left it. -/
theorem twoBanks_valid : ((issued twoBanks 0x0204 0 (1 :: zs 7)).cal.bank (issued twoBanks 0x0204 0 (1 :: zs 7)).cal.inactive).valid = true :=
  storedBank_valid 4 9 0 _

/-- Input A connected; the working set holds the front-end delays of channel A in mode 0: no delay. -/
def measured0 : State := (lit.modFe 0 (fun f => { f with prot := .closed })).modCal (fun c => { c with ws := { c.ws with fe := (List.range 7).map (fun i => (i, 0)) } })

/-- The timing-skew loop is on. -/
def skewOn : State := measured0.modMr (fun m => { m with recorded := [⟨0x0301, 0, 1#64⟩] })

/-- The timing-skew loop is off. -/
def skewOff : State := measured0.modMr (fun m => { m with recorded := [⟨0x0301, 0, 0#64⟩] })

/-- CAL_COMMIT work is outstanding. -/
def committingCal : State := (lit.modMr (fun m => { m with work := [⟨0, 0x0203, 7, 0, 0, 0⟩] }))

/-- One slice's trims, measured in four windows with signal enough. -/
def fit : SliceFit := ⟨5, 3000, 40, List.replicate 4 (false, 64)⟩

/-- A window's codes without slope, of 16 samples more than the window's one. -/
def level : Codes := List.replicate 18 0#12

/-- The channel runs. -/
def runs0 : State := lit.modCh 0 (fun h => { h with st := .armed })

/-- 16 windows' ticks after the last window. -/
def late : Nat := 67108864


set_option maxRecDepth 20000 in
/-- The hypotheses of `Obligations.CalibrationRuns` are met, part 1 of 2. -/
theorem witness_CalibrationRuns_1 :
    (Ready (fresh 513 1 (6 :: zs 7)) 5 0 513 (lenIs 8) ∧ (((!decide (fieldAt ((fresh 513 1 (6 :: zs 7)).reqOf 0).payload 0 1 ≤ 5) || if fieldAt ((fresh 513 1 (6 :: zs 7)).reqOf 0).payload 0 1 = 0 ∨ fieldAt ((fresh 513 1 (6 :: zs 7)).reqOf 0).payload 0 1 = 5 then fieldAt ((fresh 513 1 (6 :: zs 7)).reqOf 0).payload 1 1 == 0 else fieldAt ((fresh 513 1 (6 :: zs 7)).reqOf 0).payload 1 1 != 0) || !allZero (List.drop 2 ((fresh 513 1 (6 :: zs 7)).reqOf 0).payload)) = true))
    ∧ (Ready (fresh 513 1 (0 :: zs 7)) 5 0 513 (lenIs 8) ∧ (((!decide (fieldAt ((fresh 513 1 (0 :: zs 7)).reqOf 0).payload 0 1 ≤ 5) || if fieldAt ((fresh 513 1 (0 :: zs 7)).reqOf 0).payload 0 1 = 0 ∨ fieldAt ((fresh 513 1 (0 :: zs 7)).reqOf 0).payload 0 1 = 5 then fieldAt ((fresh 513 1 (0 :: zs 7)).reqOf 0).payload 1 1 == 0 else fieldAt ((fresh 513 1 (0 :: zs 7)).reqOf 0).payload 1 1 != 0) || !allZero (List.drop 2 ((fresh 513 1 (0 :: zs 7)).reqOf 0).payload)) = true))
    ∧ (Ready (fresh 513 1 (3 :: zs 7)) 5 0 513 (lenIs 8) ∧ (((!decide (fieldAt ((fresh 513 1 (3 :: zs 7)).reqOf 0).payload 0 1 ≤ 5) || if fieldAt ((fresh 513 1 (3 :: zs 7)).reqOf 0).payload 0 1 = 0 ∨ fieldAt ((fresh 513 1 (3 :: zs 7)).reqOf 0).payload 0 1 = 5 then fieldAt ((fresh 513 1 (3 :: zs 7)).reqOf 0).payload 1 1 == 0 else fieldAt ((fresh 513 1 (3 :: zs 7)).reqOf 0).payload 1 1 != 0) || !allZero (List.drop 2 ((fresh 513 1 (3 :: zs 7)).reqOf 0).payload)) = false) ∧ (fresh 513 1 (3 :: zs 7)).calMay (fieldAt ((fresh 513 1 (3 :: zs 7)).reqOf 0).payload 0 1) (selChans ((fresh 513 1 (3 :: zs 7)).reqOf 0).chsel) = false)
    ∧ (Ready (issued (calibrating 1) 513 1 (2 :: zs 7)) 5 0 513 (lenIs 8) ∧ (((!decide (fieldAt ((issued (calibrating 1) 513 1 (2 :: zs 7)).reqOf 0).payload 0 1 ≤ 5) || if fieldAt ((issued (calibrating 1) 513 1 (2 :: zs 7)).reqOf 0).payload 0 1 = 0 ∨ fieldAt ((issued (calibrating 1) 513 1 (2 :: zs 7)).reqOf 0).payload 0 1 = 5 then fieldAt ((issued (calibrating 1) 513 1 (2 :: zs 7)).reqOf 0).payload 1 1 == 0 else fieldAt ((issued (calibrating 1) 513 1 (2 :: zs 7)).reqOf 0).payload 1 1 != 0) || !allZero (List.drop 2 ((issued (calibrating 1) 513 1 (2 :: zs 7)).reqOf 0).payload)) = false) ∧ (issued (calibrating 1) 513 1 (2 :: zs 7)).calMay (fieldAt ((issued (calibrating 1) 513 1 (2 :: zs 7)).reqOf 0).payload 0 1) (selChans ((issued (calibrating 1) 513 1 (2 :: zs 7)).reqOf 0).chsel) = true ∧ (∃ (c : Fin 4), c ∈ selChans ((issued (calibrating 1) 513 1 (2 :: zs 7)).reqOf 0).chsel ∧ (issued (calibrating 1) 513 1 (2 :: zs 7)).calHeld c = true)) := by
  repeat' with_reducible apply And.intro
  all_goals first | decide +kernel | (intros; rfl) | (intro _ _ h; cases h) | exact ⟨_, List.Mem.head _, rfl⟩

set_option maxRecDepth 20000 in
/-- The hypotheses of `Obligations.CalibrationRuns` are met, part 2 of 2. -/
theorem witness_CalibrationRuns_2 :
    (Ready (fresh 513 1 (5 :: 255 :: zs 6)) 5 0 513 (lenIs 8) ∧ (((!decide (fieldAt ((fresh 513 1 (5 :: 255 :: zs 6)).reqOf 0).payload 0 1 ≤ 5) || if fieldAt ((fresh 513 1 (5 :: 255 :: zs 6)).reqOf 0).payload 0 1 = 0 ∨ fieldAt ((fresh 513 1 (5 :: 255 :: zs 6)).reqOf 0).payload 0 1 = 5 then fieldAt ((fresh 513 1 (5 :: 255 :: zs 6)).reqOf 0).payload 1 1 == 0 else fieldAt ((fresh 513 1 (5 :: 255 :: zs 6)).reqOf 0).payload 1 1 != 0) || !allZero (List.drop 2 ((fresh 513 1 (5 :: 255 :: zs 6)).reqOf 0).payload)) = false) ∧ (fresh 513 1 (5 :: 255 :: zs 6)).calMay (fieldAt ((fresh 513 1 (5 :: 255 :: zs 6)).reqOf 0).payload 0 1) (selChans ((fresh 513 1 (5 :: 255 :: zs 6)).reqOf 0).chsel) = true ∧ (∀ (c : Fin 4), c ∈ selChans ((fresh 513 1 (5 :: 255 :: zs 6)).reqOf 0).chsel → (fresh 513 1 (5 :: 255 :: zs 6)).calHeld c = false) ∧ (fresh 513 1 (5 :: 255 :: zs 6)).mr.work.length < 16 ∧ (combKind (fieldAt ((fresh 513 1 (5 :: 255 :: zs 6)).reqOf 0).payload 0 1) = true → ∀ (c : Fin 4), c ∈ selChans ((fresh 513 1 (5 :: 255 :: zs 6)).reqOf 0).chsel → (fresh 513 1 (5 :: 255 :: zs 6)).ckey 259 c = 0))
    ∧ (List.find? (Work.calOf 1) (calibrating 1).mr.work = none)
    ∧ (1 % 6 < 6 ∧ List.find? (Work.calOf 0) (calibrating 1).mr.work = some (calWork 1) ∧ (calWork 1).arg2 % 256 = 1 ∧ combKind 1 = true ∧ calOk default = false)
    ∧ (0 % 6 < 6 ∧ List.find? (Work.calOf 0) (calibrating 0).mr.work = some (calWork 0) ∧ (calWork 0).arg2 % 256 = 0 ∧ combKind 0 = true ∧ calOk results = true)
    ∧ (1 % 6 < 6 ∧ List.find? (Work.calOf 0) (calibrating 1).mr.work = some (calWork 1) ∧ (calWork 1).arg2 % 256 = 1 ∧ combKind 1 = true ∧ calOk results = true)
    ∧ (2 % 6 < 6 ∧ List.find? (Work.calOf 0) (calibrating 2).mr.work = some (calWork 2) ∧ (calWork 2).arg2 % 256 = 2 ∧ combKind 2 = true ∧ calOk results = true)
    ∧ (3 % 6 < 6 ∧ List.find? (Work.calOf 0) (calibrating 3).mr.work = some (calWork 3) ∧ (calWork 3).arg2 % 256 = 3 ∧ combKind 3 = false ∧ (CalResult.mk true results.inRange results.eqs results.delays results.corrs results.fe results.fits results.residual).final = true ∧ (CalResult.mk true results.inRange results.eqs results.delays results.corrs results.fe results.fits results.residual).fits = [])
    ∧ (4 % 6 < 6 ∧ List.find? (Work.calOf 0) (calibrating 4).mr.work = some (calWork 4) ∧ (calWork 4).arg2 % 256 = 4 ∧ results.final = false)
    ∧ (3 % 6 < 6 ∧ List.find? (Work.calOf 0) (calibrating 3).mr.work = some (calWork 3) ∧ (calWork 3).arg2 % 256 = 3 ∧ (CalResult.mk results.final results.inRange results.eqs results.delays results.corrs results.fe [fit] results.residual).final = false ∧ (CalResult.mk results.final results.inRange results.eqs results.delays results.corrs results.fe [fit] results.residual).fits = [fit] ∧ List.find? (fun (e : Fin 4 × Fin 33) => sliceKey e.fst e.snd == fit.slice) ((calibrating 3).toCover (calWork 3).arg) = some (0, 5) ∧ fitDone fit = true ∧ (calibrating 3).towerOn 0 = true)
    ∧ (Ready (fresh 514 1 []) 5 0 514 (lenIs 0)) := by
  repeat' with_reducible apply And.intro
  all_goals first | decide +kernel | (intros; rfl) | (intro _ _ h; cases h) | exact ⟨_, List.Mem.head _, rfl⟩

set_option maxRecDepth 20000 in
/-- The hypotheses of `Obligations.CurvesAndBanks` are met, part 1 of 4. -/
theorem witness_CurvesAndBanks_1 :
    (Ready (fresh 518 1 (curveLoad 33)) 5 0 518 (lenIs 24) ∧ curveForm ((fresh 518 1 (curveLoad 33)).selTowers ((fresh 518 1 (curveLoad 33)).reqOf 0).chsel).length ((fresh 518 1 (curveLoad 33)).reqOf 0).payload = false)
    ∧ (Ready (fresh 518 1 (curveLoad 32)) 5 0 518 (lenIs 24) ∧ curveForm ((fresh 518 1 (curveLoad 32)).selTowers ((fresh 518 1 (curveLoad 32)).reqOf 0).chsel).length ((fresh 518 1 (curveLoad 32)).reqOf 0).payload = true ∧ (fresh 518 1 (curveLoad 32)).calHeld ((selChans ((fresh 518 1 (curveLoad 32)).reqOf 0).chsel).headD 0) = false)
    ∧ (Ready (fresh 518 1 eqLoad) 5 0 518 (lenIs 24) ∧ curveForm ((fresh 518 1 eqLoad).selTowers ((fresh 518 1 eqLoad).reqOf 0).chsel).length ((fresh 518 1 eqLoad).reqOf 0).payload = true ∧ fieldAt ((fresh 518 1 eqLoad).reqOf 0).payload 0 1 = 1 ∧ (fresh 518 1 eqLoad).calHeld ((selChans ((fresh 518 1 eqLoad).reqOf 0).chsel).headD 0) = false ∧ bulkBytes ((fresh 518 1 eqLoad).reqOf 0).payload 8 (some badEq) = some badEq ∧ eqValid (eqOf badEq) = false)
    ∧ (Ready (fresh 518 1 eqLoad) 5 0 518 (lenIs 24) ∧ curveForm ((fresh 518 1 eqLoad).selTowers ((fresh 518 1 eqLoad).reqOf 0).chsel).length ((fresh 518 1 eqLoad).reqOf 0).payload = true ∧ fieldAt ((fresh 518 1 eqLoad).reqOf 0).payload 0 1 = 1 ∧ (fresh 518 1 eqLoad).calHeld ((selChans ((fresh 518 1 eqLoad).reqOf 0).chsel).headD 0) = false ∧ bulkBytes ((fresh 518 1 eqLoad).reqOf 0).payload 8 (some []) = some (zs 64) ∧ eqValid (eqOf (zs 64)) = true ∧ (fresh 518 1 eqLoad).running ((selChans ((fresh 518 1 eqLoad).reqOf 0).chsel).headD 0) = false)
    ∧ (Ready (issued runs0 518 1 eqLoad) 5 0 518 (lenIs 24) ∧ curveForm ((issued runs0 518 1 eqLoad).selTowers ((issued runs0 518 1 eqLoad).reqOf 0).chsel).length ((issued runs0 518 1 eqLoad).reqOf 0).payload = true ∧ fieldAt ((issued runs0 518 1 eqLoad).reqOf 0).payload 0 1 = 1 ∧ (issued runs0 518 1 eqLoad).calHeld ((selChans ((issued runs0 518 1 eqLoad).reqOf 0).chsel).headD 0) = false ∧ bulkBytes ((issued runs0 518 1 eqLoad).reqOf 0).payload 8 (some []) = some (zs 64) ∧ eqValid (eqOf (zs 64)) = true ∧ (issued runs0 518 1 eqLoad).running ((selChans ((issued runs0 518 1 eqLoad).reqOf 0).chsel).headD 0) = true)
    ∧ (Ready (fresh 518 1 (curveLoad 32)) 5 0 518 (lenIs 24) ∧ curveForm ((fresh 518 1 (curveLoad 32)).selTowers ((fresh 518 1 (curveLoad 32)).reqOf 0).chsel).length ((fresh 518 1 (curveLoad 32)).reqOf 0).payload = true ∧ fieldAt ((fresh 518 1 (curveLoad 32)).reqOf 0).payload 0 1 = 0 ∧ bulkBytes ((fresh 518 1 (curveLoad 32)).reqOf 0).payload 8 (some badCurve) = some badCurve ∧ curveValid (curveOf badCurve) = false) := by
  repeat' with_reducible apply And.intro
  all_goals first | decide +kernel | (intros; rfl) | (intro _ _ h; cases h) | exact ⟨_, List.Mem.head _, rfl⟩

set_option maxRecDepth 20000 in
/-- The hypotheses of `Obligations.CurvesAndBanks` are met, part 2 of 4. -/
theorem witness_CurvesAndBanks_2 :
    (Ready (issued (calibrating 1) 518 1 (curveLoad 32)) 5 0 518 (lenIs 24) ∧ curveForm ((issued (calibrating 1) 518 1 (curveLoad 32)).selTowers ((issued (calibrating 1) 518 1 (curveLoad 32)).reqOf 0).chsel).length ((issued (calibrating 1) 518 1 (curveLoad 32)).reqOf 0).payload = true ∧ fieldAt ((issued (calibrating 1) 518 1 (curveLoad 32)).reqOf 0).payload 0 1 = 0 ∧ bulkBytes ((issued (calibrating 1) 518 1 (curveLoad 32)).reqOf 0).payload 8 (some idCurve) = some idCurve ∧ curveValid (curveOf idCurve) = true ∧ (issued (calibrating 1) 518 1 (curveLoad 32)).calHeld ((selChans ((issued (calibrating 1) 518 1 (curveLoad 32)).reqOf 0).chsel).headD 0) = true)
    ∧ (Ready (fresh 518 1 (curveLoad 32)) 5 0 518 (lenIs 24) ∧ curveForm ((fresh 518 1 (curveLoad 32)).selTowers ((fresh 518 1 (curveLoad 32)).reqOf 0).chsel).length ((fresh 518 1 (curveLoad 32)).reqOf 0).payload = true ∧ fieldAt ((fresh 518 1 (curveLoad 32)).reqOf 0).payload 0 1 = 0 ∧ bulkBytes ((fresh 518 1 (curveLoad 32)).reqOf 0).payload 8 (some idCurve) = some idCurve ∧ curveValid (curveOf idCurve) = true ∧ (fresh 518 1 (curveLoad 32)).calHeld ((selChans ((fresh 518 1 (curveLoad 32)).reqOf 0).chsel).headD 0) = false ∧ (((fresh 518 1 (curveLoad 32)).tw[((fresh 518 1 (curveLoad 32)).selTowers ((fresh 518 1 (curveLoad 32)).reqOf 0).chsel).getD (fieldAt ((fresh 518 1 (curveLoad 32)).reqOf 0).payload 1 1) 0].phaseOf (Fin.ofNat 33 (fieldAt ((fresh 518 1 (curveLoad 32)).reqOf 0).payload 2 1))).isSome && ((fresh 518 1 (curveLoad 32)).slice (((fresh 518 1 (curveLoad 32)).selTowers ((fresh 518 1 (curveLoad 32)).reqOf 0).chsel).getD (fieldAt ((fresh 518 1 (curveLoad 32)).reqOf 0).payload 1 1) 0) (Fin.ofNat 33 (fieldAt ((fresh 518 1 (curveLoad 32)).reqOf 0).payload 2 1))).cause == 0 && (fresh 518 1 (curveLoad 32)).sliceOn (((fresh 518 1 (curveLoad 32)).selTowers ((fresh 518 1 (curveLoad 32)).reqOf 0).chsel).getD (fieldAt ((fresh 518 1 (curveLoad 32)).reqOf 0).payload 1 1) 0) (Fin.ofNat 33 (fieldAt ((fresh 518 1 (curveLoad 32)).reqOf 0).payload 2 1)) && (fresh 518 1 (curveLoad 32)).running ((selChans ((fresh 518 1 (curveLoad 32)).reqOf 0).chsel).headD 0)) = false) := by
  repeat' with_reducible apply And.intro
  all_goals first | (with_reducible exact idCurve_valid) | (with_reducible exact twoBanks_valid) | decide +kernel | (intros; rfl) | (intro _ _ h; cases h) | exact ⟨_, List.Mem.head _, rfl⟩

set_option maxRecDepth 20000 in
/-- The hypotheses of `Obligations.CurvesAndBanks` are met, part 3 of 4. -/
theorem witness_CurvesAndBanks_3 :
    (Ready (issued runs0 518 1 (curveLoad 31)) 5 0 518 (lenIs 24) ∧ curveForm ((issued runs0 518 1 (curveLoad 31)).selTowers ((issued runs0 518 1 (curveLoad 31)).reqOf 0).chsel).length ((issued runs0 518 1 (curveLoad 31)).reqOf 0).payload = true ∧ fieldAt ((issued runs0 518 1 (curveLoad 31)).reqOf 0).payload 0 1 = 0 ∧ bulkBytes ((issued runs0 518 1 (curveLoad 31)).reqOf 0).payload 8 (some idCurve) = some idCurve ∧ curveValid (curveOf idCurve) = true ∧ (issued runs0 518 1 (curveLoad 31)).calHeld ((selChans ((issued runs0 518 1 (curveLoad 31)).reqOf 0).chsel).headD 0) = false ∧ (((issued runs0 518 1 (curveLoad 31)).tw[((issued runs0 518 1 (curveLoad 31)).selTowers ((issued runs0 518 1 (curveLoad 31)).reqOf 0).chsel).getD (fieldAt ((issued runs0 518 1 (curveLoad 31)).reqOf 0).payload 1 1) 0].phaseOf (Fin.ofNat 33 (fieldAt ((issued runs0 518 1 (curveLoad 31)).reqOf 0).payload 2 1))).isSome && ((issued runs0 518 1 (curveLoad 31)).slice (((issued runs0 518 1 (curveLoad 31)).selTowers ((issued runs0 518 1 (curveLoad 31)).reqOf 0).chsel).getD (fieldAt ((issued runs0 518 1 (curveLoad 31)).reqOf 0).payload 1 1) 0) (Fin.ofNat 33 (fieldAt ((issued runs0 518 1 (curveLoad 31)).reqOf 0).payload 2 1))).cause == 0 && (issued runs0 518 1 (curveLoad 31)).sliceOn (((issued runs0 518 1 (curveLoad 31)).selTowers ((issued runs0 518 1 (curveLoad 31)).reqOf 0).chsel).getD (fieldAt ((issued runs0 518 1 (curveLoad 31)).reqOf 0).payload 1 1) 0) (Fin.ofNat 33 (fieldAt ((issued runs0 518 1 (curveLoad 31)).reqOf 0).payload 2 1)) && (issued runs0 518 1 (curveLoad 31)).running ((selChans ((issued runs0 518 1 (curveLoad 31)).reqOf 0).chsel).headD 0)) = true)
    ∧ (Ready (issued committingCal 515 0 []) 5 0 515 (lenIs 0) ∧ (issued committingCal 515 0 []).working 515 = true)
    ∧ (Ready (fresh 515 0 []) 5 0 515 (lenIs 0) ∧ (fresh 515 0 []).working 515 = false ∧ (fresh 515 0 []).working 2305 = false ∧ (fresh 515 0 []).mr.work.length < 16 ∧ (fresh 515 0 []).cal.seq < 4294967295)
    ∧ (lit.cal.storing = none)
    ∧ (storing.cal.storing = some (1, WorkSet.mk [(0, [1])] [] [] [] [] [] [], 77))
    ∧ (Ready (issued twoBanks 516 0 (zs 8)) 5 0 516 (lenIs 8) ∧ allZero (List.drop 1 ((issued twoBanks 516 0 (zs 8)).reqOf 0).payload) = true ∧ (issued twoBanks 516 0 (zs 8)).working 515 = false ∧ (issued twoBanks 516 0 (zs 8)).working 513 = false ∧ (issued twoBanks 516 0 (zs 8)).working 2305 = false ∧ (∀ (c : Fin 4), (issued twoBanks 516 0 (zs 8)).running c = false) ∧ (issued twoBanks 516 0 (zs 8)).cal.active = some 0 ∧ fieldAt ((issued twoBanks 516 0 (zs 8)).reqOf 0).payload 0 1 = 0 ∧ (issued twoBanks 516 0 (zs 8)).cal.seq < 4294967295) := by
  repeat' with_reducible apply And.intro
  all_goals first | (with_reducible exact idCurve_valid) | (with_reducible exact twoBanks_valid) | decide +kernel | (intros; rfl) | (intro _ _ h; cases h) | exact ⟨_, List.Mem.head _, rfl⟩

set_option maxRecDepth 20000 in
/-- The hypotheses of `Obligations.CurvesAndBanks` are met, part 4 of 4. -/
theorem witness_CurvesAndBanks_4 :
    (Ready (issued twoBanks 516 0 (1 :: zs 7)) 5 0 516 (lenIs 8) ∧ allZero (List.drop 1 ((issued twoBanks 516 0 (1 :: zs 7)).reqOf 0).payload) = true ∧ (issued twoBanks 516 0 (1 :: zs 7)).working 515 = false ∧ (issued twoBanks 516 0 (1 :: zs 7)).working 513 = false ∧ (issued twoBanks 516 0 (1 :: zs 7)).working 2305 = false ∧ (∀ (c : Fin 4), (issued twoBanks 516 0 (1 :: zs 7)).running c = false) ∧ (issued twoBanks 516 0 (1 :: zs 7)).cal.active = some 0 ∧ fieldAt ((issued twoBanks 516 0 (1 :: zs 7)).reqOf 0).payload 0 1 = 1 ∧ ((issued twoBanks 516 0 (1 :: zs 7)).cal.bank (issued twoBanks 516 0 (1 :: zs 7)).cal.inactive).valid = true ∧ (issued twoBanks 516 0 (1 :: zs 7)).cal.seq < 4294967295) := by
  repeat' with_reducible apply And.intro
  all_goals first | (with_reducible exact idCurve_valid) | (with_reducible exact twoBanks_valid) | decide +kernel | (intros; rfl) | (intro _ _ h; cases h) | exact ⟨_, List.Mem.head _, rfl⟩

set_option maxRecDepth 20000 in
/-- The hypotheses of `Obligations.SkewLoopWindows` are met. -/
theorem witness_SkewLoopWindows :
    ((State.reset.present 0 && (State.reset.towers 0).all State.reset.towerOn && (State.reset.reach 5).skewEnds 0 0 ((State.reset.reach 5).skewStream 0 [])) = false)
    ∧ ((measured0.present 0 && (measured0.towers 0).all measured0.towerOn && (measured0.reach late).skewEnds 0 late ((measured0.reach late).skewStream late level)) = true)
    ∧ ((((lit.reach 5).phaseIndexes 0 ((lit.reach 5).skewStream 5 []) 3).length < skewLen ∨ (lit.reach 5).disturbed 0 3 lit.cal.winFrom[0] = true))
    ∧ (skewOff.mkey 769 = 0)
    ∧ (skewOn.mkey 769 ≠ 0) := by
  repeat' with_reducible apply And.intro
  all_goals first | decide +kernel | (intros; rfl) | (intro _ _ h; cases h) | exact ⟨_, List.Mem.head _, rfl⟩

/-- Reference qualified, LOCKED. -/
def locked : State := (lit.modCk (fun k => { k with refState := 1, refFreq := 1, refQual := true, disc := 1, firstQual := true })).modTm
  (fun m => { m with qual := 1#5 })

/-- SLEWING. -/
def slewing : State := locked.modCk (fun k => { k with disc := 4 })

/-- Reference present, not qualified. -/
def present : State := lit.modCk (fun k => { k with refState := 1, refFreq := 1 })

/-- Waiting for a step. -/
def stepPending : State := locked.modCk (fun k => { k with disc := 5 })

/-- The same in a manager. -/
def stepManager : State := stepPending.modAr (fun a => { a with role := 1, astate := 2, addr := 0, mgr := 0 })

/-- A member to which a step or mark at tick 1000 is announced. -/
def announcedTo (kind : Nat) : State := lit.modAr (fun a => { a with
  role := 3, astate := 2, addr := 5, epochs := [⟨1000, 8, kind, none⟩] })

/-- A relock in a step, at its first attempt. -/
def relocking (step attempt : Nat) : State := lit.modCk (fun k => { k with
  synth := 1, relock := some ⟨3, step, attempt, ⟨0, 5, 1, 1⟩, 5, 0⟩ })

/-- Its record. -/
def rl (step attempt : Nat) : Relock := ⟨3, step, attempt, ⟨0, 5, 1, 1⟩, 5, 0⟩

/-- One entry of a band table. -/
def bands (n : Nat) : List Byte := byteOf n :: zs 7 ++ leBytes 2 0 ++ [5, 3] ++ leBytes 2 0 ++ zs 2

/-- Channel A armed. -/
def armedA : State := lit.modCh 0 (fun c => { c with st := .armed })


set_option maxRecDepth 20000 in
/-- The hypotheses of `Obligations.ReferenceAndDiscipline` are met. -/
theorem witness_ReferenceAndDiscipline :
    (present.ar.role = 0 ∧ (present.ck.refQual = false ∨ (if (!true) = true then 0 else if present.inWindow (if true = true then nominalOf (present.mkey 1024) 100000000000 else 0) 100000000000 = true then 1 else 2) = 1 ∧ (present.ck.refState != 1 || present.ck.refFreq != if true = true then nominalOf (present.mkey 1024) 100000000000 else 0) = false))
    ∧ (locked.ar.role = 0 ∧ locked.ck.refQual = true ∧ ((if (!false) = true then 0 else if locked.inWindow (if false = true then nominalOf (locked.mkey 1024) 0 else 0) 0 = true then 1 else 2) ≠ 1 ∨ (locked.ck.refState != 1 || locked.ck.refFreq != if false = true then nominalOf (locked.mkey 1024) 0 else 0) = true) ∧ locked.ck.disc = 1)
    ∧ (locked.ar.role = 0 ∧ locked.ck.refQual = true ∧ ((if (!true) = true then 0 else if locked.inWindow (if true = true then nominalOf (locked.mkey 1024) 100100000000 else 0) 100100000000 = true then 1 else 2) ≠ 1 ∨ (locked.ck.refState != 1 || locked.ck.refFreq != if true = true then nominalOf (locked.mkey 1024) 100100000000 else 0) = true) ∧ locked.ck.disc = 1)
    ∧ (lit.ar.role = 0 ∧ lit.ck.refState = 0)
    ∧ (locked.ar.role = 0 ∧ locked.ck.refState ≠ 0 ∧ locked.ck.refQual = true ∧ locked.ck.disc = 1)
    ∧ (present.ar.role = 0 ∧ present.ck.refState = 1 ∧ present.ck.refQual = false ∧ present.mkey 1024 ≠ 3 ∧ present.pw.st ≤ 2 ∧ max present.clk 2999999 < present.ck.refSince + present.mkey 1026 * 3000000)
    ∧ (present.ar.role = 0 ∧ present.ck.refState = 1 ∧ present.ck.refQual = false ∧ present.mkey 1024 ≠ 3 ∧ present.pw.st ≤ 2 ∧ present.ck.refSince + present.mkey 1026 * 3000000 ≤ max present.clk 3000000000000)
    ∧ (locked.ar.role = 0 ∧ locked.ck.refQual = true ∧ (locked.ck.disc = 1 ∨ 3 ≤ locked.ck.disc) ∧ locked.pw.st ≤ 2 ∧ (locked.reach 5).loopDue = true)
    ∧ (slewing.ar.role = 0 ∧ slewing.ck.refQual = true ∧ (slewing.ck.disc = 1 ∨ 3 ≤ slewing.ck.disc) ∧ slewing.pw.st ≤ 2 ∧ (slewing.reach 5).loopDue = true)
    ∧ (lit.ar.role = 0 ∧ (lit.ck.refQual = false ∨ (lit.reach 5).loopDue = false)) := by
  repeat' with_reducible apply And.intro
  all_goals first | decide +kernel | (intros; rfl) | (intro _ _ h; cases h) | exact ⟨_, List.Mem.head _, rfl⟩

set_option maxRecDepth 20000 in
/-- The hypotheses of `Obligations.ClockSteps` are met. -/
theorem witness_ClockSteps :
    (lit.ar.role = 0 ∧ lit.ar.epochs = [] ∧ lit.ck.disc ≠ 5)
    ∧ ((relocking 4 1).ar.role = 0 ∧ (relocking 4 1).ar.epochs = [] ∧ (relocking 4 1).ck.synth ≠ 0)
    ∧ (stepPending.ar.role = 0 ∧ stepPending.ar.epochs = [] ∧ stepPending.ck.disc = 5 ∧ stepPending.ck.synth = 0 ∧ stepPending.tm.epoch = none ∧ stepPending.ppsEpoch stepPending.ck.since = some 50331648000000000 ∧ max stepPending.clk 2999999999 < stepPending.boundaryFrom (ceilDiv 50331648000000000 fineUnit))
    ∧ (stepPending.ar.role = 0 ∧ stepPending.ar.epochs = [] ∧ stepPending.ck.disc = 5 ∧ stepPending.ck.synth = 0 ∧ stepPending.tm.epoch = none ∧ stepPending.ppsEpoch stepPending.ck.since = some 50331648000000000 ∧ stepPending.boundaryFrom (ceilDiv 50331648000000000 fineUnit) ≤ max stepPending.clk 3000000000)
    ∧ (stepManager.ar.role = 1 ∧ stepManager.ar.epochs = [] ∧ stepManager.ck.disc = 5 ∧ stepManager.ck.synth = 0 ∧ stepManager.tm.epoch = none ∧ stepManager.ppsEpoch stepManager.ck.since = some 50331648000000000 ∧ ceilDiv 50331648000000000 fineUnit ≤ max stepManager.clk 3000000000 ∧ 0 ≤ max ↑stepManager.clk ↑3000000000 + stepManager.tm.off ∧ max stepManager.clk 3000000000 < stepManager.boundaryFrom (ceilDiv 50331648000000000 fineUnit + stepManager.mkey 3588) ∧ stepTicks (stepManager.measured 2666667).fst ≠ 0)
    ∧ (((announcedTo 0).reach 1000).dueEpoch false = some (DueEpoch.mk 1000 8 0 none) ∧ (DueEpoch.mk 1000 8 0 none).rest = none) := by
  repeat' with_reducible apply And.intro
  all_goals first | decide +kernel | (intros; rfl) | (intro _ _ h; cases h) | exact ⟨_, List.Mem.head _, rfl⟩

set_option maxRecDepth 20000 in
/-- The hypotheses of `Obligations.RelockCourse` are met, part 1 of 2. -/
theorem witness_RelockCourse_1 :
    (Ready (fresh 1027 0 (bands 1)) 5 0 1027 bandLen ∧ 1 ≤ fieldAt ((fresh 1027 0 (bands 1)).reqOf 0).payload 0 1 ∧ fieldAt ((fresh 1027 0 (bands 1)).reqOf 0).payload 0 1 ≤ 32 ∧ fieldAt ((fresh 1027 0 (bands 1)).reqOf 0).payload 1 7 = 0 ∧ (List.range (fieldAt ((fresh 1027 0 (bands 1)).reqOf 0).payload 0 1)).all (bandOk ((fresh 1027 0 (bands 1)).reqOf 0).payload) = true ∧ (fresh 1027 0 (bands 1)).clockBusy = false)
    ∧ (Ready (issued (relocking 4 1) 1027 0 (bands 1)) 5 0 1027 bandLen ∧ 1 ≤ fieldAt ((issued (relocking 4 1) 1027 0 (bands 1)).reqOf 0).payload 0 1 ∧ fieldAt ((issued (relocking 4 1) 1027 0 (bands 1)).reqOf 0).payload 0 1 ≤ 32 ∧ fieldAt ((issued (relocking 4 1) 1027 0 (bands 1)).reqOf 0).payload 1 7 = 0 ∧ (List.range (fieldAt ((issued (relocking 4 1) 1027 0 (bands 1)).reqOf 0).payload 0 1)).all (bandOk ((issued (relocking 4 1) 1027 0 (bands 1)).reqOf 0).payload) = true ∧ (issued (relocking 4 1) 1027 0 (bands 1)).clockBusy = true)
    ∧ (Ready (fresh 1027 0 (zs 8)) 5 0 1027 bandLen ∧ (¬(1 ≤ fieldAt ((fresh 1027 0 (zs 8)).reqOf 0).payload 0 1 ∧ fieldAt ((fresh 1027 0 (zs 8)).reqOf 0).payload 0 1 ≤ 32 ∧ fieldAt ((fresh 1027 0 (zs 8)).reqOf 0).payload 1 7 = 0 ∧ (List.range (fieldAt ((fresh 1027 0 (zs 8)).reqOf 0).payload 0 1)).all (bandOk ((fresh 1027 0 (zs 8)).reqOf 0).payload) = true)))
    ∧ (Ready (issued armedA 1028 0 (zs 8)) 5 0 1028 (lenIs 8) ∧ fieldAt ((issued armedA 1028 0 (zs 8)).reqOf 0).payload 0 1 = 0 ∧ fieldAt ((issued armedA 1028 0 (zs 8)).reqOf 0).payload 1 1 = 0 ∧ fieldAt ((issued armedA 1028 0 (zs 8)).reqOf 0).payload 2 6 = 0 ∧ (∃ (c : Fin 4), (issued armedA 1028 0 (zs 8)).running c = true))
    ∧ (Ready (fresh 1028 0 (zs 8)) 5 0 1028 (lenIs 8) ∧ fieldAt ((fresh 1028 0 (zs 8)).reqOf 0).payload 0 1 = 0 ∧ fieldAt ((fresh 1028 0 (zs 8)).reqOf 0).payload 1 1 = 0 ∧ fieldAt ((fresh 1028 0 (zs 8)).reqOf 0).payload 2 6 = 0 ∧ (∀ (c : Fin 4), (fresh 1028 0 (zs 8)).running c = false) ∧ (∀ (o : Fin 2), (fresh 1028 0 (zs 8)).out[o].st ≠ 3) ∧ (fresh 1028 0 (zs 8)).clockBusy = false ∧ (fresh 1028 0 (zs 8)).mr.work.length < 16)
    ∧ (lit.rootDrives = true)
    ∧ ((relocking 4 1).rootDrives = false)
    ∧ (lit.rootDrives = true ∧ (970 < 971 ∨ 971 < 30) ∧ lit.mkey 1033 = 1 ∧ lit.ck.synth = 0)
    ∧ (lit.rootDrives = true ∧ (970 < 29 ∨ 29 < 30) ∧ lit.mkey 1033 = 1 ∧ lit.ck.synth = 0)
    ∧ (lit.rootDrives = true ∧ 30 ≤ 970 ∧ 970 ≤ 970)
    ∧ (lit.rootDrives = true ∧ 30 ≤ 30 ∧ 30 ≤ 970)
    ∧ (lit.rootDrives = true ∧ 300 < 301)
    ∧ (300 ≤ 300)
    ∧ ((relocking 4 1).ck.relock = some (rl 4 1) ∧ (rl 4 1).step = 4)
    ∧ ((relocking 5 1).ck.relock = some (rl 5 1) ∧ (rl 5 1).step ≠ 4)
    ∧ ((relocking 5 1).ck.relock = some (rl 5 1) ∧ (rl 5 1).step = 5)
    ∧ ((relocking 2 1).ck.relock = some (rl 2 1) ∧ 300 < 301 ∧ (relocking 2 1).rootDrives = false ∧ (rl 2 1).step = 2)
    ∧ ((relocking 4 1).ck.relock = some (rl 4 1) ∧ ((rl 4 1).step = 4 ∨ (rl 4 1).step = 5) ∧ (bandOrder (rl 4 1).entry.band)[(rl 4 1).attempt]? = some 6) := by
  repeat' with_reducible apply And.intro
  all_goals first | decide +kernel | (intros; rfl) | (intro _ _ h; cases h) | exact ⟨_, List.Mem.head _, rfl⟩

set_option maxRecDepth 20000 in
/-- The hypotheses of `Obligations.RelockCourse` are met, part 2 of 2. -/
theorem witness_RelockCourse_2 :
    ((relocking 5 64).ck.relock = some (rl 5 64) ∧ ((rl 5 64).step = 4 ∨ (rl 5 64).step = 5) ∧ (bandOrder (rl 5 64).entry.band)[(rl 5 64).attempt]? = none ∧ (relocking 5 64).waitingArm = none ∧ (relocking 5 64).followers = [])
    ∧ ((relocking 8 1).ck.relock = some (rl 8 1) ∧ (rl 8 1).step = 8) := by
  repeat' with_reducible apply And.intro
  all_goals first | decide +kernel | (intros; rfl) | (intro _ _ h; cases h) | exact ⟨_, List.Mem.head _, rfl⟩

/-- The payload of SET_TIME. -/
def timeSet (f sec : Nat) : List Byte := byteOf f :: zs 7 ++ leBytes 8 sec

/-- An epoch waits since tick 0. -/
def epochWaits : State := lit.modTm (fun m => { m with epoch := some ⟨1000, false, 0⟩ })

/-- A PPS edge was seen at tick 0. -/
def ppsSeen : State := lit.modTm (fun m => { m with ppsLast := some 0, ppsCount := 7, ppsQual := true })

/-- PPS_OUT on. -/
def ppsOn : State := lit.modMr (fun m => { m with recorded := [⟨0x0504, 0, 1#64⟩, ⟨0x0505, 0, 1#64⟩] })

/-- PPS_OUT off. -/
def ppsOff : State := lit.modMr (fun m => { m with recorded := [⟨0x0504, 0, 0#64⟩] })

/-- The payload of TDC_MEASURE: TRIG_IN1 to TRIG_IN2, so many records at an address. -/
def measurePay (count len : Nat) : List Byte :=
  [0, 0, 1, 0] ++ leBytes 2 count ++ leBytes 2 0 ++ leBytes 4 1 ++ zs 4 ++ leBytes 8 64 ++ leBytes 4 len ++ zs 4

/-- That measurement, open since tick 10 or not. -/
def meas (op : Bool) : Measure := { measureOf 0 (measurePay 2 64) with
  open_ := if op then some (10 * fineUnit, ⟨10, 0, 0⟩, true) else none }

/-- A state in which it runs. -/
def measuring (op : Bool) : State := (lit.modTm (fun m => { m with meas := [meas op] })).modMr (fun m => { m with
  work := [⟨0, 0x0405, 7, 0, (meas op).key, 0⟩] })

/-- A dead time of TDC channel 2 until tick 400, and an out-of-calibration channel 9. -/
def deadTime : State := lit.modTm (fun m => { m with dead := m.dead.set 0 (400 * fineUnit), cal := m.cal.set 9 true })

/-- A PPS_OUT pulse until tick 50. -/
def ppsHigh : State := lit.modTm (fun m => { m with ppsOut := some 50 })


set_option maxRecDepth 20000 in
/-- The hypotheses of `Obligations.TimeIsSetByMarks` are met. -/
theorem witness_TimeIsSetByMarks :
    (Ready (fresh 1025 0 (timeSet 0 4000000001)) 5 0 1025 (lenIs 16) ∧ (¬(fieldAt ((fresh 1025 0 (timeSet 0 4000000001)).reqOf 0).payload 0 1 ≤ 1 ∧ fieldAt ((fresh 1025 0 (timeSet 0 4000000001)).reqOf 0).payload 1 7 = 0 ∧ fieldAt ((fresh 1025 0 (timeSet 0 4000000001)).reqOf 0).payload 8 8 ≤ 4000000000)))
    ∧ (Ready (fresh 1025 0 (timeSet 1 0)) 5 0 1025 (lenIs 16) ∧ fieldAt ((fresh 1025 0 (timeSet 1 0)).reqOf 0).payload 0 1 ≤ 1 ∧ fieldAt ((fresh 1025 0 (timeSet 1 0)).reqOf 0).payload 1 7 = 0 ∧ fieldAt ((fresh 1025 0 (timeSet 1 0)).reqOf 0).payload 8 8 ≤ 4000000000 ∧ ((fresh 1025 0 (timeSet 1 0)).isMember = true ∨ fieldAt ((fresh 1025 0 (timeSet 1 0)).reqOf 0).payload 0 1 = 1 ∧ (fresh 1025 0 (timeSet 1 0)).tm.ppsQual = false))
    ∧ (Ready (fresh 1025 0 (timeSet 0 4000000000)) 5 0 1025 (lenIs 16) ∧ fieldAt ((fresh 1025 0 (timeSet 0 4000000000)).reqOf 0).payload 0 1 ≤ 1 ∧ fieldAt ((fresh 1025 0 (timeSet 0 4000000000)).reqOf 0).payload 1 7 = 0 ∧ fieldAt ((fresh 1025 0 (timeSet 0 4000000000)).reqOf 0).payload 8 8 ≤ 4000000000 ∧ (¬((fresh 1025 0 (timeSet 0 4000000000)).isMember = true ∨ fieldAt ((fresh 1025 0 (timeSet 0 4000000000)).reqOf 0).payload 0 1 = 1 ∧ (fresh 1025 0 (timeSet 0 4000000000)).tm.ppsQual = false)))
    ∧ (lit.ar.role = 0 ∧ lit.ar.epochs = [] ∧ lit.tm.epoch = none)
    ∧ (epochWaits.ar.role = 0 ∧ epochWaits.ar.epochs = [] ∧ epochWaits.tm.epoch = some (EpochReq.mk 1000 false 0) ∧ epochWaits.ck.relock = none ∧ epochWaits.ck.synth ≠ 2 ∧ epochWaits.ppsEpoch (EpochReq.mk 1000 false 0).since = some 50331648000000000 ∧ epochWaits.ck.disc ≠ 5 ∧ max epochWaits.clk 2999999999 < epochWaits.boundaryFrom (ceilDiv 50331648000000000 fineUnit))
    ∧ (epochWaits.ar.role = 0 ∧ epochWaits.ar.epochs = [] ∧ epochWaits.tm.epoch = some (EpochReq.mk 1000 false 0) ∧ epochWaits.ck.relock = none ∧ epochWaits.ck.synth ≠ 2 ∧ epochWaits.ppsEpoch (EpochReq.mk 1000 false 0).since = some 50331648000000000 ∧ epochWaits.ck.disc ≠ 5 ∧ epochWaits.boundaryFrom (ceilDiv 50331648000000000 fineUnit) ≤ max epochWaits.clk 3000000000)
    ∧ (((announcedTo 1).reach 1000).dueEpoch true = some (DueEpoch.mk 1000 8 1 none) ∧ (DueEpoch.mk 1000 8 1 none).rest = none)
    ∧ (Ready (fresh 1026 0 []) 5 0 1026 (lenIs 0)) := by
  repeat' with_reducible apply And.intro
  all_goals first | decide +kernel | (intros; rfl) | (intro _ _ h; cases h) | exact ⟨_, List.Mem.head _, rfl⟩

set_option maxRecDepth 20000 in
/-- The hypotheses of `Obligations.PpsAndTdcEdges` are met. -/
theorem witness_PpsAndTdcEdges :
    ((lit.edgeSwings 3 0 0 5 = false ∨ lit.edgeActive 3 false 5 = false))
    ∧ (deadTime.edgeSwings 0 (-5000) 5000 399 = true ∧ deadTime.edgeActive 0 false 399 = true ∧ deadTime.pw.st ≤ 2 ∧ (deadTime.clockStopped = true ∨ 399 * fineUnit + 16777215 % fineUnit < deadTime.tm.dead[0]))
    ∧ (deadTime.edgeSwings 0 (-5000) 5000 400 = true ∧ deadTime.edgeUser 0 false 400 = true ∧ deadTime.pw.st ≤ 2 ∧ deadTime.clockStopped = false ∧ deadTime.tm.dead[0] ≤ 400 * fineUnit + 0 % fineUnit ∧ deadTime.tm.blank[0] = 0 ∧ deadTime.tm.meas = [])
    ∧ (ppsSeen.keyAt 1280 0 3000000000 = flag false ∧ ppsSeen.pw.st ≤ 2 ∧ ppsSeen.clockStopped = false ∧ ppsSeen.tm.dead[2] ≤ 3000000000 * fineUnit + 0 % fineUnit ∧ ppsSeen.tm.meas = [] ∧ Option.any (fun (a : Nat) => ppsSeen.ppsNear a (3000000000 * fineUnit + 0 % fineUnit)) ppsSeen.tm.ppsLast = true)
    ∧ (ppsSeen.keyAt 1280 0 3100000000 = flag false ∧ ppsSeen.pw.st ≤ 2 ∧ ppsSeen.clockStopped = false ∧ ppsSeen.tm.dead[2] ≤ 3100000000 * fineUnit + 0 % fineUnit ∧ ppsSeen.tm.meas = [] ∧ Option.any (fun (a : Nat) => ppsSeen.ppsNear a (3100000000 * fineUnit + 0 % fineUnit)) ppsSeen.tm.ppsLast = false)
    ∧ (ppsSeen.tm.ppsLast = some 0 ∧ max ppsSeen.clk 3000000000 * fineUnit ≤ 0 + (3000000000 + ppsSeen.mkey 1281 * 3000) * fineUnit)
    ∧ (ppsSeen.tm.ppsLast = some 0 ∧ 0 + (3000000000 + ppsSeen.mkey 1281 * 3000) * fineUnit < max ppsSeen.clk 3100000000 * fineUnit)
    ∧ (ppsOn.mkey 1284 = 1 ∧ ppsOn.pw.st ≤ 2 ∧ (ppsOn.reach 3000000000).ticks % 3000000000 = 0 ∧ (∀ (e : Nat × Int), e ∈ ppsOn.tm.offHist → e.fst ≠ max ppsOn.clk 3000000000))
    ∧ (ppsOff.mkey 1284 ≠ 1)
    ∧ (ppsHigh.tm.ppsOut = some 50 ∧ 50 ≤ max ppsHigh.clk 50)
    ∧ (ppsHigh.tm.ppsOut = some 50 ∧ max ppsHigh.clk 49 < 50)
    ∧ ((relocking 4 1).clockStopped = true)
    ∧ (lit.clockStopped = false ∧ lit.pw.st ≤ 2 ∧ lit.tm.dead[9] ≤ max lit.clk 5 * fineUnit)
    ∧ (deadTime.clockStopped = false ∧ deadTime.pw.st ≤ 2 ∧ deadTime.tm.dead[9] ≤ max deadTime.clk 9 * fineUnit)
    ∧ (deadTime.tm.cal[9] = true ∧ deadTime.tm.calAt[9] + 9000000 ≤ max deadTime.clk 9000000)
    ∧ (max deadTime.clk 8999999 < deadTime.tm.calAt[9] + 9000000) := by
  repeat' with_reducible apply And.intro
  all_goals first | decide +kernel | (intros; rfl) | (intro _ _ h; cases h) | exact ⟨_, List.Mem.head _, rfl⟩

set_option maxRecDepth 20000 in
/-- The hypotheses of `Obligations.IntervalMeasurements` are met. -/
theorem witness_IntervalMeasurements :
    (Ready (fresh 1029 0 (measurePay 0 64)) 5 0 1029 (lenIs 32) ∧ measureOk ((fresh 1029 0 (measurePay 0 64)).reqOf 0).payload = false)
    ∧ (Ready (issued (measuring false) 1029 0 (measurePay 1 32)) 5 0 1029 (lenIs 32) ∧ measureOk ((issued (measuring false) 1029 0 (measurePay 1 32)).reqOf 0).payload = true ∧ List.find? (fun (x : Measure) => x.key == (measureOf (↑0) ((issued (measuring false) 1029 0 (measurePay 1 32)).reqOf 0).payload).key && x.count == (measureOf (↑0) ((issued (measuring false) 1029 0 (measurePay 1 32)).reqOf 0).payload).count) (issued (measuring false) 1029 0 (measurePay 1 32)).tm.meas = none ∧ ((issued (measuring false) 1029 0 (measurePay 1 32)).tm.meas.any fun (x : Measure) => x.holds (measureOf (↑0) ((issued (measuring false) 1029 0 (measurePay 1 32)).reqOf 0).payload).startSrc || x.holds (measureOf (↑0) ((issued (measuring false) 1029 0 (measurePay 1 32)).reqOf 0).payload).stopSrc) = true)
    ∧ (Ready (issued (measuring false) 1029 0 (measurePay 2 64)) 5 0 1029 (lenIs 32) ∧ measureOk ((issued (measuring false) 1029 0 (measurePay 2 64)).reqOf 0).payload = true ∧ List.find? (fun (x : Measure) => x.key == (measureOf (↑0) ((issued (measuring false) 1029 0 (measurePay 2 64)).reqOf 0).payload).key && x.count == (measureOf (↑0) ((issued (measuring false) 1029 0 (measurePay 2 64)).reqOf 0).payload).count) (issued (measuring false) 1029 0 (measurePay 2 64)).tm.meas = some (meas false))
    ∧ (Ready (fresh 1029 0 (measurePay 2 64)) 5 0 1029 (lenIs 32) ∧ measureOk ((fresh 1029 0 (measurePay 2 64)).reqOf 0).payload = true ∧ List.find? (fun (x : Measure) => x.key == (measureOf (↑0) ((fresh 1029 0 (measurePay 2 64)).reqOf 0).payload).key && x.count == (measureOf (↑0) ((fresh 1029 0 (measurePay 2 64)).reqOf 0).payload).count) (fresh 1029 0 (measurePay 2 64)).tm.meas = none ∧ ((fresh 1029 0 (measurePay 2 64)).tm.meas.any fun (x : Measure) => x.holds (measureOf (↑0) ((fresh 1029 0 (measurePay 2 64)).reqOf 0).payload).startSrc || x.holds (measureOf (↑0) ((fresh 1029 0 (measurePay 2 64)).reqOf 0).payload).stopSrc) = false ∧ (fresh 1029 0 (measurePay 2 64)).auxWanting (measureOf (↑0) ((fresh 1029 0 (measurePay 2 64)).reqOf 0).payload).startSrc = false ∧ (fresh 1029 0 (measurePay 2 64)).auxWanting (measureOf (↑0) ((fresh 1029 0 (measurePay 2 64)).reqOf 0).payload).stopSrc = false ∧ (fresh 1029 0 (measurePay 2 64)).mr.work.length < 16)
    ∧ ((measuring false).tm.meas = [meas false] ∧ (meas false).open_ = none)
    ∧ ((measuring true).tm.meas = [meas true] ∧ (meas true).open_ = some (10 * fineUnit, Stamp.mk 10 0 0, true) ∧ max (measuring true).clk 3009 < (10 * fineUnit, Stamp.mk 10 0 0, true).fst / fineUnit + 3000 * (meas true).wait)
    ∧ ((measuring true).tm.meas = [meas true] ∧ (meas true).open_ = some (10 * fineUnit, Stamp.mk 10 0 0, true) ∧ (10 * fineUnit, Stamp.mk 10 0 0, true).fst / fineUnit + 3000 * (meas true).wait ≤ max (measuring true).clk 3010 ∧ (measuring true).hl.up = true ∧ (meas true).done + 1 < (meas true).count ∧ (measuring true).hl.hostMem.wf = true) := by
  repeat' with_reducible apply And.intro
  all_goals first | decide +kernel | (intros; rfl) | (intro _ _ h; cases h) | exact ⟨_, List.Mem.head _, rfl⟩

/-- The payload of LOAD_SEQ_TABLE: limits and timers at their least, INIT `i`, no valid entry. -/
def tablePay (i : Nat) : List Byte := [byteOf i, 15] ++ zs 2 ++ leBytes 4 1 ++ leBytes 4 1 ++ zs 4 ++ leBytes 8 4 ++ leBytes 8 4 ++ zs 512

/-- ARM of channel A waits for its commit point, taken at tick 5. -/
def arming : State := let s := (fresh 0x0101 1 []).modCh 0 (fun c => { c with st := .arming })
  (s.modMb 0 (fun b => { b with state := .busy })).modMr (fun m => { m with exec := some ⟨0, 5, .arm 1⟩ })

/-- Every domain on beside it. -/
def armingLit : State := arming.modPw (fun p => { p with onMap := BitVec.allOnes 196 })

/-- Channel A in an acquisition state. -/
def chanA (st : AcqState) : State := lit.modCh 0 (fun c => { c with st := st })

/-- An event of detector B for no channel. -/
def detEv : Ev := ⟨1000, 2, ⟨0, 0, 0⟩, 1#4, 404, false, 900⟩

/-- A closed segment that waits for its values. -/
def closedSeg : Seg := { (default : Seg) with ch := 0, acq := 1, closed := true, awaiting := true }

/-- A state that holds it. -/
def closing : State := (lit.modTr (fun t => { t with segs := [closedSeg], acqs := [⟨0, 1, 1, [], none, 0⟩] })).modCh 0 (fun c => { c with acq := 1 })

/-- Timer 0 of channel A runs to tick 7. -/
def timing : State := ((chanA .armed).modCh 0 (fun c => { c with tmr0 := .running (7 * fineUnit) }))

/-- Channel A holds off until tick 7. -/
def holding : State := ((chanA .holdoff).modCh 0 (fun c => { c with hold := .until_ (7 * fineUnit) }))

/-- An auto trigger of channel A is due at fine instant 5, a value of the previous segment. -/
def autoDue : State := ((chanA .armed).modCh 0 (fun c => { c with autoX := some 5, lastEnd := some 0, dec := { c.dec with grid := 5 } }))

/-- A FORCE_TRIGGER stamped at tick 8 waits; its event has been presented, and channel A took a trigger. -/
def forcing : State := (issued (chanA .acquiring) 0x0103 1 (1 :: zs 7)).modMr (fun r => { r with exec := some ⟨0, 0, .force 8 1⟩ })

/-- Channel A is ordered to stop at tick 8 by the DISARM that waits. -/
def stopping : State := ((issued (chanA .armed) 0x0102 1 []).modCh 0 (fun c => { c with stopAt := some ⟨8, 2, 1⟩ })).modMr (fun r => { r with
  exec := some ⟨0, 5, .disarm 8 1⟩ })

/-- An accumulation run with its pass or fold due. -/
def accRun (fold pass isOpen : Bool) : State := (lit.modCh 0 (fun c => { c with st := .armed, acq := 1, acc := { c.acc with
    runOpen := isOpen, folding := fold, pass := pass, busyFrom := some 0, busyAt := 0, store := [(5, 0), (-6, 0)], fold := [1, 1] } })).modMr
  (fun m => { m with armed := m.armed.set 0 [⟨0x0900, 1, 1#64⟩, ⟨0x0901, 1, 16#64⟩] })

/-- An auto trigger of channel A is due while a run is open. -/
def autoAcc : State := (accRun false false true).modCh 0 (fun c => { c with autoX := some 5, acc := { c.acc with busyFrom := none } })

/-- Detector B runs, or ran until instant 800. -/
def detB (run : Bool) : State := (lit.setEvq [detEv]).modCh 1 (fun c => { c with det := { c.det with running := run, ends := some 800 } })


set_option maxRecDepth 20000 in
/-- The hypotheses of `Obligations.ArmEntersArming` are met. -/
theorem witness_ArmEntersArming :
    (Ready (issued lit 257 1 []) 5 0 257 (lenIs 0) ∧ (issued lit 257 1 []).pw.st = 0 ∧ ((issued lit 257 1 []).reach 5).armsArray = false ∧ ((issued lit 257 1 []).reach 5).armFail (selChans ((issued lit 257 1 []).reqOf 0).chsel) = none)
    ∧ (Ready (issued (calibrating 1) 257 1 []) 5 0 257 (lenIs 0) ∧ ((issued (calibrating 1) 257 1 []).reach 5).armFail (selChans ((issued (calibrating 1) 257 1 []).reqOf 0).chsel) = some (eBusy, 0)) := by
  repeat' with_reducible apply And.intro
  all_goals first | decide +kernel | (intros; rfl) | (intro _ _ h; cases h) | exact ⟨_, List.Mem.head _, rfl⟩

set_option maxRecDepth 20000 in
/-- The hypotheses of `Obligations.ArmCommitArms` are met. -/
theorem witness_ArmCommitArms :
    (armingLit.waitingArm = some (0, [0], none) ∧ armingLit.followers = [] ∧ armingLit.fw.halted = false ∧ (∀ (c : Fin 4), c ∈ [0] → ((armingLit.reach 5).reach (armingLit.reach 5).boundary).armReady c = true) ∧ (armingLit.reqOf 0).expired ((armingLit.reach 5).reach (armingLit.reach 5).boundary).clk = false) := by
  repeat' with_reducible apply And.intro
  all_goals first | decide +kernel | (intros; rfl) | (intro _ _ h; cases h) | exact ⟨_, List.Mem.head _, rfl⟩

set_option maxRecDepth 20000 in
/-- The hypotheses of `Obligations.DisarmEndsAcquisition` are met, part 1 of 2. -/
theorem witness_DisarmEndsAcquisition_1 :
    (Ready (issued (chanA AcqState.done) 258 1 []) 5 0 258 (lenIs 0) ∧ (issued (chanA AcqState.done) 258 1 []).armsArray = false ∧ ((issued (chanA AcqState.done) 258 1 []).reqOf 0).expired (((issued (chanA AcqState.done) 258 1 []).reach 5).boundaryFrom (((issued (chanA AcqState.done) 258 1 []).reach 5).clk + 1)) = false)
    ∧ (Ready (issued (chanA AcqState.armed) 258 1 []) 5 0 258 (lenIs 0) ∧ (issued (chanA AcqState.armed) 258 1 []).armsArray = false ∧ ((issued (chanA AcqState.armed) 258 1 []).reqOf 0).expired (((issued (chanA AcqState.armed) 258 1 []).reach 5).boundaryFrom (((issued (chanA AcqState.armed) 258 1 []).reach 5).clk + 1)) = false)
    ∧ (stopping.evq = [] ∧ stopping.followers = [] ∧ stopping.ch[0].stopAt = some (StopReq.mk 8 2 1) ∧ (∀ (d : Fin 4), d ≠ 0 → stopping.ch[d].stopAt = none) ∧ 8 + 404 ≤ max stopping.clk 412 ∧ stopping.ch[0].st = AcqState.armed ∧ stopping.ch[0].tmr0 = Tmr.idle ∧ stopping.ch[0].tmr1 = Tmr.idle ∧ stopping.ch[0].autoX = none ∧ stopping.ch[0].open_ = none) := by
  repeat' with_reducible apply And.intro
  all_goals first | decide +kernel | (intros; rfl) | (intro _ _ h; cases h) | exact ⟨_, List.Mem.head _, rfl⟩

set_option maxRecDepth 20000 in
/-- The hypotheses of `Obligations.DisarmEndsAcquisition` are met, part 2 of 2. -/
theorem witness_DisarmEndsAcquisition_2 :
    ((stopping.modCh 0 fun (c : Chan) => Chan.mk AcqState.done c.left c.fullStop c.bwStop c.armedAt c.armClk c.table c.pendTable c.seqState c.cnt0 c.cnt1 c.tmr0 c.tmr1 c.trigs c.segs c.results c.refused c.auto c.coal c.lastTrig c.marks c.markNext c.marked c.stopAt c.shown c.past c.doneAt c.heard c.trigWas c.holdEnd c.hold c.holdMode c.autoX c.lfsr c.acq c.open_ c.lastEnd c.timerAt c.timerAbs c.det c.dec c.acc c.quota c.overQuota c.refAlloc c.reclaimed c.rateRef c.fRate c.fTrunc c.fReclaim c.rateLog c.follow).evq = [] ∧ (stopping.modCh 0 fun (c : Chan) => Chan.mk AcqState.done c.left c.fullStop c.bwStop c.armedAt c.armClk c.table c.pendTable c.seqState c.cnt0 c.cnt1 c.tmr0 c.tmr1 c.trigs c.segs c.results c.refused c.auto c.coal c.lastTrig c.marks c.markNext c.marked c.stopAt c.shown c.past c.doneAt c.heard c.trigWas c.holdEnd c.hold c.holdMode c.autoX c.lfsr c.acq c.open_ c.lastEnd c.timerAt c.timerAbs c.det c.dec c.acc c.quota c.overQuota c.refAlloc c.reclaimed c.rateRef c.fRate c.fTrunc c.fReclaim c.rateLog c.follow).followers = [] ∧ (stopping.modCh 0 fun (c : Chan) => Chan.mk AcqState.done c.left c.fullStop c.bwStop c.armedAt c.armClk c.table c.pendTable c.seqState c.cnt0 c.cnt1 c.tmr0 c.tmr1 c.trigs c.segs c.results c.refused c.auto c.coal c.lastTrig c.marks c.markNext c.marked c.stopAt c.shown c.past c.doneAt c.heard c.trigWas c.holdEnd c.hold c.holdMode c.autoX c.lfsr c.acq c.open_ c.lastEnd c.timerAt c.timerAbs c.det c.dec c.acc c.quota c.overQuota c.refAlloc c.reclaimed c.rateRef c.fRate c.fTrunc c.fReclaim c.rateLog c.follow).ch[0].stopAt = some (StopReq.mk 8 2 1) ∧ (∀ (d : Fin 4), d ≠ 0 → (stopping.modCh 0 fun (c : Chan) => Chan.mk AcqState.done c.left c.fullStop c.bwStop c.armedAt c.armClk c.table c.pendTable c.seqState c.cnt0 c.cnt1 c.tmr0 c.tmr1 c.trigs c.segs c.results c.refused c.auto c.coal c.lastTrig c.marks c.markNext c.marked c.stopAt c.shown c.past c.doneAt c.heard c.trigWas c.holdEnd c.hold c.holdMode c.autoX c.lfsr c.acq c.open_ c.lastEnd c.timerAt c.timerAbs c.det c.dec c.acc c.quota c.overQuota c.refAlloc c.reclaimed c.rateRef c.fRate c.fTrunc c.fReclaim c.rateLog c.follow).ch[d].stopAt = none) ∧ 8 + 404 ≤ max (stopping.modCh 0 fun (c : Chan) => Chan.mk AcqState.done c.left c.fullStop c.bwStop c.armedAt c.armClk c.table c.pendTable c.seqState c.cnt0 c.cnt1 c.tmr0 c.tmr1 c.trigs c.segs c.results c.refused c.auto c.coal c.lastTrig c.marks c.markNext c.marked c.stopAt c.shown c.past c.doneAt c.heard c.trigWas c.holdEnd c.hold c.holdMode c.autoX c.lfsr c.acq c.open_ c.lastEnd c.timerAt c.timerAbs c.det c.dec c.acc c.quota c.overQuota c.refAlloc c.reclaimed c.rateRef c.fRate c.fTrunc c.fReclaim c.rateLog c.follow).clk 412 ∧ (stopping.modCh 0 fun (c : Chan) => Chan.mk AcqState.done c.left c.fullStop c.bwStop c.armedAt c.armClk c.table c.pendTable c.seqState c.cnt0 c.cnt1 c.tmr0 c.tmr1 c.trigs c.segs c.results c.refused c.auto c.coal c.lastTrig c.marks c.markNext c.marked c.stopAt c.shown c.past c.doneAt c.heard c.trigWas c.holdEnd c.hold c.holdMode c.autoX c.lfsr c.acq c.open_ c.lastEnd c.timerAt c.timerAbs c.det c.dec c.acc c.quota c.overQuota c.refAlloc c.reclaimed c.rateRef c.fRate c.fTrunc c.fReclaim c.rateLog c.follow).ch[0].st = AcqState.done) := by
  repeat' with_reducible apply And.intro
  all_goals first | decide +kernel | (intros; rfl) | (intro _ _ h; cases h) | exact ⟨_, List.Mem.head _, rfl⟩

set_option maxRecDepth 20000 in
/-- The hypotheses of `Obligations.AcquisitionCommands` are met. -/
theorem witness_AcquisitionCommands :
    (Ready (fresh 259 3 (zs 8)) 5 0 259 (lenIs 8) ∧ fieldAt ((fresh 259 3 (zs 8)).reqOf 0).payload 0 1 ≤ 1 ∧ fieldAt ((fresh 259 3 (zs 8)).reqOf 0).payload 1 7 = 0 ∧ (∃ (c : Fin 4), c ∈ selChans ((fresh 259 3 (zs 8)).reqOf 0).chsel ∧ (fresh 259 3 (zs 8)).armedOn c = false))
    ∧ (Ready (issued (chanA AcqState.armed) 259 1 (1 :: zs 7)) 5 0 259 (lenIs 8) ∧ fieldAt ((issued (chanA AcqState.armed) 259 1 (1 :: zs 7)).reqOf 0).payload 0 1 ≤ 1 ∧ fieldAt ((issued (chanA AcqState.armed) 259 1 (1 :: zs 7)).reqOf 0).payload 1 7 = 0 ∧ (∀ (c : Fin 4), c ∈ selChans ((issued (chanA AcqState.armed) 259 1 (1 :: zs 7)).reqOf 0).chsel → (issued (chanA AcqState.armed) 259 1 (1 :: zs 7)).armedOn c = true) ∧ ((issued (chanA AcqState.armed) 259 1 (1 :: zs 7)).reqOf 0).expired (((issued (chanA AcqState.armed) 259 1 (1 :: zs 7)).reach 5).reach ((issued (chanA AcqState.armed) 259 1 (1 :: zs 7)).reach 5).boundary).clk = false)
    ∧ (forcing.mr.exec = some (Exec.mk 0 0 (Wait.force 8 1)) ∧ forcing.evq = [] ∧ forcing.haltAt = none ∧ forcing.fw.halted = false ∧ (forcing.reach 412).presentAt (8 * fineUnit) ≤ (forcing.reach 412).clk)
    ∧ (Ready (fresh 261 8 (tablePay 15)) 5 0 261 (lenIs 544) ∧ selChans ((fresh 261 8 (tablePay 15)).reqOf 0).chsel = [3] ∧ tableOk ((fresh 261 8 (tablePay 15)).reqOf 0).payload = true)
    ∧ (Ready (fresh 261 8 (tablePay 16)) 5 0 261 (lenIs 544) ∧ selChans ((fresh 261 8 (tablePay 16)).reqOf 0).chsel = [3] ∧ tableOk ((fresh 261 8 (tablePay 16)).reqOf 0).payload = false)
    ∧ (Ready (fresh 260 1 (zs 4 ++ leBytes 2 96 ++ zs 2)) 5 0 260 (lenIs 8) ∧ selChans ((fresh 260 1 (zs 4 ++ leBytes 2 96 ++ zs 2)).reqOf 0).chsel = [0] ∧ fieldAt ((fresh 260 1 (zs 4 ++ leBytes 2 96 ++ zs 2)).reqOf 0).payload 4 2 ≤ 96 ∧ fieldAt ((fresh 260 1 (zs 4 ++ leBytes 2 96 ++ zs 2)).reqOf 0).payload 6 2 = 0) := by
  repeat' with_reducible apply And.intro
  all_goals first | decide +kernel | (intros; rfl) | (intro _ _ h; cases h) | exact ⟨_, List.Mem.head _, rfl⟩

set_option maxRecDepth 20000 in
/-- The hypotheses of `Obligations.RefusedTriggerChangesNothingElse` are met. -/
theorem witness_RefusedTriggerChangesNothingElse :
    ((chanA AcqState.acquiring).contin 0 = false ∧ (∀ (n r : Nat), (chanA AcqState.acquiring).ch[0].hold ≠ Hold.events n r) ∧ ((chanA AcqState.acquiring).accum 0 && (chanA AcqState.acquiring).ch[0].acc.busyAtPoint (TrigIn.mk 5 (Stamp.mk 0 0 0) 1 false).p) = false ∧ (chanA AcqState.acquiring).armedAt 0 (TrigIn.mk 5 (Stamp.mk 0 0 0) 1 false).p = false)
    ∧ ((accRun false false true).contin 0 = false ∧ (∀ (n r : Nat), (accRun false false true).ch[0].hold ≠ Hold.events n r) ∧ ((accRun false false true).accum 0 && (accRun false false true).ch[0].acc.busyAtPoint (TrigIn.mk 5 (Stamp.mk 0 0 0) 1 false).p) = true) := by
  repeat' with_reducible apply And.intro
  all_goals first | decide +kernel | (intros; rfl) | (intro _ _ h; cases h) | exact ⟨_, List.Mem.head _, rfl⟩

set_option maxRecDepth 20000 in
/-- The hypotheses of `Obligations.SequencerHappenings` are met. -/
theorem witness_SequencerHappenings :
    (timing.evq = [] ∧ timing.ch[0].open_ = none ∧ timing.ch[0].tmr1 = Tmr.idle ∧ timing.ch[0].stopAt = none ∧ timing.ch[0].st = AcqState.armed ∧ timing.ch[0].autoX = none ∧ timing.ch[0].tmr0 = Tmr.running (7 * fineUnit) ∧ (timing.reach 411).presentAt (7 * fineUnit) ≤ (timing.reach 411).clk ∧ List.find? (fun (e : Machine.Trans) => e.valid && e.source == 0 && e.kind == 4 && e.index == 0) ((timing.seqTable 0).entries timing.ch[0].seqState) = none)
    ∧ (holding.evq = [] ∧ holding.ch[0].open_ = none ∧ holding.ch[0].tmr1 = Tmr.idle ∧ holding.ch[0].stopAt = none ∧ holding.ch[0].st = AcqState.holdoff ∧ holding.ch[0].tmr0 = Tmr.idle ∧ holding.ch[0].hold = Hold.until_ (7 * fineUnit) ∧ (holding.reach 411).presentAt (7 * fineUnit) ≤ (holding.reach 411).clk)
    ∧ (autoAcc.evq = [] ∧ autoAcc.ch[0].open_ = none ∧ autoAcc.ch[0].tmr1 = Tmr.idle ∧ autoAcc.ch[0].stopAt = none ∧ autoAcc.ch[0].st = AcqState.armed ∧ autoAcc.ch[0].tmr0 = Tmr.idle ∧ autoAcc.ch[0].autoX = some 5 ∧ (autoAcc.reach 411).presentAt 5 ≤ (autoAcc.reach 411).clk ∧ autoAcc.contin 0 = false ∧ autoAcc.accum 0 = true ∧ autoAcc.ch[0].acc.busyAtPoint 5 = false ∧ autoAcc.armedAt 0 5 = true ∧ autoAcc.tr.descQ.length < 1024)
    ∧ (autoDue.evq = [] ∧ autoDue.ch[0].open_ = none ∧ autoDue.ch[0].tmr1 = Tmr.idle ∧ autoDue.ch[0].stopAt = none ∧ autoDue.ch[0].st = AcqState.armed ∧ autoDue.ch[0].tmr0 = Tmr.idle ∧ autoDue.ch[0].autoX = some 5 ∧ (autoDue.reach 411).presentAt 5 ≤ (autoDue.reach 411).clk ∧ autoDue.contin 0 = false ∧ autoDue.armedAt 0 5 = false ∧ autoDue.ch[0].hold = Hold.off) := by
  repeat' with_reducible apply And.intro
  all_goals first | decide +kernel | (intros; rfl) | (intro _ _ h; cases h) | exact ⟨_, List.Mem.head _, rfl⟩

set_option maxRecDepth 20000 in
/-- The hypotheses of `Obligations.PresentationAndClose` are met. -/
theorem witness_PresentationAndClose :
    ((lit.setEvq [detEv]).ar.role = 0 ∧ (lit.setEvq [detEv]).mr.exec = none ∧ (lit.setEvq [detEv]).haltAt = none ∧ firstCycle (lit.setEvq [detEv]).evq = some 404 ∧ 404 ≤ max (lit.setEvq [detEv]).clk 404)
    ∧ ((detB true).evq = [detEv] ∧ (detB true).mr.exec = none ∧ (detB true).haltAt = none ∧ detEv.pres ≤ max (detB true).clk 404 ∧ detEv.src = 1 + ↑1 ∧ (∀ (c : Fin 4), (detB true).receives c detEv = false) ∧ (detB true).stands detEv = true)
    ∧ ((detB false).evq = [detEv] ∧ (detB false).mr.exec = none ∧ (detB false).haltAt = none ∧ detEv.pres ≤ max (detB false).clk 404 ∧ detEv.src = 1 + ↑1 ∧ (∀ (c : Fin 4), (detB false).receives c detEv = false) ∧ (detB false).stands detEv = false)
    ∧ (closing.ch[0].open_ = none ∧ closing.accum 0 = false ∧ List.find? (fun (x : Seg) => x.ch == 0 && x.awaiting) closing.tr.segs = some closedSeg ∧ closedSeg.run = closing.ch[0].dec.run ∧ (closing.reach 100000).descFrom closedSeg ≤ max closing.clk 100000 ∧ closing.tr.descQ.length < 1024) := by
  repeat' with_reducible apply And.intro
  all_goals first | decide +kernel | (intros; rfl) | (intro _ _ h; cases h) | exact ⟨_, List.Mem.head _, rfl⟩

set_option maxRecDepth 20000 in
/-- The hypotheses of `Obligations.ArmEndsOnWakeFailure` are met. -/
theorem witness_ArmEndsOnWakeFailure :
    (arming.waitingArm = some (0, [0], none) ∧ arming.followers = [] ∧ arming.fw.halted = false ∧ arming.fw.serving = true ∧ 0 < 196 ∧ (∃ (c : Fin 4), c ∈ [0] ∧ 0 ∈ arming.chanDomains c) ∧ (arming.reqOf 0).expired (arming.reach 5).clk = false) := by
  repeat' with_reducible apply And.intro
  all_goals first | decide +kernel | (intros; rfl) | (intro _ _ h; cases h) | exact ⟨_, List.Mem.head _, rfl⟩

/-- Detector A running since the start, every side primed. -/
def detA : State := (lit.modCal (fun c => { c with ws := { c.ws with fe := (List.range 7).map (fun i => (i, 0)) } })).modCh 0 (fun c => { c with det := { c.det with running := true, aR := true, aF := true, bR := true, bF := true, fresh := false } })

/-- A sample that neither settles nor clips. -/
def smp (v : Int) : Sample := ⟨BitVec.ofInt 16 v, false, false, false⟩

/-- A rising step of 12-bit codes, after sample 9 of twelve and more. -/
def rise : Codes := List.replicate 10 0#12 ++ List.replicate 18 64#12

/-- Four samples with a step. -/
def wnd (a b : Int) : Window := ⟨smp a, smp a, smp b, smp b⟩

/-- A channel timer at tick 100. -/
def timerA : State := (chanA .armed).modCh 0 (fun c => { c with timerAt := some 100 })

/-- The decimation stage of channel A running with a value before. -/
def decA : State := lit.modCh 0 (fun c => { c with dec := { c.dec with
  running := true, keys := [⟨0x0801, 1, 1#64⟩], prev := some (0, 0), fR := Vector.replicate 2 true, resetAt := some 100 } })

/-- An open segment of channel A with one page. -/
def openSeg (k : Nat) : State := let s := chanA .acquiring
  (s.modTr (fun t => { t with segs := [{ (default : Seg) with ch := 0, acq := 1, idx := 0, pages := List.replicate k 3 }],
                              acqs := [⟨0, 1, 1, [(0, 2)], none, 0⟩] })).modCh 0 (fun c => { c with acq := 1, open_ := some ⟨some 0, 0, 99⟩, dec := { c.dec with keys := [⟨0x0801, 1, 1#64⟩] } })

/-- Two closed segments, the first pinned, in one page. -/
def twoSegs : State := lit.modTr (fun t => { t with
  segs := [{ (default : Seg) with ch := 0, acq := 1, idx := 0, closed := true, pinned := true, pages := [3] },
           { (default : Seg) with ch := 0, acq := 1, idx := 1, closed := true, pages := [3] }],
  acqs := [⟨0, 1, 2, [(0, 2)], some 3, 0⟩], maxAcq := t.maxAcq.set 0 1,
  pages := [⟨2, .desc 0, false⟩, ⟨3, .data 0, false⟩] })

/-- The payload of RELEASE_SEGMENTS. -/
def relPay (op first n : Nat) : List Byte := [byteOf op, 0, 0, 0] ++ leBytes 4 1 ++ leBytes 4 first ++ leBytes 4 n

/-- A held allocation of channel A for its descriptor chain. -/
def heldDesc (st : AcqState) : State := ((chanA st).modTr (fun t => { t with
  held := [⟨0, 0, some 0⟩], acqs := [⟨0, 1, 0, [], none, 0⟩] })).modCh 0 (fun c => { c with acq := 1 })

/-- A queued descriptor. -/
def queued : State := twoSegs.modTr (fun t => { t with descQ := [(0, 1, 1)], descNext := 20 })

/-- A segment with page 3. -/
def seg3 : Seg := { (default : Seg) with ch := 0, acq := 1, idx := 0, pages := [3] }

/-- A segment without a page. -/
def seg0 : Seg := { (default : Seg) with ch := 0, acq := 1, idx := 0 }

/-- The second segment of `twoSegs`. -/
def seg1 : Seg := { (default : Seg) with ch := 0, acq := 1, idx := 1, closed := true, pages := [3] }

/-- A record of two points, closed, of a run that is open. -/
def record : Rec := ⟨10, 2, 0, ⟨5, 0, 0⟩, 1, true, 0, false⟩
def adding : State := (accRun false false true).modCh 0 (fun c => { c with
  acc := { c.acc with busyFrom := none, recs := [record] }, dec := { c.dec with keys := [⟨0x0801, 1, 1#64⟩] } })

/-- A continuous recording whose first value has not been packed. -/
def contA : State := (openSeg 0).modMr (fun m => { m with armed := m.armed.set 0 [⟨0x0A01, 1, 1#64⟩] })

/-- The stage of `decA` stopped, its run the one before. -/
def restarted : State := lit.modCh 0 (fun h => { h with dec := { h.dec with old := some decA.ch[(0 : Fin 4)].dec.leave } })

/-- What FLT_EVENT makes of it on the run that was left. -/
def afterRow (s : State) : State :=
  ((s.modCh 0 (fun h => { h with dec := h.dec.back decA.ch[(0 : Fin 4)].dec.leave })).reach 5000).fltValue 0 7 []


set_option maxRecDepth 20000 in
/-- The hypotheses of `Obligations.DetectorEventsQueue` are met. -/
theorem witness_DetectorEventsQueue :
    ((∀ (k : Fin 4), (lit.reach 500).examines k (1 * fineUnit + 0 % samplesPerTick lit.mode * samplePeriod lit.mode + samplePeriod lit.mode) = false))
    ∧ ((detA.reach 500).examines 0 (1 * fineUnit + 0 % samplesPerTick detA.mode * samplePeriod detA.mode + samplePeriod detA.mode) = true ∧ (∀ (k : Fin 4), k ≠ 0 → (detA.reach 500).examines k (1 * fineUnit + 0 % samplesPerTick detA.mode * samplePeriod detA.mode + samplePeriod detA.mode) = false) ∧ detA.detKey 1536 0 ≠ 8)
    ∧ ((DetCfg.mk 1 [false] 0 0 0).ty = 1 ∧ (DetCfg.mk 1 [false] 0 0 0).cols = [false] ∧ windowSettles (wnd (-1) 0) = false)
    ∧ (timerA.armedOn 0 = true ∧ timerA.timerTick 0 = some 100 ∧ 100 ≤ max timerA.clk 100) := by
  repeat' with_reducible apply And.intro
  all_goals first | decide +kernel | (intros; rfl) | (intro _ _ h; cases h) | exact ⟨_, List.Mem.head _, rfl⟩

set_option maxRecDepth 20000 in
/-- The hypotheses of `Obligations.DecimatedThresholds` are met. -/
theorem witness_DecimatedThresholds :
    ((lit.reach 5).comparesValue 0 0 = false)
    ∧ (((decA.modFe 0 fun (f : FrontEnd) => FrontEnd.mk f.prot f.openings f.since f.quiet f.net f.ovFrom f.ovUntil f.ovPast f.ovCount f.ovFirst f.ovLog f.settleFrom 1000 f.settlePast).reach 5000).comparesValue 0 7 = true ∧ (((decA.modFe 0 fun (f : FrontEnd) => FrontEnd.mk f.prot f.openings f.since f.quiet f.net f.ovFrom f.ovUntil f.ovPast f.ovCount f.ovFirst f.ovLog f.settleFrom 1000 f.settlePast).reach 5000).valueOf 0 7 (((decA.modFe 0 fun (f : FrontEnd) => FrontEnd.mk f.prot f.openings f.since f.quiet f.net f.ovFrom f.ovUntil f.ovPast f.ovCount f.ovFirst f.ovLog f.settleFrom 1000 f.settlePast).reach 5000).valueStream 0 7 1 []) eqReach).set = true)
    ∧ ((decA.reach 5000).comparesValue 0 7 = true ∧ ((decA.reach 5000).valueOf 0 7 ((decA.reach 5000).valueStream 0 7 1 []) eqReach).set = false)
    ∧ (lit.ch[0].dec.old = none)
    ∧ (restarted.ch[0].dec.old = some decA.ch[0].dec.leave ∧ exec (Instr.fltEvent 5000 0 (ValueRef.mk false 7) []) (restarted.modCh 0 fun (h : Chan) => Chan.mk h.st h.left h.fullStop h.bwStop h.armedAt h.armClk h.table h.pendTable h.seqState h.cnt0 h.cnt1 h.tmr0 h.tmr1 h.trigs h.segs h.results h.refused h.auto h.coal h.lastTrig h.marks h.markNext h.marked h.stopAt h.shown h.past h.doneAt h.heard h.trigWas h.holdEnd h.hold h.holdMode h.autoX h.lfsr h.acq h.open_ h.lastEnd h.timerAt h.timerAbs h.det (h.dec.back decA.ch[0].dec.leave) h.acc h.quota h.overQuota h.refAlloc h.reclaimed h.rateRef h.fRate h.fTrunc h.fReclaim h.rateLog h.follow) = Host.Outcome.next (afterRow restarted))
    ∧ (decA.ch[0].dec.resetAt = some 100 ∧ max decA.clk 99 < 100)
    ∧ (decA.ch[0].dec.resetAt = some 100 ∧ 100 ≤ max decA.clk 100) := by
  repeat' with_reducible apply And.intro
  all_goals first | decide +kernel | (intros; rfl) | (intro _ _ h; cases h) | exact ⟨_, List.Mem.head _, rfl⟩

set_option maxRecDepth 20000 in
/-- The hypotheses of `Obligations.AccumulationPasses` are met. -/
theorem witness_AccumulationPasses :
    (adding.accum 0 = true ∧ adding.ch[0].open_ = none ∧ adding.ch[0].acc.recs = [record] ∧ record.closed = true ∧ (adding.reach 50000).settlePoint 0 record = none ∧ (adding.reach 50000).discards 0 record = false ∧ record.done < record.points ∧ (adding.reach 50000).leftLine 0 (record.first.toNat + record.done) (record.points - record.done) = record.points - record.done)
    ∧ ((accRun true false true).ch[0].acc.folding = true ∧ ((accRun true false true).reach 7).clk < (accRun true false true).ch[0].acc.drainAt + (accRun true false true).passTicks 0)
    ∧ ((accRun true false true).ch[0].acc.folding = true ∧ (accRun true false true).ch[0].acc.drainAt + (accRun true false true).passTicks 0 ≤ ((accRun true false true).reach 8).clk ∧ (accRun true false true).ck.relock = none ∧ (accRun true false true).tr.descQ.length < 1024 ∧ (accRun true false true).ch[0].acc.runOpen = true)
    ∧ ((accRun false true false).ch[0].acc.pass = true ∧ ((accRun false true false).reach 7).clk < (accRun false true false).ch[0].acc.drainAt + (accRun false true false).passTicks 0)
    ∧ ((accRun false true false).ch[0].acc.pass = true ∧ (accRun false true false).ch[0].acc.drainAt + (accRun false true false).passTicks 0 ≤ ((accRun false true false).reach 8).clk ∧ (accRun false true false).ck.relock = none ∧ (accRun false true false).tr.descQ.length < 1024 ∧ (((accRun false true false).reach 8).getDesc 0 (((accRun false true false).reach 8).nextIdx 0)).snd = false)
    ∧ ((accRun false false true).ch[0].acc.busyFrom.isSome = true ∧ (accRun false false true).ch[0].acc.folding = false ∧ (accRun false false true).ch[0].acc.pass = false ∧ (accRun false false true).ch[0].acc.recs = [])
    ∧ ((accRun false false false).ch[0].acc.busyFrom.isSome = true ∧ (accRun false false false).ch[0].acc.folding = false ∧ (accRun false false false).ch[0].acc.pass = false ∧ (accRun false false false).ch[0].acc.recs = [] ∧ (accRun false false false).ch[0].acc.runOpen = false ∧ (accRun false false false).accum 0 = true ∧ (accRun false false false).armedOn 0 = true) := by
  repeat' with_reducible apply And.intro
  all_goals first | decide +kernel | (intros; rfl) | (intro _ _ h; cases h) | exact ⟨_, List.Mem.head _, rfl⟩

set_option maxRecDepth 20000 in
/-- The hypotheses of `Obligations.TrellisCommands` are met, part 1 of 2. -/
theorem witness_TrellisCommands_1 :
    (Ready (fresh 769 1 (leBytes 4 860160 ++ zs 4)) 5 0 769 (lenIs 8) ∧ fieldAt ((fresh 769 1 (leBytes 4 860160 ++ zs 4)).reqOf 0).payload 4 4 = 0 ∧ ((fresh 769 1 (leBytes 4 860160 ++ zs 4)).reqOf 0).expired (((fresh 769 1 (leBytes 4 860160 ++ zs 4)).reach 5).reach (((fresh 769 1 (leBytes 4 860160 ++ zs 4)).reach 5).boundaryFrom (((fresh 769 1 (leBytes 4 860160 ++ zs 4)).reach 5).clk + 1))).clk = false)
    ∧ (Ready (fresh 769 1 (leBytes 4 1 ++ [1, 0, 0, 0])) 5 0 769 (lenIs 8) ∧ fieldAt ((fresh 769 1 (leBytes 4 1 ++ [1, 0, 0, 0])).reqOf 0).payload 4 4 ≠ 0)
    ∧ (Ready (issued twoSegs 770 1 (relPay 2 0 16777216)) 5 0 770 (lenIs 16) ∧ (issued twoSegs 770 1 (relPay 2 0 16777216)).ownerOf (oneChan ((issued twoSegs 770 1 (relPay 2 0 16777216)).reqOf 0).chsel) (fieldAt ((issued twoSegs 770 1 (relPay 2 0 16777216)).reqOf 0).payload 1 1) = some 0 ∧ fieldAt ((issued twoSegs 770 1 (relPay 2 0 16777216)).reqOf 0).payload 2 2 = 0 ∧ fieldAt ((issued twoSegs 770 1 (relPay 2 0 16777216)).reqOf 0).payload 4 4 ≤ 1073741823 ∧ 1 ≤ fieldAt ((issued twoSegs 770 1 (relPay 2 0 16777216)).reqOf 0).payload 12 4 ∧ fieldAt ((issued twoSegs 770 1 (relPay 2 0 16777216)).reqOf 0).payload 8 4 ≤ 16777215 ∧ fieldAt ((issued twoSegs 770 1 (relPay 2 0 16777216)).reqOf 0).payload 8 4 + fieldAt ((issued twoSegs 770 1 (relPay 2 0 16777216)).reqOf 0).payload 12 4 ≤ 16777216 ∧ ((issued twoSegs 770 1 (relPay 2 0 16777216)).reqOf 0).expired (((issued twoSegs 770 1 (relPay 2 0 16777216)).reach 5).reach (((issued twoSegs 770 1 (relPay 2 0 16777216)).reach 5).boundaryFrom (((issued twoSegs 770 1 (relPay 2 0 16777216)).reach 5).clk + 1))).clk = false ∧ fieldAt ((issued twoSegs 770 1 (relPay 2 0 16777216)).reqOf 0).payload 0 1 = 2)
    ∧ (Ready (issued twoSegs 770 1 (relPay 0 0 1)) 5 0 770 (lenIs 16) ∧ (issued twoSegs 770 1 (relPay 0 0 1)).ownerOf (oneChan ((issued twoSegs 770 1 (relPay 0 0 1)).reqOf 0).chsel) (fieldAt ((issued twoSegs 770 1 (relPay 0 0 1)).reqOf 0).payload 1 1) = some 0 ∧ fieldAt ((issued twoSegs 770 1 (relPay 0 0 1)).reqOf 0).payload 2 2 = 0 ∧ fieldAt ((issued twoSegs 770 1 (relPay 0 0 1)).reqOf 0).payload 4 4 ≤ 1073741823 ∧ 1 ≤ fieldAt ((issued twoSegs 770 1 (relPay 0 0 1)).reqOf 0).payload 12 4 ∧ fieldAt ((issued twoSegs 770 1 (relPay 0 0 1)).reqOf 0).payload 8 4 ≤ 16777215 ∧ fieldAt ((issued twoSegs 770 1 (relPay 0 0 1)).reqOf 0).payload 8 4 + fieldAt ((issued twoSegs 770 1 (relPay 0 0 1)).reqOf 0).payload 12 4 ≤ 16777216 ∧ ((issued twoSegs 770 1 (relPay 0 0 1)).reqOf 0).expired (((issued twoSegs 770 1 (relPay 0 0 1)).reach 5).reach (((issued twoSegs 770 1 (relPay 0 0 1)).reach 5).boundaryFrom (((issued twoSegs 770 1 (relPay 0 0 1)).reach 5).clk + 1))).clk = false ∧ fieldAt ((issued twoSegs 770 1 (relPay 0 0 1)).reqOf 0).payload 0 1 = 0) := by
  repeat' with_reducible apply And.intro
  all_goals first | decide +kernel | (intros; rfl) | (intro _ _ h; cases h) | exact ⟨_, List.Mem.head _, rfl⟩

set_option maxRecDepth 20000 in
/-- The hypotheses of `Obligations.TrellisCommands` are met, part 2 of 2. -/
theorem witness_TrellisCommands_2 :
    (Ready (fresh 771 0 (zs 16)) 5 0 771 (lenIs 16) ∧ fieldAt ((fresh 771 0 (zs 16)).reqOf 0).payload 0 1 = 0 ∧ fieldAt ((fresh 771 0 (zs 16)).reqOf 0).payload 1 3 = 0 ∧ fieldAt ((fresh 771 0 (zs 16)).reqOf 0).payload 4 4 = 0 ∧ fieldAt ((fresh 771 0 (zs 16)).reqOf 0).payload 8 8 = 0) := by
  repeat' with_reducible apply And.intro
  all_goals first | decide +kernel | (intros; rfl) | (intro _ _ h; cases h) | exact ⟨_, List.Mem.head _, rfl⟩

set_option maxRecDepth 20000 in
/-- The hypotheses of `Obligations.PagesAndDescriptors` are met. -/
theorem witness_PagesAndDescriptors :
    ((openSeg 1).ch[0].open_ = some (OpenSeg.mk (some 0) 0 99) ∧ (openSeg 1).seg? 0 (openSeg 1).ch[0].acq 0 = some seg3 ∧ ((openSeg 1).descPage 0 (openSeg 1).ch[0].acq 0).isSome = true ∧ (((openSeg 1).contin 0 && decide (((openSeg 1).reach 5000).clk < (openSeg 1).packedAt 0 0)) = true ∨ (openSeg 1).wordsOf ((openSeg 1).akey 2054 0) (((openSeg 1).reach 5000).stagedValues 0 0 99) ≤ seg3.capacity))
    ∧ (contA.ch[0].open_ = some (OpenSeg.mk (some 0) 0 99) ∧ contA.seg? 0 contA.ch[0].acq 0 = some seg0 ∧ (contA.descPage 0 contA.ch[0].acq 0).isSome = true ∧ ((contA.contin 0 && decide ((contA.reach 5).clk < contA.packedAt 0 0)) = true ∨ contA.wordsOf (contA.akey 2054 0) ((contA.reach 5).stagedValues 0 0 99) ≤ seg0.capacity))
    ∧ ((openSeg 0).ch[0].open_ = some (OpenSeg.mk (some 0) 0 99) ∧ (openSeg 0).seg? 0 (openSeg 0).ch[0].acq 0 = some seg0 ∧ ((openSeg 0).descPage 0 (openSeg 0).ch[0].acq 0).isSome = true ∧ ((openSeg 0).contin 0 && decide (((openSeg 0).reach 5000).clk < (openSeg 0).packedAt 0 0)) = false ∧ seg0.capacity < (openSeg 0).wordsOf ((openSeg 0).akey 2054 0) (((openSeg 0).reach 5000).stagedValues 0 0 99) ∧ (openSeg 0).wordsOf ((openSeg 0).akey 2054 0) (((openSeg 0).reach 5000).stagedValues 0 0 99) ≤ (seg0.pages.length + 1) * 4096 - seg0.firstWord ∧ seg0.reserved = [] ∧ ((openSeg 0).reach 5000).request 0 = Grant.page 0 0)
    ∧ ((heldDesc AcqState.done).tr.held = [HeldAlloc.mk 0 0 (some 0)] ∧ (heldDesc AcqState.done).armedOn (HeldAlloc.mk 0 0 (some 0)).ch = false)
    ∧ ((heldDesc AcqState.armed).tr.held = [HeldAlloc.mk 0 0 (some 0)] ∧ (heldDesc AcqState.armed).armedOn (HeldAlloc.mk 0 0 (some 0)).ch = true ∧ (HeldAlloc.mk 0 0 (some 0)).desc = some 0 ∧ ((heldDesc AcqState.armed).reach 5).pick = Pick.page 0 0 ∧ (heldDesc AcqState.armed).heldPages (HeldAlloc.mk 0 0 (some 0)).ch + 1 ≤ (heldDesc AcqState.armed).ch[(HeldAlloc.mk 0 0 (some 0)).ch].quota ∧ ((heldDesc AcqState.armed).acq? (HeldAlloc.mk 0 0 (some 0)).ch (heldDesc AcqState.armed).ch[(HeldAlloc.mk 0 0 (some 0)).ch].acq).isSome = true ∧ (heldDesc AcqState.armed).descPage (HeldAlloc.mk 0 0 (some 0)).ch (heldDesc AcqState.armed).ch[(HeldAlloc.mk 0 0 (some 0)).ch].acq (1024 * 0) = none)
    ∧ (queued.tr.descQ = [(0, 1, 1)] ∧ queued.tr.descNext ≤ max queued.clk 20 ∧ queued.seg? 0 1 1 = some seg1 ∧ queued.descPage 0 1 1 = some 2 ∧ queued.tr.mem.wf = true) := by
  repeat' with_reducible apply And.intro
  all_goals first | decide +kernel | (intros; rfl) | (intro _ _ h; cases h) | exact ⟨_, List.Mem.head _, rfl⟩

/-- A group of zero words as 13 R320 to R322 store it, with POISON bits. -/
def zeroGroup (row g poison : Nat) : RawGroup :=
  let w := 112 * row + 7 * g
  let c := checkWord row g w (List.replicate 7 0) poison
  ⟨g, List.replicate 7 0#64, BitVec.ofNat 64 c,
    (List.range 7).map (fun i => BitVec.ofNat 8 (checkField 0 (w + i) % 256)) ++ [BitVec.ofNat 8 (checkSide c)]⟩

/-- The same with one data bit flipped. -/
def flipped (row g : Nat) : RawGroup := { zeroGroup row g 0 with words := 1#64 :: List.replicate 6 0#64 }

/-- Self-refresh. -/
def resting : State := lit.modMem (fun m => { m with sr := .on })

/-- A migration of pseudo-channel 0 to 15 at its first row. -/
def migrating : State := (lit.modMem (fun m => { m with mig := some ⟨0, 15, 0, 2, 0, 0, 0, .active⟩ })).modPc 0 (fun y => { y with st := .migFrom })

/-- The migration has copied every row. -/
def migrated : State := migrating.modMem (fun m => { m with mig := some ⟨0, 15, 1048576, 2, 0, 0, 0, .active⟩ })

/-- A training that finds a setting, and one that does not. -/
def trains (b : Bool) : PcTraining := ⟨default, List.replicate 72 (if b then ⟨300, 40⟩ else ⟨300, 39⟩)⟩

/-- Pages queued to be scrubbed and a row to be written back. -/
def scrubbing : State := lit.modMem (fun m => { m with queue := [(28671, 0)], wbq := [(0, 5)] })

/-- Pseudo-channel 3 retired. -/
def retired3 : State := lit.modPc 3 (fun y => { y with st := .retired })

/-- It is being restored. -/
def restoring3 : State := retired3.modMem (fun m => { m with restore := some 3 })

/-- A capacity reduction of pseudo-channel 3 is under way. -/
def reducing : State := lit.modMem (fun m => { m with reduce := some (3, 3, 2) })

/-- Pseudo-channel 0 retrains. -/
def training (n : Nat) : State := lit.modPc 0 (fun y => { y with retrain := some n })

/-- Pseudo-channel 0 has counted corrected words in its window. -/
def counted (n : Nat) : State := lit.modPc 0 (fun y => { y with ceWin := n })

/-- Self-refresh is asked for. -/
def restAsked (b : Bool) : State := lit.modMem (fun m => { m with sr := .entry b })


set_option maxRecDepth 20000 in
/-- The hypotheses of `Obligations.GroupsAndScrub` are met. -/
theorem witness_GroupsAndScrub :
    ((resting.pcWorks 0 && resting.memServes) = false ∧ resting.srAborts = false)
    ∧ (lit.pcWorks 0 = true ∧ lit.memServes = true ∧ lit.srAborts = false ∧ 1048575 < 1048576 ∧ (lit.decodeAt 0 1048575 (zeroGroup 1048575 15 0)).losses.snd = [])
    ∧ (lit.pcWorks 0 = true ∧ lit.memServes = true ∧ lit.srAborts = false ∧ 1 < 1048576 ∧ (lit.decodeAt 0 1 (flipped 1 15)).losses.snd = [])
    ∧ (migrating.pcWorks 0 = true ∧ migrating.memServes = true ∧ migrating.srAborts = false ∧ 0 < 1048576 ∧ migrating.memBackground = true ∧ migrating.mem.mig = some (Migration.mk 0 15 0 2 0 0 0 PcState.active) ∧ (Migration.mk 0 15 0 2 0 0 0 PcState.active).from_ = 0 ∧ (Migration.mk 0 15 0 2 0 0 0 PcState.active).ptr = 0 ∧ migrating.liveSlot 0 0 = some 0 ∧ (∀ (x : Seg), x ∈ migrating.tr.segs → x.written = false))
    ∧ (resting.srAborts = false ∧ resting.memBackground = false)
    ∧ (lit.srAborts = false ∧ lit.memBackground = true ∧ lit.mem.queue = [] ∧ lit.pcWorks (Fin.ofNat 32 lit.mem.scrubPc) = true ∧ lit.mem.scrubRow + 1 < 1048576)
    ∧ (scrubbing.srAborts = false ∧ scrubbing.memBackground = true ∧ scrubbing.mem.queue = [(28671, 0)])
    ∧ (scrubbing.srAborts = false ∧ scrubbing.memBackground = true ∧ scrubbing.mem.wbq = [(0, 5)])
    ∧ (lit.srAborts = false ∧ lit.mem.wbq = [])
    ∧ (Ready (fresh 774 0 (zs 16)) 5 0 774 (lenIs 16) ∧ fieldAt ((fresh 774 0 (zs 16)).reqOf 0).payload 1 3 = 0 ∧ fieldAt ((fresh 774 0 (zs 16)).reqOf 0).payload 12 4 = 0 ∧ fieldAt ((fresh 774 0 (zs 16)).reqOf 0).payload 0 1 = 0 ∧ fieldAt ((fresh 774 0 (zs 16)).reqOf 0).payload 4 4 = 0 ∧ fieldAt ((fresh 774 0 (zs 16)).reqOf 0).payload 8 4 = 0)
    ∧ (Ready (fresh 774 0 ([1, 0, 0, 0] ++ leBytes 4 860159 ++ leBytes 4 1 ++ zs 4)) 5 0 774 (lenIs 16) ∧ fieldAt ((fresh 774 0 ([1, 0, 0, 0] ++ leBytes 4 860159 ++ leBytes 4 1 ++ zs 4)).reqOf 0).payload 1 3 = 0 ∧ fieldAt ((fresh 774 0 ([1, 0, 0, 0] ++ leBytes 4 860159 ++ leBytes 4 1 ++ zs 4)).reqOf 0).payload 12 4 = 0 ∧ fieldAt ((fresh 774 0 ([1, 0, 0, 0] ++ leBytes 4 860159 ++ leBytes 4 1 ++ zs 4)).reqOf 0).payload 0 1 = 1 ∧ 1 ≤ fieldAt ((fresh 774 0 ([1, 0, 0, 0] ++ leBytes 4 860159 ++ leBytes 4 1 ++ zs 4)).reqOf 0).payload 8 4 ∧ fieldAt ((fresh 774 0 ([1, 0, 0, 0] ++ leBytes 4 860159 ++ leBytes 4 1 ++ zs 4)).reqOf 0).payload 8 4 ≤ 65536 ∧ (fresh 774 0 ([1, 0, 0, 0] ++ leBytes 4 860159 ++ leBytes 4 1 ++ zs 4)).pagesExist (fieldAt ((fresh 774 0 ([1, 0, 0, 0] ++ leBytes 4 860159 ++ leBytes 4 1 ++ zs 4)).reqOf 0).payload 4 4) (fieldAt ((fresh 774 0 ([1, 0, 0, 0] ++ leBytes 4 860159 ++ leBytes 4 1 ++ zs 4)).reqOf 0).payload 8 4) = true ∧ (fresh 774 0 ([1, 0, 0, 0] ++ leBytes 4 860159 ++ leBytes 4 1 ++ zs 4)).mem.queue.length + fieldAt ((fresh 774 0 ([1, 0, 0, 0] ++ leBytes 4 860159 ++ leBytes 4 1 ++ zs 4)).reqOf 0).payload 8 4 ≤ 65536) := by
  repeat' with_reducible apply And.intro
  all_goals first | decide +kernel | (intros; rfl) | (intro _ _ h; cases h) | exact ⟨_, List.Mem.head _, rfl⟩

set_option maxRecDepth 20000 in
/-- The hypotheses of `Obligations.RetirementOfPseudoChannels` are met, part 1 of 2. -/
theorem witness_RetirementOfPseudoChannels_1 :
    (Ready (fresh 773 0 (32 :: zs 7)) 5 0 773 (lenIs 8) ∧ (¬(fieldAt ((fresh 773 0 (32 :: zs 7)).reqOf 0).payload 0 1 ≤ 31 ∧ fieldAt ((fresh 773 0 (32 :: zs 7)).reqOf 0).payload 1 1 ≤ 1 ∧ fieldAt ((fresh 773 0 (32 :: zs 7)).reqOf 0).payload 2 1 ≤ 1 ∧ allZero (List.drop 3 ((fresh 773 0 (32 :: zs 7)).reqOf 0).payload) = true)))
    ∧ (Ready (fresh 773 0 ([3, 1] ++ zs 6)) 5 0 773 (lenIs 8) ∧ fieldAt ((fresh 773 0 ([3, 1] ++ zs 6)).reqOf 0).payload 0 1 ≤ 31 ∧ fieldAt ((fresh 773 0 ([3, 1] ++ zs 6)).reqOf 0).payload 1 1 ≤ 1 ∧ fieldAt ((fresh 773 0 ([3, 1] ++ zs 6)).reqOf 0).payload 2 1 ≤ 1 ∧ allZero (List.drop 3 ((fresh 773 0 ([3, 1] ++ zs 6)).reqOf 0).payload) = true ∧ if fieldAt ((fresh 773 0 ([3, 1] ++ zs 6)).reqOf 0).payload 1 1 = 0 then (fresh 773 0 ([3, 1] ++ zs 6)).mem.pcs[Fin.ofNat 32 (fieldAt ((fresh 773 0 ([3, 1] ++ zs 6)).reqOf 0).payload 0 1)].st = PcState.retired else (fresh 773 0 ([3, 1] ++ zs 6)).mem.pcs[Fin.ofNat 32 (fieldAt ((fresh 773 0 ([3, 1] ++ zs 6)).reqOf 0).payload 0 1)].st ≠ PcState.retired)
    ∧ (Ready (fresh 773 0 (31 :: zs 7)) 5 0 773 (lenIs 8) ∧ fieldAt ((fresh 773 0 (31 :: zs 7)).reqOf 0).payload 0 1 ≤ 31 ∧ fieldAt ((fresh 773 0 (31 :: zs 7)).reqOf 0).payload 1 1 ≤ 1 ∧ fieldAt ((fresh 773 0 (31 :: zs 7)).reqOf 0).payload 2 1 ≤ 1 ∧ allZero (List.drop 3 ((fresh 773 0 (31 :: zs 7)).reqOf 0).payload) = true ∧ (fresh 773 0 (31 :: zs 7)).mem.mig = none ∧ (fresh 773 0 (31 :: zs 7)).mem.reduce = none ∧ (fresh 773 0 (31 :: zs 7)).working 773 = false ∧ (fresh 773 0 (31 :: zs 7)).mr.work.length < 16 ∧ fieldAt ((fresh 773 0 (31 :: zs 7)).reqOf 0).payload 1 1 = 0 ∧ (fresh 773 0 (31 :: zs 7)).mem.pcs[Fin.ofNat 32 (fieldAt ((fresh 773 0 (31 :: zs 7)).reqOf 0).payload 0 1)].st = PcState.spare)
    ∧ (Ready (fresh 773 0 (30 :: zs 7)) 5 0 773 (lenIs 8) ∧ fieldAt ((fresh 773 0 (30 :: zs 7)).reqOf 0).payload 0 1 ≤ 31 ∧ fieldAt ((fresh 773 0 (30 :: zs 7)).reqOf 0).payload 1 1 ≤ 1 ∧ fieldAt ((fresh 773 0 (30 :: zs 7)).reqOf 0).payload 2 1 ≤ 1 ∧ allZero (List.drop 3 ((fresh 773 0 (30 :: zs 7)).reqOf 0).payload) = true ∧ (fresh 773 0 (30 :: zs 7)).mem.mig = none ∧ (fresh 773 0 (30 :: zs 7)).mem.reduce = none ∧ (fresh 773 0 (30 :: zs 7)).working 773 = false ∧ (fresh 773 0 (30 :: zs 7)).mr.work.length < 16 ∧ fieldAt ((fresh 773 0 (30 :: zs 7)).reqOf 0).payload 1 1 = 0 ∧ (fresh 773 0 (30 :: zs 7)).mem.pcs[Fin.ofNat 32 (fieldAt ((fresh 773 0 (30 :: zs 7)).reqOf 0).payload 0 1)].st = PcState.active ∧ (fresh 773 0 (30 :: zs 7)).spareFor (Fin.ofNat 32 (fieldAt ((fresh 773 0 (30 :: zs 7)).reqOf 0).payload 0 1)) = some 31 ∧ Fin.ofNat 32 (fieldAt ((fresh 773 0 (30 :: zs 7)).reqOf 0).payload 0 1) ≠ 31) := by
  repeat' with_reducible apply And.intro
  all_goals first | decide +kernel | (intros; rfl) | (intro _ _ h; cases h) | exact ⟨_, List.Mem.head _, rfl⟩

set_option maxRecDepth 20000 in
/-- The hypotheses of `Obligations.RetirementOfPseudoChannels` are met, part 2 of 2. -/
theorem witness_RetirementOfPseudoChannels_2 :
    (Ready (issued retired3 773 0 ([3, 1] ++ zs 6)) 5 0 773 (lenIs 8) ∧ fieldAt ((issued retired3 773 0 ([3, 1] ++ zs 6)).reqOf 0).payload 0 1 ≤ 31 ∧ fieldAt ((issued retired3 773 0 ([3, 1] ++ zs 6)).reqOf 0).payload 1 1 ≤ 1 ∧ fieldAt ((issued retired3 773 0 ([3, 1] ++ zs 6)).reqOf 0).payload 2 1 ≤ 1 ∧ allZero (List.drop 3 ((issued retired3 773 0 ([3, 1] ++ zs 6)).reqOf 0).payload) = true ∧ (issued retired3 773 0 ([3, 1] ++ zs 6)).mem.mig = none ∧ (issued retired3 773 0 ([3, 1] ++ zs 6)).mem.reduce = none ∧ (issued retired3 773 0 ([3, 1] ++ zs 6)).working 773 = false ∧ (issued retired3 773 0 ([3, 1] ++ zs 6)).mr.work.length < 16 ∧ fieldAt ((issued retired3 773 0 ([3, 1] ++ zs 6)).reqOf 0).payload 1 1 = 1 ∧ (issued retired3 773 0 ([3, 1] ++ zs 6)).mem.pcs[Fin.ofNat 32 (fieldAt ((issued retired3 773 0 ([3, 1] ++ zs 6)).reqOf 0).payload 0 1)].st = PcState.retired)
    ∧ ((∀ (g : Migration), lit.mem.mig = some g → g.ptr ≠ 1048576))
    ∧ (migrated.mem.mig = some (Migration.mk 0 15 1048576 2 0 0 0 PcState.active) ∧ (Migration.mk 0 15 1048576 2 0 0 0 PcState.active).ptr = 1048576 ∧ (Migration.mk 0 15 1048576 2 0 0 0 PcState.active).from_ ≠ (Migration.mk 0 15 1048576 2 0 0 0 PcState.active).dst ∧ migrated.mem.waitRet = [])
    ∧ (lit.mem.reduce = none)
    ∧ (reducing.mem.reduce = some (3, 3, 2) ∧ reducing.mem.waitRet = [] ∧ (∀ (c : Fin 4), reducing.armedOn c = false))
    ∧ (lit.mem.restore = none)
    ∧ (restoring3.mem.restore = some 3 ∧ trainingWorks (trains true) = true)
    ∧ (restoring3.mem.restore = some 3 ∧ trainingWorks (trains false) = false)
    ∧ (Ready (fresh 772 0 []) 5 0 772 (lenIs 0)) := by
  repeat' with_reducible apply And.intro
  all_goals first | decide +kernel | (intros; rfl) | (intro _ _ h; cases h) | exact ⟨_, List.Mem.head _, rfl⟩

set_option maxRecDepth 20000 in
/-- The hypotheses of `Obligations.TrainingAndSelfRefresh` are met. -/
theorem witness_TrainingAndSelfRefresh :
    (lit.srAborts = false ∧ (deskewEnds [] || decide (lit.mkey 2817 * 10 ≤ (0 - lit.mem.pcs[0].tempTr).natAbs)) = false)
    ∧ (lit.srAborts = false ∧ (deskewEnds [] || decide (lit.mkey 2817 * 10 ≤ (1000 - lit.mem.pcs[0].tempTr).natAbs)) = true ∧ ((lit.mem.pcs[0].st = PcState.active ∨ lit.mem.pcs[0].st = PcState.spare) ∧ lit.mem.pcs[0].retrain = none ∧ ¬0 ∈ lit.mem.retrainQ ∧ lit.stackTrains 0 = false))
    ∧ (lit.srAborts = false ∧ lit.mem.pcs[0].retrain = none)
    ∧ ((training 2046).srAborts = false ∧ (training 2046).mem.pcs[0].retrain = some 2046 ∧ (training 2046).memBackground = true ∧ 2046 + 1 < 2048)
    ∧ ((training 2047).srAborts = false ∧ (training 2047).mem.pcs[0].retrain = some 2047 ∧ (training 2047).memBackground = true ∧ 2048 ≤ 2047 + 1 ∧ (training 2047).mem.retrainQ = [] ∧ settingWorks (trains true).eyes = true)
    ∧ ((training 2047).srAborts = false ∧ (training 2047).mem.pcs[0].retrain = some 2047 ∧ (training 2047).memBackground = true ∧ 2048 ≤ 2047 + 1 ∧ (training 2047).mem.retrainQ = [] ∧ settingWorks (trains false).eyes = false)
    ∧ (retired3.srAborts = false ∧ retired3.mem.pcs[3].st = PcState.retired)
    ∧ (lit.srAborts = false ∧ lit.mem.pcs[0].st ≠ PcState.retired ∧ lit.mem.pcs[0].ceWin < lit.mkey 2818 ∧ ((lit.mem.pcs[0].ceTrig && lit.mem.pcs[0].retrain.isNone && !lit.mem.retrainQ.contains 0) = true → lit.mem.pcs[0].ceWin < lit.mkey 2819))
    ∧ ((counted 100000).srAborts = false ∧ (counted 100000).mem.pcs[0].st ≠ PcState.retired ∧ (counted 100000).mkey 2818 ≤ (counted 100000).mem.pcs[0].ceWin ∧ (counted 100000).mem.pcs[0].ceTrig = false ∧ (((counted 100000).mem.pcs[0].st = PcState.active ∨ (counted 100000).mem.pcs[0].st = PcState.spare) ∧ (counted 100000).mem.pcs[0].retrain = none ∧ ¬0 ∈ (counted 100000).mem.retrainQ ∧ (counted 100000).stackTrains 0 = false))
    ∧ ((restAsked false).mem.sr = SelfRef.entry false ∧ (false = false ∨ true = false ∧ (restAsked false).memWork = false) ∧ (restAsked false).ck.relock = none)
    ∧ ((restAsked true).mem.sr = SelfRef.entry true ∧ (true = false ∨ false = false ∧ (restAsked true).memWork = false) ∧ (restAsked true).ck.relock = none)
    ∧ ((restAsked true).mem.sr = SelfRef.entry true ∧ (restAsked true).ck.relock = none)
    ∧ ((resting.mem.sr = SelfRef.off ∨ resting.mem.sr = SelfRef.on))
    ∧ (resting.mem.sr = SelfRef.on ∧ resting.ck.relock = none ∧ resting.ck.synth ≠ 2 ∧ resting.pw.st ≤ 2 ∧ resting.pw.entry = none)
    ∧ (((relocking 4 1).ck.relock ≠ none ∨ (relocking 4 1).ck.synth = 2)) := by
  repeat' with_reducible apply And.intro
  all_goals first | decide +kernel | (intros; rfl) | (intro _ _ h; cases h) | exact ⟨_, List.Mem.head _, rfl⟩

/-- The payload of HARVEST_QUEUE_CREATE. -/
def queuePay (q n : Nat) : List Byte := [byteOf q, 1, 63, 0] ++ leBytes 4 n ++ leBytes 8 4096 ++ leBytes 8 8192 ++ zs 8

/-- An executing NOP descriptor. -/
def nopRun : Executing := ⟨0, HDesc.ofBytes (3 :: zs 63), [], none, 0, false, 0, 0, [], []⟩

/-- Queue 63 lives with 16 entries, so many descriptors executing and one waiting to be taken. -/
def live63 (n : Nat) : State := lit.modQ 63 (fun q => { q with
  live := true, weight := 1, vector := 63, entries := 16, ring := 4096, cring := 8192, tail := 1, exec := List.replicate n nopRun })

/-- HARVEST_QUEUE_DESTROY waits for queue 63 until tick 1000. -/
def destroying : State := (((live63 1).modQ 63 (fun q => { q with dying := true })).modMb 0 (fun b => { b with state := .busy })).modMr
  (fun m => { m with exec := some ⟨0, 5, .hqDestroy 63 0 0 1000 true⟩ })

/-- The link is down. -/
def unlinked : State := lit.modHl (fun h => { h with up := false, wasDown := true })

/-- A message of vector 5 is pending. -/
def pendingMsg : State := lit.modHl (fun h => { h with pba := 32#64 })


set_option maxRecDepth 20000 in
/-- The hypotheses of `Obligations.QueuesAndDescriptors` are met, part 1 of 2. -/
theorem witness_QueuesAndDescriptors_1 :
    (Ready (fresh 2817 0 (queuePay 64 16)) 5 0 2817 (lenIs 32) ∧ (63 < fieldAt ((fresh 2817 0 (queuePay 64 16)).reqOf 0).payload 0 1 ∨ fieldAt ((fresh 2817 0 (queuePay 64 16)).reqOf 0).payload 1 1 = 0 ∨ 63 < fieldAt ((fresh 2817 0 (queuePay 64 16)).reqOf 0).payload 2 1 ∨ fieldAt ((fresh 2817 0 (queuePay 64 16)).reqOf 0).payload 3 1 ≠ 0 ∨ fieldAt ((fresh 2817 0 (queuePay 64 16)).reqOf 0).payload 4 4 < 16 ∨ 65536 < fieldAt ((fresh 2817 0 (queuePay 64 16)).reqOf 0).payload 4 4 ∨ 2 ^ (fieldAt ((fresh 2817 0 (queuePay 64 16)).reqOf 0).payload 4 4).log2 ≠ fieldAt ((fresh 2817 0 (queuePay 64 16)).reqOf 0).payload 4 4 ∨ fieldAt ((fresh 2817 0 (queuePay 64 16)).reqOf 0).payload 8 8 % 4096 ≠ 0 ∨ fieldAt ((fresh 2817 0 (queuePay 64 16)).reqOf 0).payload 16 8 % 4096 ≠ 0 ∨ fieldAt ((fresh 2817 0 (queuePay 64 16)).reqOf 0).payload 24 8 ≠ 0))
    ∧ (Ready (fresh 2817 0 (queuePay 0 24)) 5 0 2817 (lenIs 32) ∧ (63 < fieldAt ((fresh 2817 0 (queuePay 0 24)).reqOf 0).payload 0 1 ∨ fieldAt ((fresh 2817 0 (queuePay 0 24)).reqOf 0).payload 1 1 = 0 ∨ 63 < fieldAt ((fresh 2817 0 (queuePay 0 24)).reqOf 0).payload 2 1 ∨ fieldAt ((fresh 2817 0 (queuePay 0 24)).reqOf 0).payload 3 1 ≠ 0 ∨ fieldAt ((fresh 2817 0 (queuePay 0 24)).reqOf 0).payload 4 4 < 16 ∨ 65536 < fieldAt ((fresh 2817 0 (queuePay 0 24)).reqOf 0).payload 4 4 ∨ 2 ^ (fieldAt ((fresh 2817 0 (queuePay 0 24)).reqOf 0).payload 4 4).log2 ≠ fieldAt ((fresh 2817 0 (queuePay 0 24)).reqOf 0).payload 4 4 ∨ fieldAt ((fresh 2817 0 (queuePay 0 24)).reqOf 0).payload 8 8 % 4096 ≠ 0 ∨ fieldAt ((fresh 2817 0 (queuePay 0 24)).reqOf 0).payload 16 8 % 4096 ≠ 0 ∨ fieldAt ((fresh 2817 0 (queuePay 0 24)).reqOf 0).payload 24 8 ≠ 0))
    ∧ (Ready (issued (live63 0) 2817 0 (queuePay 63 16)) 5 0 2817 (lenIs 32) ∧ (¬(63 < fieldAt ((issued (live63 0) 2817 0 (queuePay 63 16)).reqOf 0).payload 0 1 ∨ fieldAt ((issued (live63 0) 2817 0 (queuePay 63 16)).reqOf 0).payload 1 1 = 0 ∨ 63 < fieldAt ((issued (live63 0) 2817 0 (queuePay 63 16)).reqOf 0).payload 2 1 ∨ fieldAt ((issued (live63 0) 2817 0 (queuePay 63 16)).reqOf 0).payload 3 1 ≠ 0 ∨ fieldAt ((issued (live63 0) 2817 0 (queuePay 63 16)).reqOf 0).payload 4 4 < 16 ∨ 65536 < fieldAt ((issued (live63 0) 2817 0 (queuePay 63 16)).reqOf 0).payload 4 4 ∨ 2 ^ (fieldAt ((issued (live63 0) 2817 0 (queuePay 63 16)).reqOf 0).payload 4 4).log2 ≠ fieldAt ((issued (live63 0) 2817 0 (queuePay 63 16)).reqOf 0).payload 4 4 ∨ fieldAt ((issued (live63 0) 2817 0 (queuePay 63 16)).reqOf 0).payload 8 8 % 4096 ≠ 0 ∨ fieldAt ((issued (live63 0) 2817 0 (queuePay 63 16)).reqOf 0).payload 16 8 % 4096 ≠ 0 ∨ fieldAt ((issued (live63 0) 2817 0 (queuePay 63 16)).reqOf 0).payload 24 8 ≠ 0)) ∧ (issued (live63 0) 2817 0 (queuePay 63 16)).hv.qs[Fin.ofNat 64 (fieldAt ((issued (live63 0) 2817 0 (queuePay 63 16)).reqOf 0).payload 0 1)].live = true) := by
  repeat' with_reducible apply And.intro
  all_goals first | decide +kernel | (intros; rfl) | (intro _ _ h; cases h) | exact ⟨_, List.Mem.head _, rfl⟩

set_option maxRecDepth 20000 in
/-- The hypotheses of `Obligations.QueuesAndDescriptors` are met, part 2 of 2. -/
theorem witness_QueuesAndDescriptors_2 :
    (Ready (fresh 2817 0 (queuePay 63 65536)) 5 0 2817 (lenIs 32) ∧ (¬(63 < fieldAt ((fresh 2817 0 (queuePay 63 65536)).reqOf 0).payload 0 1 ∨ fieldAt ((fresh 2817 0 (queuePay 63 65536)).reqOf 0).payload 1 1 = 0 ∨ 63 < fieldAt ((fresh 2817 0 (queuePay 63 65536)).reqOf 0).payload 2 1 ∨ fieldAt ((fresh 2817 0 (queuePay 63 65536)).reqOf 0).payload 3 1 ≠ 0 ∨ fieldAt ((fresh 2817 0 (queuePay 63 65536)).reqOf 0).payload 4 4 < 16 ∨ 65536 < fieldAt ((fresh 2817 0 (queuePay 63 65536)).reqOf 0).payload 4 4 ∨ 2 ^ (fieldAt ((fresh 2817 0 (queuePay 63 65536)).reqOf 0).payload 4 4).log2 ≠ fieldAt ((fresh 2817 0 (queuePay 63 65536)).reqOf 0).payload 4 4 ∨ fieldAt ((fresh 2817 0 (queuePay 63 65536)).reqOf 0).payload 8 8 % 4096 ≠ 0 ∨ fieldAt ((fresh 2817 0 (queuePay 63 65536)).reqOf 0).payload 16 8 % 4096 ≠ 0 ∨ fieldAt ((fresh 2817 0 (queuePay 63 65536)).reqOf 0).payload 24 8 ≠ 0)) ∧ (fresh 2817 0 (queuePay 63 65536)).hv.qs[Fin.ofNat 64 (fieldAt ((fresh 2817 0 (queuePay 63 65536)).reqOf 0).payload 0 1)].live = false)
    ∧ (lit.hv.qs[0].live = false)
    ∧ ((live63 0).hl.up = true ∧ (live63 0).hv.qs[63].live = true ∧ BitVec.toNat 15#32 < (live63 0).hv.qs[63].entries)
    ∧ ((live63 0).hl.up = true ∧ (live63 0).hv.qs[63].live = true ∧ (live63 0).hv.qs[63].entries ≤ BitVec.toNat 16#32)
    ∧ (lit.mayFetch 0 = false)
    ∧ ((live63 3).mayFetch 63 = true ∧ 1 ≤ 3 ∧ 3 ≤ 3)
    ∧ ((live63 0).mayFetch 63 = true ∧ (live63 0).pw.st ≠ 2)
    ∧ ((live63 1).hv.qs[63].exec = [nopRun] ∧ (live63 1).hl.up = true ∧ (live63 1).hv.qs[63].dying = false ∧ (nopRun.status ≠ none ∨ (live63 1).memServes = true ∧ (live63 1).ck.relock = none) ∧ (live63 1).hl.hostMem.wf = true) := by
  repeat' with_reducible apply And.intro
  all_goals first | decide +kernel | (intros; rfl) | (intro _ _ h; cases h) | exact ⟨_, List.Mem.head _, rfl⟩

set_option maxRecDepth 20000 in
/-- The hypotheses of `Obligations.QueueEndsAndLink` are met, part 1 of 2. -/
theorem witness_QueueEndsAndLink_1 :
    (Ready (fresh 2818 0 (63 :: zs 7)) 5 0 2818 (lenIs 8) ∧ fieldAt ((fresh 2818 0 (63 :: zs 7)).reqOf 0).payload 0 1 ≤ 63 ∧ fieldAt ((fresh 2818 0 (63 :: zs 7)).reqOf 0).payload 2 6 = 0 ∧ fieldAt ((fresh 2818 0 (63 :: zs 7)).reqOf 0).payload 1 1 ≤ 1 ∧ (fresh 2818 0 (63 :: zs 7)).hv.qs[Fin.ofNat 64 (fieldAt ((fresh 2818 0 (63 :: zs 7)).reqOf 0).payload 0 1)].live = false)
    ∧ (Ready (issued (live63 0) 2818 0 (63 :: zs 7)) 5 0 2818 (lenIs 8) ∧ fieldAt ((issued (live63 0) 2818 0 (63 :: zs 7)).reqOf 0).payload 0 1 ≤ 63 ∧ fieldAt ((issued (live63 0) 2818 0 (63 :: zs 7)).reqOf 0).payload 2 6 = 0 ∧ fieldAt ((issued (live63 0) 2818 0 (63 :: zs 7)).reqOf 0).payload 1 1 ≤ 1 ∧ (issued (live63 0) 2818 0 (63 :: zs 7)).hv.qs[Fin.ofNat 64 (fieldAt ((issued (live63 0) 2818 0 (63 :: zs 7)).reqOf 0).payload 0 1)].live = true ∧ (issued (live63 0) 2818 0 (63 :: zs 7)).hv.qs[Fin.ofNat 64 (fieldAt ((issued (live63 0) 2818 0 (63 :: zs 7)).reqOf 0).payload 0 1)].exec = [])
    ∧ (Ready (issued (live63 4) 2818 0 (63 :: 1 :: zs 6)) 5 0 2818 (lenIs 8) ∧ fieldAt ((issued (live63 4) 2818 0 (63 :: 1 :: zs 6)).reqOf 0).payload 0 1 ≤ 63 ∧ fieldAt ((issued (live63 4) 2818 0 (63 :: 1 :: zs 6)).reqOf 0).payload 2 6 = 0 ∧ fieldAt ((issued (live63 4) 2818 0 (63 :: 1 :: zs 6)).reqOf 0).payload 1 1 = 1 ∧ (issued (live63 4) 2818 0 (63 :: 1 :: zs 6)).hv.qs[Fin.ofNat 64 (fieldAt ((issued (live63 4) 2818 0 (63 :: 1 :: zs 6)).reqOf 0).payload 0 1)].live = true ∧ (issued (live63 4) 2818 0 (63 :: 1 :: zs 6)).hv.qs[Fin.ofNat 64 (fieldAt ((issued (live63 4) 2818 0 (63 :: 1 :: zs 6)).reqOf 0).payload 0 1)].exec ≠ [] ∧ (issued (live63 4) 2818 0 (63 :: 1 :: zs 6)).hv.qs[Fin.ofNat 64 (fieldAt ((issued (live63 4) 2818 0 (63 :: 1 :: zs 6)).reqOf 0).payload 0 1)].exec.length ≤ 4)
    ∧ (Ready (issued (live63 1) 2818 0 (63 :: zs 7)) 5 0 2818 (lenIs 8) ∧ fieldAt ((issued (live63 1) 2818 0 (63 :: zs 7)).reqOf 0).payload 0 1 ≤ 63 ∧ fieldAt ((issued (live63 1) 2818 0 (63 :: zs 7)).reqOf 0).payload 2 6 = 0 ∧ fieldAt ((issued (live63 1) 2818 0 (63 :: zs 7)).reqOf 0).payload 1 1 = 0 ∧ (issued (live63 1) 2818 0 (63 :: zs 7)).hv.qs[Fin.ofNat 64 (fieldAt ((issued (live63 1) 2818 0 (63 :: zs 7)).reqOf 0).payload 0 1)].live = true ∧ (issued (live63 1) 2818 0 (63 :: zs 7)).hv.qs[Fin.ofNat 64 (fieldAt ((issued (live63 1) 2818 0 (63 :: zs 7)).reqOf 0).payload 0 1)].exec ≠ [])
    ∧ (destroying.mr.exec = some (Exec.mk 0 5 (Wait.hqDestroy 63 0 0 1000 true)) ∧ max destroying.clk 999 < 1000)
    ∧ (destroying.mr.exec = some (Exec.mk 0 5 (Wait.hqDestroy 63 0 0 1000 true)) ∧ 1000 ≤ max destroying.clk 1000 ∧ destroying.hv.qs[63].dying = true ∧ destroying.hv.qs[63].exec.length ≤ 4 ∧ destroying.fw.halted = false)
    ∧ (unlinked.hl.up = false)
    ∧ (lit.hl.up = true ∧ lit.hl.pba.getLsbD ↑5 = false)
    ∧ (pendingMsg.hl.up = true ∧ pendingMsg.hl.msixOn = true ∧ pendingMsg.hl.pba.getLsbD ↑5 = true)
    ∧ (unlinked.hl.up = false ∧ (1 = 1 ∨ 3 ≤ unlinked.pw.st))
    ∧ (((live63 1).hl.up = true ∨ 1 ≠ 1 ∧ (live63 1).pw.st ≤ 2))
    ∧ ((unlinked.hl.up = true ∨ 2 ≠ 1 ∧ unlinked.pw.st ≤ 2)) := by
  repeat' with_reducible apply And.intro
  all_goals first | decide +kernel | (intros; rfl) | (intro _ _ h; cases h) | exact ⟨_, List.Mem.head _, rfl⟩

set_option maxRecDepth 20000 in
/-- The hypotheses of `Obligations.QueueEndsAndLink` are met, part 2 of 2. -/
theorem witness_QueueEndsAndLink_2 :
    ((lit.hl.up = true ∨ lit.pw.main = false ∨ lit.pw.inserted = false ∨ 3 ≤ lit.pw.st))
    ∧ (unlinked.hl.up = false ∧ unlinked.pw.main = true ∧ unlinked.pw.inserted = true ∧ unlinked.pw.st ≤ 2) := by
  repeat' with_reducible apply And.intro
  all_goals first | decide +kernel | (intros; rfl) | (intro _ _ h; cases h) | exact ⟨_, List.Mem.head _, rfl⟩

/-- The payload of PLAY_LOAD for `n` samples. -/
def playPay (o n : Nat) : List Byte := [byteOf o, 0, 0, 0] ++ leBytes 4 n ++ leBytes 8 64 ++ leBytes 4 (waveWords n * 8) ++ zs 12

/-- Output 1 in a state, its waveform of 80 samples in page 7 once it has one. -/
def outAt (st start : Nat) (streamed : Bool) : State := (lit.modOut 1 (fun x => { x with
  st := st, samples := 80, region := [7], streamed := streamed, start := start, loops := 1 })).modTr
    (fun t => { t with pages := [⟨7, .playback 1, false⟩] })

/-- Output 1 loads 80 samples into page 9. -/
def loading : State := ((outAt 1 0 false).modOut 1 (fun x => { x with loading := some ([9], 80) })).modTr
    (fun t => { t with pages := t.pages ++ [⟨9, .playback 1, false⟩] })

/-- Output 1 plays from tick 100, a stop at tick 104 ordered, and PLAY_STOP waits for it. -/
def playStopping : State := (((outAt 3 100 false).modOut 1 (fun x => { x with stopAt := some (104, 2) })).modMb 0 (fun b => { b with state := .busy })).modMr
  (fun m => { m with exec := some ⟨0, 5, .playStop 1⟩ })

/-- A streamed output whose words to index 2 are accounted for. -/
def fed : State := ((outAt 3 100 true).modOut 1 (fun x => { x with loops := 0, under := [0, 1, 2] }))

/-- A streamed output of which no word is accounted for. -/
def starved : State := ((outAt 3 100 true).modOut 1 (fun x => { x with loops := 0 }))


set_option maxRecDepth 20000 in
/-- The hypotheses of `Obligations.PlayLoading` are met, part 1 of 2. -/
theorem witness_PlayLoading_1 :
    (Ready (fresh 2561 0 (playPay 0 72)) 5 0 2561 (lenIs 32) ∧ (¬(fieldAt ((fresh 2561 0 (playPay 0 72)).reqOf 0).payload 0 1 ≤ 1 ∧ fieldAt ((fresh 2561 0 (playPay 0 72)).reqOf 0).payload 1 3 = 0 ∧ fieldAt ((fresh 2561 0 (playPay 0 72)).reqOf 0).payload 24 8 = 0 ∧ bulkOk ((fresh 2561 0 (playPay 0 72)).reqOf 0).payload 8 = true ∧ fieldAt ((fresh 2561 0 (playPay 0 72)).reqOf 0).payload 4 4 % 8 = 0 ∧ 80 ≤ fieldAt ((fresh 2561 0 (playPay 0 72)).reqOf 0).payload 4 4 ∧ fieldAt ((fresh 2561 0 (playPay 0 72)).reqOf 0).payload 4 4 ≤ 1342177280 ∧ (bulkRef ((fresh 2561 0 (playPay 0 72)).reqOf 0).payload 8).snd.fst = waveWords (fieldAt ((fresh 2561 0 (playPay 0 72)).reqOf 0).payload 4 4) * 8)))
    ∧ (Ready (issued (outAt 2 100 false) 2561 0 (playPay 1 80)) 5 0 2561 (lenIs 32) ∧ fieldAt ((issued (outAt 2 100 false) 2561 0 (playPay 1 80)).reqOf 0).payload 0 1 ≤ 1 ∧ fieldAt ((issued (outAt 2 100 false) 2561 0 (playPay 1 80)).reqOf 0).payload 1 3 = 0 ∧ fieldAt ((issued (outAt 2 100 false) 2561 0 (playPay 1 80)).reqOf 0).payload 24 8 = 0 ∧ bulkOk ((issued (outAt 2 100 false) 2561 0 (playPay 1 80)).reqOf 0).payload 8 = true ∧ fieldAt ((issued (outAt 2 100 false) 2561 0 (playPay 1 80)).reqOf 0).payload 4 4 % 8 = 0 ∧ 80 ≤ fieldAt ((issued (outAt 2 100 false) 2561 0 (playPay 1 80)).reqOf 0).payload 4 4 ∧ fieldAt ((issued (outAt 2 100 false) 2561 0 (playPay 1 80)).reqOf 0).payload 4 4 ≤ 1342177280 ∧ (bulkRef ((issued (outAt 2 100 false) 2561 0 (playPay 1 80)).reqOf 0).payload 8).snd.fst = waveWords (fieldAt ((issued (outAt 2 100 false) 2561 0 (playPay 1 80)).reqOf 0).payload 4 4) * 8 ∧ ((issued (outAt 2 100 false) 2561 0 (playPay 1 80)).out[Fin.ofNat 2 (fieldAt ((issued (outAt 2 100 false) 2561 0 (playPay 1 80)).reqOf 0).payload 0 1)].st = 2 ∨ (issued (outAt 2 100 false) 2561 0 (playPay 1 80)).out[Fin.ofNat 2 (fieldAt ((issued (outAt 2 100 false) 2561 0 (playPay 1 80)).reqOf 0).payload 0 1)].st = 3))
    ∧ (Ready (issued loading 2561 0 (playPay 1 80)) 5 0 2561 (lenIs 32) ∧ fieldAt ((issued loading 2561 0 (playPay 1 80)).reqOf 0).payload 0 1 ≤ 1 ∧ fieldAt ((issued loading 2561 0 (playPay 1 80)).reqOf 0).payload 1 3 = 0 ∧ fieldAt ((issued loading 2561 0 (playPay 1 80)).reqOf 0).payload 24 8 = 0 ∧ bulkOk ((issued loading 2561 0 (playPay 1 80)).reqOf 0).payload 8 = true ∧ fieldAt ((issued loading 2561 0 (playPay 1 80)).reqOf 0).payload 4 4 % 8 = 0 ∧ 80 ≤ fieldAt ((issued loading 2561 0 (playPay 1 80)).reqOf 0).payload 4 4 ∧ fieldAt ((issued loading 2561 0 (playPay 1 80)).reqOf 0).payload 4 4 ≤ 1342177280 ∧ (bulkRef ((issued loading 2561 0 (playPay 1 80)).reqOf 0).payload 8).snd.fst = waveWords (fieldAt ((issued loading 2561 0 (playPay 1 80)).reqOf 0).payload 4 4) * 8 ∧ (issued loading 2561 0 (playPay 1 80)).out[Fin.ofNat 2 (fieldAt ((issued loading 2561 0 (playPay 1 80)).reqOf 0).payload 0 1)].st ≤ 1 ∧ (issued loading 2561 0 (playPay 1 80)).out[Fin.ofNat 2 (fieldAt ((issued loading 2561 0 (playPay 1 80)).reqOf 0).payload 0 1)].loading ≠ none) := by
  repeat' with_reducible apply And.intro
  all_goals first | decide +kernel | (intros; rfl) | (intro _ _ h; cases h) | exact ⟨_, List.Mem.head _, rfl⟩

set_option maxRecDepth 20000 in
/-- The hypotheses of `Obligations.PlayLoading` are met, part 2 of 2. -/
theorem witness_PlayLoading_2 :
    (Ready (fresh 2561 0 (playPay 1 80)) 5 0 2561 (lenIs 32) ∧ fieldAt ((fresh 2561 0 (playPay 1 80)).reqOf 0).payload 0 1 ≤ 1 ∧ fieldAt ((fresh 2561 0 (playPay 1 80)).reqOf 0).payload 1 3 = 0 ∧ fieldAt ((fresh 2561 0 (playPay 1 80)).reqOf 0).payload 24 8 = 0 ∧ bulkOk ((fresh 2561 0 (playPay 1 80)).reqOf 0).payload 8 = true ∧ fieldAt ((fresh 2561 0 (playPay 1 80)).reqOf 0).payload 4 4 % 8 = 0 ∧ 80 ≤ fieldAt ((fresh 2561 0 (playPay 1 80)).reqOf 0).payload 4 4 ∧ fieldAt ((fresh 2561 0 (playPay 1 80)).reqOf 0).payload 4 4 ≤ 1342177280 ∧ (bulkRef ((fresh 2561 0 (playPay 1 80)).reqOf 0).payload 8).snd.fst = waveWords (fieldAt ((fresh 2561 0 (playPay 1 80)).reqOf 0).payload 4 4) * 8 ∧ (fresh 2561 0 (playPay 1 80)).out[Fin.ofNat 2 (fieldAt ((fresh 2561 0 (playPay 1 80)).reqOf 0).payload 0 1)].st ≤ 1 ∧ (fresh 2561 0 (playPay 1 80)).out[Fin.ofNat 2 (fieldAt ((fresh 2561 0 (playPay 1 80)).reqOf 0).payload 0 1)].loading = none ∧ (fresh 2561 0 (playPay 1 80)).pw.entry = none ∧ (fresh 2561 0 (playPay 1 80)).pw.st = 0 ∧ wavePages (fieldAt ((fresh 2561 0 (playPay 1 80)).reqOf 0).payload 4 4) ≤ (fresh 2561 0 (playPay 1 80)).freePages ∧ (fresh 2561 0 (playPay 1 80)).mr.work.length < 16)
    ∧ (loading.out[1].loading = some ([9], 80)) := by
  repeat' with_reducible apply And.intro
  all_goals first | decide +kernel | (intros; rfl) | (intro _ _ h; cases h) | exact ⟨_, List.Mem.head _, rfl⟩

set_option maxRecDepth 20000 in
/-- The hypotheses of `Obligations.PlaySchedule` are met, part 1 of 3. -/
theorem witness_PlaySchedule_1 :
    (Ready (fresh 2562 0 (1 :: zs 15)) 5 0 2562 (lenIs 16) ∧ fieldAt ((fresh 2562 0 (1 :: zs 15)).reqOf 0).payload 0 1 ≤ 1 ∧ fieldAt ((fresh 2562 0 (1 :: zs 15)).reqOf 0).payload 1 1 ≤ 1 ∧ fieldAt ((fresh 2562 0 (1 :: zs 15)).reqOf 0).payload 2 2 = 0 ∧ (fieldAt ((fresh 2562 0 (1 :: zs 15)).reqOf 0).payload 1 1 = 1 → fieldAt ((fresh 2562 0 (1 :: zs 15)).reqOf 0).payload 8 8 % 4 = 0 ∧ ((fresh 2562 0 (1 :: zs 15)).reach 5).ticks + (fresh 2562 0 (1 :: zs 15)).out[Fin.ofNat 2 (fieldAt ((fresh 2562 0 (1 :: zs 15)).reqOf 0).payload 0 1)].lead ≤ fieldAt ((fresh 2562 0 (1 :: zs 15)).reqOf 0).payload 8 8) ∧ (fieldAt ((fresh 2562 0 (1 :: zs 15)).reqOf 0).payload 1 1 = 0 → fieldAt ((fresh 2562 0 (1 :: zs 15)).reqOf 0).payload 8 8 = 0) ∧ (fresh 2562 0 (1 :: zs 15)).out[Fin.ofNat 2 (fieldAt ((fresh 2562 0 (1 :: zs 15)).reqOf 0).payload 0 1)].st ≠ 1)
    ∧ (Ready (issued (outAt 1 0 false) 2562 0 (1 :: zs 15)) 5 0 2562 (lenIs 16) ∧ fieldAt ((issued (outAt 1 0 false) 2562 0 (1 :: zs 15)).reqOf 0).payload 0 1 ≤ 1 ∧ fieldAt ((issued (outAt 1 0 false) 2562 0 (1 :: zs 15)).reqOf 0).payload 1 1 ≤ 1 ∧ fieldAt ((issued (outAt 1 0 false) 2562 0 (1 :: zs 15)).reqOf 0).payload 2 2 = 0 ∧ (fieldAt ((issued (outAt 1 0 false) 2562 0 (1 :: zs 15)).reqOf 0).payload 1 1 = 1 → fieldAt ((issued (outAt 1 0 false) 2562 0 (1 :: zs 15)).reqOf 0).payload 8 8 % 4 = 0 ∧ ((issued (outAt 1 0 false) 2562 0 (1 :: zs 15)).reach 5).ticks + (issued (outAt 1 0 false) 2562 0 (1 :: zs 15)).out[Fin.ofNat 2 (fieldAt ((issued (outAt 1 0 false) 2562 0 (1 :: zs 15)).reqOf 0).payload 0 1)].lead ≤ fieldAt ((issued (outAt 1 0 false) 2562 0 (1 :: zs 15)).reqOf 0).payload 8 8) ∧ (fieldAt ((issued (outAt 1 0 false) 2562 0 (1 :: zs 15)).reqOf 0).payload 1 1 = 0 → fieldAt ((issued (outAt 1 0 false) 2562 0 (1 :: zs 15)).reqOf 0).payload 8 8 = 0) ∧ (issued (outAt 1 0 false) 2562 0 (1 :: zs 15)).out[Fin.ofNat 2 (fieldAt ((issued (outAt 1 0 false) 2562 0 (1 :: zs 15)).reqOf 0).payload 0 1)].st = 1 ∧ (issued (outAt 1 0 false) 2562 0 (1 :: zs 15)).out[Fin.ofNat 2 (fieldAt ((issued (outAt 1 0 false) 2562 0 (1 :: zs 15)).reqOf 0).payload 0 1)].loading = none ∧ (issued (outAt 1 0 false) 2562 0 (1 :: zs 15)).ck.synth = 0 ∧ (issued (outAt 1 0 false) 2562 0 (1 :: zs 15)).pw.entry = none ∧ (issued (outAt 1 0 false) 2562 0 (1 :: zs 15)).pw.st = 0 ∧ ((issued (outAt 1 0 false) 2562 0 (1 :: zs 15)).out[Fin.ofNat 2 (fieldAt ((issued (outAt 1 0 false) 2562 0 (1 :: zs 15)).reqOf 0).payload 0 1)].streamed = true → streamNeed + (issued (outAt 1 0 false) 2562 0 (1 :: zs 15)).streamUse ≤ unreserved (issued (outAt 1 0 false) 2562 0 (1 :: zs 15)).activeSlots (issued (outAt 1 0 false) 2562 0 (1 :: zs 15)).appliedRates)) := by
  repeat' with_reducible apply And.intro
  all_goals first | decide +kernel | (intros; rfl) | (intro _ _ h; cases h) | exact ⟨_, List.Mem.head _, rfl⟩

set_option maxRecDepth 20000 in
/-- The hypotheses of `Obligations.PlaySchedule` are met, part 2 of 3. -/
theorem witness_PlaySchedule_2 :
    (Ready (issued (outAt 1 0 false) 2562 0 ([1, 1] ++ zs 6 ++ leBytes 8 308)) 5 0 2562 (lenIs 16) ∧ fieldAt ((issued (outAt 1 0 false) 2562 0 ([1, 1] ++ zs 6 ++ leBytes 8 308)).reqOf 0).payload 0 1 ≤ 1 ∧ fieldAt ((issued (outAt 1 0 false) 2562 0 ([1, 1] ++ zs 6 ++ leBytes 8 308)).reqOf 0).payload 1 1 ≤ 1 ∧ fieldAt ((issued (outAt 1 0 false) 2562 0 ([1, 1] ++ zs 6 ++ leBytes 8 308)).reqOf 0).payload 2 2 = 0 ∧ (fieldAt ((issued (outAt 1 0 false) 2562 0 ([1, 1] ++ zs 6 ++ leBytes 8 308)).reqOf 0).payload 1 1 = 1 → fieldAt ((issued (outAt 1 0 false) 2562 0 ([1, 1] ++ zs 6 ++ leBytes 8 308)).reqOf 0).payload 8 8 % 4 = 0 ∧ ((issued (outAt 1 0 false) 2562 0 ([1, 1] ++ zs 6 ++ leBytes 8 308)).reach 5).ticks + (issued (outAt 1 0 false) 2562 0 ([1, 1] ++ zs 6 ++ leBytes 8 308)).out[Fin.ofNat 2 (fieldAt ((issued (outAt 1 0 false) 2562 0 ([1, 1] ++ zs 6 ++ leBytes 8 308)).reqOf 0).payload 0 1)].lead ≤ fieldAt ((issued (outAt 1 0 false) 2562 0 ([1, 1] ++ zs 6 ++ leBytes 8 308)).reqOf 0).payload 8 8) ∧ (fieldAt ((issued (outAt 1 0 false) 2562 0 ([1, 1] ++ zs 6 ++ leBytes 8 308)).reqOf 0).payload 1 1 = 0 → fieldAt ((issued (outAt 1 0 false) 2562 0 ([1, 1] ++ zs 6 ++ leBytes 8 308)).reqOf 0).payload 8 8 = 0) ∧ (issued (outAt 1 0 false) 2562 0 ([1, 1] ++ zs 6 ++ leBytes 8 308)).out[Fin.ofNat 2 (fieldAt ((issued (outAt 1 0 false) 2562 0 ([1, 1] ++ zs 6 ++ leBytes 8 308)).reqOf 0).payload 0 1)].st = 1 ∧ (issued (outAt 1 0 false) 2562 0 ([1, 1] ++ zs 6 ++ leBytes 8 308)).out[Fin.ofNat 2 (fieldAt ((issued (outAt 1 0 false) 2562 0 ([1, 1] ++ zs 6 ++ leBytes 8 308)).reqOf 0).payload 0 1)].loading = none ∧ (issued (outAt 1 0 false) 2562 0 ([1, 1] ++ zs 6 ++ leBytes 8 308)).ck.synth = 0 ∧ (issued (outAt 1 0 false) 2562 0 ([1, 1] ++ zs 6 ++ leBytes 8 308)).pw.entry = none ∧ (issued (outAt 1 0 false) 2562 0 ([1, 1] ++ zs 6 ++ leBytes 8 308)).pw.st = 0 ∧ ((issued (outAt 1 0 false) 2562 0 ([1, 1] ++ zs 6 ++ leBytes 8 308)).out[Fin.ofNat 2 (fieldAt ((issued (outAt 1 0 false) 2562 0 ([1, 1] ++ zs 6 ++ leBytes 8 308)).reqOf 0).payload 0 1)].streamed = true → streamNeed + (issued (outAt 1 0 false) 2562 0 ([1, 1] ++ zs 6 ++ leBytes 8 308)).streamUse ≤ unreserved (issued (outAt 1 0 false) 2562 0 ([1, 1] ++ zs 6 ++ leBytes 8 308)).activeSlots (issued (outAt 1 0 false) 2562 0 ([1, 1] ++ zs 6 ++ leBytes 8 308)).appliedRates)) := by
  repeat' with_reducible apply And.intro
  all_goals first | decide +kernel | (intros; rfl) | (intro _ _ h; cases h) | exact ⟨_, List.Mem.head _, rfl⟩

set_option maxRecDepth 20000 in
/-- The hypotheses of `Obligations.PlaySchedule` are met, part 3 of 3. -/
theorem witness_PlaySchedule_3 :
    (Ready (issued (outAt 3 0 false) 2563 0 (1 :: zs 7)) 5 0 2563 (lenIs 8) ∧ fieldAt ((issued (outAt 3 0 false) 2563 0 (1 :: zs 7)).reqOf 0).payload 0 1 ≤ 1 ∧ fieldAt ((issued (outAt 3 0 false) 2563 0 (1 :: zs 7)).reqOf 0).payload 1 1 ≤ 1 ∧ fieldAt ((issued (outAt 3 0 false) 2563 0 (1 :: zs 7)).reqOf 0).payload 2 6 = 0 ∧ ((issued (outAt 3 0 false) 2563 0 (1 :: zs 7)).out[Fin.ofNat 2 (fieldAt ((issued (outAt 3 0 false) 2563 0 (1 :: zs 7)).reqOf 0).payload 0 1)].st = 2 ∨ (issued (outAt 3 0 false) 2563 0 (1 :: zs 7)).out[Fin.ofNat 2 (fieldAt ((issued (outAt 3 0 false) 2563 0 (1 :: zs 7)).reqOf 0).payload 0 1)].st = 3) ∧ (issued (outAt 3 0 false) 2563 0 (1 :: zs 7)).out[Fin.ofNat 2 (fieldAt ((issued (outAt 3 0 false) 2563 0 (1 :: zs 7)).reqOf 0).payload 0 1)].stopAt = none)
    ∧ (Ready (issued (outAt 1 0 false) 2563 0 (1 :: zs 7)) 5 0 2563 (lenIs 8) ∧ fieldAt ((issued (outAt 1 0 false) 2563 0 (1 :: zs 7)).reqOf 0).payload 0 1 ≤ 1 ∧ fieldAt ((issued (outAt 1 0 false) 2563 0 (1 :: zs 7)).reqOf 0).payload 1 1 ≤ 1 ∧ fieldAt ((issued (outAt 1 0 false) 2563 0 (1 :: zs 7)).reqOf 0).payload 2 6 = 0 ∧ (issued (outAt 1 0 false) 2563 0 (1 :: zs 7)).out[Fin.ofNat 2 (fieldAt ((issued (outAt 1 0 false) 2563 0 (1 :: zs 7)).reqOf 0).payload 0 1)].st ≤ 1)
    ∧ (((outAt 2 100 false).out[1].st ≠ 2 ∨ max (outAt 2 100 false).clk 99 < (outAt 2 100 false).out[1].start))
    ∧ ((outAt 2 100 false).out[1].st = 2 ∧ (outAt 2 100 false).out[1].start ≤ max (outAt 2 100 false).clk 100 ∧ (outAt 2 100 false).out[1].stopAt = none)
    ∧ (lit.out[0].ending = none)
    ∧ (playStopping.out[1].ending = some (104, 2) ∧ max playStopping.clk 103 < 104)
    ∧ (playStopping.out[1].ending = some (104, 2) ∧ 104 ≤ max playStopping.clk 104 ∧ playStopping.out[1].st = 3)
    ∧ (fed.out[1].st = 3 ∧ fed.out[1].streamed = true ∧ fed.out[1].ending = none ∧ Option.filter (fun (w : Nat × Nat) => !fed.out[1].under.contains w.fst) (fed.out[1].wordsAt (max fed.clk 100))[0]? = none)
    ∧ (starved.out[1].st = 3 ∧ starved.out[1].streamed = true ∧ starved.out[1].ending = none ∧ Option.filter (fun (w : Nat × Nat) => !starved.out[1].under.contains w.fst) (starved.out[1].wordsAt (max starved.clk 100))[1]? = some (1, 1))
    ∧ (((outAt 2 100 false).out[1].st ≤ 1 ∨ 99 < (outAt 2 100 false).out[1].start))
    ∧ ((lit.out[0].st ≤ 1 ∨ 5 < lit.out[0].start)) := by
  repeat' with_reducible apply And.intro
  all_goals first | decide +kernel | (intros; rfl) | (intro _ _ h; cases h) | exact ⟨_, List.Mem.head _, rfl⟩

/-- A module of an array, with its ports up. -/
def inArray (role addr : Nat) : State := lit.modAr (fun a => { a with
  role := role, astate := 2, addr := addr, mgr := 0, level := 2, hops := 1, ports := Vector.replicate 3 true, peers := Vector.replicate 3 1 })

/-- A manager whose table has itself and `n` further modules below it in a chain through N_DN0. -/
def managing (n : Nat) : State := lit.modAr (fun a => { a with
  role := 1, astate := 2, addr := 0, mgr := 0, level := 1, members := selfMember 0 false :: (List.range n).map (fun i =>
    { selfMember (i + 1) false with parent := i, port := 0, level := i + 2, hops := i + 1 }) })

/-- A standalone module with its ports up that has sent a JOIN. -/
def joining : State := lit.modAr (fun a => { a with astate := 1, ports := Vector.replicate 3 true })

/-- The join work of a manager with the last JOIN at tick 0. -/
def joinWork : State := (managing 0).modAr (fun a => { a with joinAt := some 0 })

/-- A manager while its firmware restarts. -/
def restingMgr : State := (managing 1).modFw (fun f => { f with serving := false })

/-- An orphaned member with a standby link. -/
def orphaned : State := ((inArray 3 5).modAr (fun a => { a with astate := 3, sbPeer := a.sbPeer.set 2 true })).modMr
  (fun m => { m with recorded := [⟨0x0E06, 0, 2#64⟩] })

/-- A deputy that waits for the silence of its manager since tick 0. -/
def deputyWaits : State := (inArray 2 1).modAr (fun a => { a with takeWait := some (0, false) })

/-- A time message. -/
def tmsg : TimeMsg := ⟨1, 2, 3, 4, 1#4, true, 2, 1⟩

/-- Its N_UP link measured, without delays of the ends. -/
def linked : State := (inArray 3 5).modAr (fun a => { a with links := Vector.replicate 3 (some ⟨0, 0, 0, 0⟩) })

/-- A manager that calibrates the link to module 1 since tick 0, for ARRAY_CALIBRATE_LINKS. -/
def linkTest : State := (managing 1).modAr (fun a => { a with ports := Vector.replicate 3 true, calNow := some ⟨0, [(1, 0)], true⟩ })

/-- Module 1's link as measured. -/
def link1 : LinkEnd := ⟨1, false, 9, ⟨1, 2, 3, 0⟩⟩

/-- A member whose channel A follows the array and is armed, its setting on. -/
def follower : State := (inArray 3 5).modCh 0 (fun c => { c with st := .armed, follow := true })

/-- A member that lets its channels follow, or none of them. -/
def follows (v : Nat) : State := (inArray 3 5).modMr (fun m => { m with recorded := [⟨0x0E02, 0, BitVec.ofNat 64 v⟩] })

/-- A manager that relays a command to module 1. -/
def relaying : State := ((managing 1).modMb 0 (fun b => { b with state := .busy })).modMr (fun m => { m with exec := some ⟨0, 5, .relay 1⟩ })

/-- A manager that awaits READY of module 1 for array arming 3. -/
def awaiting : State := (managing 1).modAr (fun a => { a with armNo := 3, armWait := [1] })

/-- Port 1 paused since tick 0, down. -/
def pausedPort : State := lit.modAr (fun a => { a with paused := a.paused.set 1 (some 0) })

/-- Module 1 in the table of `managing 1`. -/
def member1 : Member := { selfMember 1 false with parent := 0, port := 0, level := 2, hops := 1 }

/-- A manager whose last trigger point is tick 4. -/
def atPoint : State := ((managing 1).modAr (fun a => { a with lastP := some (4 * fineUnit) }))


set_option maxRecDepth 20000 in
/-- The hypotheses of `Obligations.ArrayMembership` are met, part 1 of 2. -/
theorem witness_ArrayMembership_1 :
    (Ready (fresh 2049 0 (0 :: zs 7)) 5 0 2049 (lenIs 8) ∧ byteForm ((fresh 2049 0 (0 :: zs 7)).reqOf 0).payload 1 3 = false)
    ∧ (Ready (fresh 2049 0 (4 :: zs 7)) 5 0 2049 (lenIs 8) ∧ byteForm ((fresh 2049 0 (4 :: zs 7)).reqOf 0).payload 1 3 = false)
    ∧ (Ready (issued (inArray 3 5) 2049 0 (1 :: zs 7)) 5 0 2049 (lenIs 8) ∧ byteForm ((issued (inArray 3 5) 2049 0 (1 :: zs 7)).reqOf 0).payload 1 3 = true ∧ (fieldAt ((issued (inArray 3 5) 2049 0 (1 :: zs 7)).reqOf 0).payload 0 1 ≠ 2 ∧ (issued (inArray 3 5) 2049 0 (1 :: zs 7)).ar.role ≠ 0 ∨ fieldAt ((issued (inArray 3 5) 2049 0 (1 :: zs 7)).reqOf 0).payload 0 1 = 3 ∧ (issued (inArray 3 5) 2049 0 (1 :: zs 7)).ar.ports[0] = false))
    ∧ (Ready (fresh 2049 0 (3 :: zs 7)) 5 0 2049 (lenIs 8) ∧ byteForm ((fresh 2049 0 (3 :: zs 7)).reqOf 0).payload 1 3 = true ∧ (fieldAt ((fresh 2049 0 (3 :: zs 7)).reqOf 0).payload 0 1 ≠ 2 ∧ (fresh 2049 0 (3 :: zs 7)).ar.role ≠ 0 ∨ fieldAt ((fresh 2049 0 (3 :: zs 7)).reqOf 0).payload 0 1 = 3 ∧ (fresh 2049 0 (3 :: zs 7)).ar.ports[0] = false))
    ∧ (Ready (fresh 2049 0 (1 :: zs 7)) 5 0 2049 (lenIs 8) ∧ byteForm ((fresh 2049 0 (1 :: zs 7)).reqOf 0).payload 1 3 = true ∧ fieldAt ((fresh 2049 0 (1 :: zs 7)).reqOf 0).payload 0 1 = 1 ∧ (fresh 2049 0 (1 :: zs 7)).ar.role = 0 ∧ (fresh 2049 0 (1 :: zs 7)).working 2049 = false ∧ (fresh 2049 0 (1 :: zs 7)).mr.work.length < 16 ∧ ((fresh 2049 0 (1 :: zs 7)).ar.ports[0] = true → (fresh 2049 0 (1 :: zs 7)).ar.peers[0] = 0))
    ∧ (Ready (issued joining 2049 0 (3 :: zs 7)) 5 0 2049 (lenIs 8) ∧ byteForm ((issued joining 2049 0 (3 :: zs 7)).reqOf 0).payload 1 3 = true ∧ fieldAt ((issued joining 2049 0 (3 :: zs 7)).reqOf 0).payload 0 1 = 3 ∧ (issued joining 2049 0 (3 :: zs 7)).ar.role = 0 ∧ (issued joining 2049 0 (3 :: zs 7)).working 2049 = false ∧ (issued joining 2049 0 (3 :: zs 7)).mr.work.length < 16 ∧ (issued joining 2049 0 (3 :: zs 7)).ar.ports[0] = true ∧ (issued joining 2049 0 (3 :: zs 7)).fw.serving = true ∧ (issued joining 2049 0 (3 :: zs 7)).fw.halted = false)
    ∧ (joinWork.ar.joinAt = some 0 ∧ max joinWork.clk 299999999 < 0 + 300000000)
    ∧ (joinWork.ar.joinAt = some 0 ∧ 0 + 300000000 ≤ max joinWork.clk 300000000)
    ∧ (lit.ar.role = 0)
    ∧ ((managing 1).ar.role = 1 ∧ (managing 1).fw.serving = true ∧ (managing 1).fw.halted = false ∧ (∀ (x : Member), limitBroken (putMember (Member.mk ((Option.map (fun (x : Member) => x.addr) (positionOf (managing 1).ar.members 1 0 [] [])).getD ((freeAddr (managing 1).ar.members).getD 1024)) 1 0 x.level x.hops x.mstate x.serial x.digest x.delay x.aligned x.deputy x.replaced x.cal x.health x.export_) (managing 1).ar.members) ((Option.map (fun (x : Member) => x.addr) (positionOf (managing 1).ar.members 1 0 [] [])).getD ((freeAddr (managing 1).ar.members).getD 1024)) = 0)) := by
  repeat' with_reducible apply And.intro
  all_goals first | decide +kernel | (intros; rfl) | (intro _ _ h; cases h) | exact ⟨_, List.Mem.head _, rfl⟩

set_option maxRecDepth 20000 in
/-- The hypotheses of `Obligations.ArrayMembership` are met, part 2 of 2. -/
theorem witness_ArrayMembership_2 :
    ((managing 7).ar.role = 1 ∧ (managing 7).fw.serving = true ∧ (managing 7).fw.halted = false ∧ 2 ≠ 0 ∧ (∀ (x : Member), limitBroken (putMember (Member.mk ((Option.map (fun (x : Member) => x.addr) (positionOf (managing 7).ar.members 7 0 [] [])).getD ((freeAddr (managing 7).ar.members).getD 1024)) 7 0 x.level x.hops x.mstate x.serial x.digest x.delay x.aligned x.deputy x.replaced x.cal x.health x.export_) (managing 7).ar.members) ((Option.map (fun (x : Member) => x.addr) (positionOf (managing 7).ar.members 7 0 [] [])).getD ((freeAddr (managing 7).ar.members).getD 1024)) = 2))
    ∧ ((inArray 3 5).isMember = true ∧ (inArray 3 5).fw.serving = true ∧ (inArray 3 5).fw.halted = false)
    ∧ (joining.ar.role = 0 ∧ joining.ar.astate = 1)
    ∧ (joining.ar.role = 0 ∧ joining.ar.astate = 1 ∧ 3 ≠ 0)
    ∧ ((inArray 3 5).isMember = true)
    ∧ ((managing 1).ar.role = 1 ∧ memberAt (managing 1).ar.members 1 = some member1 ∧ member1.mstate = 0)
    ∧ ((inArray 2 5).isMember = true)
    ∧ ((managing 1).isMember = false)
    ∧ (Ready (fresh 2051 0 (zs 8)) 5 0 2051 (lenIs 8) ∧ byteForm ((fresh 2051 0 (zs 8)).reqOf 0).payload 0 2 = true ∧ (fresh 2051 0 (zs 8)).ar.role = 0)
    ∧ (Ready (issued (inArray 3 5) 2051 0 (zs 8)) 5 0 2051 (lenIs 8) ∧ byteForm ((issued (inArray 3 5) 2051 0 (zs 8)).reqOf 0).payload 0 2 = true ∧ ((issued (inArray 3 5) 2051 0 (zs 8)).ar.role = 3 ∧ fieldAt ((issued (inArray 3 5) 2051 0 (zs 8)).reqOf 0).payload 0 1 = 0 ∨ (issued (inArray 3 5) 2051 0 (zs 8)).ar.role = 1 ∧ fieldAt ((issued (inArray 3 5) 2051 0 (zs 8)).reqOf 0).payload 0 1 = 1))
    ∧ (Ready (issued (managing 1) 2051 0 (1 :: zs 7)) 5 0 2051 (lenIs 8) ∧ byteForm ((issued (managing 1) 2051 0 (1 :: zs 7)).reqOf 0).payload 0 2 = true ∧ ((issued (managing 1) 2051 0 (1 :: zs 7)).ar.role = 3 ∧ fieldAt ((issued (managing 1) 2051 0 (1 :: zs 7)).reqOf 0).payload 0 1 = 0 ∨ (issued (managing 1) 2051 0 (1 :: zs 7)).ar.role = 1 ∧ fieldAt ((issued (managing 1) 2051 0 (1 :: zs 7)).reqOf 0).payload 0 1 = 1))
    ∧ (Ready (fresh 2050 0 (zs 8)) 5 0 2050 arrayStatusLen ∧ fieldAt ((fresh 2050 0 (zs 8)).reqOf 0).payload 1 1 = 0 ∧ fieldAt ((fresh 2050 0 (zs 8)).reqOf 0).payload 6 2 = 0 ∧ fieldAt ((fresh 2050 0 (zs 8)).reqOf 0).payload 0 1 = 0)
    ∧ (Ready (issued (managing 1) 2050 0 (1 :: zs 7)) 5 0 2050 arrayStatusLen ∧ fieldAt ((issued (managing 1) 2050 0 (1 :: zs 7)).reqOf 0).payload 1 1 = 0 ∧ fieldAt ((issued (managing 1) 2050 0 (1 :: zs 7)).reqOf 0).payload 6 2 = 0 ∧ fieldAt ((issued (managing 1) 2050 0 (1 :: zs 7)).reqOf 0).payload 0 1 = 1) := by
  repeat' with_reducible apply And.intro
  all_goals first | decide +kernel | (intros; rfl) | (intro _ _ h; cases h) | exact ⟨_, List.Mem.head _, rfl⟩

set_option maxRecDepth 20000 in
/-- The hypotheses of `Obligations.ArrayPortsAndTime` are met. -/
theorem witness_ArrayPortsAndTime :
    (((inArray 3 5).ar.ports[1] = true ∨ (inArray 3 5).clockStopped = true ∨ 2 ≤ (inArray 3 5).pw.st ∨ (inArray 3 5).domOn (192 + ↑1) = false))
    ∧ (((lit.domSet 193 false).ar.ports[1] = true ∨ (lit.domSet 193 false).clockStopped = true ∨ 2 ≤ (lit.domSet 193 false).pw.st ∨ (lit.domSet 193 false).domOn (192 + ↑1) = false))
    ∧ (lit.ar.ports[2] = false ∧ lit.clockStopped = false ∧ lit.pw.st ≤ 1 ∧ lit.domOn (192 + ↑2) = true)
    ∧ (((inArray 3 5).ar.ports[1] = false ∨ false = false ∧ max (inArray 3 5).clk 8999999 < max (inArray 3 5).ar.lastTime[1] ((inArray 3 5).linkBusy 1) + 9000000))
    ∧ (joining.ar.ports[2] = true ∧ joining.ar.role = 0)
    ∧ ((inArray 2 5).ar.ports[0] = true ∧ (inArray 2 5).ar.viaSb = false ∧ (inArray 2 5).ar.paused[0] = none ∧ (inArray 2 5).ar.astate ≠ 3 ∧ (inArray 2 5).ar.role = 2)
    ∧ ((inArray 3 5).ar.ports[0] = true ∧ (inArray 3 5).ar.viaSb = false ∧ (inArray 3 5).ar.paused[0] = none ∧ (inArray 3 5).ar.astate ≠ 3 ∧ (inArray 3 5).ar.role = 3 ∧ (inArray 3 5).sbUp = false)
    ∧ (lit.ar.paused[0] = none)
    ∧ (pausedPort.ar.paused[1] = some 0 ∧ 0 + 300000000 ≤ max pausedPort.clk 300000000 ∧ pausedPort.ar.ports[1] = false ∧ pausedPort.ar.role = 0)
    ∧ ((inArray 3 5).ar.ports[2] = true)
    ∧ (lit.ar.ports[2] = false)
    ∧ (orphaned.isMember = true ∧ orphaned.ar.astate = 3 ∧ orphaned.sbUp = true ∧ orphaned.ar.viaSb = false ∧ 8 ≤ 8 ∧ 32 ≤ 32)
    ∧ (lit.ar.astate ≠ 3)
    ∧ (deputyWaits.ar.takeWait = some (0, false) ∧ max deputyWaits.clk 2999999 < 0 + 3000000)
    ∧ (deputyWaits.ar.takeWait = some (0, false) ∧ 0 + 3000000 ≤ max deputyWaits.clk 3000000 ∧ deputyWaits.ar.role = 2)
    ∧ (lit.isMember = false)
    ∧ ((inArray 3 5).isMember = true ∧ 7 ≠ (inArray 3 5).ar.addr)
    ∧ (lit.ar.ports[0] = false)
    ∧ (linked.ar.ports[1] = true ∧ linked.linkBusy 1 ≤ max linked.clk 5)
    ∧ (linkTest.ar.ports[1] = true ∧ max linkTest.clk 299999999 < linkTest.linkBusy 1)
    ∧ (linkTest.ar.ports[1] = true ∧ linkTest.linkBusy 1 ≤ max linkTest.clk 300000000)
    ∧ (linked.ar.ports[1] = true ∧ linked.linkBusy 1 ≤ max linked.clk 5 ∧ linked.isUpstream 1 = false)
    ∧ (linked.ar.ports[0] = true ∧ linked.linkBusy 0 ≤ max linked.clk 5 ∧ linked.isUpstream 0 = true)
    ∧ ((inArray 3 5).isMember = true ∧ (inArray 3 5).fw.serving = true ∧ (inArray 3 5).fw.halted = false)
    ∧ ((managing 1).ar.role = 1 ∧ (managing 1).fw.serving = true ∧ (managing 1).fw.halted = false ∧ memberAt (managing 1).ar.members 1 = some member1)
    ∧ (restingMgr.ar.role ≠ 0 ∧ (restingMgr.fw.serving = false ∨ restingMgr.fw.halted = true))
    ∧ (lit.ar.role = 0)
    ∧ ((inArray 3 5).isMember = true ∧ ((inArray 3 5).reach 5).ticks ≤ 5)
    ∧ ((inArray 3 5).isMember = true ∧ 4 < ((inArray 3 5).reach 5).ticks) := by
  repeat' with_reducible apply And.intro
  all_goals first | decide +kernel | (intros; rfl) | (intro _ _ h; cases h) | exact ⟨_, List.Mem.head _, rfl⟩

set_option maxRecDepth 20000 in
/-- The hypotheses of `Obligations.ArrayTriggersAndRelays` are met, part 1 of 2. -/
theorem witness_ArrayTriggersAndRelays_1 :
    (lit.ar.role = 0)
    ∧ ((managing 1).ar.role = 1 ∧ (∀ (p : Nat), (managing 1).ar.lastP = some p → 1500 * fineUnit < ((((((managing 1).reach 5).fineOf 4 0) : Nat) : Int) - ((p : Nat) : Int)).natAbs))
    ∧ (atPoint.ar.role = 1 ∧ atPoint.ar.lastP = some (4 * fineUnit) ∧ (((((atPoint.reach 5).fineOf 1504 0) : Nat) : Int) - (((4 * fineUnit) : Nat) : Int)).natAbs ≤ 1500 * fineUnit)
    ∧ ((inArray 3 5).isMember = true)
    ∧ ((inArray 3 5).isMember = true ∧ max (inArray 3 5).clk 388 ≤ ((inArray 3 5).reach 388).fineOf (4 + 0) 0 / fineUnit + 384)
    ∧ ((inArray 3 5).isMember = true ∧ ((inArray 3 5).reach 389).fineOf (4 + 0) 0 / fineUnit + 384 < max (inArray 3 5).clk 389)
    ∧ (lit.isMember = false)
    ∧ ((follows 0).isMember = true ∧ ((follows 0).reach 5).followSet = [])
    ∧ ((follows 1).isMember = true ∧ ((follows 1).reach 5).followSet ≠ [] ∧ (follows 1).pw.st = 0)
    ∧ (follower.isMember = true)
    ∧ (awaiting.ar.role = 1 ∧ 1 ∈ awaiting.ar.armWait)
    ∧ (awaiting.ar.role = 1 ∧ 4 ≠ awaiting.ar.armNo)
    ∧ ((inArray 3 5).isMember = true ∧ 6 ≠ (inArray 3 5).ar.addr)
    ∧ ((inArray 3 5).isMember = true ∧ (inArray 3 5).fw.serving = true ∧ (inArray 3 5).fw.halted = false ∧ (((inArray 3 5).mbox 16).state = MbState.free ∨ ((inArray 3 5).mbox 16).state = MbState.done) ∧ relayMore (cmd 8 0 [1]) = false)
    ∧ (relaying.ar.role = 1 ∧ relaying.mr.exec = some (Exec.mk 0 5 (Wait.relay 1)) ∧ relaying.fw.halted = false ∧ (relaying.reqOf 0).expired (max relaying.clk 5) = false)
    ∧ (Ready (fresh 2052 0 (zs 24)) 5 0 2052 (lenIs 24) ∧ fieldAt ((fresh 2052 0 (zs 24)).reqOf 0).payload 1 1 = 0 ∧ fieldAt ((fresh 2052 0 (zs 24)).reqOf 0).payload 4 4 = 0 ∧ allZero (List.drop 8 ((fresh 2052 0 (zs 24)).reqOf 0).payload) = true ∧ (fresh 2052 0 (zs 24)).ar.role ≠ 1 ∧ fieldAt ((fresh 2052 0 (zs 24)).reqOf 0).payload 0 1 ≤ 1)
    ∧ (Ready (issued (managing 1) 2052 0 (zs 24)) 5 0 2052 (lenIs 24) ∧ fieldAt ((issued (managing 1) 2052 0 (zs 24)).reqOf 0).payload 1 1 = 0 ∧ fieldAt ((issued (managing 1) 2052 0 (zs 24)).reqOf 0).payload 4 4 = 0 ∧ allZero (List.drop 8 ((issued (managing 1) 2052 0 (zs 24)).reqOf 0).payload) = true ∧ (issued (managing 1) 2052 0 (zs 24)).ar.role = 1 ∧ (fieldAt ((issued (managing 1) 2052 0 (zs 24)).reqOf 0).payload 0 1 = 0 ∨ fieldAt ((issued (managing 1) 2052 0 (zs 24)).reqOf 0).payload 0 1 = 1 ∧ ((issued (managing 1) 2052 0 (zs 24)).ar.members.any fun (x : Member) => x.addr == fieldAt ((issued (managing 1) 2052 0 (zs 24)).reqOf 0).payload 2 2 && x.port != 255) = true) ∧ (issued (managing 1) 2052 0 (zs 24)).working 2052 = false ∧ (issued (managing 1) 2052 0 (zs 24)).mr.work.length < 16) := by
  repeat' with_reducible apply And.intro
  all_goals first | decide +kernel | (intros; rfl) | (intro _ _ h; cases h) | exact ⟨_, List.Mem.head _, rfl⟩

set_option maxRecDepth 20000 in
/-- The hypotheses of `Obligations.ArrayTriggersAndRelays` are met, part 2 of 2. -/
theorem witness_ArrayTriggersAndRelays_2 :
    (Ready (issued (managing 1) 2052 0 ([1, 0, 1] ++ zs 21)) 5 0 2052 (lenIs 24) ∧ fieldAt ((issued (managing 1) 2052 0 ([1, 0, 1] ++ zs 21)).reqOf 0).payload 1 1 = 0 ∧ fieldAt ((issued (managing 1) 2052 0 ([1, 0, 1] ++ zs 21)).reqOf 0).payload 4 4 = 0 ∧ allZero (List.drop 8 ((issued (managing 1) 2052 0 ([1, 0, 1] ++ zs 21)).reqOf 0).payload) = true ∧ (issued (managing 1) 2052 0 ([1, 0, 1] ++ zs 21)).ar.role = 1 ∧ (fieldAt ((issued (managing 1) 2052 0 ([1, 0, 1] ++ zs 21)).reqOf 0).payload 0 1 = 0 ∨ fieldAt ((issued (managing 1) 2052 0 ([1, 0, 1] ++ zs 21)).reqOf 0).payload 0 1 = 1 ∧ ((issued (managing 1) 2052 0 ([1, 0, 1] ++ zs 21)).ar.members.any fun (x : Member) => x.addr == fieldAt ((issued (managing 1) 2052 0 ([1, 0, 1] ++ zs 21)).reqOf 0).payload 2 2 && x.port != 255) = true) ∧ (issued (managing 1) 2052 0 ([1, 0, 1] ++ zs 21)).working 2052 = false ∧ (issued (managing 1) 2052 0 ([1, 0, 1] ++ zs 21)).mr.work.length < 16)
    ∧ (linkTest.ar.calNow = some (LinkRun.mk 0 [(1, 0)] true) ∧ (LinkRun.mk 0 [(1, 0)] true).host = true ∧ linkTest.ar.calNext = [])
    ∧ (lit.ar.calNow = none ∧ lit.isMember = false)
    ∧ ((inArray 3 1).ar.calNow = none ∧ (inArray 3 1).isMember = true) := by
  repeat' with_reducible apply And.intro
  all_goals first | decide +kernel | (intros; rfl) | (intro _ _ h; cases h) | exact ⟨_, List.Mem.head _, rfl⟩

/-- A power state. -/
def inState (n : Nat) : State := lit.modPw (fun p => { p with st := n })

/-- An entry to a power state at a step, begun at tick 0. -/
def entering (target step : Nat) : State := lit.modPw (fun p => { p with entry := some ⟨0, 7, target, 15, 0, step, 0, none⟩ })

/-- That entry. -/
def ent (target step : Nat) : Entry := ⟨0, 7, target, 15, 0, step, 0, none⟩

/-- An entry ready to commit: memory rests. -/
def committing (target : Nat) : State := (entering target 9).modMem (fun m => { m with sr := .on })

/-- PW_IDLE_DELAY of 1 ms. -/
def idleSoon : State := lit.modMr (fun m => { m with recorded := [⟨0x0F01, 0, 1#64⟩] })

/-- A wake under way. -/
def waking (src left : Nat) : State := lit.modPw (fun p => { p with st := left, waking := some (src, left, 0) })

/-- A domain of the outputs held by nobody, off. -/
def dark140 : State := lit.modPw (fun p => { p with onMap := p.onMap &&& ~~~(1#196 <<< 140) })

/-- The wake timer expires at tick 100. -/
def timed100 (st : Nat) : State := (inState st).modPw (fun p => { p with timer := some 100 })

/-- OFF without 12 V. -/
def noMain (ret : Nat) : State := (inState 4).modPw (fun p => { p with main := false, mainRet := ret })

/-- AUX_IO pin 3 wakes. -/
def auxWake : State := (inState 2).modPw (fun p => { p with wakeMask := 64, wakePins := 8 })

/-- The boot finds everything in order. -/
def bootOk : BootChecks := ⟨List.replicate 32 (trains true), [], 300, 1, some (5, 16)⟩

/-- The boot finds no lock, no training and no link. -/
def bootNo : BootChecks := ⟨List.replicate 32 (trains false), [], 300, 0, none⟩

/-- A harvest queue executes during the entry. -/
def draining : State := (live63 1).modPw (fun p => { p with entry := some (ent 2 5) })

/-- An entry beside a relock. -/
def enteringRelock : State := ((relocking 4 1).modPw (fun p => { p with entry := some (ent 2 5) }))

/-- Channel A armed. -/
def chanArmed : State := (lit.modCh 0 (fun c => { c with st := .armed }))

/-- SLEEP with the core clock off. -/
def coreOff : State := ((inState 2).modPw (fun p => { p with core := false }))

/-- No auxiliary power. -/
def noAux : State := (lit.modPw (fun p => { p with aux := false }))

/-- Rail 6 has failed three times. -/
def thirdTry : State := ((waking 9 4).modPw (fun p => { p with tryRail := some ⟨6, 3⟩ }))

/-- The module is out of its carrier. -/
def notInserted : State := (lit.modPw (fun p => { p with inserted := false }))

def drivenLow : State := (inState 3).modPw (fun p => { p with wakeLow := 30000000 })

/-- The belfry of a state resets until tick 1000 after a brown-out. -/
def browned (n : Nat) : State := (inState n).modPw (fun p => { p with brownTo := 1000 })

/-- The same in OFF without main power. -/
def brownedNoMain : State := (noMain 1).modPw (fun p => { p with brownTo := 1000 })


set_option maxRecDepth 20000 in
/-- The hypotheses of `Obligations.PowerStatesAreEntered` are met, part 1 of 3. -/
theorem witness_PowerStatesAreEntered_1 :
    (Ready (fresh 1281 0 (5 :: zs 15)) 5 0 1281 (lenIs 16) ∧ enterForm ((fresh 1281 0 (5 :: zs 15)).reqOf 0).payload = false)
    ∧ (Ready (fresh 1281 0 (zs 16)) 5 0 1281 (lenIs 16) ∧ enterForm ((fresh 1281 0 (zs 16)).reqOf 0).payload = true ∧ fieldAt ((fresh 1281 0 (zs 16)).reqOf 0).payload 0 1 = (fresh 1281 0 (zs 16)).pw.st)
    ∧ (Ready (issued (entering 3 5) 1281 0 (1 :: zs 15)) 5 0 1281 (lenIs 16) ∧ enterForm ((issued (entering 3 5) 1281 0 (1 :: zs 15)).reqOf 0).payload = true ∧ fieldAt ((issued (entering 3 5) 1281 0 (1 :: zs 15)).reqOf 0).payload 0 1 ≠ (issued (entering 3 5) 1281 0 (1 :: zs 15)).pw.st ∧ ((issued (entering 3 5) 1281 0 (1 :: zs 15)).ck.relock.isSome = true ∨ (issued (entering 3 5) 1281 0 (1 :: zs 15)).pw.entry.isSome = true))
    ∧ (Ready (fresh 1281 0 (1 :: zs 15)) 5 0 1281 (lenIs 16) ∧ enterForm ((fresh 1281 0 (1 :: zs 15)).reqOf 0).payload = true ∧ fieldAt ((fresh 1281 0 (1 :: zs 15)).reqOf 0).payload 0 1 ≠ (fresh 1281 0 (1 :: zs 15)).pw.st ∧ (fresh 1281 0 (1 :: zs 15)).ck.relock = none ∧ (fresh 1281 0 (1 :: zs 15)).pw.entry = none ∧ fieldAt ((fresh 1281 0 (1 :: zs 15)).reqOf 0).payload 0 1 ≤ 1 ∧ (fresh 1281 0 (1 :: zs 15)).pw.st ≠ 2 ∧ (fieldAt ((fresh 1281 0 (1 :: zs 15)).reqOf 0).payload 0 1 = 1 → bitAt ((fresh 1281 0 (1 :: zs 15)).reqOf 0).flags 1 = false))
    ∧ (Ready (issued (inState 2) 1281 0 (1 :: zs 15)) 5 0 1281 (lenIs 16) ∧ enterForm ((issued (inState 2) 1281 0 (1 :: zs 15)).reqOf 0).payload = true ∧ fieldAt ((issued (inState 2) 1281 0 (1 :: zs 15)).reqOf 0).payload 0 1 ≠ (issued (inState 2) 1281 0 (1 :: zs 15)).pw.st ∧ (issued (inState 2) 1281 0 (1 :: zs 15)).ck.relock = none ∧ (issued (inState 2) 1281 0 (1 :: zs 15)).pw.entry = none ∧ fieldAt ((issued (inState 2) 1281 0 (1 :: zs 15)).reqOf 0).payload 0 1 ≤ 1 ∧ (issued (inState 2) 1281 0 (1 :: zs 15)).pw.st = 2 ∧ (fieldAt ((issued (inState 2) 1281 0 (1 :: zs 15)).reqOf 0).payload 0 1 = 1 → bitAt ((issued (inState 2) 1281 0 (1 :: zs 15)).reqOf 0).flags 1 = false))
    ∧ (Ready (fresh 1281 0 (4 :: zs 15)) 5 0 1281 (lenIs 16) ∧ enterForm ((fresh 1281 0 (4 :: zs 15)).reqOf 0).payload = true ∧ fieldAt ((fresh 1281 0 (4 :: zs 15)).reqOf 0).payload 0 1 ≠ (fresh 1281 0 (4 :: zs 15)).pw.st ∧ (fresh 1281 0 (4 :: zs 15)).ck.relock = none ∧ (fresh 1281 0 (4 :: zs 15)).pw.entry = none ∧ 2 ≤ fieldAt ((fresh 1281 0 (4 :: zs 15)).reqOf 0).payload 0 1 ∧ (fresh 1281 0 (4 :: zs 15)).pw.st ≤ 1 ∧ (fresh 1281 0 (4 :: zs 15)).mr.work.length < 16 ∧ (fresh 1281 0 (4 :: zs 15)).refuses = 0) := by
  repeat' with_reducible apply And.intro
  all_goals first | decide +kernel | (intros; rfl) | (intro _ _ h; cases h) | exact ⟨_, List.Mem.head _, rfl⟩

set_option maxRecDepth 20000 in
/-- The hypotheses of `Obligations.PowerStatesAreEntered` are met, part 2 of 3. -/
theorem witness_PowerStatesAreEntered_2 :
    (Ready (issued (calibrating 1) 1281 0 (2 :: zs 15)) 5 0 1281 (lenIs 16) ∧ enterForm ((issued (calibrating 1) 1281 0 (2 :: zs 15)).reqOf 0).payload = true ∧ fieldAt ((issued (calibrating 1) 1281 0 (2 :: zs 15)).reqOf 0).payload 0 1 ≠ (issued (calibrating 1) 1281 0 (2 :: zs 15)).pw.st ∧ (issued (calibrating 1) 1281 0 (2 :: zs 15)).ck.relock = none ∧ (issued (calibrating 1) 1281 0 (2 :: zs 15)).pw.entry = none ∧ 2 ≤ fieldAt ((issued (calibrating 1) 1281 0 (2 :: zs 15)).reqOf 0).payload 0 1 ∧ (issued (calibrating 1) 1281 0 (2 :: zs 15)).pw.st ≤ 1 ∧ (issued (calibrating 1) 1281 0 (2 :: zs 15)).mr.work.length < 16 ∧ (issued (calibrating 1) 1281 0 (2 :: zs 15)).working 1281 = false ∧ 8 ≠ 0 ∧ (issued (calibrating 1) 1281 0 (2 :: zs 15)).refuses = 8)
    ∧ (Ready (issued (inState 2) 1281 0 (3 :: zs 15)) 5 0 1281 (lenIs 16) ∧ enterForm ((issued (inState 2) 1281 0 (3 :: zs 15)).reqOf 0).payload = true ∧ fieldAt ((issued (inState 2) 1281 0 (3 :: zs 15)).reqOf 0).payload 0 1 ≠ (issued (inState 2) 1281 0 (3 :: zs 15)).pw.st ∧ (issued (inState 2) 1281 0 (3 :: zs 15)).ck.relock = none ∧ (issued (inState 2) 1281 0 (3 :: zs 15)).pw.entry = none ∧ fieldAt ((issued (inState 2) 1281 0 (3 :: zs 15)).reqOf 0).payload 0 1 = 3 ∧ (issued (inState 2) 1281 0 (3 :: zs 15)).pw.st = 2 ∧ (issued (inState 2) 1281 0 (3 :: zs 15)).mr.work.length < 16)
    ∧ (lit.pw.entry = none)
    ∧ ((entering 3 5).pw.entry = some (ent 3 5) ∧ (ent 3 5).step = 5 ∧ ((entering 3 5).hv.qs.toList.all fun (q : HQueue) => q.exec.isEmpty) = true ∧ (entering 3 5).ck.relock = none)
    ∧ ((entering 2 5).pw.entry = some (ent 2 5) ∧ (ent 2 5).step = 5 ∧ ((entering 2 5).hv.qs.toList.all fun (q : HQueue) => q.exec.isEmpty) = true ∧ (entering 2 5).ck.relock = none)
    ∧ (enteringRelock.pw.entry = some (ent 2 5) ∧ (ent 2 5).step = 5 ∧ (enteringRelock.hv.qs.toList.all fun (q : HQueue) => q.exec.isEmpty) = true ∧ enteringRelock.ck.relock.isSome = true)
    ∧ (draining.pw.entry = some (ent 2 5) ∧ (ent 2 5).step = 5 ∧ (draining.hv.qs.toList.all fun (q : HQueue) => q.exec.isEmpty) = false ∧ max draining.clk 149999999 < (ent 2 5).began + 150000000)
    ∧ (draining.pw.entry = some (ent 2 5) ∧ (ent 2 5).step = 5 ∧ (draining.hv.qs.toList.all fun (q : HQueue) => q.exec.isEmpty) = false ∧ (ent 2 5).began + 150000000 ≤ max draining.clk 150000000)
    ∧ ((entering 3 8).pw.entry = some (ent 3 8) ∧ (ent 3 8).step = 8)
    ∧ ((entering 3 9).pw.entry = some (ent 3 9) ∧ ((ent 3 9).step ≠ 9 ∨ (entering 3 9).mem.sr ≠ SelfRef.on))
    ∧ ((committing 2).pw.entry = some (ent 2 9) ∧ (ent 2 9).step = 9 ∧ (committing 2).mem.sr = SelfRef.on ∧ (ent 2 9).target = 2)
    ∧ ((committing 3).pw.entry = some (ent 3 9) ∧ (ent 3 9).step = 9 ∧ (committing 3).mem.sr = SelfRef.on ∧ (ent 3 9).target = 3 ∧ (ent 3 9).wake = none)
    ∧ ((committing 4).pw.entry = some (ent 4 9) ∧ (ent 4 9).step = 9 ∧ (committing 4).mem.sr = SelfRef.on ∧ (ent 4 9).target = 4 ∧ (ent 4 9).wake = none)
    ∧ ((idleSoon.mkey 3841 = 0 ∨ idleSoon.quiet = false ∨ max idleSoon.clk 2999999 < idleSoon.pw.idleAt + idleSoon.mkey 3841 * 3000000)) := by
  repeat' with_reducible apply And.intro
  all_goals first | decide +kernel | (intros; rfl) | (intro _ _ h; cases h) | exact ⟨_, List.Mem.head _, rfl⟩

set_option maxRecDepth 20000 in
/-- The hypotheses of `Obligations.PowerStatesAreEntered` are met, part 3 of 3. -/
theorem witness_PowerStatesAreEntered_3 :
    (idleSoon.mkey 3841 ≠ 0 ∧ idleSoon.quiet = true ∧ idleSoon.pw.idleAt + idleSoon.mkey 3841 * 3000000 ≤ max idleSoon.clk 3000000 ∧ idleSoon.pw.st = 0) := by
  repeat' with_reducible apply And.intro
  all_goals first | decide +kernel | (intros; rfl) | (intro _ _ h; cases h) | exact ⟨_, List.Mem.head _, rfl⟩

set_option maxRecDepth 20000 in
/-- The hypotheses of `Obligations.PowerStatusAndDomains` are met, part 1 of 5. -/
theorem witness_PowerStatusAndDomains_1 :
    (Ready (fresh 1282 0 []) 5 0 1282 (lenIs 0))
    ∧ (Ready (fresh 1283 0 ([1, 0] ++ leBytes 2 196 ++ [1, 0, 0, 0])) 5 0 1283 (lenIs 8) ∧ (¬(fieldAt ((fresh 1283 0 ([1, 0] ++ leBytes 2 196 ++ [1, 0, 0, 0])).reqOf 0).payload 0 1 ≤ 2 ∧ fieldAt ((fresh 1283 0 ([1, 0] ++ leBytes 2 196 ++ [1, 0, 0, 0])).reqOf 0).payload 1 1 = 0 ∧ fieldAt ((fresh 1283 0 ([1, 0] ++ leBytes 2 196 ++ [1, 0, 0, 0])).reqOf 0).payload 6 2 = 0 ∧ fieldAt ((fresh 1283 0 ([1, 0] ++ leBytes 2 196 ++ [1, 0, 0, 0])).reqOf 0).payload 2 2 + fieldAt ((fresh 1283 0 ([1, 0] ++ leBytes 2 196 ++ [1, 0, 0, 0])).reqOf 0).payload 4 2 ≤ 196 ∧ (fieldAt ((fresh 1283 0 ([1, 0] ++ leBytes 2 196 ++ [1, 0, 0, 0])).reqOf 0).payload 0 1 = 0 ∨ fieldAt ((fresh 1283 0 ([1, 0] ++ leBytes 2 196 ++ [1, 0, 0, 0])).reqOf 0).payload 4 2 ≠ 0 ∧ (List.map (fun (i : Nat) => fieldAt ((fresh 1283 0 ([1, 0] ++ leBytes 2 196 ++ [1, 0, 0, 0])).reqOf 0).payload 2 2 + i) (List.range (fieldAt ((fresh 1283 0 ([1, 0] ++ leBytes 2 196 ++ [1, 0, 0, 0])).reqOf 0).payload 4 2))).any fixedDomain = false))))
    ∧ (Ready (fresh 1283 0 ([2, 0] ++ leBytes 2 190 ++ [1, 0, 0, 0])) 5 0 1283 (lenIs 8) ∧ (¬(fieldAt ((fresh 1283 0 ([2, 0] ++ leBytes 2 190 ++ [1, 0, 0, 0])).reqOf 0).payload 0 1 ≤ 2 ∧ fieldAt ((fresh 1283 0 ([2, 0] ++ leBytes 2 190 ++ [1, 0, 0, 0])).reqOf 0).payload 1 1 = 0 ∧ fieldAt ((fresh 1283 0 ([2, 0] ++ leBytes 2 190 ++ [1, 0, 0, 0])).reqOf 0).payload 6 2 = 0 ∧ fieldAt ((fresh 1283 0 ([2, 0] ++ leBytes 2 190 ++ [1, 0, 0, 0])).reqOf 0).payload 2 2 + fieldAt ((fresh 1283 0 ([2, 0] ++ leBytes 2 190 ++ [1, 0, 0, 0])).reqOf 0).payload 4 2 ≤ 196 ∧ (fieldAt ((fresh 1283 0 ([2, 0] ++ leBytes 2 190 ++ [1, 0, 0, 0])).reqOf 0).payload 0 1 = 0 ∨ fieldAt ((fresh 1283 0 ([2, 0] ++ leBytes 2 190 ++ [1, 0, 0, 0])).reqOf 0).payload 4 2 ≠ 0 ∧ (List.map (fun (i : Nat) => fieldAt ((fresh 1283 0 ([2, 0] ++ leBytes 2 190 ++ [1, 0, 0, 0])).reqOf 0).payload 2 2 + i) (List.range (fieldAt ((fresh 1283 0 ([2, 0] ++ leBytes 2 190 ++ [1, 0, 0, 0])).reqOf 0).payload 4 2))).any fixedDomain = false)))) := by
  repeat' with_reducible apply And.intro
  all_goals first | decide +kernel | (intros; rfl) | (intro _ _ h; cases h) | exact ⟨_, List.Mem.head _, rfl⟩

set_option maxRecDepth 20000 in
/-- The hypotheses of `Obligations.PowerStatusAndDomains` are met, part 2 of 5. -/
theorem witness_PowerStatusAndDomains_2 :
    (Ready (issued chanArmed 1283 0 ([2, 0] ++ leBytes 2 136 ++ [1, 0, 0, 0])) 5 0 1283 (lenIs 8) ∧ (fieldAt ((issued chanArmed 1283 0 ([2, 0] ++ leBytes 2 136 ++ [1, 0, 0, 0])).reqOf 0).payload 0 1 ≤ 2 ∧ fieldAt ((issued chanArmed 1283 0 ([2, 0] ++ leBytes 2 136 ++ [1, 0, 0, 0])).reqOf 0).payload 1 1 = 0 ∧ fieldAt ((issued chanArmed 1283 0 ([2, 0] ++ leBytes 2 136 ++ [1, 0, 0, 0])).reqOf 0).payload 6 2 = 0 ∧ fieldAt ((issued chanArmed 1283 0 ([2, 0] ++ leBytes 2 136 ++ [1, 0, 0, 0])).reqOf 0).payload 2 2 + fieldAt ((issued chanArmed 1283 0 ([2, 0] ++ leBytes 2 136 ++ [1, 0, 0, 0])).reqOf 0).payload 4 2 ≤ 196 ∧ (fieldAt ((issued chanArmed 1283 0 ([2, 0] ++ leBytes 2 136 ++ [1, 0, 0, 0])).reqOf 0).payload 0 1 = 0 ∨ fieldAt ((issued chanArmed 1283 0 ([2, 0] ++ leBytes 2 136 ++ [1, 0, 0, 0])).reqOf 0).payload 4 2 ≠ 0 ∧ (List.map (fun (i : Nat) => fieldAt ((issued chanArmed 1283 0 ([2, 0] ++ leBytes 2 136 ++ [1, 0, 0, 0])).reqOf 0).payload 2 2 + i) (List.range (fieldAt ((issued chanArmed 1283 0 ([2, 0] ++ leBytes 2 136 ++ [1, 0, 0, 0])).reqOf 0).payload 4 2))).any fixedDomain = false)) ∧ (fieldAt ((issued chanArmed 1283 0 ([2, 0] ++ leBytes 2 136 ++ [1, 0, 0, 0])).reqOf 0).payload 0 1 = 2 ∧ ((List.map (fun (i : Nat) => fieldAt ((issued chanArmed 1283 0 ([2, 0] ++ leBytes 2 136 ++ [1, 0, 0, 0])).reqOf 0).payload 2 2 + i) (List.range (fieldAt ((issued chanArmed 1283 0 ([2, 0] ++ leBytes 2 136 ++ [1, 0, 0, 0])).reqOf 0).payload 4 2))).any fun (d : Nat) => (issued chanArmed 1283 0 ([2, 0] ++ leBytes 2 136 ++ [1, 0, 0, 0])).otherHolds.getLsbD d) = true ∨ fieldAt ((issued chanArmed 1283 0 ([2, 0] ++ leBytes 2 136 ++ [1, 0, 0, 0])).reqOf 0).payload 0 1 = 1 ∧ (List.map (fun (i : Nat) => fieldAt ((issued chanArmed 1283 0 ([2, 0] ++ leBytes 2 136 ++ [1, 0, 0, 0])).reqOf 0).payload 2 2 + i) (List.range (fieldAt ((issued chanArmed 1283 0 ([2, 0] ++ leBytes 2 136 ++ [1, 0, 0, 0])).reqOf 0).payload 4 2))).any (issued chanArmed 1283 0 ([2, 0] ++ leBytes 2 136 ++ [1, 0, 0, 0])).failedSlice = true))
    ∧ (Ready (fresh 1283 0 (zs 8)) 5 0 1283 (lenIs 8) ∧ (fieldAt ((fresh 1283 0 (zs 8)).reqOf 0).payload 0 1 ≤ 2 ∧ fieldAt ((fresh 1283 0 (zs 8)).reqOf 0).payload 1 1 = 0 ∧ fieldAt ((fresh 1283 0 (zs 8)).reqOf 0).payload 6 2 = 0 ∧ fieldAt ((fresh 1283 0 (zs 8)).reqOf 0).payload 2 2 + fieldAt ((fresh 1283 0 (zs 8)).reqOf 0).payload 4 2 ≤ 196 ∧ (fieldAt ((fresh 1283 0 (zs 8)).reqOf 0).payload 0 1 = 0 ∨ fieldAt ((fresh 1283 0 (zs 8)).reqOf 0).payload 4 2 ≠ 0 ∧ (List.map (fun (i : Nat) => fieldAt ((fresh 1283 0 (zs 8)).reqOf 0).payload 2 2 + i) (List.range (fieldAt ((fresh 1283 0 (zs 8)).reqOf 0).payload 4 2))).any fixedDomain = false)) ∧ fieldAt ((fresh 1283 0 (zs 8)).reqOf 0).payload 0 1 = 0 ∧ (fresh 1283 0 (zs 8)).pw.entry = none) := by
  repeat' with_reducible apply And.intro
  all_goals first | decide +kernel | (intros; rfl) | (intro _ _ h; cases h) | exact ⟨_, List.Mem.head _, rfl⟩

set_option maxRecDepth 20000 in
/-- The hypotheses of `Obligations.PowerStatusAndDomains` are met, part 3 of 5. -/
theorem witness_PowerStatusAndDomains_3 :
    (Ready (issued dark140 1283 0 ([1, 0] ++ leBytes 2 140 ++ [2, 0, 0, 0])) 5 0 1283 (lenIs 8) ∧ (fieldAt ((issued dark140 1283 0 ([1, 0] ++ leBytes 2 140 ++ [2, 0, 0, 0])).reqOf 0).payload 0 1 ≤ 2 ∧ fieldAt ((issued dark140 1283 0 ([1, 0] ++ leBytes 2 140 ++ [2, 0, 0, 0])).reqOf 0).payload 1 1 = 0 ∧ fieldAt ((issued dark140 1283 0 ([1, 0] ++ leBytes 2 140 ++ [2, 0, 0, 0])).reqOf 0).payload 6 2 = 0 ∧ fieldAt ((issued dark140 1283 0 ([1, 0] ++ leBytes 2 140 ++ [2, 0, 0, 0])).reqOf 0).payload 2 2 + fieldAt ((issued dark140 1283 0 ([1, 0] ++ leBytes 2 140 ++ [2, 0, 0, 0])).reqOf 0).payload 4 2 ≤ 196 ∧ (fieldAt ((issued dark140 1283 0 ([1, 0] ++ leBytes 2 140 ++ [2, 0, 0, 0])).reqOf 0).payload 0 1 = 0 ∨ fieldAt ((issued dark140 1283 0 ([1, 0] ++ leBytes 2 140 ++ [2, 0, 0, 0])).reqOf 0).payload 4 2 ≠ 0 ∧ (List.map (fun (i : Nat) => fieldAt ((issued dark140 1283 0 ([1, 0] ++ leBytes 2 140 ++ [2, 0, 0, 0])).reqOf 0).payload 2 2 + i) (List.range (fieldAt ((issued dark140 1283 0 ([1, 0] ++ leBytes 2 140 ++ [2, 0, 0, 0])).reqOf 0).payload 4 2))).any fixedDomain = false)) ∧ fieldAt ((issued dark140 1283 0 ([1, 0] ++ leBytes 2 140 ++ [2, 0, 0, 0])).reqOf 0).payload 0 1 = 1 ∧ (issued dark140 1283 0 ([1, 0] ++ leBytes 2 140 ++ [2, 0, 0, 0])).pw.entry = none ∧ (issued dark140 1283 0 ([1, 0] ++ leBytes 2 140 ++ [2, 0, 0, 0])).pw.st ≤ 1 ∧ (List.map (fun (i : Nat) => fieldAt ((issued dark140 1283 0 ([1, 0] ++ leBytes 2 140 ++ [2, 0, 0, 0])).reqOf 0).payload 2 2 + i) (List.range (fieldAt ((issued dark140 1283 0 ([1, 0] ++ leBytes 2 140 ++ [2, 0, 0, 0])).reqOf 0).payload 4 2))).any (issued dark140 1283 0 ([1, 0] ++ leBytes 2 140 ++ [2, 0, 0, 0])).failedSlice = false) := by
  repeat' with_reducible apply And.intro
  all_goals first | decide +kernel | (intros; rfl) | (intro _ _ h; cases h) | exact ⟨_, List.Mem.head _, rfl⟩

set_option maxRecDepth 20000 in
/-- The hypotheses of `Obligations.PowerStatusAndDomains` are met, part 4 of 5. -/
theorem witness_PowerStatusAndDomains_4 :
    (Ready (issued dark140 1283 0 ([1, 0] ++ leBytes 2 140 ++ [1, 0, 0, 0])) 5 0 1283 (lenIs 8) ∧ (fieldAt ((issued dark140 1283 0 ([1, 0] ++ leBytes 2 140 ++ [1, 0, 0, 0])).reqOf 0).payload 0 1 ≤ 2 ∧ fieldAt ((issued dark140 1283 0 ([1, 0] ++ leBytes 2 140 ++ [1, 0, 0, 0])).reqOf 0).payload 1 1 = 0 ∧ fieldAt ((issued dark140 1283 0 ([1, 0] ++ leBytes 2 140 ++ [1, 0, 0, 0])).reqOf 0).payload 6 2 = 0 ∧ fieldAt ((issued dark140 1283 0 ([1, 0] ++ leBytes 2 140 ++ [1, 0, 0, 0])).reqOf 0).payload 2 2 + fieldAt ((issued dark140 1283 0 ([1, 0] ++ leBytes 2 140 ++ [1, 0, 0, 0])).reqOf 0).payload 4 2 ≤ 196 ∧ (fieldAt ((issued dark140 1283 0 ([1, 0] ++ leBytes 2 140 ++ [1, 0, 0, 0])).reqOf 0).payload 0 1 = 0 ∨ fieldAt ((issued dark140 1283 0 ([1, 0] ++ leBytes 2 140 ++ [1, 0, 0, 0])).reqOf 0).payload 4 2 ≠ 0 ∧ (List.map (fun (i : Nat) => fieldAt ((issued dark140 1283 0 ([1, 0] ++ leBytes 2 140 ++ [1, 0, 0, 0])).reqOf 0).payload 2 2 + i) (List.range (fieldAt ((issued dark140 1283 0 ([1, 0] ++ leBytes 2 140 ++ [1, 0, 0, 0])).reqOf 0).payload 4 2))).any fixedDomain = false)) ∧ fieldAt ((issued dark140 1283 0 ([1, 0] ++ leBytes 2 140 ++ [1, 0, 0, 0])).reqOf 0).payload 0 1 = 1 ∧ (issued dark140 1283 0 ([1, 0] ++ leBytes 2 140 ++ [1, 0, 0, 0])).pw.entry = none ∧ (issued dark140 1283 0 ([1, 0] ++ leBytes 2 140 ++ [1, 0, 0, 0])).pw.st ≤ 1 ∧ (List.map (fun (i : Nat) => fieldAt ((issued dark140 1283 0 ([1, 0] ++ leBytes 2 140 ++ [1, 0, 0, 0])).reqOf 0).payload 2 2 + i) (List.range (fieldAt ((issued dark140 1283 0 ([1, 0] ++ leBytes 2 140 ++ [1, 0, 0, 0])).reqOf 0).payload 4 2))).any (issued dark140 1283 0 ([1, 0] ++ leBytes 2 140 ++ [1, 0, 0, 0])).failedSlice = false ∧ 140 ∈ List.map (fun (i : Nat) => fieldAt ((issued dark140 1283 0 ([1, 0] ++ leBytes 2 140 ++ [1, 0, 0, 0])).reqOf 0).payload 2 2 + i) (List.range (fieldAt ((issued dark140 1283 0 ([1, 0] ++ leBytes 2 140 ++ [1, 0, 0, 0])).reqOf 0).payload 4 2)) ∧ (issued dark140 1283 0 ([1, 0] ++ leBytes 2 140 ++ [1, 0, 0, 0])).pw.onMap.getLsbD 140 = false) := by
  repeat' with_reducible apply And.intro
  all_goals first | decide +kernel | (intros; rfl) | (intro _ _ h; cases h) | exact ⟨_, List.Mem.head _, rfl⟩

set_option maxRecDepth 20000 in
/-- The hypotheses of `Obligations.PowerStatusAndDomains` are met, part 5 of 5. -/
theorem witness_PowerStatusAndDomains_5 :
    (Ready (fresh 1283 0 ([2, 0] ++ leBytes 2 195 ++ [1, 0, 0, 0])) 5 0 1283 (lenIs 8) ∧ (fieldAt ((fresh 1283 0 ([2, 0] ++ leBytes 2 195 ++ [1, 0, 0, 0])).reqOf 0).payload 0 1 ≤ 2 ∧ fieldAt ((fresh 1283 0 ([2, 0] ++ leBytes 2 195 ++ [1, 0, 0, 0])).reqOf 0).payload 1 1 = 0 ∧ fieldAt ((fresh 1283 0 ([2, 0] ++ leBytes 2 195 ++ [1, 0, 0, 0])).reqOf 0).payload 6 2 = 0 ∧ fieldAt ((fresh 1283 0 ([2, 0] ++ leBytes 2 195 ++ [1, 0, 0, 0])).reqOf 0).payload 2 2 + fieldAt ((fresh 1283 0 ([2, 0] ++ leBytes 2 195 ++ [1, 0, 0, 0])).reqOf 0).payload 4 2 ≤ 196 ∧ (fieldAt ((fresh 1283 0 ([2, 0] ++ leBytes 2 195 ++ [1, 0, 0, 0])).reqOf 0).payload 0 1 = 0 ∨ fieldAt ((fresh 1283 0 ([2, 0] ++ leBytes 2 195 ++ [1, 0, 0, 0])).reqOf 0).payload 4 2 ≠ 0 ∧ (List.map (fun (i : Nat) => fieldAt ((fresh 1283 0 ([2, 0] ++ leBytes 2 195 ++ [1, 0, 0, 0])).reqOf 0).payload 2 2 + i) (List.range (fieldAt ((fresh 1283 0 ([2, 0] ++ leBytes 2 195 ++ [1, 0, 0, 0])).reqOf 0).payload 4 2))).any fixedDomain = false)) ∧ fieldAt ((fresh 1283 0 ([2, 0] ++ leBytes 2 195 ++ [1, 0, 0, 0])).reqOf 0).payload 0 1 = 2 ∧ (fresh 1283 0 ([2, 0] ++ leBytes 2 195 ++ [1, 0, 0, 0])).pw.entry = none ∧ ((List.map (fun (i : Nat) => fieldAt ((fresh 1283 0 ([2, 0] ++ leBytes 2 195 ++ [1, 0, 0, 0])).reqOf 0).payload 2 2 + i) (List.range (fieldAt ((fresh 1283 0 ([2, 0] ++ leBytes 2 195 ++ [1, 0, 0, 0])).reqOf 0).payload 4 2))).any fun (d : Nat) => (fresh 1283 0 ([2, 0] ++ leBytes 2 195 ++ [1, 0, 0, 0])).otherHolds.getLsbD d) = false)
    ∧ (2 < (inState 3).pw.st)
    ∧ (lit.pw.st ≤ 2 ∧ (195 = 140 ∨ 195 = 141 ∨ 195 = 195))
    ∧ (coreOff.pw.st = 2 ∧ coreOff.pw.core = false)
    ∧ ((inState 2).pw.st = 2 ∧ (inState 2).mem.sr = SelfRef.off ∧ (inState 2).pw.phyReq + 3000000 ≤ max (inState 2).clk 3000000)
    ∧ (((inState 2).pw.st ≠ 2 ∨ (inState 2).mem.sr ≠ SelfRef.off ∨ max (inState 2).clk 2999999 < (inState 2).pw.phyReq + 3000000))
    ∧ ((noAux.pw.aux = false ∨ max noAux.clk 5 < noAux.pw.brownTo))
    ∧ (((browned 4).pw.aux = false ∨ max (browned 4).clk 999 < (browned 4).pw.brownTo))
    ∧ (lit.pw.aux = true ∧ lit.pw.brownTo ≤ max lit.clk 5 ∧ beltGroup (1 % 256) = 0 ∧ 1 % 256 ≠ 0)
    ∧ ((browned 3).pw.aux = true ∧ (browned 3).pw.brownTo ≤ max (browned 3).clk 1000)
    ∧ ((timed100 2).pw.aux = true ∧ (timed100 2).pw.brownTo ≤ max (timed100 2).clk 5) := by
  repeat' with_reducible apply And.intro
  all_goals first | decide +kernel | (intros; rfl) | (intro _ _ h; cases h) | exact ⟨_, List.Mem.head _, rfl⟩

set_option maxRecDepth 20000 in
/-- The hypotheses of `Obligations.WakesAndLossOfPower` are met, part 1 of 3. -/
theorem witness_WakesAndLossOfPower_1 :
    ((6 = 2 ∨ 6 = 4 ∨ 6 = 5 ∨ 6 = 6))
    ∧ (lit.pw.aux = true ∧ ((2, Instr.wakeNLow 5) ∈ [(1, Instr.l1Exit 5), (2, Instr.wakeNLow 5), (3, Instr.bfCmdWake 5), (4, Instr.wakeEdge 5 4 0 false), (5, Instr.wakeEdge 5 5 0 false)] ∨ (2, Instr.wakeNLow 5) = (6, Instr.wakeEdge 5 6 0 false) ∧ 0 < 4 ∧ bitAt lit.pw.wakePins 0 = true ∧ bitAt lit.pw.auxEdge 0 = false) ∧ ((2, Instr.wakeNLow 5).fst = 2 → lit.pw.wakeLow ≤ max lit.clk 5) ∧ lit.pw.brownTo ≤ max lit.clk 5 ∧ lit.pw.entry = none ∧ lit.wakeEnabled (2, Instr.wakeNLow 5).fst lit.pw.st = false)
    ∧ ((inState 2).pw.aux = true ∧ ((1, Instr.l1Exit 5) ∈ [(1, Instr.l1Exit 5), (2, Instr.wakeNLow 5), (3, Instr.bfCmdWake 5), (4, Instr.wakeEdge 5 4 0 false), (5, Instr.wakeEdge 5 5 0 false)] ∨ (1, Instr.l1Exit 5) = (6, Instr.wakeEdge 5 6 0 false) ∧ 0 < 4 ∧ bitAt (inState 2).pw.wakePins 0 = true ∧ bitAt (inState 2).pw.auxEdge 0 = false) ∧ ((1, Instr.l1Exit 5).fst = 2 → (inState 2).pw.wakeLow ≤ max (inState 2).clk 5) ∧ (inState 2).pw.brownTo ≤ max (inState 2).clk 5 ∧ (inState 2).pw.entry = none ∧ (inState 2).wakeEnabled (1, Instr.l1Exit 5).fst (inState 2).pw.st = true ∧ ((inState 2).pw.st = 2 ∨ 3 ≤ (inState 2).pw.st ∧ (inState 2).pw.main = true) ∧ (inState 2).pw.waking = none)
    ∧ ((inState 4).pw.aux = true ∧ ((3, Instr.bfCmdWake 5) ∈ [(1, Instr.l1Exit 5), (2, Instr.wakeNLow 5), (3, Instr.bfCmdWake 5), (4, Instr.wakeEdge 5 4 0 false), (5, Instr.wakeEdge 5 5 0 false)] ∨ (3, Instr.bfCmdWake 5) = (6, Instr.wakeEdge 5 6 0 false) ∧ 0 < 4 ∧ bitAt (inState 4).pw.wakePins 0 = true ∧ bitAt (inState 4).pw.auxEdge 0 = false) ∧ ((3, Instr.bfCmdWake 5).fst = 2 → (inState 4).pw.wakeLow ≤ max (inState 4).clk 5) ∧ (inState 4).pw.brownTo ≤ max (inState 4).clk 5 ∧ (inState 4).pw.entry = none ∧ (inState 4).wakeEnabled (3, Instr.bfCmdWake 5).fst (inState 4).pw.st = true ∧ ((inState 4).pw.st = 2 ∨ 3 ≤ (inState 4).pw.st ∧ (inState 4).pw.main = true) ∧ (inState 4).pw.waking = none)
    ∧ (auxWake.pw.aux = true ∧ ((6, Instr.wakeEdge 5 6 3 false) ∈ [(1, Instr.l1Exit 5), (2, Instr.wakeNLow 5), (3, Instr.bfCmdWake 5), (4, Instr.wakeEdge 5 4 3 false), (5, Instr.wakeEdge 5 5 3 false)] ∨ (6, Instr.wakeEdge 5 6 3 false) = (6, Instr.wakeEdge 5 6 3 false) ∧ 3 < 4 ∧ bitAt auxWake.pw.wakePins 3 = true ∧ bitAt auxWake.pw.auxEdge 3 = false) ∧ ((6, Instr.wakeEdge 5 6 3 false).fst = 2 → auxWake.pw.wakeLow ≤ max auxWake.clk 5) ∧ auxWake.pw.brownTo ≤ max auxWake.clk 5 ∧ auxWake.pw.entry = none ∧ auxWake.wakeEnabled (6, Instr.wakeEdge 5 6 3 false).fst auxWake.pw.st = true ∧ (auxWake.pw.st = 2 ∨ 3 ≤ auxWake.pw.st ∧ auxWake.pw.main = true) ∧ auxWake.pw.waking = none) := by
  repeat' with_reducible apply And.intro
  all_goals first | decide +kernel | (intros; rfl) | (intro _ _ h; cases h) | exact ⟨_, List.Mem.head _, rfl⟩

set_option maxRecDepth 20000 in
/-- The hypotheses of `Obligations.WakesAndLossOfPower` are met, part 2 of 3. -/
theorem witness_WakesAndLossOfPower_2 :
    ((entering 3 5).pw.aux = true ∧ ((2, Instr.wakeNLow 5) ∈ [(1, Instr.l1Exit 5), (2, Instr.wakeNLow 5), (3, Instr.bfCmdWake 5), (4, Instr.wakeEdge 5 4 0 false), (5, Instr.wakeEdge 5 5 0 false)] ∨ (2, Instr.wakeNLow 5) = (6, Instr.wakeEdge 5 6 0 false) ∧ 0 < 4 ∧ bitAt (entering 3 5).pw.wakePins 0 = true ∧ bitAt (entering 3 5).pw.auxEdge 0 = false) ∧ ((2, Instr.wakeNLow 5).fst = 2 → (entering 3 5).pw.wakeLow ≤ max (entering 3 5).clk 5) ∧ (entering 3 5).pw.brownTo ≤ max (entering 3 5).clk 5 ∧ (entering 3 5).pw.entry = some (ent 3 5) ∧ (entering 3 5).wakeEnabled (2, Instr.wakeNLow 5).fst (ent 3 5).target = true ∧ (ent 3 5).wake = none)
    ∧ ((entering 3 5).pw.aux = true ∧ ((4, Instr.wakeEdge 5 4 0 false) ∈ [(1, Instr.l1Exit 5), (2, Instr.wakeNLow 5), (3, Instr.bfCmdWake 5), (4, Instr.wakeEdge 5 4 0 false), (5, Instr.wakeEdge 5 5 0 false)] ∨ (4, Instr.wakeEdge 5 4 0 false) = (6, Instr.wakeEdge 5 6 0 false) ∧ 0 < 4 ∧ bitAt (entering 3 5).pw.wakePins 0 = true ∧ bitAt (entering 3 5).pw.auxEdge 0 = false) ∧ ((4, Instr.wakeEdge 5 4 0 false).fst = 2 → (entering 3 5).pw.wakeLow ≤ max (entering 3 5).clk 5) ∧ (entering 3 5).pw.brownTo ≤ max (entering 3 5).clk 5 ∧ (entering 3 5).pw.entry = some (ent 3 5) ∧ (entering 3 5).wakeEnabled (4, Instr.wakeEdge 5 4 0 false).fst (ent 3 5).target = false)
    ∧ ((inState 1).pw.st = 1 ∧ (inState 1).pw.entry = none)
    ∧ (lit.pw.timer = none)
    ∧ ((timed100 3).pw.timer = some 100 ∧ max (timed100 3).clk 99 < 100)
    ∧ ((timed100 3).pw.timer = some 100 ∧ 100 ≤ max (timed100 3).clk 100 ∧ (timed100 3).pw.entry = none ∧ (timed100 3).pw.waking = none ∧ ((timed100 3).pw.st = 2 ∨ 3 ≤ (timed100 3).pw.st ∧ (timed100 3).pw.main = true ∧ (timed100 3).pw.aux = true ∧ (timed100 3).pw.brownTo ≤ max (timed100 3).clk 100))
    ∧ (3 ≤ (browned 3).pw.st ∧ ((browned 3).pw.aux = false ∨ max (browned 3).clk 999 < (browned 3).pw.brownTo) ∧ (browned 3).pw.entry = none)
    ∧ ((noMain 1).pw.st = 4 ∧ (noMain 1).pw.main = false ∧ (noMain 1).pw.aux = true ∧ (noMain 1).pw.mainRet = 1 ∧ (noMain 1).pw.waking = none ∧ (noMain 1).pw.brownTo ≤ max (noMain 1).clk 5)
    ∧ (brownedNoMain.pw.st = 4 ∧ brownedNoMain.pw.main = false ∧ brownedNoMain.pw.aux = true ∧ max brownedNoMain.clk 999 < brownedNoMain.pw.brownTo)
    ∧ ((noMain 0).pw.st = 4 ∧ (noMain 0).pw.main = false ∧ (noMain 0).pw.aux = true ∧ (noMain 0).pw.mainRet ≠ 1)
    ∧ (((inState 3).pw.st ≠ 4 ∨ (inState 3).pw.main = true))
    ∧ (max drivenLow.clk 29999999 < drivenLow.pw.wakeLow)
    ∧ (lit.pw.waking = none)
    ∧ ((waking 4 2).pw.waking = some (4, 2, 0) ∧ (waking 4 2).pw.st = 2)
    ∧ ((waking 4 3).pw.waking = some (4, 3, 0) ∧ 4 ≠ 0 ∧ (waking 4 3).pw.main = true)
    ∧ ((waking 9 4).pw.waking = some (9, 4, 0) ∧ 9 ≠ 0 ∧ (waking 9 4).pw.main = true)
    ∧ ((waking 0 4).pw.waking = some (0, 4, 0) ∧ (waking 0 4).pw.main = true ∧ (waking 0 4).pw.aux = true ∧ (waking 0 4).fw.staging = none ∧ (waking 0 4).fw.enrol = none ∧ (waking 0 4).fw.slotFault ((waking 0 4).fw.slot (waking 0 4).fw.pref) = 0)
    ∧ ((waking 9 4).pw.waking.isSome = true ∧ 1 ≤ 6 ∧ 6 ≤ 6 ∧ (waking 9 4).pw.tryRail = none) := by
  repeat' with_reducible apply And.intro
  all_goals first | decide +kernel | (intros; rfl) | (intro _ _ h; cases h) | exact ⟨_, List.Mem.head _, rfl⟩

set_option maxRecDepth 20000 in
/-- The hypotheses of `Obligations.WakesAndLossOfPower` are met, part 3 of 3. -/
theorem witness_WakesAndLossOfPower_3 :
    (thirdTry.pw.waking.isSome = true ∧ 1 ≤ 6 ∧ 6 ≤ 6 ∧ thirdTry.pw.tryRail = some (WakeFail.mk 6 3))
    ∧ (lit.pw.st ≠ 4)
    ∧ (lit.pw.st ≠ 4 ∧ lit.pw.aux = true ∧ lit.pw.brownTo ≤ max lit.clk 5)
    ∧ (lit.pw.st ≠ 4 ∧ (16 ≤ 22 ∧ 22 ≤ 20 ∧ 115000 ≤ 105000 ∨ 21 ≤ 22 ∧ 22 ≤ 22 ∧ 105000 ≤ 105000))
    ∧ (104999 < 105000)
    ∧ ((inState 4).pw.st = 4 ∧ (inState 4).pw.waking = none)
    ∧ (lit.pw.aux = true ∧ lit.pw.brownTo ≤ max lit.clk 5)
    ∧ (((browned 3).pw.st = 3 ∨ (browned 3).pw.st = 4) ∧ (browned 3).pw.aux = true ∧ (browned 3).pw.waking = none ∧ (browned 3).pw.brownTo ≤ max (browned 3).clk 1000)
    ∧ (((inState 2).pw.st < 3 ∨ (inState 2).pw.aux = false ∨ (inState 2).pw.waking.isSome = true))
    ∧ ((notInserted.pw.inserted = false ∨ notInserted.pw.aux = false))
    ∧ (lit.pw.inserted = true ∧ lit.pw.aux = true) := by
  repeat' with_reducible apply And.intro
  all_goals first | decide +kernel | (intros; rfl) | (intro _ _ h; cases h) | exact ⟨_, List.Mem.head _, rfl⟩

/-- A bulk reference: address 64, length. -/
def bulkRefTo (n : Nat) : List Byte := leBytes 8 64 ++ leBytes 4 n ++ zs 4

/-- MON_LOAD_TABLE's payload for `n` entries. -/
def monPay (n : Nat) : List Byte := byteOf n :: zs 7 ++ (if n = 0 then zs 16 else bulkRefTo (24 * n))

/-- One entry: channel 39, one repeat. -/
def monEnt (chan : Nat) : List Byte := [byteOf chan, 0, 0, 0, 1, 0] ++ zs 18

/-- The converter in a state. -/
def convAt (c : Conv) : State := lit.modMon (fun m => { m with conv := c })

/-- Injection work is outstanding. -/
def injecting : State := lit.modMr (fun m => { m with work := [⟨0, 0x0603, 7, 0, 0, 0⟩] })

/-- A calibration of input 15, range 3 at STEP 0 with two conversions. -/
def calib0 (c : Conv) : State := (convAt c).modMon (fun m => { m with syscal := some ⟨15, 3, 0, 2, 0⟩ })

/-- MN_PERIOD changed from its default at tick 100, at which a delay ends. -/
def periodAt : State := (convAt (.delay 1 100)).modMr (fun m => { m with recorded := [⟨0x1000, 0, 0#64⟩], recHist := [(100, [])] })

/-- An injection waits for tick 100. -/
def injectAt (c : Conv) : State := (convAt c).modMon (fun m => { m with inject := some 100 })


set_option maxRecDepth 20000 in
/-- The hypotheses of `Obligations.MonitorMeasuresAndCalibrates` are met, part 1 of 6. -/
theorem witness_MonitorMeasuresAndCalibrates_1 :
    (Ready (fresh 1537 0 (monPay 65)) 5 0 1537 (lenIs 24) ∧ (¬(fieldAt ((fresh 1537 0 (monPay 65)).reqOf 0).payload 0 1 ≤ 64 ∧ allZero (sliceAt ((fresh 1537 0 (monPay 65)).reqOf 0).payload 1 7) = true ∧ if fieldAt ((fresh 1537 0 (monPay 65)).reqOf 0).payload 0 1 = 0 then allZero (sliceAt ((fresh 1537 0 (monPay 65)).reqOf 0).payload 8 16) = true else bulkOk ((fresh 1537 0 (monPay 65)).reqOf 0).payload 8 = true ∧ (bulkRef ((fresh 1537 0 (monPay 65)).reqOf 0).payload 8).snd.fst = 24 * fieldAt ((fresh 1537 0 (monPay 65)).reqOf 0).payload 0 1)))
    ∧ (Ready (fresh 1537 0 (monPay 1)) 5 0 1537 (lenIs 24) ∧ fieldAt ((fresh 1537 0 (monPay 1)).reqOf 0).payload 0 1 ≤ 64 ∧ allZero (sliceAt ((fresh 1537 0 (monPay 1)).reqOf 0).payload 1 7) = true ∧ if fieldAt ((fresh 1537 0 (monPay 1)).reqOf 0).payload 0 1 = 0 then allZero (sliceAt ((fresh 1537 0 (monPay 1)).reqOf 0).payload 8 16) = true else bulkOk ((fresh 1537 0 (monPay 1)).reqOf 0).payload 8 = true ∧ (bulkRef ((fresh 1537 0 (monPay 1)).reqOf 0).payload 8).snd.fst = 24 * fieldAt ((fresh 1537 0 (monPay 1)).reqOf 0).payload 0 1 ∧ fieldAt ((fresh 1537 0 (monPay 1)).reqOf 0).payload 0 1 ≠ 0 ∧ monEntries (padTo (24 * fieldAt ((fresh 1537 0 (monPay 1)).reqOf 0).payload 0 1) (monEnt 40)) (fieldAt ((fresh 1537 0 (monPay 1)).reqOf 0).payload 0 1) = none)
    ∧ (Ready (issued injecting 1537 0 (monPay 0)) 5 0 1537 (lenIs 24) ∧ fieldAt ((issued injecting 1537 0 (monPay 0)).reqOf 0).payload 0 1 ≤ 64 ∧ allZero (sliceAt ((issued injecting 1537 0 (monPay 0)).reqOf 0).payload 1 7) = true ∧ if fieldAt ((issued injecting 1537 0 (monPay 0)).reqOf 0).payload 0 1 = 0 then allZero (sliceAt ((issued injecting 1537 0 (monPay 0)).reqOf 0).payload 8 16) = true else bulkOk ((issued injecting 1537 0 (monPay 0)).reqOf 0).payload 8 = true ∧ (bulkRef ((issued injecting 1537 0 (monPay 0)).reqOf 0).payload 8).snd.fst = 24 * fieldAt ((issued injecting 1537 0 (monPay 0)).reqOf 0).payload 0 1 ∧ (fieldAt ((issued injecting 1537 0 (monPay 0)).reqOf 0).payload 0 1 = 0 ∧ True ∨ fieldAt ((issued injecting 1537 0 (monPay 0)).reqOf 0).payload 0 1 ≠ 0 ∧ False ∧ monEntries (padTo (24 * fieldAt ((issued injecting 1537 0 (monPay 0)).reqOf 0).payload 0 1) []) (fieldAt ((issued injecting 1537 0 (monPay 0)).reqOf 0).payload 0 1) = some []) ∧ (issued injecting 1537 0 (monPay 0)).monHolds = true) := by
  repeat' with_reducible apply And.intro
  all_goals first | decide +kernel | (intros; rfl) | (intro _ _ h; cases h) | exact ⟨_, List.Mem.head _, rfl⟩

set_option maxRecDepth 20000 in
/-- The hypotheses of `Obligations.MonitorMeasuresAndCalibrates` are met, part 2 of 6. -/
theorem witness_MonitorMeasuresAndCalibrates_2 :
    (Ready (issued (convAt Conv.stopped) 1537 0 (monPay 1)) 5 0 1537 (lenIs 24) ∧ fieldAt ((issued (convAt Conv.stopped) 1537 0 (monPay 1)).reqOf 0).payload 0 1 ≤ 64 ∧ allZero (sliceAt ((issued (convAt Conv.stopped) 1537 0 (monPay 1)).reqOf 0).payload 1 7) = true ∧ if fieldAt ((issued (convAt Conv.stopped) 1537 0 (monPay 1)).reqOf 0).payload 0 1 = 0 then allZero (sliceAt ((issued (convAt Conv.stopped) 1537 0 (monPay 1)).reqOf 0).payload 8 16) = true else bulkOk ((issued (convAt Conv.stopped) 1537 0 (monPay 1)).reqOf 0).payload 8 = true ∧ (bulkRef ((issued (convAt Conv.stopped) 1537 0 (monPay 1)).reqOf 0).payload 8).snd.fst = 24 * fieldAt ((issued (convAt Conv.stopped) 1537 0 (monPay 1)).reqOf 0).payload 0 1 ∧ (fieldAt ((issued (convAt Conv.stopped) 1537 0 (monPay 1)).reqOf 0).payload 0 1 = 0 ∧ [MonEntry.mk 39 0 0 false false false 1 0 0 0] = [] ∨ fieldAt ((issued (convAt Conv.stopped) 1537 0 (monPay 1)).reqOf 0).payload 0 1 ≠ 0 ∧ some (monEnt 39) = some (monEnt 39) ∧ monEntries (padTo (24 * fieldAt ((issued (convAt Conv.stopped) 1537 0 (monPay 1)).reqOf 0).payload 0 1) (monEnt 39)) (fieldAt ((issued (convAt Conv.stopped) 1537 0 (monPay 1)).reqOf 0).payload 0 1) = some [MonEntry.mk 39 0 0 false false false 1 0 0 0]) ∧ (issued (convAt Conv.stopped) 1537 0 (monPay 1)).monHolds = false ∧ (issued (convAt Conv.stopped) 1537 0 (monPay 1)).mon.conv = Conv.stopped)
    ∧ (Ready (fresh 1537 0 (monPay 0)) 5 0 1537 (lenIs 24) ∧ fieldAt ((fresh 1537 0 (monPay 0)).reqOf 0).payload 0 1 ≤ 64 ∧ allZero (sliceAt ((fresh 1537 0 (monPay 0)).reqOf 0).payload 1 7) = true ∧ if fieldAt ((fresh 1537 0 (monPay 0)).reqOf 0).payload 0 1 = 0 then allZero (sliceAt ((fresh 1537 0 (monPay 0)).reqOf 0).payload 8 16) = true else bulkOk ((fresh 1537 0 (monPay 0)).reqOf 0).payload 8 = true ∧ (bulkRef ((fresh 1537 0 (monPay 0)).reqOf 0).payload 8).snd.fst = 24 * fieldAt ((fresh 1537 0 (monPay 0)).reqOf 0).payload 0 1 ∧ (fieldAt ((fresh 1537 0 (monPay 0)).reqOf 0).payload 0 1 = 0 ∧ True ∨ fieldAt ((fresh 1537 0 (monPay 0)).reqOf 0).payload 0 1 ≠ 0 ∧ False ∧ monEntries (padTo (24 * fieldAt ((fresh 1537 0 (monPay 0)).reqOf 0).payload 0 1) []) (fieldAt ((fresh 1537 0 (monPay 0)).reqOf 0).payload 0 1) = some []) ∧ (fresh 1537 0 (monPay 0)).monHolds = false ∧ (fresh 1537 0 (monPay 0)).mon.conv ≠ Conv.stopped) := by
  repeat' with_reducible apply And.intro
  all_goals first | decide +kernel | (intros; rfl) | (intro _ _ h; cases h) | exact ⟨_, List.Mem.head _, rfl⟩

set_option maxRecDepth 20000 in
/-- The hypotheses of `Obligations.MonitorMeasuresAndCalibrates` are met, part 3 of 6. -/
theorem witness_MonitorMeasuresAndCalibrates_3 :
    (Ready (fresh 1538 0 ([0, 64, 2, 0] ++ zs 4)) 5 0 1538 (lenIs 8) ∧ (¬(fieldAt ((fresh 1538 0 ([0, 64, 2, 0] ++ zs 4)).reqOf 0).payload 0 1 = 0 ∧ fieldAt ((fresh 1538 0 ([0, 64, 2, 0] ++ zs 4)).reqOf 0).payload 4 4 = 0 ∧ fieldAt ((fresh 1538 0 ([0, 64, 2, 0] ++ zs 4)).reqOf 0).payload 1 1 ≤ 64 ∧ 1 ≤ fieldAt ((fresh 1538 0 ([0, 64, 2, 0] ++ zs 4)).reqOf 0).payload 2 1 ∧ fieldAt ((fresh 1538 0 ([0, 64, 2, 0] ++ zs 4)).reqOf 0).payload 2 1 ≤ 63 ∧ fieldAt ((fresh 1538 0 ([0, 64, 2, 0] ++ zs 4)).reqOf 0).payload 1 1 + fieldAt ((fresh 1538 0 ([0, 64, 2, 0] ++ zs 4)).reqOf 0).payload 2 1 ≤ 65 ∧ fieldAt ((fresh 1538 0 ([0, 64, 2, 0] ++ zs 4)).reqOf 0).payload 3 1 ≤ 1)) ∧ (¬(fieldAt ((fresh 1538 0 ([0, 64, 2, 0] ++ zs 4)).reqOf 0).payload 0 1 = 1 ∧ fieldAt ((fresh 1538 0 ([0, 64, 2, 0] ++ zs 4)).reqOf 0).payload 4 4 = 0 ∧ fieldAt ((fresh 1538 0 ([0, 64, 2, 0] ++ zs 4)).reqOf 0).payload 1 1 = 0 ∧ fieldAt ((fresh 1538 0 ([0, 64, 2, 0] ++ zs 4)).reqOf 0).payload 2 1 = 0 ∧ fieldAt ((fresh 1538 0 ([0, 64, 2, 0] ++ zs 4)).reqOf 0).payload 3 1 = 0)))
    ∧ (Ready (fresh 1538 0 (1 :: zs 7)) 5 0 1538 (lenIs 8) ∧ fieldAt ((fresh 1538 0 (1 :: zs 7)).reqOf 0).payload 0 1 = 1 ∧ fieldAt ((fresh 1538 0 (1 :: zs 7)).reqOf 0).payload 4 4 = 0 ∧ fieldAt ((fresh 1538 0 (1 :: zs 7)).reqOf 0).payload 1 1 = 0 ∧ fieldAt ((fresh 1538 0 (1 :: zs 7)).reqOf 0).payload 2 1 = 0 ∧ fieldAt ((fresh 1538 0 (1 :: zs 7)).reqOf 0).payload 3 1 = 0)
    ∧ (Ready (fresh 1538 0 ([0, 64, 1, 1] ++ zs 4)) 5 0 1538 (lenIs 8) ∧ fieldAt ((fresh 1538 0 ([0, 64, 1, 1] ++ zs 4)).reqOf 0).payload 0 1 = 0 ∧ fieldAt ((fresh 1538 0 ([0, 64, 1, 1] ++ zs 4)).reqOf 0).payload 4 4 = 0 ∧ fieldAt ((fresh 1538 0 ([0, 64, 1, 1] ++ zs 4)).reqOf 0).payload 1 1 ≤ 64 ∧ 1 ≤ fieldAt ((fresh 1538 0 ([0, 64, 1, 1] ++ zs 4)).reqOf 0).payload 2 1 ∧ fieldAt ((fresh 1538 0 ([0, 64, 1, 1] ++ zs 4)).reqOf 0).payload 2 1 ≤ 63 ∧ fieldAt ((fresh 1538 0 ([0, 64, 1, 1] ++ zs 4)).reqOf 0).payload 1 1 + fieldAt ((fresh 1538 0 ([0, 64, 1, 1] ++ zs 4)).reqOf 0).payload 2 1 ≤ 65 ∧ fieldAt ((fresh 1538 0 ([0, 64, 1, 1] ++ zs 4)).reqOf 0).payload 3 1 ≤ 1)
    ∧ (Ready (fresh 1539 0 (40 :: zs 7)) 5 0 1539 (lenIs 8) ∧ (¬(allZero (sliceAt ((fresh 1539 0 (40 :: zs 7)).reqOf 0).payload 2 6) = true ∧ fieldAt ((fresh 1539 0 (40 :: zs 7)).reqOf 0).payload 0 1 < 40 ∧ if fieldAt ((fresh 1539 0 (40 :: zs 7)).reqOf 0).payload 0 1 < 16 then fieldAt ((fresh 1539 0 (40 :: zs 7)).reqOf 0).payload 1 1 ≤ 3 else fieldAt ((fresh 1539 0 (40 :: zs 7)).reqOf 0).payload 1 1 = 0)))
    ∧ (Ready (issued injecting 1539 0 (39 :: zs 7)) 5 0 1539 (lenIs 8) ∧ allZero (sliceAt ((issued injecting 1539 0 (39 :: zs 7)).reqOf 0).payload 2 6) = true ∧ fieldAt ((issued injecting 1539 0 (39 :: zs 7)).reqOf 0).payload 0 1 < 40 ∧ if fieldAt ((issued injecting 1539 0 (39 :: zs 7)).reqOf 0).payload 0 1 < 16 then fieldAt ((issued injecting 1539 0 (39 :: zs 7)).reqOf 0).payload 1 1 ≤ 3 else fieldAt ((issued injecting 1539 0 (39 :: zs 7)).reqOf 0).payload 1 1 = 0 ∧ (issued injecting 1539 0 (39 :: zs 7)).monHolds = true) := by
  repeat' with_reducible apply And.intro
  all_goals first | decide +kernel | (intros; rfl) | (intro _ _ h; cases h) | exact ⟨_, List.Mem.head _, rfl⟩

set_option maxRecDepth 20000 in
/-- The hypotheses of `Obligations.MonitorMeasuresAndCalibrates` are met, part 4 of 6. -/
theorem witness_MonitorMeasuresAndCalibrates_4 :
    (Ready (issued (convAt (Conv.run 0 0 300)) 1539 0 ([15, 3] ++ zs 6)) 5 0 1539 (lenIs 8) ∧ allZero (sliceAt ((issued (convAt (Conv.run 0 0 300)) 1539 0 ([15, 3] ++ zs 6)).reqOf 0).payload 2 6) = true ∧ fieldAt ((issued (convAt (Conv.run 0 0 300)) 1539 0 ([15, 3] ++ zs 6)).reqOf 0).payload 0 1 < 40 ∧ if fieldAt ((issued (convAt (Conv.run 0 0 300)) 1539 0 ([15, 3] ++ zs 6)).reqOf 0).payload 0 1 < 16 then fieldAt ((issued (convAt (Conv.run 0 0 300)) 1539 0 ([15, 3] ++ zs 6)).reqOf 0).payload 1 1 ≤ 3 else fieldAt ((issued (convAt (Conv.run 0 0 300)) 1539 0 ([15, 3] ++ zs 6)).reqOf 0).payload 1 1 = 0 ∧ (issued (convAt (Conv.run 0 0 300)) 1539 0 ([15, 3] ++ zs 6)).monHolds = false ∧ (issued (convAt (Conv.run 0 0 300)) 1539 0 ([15, 3] ++ zs 6)).mr.work.length < 16 ∧ ((issued (convAt (Conv.run 0 0 300)) 1539 0 ([15, 3] ++ zs 6)).reach 5).monConverting = true)
    ∧ (Ready (issued (convAt Conv.stopped) 1539 0 ([15, 3] ++ zs 6)) 5 0 1539 (lenIs 8) ∧ allZero (sliceAt ((issued (convAt Conv.stopped) 1539 0 ([15, 3] ++ zs 6)).reqOf 0).payload 2 6) = true ∧ fieldAt ((issued (convAt Conv.stopped) 1539 0 ([15, 3] ++ zs 6)).reqOf 0).payload 0 1 < 40 ∧ if fieldAt ((issued (convAt Conv.stopped) 1539 0 ([15, 3] ++ zs 6)).reqOf 0).payload 0 1 < 16 then fieldAt ((issued (convAt Conv.stopped) 1539 0 ([15, 3] ++ zs 6)).reqOf 0).payload 1 1 ≤ 3 else fieldAt ((issued (convAt Conv.stopped) 1539 0 ([15, 3] ++ zs 6)).reqOf 0).payload 1 1 = 0 ∧ (issued (convAt Conv.stopped) 1539 0 ([15, 3] ++ zs 6)).monHolds = false ∧ (issued (convAt Conv.stopped) 1539 0 ([15, 3] ++ zs 6)).mr.work.length < 16 ∧ ((issued (convAt Conv.stopped) 1539 0 ([15, 3] ++ zs 6)).reach 5).monConverting = false ∧ (issued (convAt Conv.stopped) 1539 0 ([15, 3] ++ zs 6)).pw.st ≤ 2)
    ∧ (Ready (fresh 1540 0 (16 :: zs 15)) 5 0 1540 (lenIs 16) ∧ syscalForm ((fresh 1540 0 (16 :: zs 15)).reqOf 0).payload = false)
    ∧ (Ready (fresh 1540 0 ([15, 0, 1, 64] ++ leBytes 4 20000 ++ zs 8)) 5 0 1540 (lenIs 16) ∧ syscalForm ((fresh 1540 0 ([15, 0, 1, 64] ++ leBytes 4 20000 ++ zs 8)).reqOf 0).payload = true ∧ fieldAt ((fresh 1540 0 ([15, 0, 1, 64] ++ leBytes 4 20000 ++ zs 8)).reqOf 0).payload 2 1 = 1 ∧ (¬(fieldAt ((fresh 1540 0 ([15, 0, 1, 64] ++ leBytes 4 20000 ++ zs 8)).reqOf 0).payload 0 1, fieldAt ((fresh 1540 0 ([15, 0, 1, 64] ++ leBytes 4 20000 ++ zs 8)).reqOf 0).payload 1 1) ∈ (fresh 1540 0 ([15, 0, 1, 64] ++ leBytes 4 20000 ++ zs 8)).mon.zeroed))
    ∧ (Ready (fresh 1540 0 ([15, 3, 2, 0] ++ leBytes 4 83886 ++ leBytes 4 17616077 ++ zs 4)) 5 0 1540 (lenIs 16) ∧ syscalForm ((fresh 1540 0 ([15, 3, 2, 0] ++ leBytes 4 83886 ++ leBytes 4 17616077 ++ zs 4)).reqOf 0).payload = true ∧ (fresh 1540 0 ([15, 3, 2, 0] ++ leBytes 4 83886 ++ leBytes 4 17616077 ++ zs 4)).working 1540 = false ∧ (fresh 1540 0 ([15, 3, 2, 0] ++ leBytes 4 83886 ++ leBytes 4 17616077 ++ zs 4)).mr.work.length < 16 ∧ fieldAt ((fresh 1540 0 ([15, 3, 2, 0] ++ leBytes 4 83886 ++ leBytes 4 17616077 ++ zs 4)).reqOf 0).payload 2 1 = 2) := by
  repeat' with_reducible apply And.intro
  all_goals first | decide +kernel | (intros; rfl) | (intro _ _ h; cases h) | exact ⟨_, List.Mem.head _, rfl⟩

set_option maxRecDepth 20000 in
/-- The hypotheses of `Obligations.MonitorMeasuresAndCalibrates` are met, part 5 of 6. -/
theorem witness_MonitorMeasuresAndCalibrates_5 :
    (Ready (fresh 1540 0 ([15, 3, 3, 0] ++ zs 12)) 5 0 1540 (lenIs 16) ∧ syscalForm ((fresh 1540 0 ([15, 3, 3, 0] ++ zs 12)).reqOf 0).payload = true ∧ (fresh 1540 0 ([15, 3, 3, 0] ++ zs 12)).working 1540 = false ∧ (fresh 1540 0 ([15, 3, 3, 0] ++ zs 12)).mr.work.length < 16 ∧ fieldAt ((fresh 1540 0 ([15, 3, 3, 0] ++ zs 12)).reqOf 0).payload 2 1 = 3)
    ∧ (Ready (fresh 1540 0 ([15, 3, 0, 64] ++ zs 12)) 5 0 1540 (lenIs 16) ∧ syscalForm ((fresh 1540 0 ([15, 3, 0, 64] ++ zs 12)).reqOf 0).payload = true ∧ (fresh 1540 0 ([15, 3, 0, 64] ++ zs 12)).working 1540 = false ∧ (fresh 1540 0 ([15, 3, 0, 64] ++ zs 12)).mr.work.length < 16 ∧ (fieldAt ((fresh 1540 0 ([15, 3, 0, 64] ++ zs 12)).reqOf 0).payload 2 1 = 0 ∨ fieldAt ((fresh 1540 0 ([15, 3, 0, 64] ++ zs 12)).reqOf 0).payload 2 1 = 1 ∧ (fieldAt ((fresh 1540 0 ([15, 3, 0, 64] ++ zs 12)).reqOf 0).payload 0 1, fieldAt ((fresh 1540 0 ([15, 3, 0, 64] ++ zs 12)).reqOf 0).payload 1 1) ∈ (fresh 1540 0 ([15, 3, 0, 64] ++ zs 12)).mon.zeroed) ∧ (fresh 1540 0 ([15, 3, 0, 64] ++ zs 12)).pw.st ≤ 2)
    ∧ ((convAt Conv.stopped).mon.newTable = none ∧ (convAt Conv.stopped).mon.conv = Conv.stopped)
    ∧ ((convAt (Conv.run 0 1 100)).mon.newTable = none ∧ (convAt (Conv.run 0 1 100)).mon.conv = Conv.run 0 1 100 ∧ max (convAt (Conv.run 0 1 100)).clk 99 < 100)
    ∧ ((convAt (Conv.run 0 1 100)).mon.newTable = none ∧ (convAt (Conv.run 0 1 100)).mon.conv = Conv.run 0 1 100 ∧ 100 ≤ max (convAt (Conv.run 0 1 100)).clk 100 ∧ 0 < (convAt (Conv.run 0 1 100)).mon.accs.length ∧ ((convAt (Conv.run 0 1 100)).mon.acc 0).n < 2 ^ 32 - 1)
    ∧ ((convAt (Conv.inject 100)).mon.newTable = none ∧ (convAt (Conv.inject 100)).mon.conv = Conv.inject 100 ∧ 100 ≤ max (convAt (Conv.inject 100)).clk 100)
    ∧ ((calib0 (Conv.cal 0 83886 100)).mon.newTable = none ∧ (calib0 (Conv.cal 0 83886 100)).mon.conv = Conv.cal 0 83886 100 ∧ (calib0 (Conv.cal 0 83886 100)).mon.syscal = some (Syscal.mk 15 3 0 2 0) ∧ (Syscal.mk 15 3 0 2 0).step = 0 ∧ 100 ≤ max (calib0 (Conv.cal 0 83886 100)).clk 100 ∧ -83886 ≤ divHalfEven (83886 + clampInt (-10485760) 10485760 83886) (Syscal.mk 15 3 0 2 0).count ∧ divHalfEven (83886 + clampInt (-10485760) 10485760 83886) (Syscal.mk 15 3 0 2 0).count ≤ 83886)
    ∧ ((convAt (Conv.delay 1 100)).mon.newTable = none ∧ (convAt (Conv.delay 1 100)).mon.conv = Conv.delay 1 100 ∧ max (convAt (Conv.delay 1 100)).clk 99 < 100)
    ∧ ((convAt (Conv.delay 1 100)).mon.newTable = none ∧ (convAt (Conv.delay 1 100)).mon.conv = Conv.delay 1 100 ∧ 100 ≤ max (convAt (Conv.delay 1 100)).clk 100 ∧ (convAt (Conv.delay 1 100)).mon.syscal = none ∧ (convAt (Conv.delay 1 100)).mon.inject = none)
    ∧ (periodAt.mon.newTable = none ∧ periodAt.mon.conv = Conv.delay 1 100 ∧ 100 ≤ max periodAt.clk 100 ∧ periodAt.mon.syscal = none ∧ periodAt.mon.inject = none)
    ∧ ((calib0 (Conv.delay 1 100)).mon.newTable = none ∧ (calib0 (Conv.delay 1 100)).mon.conv = Conv.delay 1 100 ∧ 100 ≤ max (calib0 (Conv.delay 1 100)).clk 100 ∧ (calib0 (Conv.delay 1 100)).mon.syscal.isSome = true)
    ∧ (lit.mon.newTable = none ∧ lit.mon.inject = none) := by
  repeat' with_reducible apply And.intro
  all_goals first | decide +kernel | (intros; rfl) | (intro _ _ h; cases h) | exact ⟨_, List.Mem.head _, rfl⟩

set_option maxRecDepth 20000 in
/-- The hypotheses of `Obligations.MonitorMeasuresAndCalibrates` are met, part 6 of 6. -/
theorem witness_MonitorMeasuresAndCalibrates_6 :
    ((injectAt Conv.stopped).mon.newTable = none ∧ (injectAt Conv.stopped).mon.inject = some 100 ∧ max (injectAt Conv.stopped).clk 99 < 100)
    ∧ ((injectAt Conv.stopped).mon.newTable = none ∧ (injectAt Conv.stopped).mon.inject = some 100 ∧ 100 ≤ max (injectAt Conv.stopped).clk 100 ∧ ((injectAt Conv.stopped).reach 100).monConverting = false)
    ∧ (lit.mon.newTable = none ∧ lit.mon.syscal = none)
    ∧ ((calib0 (Conv.settle 100)).mon.newTable = none ∧ (calib0 (Conv.settle 100)).mon.conv = Conv.settle 100 ∧ (calib0 (Conv.settle 100)).mon.syscal = some (Syscal.mk 15 3 0 2 0) ∧ max (calib0 (Conv.settle 100)).clk 99 < 100)
    ∧ ((calib0 (Conv.settle 100)).mon.newTable = none ∧ (calib0 (Conv.settle 100)).mon.conv = Conv.settle 100 ∧ (calib0 (Conv.settle 100)).mon.syscal = some (Syscal.mk 15 3 0 2 0) ∧ 100 ≤ max (calib0 (Conv.settle 100)).clk 100) := by
  repeat' with_reducible apply And.intro
  all_goals first | decide +kernel | (intros; rfl) | (intro _ _ h; cases h) | exact ⟨_, List.Mem.head _, rfl⟩

/-- A well-formed header with a body of one byte, and the rest of an image (19 R459). -/
def image : List Byte := [0x51, 0x46, 0x57, 0x49] ++ leBytes 2 1 ++ zs 10 ++ leBytes 4 1 ++ zs 236 ++ zs 3310

/-- The payload of FW_STAGE for an image of a length. -/
def stagePay (n : Nat) : List Byte := bulkRefTo n

/-- Slot B holds a sound image. -/
def twoSlots : State := lit.modFw (fun f => { f with slotB := { f.slotA with svn := 3 } })

/-- A trial of it until tick 100. -/
def trying : State := twoSlots.modFw (fun f => { f with trial := some ⟨100, true⟩ })

/-- A live restart into slot B. -/
def restarting (halt : Bool) : State := twoSlots.modFw (fun f => { f with
  serving := false, haltReq := halt, restart := some ⟨0, 7, 0, 1, 0, false⟩ })

/-- A return from the trial of slot B. -/
def returning : State := (restarting false).modFw (fun f => { f with running := 1, restart := some ⟨0, 0, 0, 0, 1, false⟩ })

/-- An image is being staged. -/
def staging : State := lit.modFw (fun f => { f with staging := some [1] })

/-- An outstanding challenge, issued at tick 0. -/
def challenged : State := lit.modFw (fun f => { f with chal := some (zs 32, 0) })

/-- An owned module with that challenge. -/
def owned : State := challenged.modFw (fun f => { f with ownState := 1 })

/-- The debug port unlocked. -/
def unlocked : State := lit.modFw (fun f => { f with unlocked := true, bps := f.bps.set 7 (1, 0) })

/-- The core halted beside it. -/
def haltedCore : State := unlocked.modFw (fun f => { f with halted := true, hcause := 1 })

/-- Debug access enabled. -/
def debugOn : State := owned.modMr (fun m => { m with recorded := [⟨0x1101, 0, 1#64⟩] })

/-- No owner slot is free. -/
def noOwnerSlot : State := (lit.modFw (fun f => { f with ownSlots := 0 }))

/-- An owner's key is being programmed. -/
def enrolling : State := (lit.modFw (fun f => { f with enrol := some [1] }))


set_option maxRecDepth 20000 in
/-- The hypotheses of `Obligations.FirmwareIsStagedAndActivated` are met, part 1 of 2. -/
theorem witness_FirmwareIsStagedAndActivated_1 :
    (Ready (fresh 2305 0 (stagePay 3565)) 5 0 2305 (lenIs 16) ∧ (¬(bulkOk ((fresh 2305 0 (stagePay 3565)).reqOf 0).payload 0 = true ∧ headerOk (sliceAt image 0 256) = true ∧ (bulkRef ((fresh 2305 0 (stagePay 3565)).reqOf 0).payload 0).snd.fst = 256 + bodyLenOf image + 3309)))
    ∧ (Ready (issued trying 2305 0 (stagePay 3566)) 5 0 2305 (lenIs 16) ∧ bulkOk ((issued trying 2305 0 (stagePay 3566)).reqOf 0).payload 0 = true ∧ headerOk (sliceAt image 0 256) = true ∧ (bulkRef ((issued trying 2305 0 (stagePay 3566)).reqOf 0).payload 0).snd.fst = 256 + bodyLenOf image + 3309 ∧ (issued trying 2305 0 (stagePay 3566)).fw.trial.isSome = true)
    ∧ (Ready (issued committingCal 2305 0 (stagePay 3566)) 5 0 2305 (lenIs 16) ∧ bulkOk ((issued committingCal 2305 0 (stagePay 3566)).reqOf 0).payload 0 = true ∧ headerOk (sliceAt image 0 256) = true ∧ (bulkRef ((issued committingCal 2305 0 (stagePay 3566)).reqOf 0).payload 0).snd.fst = 256 + bodyLenOf image + 3309 ∧ (issued committingCal 2305 0 (stagePay 3566)).fw.trial = none ∧ [2305, 2306, 515, 516, 1796].any (issued committingCal 2305 0 (stagePay 3566)).working = true)
    ∧ (Ready (fresh 2305 0 (stagePay 3566)) 5 0 2305 (lenIs 16) ∧ bulkOk ((fresh 2305 0 (stagePay 3566)).reqOf 0).payload 0 = true ∧ headerOk (sliceAt image 0 256) = true ∧ (bulkRef ((fresh 2305 0 (stagePay 3566)).reqOf 0).payload 0).snd.fst = 256 + bodyLenOf image + 3309 ∧ (fresh 2305 0 (stagePay 3566)).fw.trial = none ∧ [2305, 2306, 515, 516, 1796].any (fresh 2305 0 (stagePay 3566)).working = false ∧ (fresh 2305 0 (stagePay 3566)).mr.work.length < 16)
    ∧ (lit.fw.staging = none)
    ∧ (staging.fw.staging = some [1] ∧ staging.fw.recovery = false)
    ∧ (Ready (fresh 2306 0 (3 :: zs 7)) 5 0 2306 (lenIs 8) ∧ (fresh 2306 0 (3 :: zs 7)).fw.restart = none ∧ (2 < fieldAt ((fresh 2306 0 (3 :: zs 7)).reqOf 0).payload 0 1 ∨ 1 < fieldAt ((fresh 2306 0 (3 :: zs 7)).reqOf 0).payload 1 1 ∨ fieldAt ((fresh 2306 0 (3 :: zs 7)).reqOf 0).payload 2 6 ≠ 0))
    ∧ (Ready (fresh 2306 0 (2 :: zs 7)) 5 0 2306 (lenIs 8) ∧ (fresh 2306 0 (2 :: zs 7)).fw.restart = none ∧ fieldAt ((fresh 2306 0 (2 :: zs 7)).reqOf 0).payload 1 1 ≤ 1 ∧ fieldAt ((fresh 2306 0 (2 :: zs 7)).reqOf 0).payload 2 6 = 0 ∧ fieldAt ((fresh 2306 0 (2 :: zs 7)).reqOf 0).payload 0 1 = 2 ∧ (fresh 2306 0 (2 :: zs 7)).fw.trial = none)
    ∧ (Ready (issued trying 2306 0 (2 :: zs 7)) 100 0 2306 (lenIs 8) ∧ (issued trying 2306 0 (2 :: zs 7)).fw.restart = none ∧ fieldAt ((issued trying 2306 0 (2 :: zs 7)).reqOf 0).payload 1 1 ≤ 1 ∧ fieldAt ((issued trying 2306 0 (2 :: zs 7)).reqOf 0).payload 2 6 = 0 ∧ fieldAt ((issued trying 2306 0 (2 :: zs 7)).reqOf 0).payload 0 1 = 2 ∧ (issued trying 2306 0 (2 :: zs 7)).fw.trial = some (Trial.mk 100 true) ∧ max (issued trying 2306 0 (2 :: zs 7)).clk 100 ≤ (Trial.mk 100 true).end_ ∧ (issued trying 2306 0 (2 :: zs 7)).mr.work.length < 16) := by
  repeat' with_reducible apply And.intro
  all_goals first | decide +kernel | (intros; rfl) | (intro _ _ h; cases h) | exact ⟨_, List.Mem.head _, rfl⟩

set_option maxRecDepth 20000 in
/-- The hypotheses of `Obligations.FirmwareIsStagedAndActivated` are met, part 2 of 2. -/
theorem witness_FirmwareIsStagedAndActivated_2 :
    (Ready (fresh 2306 0 (zs 8)) 5 0 2306 (lenIs 8) ∧ (fresh 2306 0 (zs 8)).fw.restart = none ∧ fieldAt ((fresh 2306 0 (zs 8)).reqOf 0).payload 1 1 ≤ 1 ∧ fieldAt ((fresh 2306 0 (zs 8)).reqOf 0).payload 2 6 = 0 ∧ fieldAt ((fresh 2306 0 (zs 8)).reqOf 0).payload 0 1 ≤ 1 ∧ ((fresh 2306 0 (zs 8)).fw.slotFault ((fresh 2306 0 (zs 8)).fw.slot (fresh 2306 0 (zs 8)).fw.other) ≠ 0 ∨ (fresh 2306 0 (zs 8)).fw.trial.isSome = true))
    ∧ (Ready (issued twoSlots 2306 0 (1 :: 1 :: zs 6)) 5 0 2306 (lenIs 8) ∧ (issued twoSlots 2306 0 (1 :: 1 :: zs 6)).fw.restart = none ∧ fieldAt ((issued twoSlots 2306 0 (1 :: 1 :: zs 6)).reqOf 0).payload 1 1 ≤ 1 ∧ fieldAt ((issued twoSlots 2306 0 (1 :: 1 :: zs 6)).reqOf 0).payload 2 6 = 0 ∧ fieldAt ((issued twoSlots 2306 0 (1 :: 1 :: zs 6)).reqOf 0).payload 0 1 ≤ 1 ∧ (issued twoSlots 2306 0 (1 :: 1 :: zs 6)).fw.slotFault ((issued twoSlots 2306 0 (1 :: 1 :: zs 6)).fw.slot (issued twoSlots 2306 0 (1 :: 1 :: zs 6)).fw.other) = 0 ∧ (issued twoSlots 2306 0 (1 :: 1 :: zs 6)).fw.trial = none ∧ (issued twoSlots 2306 0 (1 :: 1 :: zs 6)).othersBusy 0 = false ∧ (issued twoSlots 2306 0 (1 :: 1 :: zs 6)).mr.work = [] ∧ (issued twoSlots 2306 0 (1 :: 1 :: zs 6)).ck.relock = none)
    ∧ (lit.fw.restart = none)
    ∧ ((restarting false).fw.restart = some (Restart.mk 0 7 0 1 0 false) ∧ (Restart.mk 0 7 0 1 0 false).began = false ∧ (restarting false).fw.serving = false ∧ (restarting false).fw.slotFault ((restarting false).fw.slot (Restart.mk 0 7 0 1 0 false).slot) = 0 ∧ (restarting false).fw.haltReq = false)
    ∧ ((restarting true).fw.restart = some (Restart.mk 0 7 0 1 0 false) ∧ (Restart.mk 0 7 0 1 0 false).began = false ∧ (restarting true).fw.serving = false ∧ (restarting true).fw.slotFault ((restarting true).fw.slot (Restart.mk 0 7 0 1 0 false).slot) = 0 ∧ (restarting true).fw.haltReq = true)
    ∧ ((restarting false).fw.restart = some (Restart.mk 0 7 0 1 0 false) ∧ (Restart.mk 0 7 0 1 0 false).began = false ∧ (restarting false).fw.serving = false ∧ (restarting false).fw.slotFault ((restarting false).fw.slot (restarting false).fw.running) = 0 ∧ (restarting false).fw.haltReq = false)
    ∧ (returning.fw.restart = some (Restart.mk 0 0 0 0 1 false) ∧ (Restart.mk 0 0 0 0 1 false).began = false ∧ returning.fw.serving = false ∧ returning.fw.slotFault (returning.fw.slot returning.fw.running) = 0 ∧ returning.fw.haltReq = false)
    ∧ (lit.fw.trial = none)
    ∧ (trying.fw.trial = some (Trial.mk 100 true) ∧ max trying.clk 99 < (Trial.mk 100 true).end_)
    ∧ (trying.fw.trial = some (Trial.mk 100 true) ∧ (Trial.mk 100 true).end_ ≤ max trying.clk 100 ∧ trying.fw.halted = false ∧ trying.fw.serving = true)
    ∧ (Ready (fresh 2307 0 []) 5 0 2307 (lenIs 0)) := by
  repeat' with_reducible apply And.intro
  all_goals first | decide +kernel | (intros; rfl) | (intro _ _ h; cases h) | exact ⟨_, List.Mem.head _, rfl⟩

set_option maxRecDepth 20000 in
/-- The hypotheses of `Obligations.IdentityOwnershipAndDebug` are met, part 1 of 3. -/
theorem witness_IdentityOwnershipAndDebug_1 :
    (Ready (fresh 1793 0 (2 :: zs 23)) 5 0 1793 (lenIs 24) ∧ (1 < fieldAt ((fresh 1793 0 (2 :: zs 23)).reqOf 0).payload 0 1 ∨ allZero (sliceAt ((fresh 1793 0 (2 :: zs 23)).reqOf 0).payload 1 7) = false))
    ∧ (Ready (fresh 1793 0 (zs 24)) 5 0 1793 (lenIs 24) ∧ fieldAt ((fresh 1793 0 (zs 24)).reqOf 0).payload 0 1 = 0 ∧ allZero (List.drop 1 ((fresh 1793 0 (zs 24)).reqOf 0).payload) = true ∧ ((fresh 1793 0 (zs 24)).reqOf 0).payload.length = 24)
    ∧ (Ready (fresh 1793 0 (1 :: zs 7 ++ bulkRefTo 3309)) 5 0 1793 (lenIs 24) ∧ fieldAt ((fresh 1793 0 (1 :: zs 7 ++ bulkRefTo 3309)).reqOf 0).payload 0 1 = 1 ∧ allZero (sliceAt ((fresh 1793 0 (1 :: zs 7 ++ bulkRefTo 3309)).reqOf 0).payload 1 7) = true ∧ bulkOk ((fresh 1793 0 (1 :: zs 7 ++ bulkRefTo 3309)).reqOf 0).payload 8 = true ∧ 3309 ≤ (bulkRef ((fresh 1793 0 (1 :: zs 7 ++ bulkRefTo 3309)).reqOf 0).payload 8).snd.fst)
    ∧ (Ready (fresh 1794 0 (zs 32 ++ bulkRefTo 4012)) 5 0 1794 (lenIs 48) ∧ (bulkOk ((fresh 1794 0 (zs 32 ++ bulkRefTo 4012)).reqOf 0).payload 32 = false ∨ (bulkRef ((fresh 1794 0 (zs 32 ++ bulkRefTo 4012)).reqOf 0).payload 32).snd.fst < 4013))
    ∧ (Ready (fresh 1794 0 (zs 32 ++ bulkRefTo 4013)) 5 0 1794 (lenIs 48) ∧ bulkOk ((fresh 1794 0 (zs 32 ++ bulkRefTo 4013)).reqOf 0).payload 32 = true ∧ 4013 ≤ (bulkRef ((fresh 1794 0 (zs 32 ++ bulkRefTo 4013)).reqOf 0).payload 32).snd.fst)
    ∧ (Ready (fresh 1795 0 (3 :: zs 23)) 5 0 1795 (lenIs 24) ∧ 2 < fieldAt ((fresh 1795 0 (3 :: zs 23)).reqOf 0).payload 0 1)
    ∧ (Ready (fresh 1795 0 (zs 24)) 5 0 1795 (lenIs 24) ∧ fieldAt ((fresh 1795 0 (zs 24)).reqOf 0).payload 0 1 = 0 ∧ allZero (sliceAt ((fresh 1795 0 (zs 24)).reqOf 0).payload 1 7) = true ∧ allZero (sliceAt ((fresh 1795 0 (zs 24)).reqOf 0).payload 8 16) = true)
    ∧ (Ready (fresh 1795 0 (1 :: zs 7 ++ bulkRefTo 3369)) 5 0 1795 (lenIs 24) ∧ fieldAt ((fresh 1795 0 (1 :: zs 7 ++ bulkRefTo 3369)).reqOf 0).payload 0 1 = 1 ∧ allZero (sliceAt ((fresh 1795 0 (1 :: zs 7 ++ bulkRefTo 3369)).reqOf 0).payload 1 7) = true ∧ bulkOk ((fresh 1795 0 (1 :: zs 7 ++ bulkRefTo 3369)).reqOf 0).payload 8 = true ∧ (bulkRef ((fresh 1795 0 (1 :: zs 7 ++ bulkRefTo 3369)).reqOf 0).payload 8).snd.fst = 3369 ∧ (fresh 1795 0 (1 :: zs 7 ++ bulkRefTo 3369)).fw.chal = none) := by
  repeat' with_reducible apply And.intro
  all_goals first | decide +kernel | (intros; rfl) | (intro _ _ h; cases h) | exact ⟨_, List.Mem.head _, rfl⟩

set_option maxRecDepth 20000 in
/-- The hypotheses of `Obligations.IdentityOwnershipAndDebug` are met, part 2 of 3. -/
theorem witness_IdentityOwnershipAndDebug_2 :
    (Ready (issued debugOn 1795 0 (1 :: zs 7 ++ bulkRefTo 3369)) 179999999999 0 1795 (lenIs 24) ∧ fieldAt ((issued debugOn 1795 0 (1 :: zs 7 ++ bulkRefTo 3369)).reqOf 0).payload 0 1 = 1 ∧ allZero (sliceAt ((issued debugOn 1795 0 (1 :: zs 7 ++ bulkRefTo 3369)).reqOf 0).payload 1 7) = true ∧ bulkOk ((issued debugOn 1795 0 (1 :: zs 7 ++ bulkRefTo 3369)).reqOf 0).payload 8 = true ∧ (bulkRef ((issued debugOn 1795 0 (1 :: zs 7 ++ bulkRefTo 3369)).reqOf 0).payload 8).snd.fst = 3369 ∧ (issued debugOn 1795 0 (1 :: zs 7 ++ bulkRefTo 3369)).fw.chal = some (zs 32, 0) ∧ max (issued debugOn 1795 0 (1 :: zs 7 ++ bulkRefTo 3369)).clk 179999999999 < 0 + 180000000000 ∧ (issued debugOn 1795 0 (1 :: zs 7 ++ bulkRefTo 3369)).fw.ownState = 1 ∧ (issued debugOn 1795 0 (1 :: zs 7 ++ bulkRefTo 3369)).mkey 4353 ≠ 0 ∧ (issued debugOn 1795 0 (1 :: zs 7 ++ bulkRefTo 3369)).fw.unlocked = false)
    ∧ (Ready (fresh 1795 0 (2 :: zs 23)) 5 0 1795 (lenIs 24) ∧ fieldAt ((fresh 1795 0 (2 :: zs 23)).reqOf 0).payload 0 1 = 2 ∧ allZero (sliceAt ((fresh 1795 0 (2 :: zs 23)).reqOf 0).payload 1 7) = true ∧ allZero (sliceAt ((fresh 1795 0 (2 :: zs 23)).reqOf 0).payload 8 16) = true ∧ (fresh 1795 0 (2 :: zs 23)).fw.unlocked = false)
    ∧ (Ready (issued unlocked 1795 0 (2 :: zs 23)) 5 0 1795 (lenIs 24) ∧ fieldAt ((issued unlocked 1795 0 (2 :: zs 23)).reqOf 0).payload 0 1 = 2 ∧ allZero (sliceAt ((issued unlocked 1795 0 (2 :: zs 23)).reqOf 0).payload 1 7) = true ∧ allZero (sliceAt ((issued unlocked 1795 0 (2 :: zs 23)).reqOf 0).payload 8 16) = true ∧ (issued unlocked 1795 0 (2 :: zs 23)).fw.unlocked = true)
    ∧ (challenged.fw.chal = some (zs 32, 0) ∧ max challenged.clk 179999999999 < 0 + 180000000000)
    ∧ (challenged.fw.chal = some (zs 32, 0) ∧ 0 + 180000000000 ≤ max challenged.clk 180000000000)
    ∧ (Ready (fresh 1796 0 (bulkRefTo 5260)) 5 0 1796 (lenIs 16) ∧ (¬(bulkOk ((fresh 1796 0 (bulkRefTo 5260)).reqOf 0).payload 0 = true ∧ (bulkRef ((fresh 1796 0 (bulkRefTo 5260)).reqOf 0).payload 0).snd.fst = 5261)))
    ∧ (Ready (issued noOwnerSlot 1796 0 (bulkRefTo 5261)) 5 0 1796 (lenIs 16) ∧ bulkOk ((issued noOwnerSlot 1796 0 (bulkRefTo 5261)).reqOf 0).payload 0 = true ∧ (bulkRef ((issued noOwnerSlot 1796 0 (bulkRefTo 5261)).reqOf 0).payload 0).snd.fst = 5261 ∧ (issued noOwnerSlot 1796 0 (bulkRefTo 5261)).working 2305 = false ∧ (issued noOwnerSlot 1796 0 (bulkRefTo 5261)).working 1796 = false ∧ (issued noOwnerSlot 1796 0 (bulkRefTo 5261)).mr.work.length < 16 ∧ (issued noOwnerSlot 1796 0 (bulkRefTo 5261)).fw.ownSlots = 0)
    ∧ (Ready (fresh 1796 0 (bulkRefTo 5261)) 5 0 1796 (lenIs 16) ∧ bulkOk ((fresh 1796 0 (bulkRefTo 5261)).reqOf 0).payload 0 = true ∧ (bulkRef ((fresh 1796 0 (bulkRefTo 5261)).reqOf 0).payload 0).snd.fst = 5261 ∧ (fresh 1796 0 (bulkRefTo 5261)).working 2305 = false ∧ (fresh 1796 0 (bulkRefTo 5261)).working 1796 = false ∧ (fresh 1796 0 (bulkRefTo 5261)).mr.work.length < 16 ∧ (fresh 1796 0 (bulkRefTo 5261)).fw.ownSlots ≠ 0)
    ∧ (lit.fw.enrol = none)
    ∧ (enrolling.fw.enrol = some [1]) := by
  repeat' with_reducible apply And.intro
  all_goals first | decide +kernel | (intros; rfl) | (intro _ _ h; cases h) | exact ⟨_, List.Mem.head _, rfl⟩

set_option maxRecDepth 20000 in
/-- The hypotheses of `Obligations.IdentityOwnershipAndDebug` are met, part 3 of 3. -/
theorem witness_IdentityOwnershipAndDebug_3 :
    (unlocked.fw.unlocked = true ∧ unlocked.fw.halted = false ∧ unlocked.fw.serving = true)
    ∧ (unlocked.fw.unlocked = true ∧ unlocked.fw.halted = false)
    ∧ (haltedCore.fw.unlocked = true ∧ haltedCore.fw.halted = true ∧ haltedCore.fw.serving = true ∧ haltedCore.fw.restart = none)
    ∧ (haltedCore.fw.unlocked = true ∧ haltedCore.fw.halted = true)
    ∧ (unlocked.fw.unlocked = true ∧ 268435456 ≤ (270532607#32).toNat ∧ (270532607#32).toNat < 270532608)
    ∧ (unlocked.fw.unlocked = true ∧ 1614807040 ≤ (1614807040#32).toNat)
    ∧ (unlocked.fw.unlocked = true ∧ unlocked.fw.serving = true ∧ unlocked.fw.halted = false ∧ unlocked.fw.bps[7].fst ≠ 0)
    ∧ (unlocked.fw.unlocked = true ∧ unlocked.fw.bps[6].fst = 0)
    ∧ (haltedCore.fw.hcause < 8 ∧ haltedCore.fw.bpHit < 8)
    ∧ (lit.fw.unlocked = false) := by
  repeat' with_reducible apply And.intro
  all_goals first | decide +kernel | (intros; rfl) | (intro _ _ h; cases h) | exact ⟨_, List.Mem.head _, rfl⟩

/-- A pulse of the trigger function of AUX_IO0 to AUX_IO3 and TRIG_OUT is due at tick 8. -/
def pulseDue : State := lit.modPins (fun p => { p with duePulses := [(8, 0x0040)] })

/-- A pulse on pin 4 until tick 50. -/
def pulsing : State := lit.modPins (fun p => { p with pulse := p.pulse.set 4 (some 50) })


set_option maxRecDepth 20000 in
/-- The hypotheses of `Obligations.OutputPulsesStartAndEnd` are met. -/
theorem witness_OutputPulsesStartAndEnd :
    ((pulseDue.reach 7).playMarks 0 (max pulseDue.clk 7) = [] ∧ (pulseDue.reach 7).playMarks 1 (max pulseDue.clk 7) = [] ∧ (∀ (e : Nat × Nat), e ∈ pulseDue.pins.duePulses → max pulseDue.clk 7 < e.fst))
    ∧ ((pulseDue.reach 8).playMarks 0 (max pulseDue.clk 8) = [] ∧ (pulseDue.reach 8).playMarks 1 (max pulseDue.clk 8) = [] ∧ pulseDue.pins.duePulses = [(8, 64)] ∧ 8 ≤ max pulseDue.clk 8 ∧ (∀ (e : Nat × Nat), e ∈ [] → max pulseDue.clk 8 < e.fst))
    ∧ (lit.pins.pulse[4] = none)
    ∧ (pulsing.pins.pulse[4] = some 50 ∧ max pulsing.clk 49 < 50)
    ∧ (pulsing.pins.pulse[4] = some 50 ∧ 50 ≤ max pulsing.clk 50) := by
  repeat' with_reducible apply And.intro
  all_goals first | decide +kernel | (intros; rfl) | (intro _ _ h; cases h) | exact ⟨_, List.Mem.head _, rfl⟩

/-! Values worked out in the spec's examples. -/

/-- A command with TIMEOUT 2,000 rung in at tick 9,000,300,000 expires at 9,006,300,000 (02, worked example). -/
theorem test_expiry_tick : ({ (State.reset.reqOf 3) with timeout := 2000, door := 9000300000, abort := none } : Req).expiry = some 9006300000 := by
  decide +kernel

/-- Seven offset codes in 1,000 µs: a step every 107,142 DSP cycles; two gain codes: every 375,000 (05, worked example). -/
theorem test_ramp_intervals :
    ((lit.rampTo (.ofs 1 32) 7 3750000000).rampOf (.ofs 1 32)).map (·.ivl) = some 428568
    ∧ ((lit.rampTo (.gain 1 32) (-2) 3750000000).rampOf (.gain 1 32)).map (·.ivl) = some 1500000 := by decide +kernel

/-- An error of +2,345.6 ps steps by 8 ticks and leaves −321.1 ps (06, worked example). -/
theorem test_step_ticks : stepTicks 2345600 = 8 ∧ 2345600 - divHalfEven (8 * 1000000) 3 = (-321067 : Int) := by decide

/-- An edge 1.450 ticks past 45,000,000,000 is nearest to that multiple of 4, and half-way goes down (07, worked example). -/
theorem test_nearest_boundary : nearest4 (45000000001 * 16777216 + 7549747) = 45000000000
    ∧ nearest4 (2 * 16777216) = 0 ∧ nearest4 (2 * 16777216 + 1) = 4 := by decide

/-- A stop 0.4 ps after the start is coincident; a stop 100 ticks later gives 33,333,333 fs (07, worked example; R191). -/
theorem test_intervals :
    intervalOf (6000003000 * 16777216 + 10066330, ⟨6000003000, 10066330, 0⟩, true)
      (6000003000 * 16777216 + 10086463, ⟨6000003000, 10086463, 0⟩, true) = (0, 1)
    ∧ intervalOf (100 * 16777216, ⟨100, 0, 0⟩, true) (0, ⟨0, 0, 0⟩, true) = (-33333333, 2) := by decide

/-- A count of 2^32 ticks between the edges' ticks overflows, though the instants lie less than 2^32 ticks apart (07 R191). -/
theorem test_overflow :
    (intervalOf (15099494, ⟨0, 15099494, 0⟩, true) (4294967296 * 16777216 + 1677721, ⟨4294967296, 1677721, 0⟩, true)).2 = 4
    ∧ (intervalOf (15099494, ⟨0, 15099494, 0⟩, true) (4294967295 * 16777216 + 1677721, ⟨4294967295, 1677721, 0⟩, true)).2 = 0 := by decide

/-- 916 ticks of 32 values wait in staging at the boundary 916 ticks after the first value: 29,312 (12, worked example). -/
theorem test_staged : (measured0.setClk 916).stagedValues 0 0 81919 = 29312 := by decide +kernel

/-- A curve's corrected sample is its entry at code + 2,048, on the 16-bit scale (05 R127). -/
theorem test_curve : WorkSet.factory.correctCode 0 (-2048) = -32768 ∧ WorkSet.factory.correctCode 0 2047 = 32752 := by decide +kernel

/-- The bisection of the example ends at entry 213 with either interpolation (08, worked example). -/
theorem test_bisection :
    interpAt ⟨smp (-7250), smp (-1250), smp 4750, smp 10750⟩ false true 0 = 213
    ∧ interpAt ⟨smp (-7250), smp (-1250), smp 4750, smp 10750⟩ true true 0 = 213 := by decide +kernel

/-- HIRES with ratio 64, order 5 and compensation delays by 1,117.5 sample periods (10, worked example). -/
theorem test_decimation_delay : delayHalves 3 64 5 1 = 2235 := by decide

/-- A mean of 6,985,300 with 10.000 V on range 3 and z = 1,200 gives GAIN 16,792,606 (18, worked example). -/
theorem test_monitor_gain : gainOf 10000000 3 6985300 1 1200 = some 16792606 := by decide

/-- A window that ends in the rising of a step crosses level 0 upward, and not downward (08 R203). -/
theorem test_crossing : { (State.reset.ch[0].det) with aR := true, aF := true }.crossings ⟨0, 100, 32⟩ (-5) 5 = [⟨false, true, 0⟩] := by decide +kernel

/-- Whether an outcome is a next state. -/
def ran (o : Out) : Bool := match o with
  | .next _ => true
  | _ => false

/-! Single steps. -/

/-- An idle block stays as it is. -/
theorem test_idle : step State.reset = .next State.reset := rfl

/-- A doorbell write posts the command of its mailbox (02 R38). -/
theorem test_doorbell : (out (exec (.mbGo 9 3 1) lit)).mr.mbs[3].state = .posted := by decide +kernel

/-- ECHO at the front of the queue ends DONE with status OK, and the queue keeps its rest (02 R68). -/
theorem test_step_echo :
    (out (step { fresh 8 0 [1, 2, 3] with pending := [.echo 5 0, .statusReport 6] })).pending = [.statusReport 6]
    ∧ ((out (step { fresh 8 0 [1, 2, 3] with pending := [.echo 5 0] })).mr.mbs[0].state = .done) := by decide +kernel

/-- SHAKE256 of the empty string begins 46 B9 DD 2B (FIPS 202, the standard that 19 R463 names). -/
theorem test_shake256 : shake256 [] 4 = [0x46, 0xB9, 0xDD, 0x2B] := by decide +kernel

set_option maxRecDepth 20000 in
/-- The hypotheses of `Obligations.CommandsKeepQueueAndTime` are met, in a state with a queue. -/
theorem witness_CommandsKeepQueueAndTime :
    ran (exec (.statusReport 6) { lit with pending := [.dissolve 7] }) = true := by decide +kernel

/-- A state with commands waiting, whose invariant is kept. -/
def waiting : State := { State.reset with pending := [.statusReport 6] }

set_option maxRecDepth 20000 in
/-- The hypotheses of `Obligations.StepsKeepInvariant` are met. -/
theorem witness_StepsKeepInvariant : Inv waiting ∧ ran (step waiting) = true := by
  refine ⟨⟨?_, ?_, ?_, ?_, ?_, ?_, ?_, ?_, ?_, ?_, ?_⟩, ?_⟩
  all_goals first | decide +kernel | (intro e h; cases h)

end Sys2Proof.Tests
end

section
/-!
SUPPORT. Fields of bytes: what a field reads that was written little-endian, and where DETAIL stands in a response (02 R41).
-/

namespace Sys2Proof.Machine

/-- Reading little-endian bytes gives the number written, as far as the bytes hold it. -/
theorem ofLe_leBytes (n v : Nat) : ofLe (leBytes n v) = v % 256 ^ n := by
  induction n generalizing v with
  | zero => simp [leBytes, ofLe, Nat.mod_one]
  | succ n ih =>
    rw [leBytes, ofLe, byteOf, BitVec.toNat_ofNat, ih, show 256 ^ (n + 1) = 256 * 256 ^ n from Nat.pow_succ']
    exact Nat.mod_mul.symm

/-- The bytes at an offset are those that stand between as many leading bytes and the rest. -/
theorem sliceAt_append_middle (pre mid post : List Byte) : sliceAt (pre ++ mid ++ post) pre.length mid.length = mid := by
  refine List.ext_getElem (by simp [sliceAt]) fun i _ hi => ?_
  simp [sliceAt, byteAt, List.getElem?_append_right, List.getElem?_append_left hi, List.getElem?_eq_getElem hi]

/-- The field that `leBytes` wrote behind some bytes. -/
theorem fieldAt_append_leBytes (pre post : List Byte) (n v : Nat) :
    fieldAt (pre ++ leBytes n v ++ post) pre.length n = v % 256 ^ n := by
  have h := sliceAt_append_middle pre (leBytes n v) post
  rw [leBytes_length] at h
  calc fieldAt (pre ++ leBytes n v ++ post) pre.length n
      = ofLe (sliceAt (pre ++ leBytes n v ++ post) pre.length n) := rfl
    _ = v % 256 ^ n := by rw [h, ofLe_leBytes]

/-- DETAIL of a response header (02 R41). -/
theorem fieldAt_responseHeader_detail (r : Req) (a : Reply) (rf d e : Nat) (p : List Byte) :
    fieldAt (responseHeader r a rf d e ++ p) 12 4 = a.detail % 256 ^ 4 := by
  have h := fieldAt_append_leBytes
    (leBytes 2 r.code ++ leBytes 2 r.tag ++ leBytes 2 a.status ++ leBytes 2 a.payload.length
      ++ leBytes 2 (a.key.getD 0) ++ leBytes 1 rf ++ [0#8])
    (leBytes 8 d ++ leBytes 4 e ++ List.replicate 4 0#8 ++ p) 4 a.detail
  simpa [responseHeader] using h

/-- EVSEQ of a response: the number of its own CMD_DONE where LOG asks for one, else what the answer names (02 R41). -/
def State.evseqOf (s : State) (r : Req) (a : Reply) : Nat :=
  if bitAt r.flags 1 && a.status != stAccepted && a.status != eTimeout then s.nextSeq else a.evseq

/-- The response area after a response (02 R38 step 4). -/
theorem respond_rsp (s : State) (r : Req) (a : Reply) (c : Nat) :
    ((s.respond r a c).mbox r.mb).rsp
      = responseHeader r a ((s.respond r a c).mbox r.mb).rflags (s.ticksAt c) (s.evseqOf r a) ++ a.payload := by
  unfold State.respond
  dsimp only
  split
  · simp [State.mbox, State.modMb, State.evseqOf, (sendParts_frame _ _ _ _).2]
  · split
    · rw [(msix_quiet _ _).mbox]
      simp [State.mbox, State.modMb, State.evseqOf]
    · simp [State.mbox, State.modMb, State.evseqOf]

/-- DETAIL of the answer that a mailbox holds after a response. -/
theorem respond_detail (s : State) (r : Req) (a : Reply) (c : Nat) :
    fieldAt ((s.respond r a c).mbox r.mb).rsp 12 4 = a.detail % 256 ^ 4 := by
  rw [respond_rsp, fieldAt_responseHeader_detail]

end Sys2Proof.Machine
end
section
/-!
SUPPORT. What stands around an ARM (09 R229): bringing units, domains and memory in line with the channels leaves the mailboxes, the
recorded and the taken values, and all of a channel but its detector, its stage and its over-quota mark.
-/

namespace Sys2Proof.Machine

/-- A channel without what follows it: detector, decimation stage, over-quota mark. -/
def Chan.core (h : Chan) : Chan := { h with det := Det.reset, dec := Dec.reset, overQuota := false }

@[simp] theorem modCh_same (s : State) (c : Fin 4) (g : Chan → Chan) : (s.modCh c g).ch[c] = g s.ch[c] := by
  simp [State.modCh]

theorem modCh_other (s : State) {c d : Fin 4} (g : Chan → Chan) (h : d ≠ c) : (s.modCh c g).ch[d] = s.ch[d] := by
  have h' : c.val ≠ d.val := fun e => h (Fin.ext e.symm)
  simp [State.modCh, h']

/-- Time, mailboxes, the command under execution, recorded values and RUN stand. -/
structure KeepsCommands (s u : State) : Prop where
  clk : u.clk = s.clk
  mbs : u.mr.mbs = s.mr.mbs
  exec : u.mr.exec = s.mr.exec
  recorded : u.mr.recorded = s.mr.recorded
  run : s.pw.st = 0 → u.pw.st = 0

theorem KeepsCommands.refl (s : State) : KeepsCommands s s := ⟨rfl, rfl, rfl, rfl, id⟩

theorem KeepsCommands.trans {s u v : State} (h : KeepsCommands s u) (k : KeepsCommands u v) : KeepsCommands s v :=
  ⟨k.clk.trans h.clk, k.mbs.trans h.mbs, k.exec.trans h.exec, k.recorded.trans h.recorded, k.run ∘ h.run⟩

/-- Commands stand, with them the values taken at ARM and every channel but for what follows it. -/
structure KeepsChannels (s u : State) : Prop extends KeepsCommands s u where
  armed : u.mr.armed = s.mr.armed
  core : ∀ c : Fin 4, u.ch[c].core = s.ch[c].core

namespace KeepsChannels

theorem refl (s : State) : KeepsChannels s s := ⟨.refl s, rfl, fun _ => rfl⟩

theorem trans {s u v : State} (h : KeepsChannels s u) (k : KeepsChannels u v) : KeepsChannels s v :=
  ⟨h.toKeepsCommands.trans k.toKeepsCommands, k.armed.trans h.armed, fun c => (k.core c).trans (h.core c)⟩

/-- A step that writes neither commands, nor power, nor channels. -/
theorem of_eq {s u : State} (hclk : u.clk = s.clk) (hmr : u.mr = s.mr) (hpw : u.pw.st = s.pw.st) (hch : u.ch = s.ch) :
    KeepsChannels s u :=
  ⟨⟨hclk, by rw [hmr], by rw [hmr], by rw [hmr], fun h => by rw [hpw, h]⟩, by rw [hmr], fun c => by rw [hch]⟩

theorem setEvq (s : State) (v : List Ev) : KeepsChannels s (s.setEvq v) := of_eq rfl rfl rfl rfl

theorem foldl {α : Type} {f : State → α → State} (h : ∀ s x, KeepsChannels s (f s x)) (l : List α) (s : State) :
    KeepsChannels s (l.foldl f s) := by
  induction l generalizing s with
  | nil => exact refl s
  | cons x xs ih => exact (h s x).trans (ih _)

theorem modCh (s : State) (d : Fin 4) {g : Chan → Chan} (hg : ∀ h : Chan, (g h).core = h.core) : KeepsChannels s (s.modCh d g) := by
  refine ⟨⟨rfl, rfl, rfl, rfl, id⟩, rfl, fun c => ?_⟩
  by_cases h : c = d
  · subst h
    rw [modCh_same, hg]
  · rw [modCh_other s g h]

end KeepsChannels

/-! The event log in RUN (02 R63, R64). -/

theorem msix_pw (s : State) (v : Nat) : (s.msix v).pw = s.pw := by
  unfold State.msix
  split <;> rfl

theorem notify_pw (s : State) (sev : Nat) : (s.notify sev).pw = s.pw := by
  unfold State.notify
  split
  · rfl
  · split
    · exact msix_pw s _
    · split
      · exact msix_pw s _
      · rfl

/-- In RUN nothing has to wake the core. -/
theorem coreWake_run {s : State} (h : s.pw.st = 0) : s.coreWake = s := by simp [State.coreWake, h]

theorem logEntry_run {s : State} (e : Event) (h : s.pw.st = 0) : (s.logEntry e).pw.st = 0 := by
  unfold State.logEntry
  split
  · have hn : (State.notify (s.record { e with seq := s.log.next }) e.sev).pw = s.pw := notify_pw _ _
    rwa [coreWake_run (by rwa [hn]), hn]
  · exact h

theorem logEv_keepsChannels (s : State) (code sev scope : Nat) (data : List Byte) : KeepsChannels s (s.logEv code sev scope data) := by
  have q := logEv_quiet s code sev scope data
  obtain ⟨-, -, -, -, -, hch, -⟩ := q.units
  exact ⟨⟨q.clk, by rw [q.mr], by rw [q.mr], by rw [q.mr], logEntry_run _⟩, by rw [q.mr], fun c => by rw [hch]⟩

/-! Pages (12 R291). -/

theorem quotaCheck_keepsChannels (s : State) (c : Fin 4) : KeepsChannels s (s.quotaCheck c) := by
  unfold State.quotaCheck
  split
  · refine KeepsChannels.trans (KeepsChannels.modCh s c ?_) (logEv_keepsChannels _ _ _ _ _)
    exact fun _ => rfl
  · exact .refl s

theorem sweep_keepsChannels (s : State) (c : Fin 4) : KeepsChannels s (s.sweep c) := by
  unfold State.sweep
  dsimp only
  refine KeepsChannels.trans ?_ (quotaCheck_keepsChannels _ c)
  exact .of_eq rfl rfl rfl rfl

/-! Units (08 R200; 10 R267). -/

theorem startDec_keepsChannels (s : State) (d : Fin 4) : KeepsChannels s (s.startDec d) := by
  unfold State.startDec State.gridDec
  refine KeepsChannels.trans (KeepsChannels.modCh s d ?_) (KeepsChannels.modCh _ d ?_)
  · exact fun _ => rfl
  · exact fun _ => rfl

theorem stopDet_keepsChannels (s : State) (d : Fin 4) (e : Nat) : KeepsChannels s (s.stopDet d e) := by
  unfold State.stopDet
  refine KeepsChannels.trans (KeepsChannels.modCh s d ?_) (.setEvq _ _)
  exact fun _ => rfl

theorem syncUnit_keepsChannels (s : State) (q e : Nat) (d : Fin 4) : KeepsChannels s (s.syncUnit q e d) := by
  have hdet : KeepsChannels s (if s.wantDet d && !s.ch[d].det.running then s.startDet d
      else if !s.wantDet d && s.ch[d].det.running then s.stopDet d e else s) := by
    split
    · exact KeepsChannels.modCh s d fun _ => rfl
    · split
      · exact stopDet_keepsChannels s d e
      · exact .refl s
  unfold State.syncUnit
  dsimp only
  split
  · exact hdet.trans (startDec_keepsChannels _ d)
  · split
    · exact hdet.trans (KeepsChannels.modCh _ d fun _ => rfl)
    · exact hdet

theorem syncUnits_keepsChannels (s : State) (q e : Nat) : KeepsChannels s (s.syncUnits q e) :=
  .foldl (fun a d => syncUnit_keepsChannels a q e d) _ s

/-! Domains (17 R422) and the monitor that follows its own (18 R456). -/

/-- With no command under execution there is none to finish. -/
theorem finish_idle {s : State} (h : s.mr.exec = none) (a : Reply) (c : Nat) : s.finish a c = s := by simp [State.finish, h]

theorem endWork_keepsChannels (s : State) (code status detail : Nat) : KeepsChannels s (s.endWork code status detail) := by
  unfold State.endWork State.endWorkIf
  split
  · exact .refl s
  · next w _ =>
    have hwork : KeepsChannels s (s.modMr fun m => { m with work := m.work.eraseP fun w => w.code == code }) :=
      ⟨⟨rfl, rfl, rfl, rfl, id⟩, rfl, fun _ => rfl⟩
    exact (hwork.trans (logEv_keepsChannels _ _ _ _ _)).trans (.of_eq rfl rfl rfl rfl)

theorem startTableAt_keepsChannels (s : State) (b : Nat) (on : Bool) : KeepsChannels s (s.startTableAt b on) := by
  unfold State.startTableAt
  split
  · exact .refl s
  · dsimp only
    refine KeepsChannels.trans ?_ (logEv_keepsChannels _ _ _ _ _)
    split <;> exact .of_eq rfl rfl rfl rfl

theorem monCommit_keepsChannels {s : State} (h : s.mr.exec = none) (b : Nat) (on : Bool) : KeepsChannels s (s.monCommit b on) := by
  have hk := startTableAt_keepsChannels s b on
  unfold State.monCommit
  split
  · rwa [finish_idle (hk.exec.trans h)]
  · exact .refl s

/-- A waiting table's command is the one under execution; without one no table is late. -/
theorem dropLateTable_idle {s : State} (h : s.mr.exec = none) (b : Nat) : s.dropLateTable b = s := by
  simp [State.dropLateTable, State.execLate, h]

theorem monOff_keepsChannels {s : State} (h : s.mr.exec = none) : KeepsChannels s s.monOff := by
  have ended (b : Bool) (u : State) (code : Nat) : KeepsChannels u (if b then u.endWork code eHw 0 else u) := by
    split
    · exact endWork_keepsChannels u _ _ _
    · exact .refl u
  have hmon : KeepsChannels s (s.modMon fun m => { m with conv := .stopped, resume := .stopped, inject := none, syscal := none }) :=
    .of_eq rfl rfl rfl rfl
  have hended := (hmon.trans (ended (s.working 0x0603) _ 0x0603)).trans (ended (s.working 0x0604) _ 0x0604)
  have hx := hended.exec.trans h
  unfold State.monOff
  dsimp only
  rw [dropLateTable_idle hx]
  exact hended.trans (monCommit_keepsChannels hx _ _)

theorem monDomain_keepsChannels {s : State} (h : s.mr.exec = none) (was on : Bool) : KeepsChannels s (s.monDomain was on) := by
  unfold State.monDomain
  split
  · exact .refl s
  · split
    · exact .of_eq rfl rfl rfl rfl
    · exact monOff_keepsChannels h

theorem feDomain_keepsChannels (s : State) (i : Fin 4) (was on : Bool) : KeepsChannels s (s.feDomain i was on) := by
  unfold State.feDomain
  split
  · exact .refl s
  · exact .of_eq rfl rfl rfl rfl

theorem syncRotation_keepsChannels (s : State) (k : Fin 4) : KeepsChannels s (s.syncRotation k) := by
  unfold State.syncRotation
  dsimp only
  split
  · split
    · exact .refl s
    · exact .of_eq rfl rfl rfl rfl
  · split
    · exact .refl s
    · exact .of_eq rfl rfl rfl rfl

theorem setDomains_keepsChannels {s : State} (h : s.mr.exec = none) (m : BitVec 196) : KeepsChannels s (s.setDomains m) := by
  unfold State.setDomains
  dsimp only
  refine KeepsChannels.trans ?_ (.foldl syncRotation_keepsChannels _ _)
  refine KeepsChannels.trans ?_ (.foldl (fun a i => feDomain_keepsChannels a i _ _) _ _)
  refine KeepsChannels.trans ?_ (monDomain_keepsChannels ?_ _ _)
  · exact .of_eq rfl rfl rfl rfl
  · exact h

theorem syncDomains_keepsChannels {s : State} (h : s.mr.exec = none) : KeepsChannels s s.syncDomains := setDomains_keepsChannels h _

end Sys2Proof.Machine
end
section
/-!
O25: ARM (09 R229) brings keys into force and makes the selected channels ARMING, or names the check that fails.
-/

namespace Sys2Proof.Machine

theorem selChans_nodup (sel : Nat) : (selChans sel).Nodup := List.Pairwise.filter _ (by decide : allCh.Nodup)

/-- A command that may be taken and is not RESYNC finds none under execution (02 R47, R48). -/
theorem exec_none_of_mayTake {s : State} {m : Fin 17} {code : Nat} (h : s.mayTake m code = true) (hc : code ≠ 0x0001) :
    s.mr.exec = none := by
  simp only [State.mayTake, Bool.and_eq_true, Bool.or_eq_true, beq_iff_eq, Option.isNone_iff_eq_none] at h
  obtain ⟨⟨-, hx⟩, -⟩ := h
  exact hx.resolve_left hc

/-- What an entry into ARMING leaves in channel `c` (09 R229 step 1). -/
structure Rearmed (s u : State) (c : Fin 4) : Prop where
  st : u.ch[c].st = .arming
  armed : u.mr.armed[c] = s.mr.recorded
  table : u.ch[c].table = if s.ch[c].pendTable.isSome then s.ch[c].pendTable else s.ch[c].table
  trigs : u.ch[c].trigs = 0
  segs : u.ch[c].segs = 0
  refused : u.ch[c].refused = 0
  auto : u.ch[c].auto = 0
  marks : u.ch[c].marks = []
  markNext : u.ch[c].markNext = 0

/-- What stands in a channel that is not touched: its taken values, and all but what follows it. -/
structure Untouched (s u : State) (c : Fin 4) : Prop where
  armed : u.mr.armed[c] = s.mr.armed[c]
  core : u.ch[c].core = s.ch[c].core

theorem KeepsChannels.untouched {s u : State} (h : KeepsChannels s u) (c : Fin 4) : Untouched s u c := ⟨by rw [h.armed], h.core c⟩

theorem Untouched.trans {s u v : State} {c : Fin 4} (h : Untouched s u c) (k : Untouched u v c) : Untouched s v c :=
  ⟨k.armed.trans h.armed, k.core.trans h.core⟩

/-- A channel armed once stays armed while it is not touched. -/
theorem Rearmed.untouched {s u v : State} {c : Fin 4} (h : Rearmed s u c) (k : Untouched u v c) : Rearmed s v c where
  st := (congrArg Chan.st k.core).trans h.st
  armed := k.armed.trans h.armed
  table := (congrArg Chan.table k.core).trans h.table
  trigs := (congrArg Chan.trigs k.core).trans h.trigs
  segs := (congrArg Chan.segs k.core).trans h.segs
  refused := (congrArg Chan.refused k.core).trans h.refused
  auto := (congrArg Chan.auto k.core).trans h.auto
  marks := (congrArg Chan.marks k.core).trans h.marks
  markNext := (congrArg Chan.markNext k.core).trans h.markNext

/-- A channel that was not touched is armed later as from the beginning. -/
theorem Untouched.rearmed {s u v : State} {c : Fin 4} (h : Untouched s u c) (hr : u.mr.recorded = s.mr.recorded) (k : Rearmed u v c) :
    Rearmed s v c where
  st := k.st
  armed := k.armed.trans hr
  table := by
    have ht : u.ch[c].table = s.ch[c].table :=
      show u.ch[c].core.table = s.ch[c].core.table from congrArg Chan.table h.core
    have hp : u.ch[c].pendTable = s.ch[c].pendTable :=
      show u.ch[c].core.pendTable = s.ch[c].core.pendTable from congrArg Chan.pendTable h.core
    rw [k.table, ht, hp]
  trigs := k.trigs
  segs := k.segs
  refused := k.refused
  auto := k.auto
  marks := k.marks
  markNext := k.markNext

/-- What step 1 of ARM writes for channel `c`, before calibration and pages follow (09 R229). -/
def State.enterArming (s : State) (follow : Bool) (c : Fin 4) : State :=
  ((s.takeKeys c).openAcq c (s.nextAcq c)).modCh c (fun h => (h.hideUntil s.boundary s.clk).rearm follow (s.nextAcq c)
    (s.ticks % 2 ^ 23) (if s.ch[c].dec.running then s.dcRun c (s.lastMade c) else 0))

theorem enterArming_commands (s : State) (follow : Bool) (c : Fin 4) : KeepsCommands s (s.enterArming follow c) :=
  ⟨rfl, rfl, rfl, rfl, id⟩

theorem enterArming_rearmed (s : State) (follow : Bool) (c : Fin 4) : Rearmed s (s.enterArming follow c) c := by
  have hch : (s.enterArming follow c).ch[c] = _ := modCh_same _ _ _
  constructor
  case armed => simp [State.enterArming, State.openAcq, State.takeKeys]
  all_goals rw [hch]; rfl

theorem enterArming_untouched (s : State) (follow : Bool) {c d : Fin 4} (h : d ≠ c) : Untouched s (s.enterArming follow c) d where
  armed := by
    have h' : c.val ≠ d.val := fun e => h (Fin.ext e.symm)
    simp [State.enterArming, State.openAcq, State.takeKeys, h']
  core := by rw [State.enterArming, modCh_other _ _ h]; rfl

theorem armChan_keepsChannels (s : State) (follow : Bool) (c : Fin 4) :
    KeepsChannels (s.enterArming follow c) (s.armChan follow c) := by
  show KeepsChannels _ (((s.enterArming follow c).armCal c).sweep c)
  refine KeepsChannels.trans ?_ (sweep_keepsChannels _ c)
  exact .of_eq rfl rfl rfl rfl

theorem armChan_commands (s : State) (follow : Bool) (c : Fin 4) : KeepsCommands s (s.armChan follow c) :=
  (enterArming_commands s follow c).trans (armChan_keepsChannels s follow c).toKeepsCommands

theorem armChan_rearmed (s : State) (follow : Bool) (c : Fin 4) : Rearmed s (s.armChan follow c) c :=
  (enterArming_rearmed s follow c).untouched ((armChan_keepsChannels s follow c).untouched c)

theorem armChan_untouched (s : State) (follow : Bool) {c d : Fin 4} (h : d ≠ c) : Untouched s (s.armChan follow c) d :=
  (enterArming_untouched s follow h).trans ((armChan_keepsChannels s follow c).untouched d)

/-- Step 1 for a list of different channels arms each of them and touches no other. -/
theorem foldl_armChan (follow : Bool) (sel : List (Fin 4)) (s : State) (hnd : sel.Nodup) :
    KeepsCommands s (sel.foldl (fun a c => a.armChan follow c) s)
      ∧ (∀ c ∈ sel, Rearmed s (sel.foldl (fun a c => a.armChan follow c) s) c)
      ∧ ∀ c ∉ sel, Untouched s (sel.foldl (fun a c => a.armChan follow c) s) c := by
  induction sel generalizing s with
  | nil => exact ⟨.refl s, by simp, fun c _ => (KeepsChannels.refl s).untouched c⟩
  | cons x xs ih =>
    obtain ⟨hx, hxs⟩ := List.nodup_cons.1 hnd
    obtain ⟨hcmd, hin, hout⟩ := ih (s.armChan follow x) hxs
    have hfirst := armChan_commands s follow x
    refine ⟨hfirst.trans hcmd, fun c hc => ?_, fun c hc => ?_⟩
    · by_cases h : c = x
      · subst h
        exact (armChan_rearmed s follow c).untouched (hout c hx)
      · exact (armChan_untouched s follow h).rearmed hfirst.recorded (hin c ((List.mem_cons.1 hc).resolve_left h))
    · obtain ⟨hne, hc⟩ := not_or.1 (fun h => hc (List.mem_cons.2 h))
      exact (armChan_untouched s follow hne).trans (hout c hc)

/-- In RUN neither SLEEP is left nor memory woken. -/
theorem leaveSleep_run {s : State} (h : s.pw.st = 0) (src dst : Nat) : s.leaveSleep src dst = s := by
  simp [State.leaveSleep, State.leaveSleepBy, h]

theorem memRequest_run {s : State} (h : s.pw.st = 0) : s.memRequest = s := by simp [State.memRequest, h]

/-- Steps 1 and 2 of ARM in RUN, with no command under execution. -/
theorem armBegin_rearms {s : State} (hrun : s.pw.st = 0) (hx : s.mr.exec = none) (follow : Bool) {sel : List (Fin 4)}
    (hnd : sel.Nodup) : KeepsCommands s (s.armBegin follow sel) ∧ ∀ c ∈ sel, Rearmed s (s.armBegin follow sel) c := by
  obtain ⟨hcmd, hin, -⟩ := foldl_armChan follow sel s hnd
  have hafter : KeepsChannels (sel.foldl (fun a c => a.armChan follow c) s) (s.armBegin follow sel) := by
    unfold State.armBegin
    rw [leaveSleep_run (hcmd.run hrun), memRequest_run (hcmd.run hrun)]
    have hunits := syncUnits_keepsChannels (sel.foldl (fun a c => a.armChan follow c) s)
    exact (hunits _ _).trans (syncDomains_keepsChannels ((hunits _ _).exec.trans (hcmd.exec.trans hx)))
  exact ⟨hcmd.trans hafter.toKeepsCommands, fun c hc => (hin c hc).untouched (hafter.untouched c)⟩

/-- ARM waits, outside an array, when its checks pass. -/
theorem armBody_wait {r : Req} {s : State} (ha : s.armsArray = false) (hf : s.armFail (selChans r.chsel) = none) :
    armBody r s = (.wait (.arm r.chsel), s.armBegin false (selChans r.chsel)) := by simp [armBody, ha, hf]

theorem armBody_fail {r : Req} {s : State} {st : Nat} {c : Fin 4} (hf : s.armFail (selChans r.chsel) = some (st, c)) :
    armBody r s = (.reply ⟨st, [], none, 2 ^ c.val, 0⟩, s) := by simp [armBody, hf]

/-- ARM whose checks pass waits with its channels in ARMING. -/
theorem exec_arm_waits {s : State} {t : Nat} {m : Fin 17} (hr : Ready s t m 0x0101 (lenIs 0)) (hrun : s.pw.st = 0)
    (ha : (s.reach t).armsArray = false) (hf : (s.reach t).armFail (selChans (s.reqOf m).chsel) = none) :
    Leads (exec (.arm t m) s) (fun u => (u.mbox m).state = .busy ∧ (∃ k, u.mr.exec = some ⟨m, k, .arm (s.reqOf m).chsel⟩)
      ∧ u.mr.recorded = s.mr.recorded ∧ ∀ c ∈ selChans (s.reqOf m).chsel, Rearmed (s.reach t) u c) := by
  have hbegin := armBegin_rearms (s := s.reach t) hrun (exec_none_of_mayTake hr.1 (by decide)) false
    (selChans_nodup (s.reqOf m).chsel)
  obtain ⟨hcmd, hin⟩ := hbegin
  have hexp : (s.reqOf m).expired ((s.reach t).armBegin false (selChans (s.reqOf m).chsel)).clk = false := by
    rw [hcmd.clk]
    obtain ⟨-, -, -, -, he⟩ := hr
    exact he
  refine ⟨_, congrArg go (command_wait hr (armBody_wait ha hf) hexp), ?_, ⟨_, rfl⟩, hcmd.recorded, fun c hc => (hin c hc).untouched ⟨rfl, rfl⟩⟩
  simp [State.mbox, State.modMb]

/-- ARM whose checks fail names the status and the channel. -/
theorem exec_arm_fails {s : State} {t : Nat} {m : Fin 17} (hr : Ready s t m 0x0101 (lenIs 0)) {st : Nat} {c : Fin 4}
    (hf : (s.reach t).armFail (selChans (s.reqOf m).chsel) = some (st, c)) :
    Leads (exec (.arm t m) s) (fun u => Replied u m st [] ∧ fieldAt (u.mbox m).rsp 12 4 = 2 ^ c.val
      ∧ SameUnits s u ∧ SameSettings s u) := by
  have hb := armBody_fail hf
  obtain ⟨-, -, -, -, he⟩ := id hr
  have hlt : 2 ^ c.val < 256 ^ 4 := Nat.lt_of_lt_of_le (Nat.pow_lt_pow_right (by decide) c.isLt) (by decide)
  have hd := respond_detail (s.reach t) (s.reqOf m) ⟨st, [], none, 2 ^ c.val, 0⟩ (s.reach t).clk
  rw [Nat.mod_eq_of_lt hlt] at hd
  refine ⟨_, congrArg go (command_reply hr hb he), respond_replied _ _ _ _, hd, ?_, ?_⟩
  · exact respond_units (s.reach t) _ _ _
  · exact respond_settings (s.reach t) _ _ _

/-- Settles O25: step 1 writes only the selected channels, each once, and what follows in RUN leaves what it wrote. -/
theorem armEntersArming : Obligations.ArmEntersArming := by
  intro s t m hr
  refine ⟨fun hrun ha hf => ?_, fun st c hf => exec_arm_fails hr hf⟩
  obtain ⟨u, hu, hbusy, hexec, hrec, hin⟩ := exec_arm_waits hr hrun ha hf
  refine ⟨u, hu, hbusy, hexec, hrec, fun c hc => ?_⟩
  obtain ⟨hst, harmed, htable, htrigs, hsegs, hrefused, hauto, hmarks, hnext⟩ := hin c hc
  exact ⟨hst, harmed, htable, htrigs, hsegs, hrefused, hauto, hmarks, hnext⟩

end Sys2Proof.Machine
end
section
/-!
O11: what a 32-bit access of BAR0 does (00 R6; 14 R347 to R351): one whole register is written or read.
-/

namespace Sys2Proof.Machine

/-- Bytes written read as written. -/
theorem memReadBytes_writeBytes {m : Memory} (h : Memory.wf m = true) (a : Nat) (bs : List Byte) :
    memReadBytes (memWriteBytes m a bs) a bs.length = bs := by
  refine List.ext_getElem (by simp [memReadBytes]) fun i _ hi => ?_
  simpa [memReadBytes] using memRead_writeBytes_inside bs a i h hi

/-! Writes. -/

/-- A write of 32 bits at a register covers all of it. -/
theorem maskOf_word (a : Nat) : maskOf a 4 a = BitVec.allOnes 32 := by
  simp [maskOf, List.range_succ]

theorem wrOf_word (a v : Nat) : wrOf a 4 v a = ⟨a, BitVec.allOnes 32, BitVec.ofNat 32 v⟩ := by
  simp only [wrOf, maskOf_word, Nat.le_refl, if_true, Nat.sub_self, Nat.pow_zero, Nat.div_one, BitVec.and_allOnes]

/-- A 32-bit access covers one register. -/
theorem barWords_word {off : Nat} (h : off % 4 = 0) : barWords off 4 = [off] := by
  unfold barWords
  rw [if_pos (by omega), Nat.div_mul_cancel (Nat.dvd_of_mod_eq_zero h)]

theorem accessOk_word {off : Nat} (h : off % 4 = 0) (hr : off + 4 ≤ 0x400000) : accessOk off 4 = true := by
  simp only [accessOk, decide_eq_true_eq]
  omega

/-- A host write of 32 bits while the link is up. -/
theorem barWrite_word {s : State} (hup : s.hl.up = true) {off : Nat} (h : off % 4 = 0) (hr : off + 4 ≤ 0x400000) (v : Nat) :
    s.barWrite off 4 v = s.writeWord ⟨off, BitVec.allOnes 32, BitVec.ofNat 32 v⟩ := by
  simp [State.barWrite, hup, accessOk_word h hr, barWords_word h, wrOf_word]

theorem exec_registerWrite_word {s : State} (t : Nat) (hup : s.hl.up = true) {off : Nat} (h : off % 4 = 0)
    (hr : off + 4 ≤ 0x400000) (v : BitVec 64) :
    exec (.registerWrite t off 4 v) s
      = .next ((s.reach t).writeWord ⟨off, BitVec.allOnes 32, BitVec.ofNat 32 v.toNat⟩) :=
  congrArg go (barWrite_word (s := s.reach t) hup h hr v.toNat)

/-- In RUN an access finds the core awake. -/
theorem touchCore_run {s : State} (h : s.pw.st = 0) : s.touchCore = s := by
  simp [State.touchCore, coreWake_run h, h]

/-- A write within the block of mailbox `mb` in RUN. -/
theorem writeWord_mailbox {s : State} (hrun : s.pw.st = 0) (mb : Fin 16) {o : Nat} (ho : o < 0x1000) (mask val : BitVec 32) :
    s.writeWord ⟨0x100000 + 0x1000 * mb.val + o, mask, val⟩
      = s.mailboxWrite (mb.castLE (by decide)) o ⟨0x100000 + 0x1000 * mb.val + o, mask, val⟩ := by
  have hm := mb.isLt
  have hidx : (0x100000 + 0x1000 * mb.val + o - 0x100000) / 0x1000 = mb.val := by omega
  have hoff : (0x100000 + 0x1000 * mb.val + o) % 0x1000 = o := by omega
  have hmb : hostMb mb.val = mb.castLE (by decide) := by simp [hostMb]
  unfold State.writeWord
  dsimp only
  rw [if_neg (by omega), if_pos (by omega), touchCore_run hrun, hidx, hoff, hmb]

/-- A whole word written into a command area. -/
theorem into_word (w : Wr) (hw : w.mask = BitVec.allOnes 32) (o : Nat) (m : Memory) :
    w.into o m = memWriteBytes m o (leBytes 4 w.val.toNat) := by
  simp [Wr.into, hw, List.range_succ, leBytes, memWriteBytes, Nat.div_div_eq_div_mul]

/-- A mailbox that takes a command stores the word written into its command area, and nothing else (02 R37). -/
theorem mailboxWrite_open {s : State} {m : Fin 17} (h : (s.mbox m).state.open_ = true) (hwf : Memory.wf (s.mbox m).cmd = true)
    {o : Nat} (ho : o < 0x420) {w : Wr} (hw : w.mask = BitVec.allOnes 32) :
    memReadBytes ((s.mailboxWrite m o w).mbox m).cmd o 4 = leBytes 4 w.val.toNat
      ∧ (∀ a, (a < o ∨ o + 4 ≤ a) → memRead ((s.mailboxWrite m o w).mbox m).cmd a = memRead (s.mbox m).cmd a)
      ∧ ((s.mailboxWrite m o w).mbox m).state = (s.mbox m).state
      ∧ (∀ j, j ≠ m → (s.mailboxWrite m o w).mbox j = s.mbox j)
      ∧ SameUnits s (s.mailboxWrite m o w) ∧ SameSettings s (s.mailboxWrite m o w) := by
  have hs : s.mailboxWrite m o w = s.modMb m (fun b => { b with cmd := memWriteBytes b.cmd o (leBytes 4 w.val.toNat) }) := by
    simp [State.mailboxWrite, ho, h, into_word w hw]
  rw [hs, modMb_same]
  exact ⟨memReadBytes_writeBytes hwf o (leBytes 4 w.val.toNat), fun a ha => memRead_writeBytes_outside _ o a hwf (by simpa using ha),
    rfl, fun j hj => modMb_other s m j _ hj, modMb_units s m _, modMb_settings s m _⟩

/-- One that does not sets OVERRUN and stores nothing (02 R37). -/
theorem mailboxWrite_closed {s : State} {m : Fin 17} (h : (s.mbox m).state.open_ = false) {o : Nat} (ho : o < 0x420) (w : Wr) :
    (s.mailboxWrite m o w).mbox m = { s.mbox m with overrun := some s.clk }
      ∧ (∀ j, j ≠ m → (s.mailboxWrite m o w).mbox j = s.mbox j)
      ∧ SameUnits s (s.mailboxWrite m o w) ∧ SameSettings s (s.mailboxWrite m o w) := by
  have hs : s.mailboxWrite m o w = s.modMb m (fun b => { b with overrun := some s.clk }) := by
    simp [State.mailboxWrite, State.overrun, ho, h]
  rw [hs]
  exact ⟨modMb_same s m _, fun j hj => modMb_other s m j _ hj, modMb_units s m _, modMb_settings s m _⟩

/-- A 32-bit write into the command area of a host mailbox in RUN. -/
theorem exec_registerWrite_command {s : State} (t : Nat) (hup : s.hl.up = true) (hrun : s.pw.st = 0) (mb : Fin 16) {o : Nat}
    (ho : o < 0x420) (h4 : o % 4 = 0) (v : BitVec 64) :
    exec (.registerWrite t (0x100000 + 0x1000 * mb.val + o) 4 v) s
      = .next ((s.reach t).mailboxWrite (mb.castLE (by decide)) o
          ⟨0x100000 + 0x1000 * mb.val + o, BitVec.allOnes 32, BitVec.ofNat 32 v.toNat⟩) := by
  have hm := mb.isLt
  rw [exec_registerWrite_word t hup (by omega) (by omega), writeWord_mailbox (s := s.reach t) hrun mb (by omega)]

/-- Writing LINK_RESET of HL_STATUS (14 R350). -/
theorem writeWord_linkReset (s : State) (w : Wr) (h : w.addr = 0x8) :
    s.writeWord w = s.modHl (fun x => { x with linkReset := x.linkReset.wipe (w.sets 16) s.clk }) := by
  simp [State.writeWord, State.flagWrite, h]

/-- Writing 1 clears LINK_RESET but where it is set at that very tick (00 R7). -/
theorem linkReset_cleared {s : State} (t : Nat) (hup : s.hl.up = true) :
    Leads (exec (.registerWrite t 0x8 4 0x10000#64) s) (fun u =>
      u.hl.linkReset = (if s.hl.linkReset = some (max s.clk t) then s.hl.linkReset else none)
      ∧ SameUnits s u ∧ SameSettings s u) := by
  refine ⟨_, exec_registerWrite_word t hup (by decide) (by decide) _, ?_⟩
  rw [writeWord_linkReset _ _ rfl]
  refine ⟨?_, .refl s, .refl s⟩
  have hset : Wr.sets ⟨0x8, BitVec.allOnes 32, BitVec.ofNat 32 (0x10000#64).toNat⟩ 16 = true := by decide
  rw [State.modHl_hl, hset, State.reach_hl, State.reach_clk, W1c.wipe, Bool.true_and]
  by_cases h : s.hl.linkReset = some (max s.clk t) <;> simp [h]

/-! Reads. -/

/-- A host read of 32 bits while the link is up. -/
theorem barRead_word {s : State} (hup : s.hl.up = true) {off : Nat} (h : off % 4 = 0) (hr : off + 4 ≤ 0x400000) :
    s.barRead off 4 = ((s.regRead off).1 % 2 ^ 32, (s.regRead off).2) := by
  have h4 : off / 4 * 4 = off := Nat.div_mul_cancel (Nat.dvd_of_mod_eq_zero h)
  simp [State.barRead, hup, accessOk_word h hr, barWords_word h, h4, h]

theorem exec_rsRead_word {s : State} (t : Nat) (hup : s.hl.up = true) {off : Nat} (h : off % 4 = 0) (hr : off + 4 ≤ 0x400000) :
    exec (.rsRead t off 4) s
      = .next (((s.reach t).regRead off).2.setReadData (BitVec.ofNat 64 (((s.reach t).regRead off).1 % 2 ^ 32))) :=
  congrArg (fun r : Nat × State => go (r.2.setReadData (BitVec.ofNat 64 r.1))) (barRead_word (s := s.reach t) hup h hr)

/-- An RS register answers the low word of its group and fills the shadow (14 R351). -/
theorem regRead_group {s : State} {a v : Nat} (h : s.groupValue a = some v) : s.regRead a = (v % 2 ^ 32, s.setShadow a v) := by
  simp [State.regRead, h]

/-- A later register of a group answers from the shadow (14 R351). -/
theorem regRead_shadow {s : State} {a g k : Nat} (h : s.groupValue a = none) (hs : s.shadowOf a = some (g, k)) :
    s.regRead a = (s.shadow g / 2 ^ (32 * k) % 2 ^ 32, s) := by simp [State.regRead, h, hs]

/-- A register outside the groups and the mailboxes. -/
theorem regRead_plain {s : State} {a : Nat} (h : s.groupValue a = none) (hs : s.shadowOf a = none) (hm : mailboxAddr a = false) :
    s.regRead a = (s.plainReg a, s) := by simp [State.regRead, h, hs, hm]

theorem setShadow_same (s : State) (a v : Nat) : (s.setShadow a v).shadow a = v := by simp [State.shadow, State.setShadow]

theorem setReadData_shadow (s : State) (v : BitVec 64) (a : Nat) : (s.setReadData v).shadow a = s.shadow a := rfl

/-! The time group (07 R195): TM_TICKS_LO, TM_TICKS_HI, TM_FRACQ. -/

theorem groupValue_time (s : State) : s.groupValue 0x100 = some s.now.wide := rfl

theorem groupValue_ticksHi (s : State) : s.groupValue 0x104 = none := rfl

theorem groupValue_fracq (s : State) : s.groupValue 0x108 = none := rfl

theorem groupValue_id (s : State) : s.groupValue 0x0 = none := rfl

theorem shadowOf_ticksHi (s : State) : s.shadowOf 0x104 = some (0x100, 1) := rfl

theorem shadowOf_fracq (s : State) : s.shadowOf 0x108 = some (0x100, 2) := rfl

/-- The low word of a stamp is that of its ticks. -/
theorem wide_low (x : Stamp) : x.wide % 2 ^ 32 = x.ticks % 2 ^ 32 := by
  unfold Stamp.wide
  omega

theorem rsRead_time {s : State} (t : Nat) (hup : s.hl.up = true) :
    Leads (exec (.rsRead t 0x100 4) s) (fun u => u.readData = BitVec.ofNat 64 ((s.reach t).now.ticks % 2 ^ 32)
      ∧ u.shadow 0x100 = (s.reach t).now.wide ∧ SameUnits s u ∧ SameSettings s u) := by
  refine ⟨_, exec_rsRead_word t hup (by decide) (by decide), ?_⟩
  rw [regRead_group (groupValue_time _)]
  refine ⟨?_, ?_, .refl s, .refl s⟩
  · rw [State.setReadData_readData, Nat.mod_mod, wide_low]
  · rw [setReadData_shadow, setShadow_same]

/-- A later register of the time group reads word `k` of the shadow. -/
theorem rsRead_timeShadow {s : State} (t : Nat) (hup : s.hl.up = true) {a k : Nat} (h : a % 4 = 0) (hr : a + 4 ≤ 0x400000)
    (hg : (s.reach t).groupValue a = none) (hs : (s.reach t).shadowOf a = some (0x100, k)) :
    Leads (exec (.rsRead t a 4) s) (fun u => u.readData = BitVec.ofNat 64 (s.shadow 0x100 / 2 ^ (32 * k) % 2 ^ 32) ∧ u.hl = s.hl
      ∧ SameUnits s u) := by
  refine ⟨_, exec_rsRead_word t hup h hr, ?_⟩
  rw [regRead_shadow hg hs]
  refine ⟨?_, rfl, .refl s⟩
  rw [State.setReadData_readData, Nat.mod_mod]
  rfl

theorem rsRead_id {s : State} (t : Nat) (hup : s.hl.up = true) :
    Leads (exec (.rsRead t 0x0 4) s) (fun u => u.readData = 0x53840100#64 ∧ u.hl = s.hl ∧ SameUnits s u) := by
  refine ⟨_, exec_rsRead_word t hup (by decide) (by decide), ?_⟩
  rw [regRead_plain (groupValue_id _) rfl rfl]
  exact ⟨rfl, rfl, .refl s⟩

/-- Settles O11: a 32-bit access covers one register, and each register's rule follows. -/
theorem registerAccess : Obligations.RegisterAccess := by
  refine ⟨fun s t mb o v hup hrun ho h4 => ?_, fun s t => linkReset_cleared t, fun s t => rsRead_time t, fun s t hup => ?_,
    fun s t hup => ?_, fun s t => rsRead_id t⟩
  · intro m hwf
    refine ⟨fun hst => ⟨_, exec_registerWrite_command t hup hrun mb ho h4 v, ?_⟩,
      fun hst => ⟨_, exec_registerWrite_command t hup hrun mb ho h4 v, ?_⟩⟩
    · have hopen : (s.mbox m).state.open_ = true := by rcases hst with h | h <;> rw [h] <;> rfl
      exact mailboxWrite_open (s := s.reach t) hopen hwf ho rfl
    · have hclosed : (s.mbox m).state.open_ = false := by rcases hst with h | h | h <;> rw [h] <;> rfl
      exact mailboxWrite_closed (s := s.reach t) hclosed ho _
  · exact rsRead_timeShadow t hup (by decide) (by decide) (groupValue_ticksHi _) (shadowOf_ticksHi _)
  · exact rsRead_timeShadow t hup (by decide) (by decide) (groupValue_fracq _) (shadowOf_fracq _)

end Sys2Proof.Machine
end

section
/-!
O58: no command touches the queue or turns the slice clock back. One lemma for each operation says that a state it gives is still
`Later` than any state before; its proof follows the operation's own branches. Those of the operations that presenting events is made of
say more: they keep any property that is `Closed`, as O31 needs.
-/

namespace Sys2Proof.Machine

/-- The same commands wait in `u` as in `s`, and its slice clock shows no earlier tick. -/
structure QueueTime (s u : State) : Prop where
  pending : u.pending = s.pending
  clk : s.clk ≤ u.clk

/-- What most operations of acquisition leave as it is. -/
def State.watched (s : State) : List Instr × Nat × List Ev × Nat × Option Exec :=
  (s.pending, s.clk, s.evq, s.ar.role, s.mr.exec)

/-- A property of states that acquisition keeps: it looks at nothing but the queue, the clock, the events that wait, the array role and the
command under execution, it may lose events of a detector that stops, and it asks for no more than queue and clock where a command is
under execution or the module belongs to an array. -/
structure Closed (P : State → Prop) : Prop where
  same {u v : State} : P u → v.watched = u.watched → P v
  stopDet {u : State} {d : Fin 4} {e : Nat} : P u → P (u.stopDet d e)
  engaged {u v : State} : P u → u.mr.exec ≠ none ∨ u.ar.role ≠ 0 → QueueTime u v → P v

/-- A property that acquisition keeps, holding at `u`. -/
structure Stays (P : State → Prop) (u : State) : Prop where
  holds : P u
  closed : Closed P

theorem QueueTime.refl {s : State} : QueueTime s s := ⟨rfl, Nat.le_refl _⟩

theorem QueueTime.trans {s u v : State} (h : QueueTime s u) (k : QueueTime u v) : QueueTime s v :=
  ⟨k.pending.trans h.pending, Nat.le_trans h.clk k.clk⟩

/-- Queue and clock are kept whatever else happens. -/
theorem queueTime_closed {s : State} : Closed (QueueTime s) where
  same h hv := by
    simp only [State.watched, Prod.mk.injEq] at hv
    obtain ⟨hp, hc, -⟩ := hv
    exact h.trans ⟨hp, Nat.le_of_eq hc.symm⟩
  stopDet h := h.trans ⟨rfl, Nat.le_refl _⟩
  engaged h _ hv := h.trans hv

/-- `u` comes after `s`. -/
abbrev Later (s u : State) : Prop := Stays (QueueTime s) u

section
variable {P : State → Prop} {α β : Type} {s u v : State} {c : Prop}

theorem Stays.refl : Later s s := ⟨.refl, queueTime_closed⟩

/-- An update that leaves queue and clock. -/
theorem Stays.keep (h : Later s u) (hp : v.pending = u.pending) (hc : u.clk ≤ v.clk) : Later s v :=
  ⟨h.holds.trans ⟨hp, hc⟩, h.closed⟩

/-- An update of fields that no closed property looks at. -/
theorem Stays.same (h : Stays P u) (hv : v.watched = u.watched) : Stays P v := ⟨h.closed.same h.holds hv, h.closed⟩

/-- In an array, or with a command under execution, only queue and clock count. -/
theorem Stays.engaged (h : Stays P u) (hu : u.mr.exec ≠ none ∨ u.ar.role ≠ 0) (hv : Later u v) : Stays P v :=
  ⟨h.closed.engaged h.holds hu hv.holds, h.closed⟩

theorem Stays.fst {b : β} (h : Stays P u) : Stays P (u, b).1 := h

theorem Stays.snd {b : β} (h : Stays P u) : Stays P (b, u).2 := h

theorem Stays.ite {i : Decidable c} (hu : Stays P u) (hv : Stays P v) : Stays P (if c then u else v) := by
  split
  · exact hu
  · exact hv

theorem Stays.dite {i : Decidable c} {f : c → State} {g : ¬c → State} (hf : ∀ {k}, Stays P (f k))
    (hg : ∀ {k}, Stays P (g k)) :
    Stays P (if k : c then f k else g k) := by
  split
  · exact hf
  · exact hg

theorem Stays.ite_fst {i : Decidable c} {p q : State × β} (hp : Stays P p.1) (hq : Stays P q.1) :
    Stays P (if c then p else q).1 := by
  split
  · exact hp
  · exact hq

theorem Stays.ite_snd {i : Decidable c} {p q : β × State} (hp : Stays P p.2) (hq : Stays P q.2) :
    Stays P (if c then p else q).2 := by
  split
  · exact hp
  · exact hq

theorem Stays.elim {o : Option α} {f : α → State} (h : Stays P u) (hf : ∀ {x}, Stays P (f x)) : Stays P (o.elim u f) := by
  cases o with
  | none => exact h
  | some x => exact hf

theorem Stays.elim_snd {o : Option α} {p : β × State} {f : α → β × State} (h : Stays P p.2)
    (hf : ∀ {x}, Stays P (f x).2) :
    Stays P (o.elim p f).2 := by
  cases o with
  | none => exact h
  | some x => exact hf

theorem Stays.foldl {f : State → α → State} {l : List α} (hf : ∀ {v x}, Stays P v → Stays P (f v x)) (h : Stays P u) :
    Stays P (l.foldl f u) := by
  induction l generalizing u with
  | nil => exact h
  | cons x xs ih => exact ih (hf h)

theorem Stays.foldr {f : α → State → State} {l : List α} (hf : ∀ {x v}, Stays P v → Stays P (f x v)) (h : Stays P u) :
    Stays P (l.foldr f u) := by
  induction l with
  | nil => exact h
  | cons x xs ih => exact hf ih

theorem Stays.foldl_fst {f : State × β → α → State × β} {l : List α} {p : State × β}
    (hf : ∀ {v x}, Stays P v.1 → Stays P (f v x).1) (h : Stays P p.1) : Stays P (l.foldl f p).1 := by
  induction l generalizing p with
  | nil => exact h
  | cons x xs ih => exact ih (hf h)

theorem Stays.foldl_snd {f : β × State → α → β × State} {l : List α} {p : β × State}
    (hf : ∀ {v x}, Stays P v.2 → Stays P (f v x).2) (h : Stays P p.2) : Stays P (l.foldl f p).2 := by
  induction l generalizing p with
  | nil => exact h
  | cons x xs ih => exact ih (hf h)
end

section
variable {P : State → Prop} {s u : State}

/-! The setters. -/

theorem Stays.setFreeCtr {v} (h : Later s u) : Later s (u.setFreeCtr v) := .same h rfl
theorem Stays.modFreeCtr {g} (h : Later s u) : Later s (u.modFreeCtr g) := .setFreeCtr h
theorem Stays.setReadData {v} (h : Later s u) : Later s (u.setReadData v) := .same h rfl
theorem Stays.setMr {v} (h : Later s u) : Later s (u.setMr v) := .keep h rfl (Nat.le_refl _)
theorem Stays.modMr {g} (h : Later s u) : Later s (u.modMr g) := .setMr h
theorem Stays.setLog {v} (h : Stays P u) : Stays P (u.setLog v) := .same h rfl
theorem Stays.modLog {g} (h : Stays P u) : Stays P (u.modLog g) := .setLog h
theorem Stays.setFe {v} (h : Stays P u) : Stays P (u.setFe v) := .same h rfl
theorem Stays.modFe {i g} (h : Stays P u) : Stays P (u.modFe i g) := .setFe h
theorem Stays.setTw {v} (h : Stays P u) : Stays P (u.setTw v) := .same h rfl
theorem Stays.modTw {i g} (h : Stays P u) : Stays P (u.modTw i g) := .setTw h
theorem Stays.setCal {v} (h : Later s u) : Later s (u.setCal v) := .same h rfl
theorem Stays.modCal {g} (h : Later s u) : Later s (u.modCal g) := .setCal h
theorem Stays.setCk {v} (h : Later s u) : Later s (u.setCk v) := .same h rfl
theorem Stays.modCk {g} (h : Later s u) : Later s (u.modCk g) := .setCk h
theorem Stays.setTm {v} (h : Stays P u) : Stays P (u.setTm v) := .same h rfl
theorem Stays.modTm {g} (h : Stays P u) : Stays P (u.modTm g) := .setTm h
theorem Stays.setCh {v} (h : Stays P u) : Stays P (u.setCh v) := .same h rfl
theorem Stays.modCh {i g} (h : Stays P u) : Stays P (u.modCh i g) := .setCh h
theorem Stays.setEvq {v} (h : Later s u) : Later s (u.setEvq v) := .keep h rfl (Nat.le_refl _)
theorem Stays.setTr {v} (h : Stays P u) : Stays P (u.setTr v) := .same h rfl
theorem Stays.modTr {g} (h : Stays P u) : Stays P (u.modTr g) := .setTr h
theorem Stays.setMem {v} (h : Later s u) : Later s (u.setMem v) := .same h rfl
theorem Stays.modMem {g} (h : Later s u) : Later s (u.modMem g) := .setMem h
theorem Stays.setHl {v} (h : Stays P u) : Stays P (u.setHl v) := .same h rfl
theorem Stays.modHl {g} (h : Stays P u) : Stays P (u.modHl g) := .setHl h
theorem Stays.setHv {v} (h : Stays P u) : Stays P (u.setHv v) := .same h rfl
theorem Stays.modHv {g} (h : Stays P u) : Stays P (u.modHv g) := .setHv h
theorem Stays.setOut {v} (h : Later s u) : Later s (u.setOut v) := .same h rfl
theorem Stays.modOut {i g} (h : Later s u) : Later s (u.modOut i g) := .setOut h
theorem Stays.setAr {v} (h : Later s u) : Later s (u.setAr v) := .keep h rfl (Nat.le_refl _)
theorem Stays.modAr {g} (h : Later s u) : Later s (u.modAr g) := .setAr h
theorem Stays.setPw {v} (h : Stays P u) : Stays P (u.setPw v) := .same h rfl
theorem Stays.modPw {g} (h : Stays P u) : Stays P (u.modPw g) := .setPw h
theorem Stays.setMon {v} (h : Stays P u) : Stays P (u.setMon v) := .same h rfl
theorem Stays.modMon {g} (h : Stays P u) : Stays P (u.modMon g) := .setMon h
theorem Stays.setFw {v} (h : Later s u) : Later s (u.setFw v) := .same h rfl
theorem Stays.modFw {g} (h : Later s u) : Later s (u.modFw g) := .setFw h
theorem Stays.setPins {v} (h : Stays P u) : Stays P (u.setPins v) := .same h rfl
theorem Stays.modPins {g} (h : Stays P u) : Stays P (u.modPins g) := .setPins h

/-! Time, records and wake. -/

theorem Stays.reach {t} (h : Later s u) : Later s (u.reach t) := .keep h rfl (Nat.le_max_left _ _)
theorem Stays.setQualAt {b q} (h : Later s u) : Later s (u.setQualAt b q) := .ite h (.modTm h)
theorem Stays.shiftTime {b d} (h : Later s u) : Later s (u.shiftTime b d) := .modTm h
theorem Stays.free (h : Later s u) : Later s (u.free).2 := .snd (.setFreeCtr h)
theorem Stays.msix {v} (h : Stays P u) : Stays P (u.msix v) := .ite h (.modHl h)
theorem Stays.record {e} (h : Stays P u) : Stays P (u.record e) := .modLog h

theorem Stays.notify {sev} (h : Stays P u) : Stays P (u.notify sev) := by
  unfold State.notify
  split
  · exact h
  · split
    · exact .modLog (.msix h)
    · exact .ite (.modLog (.msix h)) (.modLog h)

theorem Stays.coreWake (h : Stays P u) : Stays P u.coreWake := .ite (.modPw h) (.ite (.modPw h) h)
theorem Stays.logEntry {e} (h : Stays P u) : Stays P (u.logEntry e) := .ite (.coreWake (.notify (.record h))) (.modLog h)
theorem Stays.logEv {code sev scope data} (h : Stays P u) : Stays P (u.logEv code sev scope data) := .logEntry h
theorem Stays.logEvAt {b code sev scope data} (h : Stays P u) : Stays P (u.logEvAt b code sev scope data) := .logEntry h
theorem Stays.flushEvents (h : Later s u) : Later s u.flushEvents := .foldr .logEntry (.modLog h)

/-! Messages between modules. -/

theorem Stays.sendOn {ps mtype addr args} (h : Later s u) : Later s (u.sendOn ps mtype addr args) := by
  unfold State.sendOn
  exact .same h rfl

theorem Stays.sendN {mtype addr args} (h : Later s u) : Later s (u.sendN mtype addr args) := .sendOn h

theorem Stays.sendParts {addr n bs} (h : Later s u) : Later s (u.sendParts addr n bs) := by
  induction n generalizing u bs with
  | zero => exact .sendN h
  | succ n ih =>
    unfold State.sendParts
    exact .ite (.sendN h) (ih (.sendN h))

/-! The mailbox. -/

theorem Stays.fails {st} (h : Later s u) : Later s (fails st u).2 := h
theorem Stays.failsKey {st key scope idx} (h : Later s u) : Later s (failsKey st key scope idx u).2 := h
theorem Stays.answers {bs} (h : Later s u) : Later s (answers bs u).2 := h
theorem Stays.accepted (h : Later s u) : Later s (accepted u).2 := h
theorem Stays.modMb {m g} (h : Later s u) : Later s (u.modMb m g) := .modMr h

theorem Stays.respond {r a commit} (h : Later s u) : Later s (u.respond r a commit) := by
  unfold State.respond
  extract_lets _ _ s1 _ s2 s3
  have h3 : Later s s3 := .modPw (.modMb (.ite (.logEv h) h))
  exact .ite (.sendParts h3) (.ite (.msix h3) h3)

theorem Stays.timeoutEnd {r e} (h : Later s u) : Later s (u.timeoutEnd r e) := by
  unfold State.timeoutEnd
  exact .respond (.logEv (.reach h))

theorem Stays.answer {r : Req} {lenOk : Req → Bool} {body : Body} (h : Later s u)
    (hb : ∀ {r : Req} {v : State}, Later s v → Later s (body r v).2) :
    Later s (u.answer r lenOk body).2 := by
  unfold State.answer
  split
  · exact .fails h
  · extract_lets
    split
    · split
      · exact .ite_snd h (.fails h)
      · exact .fails h
    · exact hb h

theorem Stays.conclude {r x} (h : Later s u) (hx : Later s x.2) : Later s (u.conclude r x) := by
  unfold State.conclude
  split
  · exact .timeoutEnd h
  · split
    · exact .respond hx
    · exact .modMr (.modMb hx)

theorem Stays.command {t : Nat} {m : Fin 17} {code : Nat} {lenOk : Req → Bool} {body : Body} (h : Later s u)
    (hb : ∀ {r : Req} {v : State}, Later s v → Later s (body r v).2) :
    Later s (u.command t m code lenOk body) :=
  .ite (.conclude (.reach h) (.answer (.reach h) hb)) (.reach h)

theorem Stays.finish_later {a commit} (h : Later s u) : Later s (u.finish a commit) := by
  unfold State.finish
  split
  · exact h
  · exact .ite (.modMr h) (.ite (.timeoutEnd (.modMr h)) (.respond (.modMr h)))

theorem Stays.finish {a commit} (h : Stays P u) : Stays P (u.finish a commit) := by
  by_cases hx : u.mr.exec = none
  · rwa [finish_idle hx]
  · exact .engaged h (.inl hx) (.finish_later .refl)

theorem Stays.addWork {r arg arg2} (h : Later s u) : Later s (u.addWork r arg arg2) := .modMr h

theorem Stays.endWorkIf {p status detail} (h : Stays P u) : Stays P (u.endWorkIf p status detail) := by
  unfold State.endWorkIf
  split
  · exact h
  · exact .modPw (.logEv (.same h rfl))

theorem Stays.endWork {code status detail} (h : Stays P u) : Stays P (u.endWork code status detail) := .endWorkIf h
theorem Stays.failsRead {r} (h : Later s u) : Later s (failsRead r u).2 := .ite_snd (.fails h) (.snd (.logEv h))
theorem Stays.overrun {m} (h : Later s u) : Later s (u.overrun m) := .modMb h

theorem Stays.post {m} (h : Later s u) : Later s (u.post m) := by
  unfold State.post
  exact .modMb h

/-! The monitor sequence. -/

theorem Stays.monBoundary {b} (h : Stays P u) : Stays P (u.monBoundary b) := .modMon h

theorem Stays.startTableAt {b on} (h : Stays P u) : Stays P (u.startTableAt b on) := by
  unfold State.startTableAt
  split
  · exact h
  · exact .logEv (.ite (.modMon h) (.modMon (.modMon h)))

theorem Stays.startTable {on} (h : Later s u) : Later s (u.startTable on) := .startTableAt h
theorem Stays.monCommit {b on} (h : Stays P u) : Stays P (u.monCommit b on) := .ite (.finish (.startTableAt h)) h
theorem Stays.dropLateTable {b} (h : Stays P u) : Stays P (u.dropLateTable b) := .ite (.finish (.modMon h)) h

theorem Stays.monOff (h : Stays P u) : Stays P u.monOff := by
  unfold State.monOff
  extract_lets s1 s2
  have h2 : Stays P s2 := .ite (.endWork (.modMon h)) (.modMon h)
  exact .monCommit (.dropLateTable (.ite (.endWork h2) h2))

theorem Stays.monOn (h : Stays P u) : Stays P u.monOn := .modMon (.monBoundary h)
theorem Stays.monDomain {was on} (h : Stays P u) : Stays P (u.monDomain was on) := .ite h (.ite (.monOn h) (.monOff h))

/-! Rotation. -/

theorem Stays.modSlice {k x g} (h : Later s u) : Later s (u.modSlice k x g) := .modTw h

theorem Stays.syncRotation {k} (h : Stays P u) : Stays P (u.syncRotation k) := by
  unfold State.syncRotation
  exact .ite (.ite h (.modTw h)) (.ite h (.modTw h))

theorem Stays.syncRotations (h : Stays P u) : Stays P u.syncRotations := .foldl .syncRotation h
theorem Stays.logLimit {k x trim} (h : Later s u) : Later s (u.logLimit k x trim) := .logEv h

theorem Stays.checkLimits {k x} (h : Later s u) : Later s (u.checkLimits k x) := by
  unfold State.checkLimits
  exact .foldl (fun h => .ite (.logLimit h) h) (.modSlice h)

theorem Stays.setElem {e v} (h : Later s u) : Later s (u.setElem e v) := by
  unfold State.setElem
  extract_lets
  split
  · exact .modSlice h
  · exact .modSlice h
  · exact .modSlice h
  · exact .modCal h
  · exact .modCal h
  · exact .modCal h
  · exact .modCal h

theorem Stays.follow {e was} (h : Later s u) : Later s (u.follow e was) := by
  unfold State.follow
  extract_lets
  split
  · exact .elim h (.modSlice h)
  · exact .elim h (.modSlice h)
  · exact .elim h (.modSlice h)
  · exact h

theorem Stays.checkMoved {e} (h : Later s u) : Later s (u.checkMoved e) := by
  unfold State.checkMoved
  extract_lets both
  have hboth (k x) : Later s (both k x) := by
    dsimp only [both]
    split
    · exact .ite (.checkLimits (.checkLimits h)) (.checkLimits h)
    · exact .checkLimits h
  split
  · exact hboth _ _
  · exact hboth _ _
  · exact hboth _ _
  · exact h

theorem Stays.stopRamp {e} (h : Later s u) : Later s (u.stopRamp e) := .modCal h
theorem Stays.jumpTo {e v} (h : Later s u) : Later s (u.jumpTo e v) := .follow (.setElem (.stopRamp h))

theorem Stays.rampStepBy {e b} (h : Later s u) : Later s (u.rampStepBy e b) := by
  unfold State.rampStepBy
  split
  · exact h
  · exact .ite h (.checkMoved (.follow (.modCal (.setElem h))))

theorem Stays.rampStep {e} (h : Later s u) : Later s (u.rampStep e) := .rampStepBy h

theorem Stays.rampTo {e target b} (h : Later s u) : Later s (u.rampTo e target b) := by
  unfold State.rampTo
  split
  · exact h
  · extract_lets s0 _ s1
    have h1 : Later s s1 := .stopRamp (.rampStepBy h)
    exact .ite h1 (.modCal h1)

theorem Stays.endRamp {e} (h : Later s u) : Later s (u.endRamp e) := by
  unfold State.endRamp
  split
  · exact h
  · exact .jumpTo h

theorem Stays.endRamps {k x} (h : Later s u) : Later s (u.endRamps k x) := .endRamp (.endRamp (.endRamp h))
theorem Stays.retime {k x p b} (h : Later s u) : Later s (u.retime k x p b) := .checkMoved (.rampTo h)
theorem Stays.timeNow {k x p} (h : Later s u) : Later s (u.timeNow k x p) := .checkMoved (.jumpTo h)

/-! Channels. -/

theorem Stays.feDomain {i was on} (h : Stays P u) : Stays P (u.feDomain i was on) := .ite h (.modFe h)

theorem Stays.setDomains {m} (h : Stays P u) : Stays P (u.setDomains m) := by
  unfold State.setDomains
  exact .syncRotations (.foldl .feDomain (.monDomain (.modPw (.same h rfl))))

theorem Stays.syncDomains (h : Stays P u) : Stays P u.syncDomains := .setDomains h

/-! The trellis. -/

theorem Stays.takePage {n k x} (h : Stays P u) : Stays P (u.takePage n k x) := .modTr h
theorem Stays.returnPages {ns} (h : Stays P u) : Stays P (u.returnPages ns) := .modTr h
theorem Stays.modSeg {c a i g} (h : Stays P u) : Stays P (u.modSeg c a i g) := .modTr h
theorem Stays.modAcq {c a g} (h : Stays P u) : Stays P (u.modAcq c a g) := .modTr h
theorem Stays.quotaCheck {c} (h : Stays P u) : Stays P (u.quotaCheck c) := .ite (.logEv (.modCh h)) h

theorem Stays.sweep {c} (h : Stays P u) : Stays P (u.sweep c) := by
  unfold State.sweep
  exact .quotaCheck (.modTr (.returnPages h))

theorem Stays.dropSeg {c a i} (h : Stays P u) : Stays P (u.dropSeg c a i) := .sweep (.modTr h)
theorem Stays.skipTaken {g} (h : Stays P u) : Stays P (u.skipTaken g) := .modHv h

theorem Stays.reclaimOne {c g} (h : Stays P u) : Stays P (u.reclaimOne c g) := by
  unfold State.reclaimOne
  exact .modTr (.modCh (.dropSeg (.skipTaken h)))

theorem Stays.countRefused {c} (h : Stays P u) : Stays P (u.countRefused c) := .modTr (.modCh h)

theorem Stays.requestRing {c n} (h : Stays P u) : Stays P (State.requestRing c n u).1 := by
  induction n generalizing u with
  | zero => exact h
  | succ n ih =>
    unfold State.requestRing
    split
    · split
      · exact ih (.reclaimOne h)
      · exact h
    · exact h

theorem Stays.allocate {c} (h : Stays P u) : Stays P (u.allocate c).1 := by
  unfold State.allocate
  split
  · extract_lets s1
    have h1 : Stays P s1 := .countRefused h
    exact .ite_fst (.requestRing h1) (.fst h1)
  · exact h

theorem Stays.holdAlloc {c desc} (h : Stays P u) : Stays P (u.holdAlloc c desc) := .ite h (.modTr h)
theorem Stays.addSegPage {c a i n} (h : Stays P u) : Stays P (u.addSegPage c a i n) := .modAcq (.modSeg h)

theorem Stays.ensureWords {c a i n now fuel} (h : Stays P u) : Stays P (State.ensureWords c a i n now fuel u).1 := by
  induction fuel generalizing u with
  | zero => exact h
  | succ fuel ih =>
    unfold State.ensureWords
    split
    · exact h
    · split
      · exact h
      · split
        · exact ih (.addSegPage (.modSeg h))
        · extract_lets
          split
          · exact ih (.addSegPage (.takePage (.allocate h)))
          · split
            · exact ih (.addSegPage (.takePage (.allocate h)))
            · exact .holdAlloc (.allocate h)
          · exact .allocate h

theorem Stays.storeWords {ps w bs} (h : Later s u) : Later s (u.storeWords ps w bs) := .modTr h

/-! The front end. -/

theorem Stays.feFlush {i} (h : Later s u) : Later s (u.feFlush i) := by
  unfold State.feFlush
  exact .ite h (.ite (.logEv (.modFe h)) h)

theorem Stays.feInterval {i a b} (h : Later s u) : Later s (u.feInterval i a b) := by
  unfold State.feInterval
  exact .ite (.modFe h) (.modFe h)

theorem Stays.overload {i first last} (h : Later s u) : Later s (u.overload i first last) := .ite (.feFlush (.feInterval h)) h

theorem Stays.feTrip {i} (h : Later s u) : Later s (u.feTrip i) := by
  unfold State.feTrip
  split
  · extract_lets _ _ _ _ s1 s2
    have h2 : Later s s2 := .logEv (.modFe (.feInterval h))
    exact .feFlush (.ite (.logEv h2) h2)
  · exact h

theorem Stays.feClose {i} (h : Later s u) : Later s (u.feClose i) := .feFlush (.logEv (.modFe h))
theorem Stays.feAutoClose {i} (h : Later s u) : Later s (u.feAutoClose i) := .ite (.feClose h) h
theorem Stays.feReset {i} (h : Later s u) : Later s (u.feReset i) := .ite (.feClose h) h
theorem Stays.feSettle {i b range} (h : Later s u) : Later s (u.feSettle i b range) := .modFe h
theorem Stays.feQuiet {i b range} (h : Later s u) : Later s (u.feQuiet i b range) := .modFe h

theorem Stays.netSwitch (h : Later s u) : Later s u.netSwitch := by
  unfold State.netSwitch
  exact .foldl .modFe (.free h)

/-! Samples. -/

theorem Stays.hear {c g} (h : Later s u) : Later s (u.hear c g) := .modCh h

/-! Acquisition. -/

theorem Stays.duePulse {start key} (h : Stays P u) : Stays P (u.duePulse start key) := .modPins h

theorem Stays.pushEv {fine src cyc stamp dest valid} (h : Later s u) : Later s (u.pushEv fine src cyc stamp dest valid) :=
  .setEvq h

theorem Stays.niredEvent {fine valid} (h : Later s u) : Later s (u.niredEvent fine valid) :=
  .ite (.pushEv h) (.ite (.logEv (.modTm (.modTm h))) (.modTm h))

theorem Stays.broadcastTrig {origin c fine valid} (h : Later s u) : Later s (u.broadcastTrig origin c fine valid) := by
  unfold State.broadcastTrig
  exact .niredEvent (.sendN (.modAr h))

theorem Stays.mergeTrig {origin c fine valid} (h : Later s u) : Later s (u.mergeTrig origin c fine valid) := by
  unfold State.mergeTrig
  exact .ite (.modAr h) (.broadcastTrig h)

theorem Stays.exportTrig_later {c src fine valid} (h : Later s u) : Later s (u.exportTrig c src fine valid) := by
  unfold State.exportTrig
  split
  · exact h
  · split
    · exact .broadcastTrig h
    · exact .sendN (.modAr h)
    · exact .sendN (.modAr h)
    · exact h

/-- A module that belongs to no array exports nothing. -/
theorem exportTrig_alone (hrole : u.ar.role = 0) {c : Fin 4} {src fine : Nat} {valid : Bool} :
    u.exportTrig c src fine valid = u := by
  unfold State.exportTrig
  simp [hrole]

theorem Stays.exportTrig {c src fine valid} (h : Stays P u) : Stays P (u.exportTrig c src fine valid) := by
  by_cases hrole : u.ar.role = 0
  · rwa [exportTrig_alone hrole]
  · exact .engaged h (.inr hrole) (.exportTrig_later .refl)

theorem Stays.draw {c d} (h : Stays P u) : Stays P (u.draw c d).2 := by
  unfold State.draw
  split
  · exact h
  · extract_lets
    exact .snd (.modCh h)

theorem Stays.startDet {d} (h : Stays P u) : Stays P (u.startDet d) := .modCh h

theorem Stays.gridDec {d} (h : Stays P u) : Stays P (u.gridDec d) := by
  unfold State.gridDec
  exact .modCh h

theorem Stays.onOldRun {c : Fin 4} {f : State → State} (h : Later s u) (hf : ∀ {v}, Later s v → Later s (f v)) :
    Later s (u.onOldRun c f) := by
  unfold State.onOldRun
  split
  · exact h
  · exact .modCh (hf (.modCh h))

theorem Stays.startDec {d} (h : Stays P u) : Stays P (u.startDec d) := .gridDec (.modCh h)
theorem Stays.takeKeys {c} (h : Later s u) : Later s (u.takeKeys c) := .modMr h
theorem Stays.stopDec {d q} (h : Stays P u) : Stays P (u.stopDec d q) := .modCh h
theorem Stays.stopDet {d e} (h : Stays P u) : Stays P (u.stopDet d e) :=
  ⟨h.closed.stopDet h.holds, h.closed⟩

theorem Stays.syncUnit {q e d} (h : Stays P u) : Stays P (u.syncUnit q e d) := by
  unfold State.syncUnit
  extract_lets _ _ _ s2
  have h2 : Stays P s2 := .ite (.startDet h) (.ite (.stopDet h) h)
  exact .ite (.startDec h2) (.ite (.stopDec h2) h2)

theorem Stays.syncUnits {q e} (h : Stays P u) : Stays P (u.syncUnits q e) := .foldl .syncUnit h

theorem Stays.toArmed {c a} (h : Stays P u) : Stays P (u.toArmed c a) := by
  unfold State.toArmed
  exact .modCh h

theorem Stays.toDone {c reason q e} (h : Stays P u) : Stays P (u.toDone c reason q e) := by
  unfold State.toDone
  exact .syncDomains (.syncUnits (.sweep (.logEvAt (.modCh h))))

theorem Stays.orderHalt {q reason cause c} (h : Stays P u) : Stays P (u.orderHalt q reason cause c) := .modCh h

theorem Stays.fullStop {c idx trig} (h : Stays P u) : Stays P (u.fullStop c idx trig) := by
  unfold State.fullStop
  exact .ite (.modCh h) (.orderHalt (.logEv (.modCh h)))

theorem Stays.sealSeg {c idx first last stopped trunc} (h : Stays P u) :
    Stays P (u.sealSeg c idx first last stopped trunc) := by
  unfold State.sealSeg
  exact .sweep (.modCh (.modAcq (.modSeg h)))

theorem Stays.cancelPulse {key} (h : Stays P u) : Stays P (u.cancelPulse key) := by
  unfold State.cancelPulse
  split
  · exact h
  · exact .modPins h

theorem Stays.withdrawTrig {c} (h : Stays P u) : Stays P (u.withdrawTrig c) := .cancelPulse (.modCh h)

theorem Stays.unopenSeg {c idx opening} (h : Stays P u) : Stays P (u.unopenSeg c idx opening) := by
  unfold State.unopenSeg
  extract_lets _ s1
  have h1 : Stays P s1 := .modCh (.modAcq (.modTr h))
  exact .ite h1 (.modCh (.ite h1 (.withdrawTrig h1)))

theorem Stays.afterClose {c e} (h : Stays P u) : Stays P (u.afterClose c e) := by
  unfold State.afterClose
  split
  · exact .ite (.modCh h) (.toArmed h)
  · exact .ite (.modCh (.draw h)) (.toArmed h)

theorem Stays.linkDesc {c idx n k} (h : Stays P u) : Stays P (u.linkDesc c idx n k) := .modAcq (.takePage h)

theorem Stays.getDesc {c idx} (h : Stays P u) : Stays P (u.getDesc c idx).1 := by
  unfold State.getDesc
  split
  · extract_lets
    split
    · exact .fst (.linkDesc (.allocate h))
    · exact .fst (.holdAlloc (.allocate h))
    · exact .fst (.allocate h)
  · exact h

theorem Stays.putSeg {c g} (h : Stays P u) : Stays P (u.putSeg c g) := .modAcq (.modTr h)

theorem Stays.reservePages {c idx n l} (h : Stays P u) : Stays P (State.reservePages c idx n u l).1 := by
  induction n generalizing u l with
  | zero => exact h
  | succ n ih =>
    unfold State.reservePages
    split
    · exact h
    · split
      · exact ih (.linkDesc h)
      · exact ih (.takePage h)

theorem Stays.truncateOpen {c opening} (h : Stays P u) : Stays P (u.truncateOpen c opening) := by
  unfold State.truncateOpen
  split
  · exact .fullStop h
  · split
    · exact .fullStop h
    · split
      · exact .fullStop h
      · exact .ite (.fullStop (.unopenSeg h)) (.fullStop (.sealSeg h))

theorem Stays.roomFor {c n opening now} (h : Stays P u) : Stays P (u.roomFor c n opening now) := by
  unfold State.roomFor
  split
  · exact h
  · split
    · exact h
    · exact .ite h (.ite (.fullStop (.unopenSeg (.getDesc h))) (.ite (.truncateOpen (.ensureWords (.getDesc h)))
        (.ensureWords (.getDesc h))))

theorem Stays.roomToClose {c n} (h : Stays P u) : Stays P (u.roomToClose c n) := .roomFor (.modTr h)

theorem Stays.openCont {c first} (h : Stays P u) : Stays P (u.openCont c first) := by
  unfold State.openCont
  extract_lets _ s1
  have h1 : Stays P s1 := .modCh (.putSeg h)
  exact .ite h1 (.ite (.fullStop (.unopenSeg (.getDesc h1))) (.getDesc h1))

theorem Stays.closeRecord {c last} (h : Stays P u) : Stays P (u.closeRecord c last) := by
  unfold State.closeRecord
  exact .modCh h

theorem Stays.closeOpen {c e} (h : Stays P u) : Stays P (u.closeOpen c e) := by
  unfold State.closeOpen
  split
  · exact h
  · split
    · exact .afterClose (.closeRecord h)
    · extract_lets s0 s1
      have h1 : Stays P s1 := .sealSeg (.roomToClose h)
      exact .ite (.roomToClose h) (.ite (.toDone h1) (.ite (.openCont h1) (.afterClose h1)))

theorem Stays.refuse {c p} (h : Stays P u) : Stays P (u.refuse c p) := .modCh h

theorem Stays.rateRefuse {c p} (h : Stays P u) : Stays P (u.rateRefuse c p) := by
  unfold State.rateRefuse
  extract_lets s1
  have h1 : Stays P s1 := .modCh (.refuse h)
  exact .ite (.logEv (.modCh h1)) h1

theorem Stays.countTrig {c x} (h : Stays P u) : Stays P (u.countTrig c x) := by
  unfold State.countTrig
  exact .exportTrig (.duePulse (.modCh h))

theorem Stays.startHold {c p} (h : Stays P u) : Stays P (u.startHold c p) := by
  unfold State.startHold
  exact .ite (.modCh (.draw (.modCh h))) (.modCh h)

theorem Stays.openRecord {c x} (h : Stays P u) : Stays P (u.openRecord c x) := by
  unfold State.openRecord
  exact .startHold (.countTrig (.modCh h))

theorem Stays.contTrig {c x} (h : Stays P u) : Stays P (u.contTrig c x).1 := by
  unfold State.contTrig
  extract_lets
  split
  · exact .fst (.refuse h)
  · extract_lets
    exact .fst (.countTrig (.modSeg h))

theorem Stays.openSeg {c x idx first last preCut reserved} (h : Stays P u) :
    Stays P (u.openSeg c x idx first last preCut reserved).1 := by
  unfold State.openSeg
  extract_lets _ _ _ _ s1 s2 s3
  have h2 : Stays P s2 := .roomFor (.modCh (.putSeg h))
  have h3 : Stays P s3 := .countTrig h2
  exact .ite_fst (.fst h2) (.fst (.ite (.startHold h3) h3))

theorem Stays.openTrig {c x} (h : Stays P u) : Stays P (u.openTrig c x).1 := by
  unfold State.openTrig
  extract_lets
  exact .ite_fst (.fst (.refuse h)) (.ite_fst (.ite_fst (.fst (.countRefused (.modCh h))) (.openSeg (.reservePages h)))
    (.ite_fst (.fst (.fullStop (.modCh (.getDesc h)))) (.openSeg (.getDesc h))))

theorem Stays.trigger {c x} (h : Stays P u) : Stays P (u.trigger c x).1 :=
  .ite_fst (.ite_fst (.fst (.refuse h)) (.ite_fst (.fst (.rateRefuse h)) (.contTrig h))) (.ite_fst (.fst (.modCh
    (.refuse h))) (.ite_fst (.fst (.refuse h)) (.ite_fst (.fst (.rateRefuse h)) (.ite_fst (.fst (.openRecord h))
    (.openTrig h)))))

theorem Stays.marker {c fine stamp code origin} (h : Stays P u) : Stays P (u.marker c fine stamp code origin) := by
  unfold State.marker
  exact .duePulse (.modCh h)

theorem Stays.takeEntry {c e x} (h : Stays P u) : Stays P (u.takeEntry c e x).1 := by
  unfold State.takeEntry
  extract_lets _ s1 s2
  have h2 : Stays P s2 := .ite (.marker (.modCh h)) (.modCh h)
  exact .ite_fst (.trigger h2) (.fst h2)

theorem Stays.offer {c x} (h : Stays P u) : Stays P (u.offer c x).1 := by
  unfold State.offer
  extract_lets
  split
  · exact h
  · exact .takeEntry h

theorem Stays.expire {c n p} (h : Stays P u) : Stays P (u.expire c n p) := by
  unfold State.expire
  extract_lets
  split
  · exact .modCh h
  · exact .takeEntry (.modCh h)

theorem Stays.autoFire {c p} (h : Stays P u) : Stays P (u.autoFire c p) := by
  unfold State.autoFire
  exact .ite (.modCh (.trigger (.modCh h))) (.trigger (.modCh h))

theorem Stays.happen {c x} (h : Stays P u) : Stays P (u.happen c x) := by
  unfold State.happen
  split
  · exact .toArmed h
  · exact .expire h
  · exact .autoFire h
  · exact .closeOpen h

theorem Stays.catchUp {c mark p n} (h : Stays P u) : Stays P (State.catchUp c mark p n u) := by
  induction n generalizing u with
  | zero => exact h
  | succ n ih =>
    unfold State.catchUp
    split
    · exact h
    · exact ih (.happen h)

theorem Stays.evAt {c e} (h : Stays P u) : Stays P (u.evAt c e).1 := by
  unfold State.evAt
  split
  · exact h
  · extract_lets
    exact .ite_fst (.fst (.catchUp h)) (.ite_fst (.fst (.marker (.catchUp h))) (.ite_fst (.trigger (.catchUp h)) (.offer
      (.catchUp h))))

theorem Stays.countEv {e} (h : Stays P u) : Stays P (u.countEv e) := .dite (.modCh h) (.dite (.modCh h) (.ite (.modTm h) h))
theorem Stays.dropEv {e} (h : Stays P u) : Stays P (u.dropEv e) := .dite (.modCh h) (.foldl (fun h => .ite (.modCh h) h) h)

theorem Stays.noteTaken {e cs} (h : Stays P u) : Stays P (u.noteTaken e cs) := by
  unfold State.noteTaken
  split
  · next hx => exact .ite (.engaged h (.inl (by simp [hx])) (.modMr .refl)) h
  · exact h

theorem Stays.evAtAll {e} (h : Stays P u) : Stays P (u.evAtAll e).1 := by
  unfold State.evAtAll
  refine .foldl_fst (fun h => ?_) h
  extract_lets
  exact .fst (.evAt h)

theorem Stays.bringUp {e} (h : Stays P u) : Stays P (u.bringUp e) := .foldl (fun h => .ite (.catchUp h) h) h

theorem Stays.presentAll {l seen} (h : Stays P u) : Stays P (State.presentAll l seen u) := by
  induction l generalizing u seen with
  | nil => exact h
  | cons e es ih =>
    unfold State.presentAll
    exact .ite (ih (.bringUp h)) (.ite (ih (.dropEv (.bringUp h))) (ih (.noteTaken (.evAtAll (.countEv (.bringUp h))))))

theorem Stays.presentCycle {p} (h : Later s u) : Later s (u.presentCycle p) := .presentAll (.setEvq h)

theorem Stays.presentCycles {lim n} (h : Later s u) : Later s (State.presentCycles lim n u) := by
  induction n generalizing u with
  | zero => exact h
  | succ n ih =>
    unfold State.presentCycles
    split
    · exact h
    · exact ih (.presentCycle h)

theorem Stays.presentUpTo {lim} (h : Later s u) : Later s (u.presentUpTo lim) := .presentCycles h

theorem Stays.evAtOnce {c r e} (h : Later s r.1) : Later s (State.evAtOnce c r e).1 :=
  .ite_fst (.fst (.modCh h)) (.fst (.evAt h))

theorem Stays.lastEvents {c q} (h : Later s u) : Later s (u.lastEvents c q) := .foldl_fst .evAtOnce (.setEvq h)

theorem Stays.endRun {c close drain} (h : Later s u) : Later s (u.endRun c close drain) := by
  unfold State.endRun
  exact .ite (.modCh h) (.ite (.sweep (.modCh (.modCh h))) (.modCh (.modCh h)))

theorem Stays.stopRun {c q} (h : Later s u) : Later s (u.stopRun c q) := .ite h (.ite (.endRun h) (.modCh h))
theorem Stays.logCut {c cause tick} (h : Later s u) : Later s (u.logCut c cause tick) := .logEv h

theorem Stays.cutRecord {c q cause} (h : Later s u) : Later s (u.cutRecord c q cause) := by
  unfold State.cutRecord
  split
  · exact h
  · exact .ite (.logCut (.modCh (.modCh h))) (.modCh h)

theorem Stays.closeEarly {c q cause} (h : Later s u) : Later s (u.closeEarly c q cause) := by
  unfold State.closeEarly
  split
  · exact h
  next o _ =>
    cases o.idx with
    | none => exact .cutRecord h
    | some i =>
      cases u.lastBefore c q with
      | none => exact .unopenSeg h
      | some l => exact .ite (.unopenSeg h) (.ite (.roomToClose h) (.sealSeg (.roomToClose h)))

theorem Stays.stopChan {c q reason cause} (h : Later s u) : Later s (u.stopChan c q reason cause) := by
  unfold State.stopChan
  extract_lets s1 s2
  have h2 : Later s s2 := .closeEarly (.catchUp h)
  exact .ite (.catchUp h) (.stopRun (.ite h2 (.toDone h2)))

/-! Decimation. -/

theorem Stays.fltStep {c j v t} (h : Later s u) : Later s (u.fltStep c j v t) := by
  unfold State.fltStep
  extract_lets _ _ _ s1 _ _ s2
  have h2 : Later s s2 := .ite (.pushEv (.modCh h)) (.modCh h)
  exact .ite (.pushEv h2) h2

theorem Stays.countSat {c j v} (h : Later s u) : Later s (u.countSat c j v) := .ite (.modCh h) h

theorem Stays.compareValue {c j v} (h : Later s u) : Later s (u.compareValue c j v) := by
  unfold State.compareValue
  extract_lets s1
  have h1 : Later s s1 := .modCh (.countSat h)
  exact .ite h1 (.modCh (.foldl .fltStep h1))

theorem Stays.moveFirst {c n} (h : Later s u) : Later s (u.moveFirst c n) := by
  unfold State.moveFirst
  split
  · exact .ite (.modCh (.modSeg h)) h
  · exact h

theorem Stays.syncReset {c} (h : Later s u) : Later s (u.syncReset c) := by
  unfold State.syncReset
  split
  · exact h
  · exact .ite h (.modCh (.moveFirst h))

theorem Stays.scheduleReset {c} (h : Later s u) : Later s (u.scheduleReset c) := .ite (.modCh h) h
theorem Stays.fltValue {c j codes} (h : Later s u) : Later s (u.fltValue c j codes) := .ite (.hear (.compareValue h)) h

/-! Harvest queues. -/

theorem Stays.modQ {q g} (h : Later s u) : Later s (u.modQ q g) := .modHv h

theorem Stays.turnsFor {q n} (h : Later s u) : Later s (State.turnsFor q n u) := by
  induction n generalizing u with
  | zero => exact h
  | succ n ih =>
    unfold State.turnsFor
    extract_lets
    split
    · exact h
    · split
      · split
        · exact h
        · exact ih (.modHv h)
      · exact ih (.modHv (.modQ h))

theorem Stays.served {q} (h : Later s u) : Later s (u.served q) := by
  unfold State.served
  exact .turnsFor h

theorem Stays.keepAllWritten (h : Later s u) : Later s u.keepAllWritten := .setFreeCtr (.modHv h)

/-! Operands. -/

theorem Stays.fitBandwidth (h : Later s u) : Later s u.fitBandwidth := .foldl (fun h => .ite h (.orderHalt h)) h

/-! The memory controller. -/

theorem Stays.modPc {p g} (h : Later s u) : Later s (u.modPc p g) := .modMem h

theorem Stays.storeDesc {g} (h : Later s u) : Later s (u.storeDesc g) := by
  unfold State.storeDesc
  split
  · exact h
  · exact .storeWords h

theorem Stays.poisonSeg {g} (h : Later s u) : Later s (u.poisonSeg g) := by
  unfold State.poisonSeg
  exact .ite (.storeDesc (.modSeg h)) (.modSeg h)

theorem Stays.loseSeg {g} (h : Later s u) : Later s (u.loseSeg g) := .ite (.dropSeg h) (.modSeg h)

theorem Stays.poisonWord {p page off} (h : Later s u) : Later s (u.poisonWord p page off) := by
  unfold State.poisonWord
  split
  · exact h
  · dsimp only
    split
    · exact .foldl .loseSeg (.modTr (.modMem (.keepAllWritten h)))
    · exact .logEv (.foldl .loseSeg (.modTr (.modMem (.keepAllWritten h))))

theorem Stays.nextRetrain {p} (h : Later s u) : Later s (u.nextRetrain p) := by
  unfold State.nextRetrain
  split
  · exact h
  · split
    · exact h
    · exact .modPc (.modMem h)

theorem Stays.endRetrain {p} (h : Later s u) : Later s (u.endRetrain p) := .nextRetrain (.modMem (.modPc h))

theorem Stays.startRetire {p cause} (h : Later s u) : Later s (u.startRetire p cause) := by
  unfold State.startRetire
  extract_lets
  split
  · exact .logEvAt (.endRetrain (.endRetrain (.modMem (.modPc (.modPc h)))))
  · split
    · exact h
    · exact .endRetrain (.modMem (.modPc h))

theorem Stays.setRetired {p cause} (h : Later s u) : Later s (u.setRetired p cause) :=
  .syncDomains (.endRetrain (.modMem (.modPc h)))

theorem Stays.retire {p cause} (h : Later s u) : Later s (u.retire p cause) := by
  unfold State.retire
  split
  · exact .setRetired h
  · exact .ite (.ite h (.modMem h)) (.startRetire h)
  · split
    · exact h
    · exact .startRetire (.modMem (.setRetired h))
  · exact h

theorem Stays.nextRetire (h : Later s u) : Later s u.nextRetire := by
  unfold State.nextRetire
  split
  · exact h
  · exact .startRetire (.modMem h)

theorem Stays.endRetireWork {p status} (h : Later s u) : Later s (u.endRetireWork p status) := .ite (.endWork (.modMem h)) h

theorem Stays.migDone (h : Later s u) : Later s u.migDone := by
  unfold State.migDone
  split
  · exact h
  · exact .nextRetire (.endRetireWork (.logEv (.setRetired (.modPc (.modMem h)))))

theorem Stays.logUnc {p outcome page off} (h : Later s u) : Later s (u.logUnc p outcome page off) := .ite (.logEv (.modPc h)) h

theorem Stays.countGroup {p o} (h : Later s u) : Later s (u.countGroup p o) := by
  unfold State.countGroup
  exact .modPc h

theorem Stays.poisonGroup {p k w lost} (h : Later s u) : Later s (u.poisonGroup p k w lost) :=
  .ite h (.foldl .poisonSeg (.foldl (fun h => .ite (.poisonWord h) (.modMem h)) h))

theorem Stays.readGroup {p row copy requeue r} (h : Later s u) : Later s (u.readGroup p row copy requeue r) := by
  unfold State.readGroup
  extract_lets _ _ _ s1 _ s2 _ s3 s4
  have h2 : Later s s2 := .elim (.countGroup h) (.poisonGroup (.countGroup h))
  have h3 : Later s s3 := .ite h2 (.logUnc h2)
  have h4 : Later s s4 := .ite (.modMem h3) (.ite h3 (.retire h3))
  exact .ite (.modMem h4) h4

theorem Stays.readRow {p row copy requeue raw} (h : Later s u) : Later s (u.readRow p row copy requeue raw) :=
  .foldl .readGroup h

theorem Stays.groupRead {p row raw copy} (h : Later s u) : Later s (u.groupRead p row raw copy) := by
  unfold State.groupRead
  split
  · exact h
  · split
    · split
      · exact h
      · exact .ite (.modMem (.readRow h)) h
    · exact .readRow h

theorem Stays.scrubRowOf {p row raw} (h : Later s u) : Later s (u.scrubRowOf p row raw) := by
  unfold State.scrubRowOf
  exact .modMem (.readRow h)

theorem Stays.endPass (h : Later s u) : Later s u.endPass := .modMem h

theorem Stays.advanceScrub (h : Later s u) : Later s u.advanceScrub := by
  unfold State.advanceScrub
  extract_lets
  split
  · exact .modMem h
  · split
    · exact .modMem h
    · exact .endPass h

theorem Stays.seekScrub (h : Later s u) : Later s u.seekScrub := by
  unfold State.seekScrub
  split
  · exact h
  · split
    · exact .modMem h
    · exact .endPass h

theorem Stays.patrol {raw} (h : Later s u) : Later s (u.patrol raw) := by
  unfold State.patrol
  split
  · exact h
  · split
    · exact .modMem (.elim h (.scrubRowOf h))
    · exact .advanceScrub (.scrubRowOf (.seekScrub h))

theorem Stays.writeBack {raw} (h : Later s u) : Later s (u.writeBack raw) := by
  unfold State.writeBack
  split
  · exact h
  · split
    · exact h
    · exact .ite (.readRow (.modMem h)) (.modMem h)

theorem Stays.retrainCause {p ce} (h : Later s u) : Later s (u.retrainCause p ce) := by
  unfold State.retrainCause
  extract_lets _ s1
  have h1 : Later s s1 := .ite (.modPc h) h
  exact .ite h (.ite (.modMem h1) (.modPc h1))

theorem Stays.retrainStart {p temp deskew} (h : Later s u) : Later s (u.retrainStart p temp deskew) := by
  unfold State.retrainStart
  exact .ite (.retrainCause (.modPc h)) (.modPc h)

theorem Stays.trainedNow {p set temp} (h : Later s u) : Later s (u.trainedNow p set temp) := .logEv (.modPc h)
theorem Stays.trainingFails {p eyes temp} (h : Later s u) : Later s (u.trainingFails p eyes temp) := .retire (.logEv (.modPc h))

theorem Stays.retrainWindow {p set eyes temp} (h : Later s u) : Later s (u.retrainWindow p set eyes temp) := by
  unfold State.retrainWindow
  split
  · exact h
  · exact .ite h (.ite (.modPc h) (.ite (.nextRetrain (.trainedNow h)) (.nextRetrain (.trainingFails h))))

theorem Stays.ceWindow {p} (h : Later s u) : Later s (u.ceWindow p) := by
  unfold State.ceWindow
  exact .ite h (.ite (.retire (.logEv (.modPc h))) (.ite (.retrainCause (.modPc h)) (.modPc h)))

theorem Stays.renamePage {p q} (h : Later s u) : Later s (u.renamePage p q) := by
  unfold State.renamePage
  exact .foldl .modOut (.modHv (.foldl .modCh (.modTr h)))

theorem Stays.movePage {k pg} (h : Later s u) : Later s (State.movePage k u pg) := by
  unfold State.movePage
  split
  · exact h
  · exact .renamePage (.takePage h)

theorem Stays.ringRoom {k n} (h : Later s u) : Later s (State.ringRoom k n u) := by
  induction n generalizing u with
  | zero => exact h
  | succ n ih =>
    unfold State.ringRoom
    split
    · exact h
    · split
      · exact h
      · exact ih (.reclaimOne h)

theorem Stays.loseForRoom {g} (h : Later s u) : Later s (u.loseForRoom g) := by
  unfold State.loseForRoom
  exact .ite (.dropSeg h) (.fullStop (.modCh (.dropSeg h)))

theorem Stays.loseRoom {k n l} (h : Later s u) : Later s (State.loseRoom k n u l).1 := by
  induction n generalizing u l with
  | zero => exact h
  | succ n ih =>
    unfold State.loseRoom
    split
    · exact h
    · split
      · exact h
      · exact ih (.loseForRoom h)

theorem Stays.overQuotaCheck {c} (h : Later s u) : Later s (u.overQuotaCheck c) := .ite (.logEv (.modCh h)) h

theorem Stays.dropSlot {k p cause} (h : Later s u) : Later s (u.dropSlot k p cause) := by
  unfold State.dropSlot
  extract_lets _ _ s1 _ _ s2 s3 s4 s5 s6 s7
  have h7 : Later s s7 := .logEv (.logEv (.setRetired (.foldl .modCh (.modMem (.modTr (.returnPages (.foldl .movePage
    (.loseRoom (.ringRoom h)))))))))
  exact .foldl .overQuotaCheck (.ite h7 (.logEv h7))

theorem Stays.capacityDone (h : Later s u) : Later s u.capacityDone := by
  unfold State.capacityDone
  split
  · exact h
  · exact .nextRetire (.endRetireWork (.fitBandwidth (.dropSlot h)))

theorem Stays.restoreDone {tr temp} (h : Later s u) : Later s (u.restoreDone tr temp) := by
  unfold State.restoreDone
  split
  · exact h
  · exact .ite (.syncDomains (.endWork (.logEv (.modMem (.modPc (.modMem h)))))) (.syncDomains (.endWork (.modPc (.modMem h))))

theorem Stays.srRequest {byPower} (h : Later s u) : Later s (u.srRequest byPower) := .ite h (.modMem h)

theorem Stays.exitPc {p e} (h : Later s u) : Later s (u.exitPc p e) :=
  .ite h (.ite (.ite (.trainedNow h) (.trainingFails h)) (.modPc h))

theorem Stays.srExit {exits} (h : Later s u) : Later s (u.srExit exits) :=
  .ite h (.nextRetrain (.nextRetrain (.foldl .exitPc (.modMem h))))

theorem Stays.srWake (h : Later s u) : Later s u.srWake := .setFreeCtr (.srExit h)

theorem Stays.retirePcBody {r} (h : Later s u) : Later s (retirePcBody r u).2 := by
  unfold Machine.retirePcBody
  extract_lets
  exact .ite_snd (.fails h) (.ite_snd (.fails h) (.ite_snd (.fails h) (.ite_snd (.fails h) (.ite_snd (.fails h) (.ite_snd
    (.accepted (.syncDomains (.modMem (.addWork h)))) (.ite_snd (.accepted (.endWork (.setRetired (.addWork h)))) (.accepted
    (.retire (.modMem (.addWork h))))))))))

theorem Stays.scrubBody {r} (h : Later s u) : Later s (scrubBody r u).2 := by
  unfold Machine.scrubBody
  extract_lets
  exact .ite_snd (.fails h) (.ite_snd (.ite_snd (.answers h) (.fails h)) (.ite_snd (.fails h) (.ite_snd (.fails h) (.ite_snd
    (.fails h) (.answers (.modMem h))))))

/-! Waking the core. -/

theorem Stays.logPower {now was} (h : Later s u) : Later s (u.logPower now was) := .logEv h

theorem Stays.leaveSleepBy {src dst exits} (h : Later s u) : Later s (u.leaveSleepBy src dst exits) :=
  .ite h (.modPw (.logEv (.logPower (.syncDomains (.ite (.setFreeCtr (.srExit (.modPw h))) (.modPw h))))))

theorem Stays.leaveSleep {src dst} (h : Later s u) : Later s (u.leaveSleep src dst) := .leaveSleepBy h

theorem Stays.rollback {block} (h : Later s u) : Later s (u.rollback block) := by
  unfold State.rollback
  split
  · exact h
  · exact .endWork (.logEv (.syncDomains (.modHv (.ite (.ite (.srWake (.modPw h)) (.modMem (.modPw h))) (.modPw h)))))

theorem Stays.srAbort (h : Later s u) : Later s u.srAbort := .ite (.rollback (.logEv (.modMem h))) h

theorem Stays.memRequest (h : Later s u) : Later s u.memRequest := by
  unfold State.memRequest
  split
  · extract_lets s1
    have h1 : Later s s1 := .srAbort (.modPw h)
    exact .ite (.syncDomains (.srWake h1)) h1
  · exact h

/-! Playback. -/

theorem Stays.takeRegion {o n l} (h : Later s u) : Later s (State.takeRegion o n u l).1 := by
  induction n generalizing u l with
  | zero => exact h
  | succ n ih =>
    unfold State.takeRegion
    split
    · exact h
    · exact ih (.takePage h)

theorem Stays.playLoadBody {r} (h : Later s u) : Later s (playLoadBody r u).2 := by
  unfold Machine.playLoadBody
  extract_lets
  exact .ite_snd (.fails h) (.ite_snd (.fails h) (.ite_snd (.fails h) (.ite_snd (.fails h) (.ite_snd (.fails h) (.accepted
    (.syncDomains (.addWork (.modOut (.takeRegion (.memRequest (.leaveSleep h)))))))))))

theorem Stays.loadFailed {o} (h : Later s u) : Later s (u.loadFailed o) := by
  unfold State.loadFailed
  split
  · exact h
  · exact .syncDomains (.endWorkIf (.modOut (.returnPages h)))

theorem Stays.loadDone {o bulk} (h : Later s u) : Later s (u.loadDone o bulk) := by
  unfold State.loadDone
  split
  · exact h
  · split
    · exact .loadFailed h
    · exact .syncDomains (.endWorkIf (.modOut (.storeWords (.returnPages h))))

theorem Stays.playStartBody {r} (h : Later s u) : Later s (playStartBody r u).2 := by
  unfold Machine.playStartBody
  extract_lets
  exact .ite_snd (.fails h) (.ite_snd (.fails h) (.ite_snd (.fails h) (.ite_snd (.fails h) (.ite_snd (.fails h) (.ite_snd
    (.fails h) (.answers (.syncDomains (.modOut (.memRequest (.leaveSleep h))))))))))

theorem Stays.orderStop {o b reason} (h : Later s u) : Later s (u.orderStop o b reason) := .ite (.modOut h) h

theorem Stays.playStopBody {r} (h : Later s u) : Later s (playStopBody r u).2 := by
  unfold Machine.playStopBody
  extract_lets
  exact .ite_snd (.fails h) (.ite_snd (.snd (.orderStop h)) (.fails h))

theorem Stays.playBegin {o} (h : Later s u) : Later s (u.playBegin o) := by
  unfold State.playBegin
  exact .ite h (.logEvAt (.modOut h))

theorem Stays.answerStop {o plays tick} (h : Later s u) : Later s (u.answerStop o plays tick) := by
  unfold State.answerStop
  split
  · exact h
  · exact .ite (.finish h) h

theorem Stays.playFinish {o} (h : Later s u) : Later s (u.playFinish o) := by
  unfold State.playFinish
  extract_lets
  split
  · exact h
  · exact .ite h (.syncDomains (.answerStop (.logEvAt (.modOut h))))

theorem Stays.underrun {o nth} (h : Later s u) : Later s (u.underrun o nth) := by
  unfold State.underrun
  dsimp only
  split
  · exact h
  · split
    · exact h
    · exact .ite (.logEv (.modOut h)) (.modOut h)

/-! Pins. -/

theorem Stays.pulsePin {b p} (h : Later s u) : Later s (u.pulsePin b p) := .modPins h
theorem Stays.pulse {b key} (h : Later s u) : Later s (u.pulse b key) := .foldl (fun h => .ite (.pulsePin h) h) h

theorem Stays.outputPulses (h : Later s u) : Later s u.outputPulses := by
  unfold State.outputPulses
  exact .foldl .pulse (.foldl .pulse (.modPins h))

theorem Stays.pulseOver {p} (h : Later s u) : Later s (u.pulseOver p) := .ite (.modPins h) h
theorem Stays.cutPulses {q} (h : Later s u) : Later s (u.cutPulses q) := .modPins h

/-! Accumulation. -/

theorem Stays.cutBySettling {c r n} (h : Later s u) : Later s (u.cutBySettling c r n) := .logCut (.modCh h)
theorem Stays.countSats {c first vals} (h : Later s u) : Later s (u.countSats c first vals) := .foldl .countSat h

theorem Stays.discardRecord {c} (h : Later s u) : Later s (u.discardRecord c) := by
  unfold State.discardRecord
  exact .ite (.endRun (.modCh h)) (.modCh h)

theorem Stays.addValues {c r vals} (h : Later s u) : Later s (u.addValues c r vals) := by
  unfold State.addValues
  exact .modCh (.countSats h)

theorem Stays.closeAdded {c r settled} (h : Later s u) : Later s (u.closeAdded c r settled) := by
  unfold State.closeAdded
  extract_lets _ _ _ _ s1 s2
  have h2 : Later s s2 := .ite (.cutBySettling (.modCh h)) (.modCh h)
  exact .ite (.endRun h2) (.ite (.modCh h2) h2)

theorem Stays.takeRecord {c codes} (h : Later s u) : Later s (u.takeRecord c codes) := by
  unfold State.takeRecord
  split
  · exact h
  · extract_lets _ _ _ _ s1
    have h1 : Later s s1 := .ite h (.hear (.addValues h))
    split
    · exact .ite (.discardRecord h) h
    · split
      · exact h1
      · exact .ite (.closeAdded h1) h1

theorem Stays.countResult {c} (h : Later s u) : Later s (u.countResult c) := .modCh h

theorem Stays.writeResult {c} (h : Later s u) : Later s (u.writeResult c) := by
  unfold State.writeResult
  extract_lets _ _ s0 s1 _ s1' s2 s3
  have h0 : Later s s0 := .modCh (.getDesc h)
  have h1 : Later s s1 := .sweep (.modCh h0)
  have h3 : Later s s3 := .sweep (.countResult (.modTr (.storeWords (.putSeg h0))))
  exact .ite (.ite (.fullStop h1) h1) (.ite (.toDone h3) h3)

theorem Stays.foldDone {c} (h : Later s u) : Later s (u.foldDone c) := by
  unfold State.foldDone
  exact .ite h (.ite (.modCh h) (.ite (.modCh (.modCh h)) (.writeResult (.modCh h))))

theorem Stays.passDone {c} (h : Later s u) : Later s (u.passDone c) := by
  unfold State.passDone
  exact .ite h (.writeResult h)

theorem Stays.takeRunPages {c n l} (h : Later s u) : Later s (State.takeRunPages c n u l).1 := by
  induction n generalizing u l with
  | zero => exact h
  | succ n ih =>
    unfold State.takeRunPages
    extract_lets
    split
    · exact ih (.takePage (.allocate h))
    · split
      · exact .allocate h
      · exact ih (.takePage (.allocate h))
    · exact .allocate h

theorem Stays.startRun {c runNo} (h : Later s u) : Later s (u.startRun c runNo) := by
  unfold State.startRun
  exact .ite (.fullStop (.modCh (.returnPages (.takeRunPages h)))) (.modCh (.takeRunPages h))

theorem Stays.busyOver {c} (h : Later s u) : Later s (u.busyOver c) := by
  unfold State.busyOver
  exact .ite h (.ite (.startRun (.modCh h)) (.modCh h))

/-! Towers. -/

theorem Stays.twEvent {k code sev x p cause tick} (h : Later s u) : Later s (u.twEvent k code sev x p cause tick) := .logEv h
theorem Stays.flagOos {k from_} (h : Later s u) : Later s (u.flagOos k from_) := .modTr h
theorem Stays.fillPhase {k p} (h : Later s u) : Later s (u.fillPhase k p) := .twEvent (.flagOos (.modTw h))

theorem Stays.orphanRepls {k} (h : Later s u) : Later s (u.orphanRepls k) := by
  unfold State.orphanRepls
  exact .foldl .fillPhase (.modTw h)

theorem Stays.loseGraft {k x p} (h : Later s u) : Later s (u.loseGraft k x p) :=
  .syncDomains (.orphanRepls (.twEvent (.modTw h)))

theorem Stays.failGraft {k x cause tick} (h : Later s u) : Later s (u.failGraft k x cause tick) :=
  .loseGraft (.twEvent (.modSlice h))

theorem Stays.rampBack {k x} (h : Later s u) : Later s (u.rampBack k x) := by
  unfold State.rampBack
  exact .rampTo (.rampTo h)

theorem Stays.replaceBy {k r g} (h : Later s u) : Later s (u.replaceBy k r g) := by
  unfold State.replaceBy
  exact .loseGraft (.checkLimits (.retime (.rampBack (.twEvent (.modTw h)))))

theorem Stays.connectGraft {k g p} (h : Later s u) : Later s (u.connectGraft k g p) := .checkLimits (.modSlice h)
theorem Stays.beginRepl {k p x g} (h : Later s u) : Later s (u.beginRepl k p x g) := .connectGraft (.modTw h)

theorem Stays.beginRetire {k p x} (h : Later s u) : Later s (u.beginRetire k p x) := by
  unfold State.beginRetire
  exact .modTw h

theorem Stays.putCurve {k x v} (h : Later s u) : Later s (u.putCurve k x v) := by
  unfold State.putCurve
  exact .modCal h

theorem Stays.takeCurve {k x} (h : Later s u) : Later s (u.takeCurve k x) := .elim h (.putCurve h)

theorem Stays.doSwap {k} (h : Later s u) : Later s (u.doSwap k) := by
  unfold State.doSwap
  extract_lets
  split
  · exact .checkLimits (.checkLimits (.retime (.rampBack (.takeCurve (.endRamps (.modTw h))))))
  · exact h

theorem Stays.cancelSwap {k x} (h : Later s u) : Later s (u.cancelSwap k x) := by
  unfold State.cancelSwap
  exact .checkLimits (.checkLimits (.modCal (.stopRamp (.stopRamp (.stopRamp (.modSlice (.modTw h)))))))

theorem Stays.failMatched {k p x} (h : Later s u) : Later s (u.failMatched k p x) := by
  unfold State.failMatched
  exact .modTw (.ite (.twEvent (.modSlice h)) h)

theorem Stays.convFail {k} (h : Later s u) : Later s (u.convFail k) := by
  unfold State.convFail
  extract_lets
  split
  · exact h
  · extract_lets s1 s2
    have h2 : Later s s2 := .modTw (.twEvent h)
    split
    · exact .failGraft h2
    · split
      · exact .ite (.failMatched h2) h2
      · exact h2

theorem Stays.swapTick {k} (h : Later s u) : Later s (u.swapTick k) := by
  unfold State.swapTick
  extract_lets
  split
  · exact h
  · split
    · exact .doSwap (.modTw h)
    · split
      · exact h
      · exact .ite h (.ite (.ite (.modTw h) (.doSwap (.modTw h))) (.ite (.convFail (.modTw h)) (.modTw h)))

theorem Stays.markFailed {k x p cause onset} (h : Later s u) : Later s (u.markFailed k x p cause onset) :=
  .twEvent (.flagOos (.modTw (.modSlice h)))

theorem Stays.failDisplaced {k x g cause} (h : Later s u) : Later s (u.failDisplaced k x g cause) := by
  unfold State.failDisplaced
  split
  · exact .replaceBy h
  · exact .failGraft (.doSwap (.modTw h))

theorem Stays.failsBeside {k x p cause onset r g} (h : Later s u) : Later s (u.failsBeside k x p cause onset r g) := by
  unfold State.failsBeside
  exact .ite (.markFailed h) (.ite (.syncDomains (.beginRepl (.fillPhase (.markFailed h)))) (.syncDomains (.fillPhase
    (.markFailed h))))

theorem Stays.activeFails {k x p cause onset} (h : Later s u) : Later s (u.activeFails k x p cause onset) := by
  unfold State.activeFails
  split
  · exact .syncDomains (.fillPhase (.markFailed h))
  · split
    · exact .failsBeside h
    · split
      · exact .failDisplaced h
      · split
        · exact .ite (.beginRepl (.markFailed h)) (.beginRepl (.markFailed (.cancelSwap h)))
        · exact .beginRepl (.markFailed h)

theorem Stays.sliceFails {k x cause onset} (h : Later s u) : Later s (u.sliceFails k x cause onset) := by
  unfold State.sliceFails
  extract_lets
  split
  · exact h
  · split
    · exact .ite (.activeFails h) h
    · exact .ite (.failGraft h) (.ite (.failGraft h) h)

theorem Stays.replaceDue {k} (h : Later s u) : Later s (u.replaceDue k) := by
  unfold State.replaceDue
  extract_lets
  split
  · exact .ite (.replaceBy h) h
  · exact h

theorem Stays.logFailedTests {k} (h : Later s u) : Later s (u.logFailedTests k) := .foldl (fun h => .ite h (.twEvent h)) h

theorem Stays.towerTest {k tests} (h : Later s u) : Later s (u.towerTest k tests) := by
  unfold State.towerTest
  extract_lets s1 _ s2 s3
  have h3 : Later s s3 := by
    refine .foldl (fun h => ?_) (.modTw (.logFailedTests (.foldl .modSlice h)))
    split
    · exact .fillPhase h
    · exact .checkLimits (.modSlice h)
  exact .syncDomains (.modCal (.elim h3 (.checkLimits h3)))

theorem Stays.graftTest {k t} (h : Later s u) : Later s (u.graftTest k t) := by
  unfold State.graftTest
  extract_lets
  split
  · exact h
  · exact .ite (.ite (.checkLimits (.modTw (.modSlice h))) (.failGraft (.modSlice h))) h

theorem Stays.shadowDone {k} (h : Later s u) : Later s (u.shadowDone k) := .ite (.modTw h) h

theorem Stays.enterMatch {k g} (h : Later s u) : Later s (u.enterMatch k g) := by
  unfold State.enterMatch
  extract_lets
  split
  · exact .modTw h
  · exact .modCal (.putCurve (.modTw h))

theorem Stays.convergeWin {k g w} (h : Later s u) : Later s (u.convergeWin k g w) := by
  unfold State.convergeWin
  exact .ite (.checkLimits (.enterMatch (.modTw (.modSlice h)))) (.ite (.checkLimits (.enterMatch (.modSlice (.modSlice h))))
    (.checkLimits (.modSlice h)))

theorem Stays.matchWin {k g w} (h : Later s u) : Later s (u.matchWin k g w) := by
  unfold State.matchWin
  extract_lets s1
  have h1 : Later s s1 := .checkLimits (.modSlice h)
  exact .ite (.modTw h1) h1

theorem Stays.graftWin {k w} (h : Later s u) : Later s (u.graftWin k w) := by
  unfold State.graftWin
  split
  · exact h
  · split
    · exact h
    · split
      · exact .convergeWin h
      · exact .matchWin h
      · exact .matchWin h
      · exact h

theorem Stays.retireSlice {k x} (h : Later s u) : Later s (u.retireSlice k x) := by
  unfold State.retireSlice
  split
  · exact .failGraft h
  · exact .beginRetire (.twEvent (.modSlice h))

theorem Stays.leavePhase {k x} (h : Later s u) : Later s (u.leavePhase k x) := by
  unfold State.leavePhase
  split
  · exact h
  · exact .fillPhase (.modTw h)

theorem Stays.restoreSlice {k x t} (h : Later s u) : Later s (u.restoreSlice k x t) := by
  unfold State.restoreSlice
  extract_lets s0 s1 s2
  have h1 : Later s s1 := .takeCurve (.modTw (.modSlice (.leavePhase h)))
  have h2 : Later s s2 := by
    unfold s2
    split
    · exact .beginRepl h1
    · exact h1
  exact .syncDomains (.checkLimits h2)

theorem Stays.graftOp {k op x p t} (h : Later s u) : Later s (u.graftOp k op x p t).2 := by
  unfold State.graftOp
  split
  · exact .snd (.syncRotation (.twEvent (.modTw h)))
  · exact .snd (.syncRotation (.twEvent (.modTw h)))
  · exact .snd (.modTw h)
  · exact .snd (.retireSlice h)
  · exact .ite_snd (.snd (.restoreSlice h)) (.snd (.twEvent (.modSlice h)))
  · exact .snd (.modTw h)
  · exact h

theorem Stays.graftBody {t r} (h : Later s u) : Later s (graftBody t r u).2 := by
  unfold Machine.graftBody
  extract_lets
  exact .ite_snd (.fails h) (.ite_snd (.fails h) (.snd (.graftOp (.reach h))))

/-! Calibration. -/

theorem Stays.jumpRange {i} (h : Later s u) : Later s (u.jumpRange i) := by
  unfold State.jumpRange
  exact .jumpTo (.jumpTo h)

theorem Stays.rampRange {i b} (h : Later s u) : Later s (u.rampRange i b) := by
  unfold State.rampRange
  exact .rampTo (.rampTo h)

theorem Stays.rampUser {i b} (h : Later s u) : Later s (u.rampUser i b) := .rampTo (.rampTo h)
theorem Stays.modWs {g} (h : Later s u) : Later s (u.modWs g) := .modCal h

theorem Stays.armCal {c} (h : Later s u) : Later s (u.armCal c) := by
  unfold State.armCal
  exact .modCal (.modWs h)

theorem Stays.loadCurve {c k x v} (h : Later s u) : Later s (u.loadCurve c k x v).2 := by
  unfold State.loadCurve
  split
  · exact .snd (.modCal h)
  · extract_lets
    exact .snd (.ite (.modTw (.putCurve h)) (.putCurve h))

theorem Stays.loadEq {c q v} (h : Later s u) : Later s (u.loadEq c q v).2 := by
  unfold State.loadEq
  extract_lets
  exact .ite_snd (.snd (.modCal h)) (.snd (.modCal (.modWs h)))

theorem Stays.loadCurveBody {bulk r} (h : Later s u) : Later s (loadCurveBody bulk r u).2 := by
  unfold Machine.loadCurveBody
  refine .ite_snd (.fails h) (.ite_snd (.fails h) (.ite_snd (.fails h) ?_))
  split
  · exact .failsRead h
  · exact .answers (.ite_snd (.loadEq h) (.loadCurve h))

theorem Stays.uncover {sel} (h : Later s u) : Later s (u.uncover sel) := .modCal h

theorem Stays.calRunBody {r} (h : Later s u) : Later s (calRunBody r u).2 := by
  unfold Machine.calRunBody
  extract_lets
  exact .ite_snd (.fails h) (.ite_snd (.fails h) (.ite_snd (.fails h) (.ite_snd (.fails h) (.ite_snd (.fails h) (.accepted
    (.addWork (.uncover h)))))))

theorem Stays.staticResults {kind sel ranges r} (h : Later s u) : Later s (u.staticResults kind sel ranges r) := by
  unfold State.staticResults
  exact .ite (.foldl .jumpRange (.modWs h)) (.modWs h)

theorem Stays.enterFit {sel f} (h : Later s u) : Later s (u.enterFit sel f) := by
  unfold State.enterFit
  split
  · exact h
  · exact .ite h (.rampTo (.rampTo (.modCal (.modSlice h))))

theorem Stays.calResults {kind sel ranges r} (h : Later s u) : Later s (u.calResults kind sel ranges r).1 := by
  unfold State.calResults
  split
  · exact .ite_fst (.fst (.staticResults h)) h
  · extract_lets
    exact h

theorem Stays.calRunEnd {c r} (h : Later s u) : Later s (u.calRunEnd c r) := by
  unfold State.calRunEnd
  split
  · exact h
  · extract_lets _ s0
    have h0 : Later s s0 := .ite (.foldl .enterFit h) h
    exact .ite h0 (.endWorkIf (.uncover (.modCal (.calResults h0))))

theorem Stays.calStatusBody {r} (h : Later s u) : Later s (calStatusBody r u).2 := .answers h
theorem Stays.extendMeas {i d} (h : Later s u) : Later s (u.extendMeas i d) := .modFw h
theorem Stays.extendCal (h : Later s u) : Later s u.extendCal := .extendMeas h

theorem Stays.calCommitBody {r} (h : Later s u) : Later s (calCommitBody r u).2 := by
  unfold Machine.calCommitBody
  split
  · exact .fails h
  · split
    · exact .fails h
    · extract_lets
      exact .accepted (.modCal (.addWork h))

theorem Stays.storeDone {ok} (h : Later s u) : Later s (u.storeDone ok) := by
  unfold State.storeDone
  split
  · exact h
  · exact .ite (.endWork (.logEv (.extendCal (.modCal h)))) (.endWork (.logEv (.modCal h)))

theorem Stays.takeWs {d} (h : Later s u) : Later s (u.takeWs d) := by
  unfold State.takeWs
  extract_lets _ _ _ _ _ s1 _ s2 s3
  have h2 : Later s s2 := by
    refine .foldl (fun h => ?_) (.modCal h)
    refine .foldl (fun h => ?_) h
    extract_lets
    split
    · exact .modSlice h
    · exact .ite (.retime (.modSlice h)) (.timeNow (.modSlice h))
  have h3 : Later s s3 := by
    refine .foldl (fun h => ?_) h2
    split
    · exact h
    · exact .ite (.modTw h) h
  exact .foldl (fun h => .ite (.rampRange h) (.jumpRange h)) h3

theorem Stays.rewriteRecord {b} (h : Later s u) : Later s (u.rewriteRecord b) := by
  unfold State.rewriteRecord
  exact .setFreeCtr (.modCal h)

theorem Stays.calRevertBody {r} (h : Later s u) : Later s (calRevertBody r u).2 := by
  unfold Machine.calRevertBody
  extract_lets
  exact .ite_snd (.fails h) (.ite_snd (.fails h) (.ite_snd (.fails h) (.ite_snd (.fails h) (.answers (.logEv (.extendCal
    (.takeWs (.ite h (.rewriteRecord h)))))))))

theorem Stays.selectCal (h : Later s u) : Later s u.selectCal := by
  unfold State.selectCal
  extract_lets bad s1 _ _ pick data s2
  have hbad {v b} (hv : Later s v) : Later s (bad v b) := by
    dsimp only [bad]
    split
    · exact .logEv hv
    · exact hv
  have h2 : Later s s2 := .takeWs (.modCal (hbad (hbad h)))
  clear_value s2 data pick
  split
  · exact .logEv h2
  · exact .logEv h2

theorem Stays.setLoop {k p c b} (h : Later s u) : Later s (u.setLoop k p c b) := by
  unfold State.setLoop
  extract_lets
  split
  · exact .modCal h
  · exact .ite (.retime (.modCal h)) (.checkLimits (.modCal h))

theorem Stays.skewUpdate {c est slope full} (h : Later s u) : Later s (u.skewUpdate c est slope full) := by
  unfold State.skewUpdate
  extract_lets s0 _ _ s1
  have h1 : Later s s1 := .modCal (.modCal h)
  exact .ite (.modCal (.modCal h)) (.ite (.modCal h) (.ite h1 (.foldl .setLoop h1)))

theorem Stays.skewWindow {c tick codes} (h : Later s u) : Later s (u.skewWindow c tick codes) := by
  unfold State.skewWindow
  exact .ite h (.skewUpdate h)

/-! The sequencer. -/

theorem Stays.openAcq {c n} (h : Later s u) : Later s (u.openAcq c n) := .modTr h

theorem Stays.armChan {follow c} (h : Later s u) : Later s (u.armChan follow c) := by
  unfold State.armChan
  exact .sweep (.armCal (.modCh (.openAcq (.takeKeys h))))

theorem Stays.armBegin {follow sel} (h : Later s u) : Later s (u.armBegin follow sel) := by
  unfold State.armBegin
  exact .syncDomains (.syncUnits (.memRequest (.leaveSleep (.foldl .armChan h))))

theorem Stays.sendArm {c} (h : Later s u) : Later s (u.sendArm c) := by
  unfold State.sendArm
  exact .sendN (.modAr h)

theorem Stays.armBody {r} (h : Later s u) : Later s (armBody r u).2 := by
  unfold Machine.armBody
  extract_lets
  split
  · exact h
  · exact .ite_snd (.snd (.sendArm (.armBegin h))) (.snd (.armBegin h))

theorem Stays.revertArm {sel} (h : Later s u) : Later s (u.revertArm sel) := by
  unfold State.revertArm
  exact .syncDomains (.syncUnits (.foldl (fun h => .ite (.modCh h) h) h))

theorem Stays.setTimer {c} (h : Later s u) : Later s (u.setTimer c) := by
  unfold State.setTimer
  extract_lets
  split
  · exact .ite (.logEv (.modCh h)) (.modCh h)
  · exact .modCh h
  · exact .modCh h

theorem Stays.commitChan {c} (h : Later s u) : Later s (u.commitChan c) := by
  unfold State.commitChan
  exact .setTimer (.modCh h)

theorem Stays.startUnits {c} (h : Later s u) : Later s (u.startUnits c) := .startDec (.startDet (.ite (.stopDec h) h))
theorem Stays.openAtArm {c} (h : Later s u) : Later s (u.openAtArm c) := .ite (.startRun h) (.ite (.openCont h) h)

theorem Stays.commitChans {sel} (h : Later s u) : Later s (u.commitChans sel) := by
  unfold State.commitChans
  exact .foldl .openAtArm (.syncUnits (.foldl .startUnits (.foldl .commitChan h)))

theorem Stays.sendReady {result} (h : Later s u) : Later s (u.sendReady result) := .sendN h
theorem Stays.tellReady {result} (h : Later s u) : Later s (u.tellReady result) := .ite h (.sendReady (.modAr h))

theorem Stays.followStep (h : Later s u) : Later s u.followStep := by
  unfold State.followStep
  extract_lets _ _ _ s1 s2
  have h1 : Later s s1 := .ite (.tellReady h) (.ite (.tellReady h) h)
  have h2 : Later s s2 := .commitChans h1
  exact .ite (.ite (.modAr h2) h2) h1

theorem Stays.commitOwn {sel array} (h : Later s u) : Later s (u.commitOwn sel array) := by
  unfold State.commitOwn
  exact .finish (.modAr (.commitChans h))

theorem Stays.armCommit (h : Later s u) : Later s u.armCommit := by
  unfold State.armCommit
  dsimp only
  split
  · exact .commitOwn (.ite (.followStep (.reach h)) (.reach h))
  · exact .ite (.ite (.followStep (.reach h)) (.reach h)) h

theorem Stays.endFollow (h : Later s u) : Later s u.endFollow := .modAr (.tellReady h)

theorem Stays.failArm {status detail} (h : Later s u) : Later s (u.failArm status detail) := by
  unfold State.failArm
  split
  · exact h
  · exact .finish (.revertArm h)

theorem Stays.armWakeFail {d} (h : Later s u) : Later s (u.armWakeFail d) := by
  unfold State.armWakeFail
  extract_lets _ _ s1 s2 s3
  have h2 : Later s s2 := .revertArm (.logEv (.modPw h))
  have h3 : Later s s3 := .ite (.endFollow h2) h2
  exact .ite h (.ite (.failArm h3) h3)

theorem Stays.disarmChan {q reason c} (h : Later s u) : Later s (State.disarmChan q reason u c) := by
  unfold State.disarmChan
  split
  · exact .ite (.orderHalt h) h
  · exact h
  · exact .orderHalt h

theorem Stays.haltChan {c} (h : Later s u) : Later s (u.haltChan c) := by
  unfold State.haltChan
  split
  · exact h
  · split
    · exact .revertArm h
    · split
      · exact .modCh h
      · extract_lets s1
        have h1 : Later s s1 := .stopChan (.lastEvents h)
        exact .ite (.modCh h1) h1

theorem Stays.haltAll {q} (h : Later s u) : Later s (u.haltAll q) := by
  unfold State.haltAll
  extract_lets s1
  have h1 : Later s s1 := .foldl (fun h => .ite (.haltChan h) h) h
  exact .ite (.endFollow h1) h1

theorem Stays.finishDisarm (h : Later s u) : Later s u.finishDisarm := by
  unfold State.finishDisarm
  split
  · exact .ite (.finish h) h
  · exact h

theorem Stays.disarmBody {r} (h : Later s u) : Later s (disarmBody r u).2 := by
  unfold Machine.disarmBody
  extract_lets
  exact .ite_snd (.snd (.reach h)) (.snd (.foldl .disarmChan (.ite (.sendN h) h)))

theorem Stays.forceBody {r} (h : Later s u) : Later s (forceBody r u).2 := by
  unfold Machine.forceBody
  extract_lets
  exact .ite_snd (.fails h) (.ite_snd (.fails h) (.snd (.pushEv (.reach h))))

theorem Stays.finishForce (h : Later s u) : Later s u.finishForce := by
  unfold State.finishForce
  split
  · exact .ite (.finish h) h
  · exact h

theorem Stays.acqStatusBody {r} (h : Later s u) : Later s (acqStatusBody r u).2 := .ite_snd (.fails h) (.answers h)

theorem Stays.loadSeqBody {r} (h : Later s u) : Later s (loadSeqBody r u).2 := by
  unfold Machine.loadSeqBody
  extract_lets
  exact .ite_snd (.answers (.modCh h)) (.fails h)

theorem Stays.raiseTimer {c x} (h : Later s u) : Later s (u.raiseTimer c x) := by
  unfold State.raiseTimer
  exact .modCh (.pushEv h)

theorem Stays.timerEvent {c} (h : Later s u) : Later s (u.timerEvent c) := by
  unfold State.timerEvent
  split
  · exact .ite (.raiseTimer h) h
  · exact h

theorem Stays.timersCross {b} (h : Later s u) : Later s (u.timersCross b) := .foldl (fun h => .ite (.raiseTimer h) h) h

theorem Stays.happenIf {c p} (h : Later s u) : Later s (u.happenIf c p) := by
  unfold State.happenIf
  split
  · exact h
  · split
    · exact h
    · extract_lets s1
      have h1 : Later s s1 := .catchUp (.presentUpTo h)
      split
      · exact h1
      · exact .happen h1

theorem Stays.fillSeg {c g codes} (h : Later s u) : Later s (u.fillSeg c g codes) :=
  .ite h (.sweep (.hear (.modTr (.storeWords (.modSeg (.countSats h))))))

theorem Stays.giveValues {c codes} (h : Later s u) : Later s (u.giveValues c codes) := by
  unfold State.giveValues
  split
  · exact h
  · exact .ite (.fillSeg h) (.onOldRun h .fillSeg)

theorem Stays.closeStep {c codes} (h : Later s u) : Later s (u.closeStep c codes) := by
  unfold State.closeStep
  exact .ite (.takeRecord (.happenIf h)) (.giveValues (.happenIf h))

theorem Stays.presentDue (h : Later s u) : Later s u.presentDue := by
  unfold State.presentDue
  extract_lets
  split
  · exact .ite (.haltAll h) (.elim h (.ite (.presentCycle h) h))
  · exact .elim h (.ite (.presentCycle h) h)

/-! The clock. -/

theorem Stays.ckEvent {code sev b v} (h : Later s u) : Later s (u.ckEvent code sev b v) := .logEv h

theorem Stays.applyQualAt {b stepped} (h : Later s u) : Later s (u.applyQualAt b stepped) := by
  unfold State.applyQualAt
  extract_lets _ s1
  have h1 : Later s s1 := .modTm (.setQualAt h)
  exact .ite (.modCk h1) h1

theorem Stays.applyQual (h : Later s u) : Later s u.applyQual := .applyQualAt h
theorem Stays.setDisc {d} (h : Later s u) : Later s (u.setDisc d) := .applyQual (.modCk h)

theorem Stays.enterLocked (h : Later s u) : Later s u.enterLocked := by
  unfold State.enterLocked
  exact .endWorkIf (.modCk (.ckEvent (.setDisc h)))

theorem Stays.takeError {e} (h : Later s u) : Later s (u.takeError e) := by
  unfold State.takeError
  exact .modCk h

theorem Stays.loseLock {gate} (h : Later s u) : Later s (u.loseLock gate) := by
  unfold State.loseLock
  extract_lets s1 s2
  have h2 : Later s s2 := .ite (.setDisc (.modCk h)) (.modCk h)
  exact .endWorkIf (.modCk (.ite (.modTm h2) h2))

theorem Stays.gainLock {e} (h : Later s u) : Later s (u.gainLock e) := by
  unfold State.gainLock
  extract_lets s1 _ s2 s3 s4
  have h2 : Later s s2 := .modCk (.takeError h)
  have h4 : Later s s4 := .ckEvent (.ite h2 (.setDisc h2))
  exact .ite (.enterLocked h4) h4

theorem Stays.refLose {st freq gate} (h : Later s u) : Later s (u.refLose st freq gate) := by
  unfold State.refLose
  exact .ite (.ckEvent (.ite (.modCk h) (.loseLock (.modCk h)))) (.modCk h)

theorem Stays.refGate {edges freq} (h : Later s u) : Later s (u.refGate edges freq) := by
  unfold State.refGate
  exact .modCk (.ite (.modCk h) (.refLose h))

theorem Stays.refAbsent (h : Later s u) : Later s u.refAbsent := .ite h (.refLose h)
theorem Stays.refQualify {e} (h : Later s u) : Later s (u.refQualify e) := .ite (.ite (.modCk h) (.gainLock (.modCk h))) h
theorem Stays.pushSteer {v} (h : Later s u) : Later s (u.pushSteer v) := .modCk h

theorem Stays.disciplineUpdate {e steer} (h : Later s u) : Later s (u.disciplineUpdate e steer) :=
  .ite (.pushSteer (.ite (.enterLocked (.takeError h)) (.takeError h))) h

theorem Stays.sendEpoch {b d kind rest} (h : Later s u) : Later s (u.sendEpoch b d kind rest) := .modAr (.sendN h)

theorem Stays.stepDone {b d} (h : Later s u) : Later s (u.stepDone b d) := by
  unfold State.stepDone
  exact .modMr h

theorem Stays.doStep {b d} (h : Later s u) : Later s (u.doStep b d) :=
  .ite h (.logEvAt (.timersCross (.stepDone (.modCk (.applyQualAt (.shiftTime h))))))

theorem Stays.afterStep {e} (h : Later s u) : Later s (u.afterStep e) := by
  unfold State.afterStep
  exact .ite (.enterLocked (.modCk h)) (.setDisc (.modCk h))

theorem Stays.dropEpoch {d} (h : Later s u) : Later s (u.dropEpoch d) := .modAr h

theorem Stays.performStep {b d rest} (h : Later s u) : Later s (u.performStep b d rest) := by
  unfold State.performStep
  extract_lets s1
  have h1 : Later s s1 := .modTm (.doStep h)
  exact .ite (.afterStep h1) h1

theorem Stays.ownStep {e} (h : Later s u) : Later s (u.ownStep e) := by
  unfold State.ownStep
  split
  · exact h
  · split
    · exact h
    · exact .ite h (.ite (.sendEpoch (.takeError h)) (.ite h (.performStep (.takeError h))))

theorem Stays.announcedStep {d} (h : Later s u) : Later s (u.announcedStep d) := by
  unfold State.announcedStep
  split
  · exact .performStep (.dropEpoch h)
  · exact .doStep (.dropEpoch h)

theorem Stays.clockStep {e} (h : Later s u) : Later s (u.clockStep e) := by
  unfold State.clockStep
  split
  · exact .announcedStep h
  · extract_lets
    split
    · exact .announcedStep (.ownStep h)
    · exact .ownStep h

theorem Stays.loadBandBody {temp r} (h : Later s u) : Later s (loadBandBody temp r u).2 := by
  unfold Machine.loadBandBody
  extract_lets
  exact .ite_snd (.fails h) (.ite_snd (.fails h) (.answers (.modCk h)))

theorem Stays.endMeasure {m status} (h : Later s u) : Later s (u.endMeasure m status) := .endWorkIf (.modTm h)

theorem Stays.tdcUncal {c} (h : Later s u) : Later s (u.tdcUncal c) := by
  unfold State.tdcUncal
  exact .ite (.logEv (.modTm h)) (.modTm h)

theorem Stays.tdcStop (h : Later s u) : Later s u.tdcStop := by
  unfold State.tdcStop
  exact .foldl .endMeasure (.foldl .tdcUncal h)

theorem Stays.sendPause (h : Later s u) : Later s u.sendPause := .foldl .sendOn h

theorem Stays.niredStop (h : Later s u) : Later s u.niredStop := by
  unfold State.niredStop
  exact .ite (.loseLock (.modAr h)) (.modAr h)

theorem Stays.toFallback (h : Later s u) : Later s u.toFallback := by
  unfold State.toFallback
  split
  · exact h
  · extract_lets s1
    have h1 : Later s s1 := .tdcStop (.modCk h)
    exact .ite h1 (.niredStop h1)

theorem Stays.relockEvent {cause} (h : Later s u) : Later s (u.relockEvent cause) := by
  unfold State.relockEvent
  exact .foldl .orderStop (.ite (.ckEvent h) (.foldl (fun h => .ite (.orderHalt h) h) (.ckEvent h)))

theorem Stays.startRelock {cause temp} (h : Later s u) : Later s (u.startRelock cause temp) := by
  unfold State.startRelock
  extract_lets _ s1 s2 s3 s4
  have h2 : Later s s2 := .ite (.rollback (.relockEvent h)) (.relockEvent h)
  have h4 : Later s s4 := .modCk (.srRequest (.ite h2 (.sendPause h2)))
  exact .ite (.toFallback h4) h4

theorem Stays.lockFail {band} (h : Later s u) : Later s (u.lockFail band) := by
  unfold State.lockFail
  extract_lets s1 s2
  have h2 : Later s s2 := .failArm (.endWorkIf (.ckEvent (.modCk h)))
  exact .ite h2 (.endFollow (.revertArm h2))

theorem Stays.attemptFails (h : Later s u) : Later s u.attemptFails := by
  unfold State.attemptFails
  split
  · exact h
  · split
    · exact h
    · split
      · exact .modCk h
      · exact .lockFail h

theorem Stays.lockDeclared (h : Later s u) : Later s u.lockDeclared := by
  unfold State.lockDeclared
  split
  · exact h
  · exact .ite (.modCk h) h

theorem Stays.freqAgrees (h : Later s u) : Later s u.freqAgrees := by
  unfold State.freqAgrees
  split
  · exact h
  · exact .ite (.modCk h) h

theorem Stays.relockDone (h : Later s u) : Later s u.relockDone := by
  unfold State.relockDone
  split
  · exact h
  · exact .ite h (.syncDomains (.endWorkIf (.ckEvent (.modTm (.modCk (.ite (.srWake h) h))))))

theorem Stays.lockLost {temp} (h : Later s u) : Later s (u.lockLost temp) := .ite (.startRelock h) h

theorem Stays.bandEdge {ctl temp} (h : Later s u) : Later s (u.bandEdge ctl temp) := by
  unfold State.bandEdge
  split
  · exact h
  · extract_lets _ s1 s2
    have h2 : Later s s2 := .ite (.ckEvent (.modCk h)) (.modCk h)
    exact .ite (.startRelock h2) h2

theorem Stays.overspeed {excess temp} (h : Later s u) : Later s (u.overspeed excess temp) :=
  .ite h (.ite (.startRelock (.ckEvent h)) (.ite (.toFallback (.ckEvent h)) h))

theorem Stays.relockBody {temp r} (h : Later s u) : Later s (relockBody temp r u).2 := by
  unfold Machine.relockBody
  extract_lets
  exact .ite_snd (.fails h) (.ite_snd (.fails h) (.ite_snd (.fails h) (.ite_snd (.fails h) (.ite_snd (.fails h) (.ite_snd
    (.accepted (.startRelock (.addWork h))) (.accepted (.setDisc (.modCk (.addWork h)))))))))

/-! Trellis commands. -/

theorem Stays.trellisStatusBody {r} (h : Later s u) : Later s (trellisStatusBody r u).2 := by
  unfold Machine.trellisStatusBody
  extract_lets
  exact .ite_snd (.fails h) (.ite_snd (.answers h) (.answers h))

theorem Stays.setQuotaBody {r} (h : Later s u) : Later s (setQuotaBody r u).2 := by
  unfold Machine.setQuotaBody
  split
  · exact .fails h
  · extract_lets
    exact .answers (.overQuotaCheck (.quotaCheck (.modCh (.reach h))))

theorem Stays.releaseSegs {n} (h : Later s u) : Later s (u.releaseSegs n) := .foldl .loseSeg h
theorem Stays.pinSegs {n pin} (h : Later s u) : Later s (u.pinSegs n pin) := .modTr h

theorem Stays.segmentOp {op n} (h : Later s u) : Later s (u.segmentOp op n).2 := by
  unfold State.segmentOp
  extract_lets
  split
  · exact .answers (.releaseSegs h)
  · exact .ite_snd (.fails h) (.answers (.pinSegs h))
  · exact .answers (.pinSegs h)

theorem Stays.releaseBody {r} (h : Later s u) : Later s (releaseBody r u).2 := by
  unfold Machine.releaseBody
  extract_lets
  split
  · exact .fails h
  · exact .ite_snd (.fails h) (.segmentOp (.reach h))

theorem Stays.pageNeed {c} (h : Later s u) : Later s (u.pageNeed c) := by
  unfold State.pageNeed
  split
  · exact h
  · exact .ite h (.roomFor h)

theorem Stays.dropHeld (h : Later s u) : Later s u.dropHeld := .modTr h

theorem Stays.grantHeld {x n k} (h : Later s u) : Later s (u.grantHeld x n k) := by
  unfold State.grantHeld
  split
  · exact .ite (.linkDesc (.dropHeld h)) (.dropHeld h)
  · split
    · exact .pageNeed (.addSegPage (.takePage (.dropHeld h)))
    · exact .dropHeld h

theorem Stays.dropUnwritten {c d} (h : Later s u) : Later s (u.dropUnwritten c d) := .foldl .dropSeg h

theorem Stays.failHeld {x} (h : Later s u) : Later s (u.failHeld x) := by
  unfold State.failHeld
  split
  · exact .fullStop (.unopenSeg (.dropUnwritten (.dropHeld h)))
  · exact .fullStop (.dropUnwritten (.dropHeld h))
  · exact .truncateOpen (.dropHeld h)

theorem Stays.refuseHeld {x} (h : Later s u) : Later s (u.refuseHeld x) := by
  unfold State.refuseHeld
  extract_lets s1
  have h1 : Later s s1 := .countRefused h
  split
  · exact .grantHeld (.ite_fst (.requestRing h1) (.fst h1))
  · exact .ite_fst (.requestRing h1) (.fst h1)
  · exact .failHeld (.ite_fst (.requestRing h1) (.fst h1))

theorem Stays.heldStep (h : Later s u) : Later s u.heldStep := by
  unfold State.heldStep
  split
  · exact h
  · split
    · exact .dropHeld h
    · split
      · exact .ite (.refuseHeld h) (.grantHeld h)
      · exact .ite (.refuseHeld h) h
      · exact .refuseHeld h

theorem Stays.writeDescriptor (h : Later s u) : Later s u.writeDescriptor := by
  unfold State.writeDescriptor
  split
  · exact h
  · split
    · exact h
    · extract_lets
      split
      · exact .modTr h
      · exact .ite h (.modSeg (.storeDesc (.modTr h)))

/-! The host link. -/

theorem Stays.hostWrite {a bs} (h : Later s u) : Later s (u.hostWrite a bs) := .modHl h

theorem Stays.queueCreateBody {r} (h : Later s u) : Later s (queueCreateBody r u).2 := by
  unfold Machine.queueCreateBody
  extract_lets
  exact .ite_snd (.fails h) (.ite_snd (.fails h) (.answers (.modQ h)))

theorem Stays.indexWrite {q v set} (h : Later s u) : Later s (u.indexWrite q v set) := by
  unfold State.indexWrite
  exact .ite h (.ite (.modQ h) (.modQ h))

theorem Stays.tailWrite {q v} (h : Later s u) : Later s (u.tailWrite q v) := .ite h (.indexWrite h)
theorem Stays.cheadWrite {q v} (h : Later s u) : Later s (u.cheadWrite q v) := .indexWrite h
theorem Stays.busySegs {names f} (h : Later s u) : Later s (u.busySegs names f) := .foldl .modSeg h

theorem Stays.fetchError {q code} (h : Later s u) : Later s (u.fetchError q code) := by
  unfold State.fetchError
  exact .msix (.logEv (.modQ h))

theorem Stays.takeDesc {q bs} (h : Later s u) : Later s (u.takeDesc q bs) := by
  unfold State.takeDesc
  exact .modQ (.busySegs h)

theorem Stays.fetchStep {q f} (h : Later s u) : Later s (u.fetchStep q f) := by
  unfold State.fetchStep
  split
  · exact h
  · split
    · exact .ite (.fetchError h) h
    · exact .takeDesc (.memRequest h)

theorem Stays.freeSegs {names release} (h : Later s u) : Later s (u.freeSegs names release) :=
  .foldl (fun h => .ite (.dropSeg (.modSeg h)) (.modSeg h)) h

theorem Stays.writeRecord {q e v} (h : Later s u) : Later s (u.writeRecord q e v) := by
  unfold State.writeRecord
  extract_lets _ _ s1 s2 s3
  have h3 : Later s s3 := .freeSegs (.modHv (.modQ (.hostWrite (.hostWrite h))))
  exact .ite (.msix h3) h3

theorem Stays.countDying {q cancelled} (h : Later s u) : Later s (u.countDying q cancelled) := by
  unfold State.countDying
  split
  · exact .ite (.modMr h) h
  · exact h

theorem Stays.queueGone {q} (h : Later s u) : Later s (u.queueGone q) := by
  unfold State.queueGone
  split
  · extract_lets
    split
    · exact .ite (.finish (.modQ h)) (.modQ h)
    · exact .modQ h
  · exact h

theorem Stays.recordStep {q} (h : Later s u) : Later s (u.recordStep q) := by
  unfold State.recordStep
  extract_lets
  split
  · exact h
  · exact .ite h (.queueGone (.countDying (.writeRecord (.served h))))

theorem Stays.cancelAll {q l n} (h : Later s u) : Later s (State.cancelAll q l n u) := by
  induction n generalizing u l with
  | zero => exact h
  | succ n ih =>
    unfold State.cancelAll
    split
    · exact h
    · exact ih (.countDying (.writeRecord h))

theorem Stays.queueDestroyBody {moved r} (h : Later s u) : Later s (queueDestroyBody moved r u).2 := by
  unfold Machine.queueDestroyBody
  extract_lets
  exact .ite_snd (.fails h) (.ite_snd (.fails h) (.ite_snd (.snd (.queueGone (.modQ h))) (.ite_snd (.snd (.queueGone
    (.cancelAll (.modQ h)))) (.snd (.modQ h)))))

theorem Stays.drainExpiry {q moved} (h : Later s u) : Later s (u.drainExpiry q moved) := by
  unfold State.drainExpiry
  split
  · exact .ite (.queueGone (.cancelAll h)) h
  · exact h

theorem Stays.unmask {v} (h : Later s u) : Later s (u.unmask v) := .ite h (.ite (.msix (.modHl (.modHl h))) (.modHl h))

theorem Stays.dropQueues (h : Later s u) : Later s u.dropQueues := by
  unfold State.dropQueues
  extract_lets s1
  have h1 : Later s s1 := .foldl (fun h => .modQ (.foldl .freeSegs h)) h
  split
  · exact .finish h1
  · exact h1

theorem Stays.dropHostWork (h : Later s u) : Later s u.dropHostWork := by
  unfold State.dropHostWork
  extract_lets s1 s2 s3
  have h2 : Later s s2 := .foldl .endMeasure (.foldl .loadFailed h)
  have h3 : Later s s3 := .ite (.endWork (.modAr h2)) h2
  exact .ite (.endWork (.modFw h3)) h3

theorem Stays.linkDrop {cause} (h : Later s u) : Later s (u.linkDrop cause) :=
  .ite h (.dropHostWork (.logEv (.dropQueues (.modHl h))))

theorem Stays.linkRise {rate lanes} (h : Later s u) : Later s (u.linkRise rate lanes) := by
  unfold State.linkRise
  split
  · exact h
  · extract_lets s1 s2
    have h2 : Later s s2 := .logEv (.modHl h)
    exact .ite (.logEv h2) h2

/-! Time and the TDC. -/

theorem Stays.tmEvent {code sev b v} (h : Later s u) : Later s (u.tmEvent code sev b v) := .logEv h
theorem Stays.putMeasure {m} (h : Later s u) : Later s (u.putMeasure m) := .modTm h

theorem Stays.closeMeasure {m iv fl close} (h : Later s u) : Later s (u.closeMeasure m iv fl close) := by
  unfold State.closeMeasure
  split
  · exact h
  · split
    · exact .endMeasure h
    · extract_lets s1 _ s2
      have h2 : Later s s2 := .putMeasure (.modHl h)
      exact .ite (.endMeasure h2) h2

theorem Stays.pairMeasure {m b} (h : Later s u) : Later s (u.pairMeasure m b) := by
  unfold State.pairMeasure
  split
  · exact h
  · exact .closeMeasure h

theorem Stays.expireMeasure {m lim} (h : Later s u) : Later s (u.expireMeasure m lim) := by
  unfold State.expireMeasure
  split
  · exact .ite (.closeMeasure h) h
  · exact h

theorem Stays.startEdge {m a} (h : Later s u) : Later s (u.startEdge m a) := by
  unfold State.startEdge
  split
  · exact h
  · dsimp only
    split
    · exact .putMeasure h
    · exact .ite (.expireMeasure (.putMeasure h)) (.pairMeasure (.putMeasure h))

theorem Stays.stopEdge {m b} (h : Later s u) : Later s (u.stopEdge m b) := by
  unfold State.stopEdge
  split
  · exact .ite (.putMeasure h) (.ite (.pairMeasure h) (.putMeasure h))
  · exact .putMeasure h

theorem Stays.measureEdge {k c falling at_ e} (h : Later s u) : Later s (u.measureEdge k c falling at_ e) := by
  unfold State.measureEdge
  split
  · exact h
  · extract_lets s1
    have h1 : Later s s1 := .expireMeasure h
    split
    · exact h1
    · exact .ite (.startEdge h1) (.ite (.stopEdge h1) h1)

theorem Stays.missEdge {c} (h : Later s u) : Later s (u.missEdge c) := .modTm h

theorem Stays.ppsLose {kind} (h : Later s u) : Later s (u.ppsLose kind) := by
  unfold State.ppsLose
  split
  · exact h
  · extract_lets s1 s2
    have h2 : Later s s2 := .modCk (.tmEvent (.modTm h))
    split
    · exact h2
    · exact .ite h2 (.ite (.tmEvent (.modTm h2)) (.modTm h2))

theorem Stays.ppsJudge {at_ ref valid} (h : Later s u) : Later s (u.ppsJudge at_ ref valid) := by
  unfold State.ppsJudge
  extract_lets _ _ _ s1 s2
  have h2 : Later s s2 := .modTm (.ite h (.ppsLose h))
  exact .ite (.tmEvent (.modTm h2)) h2

theorem Stays.auxMark {p fine x valid} (h : Later s u) : Later s (u.auxMark p fine x valid) := by
  unfold State.auxMark
  exact .ite h (.pushEv h)

theorem Stays.edgeUses {c falling fine} (h : Later s u) : Later s (u.edgeUses c falling fine) := by
  unfold State.edgeUses
  extract_lets _ _ _ s1
  have h1 : Later s s1 := by
    unfold s1
    split
    · split
      · exact .pushEv h
      · exact .pushEv h
      · exact .ppsJudge h
      · exact h
      · exact h
      · exact h
      · exact .auxMark h
    · exact h
  exact .foldl .measureEdge h1

theorem Stays.tdcEdge {c fine falling} (h : Later s u) : Later s (u.tdcEdge c fine falling) :=
  .ite h (.ite (.missEdge h) (.edgeUses (.modTm h)))

theorem Stays.ppsMissing (h : Later s u) : Later s u.ppsMissing := by
  unfold State.ppsMissing
  split
  · exact h
  · exact .ite h (.modTm (.ppsLose h))

theorem Stays.ppsPulse (h : Later s u) : Later s u.ppsPulse := .ite (.modTm h) h
theorem Stays.ppsPulseEnd (h : Later s u) : Later s u.ppsPulseEnd := .ite (.modTm h) h
theorem Stays.schedule {q} (h : Later s u) : Later s (u.schedule q) := .ite (.modTm h) (.modTm h)

theorem Stays.setTimeBody {r} (h : Later s u) : Later s (setTimeBody r u).2 := by
  unfold Machine.setTimeBody
  extract_lets
  exact .ite_snd (.fails h) (.ite_snd (.fails h) (.answers (.schedule h)))

theorem Stays.doMark {b kind d} (h : Later s u) : Later s (u.doMark b kind d) := by
  unfold State.doMark
  exact .logEvAt (.timersCross (.modTm (.applyQualAt (.shiftTime h))))

theorem Stays.performMark {b kind d rest} (h : Later s u) : Later s (u.performMark b kind d rest) := by
  unfold State.performMark
  extract_lets s1 s2
  have h2 : Later s s2 := .doMark (.modTm h)
  exact .ite (.afterStep h2) h2

theorem Stays.ownMark (h : Later s u) : Later s u.ownMark := by
  unfold State.ownMark
  split
  · exact h
  · split
    · exact h
    · split
      · exact h
      · exact .ite h (.ite (.sendEpoch h) (.performMark h))

theorem Stays.announcedMark {d} (h : Later s u) : Later s (u.announcedMark d) := by
  unfold State.announcedMark
  split
  · exact .performMark (.dropEpoch h)
  · exact .doMark (.dropEpoch h)

theorem Stays.epochMark (h : Later s u) : Later s u.epochMark := by
  unfold State.epochMark
  split
  · exact .announcedMark h
  · extract_lets
    split
    · exact .announcedMark (.ownMark h)
    · exact .ownMark h

theorem Stays.tdcCal {c err} (h : Later s u) : Later s (u.tdcCal c err) := by
  unfold State.tdcCal
  split
  · exact h
  · extract_lets s1 s2
    have h2 : Later s s2 := .modTm (.modTm h)
    exact .ite (.tdcUncal (.modTm h)) (.ite (.ite (.tmEvent h2) h2) (.modTm h))

theorem Stays.tdcTimeout {c} (h : Later s u) : Later s (u.tdcTimeout c) := .ite (.tdcUncal h) h

theorem Stays.measureBody {r} (h : Later s u) : Later s (measureBody r u).2 := by
  unfold Machine.measureBody
  extract_lets
  split
  · exact .fails h
  · split
    · exact .fails (.endMeasure h)
    · exact .ite_snd (.fails h) (.ite_snd (.fails h) (.ite_snd (.fails h) (.accepted (.addWork (.modTm h)))))

theorem Stays.measureExpiry {c} (h : Later s u) : Later s (u.measureExpiry c) := by
  unfold State.measureExpiry
  split
  · exact h
  · exact .expireMeasure h

theorem Stays.timeStatusBody {r} (h : Later s u) : Later s (timeStatusBody r u).2 := .answers h

/-! The array. -/

theorem Stays.arEvent {code sev addr port reason v} (h : Later s u) : Later s (u.arEvent code sev addr port reason v) :=
  .logEv h

theorem Stays.recomputeW (h : Later s u) : Later s u.recomputeW := by
  unfold State.recomputeW
  exact .ite (.arEvent (.modAr h)) (.modAr h)

theorem Stays.modMembers {g} (h : Later s u) : Later s (u.modMembers g) := .modAr h
theorem Stays.modMember {addr g} (h : Later s u) : Later s (u.modMember addr g) := .modAr h
theorem Stays.unalign (h : Later s u) : Later s u.unalign := .applyQual (.modAr h)
theorem Stays.loseUp (h : Later s u) : Later s u.loseUp := .loseLock (.modAr h)

theorem Stays.ownReference {e} (h : Later s u) : Later s (u.ownReference e) := by
  unfold State.ownReference
  extract_lets s1
  have h1 : Later s s1 := .applyQual (.modAr h)
  exact .ite (.gainLock h1) h1

theorem Stays.standalone (h : Later s u) : Later s u.standalone := by
  unfold State.standalone
  exact .syncDomains (.applyQual (.ite (.modCk (.loseLock (.modAr h))) (.modAr h)))

theorem Stays.beManager {addr astate table asym} (h : Later s u) : Later s (u.beManager addr astate table asym) :=
  .applyQual (.modAr h)

theorem Stays.takeCopy {table asym} (h : Later s u) : Later s (u.takeCopy table asym) := .modAr h

theorem Stays.promote {astate e} (h : Later s u) : Later s (u.promote astate e) := by
  unfold State.promote
  exact .recomputeW (.ownReference (.loseUp (.beManager h)))

theorem Stays.joinOut {role} (h : Later s u) : Later s (u.joinOut role) := .sendN h
theorem Stays.askJoin {role} (h : Later s u) : Later s (u.askJoin role) := .ite (.joinOut h) (.modAr h)
theorem Stays.sendJoin (h : Later s u) : Later s u.sendJoin := .askJoin h

theorem Stays.portUp {p peer standby} (h : Later s u) : Later s (u.portUp p peer standby) := by
  unfold State.portUp
  split
  · exact h
  · extract_lets _ s1 s2
    have h2 : Later s s2 := .modAr (.modAr h)
    exact .ite (.modAr h) (.ite h2 (.ite (.ite (.sendJoin (.modAr h2)) h2) (.ite (.ite h2 (.arEvent (.modAr h2))) (.ite h2
      (.sendJoin h2)))))

theorem Stays.orphan (h : Later s u) : Later s u.orphan := .arEvent (.unalign (.loseUp (.modAr h)))

theorem Stays.takeRoute {level hops} (h : Later s u) : Later s (u.takeRoute level hops) := by
  unfold State.takeRoute
  exact .arEvent (.sendJoin (.unalign (.loseUp (.modAr h))))

theorem Stays.failRelay (h : Later s u) : Later s u.failRelay := by
  unfold State.failRelay
  split
  · exact .ite h (.finish h)
  · exact h

theorem Stays.loseMember {addr} (h : Later s u) : Later s (u.loseMember addr) :=
  .ite h (.ite (.failRelay (.recomputeW (.arEvent (.modAr h)))) (.modAr h))

theorem Stays.loseChild {p alive} (h : Later s u) : Later s (u.loseChild p alive) := by
  unfold State.loseChild
  split
  · exact h
  · exact .ite (.ite (.arEvent (.modAr (.loseMember h))) (.loseMember h)) (.sendN (.loseMember h))

theorem Stays.loseUpstream {alive route} (h : Later s u) : Later s (u.loseUpstream alive route) := by
  unfold State.loseUpstream
  split
  · exact .modAr (.unalign (.loseUp h))
  · split
    · exact .sendJoin (.unalign (.loseUp (.modAr h)))
    · split
      · exact .ite (.takeRoute h) (.orphan h)
      · exact .orphan h

theorem Stays.portLoss {p up alive route} (h : Later s u) : Later s (u.portLoss p up alive route) :=
  .ite (.loseUpstream h) (.loseChild h)

theorem Stays.portDown {p lock alive route} (h : Later s u) : Later s (u.portDown p lock alive route) :=
  .ite h (.ite (.modAr h) (.ite (.ite (.loseUp (.modAr h)) (.modAr h)) (.portLoss (.modAr h))))

theorem Stays.pauseExpire {p alive route} (h : Later s u) : Later s (u.pauseExpire p alive route) :=
  .ite (.ite (.modAr h) (.portLoss (.modAr h))) h

theorem Stays.reroute {level hops} (h : Later s u) : Later s (u.reroute level hops) := .ite (.takeRoute h) h

theorem Stays.takeoverNow {e table asym} (h : Later s u) : Later s (u.takeoverNow e table asym) := by
  unfold State.takeoverNow
  split
  · exact h
  · split
    · exact h
    · extract_lets s1 s2 s3
      have h3 : Later s s3 := .arEvent (.modAr (.sendOn (.promote (.takeCopy h))))
      exact .ite (.arEvent h3) h3

theorem Stays.sendTime {p} (h : Later s u) : Later s (u.sendTime p) := .ite h (.sendOn h)

theorem Stays.alignStep {moved} (h : Later s u) : Later s (u.alignStep moved) := by
  unfold State.alignStep
  exact .applyQual (.modAr h)

theorem Stays.upstreamTime {k m} (h : Later s u) : Later s (u.upstreamTime k m) := by
  unfold State.upstreamTime
  extract_lets _ _ _ s1
  have h1 : Later s s1 := .takeError (.modAr (.free h))
  exact .alignStep (.ite (.gainLock h1) h1)

theorem Stays.takeTime {p m} (h : Later s u) : Later s (u.takeTime p m) := .ite h (.ite (.upstreamTime (.modAr h)) (.modAr h))
theorem Stays.forward {mtype args} (h : Later s u) : Later s (u.forward mtype args) := .ite (.sendN h) h

theorem Stays.takeEpoch {b delta kind} (h : Later s u) : Later s (u.takeEpoch b delta kind) :=
  .ite h (.ite (.modAr (.forward h)) (.arEvent (.ite (.doStep (.forward h)) (.doMark (.forward h)))))

theorem Stays.takeTrigReq {origin c ticks frac qual} (h : Later s u) : Later s (u.takeTrigReq origin c ticks frac qual) :=
  .ite (.mergeTrig h) (.ite (.sendN h) h)

theorem Stays.takeTrig {origin c ticks frac qual delay} (h : Later s u) : Later s (u.takeTrig origin c ticks frac qual delay) :=
  .ite h (.niredEvent (.forward (.modAr h)))

theorem Stays.takeArm {c number} (h : Later s u) : Later s (u.takeArm c number) :=
  .ite h (.ite (.sendN (.forward h)) (.modAr (.armBegin (.forward h))))

theorem Stays.takeDisarm {q} (h : Later s u) : Later s (u.takeDisarm q) := .ite h (.foldl .disarmChan (.forward h))

theorem Stays.takeReady {addr number result} (h : Later s u) : Later s (u.takeReady addr number result) :=
  .ite (.ite (.modAr h) h) (.ite (.sendN h) h)

theorem Stays.takeRelay {at_ bytes} (h : Later s u) : Later s (u.takeRelay at_ bytes) := by
  unfold State.takeRelay
  exact .ite h (.ite (.sendParts h) (.modMb (.post (.modMb h))))

theorem Stays.takeRelayRsp {addr part} (h : Later s u) : Later s (u.takeRelayRsp addr part) := by
  unfold State.takeRelayRsp
  split
  · split
    · exact .ite (.ite (.finish (.modAr h)) (.modAr h)) h
    · exact h
  · exact .ite (.sendN h) h

theorem Stays.designate {addr} (h : Later s u) : Later s (u.designate addr) := by
  unfold State.designate
  extract_lets
  split
  · exact .ite (.modAr h) (.sendN (.modAr h))
  · exact .modAr h

theorem Stays.startCal {links host} (h : Later s u) : Later s (u.startCal links host) := .modAr h

theorem Stays.calJoined {addr swapped} (h : Later s u) : Later s (u.calJoined addr swapped) :=
  .ite (.modAr h) (.ite (.startCal h) h)

theorem Stays.admitMember {m old role} (h : Later s u) : Later s (u.admitMember m old role) := by
  unfold State.admitMember
  extract_lets s1 _ s2
  have h2 : Later s s2 := .ite (.arEvent (.modMembers h)) (.modMembers h)
  exact .syncDomains (.recomputeW (.calJoined (.modAr (.sendN (.ite (.designate h2) h2)))))

theorem Stays.joinManager {parent port serial digest role} (h : Later s u) :
    Later s (u.joinManager parent port serial digest role) := by
  unfold State.joinManager
  exact .ite (.arEvent (.sendN (.modAr h))) (.admitMember (.modAr h))

theorem Stays.takeJoin {parent port serial digest role} (h : Later s u) : Later s (u.takeJoin parent port serial digest role) :=
  .ite (.joinManager h) (.ite (.syncDomains (.sendN (.modAr h))) h)

theorem Stays.endJoin {status} (h : Later s u) : Later s (u.endJoin status) := .endWorkIf h

theorem Stays.assignOwn {addr role level hops heads refusal} (h : Later s u) :
    Later s (u.assignOwn addr role level hops heads refusal) := by
  unfold State.assignOwn
  split
  · exact h
  · split
    · exact .endJoin (.modAr h)
    · extract_lets _ _ s1 s2
      have h2 : Later s s2 := .ite (.unalign (.loseUp (.modAr h))) (.modAr h)
      exact .syncDomains (.endJoin (.ite (.arEvent h2) h2))

theorem Stays.assignOther {addr role level hops} (h : Later s u) : Later s (u.assignOther addr role level hops) :=
  .ite h (.sendN (.modAr h))

theorem Stays.joinSilence (h : Later s u) : Later s u.joinSilence := .ite (.syncDomains (.endWorkIf (.modAr h))) h
theorem Stays.sendStatus (h : Later s u) : Later s u.sendStatus := .ite (.sendN h) h

theorem Stays.takeStatus {addr health exports aligned delay} (h : Later s u) :
    Later s (u.takeStatus addr health exports aligned delay) :=
  .ite (.ite (.modMember h) (.recomputeW (.modMember h))) (.ite (.sendN h) h)

theorem Stays.takeAbsent {addr} (h : Later s u) : Later s (u.takeAbsent addr) :=
  .ite (.loseMember h) (.ite (.sendN (.loseMember h)) h)

theorem Stays.takeTakeover {mgr level hops e table asym} (h : Later s u) :
    Later s (u.takeTakeover mgr level hops e table asym) :=
  .ite h (.ite (.promote (.takeCopy h)) (.sendN (.unalign (.modAr h))))

theorem Stays.takePause {p} (h : Later s u) : Later s (u.takePause p) := .modAr h
theorem Stays.takeDissolve (h : Later s u) : Later s u.takeDissolve := .ite (.standalone (.forward h)) h
theorem Stays.badMessage (h : Later s u) : Later s u.badMessage := .modAr h

theorem Stays.serveMsg {m} (h : Later s u) : Later s (u.serveMsg m) := by
  unfold State.serveMsg
  split
  · exact .takeJoin h
  · exact .takeRelay h
  · exact .takeStatus h
  · exact .sendStatus h
  · exact .ite (.joinOut h) h

theorem Stays.fwMessage {m} (h : Later s u) : Later s (u.fwMessage m) := .ite h (.ite (.serveMsg h) (.modAr h))
theorem Stays.relayArrives {msg} (h : Later s u) : Later s (u.relayArrives msg) := .ite (.sendN h) (.fwMessage h)
theorem Stays.serveHeld (h : Later s u) : Later s u.serveHeld := .foldl .serveMsg (.modAr h)

theorem Stays.arrayJoinBody {r} (h : Later s u) : Later s (arrayJoinBody r u).2 := by
  unfold Machine.arrayJoinBody
  extract_lets
  exact .ite_snd (.fails h) (.ite_snd (.fails h) (.ite_snd (.fails h) (.ite_snd (.fails h) (.ite_snd (.fails h) (.ite_snd
    (.accepted (.syncDomains (.recomputeW (.modAr (.beManager (.addWork h)))))) (.ite_snd (.accepted (.endWork (.askJoin
    (.modAr (.addWork h))))) (.accepted (.syncDomains (.sendJoin (.modAr (.addWork h)))))))))))

theorem Stays.returnDeputy (h : Later s u) : Later s u.returnDeputy := by
  unfold State.returnDeputy
  exact .syncDomains (.askJoin (.unalign (.loseUp (.modAr h))))

theorem Stays.arrayLeaveBody {r} (h : Later s u) : Later s (arrayLeaveBody r u).2 := by
  unfold Machine.arrayLeaveBody
  extract_lets
  exact .ite_snd (.fails h) (.ite_snd (.fails h) (.ite_snd (.ite_snd (.answers (.standalone (.sendN (.reach h)))) (.answers
    (.standalone h))) (.ite_snd (.answers (.standalone (.sendN h))) (.answers (.returnDeputy h)))))

theorem Stays.arrayStatusBody {r} (h : Later s u) : Later s (arrayStatusBody r u).2 := by
  unfold Machine.arrayStatusBody
  extract_lets
  exact .ite_snd (.fails h) (.ite_snd (.answers h) (.ite_snd (.fails h) (.ite_snd (.answers h) (.ite_snd (.fails h) (.snd
    (.sendN (.modAr h)))))))

theorem Stays.calLinksBody {bulk r} (h : Later s u) : Later s (calLinksBody bulk r u).2 := by
  unfold Machine.calLinksBody
  refine .ite_snd (.fails h) (.ite_snd (.fails h) (.ite_snd (.fails h) (.ite_snd (.fails h) ?_)))
  split
  · exact .failsRead h
  · exact .accepted (.startCal (.modAr (.addWork h)))

theorem Stays.setLinks {measured} (h : Later s u) : Later s (u.setLinks measured) := by
  unfold State.setLinks
  refine .foldl (fun h => ?_) h
  split
  · exact .modAr h
  · exact h

theorem Stays.endCal {r measured failed} (h : Later s u) : Later s (u.endCal r measured failed) := by
  unfold State.endCal
  extract_lets _ _ _ s1 s2 s3
  have h1 : Later s s1 := .modAr (.setLinks h)
  have h2 : Later s s2 := .ite (.recomputeW h1) h1
  have h3 : Later s s3 := .ite (.endWork h2) h2
  exact .ite h3 (.startCal h3)

theorem Stays.linksDone {measured failed} (h : Later s u) : Later s (u.linksDone measured failed) := by
  unfold State.linksDone
  split
  · exact .endCal h
  · exact .ite (.modAr (.setLinks h)) h

/-! Boot. -/

theorem Stays.fwEvent {code sev kind reason version svn} (h : Later s u) :
    Later s (u.fwEvent code sev kind reason version svn) :=
  .logEv h

theorem Stays.measureSlot {n} (h : Later s u) : Later s (u.measureSlot n) := by
  unfold State.measureSlot
  exact .extendMeas (.extendMeas (.extendMeas h))

theorem Stays.extendOwner (h : Later s u) : Later s u.extendOwner := .extendMeas h
theorem Stays.freeMailboxes (h : Later s u) : Later s u.freeMailboxes := .modMr h
theorem Stays.startSlot {n} (h : Later s u) : Later s (u.startSlot n) := .modFw (.measureSlot h)
theorem Stays.slotInvalid {n} (h : Later s u) : Later s (u.slotInvalid n) := .fwEvent h

theorem Stays.bootRom (h : Later s u) : Later s u.bootRom := by
  unfold State.bootRom
  extract_lets s1 _ s2
  have h1 : Later s s1 := .extendMeas (.modFw h)
  have h2 : Later s s2 := .slotInvalid h1
  exact .ite (.startSlot h1) (.ite (.startSlot h2) (.fwEvent (.modFw (.slotInvalid h2))))

theorem Stays.bootServe {pickCal} (h : Later s u) : Later s (u.bootServe pickCal) := by
  unfold State.bootServe
  exact .flushEvents (.modFw (.freeMailboxes (.ite h (.extendOwner (.extendCal (.ite (.selectCal h) h))))))

theorem Stays.restartServe {r} (h : Later s u) : Later s (u.restartServe r) := by
  unfold State.restartServe
  extract_lets _ s1 s2
  have h1 : Later s s1 := .serveHeld (.flushEvents (.modFw (.freeMailboxes h)))
  have h2 : Later s s2 := .ite h1 (.fwEvent h1)
  exact .ite (.endWork (.fwEvent h1)) (.ite (.endWork h2) h2)

theorem Stays.giveHeld (h : Later s u) : Later s u.giveHeld := by
  unfold State.giveHeld
  split
  · exact h
  · exact .finish (.modMr h)

theorem Stays.resumeCore (h : Later s u) : Later s u.resumeCore := by
  unfold State.resumeCore
  split
  · exact h
  · extract_lets
    split
    · exact .ite (.restartServe (.modFw h)) (.modFw h)
    · exact .serveHeld (.giveHeld (.flushEvents (.modFw h)))

theorem Stays.lockDebug {reason} (h : Later s u) : Later s (u.lockDebug reason) :=
  .ite h (.resumeCore (.fwEvent (.extendMeas (.modFw h))))

/-! Power. -/

theorem Stays.beginWake {src} (h : Later s u) : Later s (u.beginWake src) := .ite (.modPw h) (.ite h (.modPw h))

theorem Stays.wakeEvent {src} (h : Later s u) : Later s (u.wakeEvent src) := by
  unfold State.wakeEvent
  split
  · exact .ite (.modPw h) h
  · exact .ite (.beginWake h) h

theorem Stays.entryStep {n} (h : Later s u) : Later s (u.entryStep n) := .modPw h
theorem Stays.entryMemory (h : Later s u) : Later s u.entryMemory := .srRequest (.entryStep h)

theorem Stays.entryDomains (h : Later s u) : Later s u.entryDomains := by
  unfold State.entryDomains
  split
  · exact h
  · extract_lets s1
    have h1 : Later s s1 := .syncDomains (.entryStep h)
    exact .ite (.rollback h1) (.ite (.entryStep h1) (.entryMemory h1))

theorem Stays.entryBegin (h : Later s u) : Later s u.entryBegin := by
  unfold State.entryBegin
  split
  · exact .entryDomains h
  · extract_lets _ s1
    have h1 : Later s s1 := .ite (.standalone h) h
    exact .ite (.rollback h1) (.modHv (.entryStep h1))

theorem Stays.entryDrain (h : Later s u) : Later s u.entryDrain := by
  unfold State.entryDrain
  split
  · exact h
  · exact .ite h (.ite (.entryDomains h) (.ite (.rollback h) h))

theorem Stays.flushLog {extra} (h : Later s u) : Later s (u.flushLog extra) := .modLog h

theorem Stays.entryRetain (h : Later s u) : Later s u.entryRetain := by
  unfold State.entryRetain
  split
  · exact h
  · exact .ite (.entryMemory (.flushLog h)) h

theorem Stays.unpowered (h : Later s u) : Later s u.unpowered := .keep h rfl (Nat.le_refl _)
theorem Stays.goOff {cause} (h : Later s u) : Later s (u.goOff cause) := .ite h (.modPw (.unpowered h))
theorem Stays.mainLoss (h : Later s u) : Later s u.mainLoss := .modPw (.goOff h)
theorem Stays.thermalTrip {sensor temp} (h : Later s u) : Later s (u.thermalTrip sensor temp) := .ite (.mainLoss h) h

theorem Stays.auxLoss (h : Later s u) : Later s u.auxLoss := by
  unfold State.auxLoss
  exact .modPw (.goOff h)

theorem Stays.deepStop (h : Later s u) : Later s u.deepStop := by
  unfold State.deepStop
  exact .modAr (.modCk (.modTm (.tdcStop (.ppsLose (.setDisc (.loseLock (.linkDrop h)))))))

theorem Stays.entryCommit (h : Later s u) : Later s u.entryCommit := by
  unfold State.entryCommit
  split
  · exact h
  · split
    · exact h
    · extract_lets _ s1 s2 s3 f g s4 s5
      have h3 : Later s s3 := .modPw (.endWork (.logPower (.modPw (.modPw h))))
      have hf : Later s f := .flushLog h3
      have h4 : Later s s4 := .ite (.modPw (.modHv h3)) (.ite (.modFw (.modMr (.freeMailboxes (.deepStop hf)))) (.modPw
        (.unpowered hf)))
      have h5 : Later s s5 := .ite h4 (.syncDomains h4)
      split
      · exact .beginWake h5
      · exact h5

theorem Stays.pwrEnterBody {r} (h : Later s u) : Later s (pwrEnterBody r u).2 := by
  unfold Machine.pwrEnterBody
  extract_lets
  exact .ite_snd (.fails h) (.ite_snd (.fails h) (.ite_snd (.fails h) (.ite_snd (.answers (.ite (.leaveSleep h) (.modPw
    (.logPower h)))) (.ite_snd (.fails h) (.accepted (.entryBegin (.modPw (.addWork h))))))))

theorem Stays.pwrStatusBody {r} (h : Later s u) : Later s (pwrStatusBody r u).2 := .answers h

theorem Stays.sliceUnready {k x} (h : Later s u) : Later s (u.sliceUnready k x) := by
  unfold State.sliceUnready
  split
  · exact h
  · split
    · exact .activeFails h
    · exact .ite (.failGraft h) (.twEvent (.modSlice h))

theorem Stays.domainFails {d} (h : Later s u) : Later s (u.domainFails d) := by
  unfold State.domainFails
  extract_lets s1
  have h1 : Later s s1 := .logEv (.modPw h)
  exact .ite (.sliceUnready h1) h1

theorem Stays.holdOn {ds bad} (h : Later s u) : Later s (u.holdOn ds bad).2 := by
  unfold State.holdOn
  extract_lets
  split
  · extract_lets
    exact .snd (.domainFails (.syncDomains (.modPw (.leaveSleep h))))
  · exact .answers (.syncDomains (.modPw (.leaveSleep h)))

theorem Stays.domainBody {bad r} (h : Later s u) : Later s (domainBody bad r u).2 := by
  unfold Machine.domainBody
  extract_lets
  exact .ite_snd (.fails h) (.ite_snd (.fails h) (.ite_snd (.fails h) (.ite_snd (.answers h) (.ite_snd (.holdOn h) (.answers
    (.syncDomains (.modPw h)))))))

theorem Stays.trainAll {b} (h : Later s u) : Later s (u.trainAll b) := by
  unfold State.trainAll
  exact .modTr (.modMem h)

theorem Stays.loseTrellis (h : Later s u) : Later s u.loseTrellis := by
  unfold State.loseTrellis
  exact .foldl .modCh (.modTr h)

theorem Stays.trainLink {b} (h : Later s u) : Later s (u.trainLink b) := .elim h (.linkRise h)

theorem Stays.rootLocked {b} (h : Later s u) : Later s (u.rootLocked b) := by
  unfold State.rootLocked
  extract_lets
  split
  · exact .modCk (.modCk h)
  · exact .lockFail (.modCk h)

theorem Stays.rootStarts {b} (h : Later s u) : Later s (u.rootStarts b) := by
  unfold State.rootStarts
  extract_lets s1
  have h1 : Later s s1 := .rootLocked (.ckEvent h)
  exact .ite (.ckEvent h1) h1

theorem Stays.memHeld (h : Later s u) : Later s u.memHeld := .ite (.modMem h) h
theorem Stays.reportBrown (h : Later s u) : Later s u.reportBrown := .ite (.modPw (.logEv h)) h

theorem Stays.reportFail (h : Later s u) : Later s u.reportFail := by
  unfold State.reportFail
  split
  · exact .ite (.modPw (.logEv h)) h
  · exact h

theorem Stays.powerUp {src b} (h : Later s u) : Later s (u.powerUp src b) :=
  .syncDomains (.trainLink (.reportBrown (.reportFail (.bootServe (.bootRom (.modMon (.modFw (.memHeld (.trainAll
    (.rootStarts (.keep (.unpowered h) rfl (Nat.le_refl _))))))))))))

theorem Stays.jumpUser {i} (h : Later s u) : Later s (u.jumpUser i) := .jumpTo (.jumpTo (.jumpRange h))

theorem Stays.loseSettings (h : Later s u) : Later s u.loseSettings := by
  unfold State.loseSettings
  exact .modMon (.modCk (.foldl .jumpUser (.foldl .modCh (.modMr h))))

theorem Stays.loseClasses {b} (h : Later s u) : Later s (u.loseClasses b) := by
  unfold State.loseClasses
  extract_lets _ s1 s2 s3 s4 s5 s6
  have h1 : Later s s1 := .ite h (.loseSettings h)
  have h2 : Later s s2 := .ite h1 (.modLog h1)
  have h3 : Later s s3 := .ite h2 (.setTw h2)
  have h5 : Later s s5 := .setOut (.ite h3 (.modMon h3))
  have h6 : Later s s6 := .modTr h5
  exact .ite (.ite h6 (.srExit h6)) (.logEv (.loseTrellis (.memHeld (.trainAll h5))))

theorem Stays.wakeDeep {src b} (h : Later s u) : Later s (u.wakeDeep src b) := by
  unfold State.wakeDeep
  exact .syncDomains (.trainLink (.reportBrown (.modMon (.bootServe (.loseClasses (.standalone (.bootRom (.rootLocked
    (.modPw h)))))))))

theorem Stays.wakeDone {b} (h : Later s u) : Later s (u.wakeDone b) := by
  unfold State.wakeDone
  split
  · exact h
  · exact .ite (.leaveSleepBy h) (.ite h (.logEv (.logPower (.modPw (.ite (.wakeDeep h) (.powerUp h))))))

theorem Stays.firstPower {b} (h : Later s u) : Later s (u.firstPower b) := by
  unfold State.firstPower
  split
  · exact .ite (.powerUp h) h
  · exact h

theorem Stays.insert (h : Later s u) : Later s u.insert := .ite h (.modPw (.goOff h))
theorem Stays.mainReturn (h : Later s u) : Later s u.mainReturn := .ite h (.ite (.beginWake (.modPw h)) (.modPw h))
theorem Stays.railFails {rail} (h : Later s u) : Later s (u.railFails rail) := .ite h (.ite (.modPw h) (.modPw (.goOff h)))

theorem Stays.idleEntry (h : Later s u) : Later s u.idleEntry := by
  unfold State.idleEntry
  exact .ite h (.ite (.modPw h) (.ite (.syncDomains (.modPw h)) h))

theorem Stays.phyIdle (h : Later s u) : Later s u.phyIdle := .ite (.srRequest h) h

theorem Stays.demandWake {d} (h : Later s u) : Later s (u.demandWake d) :=
  .ite h (.ite (.coreWake h) (.ite (.memRequest h) (.ite (.setDomains h) h)))

theorem Stays.srEntry {request} (h : Later s u) : Later s (u.srEntry request) := by
  unfold State.srEntry
  split
  · split
    · exact .srAbort h
    · extract_lets s1
      have h1 : Later s s1 := .syncDomains (.modMem h)
      exact .ite (.toFallback h1) h1
  · exact h

theorem Stays.srLeave {temps} (h : Later s u) : Later s (u.srLeave temps) := .ite (.syncDomains (.srExit h)) h

theorem Stays.i2cByte {a} (h : Later s u) : Later s (u.i2cByte a) := by
  unfold State.i2cByte
  exact .modPw (.ite h (.modPw h))

theorem Stays.i2cRead {a n} (h : Later s u) : Later s (u.i2cRead a n) := .ite (.foldl .i2cByte (.modPw h)) h
theorem Stays.brownOut (h : Later s u) : Later s u.brownOut := .ite (.modPw (.free h)) h

/-! The monitor. -/

theorem Stays.modAcc {i g} (h : Later s u) : Later s (u.modAcc i g) := .modMon h

theorem Stays.monOpen {i v tick} (h : Later s u) : Later s (u.monOpen i v tick) := by
  unfold State.monOpen
  exact .ite (.ite h (.logEv (.modAcc h))) (.ite h (.modAcc h))

theorem Stays.monEvent {e} (h : Later s u) : Later s (u.monEvent e) := by
  unfold State.monEvent
  exact .pushEv h

theorem Stays.monAlarmOn {i side b} (h : Later s u) : Later s (u.monAlarmOn i side b) := by
  unfold State.monAlarmOn
  extract_lets _ s1 s2
  have h1 : Later s s1 := .logEv (.modAcc h)
  have h2 : Later s s2 := .ite (.monEvent h1) h1
  exact .ite (.wakeEvent h2) h2

theorem Stays.monAlarm {i v b} (h : Later s u) : Later s (u.monAlarm i v b) := by
  unfold State.monAlarm
  exact .ite h (.ite (.ite (.logEv (.modAcc h)) (.modAcc h)) (.ite (.monAlarmOn (.modAcc h)) (.modAcc h)))

theorem Stays.monResult {i raw b} (h : Later s u) : Later s (u.monResult i raw b) := by
  unfold State.monResult
  exact .monAlarm (.monOpen (.modAcc h))

theorem Stays.injectEnd {raw b} (h : Later s u) : Later s (u.injectEnd raw b) := by
  unfold State.injectEnd
  exact .syncDomains (.endWork (.modMon h))

theorem Stays.calEnd {sum b} (h : Later s u) : Later s (u.calEnd sum b) := by
  unfold State.calEnd
  split
  · exact h
  · extract_lets _ _ s1 bad
    have hbad : Later s bad := .syncDomains (.endWork (.modMon h))
    split
    · exact .ite (.syncDomains (.endWork (.modMon (.modMon h)))) hbad
    · split
      · exact .ite (.syncDomains (.endWork (.modMon (.modMon h)))) hbad
      · exact hbad

theorem Stays.calConv {left sum raw b} (h : Later s u) : Later s (u.calConv left sum raw b) := by
  unfold State.calConv
  exact .ite (.calEnd h) (.modMon h)

theorem Stays.monCount (h : Later s u) : Later s u.monCount := .modMon h

theorem Stays.monConvEnd {raw} (h : Later s u) : Later s (u.monConvEnd raw) := by
  unfold State.monConvEnd
  extract_lets s0
  have h0 : Later s s0 := .dropLateTable h
  split
  · exact .ite h0 (.ite (.monCommit (.monBoundary (.monCount h0))) (.monResult (.modMon (.monBoundary (.monCount h0)))))
  · exact .ite h0 (.injectEnd (.monBoundary (.monCount h0)))
  · exact .ite h0 (.calConv (.monBoundary (.monCount h0)))
  · exact h0

theorem Stays.monDelayEnd (h : Later s u) : Later s u.monDelayEnd := by
  unfold State.monDelayEnd
  extract_lets s0
  have h0 : Later s s0 := .dropLateTable h
  split
  · exact .ite h0 (.ite (.monCommit (.monBoundary h0)) (.ite (.monBoundary h0) (.modMon (.monBoundary h0))))
  · exact h0

theorem Stays.injectStart (h : Later s u) : Later s u.injectStart := by
  unfold State.injectStart
  split
  · exact h
  · exact .ite h (.modMon (.monBoundary h))

theorem Stays.calStart (h : Later s u) : Later s u.calStart := by
  unfold State.calStart
  split
  · exact h
  · split
    · exact h
    · exact .modMon (.monBoundary h)

theorem Stays.calSettled (h : Later s u) : Later s u.calSettled := by
  unfold State.calSettled
  split
  · exact .ite h (.modMon (.monBoundary h))
  · exact h

theorem Stays.monLoadBody {bulk r} (h : Later s u) : Later s (monLoadBody bulk r u).2 := by
  unfold Machine.monLoadBody
  refine .ite_snd (.fails h) (.ite_snd (.fails h) ?_)
  split
  · exact .failsRead h
  · dsimp only
    split
    · exact .answers (.startTable (.monBoundary (.modMon h)))
    · exact .snd (.modMon h)

theorem Stays.monReadBody {r} (h : Later s u) : Later s (monReadBody r u).2 := by
  unfold Machine.monReadBody
  extract_lets
  exact .ite_snd (.fails h) (.ite_snd (.answers h) (.answers (.ite (.modMon h) h)))

theorem Stays.injectDrop {detail} (h : Later s u) : Later s (u.injectDrop detail) := .endWork (.modMon h)

theorem Stays.monInjectBody {r} (h : Later s u) : Later s (monInjectBody r u).2 := by
  unfold Machine.monInjectBody
  extract_lets
  exact .ite_snd (.fails h) (.ite_snd (.fails h) (.ite_snd (.fails h) (.ite_snd (.accepted (.injectDrop (.addWork h)))
    (.accepted (.syncDomains (.modMon (.addWork h)))))))

theorem Stays.monSyscalBody {r} (h : Later s u) : Later s (monSyscalBody r u).2 := by
  unfold Machine.monSyscalBody
  extract_lets
  exact .ite_snd (.fails h) (.ite_snd (.fails h) (.ite_snd (.fails h) (.ite_snd (.fails h) (.ite_snd (.accepted (.endWork
    (.modMon (.addWork h)))) (.ite_snd (.accepted (.endWork (.modMon (.addWork h)))) (.accepted (.syncDomains (.modMon (.ite
    (.injectDrop (.addWork h)) (.addWork h))))))))))

/-! Cancelling. -/

theorem Stays.undoWait {l} (h : Later s u) : Later s (u.undoWait l) := by
  unfold State.undoWait
  split
  · exact .revertArm h
  · exact .modAr (.revertArm h)
  · exact .modMon h
  · exact h
  · exact h
  · exact h
  · exact .foldl .modCh h
  · exact h

theorem Stays.cancelExec (h : Later s u) : Later s u.cancelExec := by
  unfold State.cancelExec
  split
  · exact h
  · exact .modMr (.ite h (.undoWait h))

/-! Firmware. -/

theorem Stays.fwStageBody {bulk r} (h : Later s u) : Later s (fwStageBody bulk r u).2 := by
  unfold Machine.fwStageBody
  extract_lets
  split
  · exact .fails h
  · split
    · exact .fails h
    · split
      · exact .fails h
      · split
        · exact .fails h
        · split
          · exact .failsRead h
          · exact .accepted (.modFw (.addWork h))

theorem Stays.authFailed {code} (h : Later s u) : Later s (u.authFailed code) := .fwEvent h

theorem Stays.stageEnd {readBack} (h : Later s u) : Later s (u.stageEnd readBack) := by
  unfold State.stageEnd
  split
  · exact h
  · extract_lets done _ _ s1
    have h1 : Later s s1 := .endWork (.fwEvent (.modFw (.modFw h)))
    exact .ite (.endWork (.authFailed (.modFw h))) (.ite (.endWork (.modFw h)) (.ite (.bootServe (.bootRom (.modFw h1))) h1))

theorem Stays.goOffline (h : Later s u) : Later s u.goOffline := .modFw (.modMr (.cancelExec h))

theorem Stays.confirmTrial (h : Later s u) : Later s u.confirmTrial := by
  unfold State.confirmTrial
  split
  · exact h
  · exact .modFw h

theorem Stays.fwActivateBody {r} (h : Later s u) : Later s (fwActivateBody r u).2 := by
  unfold Machine.fwActivateBody
  extract_lets _ _ _ s1
  have h1 : Later s s1 := .modFw (.addWork h)
  exact .ite_snd (.fails h) (.ite_snd (.ite_snd (.fails h) (.ite_snd (.fails h) (.accepted (.endWork (.confirmTrial
    (.addWork h)))))) (.ite_snd (.fails h) (.ite_snd (.fails h) (.accepted (.ite (.modFw h1) (.modFw h1))))))

theorem Stays.activateOffline (h : Later s u) : Later s u.activateOffline := .ite (.goOffline h) h

theorem Stays.trialEnd (h : Later s u) : Later s u.trialEnd := by
  unfold State.trialEnd
  split
  · exact h
  · exact .ite h (.modFw (.goOffline h))

theorem Stays.restarted {r} (h : Later s u) : Later s (u.restarted r) := by
  unfold State.restarted
  exact .ite (.modFw (.modFw h)) (.restartServe (.modFw h))

theorem Stays.toRecovery (h : Later s u) : Later s u.toRecovery := .fwEvent (.modFw h)

theorem Stays.liveDone {check} (h : Later s u) : Later s (u.liveDone check) := by
  unfold State.liveDone
  split
  · exact h
  · exact .ite h (.ite (.restarted (.startSlot h)) (.ite (.restarted (.startSlot (.modFw h))) (.restarted (.toRecovery
      (.modFw h)))))

theorem Stays.fwStatusBody {r} (h : Later s u) : Later s (fwStatusBody r u).2 := by
  unfold Machine.fwStatusBody
  extract_lets
  exact .answers (.ite_snd (.free h) h)

theorem Stays.identityBody {r} (h : Later s u) : Later s (identityBody r u).2 := by
  unfold Machine.identityBody
  extract_lets
  exact .ite_snd (.fails h) (.ite_snd (.answers h) (.answers (.hostWrite h)))

theorem Stays.quoteBody {r} (h : Later s u) : Later s (quoteBody r u).2 := by
  unfold Machine.quoteBody
  extract_lets
  exact .ite_snd (.fails h) (.answers (.hostWrite (.free h)))

theorem Stays.enrolBody {bulk r} (h : Later s u) : Later s (enrolBody bulk r u).2 := by
  unfold Machine.enrolBody
  split
  · exact .fails h
  · split
    · exact .fails (.authFailed h)
    · split
      · exact .fails h
      · split
        · exact .fails h
        · split
          · exact .failsRead h
          · exact .accepted (.modFw (.addWork h))

theorem Stays.ownerDone (h : Later s u) : Later s u.ownerDone := by
  unfold State.ownerDone
  split
  · exact h
  · exact .endWork (.fwEvent (.extendOwner (.lockDebug (.modFw h))))

theorem Stays.newChallenge (h : Later s u) : Later s (u.newChallenge).2 := by
  unfold State.newChallenge
  extract_lets
  exact .answers (.modFw h)

theorem Stays.unlockDebug {tok} (h : Later s u) : Later s (u.unlockDebug tok) := by
  unfold State.unlockDebug
  exact .fwEvent (.extendMeas (.modFw h))

theorem Stays.tokenAnswer {tok} (h : Later s u) : Later s (u.tokenAnswer tok).2 := by
  unfold State.tokenAnswer
  extract_lets
  split
  · exact .fails (.modFw h)
  · exact .ite_snd (.fails (.modFw h)) (.ite_snd (.fails (.authFailed (.modFw h))) (.ite_snd (.fails (.modFw h)) (.answers
      (.unlockDebug h))))

theorem Stays.debugUnlockBody {bulk r} (h : Later s u) : Later s (debugUnlockBody bulk r u).2 := by
  unfold Machine.debugUnlockBody
  exact .ite_snd (.fails h) (.ite_snd (.newChallenge h) (.ite_snd (.elim_snd (.failsRead h) (.tokenAnswer h))
    (.ite_snd (.answers (.lockDebug h)) (.fails h))))

theorem Stays.challengeEnd (h : Later s u) : Later s u.challengeEnd := .ite (.modFw h) h

/-! Settings. -/

theorem Stays.actOn {e} (h : Later s u) : Later s (u.actOn e) := .ite h (.ite (.feReset h) (.ite (.scheduleReset h) h))
theorem Stays.putOne {e} (h : Later s u) : Later s (u.putOne e) := .ite (.actOn (.modMr h)) (.modMr h)

theorem Stays.putSettingsBody {r} (h : Later s u) : Later s (putSettingsBody r u).2 := by
  unfold Machine.putSettingsBody
  extract_lets
  split
  · exact .fails h
  · split
    · exact .failsKey h
    · exact .ite_snd (.fails h) (.answers (.foldl .putOne h))

theorem Stays.discardBody {r} (h : Later s u) : Later s (discardBody r u).2 := .answers (.modMr h)

theorem Stays.getSettingsBody {r} (h : Later s u) : Later s (getSettingsBody r u).2 := by
  unfold Machine.getSettingsBody
  extract_lets
  exact .ite_snd (.fails h) (.ite_snd (.answers h) (.answers h))

/-! APPLY. -/

theorem Stays.onlyIf {b : Bool} {g : State → State} (h : Later s u) (hg : ∀ {v}, Later s v → Later s (g v)) :
    Later s (u.onlyIf b g) :=
  .ite (hg h) h

theorem Stays.retargetPhase {k p} (h : Later s u) : Later s (u.retargetPhase k p) := by
  unfold State.retargetPhase
  split
  · exact h
  · exact .retime h

theorem Stays.retarget (h : Later s u) : Later s u.retarget := .foldl (fun h => .foldl .retargetPhase h) h

theorem Stays.inputChanges {v i} (h : Later s u) : Later s (u.inputChanges v i) := by
  unfold State.inputChanges
  exact .onlyIf (.onlyIf (.onlyIf (.onlyIf h .feQuiet) .feSettle) .jumpRange) .rampUser

theorem Stays.reselect (h : Later s u) : Later s u.reselect := by
  unfold State.reselect
  extract_lets s1
  have h1 : Later s s1 := .modCk (.refLose h)
  exact .ite (.setDisc h1) h1

theorem Stays.clockChanges {v} (h : Later s u) : Later s (u.clockChanges v) := by
  unfold State.clockChanges
  exact .onlyIf (.onlyIf (.onlyIf (.onlyIf (.onlyIf h .reselect) (fun h => .modTm (.ppsLose h))) .modTm) .modTm) .modTm

theorem Stays.exportChanged (h : Later s u) : Later s u.exportChanged := .ite (.recomputeW (.modMember h)) (.sendStatus h)

theorem Stays.standbyChanged (h : Later s u) : Later s u.standbyChanged :=
  .ite (.ite (.sendJoin (.unalign (.loseUp (.modAr h)))) (.loseUpstream (.modAr h))) h

theorem Stays.belfryKeys {v} (h : Later s u) : Later s (u.belfryKeys v) := .modPw h

theorem Stays.keyChanges {v} (h : Later s u) : Later s (u.keyChanges v) := by
  unfold State.keyChanges
  exact .syncDomains (.onlyIf (.onlyIf (.cutPulses (.belfryKeys (.onlyIf (.onlyIf (.clockChanges (.foldl .inputChanges
    (.onlyIf h (fun h => .retarget (.netSwitch h))))) .exportChanged) .standbyChanged))) .monBoundary) .lockDebug)

theorem Stays.commitStage (h : Later s u) : Later s u.commitStage := by
  unfold State.commitStage
  exact .keyChanges (.logEv (.modMr h))

theorem Stays.applyBody {r} (h : Later s u) : Later s (applyBody r u).2 := by
  unfold Machine.applyBody
  extract_lets
  split
  · exact .fails h
  · split
    · exact .ite_snd h (.failsKey h)
    · exact .ite_snd h (.snd (.commitStage (.reach h)))

/-! General commands. -/

theorem Stays.getEventsBody {r} (h : Later s u) : Later s (getEventsBody r u).2 := by
  unfold Machine.getEventsBody
  extract_lets
  exact .ite_snd (.fails h) (.answers h)

theorem Stays.notifyEnd (h : Later s u) : Later s u.notifyEnd := .ite (.modLog (.msix h)) h
theorem Stays.copyFlash (h : Later s u) : Later s u.copyFlash := .modLog h
theorem Stays.infoBody {r} (h : Later s u) : Later s (infoBody r u).2 := .answers h
theorem Stays.echoBody {r} (h : Later s u) : Later s (echoBody r u).2 := .answers h

theorem Stays.capture {m} (h : Later s u) : Later s (u.capture m).2 := by
  unfold State.capture
  extract_lets
  exact .snd (.modFreeCtr (.modMr (.modMb h)))

theorem Stays.resyncBody {r} (h : Later s u) : Later s (resyncBody r u).2 := by
  unfold Machine.resyncBody
  extract_lets
  split
  · exact .fails h
  · split
    · exact .answers (.capture h)
    · split
      · exact .fails h
      · exact .ite_snd (.answers h) (.fails h)

/-! Mailbox events. -/

theorem Stays.expireMb {m} (h : Later s u) : Later s (u.expireMb m) := by
  unfold State.expireMb
  extract_lets
  split
  · exact h
  · split
    · exact h
    · split
      · exact .timeoutEnd h
      · exact .timeoutEnd (.cancelExec h)
      · exact h
      · exact h
      · exact h

theorem Stays.abortMb {m} (h : Later s u) : Later s (u.abortMb m) := by
  unfold State.abortMb
  exact .ite (.expireMb (.modMb h)) h

theorem Stays.goMb {m} (h : Later s u) : Later s (u.goMb m) := .ite (.post h) (.overrun h)

theorem Stays.doorbellWrite {m v} (h : Later s u) : Later s (u.doorbellWrite m v) :=
  .ite (.overrun h) (.ite (.goMb h) (.ite (.abortMb h) h))

theorem Stays.touchCore (h : Later s u) : Later s u.touchCore := .ite (.beginWake h) (.coreWake h)
theorem Stays.hostDoorbell {m v} (h : Later s u) : Later s (u.hostDoorbell m v) := .ite (.doorbellWrite (.touchCore h)) h

theorem Stays.mailboxWrite {m o w} (h : Later s u) : Later s (u.mailboxWrite m o w) :=
  .ite (.ite (.modMb h) (.overrun h)) (.ite (.doorbellWrite h) (.ite (.modMb h) (.ite (.modMb h) h)))

theorem Stays.queueWrite {q o w} (h : Later s u) : Later s (u.queueWrite q o w) := by
  unfold State.queueWrite
  exact .ite (.tailWrite h) (.ite (.cheadWrite h) (.ite (.modQ h) h))

theorem Stays.modMsix {v g} (h : Later s u) : Later s (u.modMsix v g) := .modHl h

theorem Stays.msixWrite {v p w} (h : Later s u) : Later s (u.msixWrite v p w) := by
  unfold State.msixWrite
  extract_lets
  split
  · exact .modMsix h
  · exact .modMsix h
  · exact .modMsix h
  · exact .ite (.modMsix h) (.unmask h)

theorem Stays.clearTr {c w} (h : Later s u) : Later s (u.clearTr c w) := .modCh h

theorem Stays.flagWrite {w} (h : Later s u) : Later s (u.flagWrite w) := by
  unfold State.flagWrite
  exact .ite (.modHl h) (.ite (.ite (.modOut h) h) (.ite h (.ite (.modCh h) (.ite (.modCh h) (.ite (.modCh h) (.ite
    (.clearTr h) h))))))

theorem Stays.writeWord {w} (h : Later s u) : Later s (u.writeWord w) := by
  unfold State.writeWord
  exact .ite (.flagWrite h) (.ite (.mailboxWrite (.touchCore h)) (.ite (.queueWrite h) (.ite (.msixWrite h) h)))

theorem Stays.barWrite {off size v} (h : Later s u) : Later s (u.barWrite off size v) := .ite (.foldl .writeWord h) h
theorem Stays.setShadow {a v} (h : Later s u) : Later s (u.setShadow a v) := .modHl h

theorem Stays.regRead {a} (h : Later s u) : Later s (u.regRead a).2 := by
  unfold State.regRead
  split
  · exact .snd (.setShadow h)
  · split
    · exact h
    · exact .ite_snd (.snd (.touchCore h)) h

theorem Stays.barRead {off size} (h : Later s u) : Later s (u.barRead off size).2 := .ite_snd (.foldl_snd .regRead h) h

theorem Stays.takeUndefined {t mb} (h : Later s u) : Later s (u.takeUndefined t mb) := by
  unfold State.takeUndefined
  exact .ite (.command h .fails) (.reach h)

/-! Debug. -/

theorem Stays.haltFor {cause} (h : Later s u) : Later s (u.haltFor cause) := .modFw h
theorem Stays.dbgHaltOp (h : Later s u) : Later s u.dbgHaltOp := .ite h (.ite (.haltFor h) (.ite (.modFw h) h))
theorem Stays.dbgStepOp (h : Later s u) : Later s u.dbgStepOp := .ite (.haltFor h) h

theorem Stays.dbgCtrl {v} (h : Later s u) : Later s (u.dbgCtrl v) := by
  unfold State.dbgCtrl
  split
  · exact h
  · extract_lets s1 _ _ s2 s3
    have h1 : Later s s1 := .ite (.modFw h) h
    have h2 : Later s s2 := .ite (.resumeCore h1) h1
    have h3 : Later s s3 := .ite (.dbgStepOp h2) h2
    exact .ite (.dbgHaltOp h3) h3

theorem Stays.dbgCtrlBit {i v} (h : Later s u) : Later s (u.dbgCtrlBit i v) := .ite (.dbgCtrl h) h

theorem Stays.dbgRead {a} (h : Later s u) : Later s (u.dbgRead a).2 := by
  unfold State.dbgRead
  split
  · exact h
  · exact h
  · exact h
  · exact .regRead h
  · exact .elim_snd (.snd (.free h)) h
  · exact h
  · exact h

theorem Stays.dbgWrite {a v} (h : Later s u) : Later s (u.dbgWrite a v) := by
  unfold State.dbgWrite
  split
  · exact .modFw h
  · exact .mailboxWrite h
  · exact .modFw h
  · exact h
  · exact h
  · exact h
  · exact h

theorem Stays.accFail (h : Later s u) : Later s u.accFail := .modFw h

theorem Stays.dbgAccess {a wr} (h : Later s u) : Later s (u.dbgAccess a wr) := by
  unfold State.dbgAccess
  split
  · exact .accFail h
  · extract_lets _ s1
    have h1 : Later s s1 := .modFw (.dbgRead h)
    exact .elim h1 (.dbgWrite h1)

theorem Stays.dbgData {setAddr wr} (h : Later s u) : Later s (u.dbgData setAddr wr) := .ite h (.modFw (.dbgAccess h))
theorem Stays.scanBp {v} (h : Later s u) : Later s (u.scanBp v) := .modFw h
theorem Stays.meetBp {i} (h : Later s u) : Later s (u.meetBp i) := .ite (.modFw (.haltFor h)) h
theorem Stays.bpHit {scan i} (h : Later s u) : Later s (u.bpHit scan i) := .ite h (.meetBp (.elim h (.scanBp h)))

/-! Detector events. -/

theorem Stays.raiseDet {c i1 f} (h : Later s u) : Later s (u.raiseDet c i1 f) := by
  unfold State.raiseDet
  exact .setEvq h

theorem Stays.sampleStep {i0 w} (h : Later s u) : Later s (u.sampleStep i0 w) := by
  unfold State.sampleStep
  extract_lets _ _ s1
  have h1 : Later s s1 := by
    refine .foldl (fun h => ?_) h
    split
    · exact h
    · exact .foldl .raiseDet (.modCh h)
  exact .foldl (fun h => .ite (.elim h (.raiseDet h)) h) h1

/-! The rows. -/

/-- A row that goes on. -/
theorem Stays.leads (h : Later s u) : Leads (go u) (Later s) := ⟨u, rfl, h⟩

/-- Every command goes on, to a later state. -/
theorem exec_leads_later (i : Instr) (s : State) : Leads (exec i s) (Later s) := by
  have h {t : Nat} : Later s (s.reach t) := .reach .refl
  cases i with
  | mbGo => exact Stays.leads (.hostDoorbell h)
  | mbAbort => exact Stays.leads (.hostDoorbell h)
  | commandExpiry => exact Stays.leads (.expireMb h)
  | undefinedCommand => exact Stays.leads (.takeUndefined .refl)
  | resync => exact Stays.leads (.command .refl .resyncBody)
  | getInfo => exact Stays.leads (.command .refl .infoBody)
  | putSettings => exact Stays.leads (.command .refl .putSettingsBody)
  | getSettings => exact Stays.leads (.command .refl .getSettingsBody)
  | apply => exact Stays.leads (.command .refl .applyBody)
  | discardStaged => exact Stays.leads (.command .refl .discardBody)
  | getEvents => exact Stays.leads (.command .refl .getEventsBody)
  | echo => exact Stays.leads (.command .refl .echoBody)
  | arm => exact Stays.leads (.command .refl .armBody)
  | armCommit => exact Stays.leads (.armCommit h)
  | disarm => exact Stays.leads (.command .refl .disarmBody)
  | forceTrigger => exact Stays.leads (.command .refl .forceBody)
  | getAcqStatus => exact Stays.leads (.command .refl .acqStatusBody)
  | loadSeqTable => exact Stays.leads (.command .refl .loadSeqBody)
  | calRun => exact Stays.leads (.command .refl .calRunBody)
  | calRunEnd => exact Stays.leads (.calRunEnd h)
  | calStatus => exact Stays.leads (.command .refl .calStatusBody)
  | calCommit => exact Stays.leads (.command .refl .calCommitBody)
  | calStoreCompletion => exact Stays.leads (.storeDone h)
  | calRevert => exact Stays.leads (.command .refl .calRevertBody)
  | graftControl => exact Stays.leads (.command .refl .graftBody)
  | loadCurve => exact Stays.leads (.command .refl .loadCurveBody)
  | setQuota => exact Stays.leads (.command .refl .setQuotaBody)
  | releaseSegments => exact Stays.leads (.command .refl .releaseBody)
  | getTrellisStatus => exact Stays.leads (.command .refl .trellisStatusBody)
  | memHealth => exact Stays.leads (.command .refl .answers)
  | retirePc => exact Stays.leads (.command .refl .retirePcBody)
  | scrubControl => exact Stays.leads (.command .refl .scrubBody)
  | setTime => exact Stays.leads (.command .refl .setTimeBody)
  | getTimeStatus => exact Stays.leads (.command .refl .timeStatusBody)
  | loadBandTable => exact Stays.leads (.command .refl .loadBandBody)
  | relock => exact Stays.leads (.command .refl .relockBody)
  | tdcMeasure => exact Stays.leads (.command .refl .measureBody)
  | pwrEnter => exact Stays.leads (.command .refl .pwrEnterBody)
  | pwrStatus => exact Stays.leads (.command .refl .pwrStatusBody)
  | domainControl => exact Stays.leads (.command .refl .domainBody)
  | monLoadTable => exact Stays.leads (.command .refl .monLoadBody)
  | monRead => exact Stays.leads (.command .refl .monReadBody)
  | monInject => exact Stays.leads (.command .refl .monInjectBody)
  | monSyscal => exact Stays.leads (.command .refl .monSyscalBody)
  | getIdentity => exact Stays.leads (.command .refl .identityBody)
  | quote => exact Stays.leads (.command .refl .quoteBody)
  | debugUnlock => exact Stays.leads (.command .refl .debugUnlockBody)
  | challengeExpiry => exact Stays.leads (.challengeEnd h)
  | enrollOwner => exact Stays.leads (.command .refl .enrolBody)
  | ownerSlotProgrammed => exact Stays.leads (.ownerDone h)
  | arrayJoin => exact Stays.leads (.command .refl .arrayJoinBody)
  | joinSilenceExpiry => exact Stays.leads (.joinSilence h)
  | arrayStatus => exact Stays.leads (.command .refl .arrayStatusBody)
  | arrayLeave => exact Stays.leads (.command .refl .arrayLeaveBody)
  | arrayCalibrateLinks => exact Stays.leads (.command .refl .calLinksBody)
  | linkCalibrationEnd => exact Stays.leads (.linksDone h)
  | fwStage => exact Stays.leads (.command .refl .fwStageBody)
  | fwStageEnd => exact Stays.leads (.stageEnd h)
  | fwActivate => exact Stays.leads (.activateOffline (.command .refl .fwActivateBody))
  | liveRestartDone => exact Stays.leads (.liveDone h)
  | trialExpiry => exact Stays.leads (.trialEnd h)
  | fwStatus => exact Stays.leads (.command .refl .fwStatusBody)
  | playLoad => exact Stays.leads (.command .refl .playLoadBody)
  | playLoadEnd => exact Stays.leads (.loadDone h)
  | playStart => exact Stays.leads (.command .refl .playStartBody)
  | playStop => exact Stays.leads (.command .refl .playStopBody)
  | harvestQueueCreate => exact Stays.leads (.command .refl .queueCreateBody)
  | harvestQueueDestroy => exact Stays.leads (.command .refl .queueDestroyBody)
  | queueDrainExpiry => exact Stays.leads (.drainExpiry h)
  | eventNotifyInterval => exact Stays.leads (.notifyEnd h)
  | flashLogCopy => exact Stays.leads (.copyFlash h)
  | registerWrite => exact Stays.leads (.barWrite h)
  | rsRead => exact Stays.leads (.setReadData (.barRead h))
  | overloadAsserted => exact Stays.leads (.overload h)
  | protectionTrip => exact Stays.leads (.feTrip h)
  | protectionAutoClose => exact Stays.leads (.feAutoClose h)
  | towerSelfTest => exact Stays.leads (.ite (.towerTest h) h)
  | graftSelfTest => exact Stays.leads (.graftTest h)
  | graftShadowSettled => exact Stays.leads (.shadowDone h)
  | graftWindow => exact Stays.leads (.graftWin h)
  | swap => exact Stays.leads (.swapTick h)
  | sliceFailure => exact Stays.leads (.sliceFails h)
  | sliceReplacement => exact Stays.leads (.replaceDue h)
  | trimRampStep => exact Stays.leads (.rampStep h)
  | skewWindow => exact Stays.leads (.skewWindow h)
  | refGate => exact Stays.leads (.refGate h)
  | refLoss => exact Stays.leads (.refAbsent h)
  | refQualification => exact Stays.leads (.refQualify h)
  | disciplineUpdate => exact Stays.leads (.disciplineUpdate h)
  | clockStep => exact Stays.leads (.clockStep h)
  | lockLoss => exact Stays.leads (.lockLost h)
  | bandEdge => exact Stays.leads (.bandEdge h)
  | overspeed => exact Stays.leads (.overspeed h)
  | lockDeclared => exact Stays.leads (.lockDeclared h)
  | frequencyAgreement => exact Stays.leads (.freqAgrees h)
  | relockAttemptFailure => exact Stays.leads (.attemptFails h)
  | relockCompletion => exact Stays.leads (.relockDone h)
  | sscChange => exact Stays.leads (.modCk h)
  | ppsEdge => exact Stays.leads (.tdcEdge h)
  | ppsMissing => exact Stays.leads (.ppsMissing h)
  | ppsOutPulse => exact Stays.leads (.ppsPulse h)
  | ppsOutEnd => exact Stays.leads (.ppsPulseEnd h)
  | epochMark => exact Stays.leads (.epochMark h)
  | tdcEdge => exact Stays.leads (.ite (.tdcEdge h) h)
  | tdcCalibration => exact Stays.leads (.tdcCal h)
  | tdcCalTimeout => exact Stays.leads (.tdcTimeout h)
  | measurementExpiry => exact Stays.leads (.measureExpiry h)
  | detectorEvent => exact Stays.leads (.foldl (fun h => .ite (.hear h) h) (.sampleStep h))
  | fltEvent => exact Stays.leads (.ite (.onOldRun h .fltValue) (.fltValue h))
  | timerEvent => exact Stays.leads (.timerEvent h)
  | eventPresentation => exact Stays.leads (.finishDisarm (.finishForce (.presentDue h)))
  | expiryEvent => exact Stays.leads (.happenIf h)
  | holdoffEnd => exact Stays.leads (.happenIf h)
  | autoTrigger => exact Stays.leads (.happenIf h)
  | segmentClose => exact Stays.leads (.closeStep h)
  | outputPulse => exact Stays.leads (.outputPulses h)
  | pulseEnd => exact Stays.leads (.pulseOver h)
  | synchronisingReset => exact Stays.leads (.syncReset h)
  | fold => exact Stays.leads (.foldDone h)
  | resultPass => exact Stays.leads (.passDone h)
  | busyIntervalEnd => exact Stays.leads (.busyOver h)
  | pageNeed => exact Stays.leads (.pageNeed h)
  | descriptorWrite => exact Stays.leads (.writeDescriptor h)
  | patrolScrub => exact Stays.leads (.patrol (.ite (.srAbort h) h))
  | writeBack => exact Stays.leads (.writeBack (.ite (.srAbort h) h))
  | migrationCompletion => exact Stays.leads (.migDone h)
  | capacityReduction => exact Stays.leads (.capacityDone h)
  | retrainingWindow => exact Stays.leads (.retrainWindow (.ite (.srAbort h) h))
  | ceWindow => exact Stays.leads (.ceWindow h)
  | pcRestoreTraining => exact Stays.leads (.restoreDone h)
  | selfRefreshEntry => exact Stays.leads (.srEntry h)
  | selfRefreshExit => exact Stays.leads (.srLeave h)
  | hqTailWrite => exact Stays.leads (.tailWrite h)
  | hqCheadWrite => exact Stays.leads (.cheadWrite h)
  | descriptorTake => exact Stays.leads (.fetchStep h)
  | completionRecord => exact Stays.leads (.recordStep h)
  | msixUnmask => exact Stays.leads (.unmask h)
  | linkDown => exact Stays.leads (.linkDrop h)
  | linkUp => exact Stays.leads (.linkRise h)
  | playStartTick => exact Stays.leads (.playBegin h)
  | playEnd => exact Stays.leads (.playFinish h)
  | streamUnderrun => exact Stays.leads (.underrun h)
  | portUp => exact Stays.leads (.portUp h)
  | portDown => exact Stays.leads (.portDown h)
  | reroute => exact Stays.leads (.reroute h)
  | takeoverWaitExpiry => exact Stays.leads (.takeoverNow h)
  | pauseExpiry => exact Stays.leads (.pauseExpire h)
  | timeExchange => exact Stays.leads (.sendTime h)
  | statusReport => exact Stays.leads (.fwMessage h)
  | time => exact Stays.leads (.takeTime h)
  | epoch => exact Stays.leads (.takeEpoch h)
  | trigReq => exact Stays.leads (.takeTrigReq h)
  | trig => exact Stays.leads (.takeTrig h)
  | armMessage => exact Stays.leads (.takeArm h)
  | disarmMessage => exact Stays.leads (.takeDisarm h)
  | ready => exact Stays.leads (.takeReady h)
  | relayCmd => exact Stays.leads (.relayArrives h)
  | relayRsp => exact Stays.leads (.takeRelayRsp h)
  | join => exact Stays.leads (.fwMessage h)
  | assign => exact Stays.leads (.ite (.assignOwn h) (.assignOther h))
  | status => exact Stays.leads (.fwMessage h)
  | takeover => exact Stays.leads (.takeTakeover h)
  | absent => exact Stays.leads (.takeAbsent h)
  | pause => exact Stays.leads (.takePause h)
  | dissolve => exact Stays.leads (.takeDissolve h)
  | badMessage => exact Stays.leads (.ite (.badMessage h) h)
  | idleEntry => exact Stays.leads (.idleEntry h)
  | hbmPhyIdle => exact Stays.leads (.phyIdle h)
  | onDemandWake => exact Stays.leads (.demandWake h)
  | powerEntryDrain => exact Stays.leads (.entryDrain h)
  | retentionCopy => exact Stays.leads (.entryRetain h)
  | powerEntryCommit => exact Stays.leads (.entryCommit h)
  | wakeNLow => exact Stays.leads (.ite h (.wakeEvent h))
  | wakeEdge => exact Stays.leads (.ite (.wakeEvent h) (.ite (.wakeEvent h) h))
  | wakeTimerExpiry => exact Stays.leads (.ite (.wakeEvent (.modPw h)) h)
  | mainPowerReturn => exact Stays.leads (.mainReturn h)
  | bfCmdWake => exact Stays.leads (.ite (.wakeEvent h) h)
  | bfCmdOff => exact Stays.leads (.ite (.goOff h) h)
  | bfCmdClearFail => exact Stays.leads (.ite (.modPw h) h)
  | i2cSnapshotRead => exact Stays.leads (.i2cRead h)
  | regulatorTimeout => exact Stays.leads (.railFails h)
  | wakeCompletion => exact Stays.leads (.wakeDone h)
  | mainPowerLoss => exact Stays.leads (.mainLoss h)
  | thermalTrip => exact Stays.leads (.thermalTrip h)
  | brownOut => exact Stays.leads (.brownOut h)
  | insertion => exact Stays.leads (.insert h)
  | powerUp => exact Stays.leads (.firstPower h)
  | conversionEnd => exact Stays.leads (.monConvEnd h)
  | entryDelayEnd => exact Stays.leads (.monDelayEnd h)
  | injectionStart => exact Stays.leads (.injectStart h)
  | syscalStart => exact Stays.leads (.calStart h)
  | dbgHalt => exact Stays.leads (.dbgCtrlBit h)
  | dbgResume => exact Stays.leads (.dbgCtrlBit h)
  | dbgStep => exact Stays.leads (.dbgCtrlBit h)
  | dbgClrErr => exact Stays.leads (.dbgCtrlBit h)
  | dbgDataAccess => exact Stays.leads (.dbgData h)
  | breakpointHit => exact Stays.leads (.bpHit h)
  | armWakeFailure => exact Stays.leads (.armWakeFail h)
  | retrainingStart => exact Stays.leads (.retrainStart h)
  | groupRead => exact Stays.leads (.groupRead (.ite (.srAbort h) h))
  | heldAllocation => exact Stays.leads (.heldStep h)
  | auxPowerLoss => exact Stays.leads (.auxLoss h)
  | l1Exit => exact Stays.leads (.wakeEvent h)
  | syscalSettleEnd => exact Stays.leads (.calSettled h)

end

/-- Settles O58: every row is made of operations that keep the queue and never take the clock back. -/
theorem commandsKeepQueueAndTime : Obligations.CommandsKeepQueueAndTime := by
  intro i s u hx
  obtain ⟨v, hv, hlater⟩ := exec_leads_later i s
  cases hx.symm.trans hv
  exact ⟨hlater.holds.pending, hlater.holds.clk⟩

end Sys2Proof.Machine
end

section
/-!
O31: the events of one presentation cycle are presented once (08 R220, R221, R223), and a closed segment takes its values (12 R297).
-/

namespace Sys2Proof.Machine

/-! What presentation leaves of the events that wait (08 R200, R220). -/

/-- An event of no detector. -/
def Ev.plain (e : Ev) : Bool := e.src == 0 || decide (4 < e.src)

/-- Of the events `q` none but detectors' are gone, in a standalone module with no command under execution. -/
structure Waiting (q : List Ev) (u : State) : Prop where
  role : u.ar.role = 0
  exec : u.mr.exec = none
  sub : u.evq.Sublist q
  plain : u.evq.filter Ev.plain = q.filter Ev.plain

section
variable {q : List Ev} {s : State} {e : Ev} {p : Nat}

/-- A detector that stops takes no event of another source with it. -/
theorem stopDet_plain (u : State) (d : Fin 4) (i : Nat) : (u.stopDet d i).evq.filter Ev.plain = u.evq.filter Ev.plain := by
  show (u.evq.filter _).filter Ev.plain = _
  rw [List.filter_filter]
  refine List.filter_congr fun v _ => ?_
  have hd := d.isLt
  by_cases hv : v.src = 1 + d.val
  · have : v.plain = false := by simp [Ev.plain]; omega
    simp [this]
  · simp [hv]

theorem waiting_closed : Closed (Waiting q) where
  same h hv := by
    simp only [State.watched, Prod.mk.injEq] at hv
    obtain ⟨-, -, hq, hrole, hexec⟩ := hv
    exact ⟨hrole.trans h.role, hexec.trans h.exec, hq ▸ h.sub, hq ▸ h.plain⟩
  stopDet h := ⟨h.role, h.exec, List.filter_sublist.trans h.sub, (stopDet_plain _ _ _).trans h.plain⟩
  engaged h hu _ := hu.elim (absurd h.exec) (absurd h.role)

/-! EVENT_PRESENTATION without a command that waits for it. -/

theorem finishForce_idle (h : s.mr.exec = none) : s.finishForce = s := by simp [State.finishForce, h]

theorem finishDisarm_idle (h : s.mr.exec = none) : s.finishDisarm = s := by simp [State.finishDisarm, h]

/-- With no stop ordered, the earliest cycle is presented once it has come. -/
theorem presentDue_cycle (hhalt : s.haltAt = none) (hp : firstCycle s.evq = some p) (hcome : p ≤ s.clk) :
    s.presentDue = s.presentCycle p := by
  simp [State.presentDue, hhalt, hp, hcome]

/-- The row is the presentation of the earliest cycle, where that leaves no command under execution. -/
theorem exec_eventPresentation {t : Nat} (hhalt : s.haltAt = none) (hp : firstCycle s.evq = some p) (hcome : p ≤ max s.clk t)
    (hidle : ((s.reach t).presentCycle p).mr.exec = none) :
    exec (.eventPresentation t) s = .next ((s.reach t).presentCycle p) := by
  show go ((s.reach t).presentDue.finishForce.finishDisarm) = _
  rw [presentDue_cycle (s := s.reach t) hhalt hp hcome, finishForce_idle hidle, finishDisarm_idle hidle]
  rfl

/-- Presenting a cycle takes its events and, of the others, none but detectors'. -/
theorem presentCycle_waiting (hrole : s.ar.role = 0) (hexec : s.mr.exec = none) :
    Waiting (s.evq.filter (fun e => e.pres != p)) (s.presentCycle p) :=
  (Stays.presentAll ⟨⟨hrole, hexec, .refl _, rfl⟩, waiting_closed⟩).holds

/-! One event that no channel receives (08 R200, R221, R223). -/

theorem bringUp_unreceived (h : ∀ c, s.receives c e = false) : s.bringUp e = s := by simp [State.bringUp, allCh, h]

theorem evAt_unreceived {c : Fin 4} (h : s.receives c e = false) : s.evAt c e = (s, false) := by simp [State.evAt, h]

theorem evAtAll_unreceived (h : ∀ c, s.receives c e = false) : s.evAtAll e = (s, []) := by
  simp [State.evAtAll, allCh, evAt_unreceived (h _)]

/-- An event past the end of its detector's run goes without effect. -/
theorem presentAll_fallen (hfree : ∀ c, s.receives c e = false) (hs : s.stands e = false) : State.presentAll [e] [] s = s := by
  simp [State.presentAll, bringUp_unreceived hfree, hs]

/-- A detector's event counts in its detector. -/
theorem countEv_detector {d : Fin 4} (hsrc : e.src = 1 + d.val) :
    s.countEv e = s.modCh d (fun x => { x with det := { x.det with
      count := wrapAdd 64 x.det.count 1, last := e.stamp, lost := x.det.lost.raise (!e.valid) s.clk } }) := by
  have hr : 1 ≤ e.src ∧ e.src ≤ 4 := by omega
  have hd : (⟨e.src - 1, by omega⟩ : Fin 4) = d := Fin.ext (by simp [hsrc])
  simp only [State.countEv, dif_pos hr, hd]

/-- What a channel receives does not hang on its detector or its stage. -/
theorem receives_of_core {u : State} {c : Fin 4} (h : u.ch[c].core = s.ch[c].core) : u.receives c e = s.receives c e := by
  have hst : u.ch[c].st = s.ch[c].st := (congrArg Chan.st h :)
  have hfrom : u.ch[c].armClk = s.ch[c].armClk := (congrArg Chan.armClk h :)
  have hstop : u.ch[c].stopAt = s.ch[c].stopAt := (congrArg Chan.stopAt h :)
  have hdone : u.ch[c].doneAt = s.ch[c].doneAt := (congrArg Chan.doneAt h :)
  simp only [State.receives, State.armedOn, State.running, Chan.beforeStop, hst, hfrom, hstop, hdone]

theorem noteTaken_idle (h : s.mr.exec = none) (cs : List (Fin 4)) : s.noteTaken e cs = s := by simp [State.noteTaken, h]

/-- An event that stands and that no channel receives counts with its detector, no more. -/
theorem presentAll_counted {d : Fin 4} (hfree : ∀ c, s.receives c e = false) (hexec : s.mr.exec = none) (hsrc : e.src = 1 + d.val)
    (hs : s.stands e = true) : State.presentAll [e] [] s = s.modCh d (fun x => { x with det := { x.det with
      count := wrapAdd 64 x.det.count 1, last := e.stamp, lost := x.det.lost.raise (!e.valid) s.clk } }) := by
  have hcount : ∀ c, (s.countEv e).receives c e = false := by
    intro c
    rw [countEv_detector hsrc]
    refine (receives_of_core ((KeepsChannels.modCh s d ?_).core c)).trans (hfree c)
    exact fun _ => rfl
  have hidle : (s.countEv e).mr.exec = none := by
    rw [countEv_detector hsrc]
    exact hexec
  calc State.presentAll [e] [] s = (s.countEv e).noteTaken e [] := by
        simp [State.presentAll, bringUp_unreceived hfree, hs, evAtAll_unreceived hcount]
    _ = s.countEv e := noteTaken_idle hidle []
    _ = _ := countEv_detector hsrc

/-- The cycle of the only event that waits. -/
theorem presentCycle_single (h : s.evq = [e]) : s.presentCycle e.pres = State.presentAll [s.restamp e] [] (s.setEvq []) := by
  simp [State.presentCycle, h, sortEvs, insertEv]

theorem firstCycle_single : firstCycle [e] = some e.pres := rfl

/-- Events of one presentation cycle are presented: of the rest none but detectors' go. -/
theorem eventPresentation_leaves {t : Nat} (hrole : s.ar.role = 0) (hexec : s.mr.exec = none) (hhalt : s.haltAt = none)
    (hp : firstCycle s.evq = some p) (hcome : p ≤ max s.clk t) :
    Leads (exec (.eventPresentation t) s) (Waiting (s.evq.filter (fun e => e.pres != p))) := by
  have h : Waiting (s.evq.filter (fun e => e.pres != p)) ((s.reach t).presentCycle p) :=
    presentCycle_waiting (s := s.reach t) hrole hexec
  exact ⟨_, exec_eventPresentation hhalt hp hcome h.exec, h⟩

section
variable {t : Nat} {d : Fin 4} (hq : s.evq = [e]) (hexec : s.mr.exec = none) (hhalt : s.haltAt = none)
  (hcome : e.pres ≤ max s.clk t) (hfree : ∀ c, s.receives c e = false)
include hq hexec hhalt hcome hfree

/-- One event that nobody receives and whose detector's run ended before it leaves the queue, no more. -/
theorem eventPresentation_fallen (hs : s.stands e = false) :
    exec (.eventPresentation t) s = .next ((s.reach t).setEvq []) := by
  have hp : (s.reach t).presentCycle e.pres = (s.reach t).setEvq [] :=
    (presentCycle_single (s := s.reach t) hq).trans (presentAll_fallen (s := (s.reach t).setEvq []) hfree hs)
  rw [exec_eventPresentation hhalt (hq ▸ firstCycle_single) hcome (hp ▸ hexec), hp]

/-- One detector event that nobody receives is counted. -/
theorem eventPresentation_counted (hsrc : e.src = 1 + d.val) (hs : s.stands e = true) :
    exec (.eventPresentation t) s = .next (((s.reach t).setEvq []).modCh d (fun x => { x with det := { x.det with
      count := wrapAdd 64 x.det.count 1, last := (s.restamp e).stamp, lost := x.det.lost.raise (!e.valid) (max s.clk t) } })) := by
  have hp := (presentCycle_single (s := s.reach t) hq).trans
    (presentAll_counted (s := (s.reach t).setEvq []) hfree hexec hsrc hs)
  rw [exec_eventPresentation hhalt (hq ▸ firstCycle_single) hcome (hp ▸ hexec), hp]
  rfl
end

end

/-! A closed segment takes its values (12 R297). -/

section
variable {s u : State} {c : Fin 4} {g : Seg} {bs : List Byte} {codes : Codes}

/-- What filling segment `g` with the bytes `bs` of its words does. -/
structure Filled (s : State) (c : Fin 4) (g : Seg) (bs : List Byte) (u : State) : Prop where
  descQ : u.tr.descQ = s.tr.descQ ++ [(c, g.acq, g.idx)]
  seg : ∃ x ∈ u.tr.segs, x.is c g.acq g.idx = true ∧ x.awaiting = false ∧ x.queued = true
  mem : ∀ a, a / 32768 ∈ g.pages → memRead u.tr.mem a = memRead (writeChain g.pages g.firstWord bs s.tr.mem) a
  segs : u.ch[c].segs = s.ch[c].segs

theorem memRead_filter {f : Nat × Byte → Bool} {a : Nat} (ha : ∀ v, f (a, v) = true) (m : Memory) :
    memRead (m.filter f) a = memRead m a := by
  induction m with
  | nil => rfl
  | cons e m ih =>
    obtain ⟨k, v⟩ := e
    by_cases hk : k = a
    · simp [hk, ha, memRead]
    · by_cases hf : f (k, v) = true
      · simp [hf, hk, ih, memRead]
      · simp [hf, hk, ih, memRead]

theorem quotaCheck_tr (s : State) (c : Fin 4) : (s.quotaCheck c).tr = s.tr := by
  unfold State.quotaCheck
  split
  · obtain ⟨-, -, -, -, -, -, -, htr, -⟩ := (logEv_quiet (s.modCh c (fun h => { h with overQuota := false })) 0x0A02 sevInfo
      (c.val + 1) (leBytes 4 (s.heldPages c) ++ leBytes 4 s.ch[c].quota)).units
    exact htr
  · rfl

theorem sweep_descQ (s : State) (c : Fin 4) : (s.sweep c).tr.descQ = s.tr.descQ := (congrArg Trellis.descQ (quotaCheck_tr _ c) :)

theorem sweep_segs (s : State) (c : Fin 4) : (s.sweep c).tr.segs = s.tr.segs := (congrArg Trellis.segs (quotaCheck_tr _ c) :)

/-- What a needed page holds stays through the return of the others. -/
theorem sweep_memRead {a : Nat} (h : a / 32768 ∈ s.neededPages c) : memRead (s.sweep c).tr.mem a = memRead s.tr.mem a := by
  refine (congrArg (fun t : Trellis => memRead t.mem a) (quotaCheck_tr _ c)).trans (memRead_filter (fun v => ?_) s.tr.mem)
  simp only [Bool.not_eq_true', List.contains_eq_mem, decide_eq_false_iff_not, List.mem_map, List.mem_filter]
  rintro ⟨x, ⟨-, hx⟩, hxa⟩
  simp [hxa, h] at hx

/-- The pages of a segment that its channel holds are needed. -/
theorem neededPages_of_seg {x : Seg} (hx : x ∈ s.tr.segs) (hch : x.ch = c) {p : Nat} (hp : p ∈ x.pages) : p ∈ s.neededPages c := by
  simp only [State.neededPages, List.mem_append, List.mem_flatMap, List.mem_filter]
  exact .inl (.inl (.inl (.inl ⟨x, ⟨hx, by simp [hch]⟩, .inl hp⟩)))

theorem Filled.sweep (h : Filled s c g bs u) (hneed : ∀ p ∈ g.pages, p ∈ u.neededPages c) : Filled s c g bs (u.sweep c) where
  descQ := (sweep_descQ u c).trans h.descQ
  seg := (sweep_segs u c).symm ▸ h.seg
  mem a ha := (sweep_memRead (hneed _ ha)).trans (h.mem a ha)
  segs := (congrArg Chan.segs ((sweep_keepsChannels u c).core c) :).trans h.segs

theorem countSat_tr (s : State) (c : Fin 4) (j : Nat) (v : Value) : (s.countSat c j v).tr = s.tr := by
  unfold State.countSat
  split
  · rfl
  · rfl

theorem countSat_keepsChannels (s : State) (c : Fin 4) (j : Nat) (v : Value) : KeepsChannels s (s.countSat c j v) := by
  unfold State.countSat
  split
  · exact KeepsChannels.modCh s c fun _ => rfl
  · exact .refl s

theorem countSats_keepsChannels (s : State) (c : Fin 4) (j : Nat) (vs : List Value) : KeepsChannels s (s.countSats c j vs) :=
  .foldl (fun a _ => countSat_keepsChannels a c _ _) _ s

theorem countSats_tr (s : State) (c : Fin 4) (j : Nat) (vs : List Value) : (s.countSats c j vs).tr = s.tr := by
  unfold State.countSats
  generalize vs.zip (List.range vs.length) = l
  induction l generalizing s with
  | nil => rfl
  | cons p ps ih => exact (ih _).trans (countSat_tr s c _ _)

/-- The bytes of a segment's words, packed from the values that the codes make. -/
def State.segBytes (s : State) (c : Fin 4) (g : Seg) (codes : Codes) : List Byte :=
  let tags := ((s.valuesOf c g.firstVal g.length codes).zip (List.range g.length)).map (fun p => s.tagValue c g p.1 (g.firstVal + p.2))
  wordBytes (packWords (s.fmtSpec g.fmt) (s.decMode c) (s.decKey 0x0804 c) (s.tailMark c g tags))

/-- The segment when its values have come: its flags stand. -/
def Seg.take (ovr set mrk : Bool) (g : Seg) : Seg :=
  { g with awaiting := false, queued := true, ovr := ovr, set := set, mrk := mrk }

/-- Filling a segment with bytes, before pages are returned. -/
def State.fillWith (s : State) (c : Fin 4) (g : Seg) (bs : List Byte) (f : Seg → Seg) (x : Stream) : State :=
  (((s.modSeg c g.acq g.idx f).storeWords g.pages g.firstWord bs).modTr (fun t => { t with
    descQ := t.descQ ++ [(c, g.acq, g.idx)] })).hear c x

theorem fillWith_segs {f : Seg → Seg} {x : Stream} (hg : g ∈ s.tr.segs) (hch : g.ch = c) : f g ∈ (s.fillWith c g bs f x).tr.segs :=
  List.mem_map.mpr ⟨g, hg, if_pos (by simp [Seg.is, hch])⟩

/-- Filling, once saturated values are counted (`u`), and the return of pages that follows. -/
theorem fillWith_filled {o v m : Bool} {x : Stream} (hg : g ∈ s.tr.segs) (hch : g.ch = c) (htr : u.tr = s.tr)
    (hsegs : u.ch[c].segs = s.ch[c].segs) : Filled s c g bs ((u.fillWith c g bs (.take o v m) x).sweep c) := by
  have hmem : g.take o v m ∈ (u.fillWith c g bs (.take o v m) x).tr.segs := fillWith_segs (htr ▸ hg) hch
  refine Filled.sweep ⟨?_, ⟨_, hmem, by simp [Seg.take, Seg.is, hch], rfl, rfl⟩, fun a _ => ?_, ?_⟩ fun p hp =>
    neededPages_of_seg hmem hch hp
  · exact (congrArg (fun t : Trellis => t.descQ ++ [(c, g.acq, g.idx)]) htr :)
  · exact (congrArg (fun t : Trellis => memRead (writeChain g.pages g.firstWord bs t.mem) a) htr :)
  · rw [State.fillWith, State.hear, modCh_same]
    exact hsegs

/-- A segment that is due takes its values. -/
theorem fillSeg_filled (hdue : s.descFrom g ≤ s.clk) (hroom : s.tr.descQ.length < 1024) (hg : g ∈ s.tr.segs) (hch : g.ch = c) :
    Filled s c g (s.segBytes c g codes) (s.fillSeg c g codes) := by
  unfold State.fillSeg
  rw [if_neg (by omega)]
  exact fillWith_filled hg hch (countSats_tr s c _ _) (congrArg Chan.segs ((countSats_keepsChannels s c _ _).core c) :)

/-- On a channel with nothing open, nothing that waits is a close. -/
theorem happenings_open (h : s.ch[c].open_ = none) {x : Nat × Happening} (hx : x ∈ s.happenings c) : x.2 ≠ .close := by
  simp only [State.happenings, State.closeInstant, h, Option.map_none, List.append_nil, List.filter_append, List.mem_append,
    List.mem_filter] at hx
  rcases hx with ((⟨hx, -⟩ | ⟨hx, -⟩) | ⟨hx, -⟩) | ⟨hx, -⟩
  all_goals
    split at hx
    · simp [List.mem_singleton.mp hx]
    · cases hx

theorem happenIf_close_idle (h : s.ch[c].open_ = none) : s.happenIf c (fun x => x == .close) = s := by
  have hnone : (s.happenings c).filter (fun x => x.2 == .close) = [] :=
    List.filter_eq_nil_iff.mpr fun x hx => by simpa using happenings_open h hx
  simp [State.happenIf, hnone, firstHappening]

/-- The oldest closed segment, of the run in progress, takes its values when it is due. -/
theorem closeStep_filled (hopen : s.ch[c].open_ = none) (haccum : s.accum c = false)
    (hg : s.tr.segs.find? (fun x => x.ch == c && x.awaiting) = some g) (hrun : g.run = s.ch[c].dec.run)
    (hdue : s.descFrom g ≤ s.clk) (hroom : s.tr.descQ.length < 1024) :
    Filled s c g (s.segBytes c g codes) (s.closeStep c codes) := by
  have hch : g.ch = c := by
    have := List.find?_some hg
    simp_all
  have hstep : s.closeStep c codes = s.fillSeg c g codes := by
    simp [State.closeStep, happenIf_close_idle hopen, haccum, State.giveValues, hg, hrun]
  rw [hstep]
  exact fillSeg_filled hdue hroom (List.mem_of_find?_eq_some hg) hch
end

/-- Settles O31: presenting a cycle takes its events and loses none but detectors', a detector event that nobody receives counts once, and
the oldest closed segment takes its values. -/
theorem presentationAndClose : Obligations.PresentationAndClose := by
  refine ⟨fun s t p hrole hexec hhalt hp hcome => ?_, fun s t e d hq hexec hhalt hcome hsrc hfree => ⟨?_, ?_⟩, ?_⟩
  · obtain ⟨u, hu, h⟩ := eventPresentation_leaves hrole hexec hhalt hp hcome
    refine ⟨u, hu, h.sub, h.plain.trans ?_⟩
    rw [List.filter_filter]
    exact List.filter_congr fun e _ => Bool.and_comm _ _
  · exact eventPresentation_counted hq hexec hhalt hcome hfree hsrc
  · exact eventPresentation_fallen hq hexec hhalt hcome hfree
  · intro s t c codes g hopen haccum hg hrun hdue hroom
    have h : Filled (s.reach t) c g ((s.reach t).segBytes c g codes) ((s.reach t).closeStep c codes) :=
      closeStep_filled hopen haccum hg hrun hdue hroom
    exact ⟨_, rfl, h.descQ, h.seg, h.mem, h.segs⟩

end Sys2Proof.Machine
end

section
/-!
O12: overload intervals, the protection switch and the realised offset (03 R77, R81 to R83). Each row changes the front end of its input,
logs, and logs the overload intervals that wait.
-/

namespace Sys2Proof.Machine

/-! The realised offset (03 R77). -/

/-- The search finds the largest number of steps not above the offset. -/
theorem stepsBelow_bounds {off sq : Nat} (n : Nat) {k : Nat} (hlo : k ^ 2 * sq ≤ off ^ 2 * 2 ^ 30)
    (hhi : off ^ 2 * 2 ^ 30 < (k + 2 ^ n) ^ 2 * sq) :
    stepsBelow off sq n k ^ 2 * sq ≤ off ^ 2 * 2 ^ 30 ∧ off ^ 2 * 2 ^ 30 < (stepsBelow off sq n k + 1) ^ 2 * sq := by
  induction n generalizing k with
  | zero => exact ⟨hlo, hhi⟩
  | succ n ih =>
    rw [stepsBelow]
    split
    · next hbit => exact ih hbit (by rwa [Nat.add_assoc, ← Nat.two_mul, ← Nat.pow_succ'])
    · next hbit => exact ih hlo (Nat.lt_of_not_le hbit)

theorem double_sq (a c : Nat) : (2 * a) ^ 2 * c = 4 * (a ^ 2 * c) := by rw [Nat.mul_pow, Nat.mul_assoc]

/-- The number of steps below the offset, or the next, is a nearest one where it lies on the right side of the middle. -/
theorem nearest_bounds {sq off k n : Nat} (hlo : k ^ 2 * sq ≤ off ^ 2 * 2 ^ 30) (hhi : off ^ 2 * 2 ^ 30 < (k + 1) ^ 2 * sq)
    (hn : n = k ∧ (2 * off) ^ 2 * 2 ^ 30 ≤ (2 * k + 1) ^ 2 * sq ∨ n = k + 1 ∧ (2 * k + 1) ^ 2 * sq ≤ (2 * off) ^ 2 * 2 ^ 30) :
    (2 * off) ^ 2 * 2 ^ 30 ≤ (2 * n + 1) ^ 2 * sq ∧ (1 ≤ n → (2 * n - 1) ^ 2 * sq ≤ (2 * off) ^ 2 * 2 ^ 30) := by
  have mono {a b : Nat} (h : a ≤ b) : a ^ 2 * sq ≤ b ^ 2 * sq := Nat.mul_le_mul_right sq (Nat.pow_le_pow_left h 2)
  have hlo2 : (2 * k) ^ 2 * sq ≤ (2 * off) ^ 2 * 2 ^ 30 := by
    rw [double_sq, double_sq]
    exact Nat.mul_le_mul_left 4 hlo
  have hhi2 : (2 * off) ^ 2 * 2 ^ 30 ≤ (2 * (k + 1)) ^ 2 * sq := by
    rw [double_sq, double_sq]
    exact Nat.mul_le_mul_left 4 (Nat.le_of_lt hhi)
  rcases hn with ⟨rfl, h⟩ | ⟨rfl, h⟩
  · exact ⟨h, fun _ => Nat.le_trans (mono (by omega)) hlo2⟩
  · exact ⟨Nat.le_trans hhi2 (mono (by omega)), fun _ => h⟩

/-- The number of steps is the one below or above the offset, on the right side of the middle; the sign is that of the offset. -/
theorem offsetSteps_rounds (sq : Nat) (off : Int) :
    ∃ n : Nat, offsetSteps sq off = (if off < 0 then -(n : Int) else n)
      ∧ (n = stepsBelow off.natAbs sq 18 0 ∧ (2 * off.natAbs) ^ 2 * 2 ^ 30 ≤ (2 * stepsBelow off.natAbs sq 18 0 + 1) ^ 2 * sq
        ∨ n = stepsBelow off.natAbs sq 18 0 + 1 ∧ (2 * stepsBelow off.natAbs sq 18 0 + 1) ^ 2 * sq ≤ (2 * off.natAbs) ^ 2 * 2 ^ 30) := by
  unfold offsetSteps
  generalize stepsBelow off.natAbs sq 18 0 = k
  refine ⟨_, rfl, ?_⟩
  split
  · next h => exact .inl ⟨rfl, Nat.le_of_lt h⟩
  · next hge =>
    split
    · next h => exact .inr ⟨rfl, Nat.le_of_lt h⟩
    · next hle =>
      split
      · exact .inl ⟨rfl, Nat.le_of_not_lt hle⟩
      · exact .inr ⟨rfl, Nat.le_of_not_lt hge⟩

theorem offsetSteps_zero {sq : Nat} (h : 0 < sq) : offsetSteps sq 0 = 0 := by
  have hk : stepsBelow 0 sq 18 0 = 0 := by
    obtain ⟨hlo, -⟩ := stepsBelow_bounds (off := 0) (sq := sq) 18 (k := 0) (by omega) (by omega)
    generalize stepsBelow 0 sq 18 0 = k at hlo ⊢
    rcases Nat.eq_zero_or_pos k with hz | hpos
    · exact hz
    · have hmul := Nat.mul_pos (Nat.pow_pos (n := 2) hpos) h
      omega
  simp [offsetSteps, hk, h]

/-- An offset within the full scale is realised by a nearest step of the same sign. -/
theorem offsetSteps_nearest {sq : Nat} {off : Int} (hfs : off.natAbs ^ 2 ≤ sq) (hsq : 0 < sq) :
    (2 * off.natAbs) ^ 2 * 2 ^ 30 ≤ (2 * (offsetSteps sq off).natAbs + 1) ^ 2 * sq
      ∧ (1 ≤ (offsetSteps sq off).natAbs →
          (2 * (offsetSteps sq off).natAbs - 1) ^ 2 * sq ≤ (2 * off.natAbs) ^ 2 * 2 ^ 30)
      ∧ (0 ≤ off → 0 ≤ offsetSteps sq off) ∧ (off ≤ 0 → offsetSteps sq off ≤ 0) := by
  obtain ⟨n, hsteps, hn⟩ := offsetSteps_rounds sq off
  obtain ⟨hlo, hhi⟩ := stepsBelow_bounds (off := off.natAbs) (sq := sq) 18 (k := 0) (by omega) (by omega)
  have hnear := nearest_bounds hlo hhi hn
  have habs : (offsetSteps sq off).natAbs = n := by rw [hsteps]; split <;> omega
  rw [habs]
  refine ⟨hnear.1, hnear.2, fun h => ?_, fun h => ?_⟩
  · rw [hsteps, if_neg (Int.not_lt.mpr h)]
    exact Int.natCast_nonneg n
  · rcases Int.lt_or_eq_of_le h with hneg | rfl
    · rw [hsteps, if_pos hneg]
      exact Int.neg_nonpos_of_nonneg (Int.natCast_nonneg n)
    · exact Int.le_of_eq (offsetSteps_zero hsq)

/-! The newest entries of the event log (02 R63, R64). -/

theorem msix_log (s : State) (v : Nat) : (s.msix v).log = s.log := by
  unfold State.msix
  split <;> rfl

theorem notify_ram (s : State) (sev : Nat) : (s.notify sev).log.ram = s.log.ram := by
  unfold State.notify
  split
  · rfl
  · split
    · rw [State.modLog_log, msix_log]
    · split
      · rw [State.modLog_log, msix_log]
      · rfl

theorem coreWake_log (s : State) : s.coreWake.log = s.log := by
  unfold State.coreWake
  split
  · rfl
  · split <;> rfl

/-- Where firmware logs, an event becomes the newest entry. -/
theorem logEv_ram {s : State} (hserve : s.fw.serving = true) (hrun : s.fw.halted = false) (code sev scope : Nat) (data : List Byte) :
    (s.logEv code sev scope data).log.ram = (s.mkEvent code sev scope data :: s.log.ram).take 4096 := by
  unfold State.logEv State.logEntry
  rw [if_pos (by simp [hserve, hrun]), coreWake_log, notify_ram]
  rfl

/-- Elsewhere it waits, and the entries stand. -/
theorem logEv_ram_waits {s : State} (h : ¬(s.fw.serving = true ∧ s.fw.halted = false)) (code sev scope : Nat) (data : List Byte) :
    (s.logEv code sev scope data).log.ram = s.log.ram := by
  unfold State.logEv State.logEntry
  rw [if_neg (by simpa using h)]
  rfl

/-- Among its newest `k` entries the log holds one of this code. -/
def State.logged (s : State) (k code : Nat) : Prop := ∃ e ∈ s.log.ram.take k, e.code = code

theorem logged_mem {s : State} {k code : Nat} (h : s.logged k code) : ∃ e ∈ s.log.ram, e.code = code :=
  h.imp fun _ he => ⟨List.mem_of_mem_take he.1, he.2⟩

theorem logged_mono {s : State} {j k code : Nat} (h : s.logged j code) (hjk : j ≤ k) : s.logged k code :=
  h.imp fun _ he => ⟨(List.take_sublist_take_left hjk).subset he.1, he.2⟩

theorem logEv_logged {s : State} (hserve : s.fw.serving = true) (hrun : s.fw.halted = false) (code sev scope : Nat) (data : List Byte) :
    (s.logEv code sev scope data).logged 1 code := ⟨s.mkEvent code sev scope data, by simp [logEv_ram hserve hrun], rfl⟩

/-- A later event moves an entry down by one place. -/
theorem logged_logEv {s : State} {k c : Nat} (h : s.logged k c) (hk : k < 4096) (code sev scope : Nat) (data : List Byte) :
    (s.logEv code sev scope data).logged (k + 1) c := by
  by_cases hlog : s.fw.serving = true ∧ s.fw.halted = false
  · obtain ⟨e, he, hc⟩ := h
    refine ⟨e, ?_, hc⟩
    rw [logEv_ram hlog.1 hlog.2, List.take_take, Nat.min_eq_left hk, List.take_succ_cons]
    exact List.mem_cons_of_mem _ he
  · unfold State.logged
    rw [logEv_ram_waits hlog]
    exact logged_mono h (Nat.le_succ k)

/-! What a row of a front end leaves as it was. -/

theorem modFe_same (s : State) (i : Fin 4) (g : FrontEnd → FrontEnd) : (s.modFe i g).fe[i] = g s.fe[i] := by simp [State.modFe]

theorem modFe_other (s : State) {i j : Fin 4} (g : FrontEnd → FrontEnd) (h : j ≠ i) : (s.modFe i g).fe[j] = s.fe[j] := by
  have h' : i.val ≠ j.val := fun e => h (Fin.ext e.symm)
  simp [State.modFe, h']

theorem SameUnits.fw {s u : State} (h : SameUnits s u) : u.fw = s.fw := by
  obtain ⟨-, -, -, -, -, -, -, -, -, -, -, -, hfw, -⟩ := h
  exact hfw

theorem Quiet.frontEnd {s u : State} (h : Quiet s u) (i : Fin 4) : u.fe[i] = s.fe[i] := by rw [h.units.1]

/-- Of time, units and settings at most the front end of input `i` differs. -/
structure OnlyFrontEnd (i : Fin 4) (s u : State) : Prop where
  clk : u.clk = s.clk
  others : ∀ j, j ≠ i → u.fe[j] = s.fe[j]
  units : SameUnits { s with fe := u.fe } u
  settings : SameSettings s u

namespace OnlyFrontEnd
variable {i : Fin 4} {s u v : State}

theorem refl : OnlyFrontEnd i s s := ⟨rfl, fun _ _ => rfl, .refl s, .refl s⟩

theorem trans (h : OnlyFrontEnd i s u) (k : OnlyFrontEnd i u v) : OnlyFrontEnd i s v where
  clk := k.clk.trans h.clk
  others j hj := (k.others j hj).trans (h.others j hj)
  units := by
    obtain ⟨-, h2, h3, h4, h5, h6, h7, h8, h9, h10, h11, h12, h13, h14⟩ := h.units
    have hfe : SameUnits { s with fe := v.fe } { u with fe := v.fe } :=
      ⟨rfl, h2, h3, h4, h5, h6, h7, h8, h9, h10, h11, h12, h13, h14⟩
    exact hfe.trans k.units
  settings := h.settings.trans k.settings

theorem modFe (s : State) (g : FrontEnd → FrontEnd) : OnlyFrontEnd i s (s.modFe i g) :=
  ⟨rfl, fun _ hj => modFe_other s g hj, .refl _, .refl s⟩

theorem of_quiet (h : Quiet s u) : OnlyFrontEnd i s u := by
  obtain ⟨hfe, hrest⟩ := h.units
  exact ⟨h.clk, fun j _ => by rw [hfe], ⟨rfl, hrest⟩, h.settings⟩

theorem fw (h : OnlyFrontEnd i s u) : u.fw = s.fw := h.units.fw

/-- The frame of a row's statement. -/
theorem frame (h : OnlyFrontEnd i s u) : (∀ j, j ≠ i → u.fe[j] = s.fe[j]) ∧ SameUnits { s with fe := u.fe } u ∧ SameSettings s u :=
  ⟨h.others, h.units, h.settings⟩

end OnlyFrontEnd

section
variable {s u : State} {i : Fin 4}

/-! Overload intervals that wait are logged (03 R83). -/

theorem feFlush_only : OnlyFrontEnd i s (s.feFlush i) := by
  unfold State.feFlush
  dsimp only
  split
  · exact .refl
  · split
    · exact (OnlyFrontEnd.modFe s _).trans (.of_quiet (logEv_quiet _ _ _ _ _))
    · exact .refl

/-- It changes no more of the front end than the count and the tick of the last FE_OVERLOAD. -/
theorem feFlush_fe : ∃ n l, (s.feFlush i).fe[i] = { s.fe[i] with ovCount := n, ovLog := l } := by
  unfold State.feFlush
  dsimp only
  split
  · exact ⟨_, _, rfl⟩
  · split
    · refine ⟨0, some s.clk, ?_⟩
      rw [(logEv_quiet _ _ _ _ _).frontEnd, modFe_same]
    · exact ⟨_, _, rfl⟩

/-- Intervals wait and a second has passed: they are logged now. -/
theorem feFlush_due (hn : s.fe[i].ovCount ≠ 0) (hl : ∀ a, s.fe[i].ovLog = some a → a + 3000000000 ≤ s.clk) :
    s.feFlush i = (s.modFe i (fun x => { x with ovCount := 0, ovLog := some s.clk })).logEv 0x0101 sevWarning 0
      (feData i (min 65535 s.fe[i].ovCount) s.fe[i].ovFirst) := by
  have hdue : s.fe[i].ovLog.elim true (fun a => decide (a + second ≤ s.clk)) = true := by
    cases h : s.fe[i].ovLog with
    | none => rfl
    | some a =>
      rw [Option.elim_some, decide_eq_true_eq, second]
      exact hl a h
  unfold State.feFlush
  dsimp only
  rw [if_neg hn, if_pos hdue]

theorem feFlush_logged {k c : Nat} (h : s.logged k c) (hk : k < 4096) : (s.feFlush i).logged (k + 1) c := by
  have hstay : s.logged (k + 1) c := logged_mono h (Nat.le_succ k)
  unfold State.feFlush
  dsimp only
  split
  · exact hstay
  · split
    · exact logged_logEv (s := s.modFe i _) h hk _ _ _ _
    · exact hstay

/-- The shape that the rows share: the front end changes, something is logged, the intervals that wait are logged. -/
theorem feFlush_after {s1 : State} (h1 : OnlyFrontEnd i s s1) (hq : Quiet s1 u) :
    OnlyFrontEnd i s (u.feFlush i) ∧ ∃ n l, (u.feFlush i).fe[i] = { s1.fe[i] with ovCount := n, ovLog := l } := by
  refine ⟨(h1.trans (.of_quiet hq)).trans feFlush_only, ?_⟩
  rw [← hq.frontEnd]
  exact feFlush_fe

/-! Asserted intervals (03 R81). -/

variable {a b : Nat}

theorem feInterval_only : OnlyFrontEnd i s (s.feInterval i a b) := by
  unfold State.feInterval
  dsimp only
  split <;> exact .modFe s _

/-- An interval that touches the one before joins it. -/
theorem feInterval_joins (h : s.fe[i].asserted a = true) :
    s.feInterval i a b = s.modFe i (fun x => { x with ovUntil := max x.ovUntil b }) := if_pos h

/-- Another one begins anew and is counted. -/
theorem feInterval_begins (h : s.fe[i].asserted a = false) :
    s.feInterval i a b = s.modFe i (fun x => { x with
      ovFrom := a, ovUntil := b, ovPast := x.ovKept, ovCount := x.ovCount + 1
      ovFirst := if x.ovCount = 0 then s.ticksAt (a / fineUnit) else x.ovFirst }) := if_neg (by rw [h]; decide)

/-! OVERLOAD_ASSERTED (03 R81, R83). -/

variable {first last : Nat}

theorem overload_on (hon : s.feOn i = true) (h : first ≤ last) :
    s.overload i first last = (s.feInterval i first (last + 12 * fineUnit)).feFlush i := if_pos (by simp [hon, h])

theorem overload_off (hoff : s.feOn i = false) : s.overload i first last = s := if_neg (by simp [hoff])

theorem overload_only (hon : s.feOn i = true) (h : first ≤ last) : OnlyFrontEnd i s (s.overload i first last) := by
  rw [overload_on hon h]
  exact feInterval_only.trans feFlush_only

theorem overload_begins (hon : s.feOn i = true) (h : first ≤ last) (ha : s.fe[i].asserted first = false) :
    (s.overload i first last).fe[i].ovFrom = first ∧ (s.overload i first last).fe[i].ovUntil = last + 12 * fineUnit
      ∧ (s.overload i first last).fe[i].prot = s.fe[i].prot := by
  rw [overload_on hon h, feInterval_begins ha]
  obtain ⟨n, l, hf⟩ := feFlush_fe (s := s.modFe i _) (i := i)
  rw [hf, modFe_same]
  exact ⟨rfl, rfl, rfl⟩

theorem overload_joins (hon : s.feOn i = true) (h : first ≤ last) (ha : s.fe[i].asserted first = true) :
    (s.overload i first last).fe[i].ovFrom = s.fe[i].ovFrom
      ∧ (s.overload i first last).fe[i].ovUntil = max s.fe[i].ovUntil (last + 12 * fineUnit)
      ∧ (s.overload i first last).fe[i].prot = s.fe[i].prot := by
  rw [overload_on hon h, feInterval_joins ha]
  obtain ⟨n, l, hf⟩ := feFlush_fe (s := s.modFe i _) (i := i)
  rw [hf, modFe_same]
  exact ⟨rfl, rfl, rfl⟩

/-- A new interval is logged at once when a second or more has passed since the last FE_OVERLOAD. -/
theorem overload_raises (hon : s.feOn i = true) (h : first ≤ last) (ha : s.fe[i].asserted first = false)
    (hl : ∀ x, s.fe[i].ovLog = some x → x + 3000000000 ≤ s.clk) :
    (s.overload i first last).fe[i].ovCount = 0 ∧ (s.overload i first last).fe[i].ovLog = some s.clk
      ∧ (s.fw.serving = true → s.fw.halted = false → ∃ e ∈ (s.overload i first last).log.ram, e.code = 0x0101) := by
  have hcount : (s.feInterval i first (last + 12 * fineUnit)).fe[i].ovCount ≠ 0 := by
    rw [feInterval_begins ha, modFe_same]
    exact Nat.succ_ne_zero _
  have hlog : (s.feInterval i first (last + 12 * fineUnit)).fe[i].ovLog = s.fe[i].ovLog := by
    rw [feInterval_begins ha, modFe_same]
  have honly : OnlyFrontEnd i s (s.feInterval i first (last + 12 * fineUnit)) := feInterval_only
  have hclk := honly.clk
  have hfw := honly.fw
  rw [overload_on hon h, feFlush_due hcount (by rwa [hlog, hclk])]
  refine ⟨?_, ?_, fun hserve hrun => logged_mem (logEv_logged (hfw ▸ hserve) (hfw ▸ hrun) _ _ _ _)⟩
  · rw [(logEv_quiet _ _ _ _ _).frontEnd, modFe_same]
  · rw [(logEv_quiet _ _ _ _ _).frontEnd, modFe_same, hclk]

/-! The protection switch (03 R82). -/

/-- The openings of a switch within the last second, with the one of now. -/
def State.opensNow (s : State) (i : Fin 4) : List Nat := s.clk :: s.fe[i].openings.filter (fun o => decide (s.clk < o + second))

/-- Input `i` with its switch opened now. -/
def State.opened (s : State) (i : Fin 4) : State :=
  (s.feInterval i (s.clk * fineUnit) ((s.clk + 1) * fineUnit)).modFe i (fun x => { x with
    prot := if s.ckey 0x0105 i = 1 ∨ 9 ≤ (s.opensNow i).length then .openHeld else .openAuto, openings := s.opensNow i, since := s.clk })

theorem opened_only : OnlyFrontEnd i s (s.opened i) := feInterval_only.trans (.modFe _ _)

/-- A trip of a closed switch opens it, logs FE_PROT_TRIP and perhaps FE_PROT_HELD, and logs the intervals that wait. -/
theorem feTrip_opens (hon : s.feOn i = true) (hc : s.fe[i].prot = .closed) :
    ∃ u, s.feTrip i = u.feFlush i ∧ Quiet (s.opened i) u
      ∧ (s.fw.serving = true → s.fw.halted = false → u.logged 2 0x0102) := by
  have hcond : (s.feOn i && s.fe[i].prot == .closed) = true := by rw [hon, hc]; rfl
  have hprot : (if (s.ckey 0x0105 i == 1 || !(s.ckey 0x0105 i == 1) && decide (9 ≤ (s.opensNow i).length)) = true then Prot.openHeld
      else .openAuto) = if s.ckey 0x0105 i = 1 ∨ 9 ≤ (s.opensNow i).length then .openHeld else .openAuto := by
    by_cases hhost : s.ckey 0x0105 i = 1 <;> simp [hhost]
  have hfw := (opened_only (s := s) (i := i)).fw
  have htrip := logEv_quiet (s.opened i) 0x0102 sevError 0 (feData i (s.opensNow i).length s.ticks)
  have hlogged (hserve : s.fw.serving = true) (hrun : s.fw.halted = false) :=
    logEv_logged (s := s.opened i) (hfw ▸ hserve) (hfw ▸ hrun) 0x0102 sevError 0 (feData i (s.opensNow i).length s.ticks)
  refine ⟨if (!(s.ckey 0x0105 i == 1) && decide (9 ≤ (s.opensNow i).length)) = true then
      ((s.opened i).logEv 0x0102 sevError 0 (feData i (s.opensNow i).length s.ticks)).logEv 0x0104 sevError 0 (feData i 9 s.ticks)
    else (s.opened i).logEv 0x0102 sevError 0 (feData i (s.opensNow i).length s.ticks), ?_, ?_, ?_⟩
  · unfold State.feTrip State.opened
    rw [if_pos hcond, ← hprot]
    rfl
  · split
    · exact htrip.trans (logEv_quiet _ _ _ _ _)
    · exact htrip
  · intro hserve hrun
    split
    · exact logged_logEv (hlogged hserve hrun) (by decide) _ _ _ _
    · exact logged_mono (hlogged hserve hrun) (by decide)

theorem feTrip_stands (h : s.fe[i].prot ≠ .closed) : s.feTrip i = s := by
  have hopen : (s.fe[i].prot == .closed) = false := beq_eq_false_iff_ne.mpr h
  exact if_neg (by rw [hopen, Bool.and_false]; decide)

/-- An open switch asserts the detector from its opening (03 R81). -/
theorem asserted_open {f : FrontEnd} {c : Nat} (hp : f.prot ≠ .closed) (hc : f.since = c) : f.asserted (c * fineUnit) = true := by
  simp [FrontEnd.asserted, hp, hc]

theorem feTrip_closed (hon : s.feOn i = true) (hc : s.fe[i].prot = .closed) :
    (s.feTrip i).fe[i].prot = (if s.ckey 0x0105 i = 1 ∨ 9 ≤ (s.opensNow i).length then .openHeld else .openAuto)
      ∧ (s.feTrip i).fe[i].since = s.clk ∧ (s.feTrip i).fe[i].asserted (s.clk * fineUnit) = true
      ∧ (s.feTrip i).fe[i].openings = s.opensNow i ∧ OnlyFrontEnd i s (s.feTrip i)
      ∧ (s.fw.serving = true → s.fw.halted = false → ∃ e ∈ (s.feTrip i).log.ram, e.code = 0x0102) := by
  obtain ⟨u, hu, hq, hlog⟩ := feTrip_opens hon hc
  obtain ⟨honly, n, l, hf⟩ := feFlush_after opened_only hq
  rw [State.opened, modFe_same] at hf
  rw [hu]
  refine ⟨by rw [hf], by rw [hf], asserted_open ?_ (by rw [hf]), by rw [hf], honly,
    fun hserve hrun => logged_mem (feFlush_logged (hlog hserve hrun) (by decide))⟩
  rw [hf]
  dsimp only
  split <;> decide

theorem feAutoClose_due (hon : s.feOn i = true) (hp : s.fe[i].prot = .openAuto) (hd : s.fe[i].since + 3000000 ≤ s.clk) :
    s.feAutoClose i = s.feClose i :=
  if_pos (by rw [hon, hp, decide_eq_true hd]; rfl)

theorem feAutoClose_early (h : s.clk < s.fe[i].since + 3000000) : s.feAutoClose i = s :=
  if_neg (by rw [decide_eq_false (Nat.not_le_of_lt h), Bool.and_false]; decide)

theorem feClose_closes : (s.feClose i).fe[i].prot = .closed ∧ (s.feClose i).fe[i].ovUntil = (s.clk + 1200) * fineUnit
    ∧ OnlyFrontEnd i s (s.feClose i) := by
  obtain ⟨honly, n, l, hf⟩ := feFlush_after (.modFe s _) (logEv_quiet _ 0x0103 sevNotice 0 (feData i 0 s.ticks))
  rw [modFe_same] at hf
  exact ⟨congrArg FrontEnd.prot hf, congrArg FrontEnd.ovUntil hf, honly⟩
end

/-- Settles O12: the offset by its search and rounding; each row by the changes that it makes to the one front end. -/
theorem frontEndProtects : Obligations.FrontEndProtects := by
  refine ⟨fun sq off hfs hsq => offsetSteps_nearest hfs hsq, fun s t i => ⟨fun hon => ⟨?_, ?_, ?_, ?_⟩, ?_, ?_, ?_⟩⟩
  · intro first last h ha
    obtain ⟨hfrom, huntil, hprot⟩ := overload_begins (s := s.reach t) hon h ha
    exact ⟨_, rfl, hfrom, huntil, hprot, (overload_only (s := s.reach t) hon h).frame, overload_raises (s := s.reach t) hon h ha⟩
  · intro first last h ha
    obtain ⟨hfrom, huntil, hprot⟩ := overload_joins (s := s.reach t) hon h ha
    exact ⟨_, rfl, hfrom, huntil, hprot, (overload_only (s := s.reach t) hon h).frame⟩
  · intro hc
    obtain ⟨hprot, hsince, hass, hopen, honly, hlog⟩ := feTrip_closed (s := s.reach t) hon hc
    exact ⟨_, rfl, hprot, hsince, hass, congrArg List.length hopen, honly.frame, hlog⟩
  · intro hp hd
    obtain ⟨hprot, huntil, honly⟩ := feClose_closes (s := s.reach t) (i := i)
    exact ⟨_, congrArg go (feAutoClose_due (s := s.reach t) hon hp hd), hprot, huntil, honly.frame⟩
  · exact fun h => congrArg go (feTrip_stands (s := s.reach t) h)
  · exact fun h => congrArg go (feAutoClose_early (s := s.reach t) h)
  · exact fun hoff first last => congrArg go (overload_off (s := s.reach t) hoff)

end Sys2Proof.Machine
end

section
/-!
O45: a PLAY_STOP whose expiry tick precedes its taking ends with E_TIMEOUT, whatever its output does (02 R51; 15 R383).
-/

namespace Sys2Proof.Machine

/-- A response leaves the command under execution. -/
theorem respond_exec (s : State) (r : Req) (a : Reply) (c : Nat) : (s.respond r a c).mr.exec = s.mr.exec := by
  have h1 : (if (bitAt r.flags 1 && a.status != stAccepted && a.status != eTimeout) = true then
      s.logEv 0x0001 (cmdSev a.status) 0 (cmdData r.mb.val r.code r.tag a.status a.detail) else s).mr.exec = s.mr.exec :=
    congrArg Marrad.exec (respond_log_quiet s _ _ _ _ _).mr
  unfold State.respond
  dsimp only
  split
  · rw [(sendParts_frame _ _ _ _).2]
    exact h1
  · split
    · rw [(msix_quiet _ _).mr]
      exact h1
    · exact h1

theorem timeoutEnd_exec (s : State) (r : Req) (e : Nat) : (s.timeoutEnd r e).mr.exec = s.mr.exec :=
  (respond_exec _ _ _ _).trans (congrArg Marrad.exec (logEv_quiet (s.reach e) _ _ _ _).mr)

/-- Finishing a command that is late at its commit point gives it E_TIMEOUT (02 R51). -/
theorem finish_late {s : State} {x : Exec} {c : Nat} (hx : s.mr.exec = some x) (hh : s.fw.halted = false)
    (hlate : s.execLate c = true) (a : Reply) : (s.finish a c).mr.exec = none ∧ Replied (s.finish a c) x.mb eTimeout [] := by
  simp only [State.finish, hx, hh, hlate, Bool.false_eq_true, if_false, if_true]
  exact ⟨timeoutEnd_exec _ _ _, respond_replied _ _ _ _⟩

/-- A PLAY_STOP that had expired when it was taken, its commit point (15 R383), is late also once its output has stopped. -/
theorem answerStop_late {s u : State} {o : Fin 2} {g : Output → Output} {m : Fin 17} {taken : Nat} (hu : Quiet (s.modOut o g) u)
    (hx : s.mr.exec = some ⟨m, taken, .playStop o.val⟩) (hh : s.fw.halted = false) (hlate : (s.reqOf m).expired taken = true)
    (plays tick : Nat) : (u.answerStop o plays tick).mr.exec = none ∧ Replied (u.answerStop o plays tick) m eTimeout [] := by
  have hmr : u.mr = s.mr := hu.mr
  have hfw : u.fw = s.fw := hu.units.fw
  have hxu : u.mr.exec = some ⟨m, taken, .playStop o.val⟩ := by rw [hmr, hx]
  have hexec : u.execLate taken = true := by
    simpa [State.execLate, hmr, hx, Wait.commitAt, State.reqOf, State.mbox] using hlate
  have hanswer : u.answerStop o plays tick = u.finish ⟨stOk, stopResp plays tick, none, 0, 0⟩ taken := by
    simp [State.answerStop, hxu]
  rw [hanswer]
  exact finish_late hxu (by rw [hfw, hh]) hexec _

/-- With no command under execution a response stands while the domains follow their holders. -/
theorem syncDomains_replied {s : State} {m : Fin 17} {st : Nat} {p : List Byte} (h : s.mr.exec = none ∧ Replied s m st p) :
    Replied s.syncDomains m st p := by
  obtain ⟨hx, hr⟩ := h
  have hmbs := (syncDomains_keepsChannels hx).mbs
  unfold Replied State.mbox at hr ⊢
  rwa [hmbs]

/-- The end of the schedule of a playing output, when it has come. -/
theorem playFinish_due {s : State} {o : Fin 2} {e reason : Nat} (hend : s.out[o].ending = some (e, reason)) (hst : s.out[o].st = 3)
    (hdue : e ≤ s.clk) :
    s.playFinish o = (((s.modOut o (fun y => { y with
        st := 1, stopAt := none, plays := min (2 ^ 32 - 1) (s.out[o].playsAt e) })).logEvAt e 0x0D02 sevInfo 0
          (pbData o reason (s.ticksAt e))).answerStop o (s.out[o].playsAt e) (s.ticksAt e)).syncDomains := by
  simp only [State.playFinish, hend]
  rw [if_neg (by omega)]

theorem playFinish_late {s : State} {o : Fin 2} {e reason taken : Nat} {m : Fin 17} (hend : s.out[o].ending = some (e, reason))
    (hst : s.out[o].st = 3) (hdue : e ≤ s.clk) (hx : s.mr.exec = some ⟨m, taken, .playStop o.val⟩) (hh : s.fw.halted = false)
    (hlate : (s.reqOf m).expired taken = true) : Replied (s.playFinish o) m eTimeout [] := by
  rw [playFinish_due hend hst hdue]
  have hquiet (g : Output → Output) := logEvAt_quiet (s.modOut o g) e 0x0D02 sevInfo 0 (pbData o reason (s.ticksAt e))
  exact syncDomains_replied (answerStop_late (hquiet _) hx hh hlate _ _)

/-- Output 0 plays and stops at tick 8; the PLAY_STOP under execution since tick 5 had been aborted at tick 4. -/
def abortedStop : State := ((State.reset.modOut 0 fun x => { x with st := 3, samples := 80, stopAt := some (8, 2) }).modMb 0 fun b =>
  { b with state := .busy, abort := some 4 }).modMr fun r => { r with exec := some ⟨0, 5, .playStop 0⟩ }

/-- Refutes O45: its clause on PLAY_END speaks of every state with a PLAY_STOP under execution, also of one taken after its expiry tick,
which ends with E_TIMEOUT (02 R51) and not with OK, as in `abortedStop`. -/
theorem not_playSchedule : ¬ Obligations.PlaySchedule := by
  intro h
  obtain ⟨-, -, hrows, -⟩ := h
  obtain ⟨-, -, -, hplayEnd, -⟩ := hrows abortedStop 8 0
  have hend : abortedStop.out[(0 : Fin 2)].ending = some (8, 2) := by decide
  obtain ⟨-, hdue⟩ := hplayEnd 8 2 hend
  obtain ⟨u, hu, -, hanswer⟩ := hdue (by decide) rfl
  obtain ⟨⟨-, hok, -⟩, -⟩ := hanswer 0 5 rfl rfl
  have hu' : (abortedStop.reach 8).playFinish 0 = u := by injection hu
  obtain ⟨-, htimeout, -⟩ := playFinish_late (s := abortedStop.reach 8) (m := 0) hend rfl (by decide) rfl rfl (by decide)
  rw [hu', hok] at htimeout
  exact absurd htimeout (by decide)

end Sys2Proof.Machine
end

section
/-!
SUPPORT. The towers (04): what an update of one tower, of one of its slices or of the trims leaves as it was.
-/

namespace Sys2Proof.Machine

theorem modTw_same (s : State) (k : Fin 4) (f : Tower → Tower) : (s.modTw k f).tw[k] = f s.tw[k] := by simp [State.modTw]

theorem modTw_other (s : State) {k j : Fin 4} (f : Tower → Tower) (h : j ≠ k) : (s.modTw k f).tw[j] = s.tw[j] := by
  have h' : k.val ≠ j.val := fun e => h (Fin.ext e.symm)
  simp [State.modTw, h']

theorem modSlice_same (s : State) (k : Fin 4) (x : Fin 33) (f : Slice → Slice) : (s.modSlice k x f).slice k x = f (s.slice k x) := by
  simp [State.slice, State.modSlice]

theorem modSlice_other (s : State) (k : Fin 4) {x y : Fin 33} (f : Slice → Slice) (h : y ≠ x) :
    (s.modSlice k x f).slice k y = s.slice k y := by
  have h' : x.val ≠ y.val := fun e => h (Fin.ext e.symm)
  simp [State.slice, State.modSlice, h']

/-- An update of a tower that leaves its slices. -/
theorem modTw_slice (s : State) (k : Fin 4) {f : Tower → Tower} (hf : ∀ w, (f w).slices = w.slices) (y : Fin 33) :
    (s.modTw k f).slice k y = s.slice k y := by simp [State.slice, hf]

theorem Quiet.tw {s u : State} (h : Quiet s u) : u.tw = s.tw := by
  obtain ⟨-, htw, -⟩ := h.units
  exact htw

theorem Quiet.slice {s u : State} (h : Quiet s u) (k : Fin 4) (y : Fin 33) : u.slice k y = s.slice k y := by
  rw [State.slice, h.tw, State.slice]

theorem foldl_quiet {α : Type} {f : State → α → State} (h : ∀ s x, Quiet s (f s x)) (l : List α) (s : State) :
    Quiet s (l.foldl f s) := by
  induction l generalizing s with
  | nil => exact Quiet.refl s
  | cons x xs ih => exact (h s x).trans (ih _)

/-- Limits (05 R125): the marks of the slice are set, and what is newly reached is logged. -/
theorem checkLimits_quiet (s : State) (k : Fin 4) (x : Fin 33) :
    Quiet (s.modSlice k x (fun v => { v with atLim := (s.slice k x).limits (s.timBeyond k x) })) (s.checkLimits k x) := by
  refine foldl_quiet (fun a i => ?_) _ _
  split
  · exact logEv_quiet _ _ _ _ _
  · exact .refl a

/-- Of time, units and settings at most tower `k` and the calibration differ. -/
structure OnlyTower (k : Fin 4) (s u : State) : Prop where
  clk : u.clk = s.clk
  others : ∀ j, j ≠ k → u.tw[j] = s.tw[j]
  units : SameUnits { s with tw := u.tw, cal := u.cal } u
  settings : SameSettings s u

namespace OnlyTower
variable {k : Fin 4} {s u v : State}

theorem refl : OnlyTower k s s := ⟨rfl, fun _ _ => rfl, .refl s, .refl s⟩

theorem trans (h : OnlyTower k s u) (h' : OnlyTower k u v) : OnlyTower k s v where
  clk := h'.clk.trans h.clk
  others j hj := (h'.others j hj).trans (h.others j hj)
  units := by
    obtain ⟨h1, -, -, h4, h5, h6, h7, h8, h9, h10, h11, h12, h13, h14⟩ := h.units
    have hu : SameUnits { s with tw := v.tw, cal := v.cal } { u with tw := v.tw, cal := v.cal } :=
      ⟨h1, rfl, rfl, h4, h5, h6, h7, h8, h9, h10, h11, h12, h13, h14⟩
    exact hu.trans h'.units
  settings := h.settings.trans h'.settings

theorem modTw (s : State) (f : Tower → Tower) : OnlyTower k s (s.modTw k f) :=
  ⟨rfl, fun _ hj => modTw_other s f hj, .refl _, .refl s⟩

theorem modCal (s : State) (f : Cal → Cal) : OnlyTower k s (s.modCal f) := ⟨rfl, fun _ _ => rfl, .refl _, .refl s⟩

theorem of_quiet (h : Quiet s u) : OnlyTower k s u := by
  obtain ⟨h1, -, -, h4⟩ := h.units
  exact ⟨h.clk, fun j _ => by rw [h.tw], ⟨h1, rfl, rfl, h4⟩, h.settings⟩

theorem checkLimits (s : State) (x : Fin 33) : OnlyTower k s (s.checkLimits k x) :=
  (modTw s _).trans (of_quiet (checkLimits_quiet s k x))

/-- The frame of a row's statement. -/
theorem frame (h : OnlyTower k s u) :
    (∀ j, j ≠ k → u.tw[j] = s.tw[j]) ∧ SameUnits { s with tw := u.tw, cal := u.cal } u ∧ SameSettings s u :=
  ⟨h.others, h.units, h.settings⟩

end OnlyTower

/-! Trims (05 R118 to R132). -/

/-- A tower without its slices. -/
def Tower.shell (w : Tower) : Tower := { w with slices := Tower.reset.slices }

/-- Of a tower no more than its slices differs, beside the calibration. -/
structure OnlyTrims (k : Fin 4) (s u : State) : Prop extends OnlyTower k s u where
  shell : u.tw[k].shell = s.tw[k].shell

/-- A trim of a slice of tower `k`. -/
def TrimOf (k : Fin 4) (e : RampElem) : Prop := ∃ x, e = .ofs k x ∨ e = .gain k x ∨ e = .tim k x

theorem trimOf_ofs (k : Fin 4) (x : Fin 33) : TrimOf k (.ofs k x) := ⟨x, .inl rfl⟩
theorem trimOf_gain (k : Fin 4) (x : Fin 33) : TrimOf k (.gain k x) := ⟨x, .inr (.inl rfl)⟩
theorem trimOf_tim (k : Fin 4) (x : Fin 33) : TrimOf k (.tim k x) := ⟨x, .inr (.inr rfl)⟩

namespace OnlyTrims
variable {k : Fin 4} {s u v : State} {e : RampElem} {x : Fin 33}

theorem refl : OnlyTrims k s s := ⟨.refl, rfl⟩

theorem trans (h : OnlyTrims k s u) (h' : OnlyTrims k u v) : OnlyTrims k s v :=
  ⟨h.toOnlyTower.trans h'.toOnlyTower, h'.shell.trans h.shell⟩

theorem gstep (h : OnlyTrims k s u) : u.tw[k].gstep = s.tw[k].gstep := (congrArg Tower.gstep h.shell :)
theorem graft (h : OnlyTrims k s u) : u.tw[k].graft = s.tw[k].graft := (congrArg Tower.graft h.shell :)
theorem phases (h : OnlyTrims k s u) : u.tw[k].phases = s.tw[k].phases := (congrArg Tower.phases h.shell :)
theorem target (h : OnlyTrims k s u) : u.tw[k].target = s.tw[k].target := (congrArg Tower.target h.shell :)
theorem swaps (h : OnlyTrims k s u) : u.tw[k].swaps = s.tw[k].swaps := (congrArg Tower.swaps h.shell :)
theorem grid (h : OnlyTrims k s u) : u.tw[k].grid = s.tw[k].grid := (congrArg Tower.grid h.shell :)
theorem waived (h : OnlyTrims k s u) : u.tw[k].waived = s.tw[k].waived := (congrArg Tower.waived h.shell :)

theorem replacing (h : OnlyTrims k s u) : u.tw[k].replacing = s.tw[k].replacing := (congrArg Tower.replacing h.shell :)

theorem ite {c : Prop} [Decidable c] (hu : OnlyTrims k s u) (hv : OnlyTrims k s v) : OnlyTrims k s (if c then u else v) := by
  split
  · exact hu
  · exact hv

theorem elim {α : Type} {o : Option α} {f : α → State} (h : OnlyTrims k s u) (hf : ∀ a, OnlyTrims k s (f a)) :
    OnlyTrims k s (o.elim u f) := by
  cases o with
  | none => exact h
  | some a => exact hf a

theorem modSlice (s : State) (f : Slice → Slice) : OnlyTrims k s (s.modSlice k x f) := by
  refine ⟨.modTw s _, ?_⟩
  rw [State.modSlice, modTw_same]
  rfl

theorem modCal (s : State) (f : Cal → Cal) : OnlyTrims k s (s.modCal f) := ⟨.modCal s f, rfl⟩

theorem of_quiet (h : Quiet s u) : OnlyTrims k s u := ⟨.of_quiet h, by rw [h.tw]⟩

theorem checkLimits (s : State) (x : Fin 33) : OnlyTrims k s (s.checkLimits k x) :=
  (modSlice s _).trans (of_quiet (checkLimits_quiet s k x))

theorem setElem (s : State) (h : TrimOf k e) (a : Int) : OnlyTrims k s (s.setElem e a) := by
  unfold State.setElem
  obtain ⟨x, rfl | rfl | rfl⟩ := h <;> exact modSlice s _

/-- A READY graft follows within its tower. -/
theorem follow (s : State) (h : TrimOf k e) (was : Int) : OnlyTrims k s (s.follow e was) := by
  obtain ⟨x, rfl | rfl | rfl⟩ := h <;> exact elim refl fun _ => modSlice s _

theorem checkBoth (s : State) (x : Fin 33) : OnlyTrims k s (
    match (s.checkLimits k x).tw[k].graft with
    | some g => if (s.checkLimits k x).tw[k].gstep == .ready then (s.checkLimits k x).checkLimits k g else s.checkLimits k x
    | none => s.checkLimits k x) := by
  have h := checkLimits (k := k) s x
  split
  · exact ite (h.trans (checkLimits _ _)) h
  · exact h

theorem checkMoved (s : State) (h : TrimOf k e) : OnlyTrims k s (s.checkMoved e) := by
  obtain ⟨x, rfl | rfl | rfl⟩ := h <;> exact checkBoth s x

theorem stopRamp (s : State) (e : RampElem) : OnlyTrims k s (s.stopRamp e) := modCal s _

theorem jumpTo (s : State) (h : TrimOf k e) (a : Int) : OnlyTrims k s (s.jumpTo e a) :=
  ((stopRamp s e).trans (setElem _ h a)).trans (follow _ h _)

theorem endRamp (s : State) (h : TrimOf k e) : OnlyTrims k s (s.endRamp e) := by
  unfold State.endRamp
  split
  · exact refl
  · exact jumpTo s h _

theorem endRamps (s : State) (x : Fin 33) : OnlyTrims k s (s.endRamps k x) :=
  ((endRamp s (trimOf_ofs k x)).trans (endRamp _ (trimOf_gain k x))).trans (endRamp _ (trimOf_tim k x))

theorem rampStepBy (s : State) (h : TrimOf k e) (b : Nat) : OnlyTrims k s (s.rampStepBy e b) := by
  unfold State.rampStepBy
  split
  · exact refl
  · exact ite refl ((((setElem s h _).trans (modCal _ _)).trans (follow _ h _)).trans (checkMoved _ h))

theorem rampTo (s : State) (h : TrimOf k e) (a : Int) (b : Nat) : OnlyTrims k s (s.rampTo e a b) := by
  have hstop := (rampStepBy s h b).trans (stopRamp _ e)
  unfold State.rampTo
  exact ite refl (ite hstop (hstop.trans (modCal _ _)))

theorem rampBack (s : State) (x : Fin 33) : OnlyTrims k s (s.rampBack k x) :=
  (rampTo s (trimOf_ofs k x) _ _).trans (rampTo _ (trimOf_gain k x) _ _)

theorem retime (s : State) (x : Fin 33) (p : Fin 32) (b : Nat) : OnlyTrims k s (s.retime k x p b) :=
  (rampTo s (trimOf_tim k x) _ _).trans (checkMoved _ (trimOf_tim k x))

theorem putCurve (s : State) (x : Fin 33) (v : List Int) : OnlyTrims k s (s.putCurve k x v) := by
  unfold State.putCurve
  exact modCal s _

theorem takeCurve (s : State) (x : Fin 33) : OnlyTrims k s (s.takeCurve k x) :=
  elim refl fun v => putCurve s x v

end OnlyTrims

/-! Domains: what a tower holds of slices, phases and graft stands while the domains follow their holders (17 R422). -/

/-- The slices of a tower, those on its phases, and its graft. -/
def Tower.crew (w : Tower) : Vector Slice 33 × Vector (Option (Fin 33)) 32 × Option (Fin 33) := (w.slices, w.phases, w.graft)

/-- Every tower keeps its slices, phases and graft. -/
def KeepsCrew (s u : State) : Prop := ∀ j : Fin 4, u.tw[j].crew = s.tw[j].crew

namespace KeepsCrew
variable {s u v : State}

theorem refl (s : State) : KeepsCrew s s := fun _ => rfl

theorem trans (h : KeepsCrew s u) (h' : KeepsCrew u v) : KeepsCrew s v := fun j => (h' j).trans (h j)

theorem of_tw (h : u.tw = s.tw) : KeepsCrew s u := fun j => by rw [h]

theorem of_units (h : SameUnits s u) : KeepsCrew s u := by
  obtain ⟨-, htw, -⟩ := h
  exact of_tw htw

theorem modTw (s : State) (k : Fin 4) {f : Tower → Tower} (hf : (f s.tw[k]).crew = s.tw[k].crew) : KeepsCrew s (s.modTw k f) := by
  intro j
  by_cases h : j = k
  · subst h
    rw [modTw_same, hf]
  · rw [modTw_other s f h]

theorem foldl {α : Type} {f : State → α → State} (h : ∀ s x, KeepsCrew s (f s x)) (l : List α) (s : State) :
    KeepsCrew s (l.foldl f s) := by
  induction l generalizing s with
  | nil => exact refl s
  | cons x xs ih => exact (h s x).trans (ih _)

theorem phases (h : KeepsCrew s u) (k : Fin 4) : u.tw[k].phases = s.tw[k].phases := (congrArg (fun c => c.2.1) (h k) :)
theorem graft (h : KeepsCrew s u) (k : Fin 4) : u.tw[k].graft = s.tw[k].graft := (congrArg (fun c => c.2.2) (h k) :)

theorem slice (h : KeepsCrew s u) (k : Fin 4) (x : Fin 33) : u.slice k x = s.slice k x :=
  (congrArg (fun c : Vector Slice 33 × Vector (Option (Fin 33)) 32 × Option (Fin 33) => c.1[x]) (h k) :)

end KeepsCrew

theorem endWork_crew (s : State) (code status detail : Nat) : KeepsCrew s (s.endWork code status detail) := by
  unfold State.endWork State.endWorkIf
  split
  · exact .refl s
  · exact .of_units (logEv_quiet (s.modMr _) _ _ _ _).units

theorem timeoutEnd_crew (s : State) (r : Req) (e : Nat) : KeepsCrew s (s.timeoutEnd r e) :=
  .of_units ((logEv_quiet (s.reach e) _ _ _ _).units.trans (respond_units _ _ _ _))

theorem finish_crew (s : State) (a : Reply) (c : Nat) : KeepsCrew s (s.finish a c) := by
  unfold State.finish
  split
  · exact .refl s
  · dsimp only
    split
    · exact .refl s
    · split
      · exact timeoutEnd_crew (s.modMr _) _ _
      · exact .of_units (respond_units (s.modMr _) _ _ _)

theorem startTableAt_crew (s : State) (b : Nat) (on : Bool) : KeepsCrew s (s.startTableAt b on) := by
  unfold State.startTableAt
  split
  · exact .refl s
  · refine KeepsCrew.trans ?_ (.of_units (logEv_quiet _ _ _ _ _).units)
    split <;> exact .of_tw rfl

theorem monCommit_crew (s : State) (b : Nat) (on : Bool) : KeepsCrew s (s.monCommit b on) := by
  unfold State.monCommit
  split
  · exact (startTableAt_crew s b on).trans (finish_crew _ _ _)
  · exact .refl s

theorem dropLateTable_crew (s : State) (b : Nat) : KeepsCrew s (s.dropLateTable b) := by
  unfold State.dropLateTable
  split
  · exact finish_crew (s.modMon _) _ _
  · exact .refl s

theorem monOff_crew (s : State) : KeepsCrew s s.monOff := by
  have ended (b : Bool) (u : State) (code : Nat) : KeepsCrew u (if b then u.endWork code eHw 0 else u) := by
    split
    · exact endWork_crew u _ _ _
    · exact .refl u
  have hmon : KeepsCrew s (s.modMon fun m => { m with conv := .stopped, resume := .stopped, inject := none, syscal := none }) :=
    .of_tw rfl
  have hended := (hmon.trans (ended (s.working 0x0603) _ 0x0603)).trans (ended (s.working 0x0604) _ 0x0604)
  exact (hended.trans (dropLateTable_crew _ _)).trans (monCommit_crew _ _ _)

theorem monDomain_crew (s : State) (was on : Bool) : KeepsCrew s (s.monDomain was on) := by
  unfold State.monDomain
  split
  · exact .refl s
  · split
    · exact .of_tw rfl
    · exact monOff_crew s

theorem feDomain_crew (s : State) (i : Fin 4) (was on : Bool) : KeepsCrew s (s.feDomain i was on) := by
  unfold State.feDomain
  split <;> exact .of_tw rfl

theorem syncRotation_crew (s : State) (k : Fin 4) : KeepsCrew s (s.syncRotation k) := by
  unfold State.syncRotation
  dsimp only
  split
  · split
    · exact .refl s
    · refine .modTw s k ?_
      split <;> rfl
  · split
    · exact .refl s
    · exact .modTw s k rfl

theorem setDomains_crew (s : State) (m : BitVec 196) : KeepsCrew s (s.setDomains m) := by
  refine KeepsCrew.trans ?_ (.foldl syncRotation_crew _ _)
  refine KeepsCrew.trans ?_ (.foldl (fun a i => feDomain_crew a i _ _) _ _)
  exact monDomain_crew (State.modPw _ _) _ _

theorem syncDomains_crew (s : State) : KeepsCrew s s.syncDomains := setDomains_crew s _

end Sys2Proof.Machine
end

section
/-!
O13: the graft's steps and the swap (04 R93 to R97). A window or a passed self-test sets the graft's own record and its step; a swap
exchanges graft and active slice, and what follows it moves trims alone.
-/

namespace Sys2Proof.Machine

/-- Slice `g` of tower `k` becomes `v`; its other slices and its phases stand, and so does all that is no tower or calibration. -/
structure SliceSet (k : Fin 4) (g : Fin 33) (s : State) (v : Slice) (u : State) : Prop extends OnlyTower k s u where
  set : u.slice k g = v
  rest : ∀ y, y ≠ g → u.slice k y = s.slice k y
  phases : u.tw[k].phases = s.tw[k].phases

namespace SliceSet
variable {k : Fin 4} {g : Fin 33} {s u w : State} {v : Slice}

theorem refl : SliceSet k g s (s.slice k g) s := ⟨.refl, rfl, fun _ _ => rfl, rfl⟩

theorem modSlice (h : SliceSet k g s v u) (f : Slice → Slice) : SliceSet k g s (f v) (u.modSlice k g f) where
  toOnlyTower := h.toOnlyTower.trans (.modTw u _)
  set := by rw [modSlice_same, h.set]
  rest y hy := (modSlice_other u k f hy).trans (h.rest y hy)
  phases := (OnlyTrims.modSlice u f).phases.trans h.phases

/-- An update of the tower that leaves slices and phases. -/
theorem keep (h : SliceSet k g s v u) (ho : OnlyTower k u w) (hs : w.tw[k].slices = u.tw[k].slices)
    (hp : w.tw[k].phases = u.tw[k].phases) : SliceSet k g s v w where
  toOnlyTower := h.toOnlyTower.trans ho
  set := (congrArg (fun l : Vector Slice 33 => l[g]) hs).trans h.set
  rest y hy := (congrArg (fun l : Vector Slice 33 => l[y]) hs).trans (h.rest y hy)
  phases := hp.trans h.phases

theorem modTw (h : SliceSet k g s v u) {f : Tower → Tower} (hs : ∀ x, (f x).slices = x.slices) (hp : ∀ x, (f x).phases = x.phases) :
    SliceSet k g s v (u.modTw k f) :=
  h.keep (.modTw u f) (by rw [modTw_same, hs]) (by rw [modTw_same, hp])

/-- Limits are marked: no more of the slice changes. -/
theorem checkLimits (h : SliceSet k g s v u) : ∃ l, SliceSet k g s { v with atLim := l } (u.checkLimits k g) := by
  have hq := checkLimits_quiet u k g
  exact ⟨_, (h.modSlice _).keep (.of_quiet hq) (by rw [hq.tw]) (by rw [hq.tw])⟩

end SliceSet

section
variable {s : State} {k : Fin 4} {g : Fin 33}

/-! GRAFT_SELF_TEST (04 R93). -/

/-- The record of a graft whose self-test passes. -/
def Slice.passedTest (v : Slice) (x : SliceTest) (now : Nat) (tim : Int) : Slice :=
  { v with tOfs := x.tOfs, tGain := x.tGain, ofs := x.tOfs, gain := x.tGain, lastTest := some now, tim := tim }

section
variable {x : SliceTest} (hg : s.tw[k].graft = some g) (hs : s.stepping k = true)
  (hst : s.tw[k].gstep = .select ∨ s.tw[k].gstep = .selfTest)
include hg hs hst

/-- In SELECT or SELF_TEST of a tower that steps the outcome of the test alone decides. -/
theorem graftTest_step : s.graftTest k x =
    if testPasses x then
      ((s.modSlice k g (·.passedTest x s.clk (s.timTarget k g s.tw[k].target))).modTw k (fun v => { v with
        gstep := .shadow, stepAt := s.clk
        lin := if s.measures 4 k && curveValid x.curve && x.curve.length == 4096 then some x.curve else none })).checkLimits k g
    else (s.modSlice k g (fun v => { v with lastTest := some s.clk })).failGraft k g 5 s.ticks := by
  have hcond : (s.stepping k && (s.tw[k].gstep == .select || s.tw[k].gstep == .selfTest)) = true := by
    rcases hst with h | h <;> rw [hs, h] <;> rfl
  unfold State.graftTest
  dsimp only
  rw [hg]
  exact if_pos hcond

theorem graftTest_passes (hx : testPasses x = true) :
    (∃ l, SliceSet k g s { (s.slice k g).passedTest x s.clk (s.timTarget k g s.tw[k].target) with atLim := l } (s.graftTest k x))
      ∧ (s.graftTest k x).tw[k].gstep = .shadow := by
  rw [graftTest_step hg hs hst, if_pos hx]
  have h : SliceSet k g s _ _ := .modSlice .refl (·.passedTest x s.clk (s.timTarget k g s.tw[k].target))
  refine ⟨(h.modTw ?_ ?_).checkLimits, ?_⟩
  · exact fun _ => rfl
  · exact fun _ => rfl
  · rw [(OnlyTrims.checkLimits _ g).gstep, modTw_same]

theorem graftTest_fails (hx : testPasses x = false) :
    s.graftTest k x = (s.modSlice k g (fun v => { v with lastTest := some s.clk })).failGraft k g 5 s.ticks := by
  rw [graftTest_step hg hs hst, if_neg (by rw [hx]; decide)]
end

/-! The loss of a graft while no failed slice is being replaced (04 R104). -/

/-- With no failed slice of which the replacement is under way no phase is filled. -/
theorem orphanRepls_crew (h : s.tw[k].replacing = false) : KeepsCrew s (s.orphanRepls k) := by
  have hdead : s.tw[k].repl.filter (s.replDead k) = [] := List.filter_eq_nil_iff.mpr fun r hr => by
    have hready := List.any_eq_false.mp h r hr
    simp_all [State.replDead]
  unfold State.orphanRepls
  dsimp only
  rw [hdead]
  exact .modTw s k rfl

/-- A tower whose graft is lost. -/
def Tower.graftless (w : Tower) : Tower :=
  { w with graft := none, gstep := .waiting, grid := none, swapNow := false, waived := false, deferred := false, lin := none }

theorem loseGraft_keeps (h : s.tw[k].replacing = false) (x : Fin 33) (p : Option (Fin 32)) :
    (∀ y, (s.loseGraft k x p).slice k y = s.slice k y) ∧ (s.loseGraft k x p).tw[k].phases = s.tw[k].phases
      ∧ (s.loseGraft k x p).tw[k].graft = none := by
  have hlost : ((s.modTw k Tower.graftless).twEvent k 0x0204 sevWarning (some x) p 0 s.ticks).tw[k] = s.tw[k].graftless := by
    rw [State.twEvent, (logEv_quiet _ _ _ _ _).tw, modTw_same]
  have hcrew := (orphanRepls_crew (by rw [hlost]; exact h)).trans (syncDomains_crew _)
  refine ⟨fun y => (hcrew.slice k y).trans ?_, (hcrew.phases k).trans ?_, (hcrew.graft k).trans ?_⟩
  · exact (congrArg (fun w : Tower => w.slices[y]) hlost :)
  · exact (congrArg Tower.phases hlost :)
  · exact (congrArg Tower.graft hlost :)

/-- A graft that fails then is marked, its tower has none, and the phases stand. -/
theorem failGraft_marks (h : s.tw[k].replacing = false) (x : Fin 33) (cause tick : Nat) :
    ((s.failGraft k x cause tick).slice k x).cause = cause ∧ (s.failGraft k x cause tick).tw[k].graft = none
      ∧ (s.failGraft k x cause tick).tw[k].phases = s.tw[k].phases := by
  have hq : Quiet (s.modSlice k x fun v => { v with cause := cause })
      ((s.modSlice k x fun v => { v with cause := cause }).twEvent k 0x0202 sevError (some x) none cause tick) :=
    logEv_quiet _ _ _ _ _
  have htrims := (OnlyTrims.modSlice s _).trans (.of_quiet hq)
  obtain ⟨hslice, hphases, hgraft⟩ := loseGraft_keeps (by rw [htrims.replacing]; exact h) x none
  refine ⟨?_, hgraft, hphases.trans htrims.phases⟩
  rw [State.failGraft, hslice, hq.slice, modSlice_same]

/-- GRAFT_SHADOW_SETTLED (04 R93). -/
theorem shadowDone_settles (hs : s.stepping k = true) (hst : s.tw[k].gstep = .shadow) :
    s.shadowDone k = s.modTw k (fun v => { v with gstep := .converge, stepAt := s.clk }) := by
  unfold State.shadowDone
  rw [hs, hst]
  rfl

/-! GRAFT_WINDOW (04 R94; 05 R126). -/

theorem enterMatch_tw : (s.enterMatch k g).tw = (s.modTw k (fun v => { v with gstep := .match_, stepAt := s.clk, lin := none })).tw := by
  unfold State.enterMatch
  split <;> rfl

theorem enterMatch_only : OnlyTower k s (s.enterMatch k g) := by
  unfold State.enterMatch
  split
  · exact .modTw s _
  · exact ((OnlyTower.modTw s _).trans (OnlyTrims.putCurve _ g _).toOnlyTower).trans (.modCal _ _)

theorem enterMatch_gstep : (s.enterMatch k g).tw[k].gstep = .match_ := by rw [enterMatch_tw, modTw_same]

theorem enterMatch_waived : (s.enterMatch k g).tw[k].waived = s.tw[k].waived := by rw [enterMatch_tw, modTw_same]

theorem SliceSet.enterMatch {u : State} {v : Slice} (h : SliceSet k g s v u) : SliceSet k g s v (u.enterMatch k g) :=
  h.keep enterMatch_only (by rw [enterMatch_tw, modTw_same]) (by rw [enterMatch_tw, modTw_same])

variable {w : GraftWin}

/-- Without enough slope the criterion is waived, and the timing trim of SHADOW is kept. -/
theorem convergeWin_waives (hw : w.slope < 4) :
    (∃ v, SliceSet k g s v (s.convergeWin k g w) ∧ v.tim = s.timTarget k g s.tw[k].target)
      ∧ (s.convergeWin k g w).tw[k].gstep = .match_ ∧ (s.convergeWin k g w).tw[k].waived = true := by
  unfold State.convergeWin
  dsimp only
  rw [if_pos hw, (OnlyTrims.checkLimits _ g).gstep, (OnlyTrims.checkLimits _ g).waived, enterMatch_gstep, enterMatch_waived, modTw_same]
  have h : SliceSet k g s _ _ := .modSlice .refl (fun v => { v with
    tim := s.timTarget k g s.tw[k].target, aper := s.timTarget k g s.tw[k].target - s.loopCorr k s.tw[k].target, conv := true })
  refine ⟨?_, rfl, rfl⟩
  obtain ⟨l, hl⟩ := (h.modTw (f := fun v => { v with waived := true }) (fun _ => rfl) (fun _ => rfl)).enterMatch.checkLimits
  exact ⟨_, hl, rfl⟩

/-- With it the trim is driven, and a difference within the limit brings MATCH. -/
theorem convergeWin_drives (hst : s.tw[k].gstep = .converge) (hw : 4 ≤ w.slope) :
    (∃ v, SliceSet k g s v (s.convergeWin k g w) ∧ v.tim = clampInt (-500) 500 w.tim)
      ∧ (s.convergeWin k g w).tw[k].gstep = if w.timDiff.natAbs ≤ s.mkey 0x0202 then .match_ else .converge := by
  have h : SliceSet k g s _ _ := .modSlice .refl (fun v => { v with
    tim := clampInt (-500) 500 w.tim, timRes := clampInt (-32768) 32767 w.timDiff })
  unfold State.convergeWin
  dsimp only
  rw [if_neg (Nat.not_lt.mpr hw)]
  split
  · rw [(OnlyTrims.checkLimits _ g).gstep, enterMatch_gstep]
    obtain ⟨l, hl⟩ := (h.modSlice (fun v => { v with
      aper := v.tim - s.loopCorr k s.tw[k].target, conv := true })).enterMatch.checkLimits
    exact ⟨⟨_, hl, rfl⟩, rfl⟩
  · rw [(OnlyTrims.checkLimits _ g).gstep, (OnlyTrims.modSlice s _).gstep, hst]
    obtain ⟨l, hl⟩ := h.checkLimits
    exact ⟨⟨_, hl, rfl⟩, rfl⟩

/-- A window of MATCH drives offset and gain; both differences within limits bring READY. -/
theorem matchWin_drives (hst : s.tw[k].gstep = .match_) :
    (∃ v, SliceSet k g s v (s.matchWin k g w) ∧ v.ofs = clampInt (-2048) 2047 w.ofs ∧ v.gain = clampInt (-512) 511 w.gain)
      ∧ (s.matchWin k g w).tw[k].gstep = if w.meanDiff.natAbs ≤ 8 ∧ w.gainDiff.natAbs ≤ 30 then .ready else .match_ := by
  have h : SliceSet k g s _ _ := .modSlice .refl (fun v => { v with
    ofs := clampInt (-2048) 2047 w.ofs, gain := clampInt (-512) 511 w.gain
    ofsRes := (clampInt (-2048) 2047 w.ofs - v.tOfs) * 4, gainRes := (clampInt (-512) 511 w.gain - v.tGain) * 20 })
  obtain ⟨l, hl⟩ := h.checkLimits
  unfold State.matchWin
  dsimp only
  by_cases hm : w.meanDiff.natAbs ≤ 8 ∧ w.gainDiff.natAbs ≤ 30
  · obtain ⟨hmean, hgain⟩ := id hm
    rw [if_pos ⟨hmean, hgain, hst⟩, if_pos hm, modTw_same]
    exact ⟨⟨_, hl.modTw (fun _ => rfl) (fun _ => rfl), rfl, rfl⟩, rfl⟩
  · rw [if_neg (fun ⟨hmean, hgain, _⟩ => hm ⟨hmean, hgain⟩), if_neg hm, (OnlyTrims.checkLimits _ g).gstep,
      (OnlyTrims.modSlice s _).gstep, hst]
    exact ⟨⟨_, hl, rfl, rfl⟩, rfl⟩

section
variable (hg : s.tw[k].graft = some g) (hs : s.stepping k = true)
include hg hs

theorem graftWin_converge (hst : s.tw[k].gstep = .converge) : s.graftWin k w = s.convergeWin k g w := by
  unfold State.graftWin
  rw [hg, hst]
  exact if_neg (by rw [hs]; decide)

theorem graftWin_match (hst : s.tw[k].gstep = .match_) : s.graftWin k w = s.matchWin k g w := by
  unfold State.graftWin
  rw [hg, hst]
  exact if_neg (by rw [hs]; decide)
end

/-! SWAP (04 R95 to R97). -/

/-- Graft `g` and slice `d` have exchanged their places, before their trims move. -/
def State.exchanged (s : State) (k : Fin 4) (g d : Fin 33) : State :=
  s.modTw k (fun v => { (v.serve v.target (some g) s.clk).newPeriod (v.target + 1) s.clk with
    graft := some d, swaps := satAdd 32 v.swaps 1, lastSwap := s.ticks, lastFail := none
    phFail := v.phFail.set v.target.val none, undo := some (s.undoOf k g d) })

/-- A swap exchanges graft and active slice; what follows moves trims alone (04 R96). -/
theorem doSwap_trims {d : Fin 33} (hg : s.tw[k].graft = some g) (hd : s.tw[k].phases[s.tw[k].target] = some d) :
    OnlyTrims k (s.exchanged k g d) (s.doSwap k) := by
  unfold State.doSwap
  dsimp only
  rw [hg, hd]
  exact (((((OnlyTrims.endRamps _ d).trans (.takeCurve _ d)).trans (.rampBack _ g)).trans (.retime _ g _ _)).trans
    (.checkLimits _ g)).trans (.checkLimits _ d)

section
variable {b : Nat} (hrot : s.rotates k = true) (hnow : s.tw[k].swapNow = false) (hgrid : s.tw[k].grid = some b)
include hrot hnow hgrid

theorem swapTick_early (h : s.clk < b) : s.swapTick k = s := by
  unfold State.swapTick
  dsimp only
  rw [hrot, hnow, hgrid]
  exact if_pos h

theorem swapTick_ready (h : b ≤ s.clk) (hst : s.tw[k].gstep = .ready) (hret : s.tw[k].retiring = false) :
    s.swapTick k = (s.modTw k (fun v => { v with grid := some (b + s.swapPeriod) })).doSwap k := by
  have hno : s.tw[k].retires = false := List.any_eq_false.mpr fun r hr => by
    have hready := List.any_eq_false.mp hret r hr
    simp_all
  unfold State.swapTick
  dsimp only
  rw [hrot, hnow, hgrid, hst, hno]
  exact if_neg (Nat.not_lt.mpr h)

/-- A swap that is due exchanges graft and active slice of the target, and the next target comes. -/
theorem swapTick_swaps {d : Fin 33} (hg : s.tw[k].graft = some g) (hd : s.tw[k].phases[s.tw[k].target] = some d) (h : b ≤ s.clk)
    (hst : s.tw[k].gstep = .ready) (hret : s.tw[k].retiring = false) :
    (s.swapTick k).tw[k].graft = some d ∧ (s.swapTick k).tw[k].phases = s.tw[k].phases.set s.tw[k].target.val (some g)
      ∧ (s.swapTick k).tw[k].swaps = satAdd 32 s.tw[k].swaps 1 ∧ (s.swapTick k).tw[k].target = s.tw[k].target + 1
      ∧ (s.swapTick k).tw[k].gstep = .select ∧ (s.swapTick k).tw[k].grid = some (b + s.swapPeriod)
      ∧ OnlyTower k s (s.swapTick k) := by
  have htrims := doSwap_trims (s := s.modTw k (fun v => { v with grid := some (b + s.swapPeriod) })) (g := g) (d := d)
    (by rw [modTw_same]; exact hg) ((congrArg (fun w : Tower => w.phases[w.target]) (modTw_same s k _)).trans hd)
  rw [swapTick_ready hrot hnow hgrid h hst hret, htrims.graft, htrims.phases, htrims.swaps, htrims.target, htrims.gstep, htrims.grid,
    State.exchanged, modTw_same, modTw_same]
  exact ⟨rfl, rfl, rfl, rfl, rfl, rfl, ((OnlyTower.modTw s _).trans (.modTw _ _)).trans htrims.toOnlyTower⟩

theorem swapTick_defers (h : b ≤ s.clk) (hst : s.tw[k].gstep ≠ .ready) (hlim : s.tw[k].grids + 1 < s.mkey 0x0203) :
    s.swapTick k = s.modTw k (fun v => { v with grid := some (b + s.swapPeriod), deferred := true, grids := v.grids + 1 }) := by
  have hno : (s.tw[k].gstep == .ready) = false := beq_eq_false_iff_ne.mpr hst
  unfold State.swapTick
  dsimp only
  rw [hrot, hnow, hgrid, hno]
  exact (if_neg (Nat.not_lt.mpr h)).trans (if_neg (Nat.not_le.mpr hlim))
end

/-- A tower that rotates replaces no failed slice (04 R90, R103). -/
theorem replacing_of_rotates (h : s.rotates k = true) : s.tw[k].replacing = false := by
  simp_all [State.rotates]
end

/-- Settles O13: each row by the change that it makes to the graft's record and step, and the swap by the exchange that it begins with. -/
theorem graftSteps : Obligations.GraftSteps := by
  intro s t k g hg
  refine ⟨fun hs => ⟨fun x hx hst => ?_, fun x hx hst => ?_, fun hst => ?_, fun w hst => ?_, fun w hst => ?_⟩,
    fun b d hrot hret hnow hgrid hd => ⟨fun hb => ?_, fun hb hst => ?_, fun hb hst hlim => ?_⟩⟩
  · have hkeep := OnlyTrims.modSlice (k := k) (x := g) (s.reach t) fun v => { v with lastTest := some (s.reach t).clk }
    obtain ⟨hcause, hgraft, hphases⟩ := failGraft_marks (by rw [hkeep.replacing]; exact replacing_of_rotates hs) g 5 (s.reach t).ticks
    exact ⟨_, congrArg go (graftTest_fails (s := s.reach t) hg hs hst hx), hcause, hgraft, hphases.trans hkeep.phases⟩
  · obtain ⟨⟨l, h⟩, hstep⟩ := graftTest_passes (s := s.reach t) hg hs hst hx
    refine ⟨_, rfl, hstep, ?_, ?_, ?_, ?_, ?_, h.rest, h.phases, h.frame⟩
    all_goals rw [h.set]; rfl
  · exact congrArg go (shadowDone_settles (s := s.reach t) hs hst)
  · have hwin := graftWin_converge (w := w) (s := s.reach t) hg hs hst
    by_cases hw : w.slope < 4
    · obtain ⟨⟨v, h, htim⟩, hstep, hwaived⟩ := convergeWin_waives (s := s.reach t) (g := g) (k := k) hw
      refine ⟨_, congrArg go hwin, ?_, fun _ => ⟨hwaived, ?_⟩, fun hn => absurd hw (Nat.not_lt.mpr hn), h.rest, h.phases, h.frame⟩
      · rw [hstep, if_pos (.inl hw)]
      · rw [h.set, htim]
        rfl
    · obtain ⟨⟨v, h, htim⟩, hstep⟩ := convergeWin_drives (s := s.reach t) (g := g) (k := k) hst (Nat.not_lt.mp hw)
      refine ⟨_, congrArg go hwin, ?_, fun hn => absurd hn hw, fun _ => ?_, h.rest, h.phases, h.frame⟩
      · rw [hstep]
        simp only [hw, false_or]
        rfl
      · rw [h.set, htim]
  · obtain ⟨⟨v, h, hofs, hgain⟩, hstep⟩ := matchWin_drives (w := w) (s := s.reach t) (g := g) (k := k) hst
    exact ⟨_, congrArg go (graftWin_match (s := s.reach t) hg hs hst), hstep, by rw [h.set, hofs], by rw [h.set, hgain], h.rest,
      h.phases, h.frame⟩
  · exact congrArg go (swapTick_early (s := s.reach t) hrot hnow hgrid hb)
  · obtain ⟨hgraft, hphases, hswaps, htarget, hstep, hnext, h⟩ := swapTick_swaps (s := s.reach t) hrot hnow hgrid hg hd hb hst hret
    exact ⟨_, rfl, hgraft, hphases, hswaps, htarget, hstep, hnext, h.frame⟩
  · exact congrArg go (swapTick_defers (s := s.reach t) hrot hnow hgrid hb hst hlim)

end Sys2Proof.Machine
end

section
/-!
O14: a ramp step that is due on the slice which the swap of the same boundary makes the graft is dropped (05 R120).
-/

namespace Sys2Proof.Machine

/-- At tick 4 tower 0 swaps its READY graft for slice 0, and a step of that slice's offset trim, which ramps to 8, is due. -/
def rampAtSwap : State := ((State.reset.modPw fun p => { p with onMap := BitVec.allOnes 196 }).modTw 0 fun w => { w with
  gstep := .ready, grid := some 4 }).modCal fun c => { c with ramps := [⟨.ofs 0 0, 0, 4, 8, 0, 8⟩] }

/-- The step of an element whose slice a swap displaces by then is dropped. -/
theorem rampStepBy_dropped {s : State} {e : RampElem} {b : Nat} (h : s.stepDropped e b = true) : s.rampStepBy e b = s := by
  unfold State.rampStepBy
  split
  · rfl
  · rw [h, Bool.or_true, if_pos rfl]

/-- Refutes O14: its clause on trim ramps lets every step that is due move the trim, also one that falls on the swap which makes its slice
the graft and is dropped (05 R120), as in `rampAtSwap`. -/
theorem not_slicesFailAndAreReplaced : ¬ Obligations.SlicesFailAndAreReplaced := by
  intro h
  obtain ⟨-, -, -, hramps⟩ := h
  have hramp : rampAtSwap.rampOf (.ofs 0 0) = some ⟨.ofs 0 0, 0, 4, 8, 0, 8⟩ := by rfl
  have hdrop : (rampAtSwap.reach 4).stepDropped (.ofs 0 0) 4 = true := by decide
  obtain ⟨-, hdue⟩ := hramps rampAtSwap 4 _ _ hramp
  obtain ⟨u, hu, hmoved, -⟩ := hdue (by decide)
  have hu' : (rampAtSwap.reach 4).rampStepBy (.ofs 0 0) 4 = u := by injection hu
  rw [← hu', rampStepBy_dropped hdrop] at hmoved
  exact absurd hmoved (by decide)

end Sys2Proof.Machine
end

section
/-!
O15: RESTORE_SLICE of a failed slice that still serves its phase takes it off that phase to be tested (04 R101, R111; log entry 13).
-/

namespace Sys2Proof.Machine

section
variable {s : State} {k : Fin 4} {x : Fin 33} {p : Fin 32}

theorem fillPhase_phases : (s.fillPhase k p).tw[k].phases = s.tw[k].phases.set p.val none := by
  rw [State.fillPhase, State.twEvent, (logEv_quiet _ _ _ _ _).tw, State.flagOos, State.modTr_tw, modTw_same]
  rfl

theorem leavePhase_phases (h : s.tw[k].phaseOf x = some p) : (s.leavePhase k x).tw[k].phases = s.tw[k].phases.set p.val none := by
  unfold State.leavePhase
  rw [h]
  refine fillPhase_phases.trans ?_
  rw [modTw_same]

theorem beginRepl_phases {y : Option (Fin 33)} {g : Fin 33} : (s.beginRepl k p y g).tw[k].phases = s.tw[k].phases := by
  rw [State.beginRepl, State.connectGraft, (OnlyTrims.checkLimits _ g).phases, (OnlyTrims.modSlice _ _).phases, modTw_same]

/-- Of what RESTORE_SLICE does only `leavePhase` changes the phases; the slice takes its phase later (04 R105). -/
theorem restoreSlice_phases (test : SliceTest) : (s.restoreSlice k x test).tw[k].phases = (s.leavePhase k x).tw[k].phases := by
  unfold State.restoreSlice
  dsimp only
  rw [(syncDomains_crew _).phases, (OnlyTrims.checkLimits _ x).phases]
  split
  · rw [beginRepl_phases, (OnlyTrims.takeCurve _ x).phases, modTw_same]
    exact (OnlyTrims.modSlice _ _).phases
  · rw [(OnlyTrims.takeCurve _ x).phases, modTw_same]
    exact (OnlyTrims.modSlice _ _).phases
end

/-- A well-formed GRAFT_CONTROL that the tower's state permits. -/
theorem graftBody_permitted {s : State} {r : Req} {test : SliceTest} {k : Fin 4}
    (hk : (s.selTowers r.chsel).getD (fieldAt r.payload 1 1) 0 = k)
    (hform : graftForm (s.selTowers r.chsel).length r.payload = true)
    (hok : s.graftDenied k (fieldAt r.payload 0 1) (Fin.ofNat 33 (fieldAt r.payload 2 1)) (Fin.ofNat 32 (fieldAt r.payload 3 1)) = false) :
    ∃ a, graftBody test r s = (.reply a, ((s.reach s.boundary).graftOp k (fieldAt r.payload 0 1)
      (Fin.ofNat 33 (fieldAt r.payload 2 1)) (Fin.ofNat 32 (fieldAt r.payload 3 1)) test).2) := by
  subst hk
  unfold graftBody
  dsimp only
  rw [hform, hok]
  exact ⟨_, rfl⟩

/-- RESTORE_SLICE of a slice that passes its test leaves the phases as `leavePhase` does. -/
theorem exec_restoreSlice_phases {s : State} {t : Nat} {m : Fin 17} {test : SliceTest} {k : Fin 4} {x : Fin 33}
    (hr : Ready s t m 0x0205 (lenIs 8)) (hexp : ∀ c, (s.reqOf m).expired c = false)
    (hk : (s.selTowers (s.reqOf m).chsel).getD (fieldAt (s.reqOf m).payload 1 1) 0 = k)
    (hform : graftForm (s.selTowers (s.reqOf m).chsel).length (s.reqOf m).payload = true)
    (hok : s.graftDenied k (fieldAt (s.reqOf m).payload 0 1) (Fin.ofNat 33 (fieldAt (s.reqOf m).payload 2 1))
      (Fin.ofNat 32 (fieldAt (s.reqOf m).payload 3 1)) = false)
    (hop : fieldAt (s.reqOf m).payload 0 1 = 5) (hx : Fin.ofNat 33 (fieldAt (s.reqOf m).payload 2 1) = x) (htest : testPasses test = true) :
    Leads (exec (.graftControl t m test) s) (fun u => u.tw[k].phases
      = (((s.reach t).reach (s.reach t).boundary).leavePhase k x).tw[k].phases) := by
  obtain ⟨a, hb⟩ := graftBody_permitted (s := s.reach t) (test := test) hk hform hok
  rw [hop, hx, State.graftOp, if_pos htest] at hb
  refine ⟨_, congrArg go (command_reply hr hb (hexp _)), ?_⟩
  exact ((KeepsCrew.of_units (respond_units _ _ _ _)).phases k).trans (restoreSlice_phases test)

/-- RESTORE_SLICE of slice 5 of the first tower of channel A, as the host writes it (02 R40; 04 R110). -/
def restoreCommand : List Byte :=
  leBytes 2 0x0205 ++ leBytes 2 7 ++ leBytes 2 8 ++ leBytes 1 1 ++ leBytes 25 0 ++ [5, 0, 5, 0, 0, 0, 0, 0]

/-- Slice 5 of tower 0 is retired and serves phase 5 on, the graft that was to replace it is lost. -/
def retiredServing : State := (State.reset.modSlice 0 5 fun v => { v with cause := 7 }).modTw 0 fun w => { w with
  graft := none, repl := [⟨5, some 5, 0, true⟩] }

/-- The same with the tower powered and RESTORE_SLICE of that slice posted. -/
def restoreServing : State := ((retiredServing.modPw fun p => { p with onMap := BitVec.allOnes 196 }).modMb 0 fun b => { b with
  cmd := memWriteBytes [] 0 restoreCommand }).post 0

/-- A self-test that passes. -/
def soundTest : SliceTest := ⟨true, 0, 0, 0, 0, 0, 0, []⟩

theorem restoreServing_ready : Ready restoreServing 4 0 0x0205 (lenIs 8) := by decide

theorem restoreServing_expired (c : Nat) : (restoreServing.reqOf 0).expired c = false := by
  have h : (restoreServing.reqOf 0).expiry = none := by decide
  rw [Req.expired, h]

theorem restoreServing_form : graftForm (restoreServing.selTowers (restoreServing.reqOf 0).chsel).length
    (restoreServing.reqOf 0).payload = true := by decide

theorem restoreServing_permitted : restoreServing.graftDenied
    ((restoreServing.selTowers (restoreServing.reqOf 0).chsel).getD (fieldAt (restoreServing.reqOf 0).payload 1 1) 0)
    (fieldAt (restoreServing.reqOf 0).payload 0 1) (Fin.ofNat 33 (fieldAt (restoreServing.reqOf 0).payload 2 1))
    (Fin.ofNat 32 (fieldAt (restoreServing.reqOf 0).payload 3 1)) = false := by decide

theorem restoreServing_op : fieldAt (restoreServing.reqOf 0).payload 0 1 = 5 := by decide

/-- The slice that the command names serves phase 5 of the tower that it names. -/
theorem restoreServing_phase : restoreServing.tw[(restoreServing.selTowers (restoreServing.reqOf 0).chsel).getD
    (fieldAt (restoreServing.reqOf 0).payload 1 1) 0].phaseOf (Fin.ofNat 33 (fieldAt (restoreServing.reqOf 0).payload 2 1)) = some 5 := by
  decide

/-- Refutes O15: its clause on RESTORE_SLICE keeps the phases, also of a retired slice that still serves one where the graft has been lost
(04 R101, R104); such a slice leaves its phase, which is filled while it becomes the graft, as in `restoreServing`. -/
theorem not_graftControlOperations : ¬ Obligations.GraftControlOperations := by
  intro h
  obtain ⟨-, -, hops⟩ := h restoreServing 4 0 soundTest restoreServing_ready
  obtain ⟨-, -, -, -, -, hrestore, -⟩ := hops restoreServing_form restoreServing_permitted (restoreServing_expired _)
  obtain ⟨u, hu, -, -, -, hstand⟩ := hrestore restoreServing_op (by decide)
  obtain ⟨v, hv, hleft⟩ := exec_restoreSlice_phases (test := soundTest) restoreServing_ready restoreServing_expired rfl
    restoreServing_form restoreServing_permitted restoreServing_op rfl (by decide)
  have huv : u = v := by injection hu.symm.trans hv
  rw [huv] at hstand
  have hset := hstand.symm.trans (hleft.trans (leavePhase_phases restoreServing_phase))
  exact absurd (congrArg (fun l : Vector (Option (Fin 33)) 32 => l[5]) hset) (by decide)

end Sys2Proof.Machine
end

section
/-!
SUPPORT. Calibration (05): what a keyed item reads after a put, what ramps, jumps and limit marks leave as it was, and how a command
ends that answers at once.
-/

namespace Sys2Proof.Machine

/-! Items. -/

theorem itemAt_itemPut (k j : Nat) (v : Int) (l : List (Nat × Int)) : itemAt (itemPut k v l) j = if j = k then v else itemAt l j := by
  unfold itemAt itemPut
  by_cases h : j = k
  · simp [h]
  · rw [if_neg h, List.find?_cons_of_neg (by simpa using Ne.symm h), List.find?_filter]
    congr 2
    funext e
    by_cases he : e.1 = j <;> simp [he, h]

@[simp] theorem itemsPut_nil {α : Type} (l : List (Nat × α)) : itemsPut [] l = l := rfl

/-! Units beside towers and calibration. -/

theorem SameUnits.trans_beside {s u v : State} (h : SameUnits { s with tw := u.tw, cal := u.cal } u)
    (k : SameUnits { u with tw := v.tw, cal := v.cal } v) : SameUnits { s with tw := v.tw, cal := v.cal } v := by
  obtain ⟨h1, -, -, h4⟩ := h
  exact SameUnits.trans (u := { u with tw := v.tw, cal := v.cal }) ⟨h1, rfl, rfl, h4⟩ k

theorem SameUnits.beside {s u : State} (h : SameUnits s u) : SameUnits { s with tw := u.tw, cal := u.cal } u := by
  obtain ⟨h1, -, -, h4⟩ := h
  exact ⟨h1, rfl, rfl, h4⟩

theorem Quiet.cal {s u : State} (h : Quiet s u) : u.cal = s.cal := by
  obtain ⟨-, -, hcal, -⟩ := h.units
  exact hcal

/-! Trims and channel corrections move (05 R116 to R120, R132). -/

/-- The calibration without what moves a trim or a channel correction: ramps, present values and their history. -/
def Cal.books (c : Cal) : Cal :=
  { c with ramps := [], corrHist := [], rangeO := .replicate 4 0, rangeG := .replicate 4 0, userO := .replicate 4 0,
           userG := .replicate 4 0 }

/-- The true trims of a slice (05 R134). -/
def Slice.trueTrims (v : Slice) : Int × Int := (v.tOfs, v.tGain)

/-- Present trims and channel corrections may move and the towers may step; the books of the calibration, the true trims, time and command
interface stand. -/
structure MovesTrims (s u : State) : Prop where
  clk : u.clk = s.clk
  mr : u.mr = s.mr
  units : SameUnits { s with tw := u.tw, cal := u.cal } u
  books : u.cal.books = s.cal.books
  trims : ∀ k x, (u.slice k x).trueTrims = (s.slice k x).trueTrims

namespace MovesTrims
variable {s u v : State}

theorem refl (s : State) : MovesTrims s s := ⟨rfl, rfl, .refl s, rfl, fun _ _ => rfl⟩

theorem trans (h : MovesTrims s u) (h' : MovesTrims u v) : MovesTrims s v where
  clk := h'.clk.trans h.clk
  mr := h'.mr.trans h.mr
  units := h.units.trans_beside h'.units
  books := h'.books.trans h.books
  trims k x := (h'.trims k x).trans (h.trims k x)

theorem ws (h : MovesTrims s u) : u.cal.ws = s.cal.ws := (congrArg Cal.ws h.books :)
theorem active (h : MovesTrims s u) : u.cal.active = s.cal.active := (congrArg Cal.active h.books :)
theorem tOfs (h : MovesTrims s u) (k : Fin 4) (x : Fin 33) : (u.slice k x).tOfs = (s.slice k x).tOfs := congrArg Prod.fst (h.trims k x)
theorem tGain (h : MovesTrims s u) (k : Fin 4) (x : Fin 33) : (u.slice k x).tGain = (s.slice k x).tGain :=
  congrArg Prod.snd (h.trims k x)

theorem bank (h : MovesTrims s u) (b : Fin 2) : u.cal.bank b = s.cal.bank b := by
  have h0 : u.cal.bank0 = s.cal.bank0 := (congrArg Cal.bank0 h.books :)
  have h1 : u.cal.bank1 = s.cal.bank1 := (congrArg Cal.bank1 h.books :)
  rw [Cal.bank, h0, h1, Cal.bank]

theorem loopCorr (h : MovesTrims s u) (k : Fin 4) (p : Fin 32) : u.loopCorr k p = s.loopCorr k p := by
  rw [State.loopCorr, h.ws, State.mode, State.mkey, State.key, h.mr, State.loopCorr]
  rfl

theorem ite {c : Prop} [Decidable c] (hu : MovesTrims s u) (hv : MovesTrims s v) : MovesTrims s (if c then u else v) := by
  split
  · exact hu
  · exact hv

theorem foldl {α : Type} {f : State → α → State} (h : ∀ s x, MovesTrims s (f s x)) (l : List α) (s : State) :
    MovesTrims s (l.foldl f s) := by
  induction l generalizing s with
  | nil => exact refl s
  | cons x xs ih => exact (h s x).trans (ih _)

theorem of_quiet (h : Quiet s u) : MovesTrims s u :=
  ⟨h.clk, h.mr, h.units.beside, by rw [h.cal], fun k x => by rw [h.slice]⟩

/-- A change of the calibration that leaves its books. -/
theorem modCal (s : State) {f : Cal → Cal} (hf : (f s.cal).books = s.cal.books) : MovesTrims s (s.modCal f) :=
  ⟨rfl, rfl, .refl _, hf, fun _ _ => rfl⟩

/-- A change of a slice that leaves its true trims. -/
theorem modSlice (s : State) (k : Fin 4) (x : Fin 33) {f : Slice → Slice} (hf : ∀ v, (f v).trueTrims = v.trueTrims) :
    MovesTrims s (s.modSlice k x f) := by
  refine ⟨rfl, rfl, .refl _, rfl, fun j y => ?_⟩
  by_cases hj : j = k
  · subst hj
    by_cases hy : y = x
    · subst hy
      rw [modSlice_same, hf]
    · rw [modSlice_other s j f hy]
  · rw [State.slice, State.modSlice, modTw_other s _ hj]
    rfl

/-- A change of a tower that leaves its slices. -/
theorem modTw (s : State) (k : Fin 4) {f : Tower → Tower} (hf : ∀ w, (f w).slices = w.slices) : MovesTrims s (s.modTw k f) := by
  refine ⟨rfl, rfl, .refl _, rfl, fun j y => ?_⟩
  by_cases hj : j = k
  · subst hj
    rw [modTw_slice s j hf]
  · rw [State.slice, modTw_other s f hj]
    rfl

theorem checkLimits (s : State) (k : Fin 4) (x : Fin 33) : MovesTrims s (s.checkLimits k x) :=
  trans (modSlice s k x (by intro; rfl)) (of_quiet (checkLimits_quiet s k x))

theorem setElem (s : State) (e : RampElem) (a : Int) : MovesTrims s (s.setElem e a) := by
  unfold State.setElem
  cases e with
  | ofs k x => exact modSlice s k x (by intro; rfl)
  | gain k x => exact modSlice s k x (by intro; rfl)
  | tim k x => exact modSlice s k x (by intro; rfl)
  | rangeOfs i => exact modCal s (by rfl)
  | rangeGain i => exact modCal s (by rfl)
  | userOfs i => exact modCal s (by rfl)
  | userGain i => exact modCal s (by rfl)

/-- A trim of the READY graft, if one follows. -/
theorem elim_modSlice (s : State) (k : Fin 4) (o : Option (Fin 33)) {f : Slice → Slice} (hf : ∀ v, (f v).trueTrims = v.trueTrims) :
    MovesTrims s (o.elim s fun g => s.modSlice k g f) := by
  cases o with
  | none => exact refl s
  | some g => exact modSlice s k g hf

theorem follow (s : State) (e : RampElem) (was : Int) : MovesTrims s (s.follow e was) := by
  cases e with
  | ofs k x => exact elim_modSlice s k _ (by intro; rfl)
  | gain k x => exact elim_modSlice s k _ (by intro; rfl)
  | tim k x => exact elim_modSlice s k _ (by intro; rfl)
  | rangeOfs i => exact refl s
  | rangeGain i => exact refl s
  | userOfs i => exact refl s
  | userGain i => exact refl s

theorem checkMoved (s : State) (e : RampElem) : MovesTrims s (s.checkMoved e) := by
  have both (k : Fin 4) (x : Fin 33) : MovesTrims s (s.checkMoved (.ofs k x)) := by
    have h := checkLimits s k x
    unfold State.checkMoved
    dsimp only
    split
    · exact ite (h.trans (checkLimits _ _ _)) h
    · exact h
  cases e with
  | ofs k x => exact both k x
  | gain k x => exact both k x
  | tim k x => exact both k x
  | rangeOfs i => exact refl s
  | rangeGain i => exact refl s
  | userOfs i => exact refl s
  | userGain i => exact refl s

theorem stopRamp (s : State) (e : RampElem) : MovesTrims s (s.stopRamp e) := modCal s rfl

theorem jumpTo (s : State) (e : RampElem) (a : Int) : MovesTrims s (s.jumpTo e a) :=
  ((stopRamp s e).trans (setElem _ e a)).trans (follow _ e _)

theorem rampStepBy (s : State) (e : RampElem) (b : Nat) : MovesTrims s (s.rampStepBy e b) := by
  unfold State.rampStepBy
  split
  · exact refl s
  · exact ite (refl s) ((((setElem s e _).trans (modCal _ rfl)).trans (follow _ e _)).trans (checkMoved _ e))

theorem rampTo (s : State) (e : RampElem) (a : Int) (b : Nat) : MovesTrims s (s.rampTo e a b) := by
  have hstop := (rampStepBy s e b).trans (stopRamp _ e)
  unfold State.rampTo
  exact ite (refl s) (ite hstop (hstop.trans (modCal _ rfl)))

theorem retime (s : State) (k : Fin 4) (x : Fin 33) (p : Fin 32) (b : Nat) : MovesTrims s (s.retime k x p b) :=
  (rampTo s (.tim k x) _ b).trans (checkMoved _ _)

theorem timeNow (s : State) (k : Fin 4) (x : Fin 33) (p : Fin 32) : MovesTrims s (s.timeNow k x p) :=
  (jumpTo s (.tim k x) _).trans (checkMoved _ _)

theorem jumpRange (s : State) (i : Fin 4) : MovesTrims s (s.jumpRange i) := (jumpTo s (.rangeOfs i) _).trans (jumpTo _ _ _)

theorem rampRange (s : State) (i : Fin 4) (b : Nat) : MovesTrims s (s.rampRange i b) := (rampTo s (.rangeOfs i) _ b).trans (rampTo _ _ _ _)

end MovesTrims

/-! Commands that answer at once. -/

theorem Leads.mono {o : Out} {P Q : State → Prop} (h : Leads o P) (hPQ : ∀ u, P u → Q u) : Leads o Q := by
  obtain ⟨u, hu, hP⟩ := h
  exact ⟨u, hu, hPQ u hP⟩

section
variable {s : State} {t : Nat} {m : Fin 17} {code : Nat} {lenOk : Req → Bool} {body : Body} (h : Ready s t m code lenOk)
include h

/-- A ready command's own part answers without time passing. -/
theorem command_replies {st : Nat} {p : List Byte} {q : Nat} {x : State}
    (hb : body (s.reqOf m) (s.reach t) = (.reply ⟨st, p, none, 0, q⟩, x)) (hx : x.clk = (s.reach t).clk) :
    Leads (go (s.command t m code lenOk body)) (fun u => Replied u m st p ∧ SameUnits x u ∧ SameSettings x u) := by
  obtain ⟨-, -, -, -, he⟩ := id h
  exact command_leads h hb (by rw [hx, he])

/-- What such a command leaves of the calibration and the settings. -/
theorem command_cal {st : Nat} {p : List Byte} {q : Nat} {x : State}
    (hb : body (s.reqOf m) (s.reach t) = (.reply ⟨st, p, none, 0, q⟩, x)) (hx : x.clk = (s.reach t).clk) :
    Leads (go (s.command t m code lenOk body)) (fun u => Replied u m st p ∧ u.cal = x.cal ∧ SameSettings x u) :=
  (command_replies h hb hx).mono fun _ ⟨hreply, ⟨_, _, hcal, _⟩, hset⟩ => ⟨hreply, hcal, hset⟩

/-- A ready command that its own part refuses leaves units and settings. -/
theorem command_fails {st : Nat} (hb : body (s.reqOf m) (s.reach t) = fails st (s.reach t)) :
    Leads (go (s.command t m code lenOk body)) (fun u => Replied u m st [] ∧ SameUnits s u ∧ SameSettings s u) :=
  command_replies (x := s.reach t) h hb rfl

end

end Sys2Proof.Machine
end

section
/-!
O18: the timing-skew loop (05 R122 to R125). A window writes the corrections of the phases of its channel one after the other; the keys
of the phases differ, so that each phase holds what its own update gave it.
-/

namespace Sys2Proof.Machine

/-! Entries of a list with a default. -/

theorem getD_of_lt {α : Type} {l : List α} {i : Nat} {d : α} (h : i < l.length) : l.getD i d = l[i] := by
  rw [List.getD_eq_getElem?_getD, List.getElem?_eq_getElem h, Option.getD_some]

theorem getD_of_le {α : Type} {l : List α} {i : Nat} {d : α} (h : l.length ≤ i) : l.getD i d = d := by
  rw [List.getD_eq_getElem?_getD, List.getElem?_eq_none h, Option.getD_none]

/-! The phases of a channel (01 R15). -/

theorem towersIn_nodup (mode : Nat) (c : Fin 4) : (towersIn mode c).Nodup := by
  unfold towersIn
  split
  · exact List.pairwise_singleton _ c
  · revert c
    decide
  · revert c
    decide

theorem phaseOfChan_inj {s : State} {c : Fin 4} {p q : Nat} (hp : p < 32 * (s.towers c).length) (hq : q < 32 * (s.towers c).length)
    (h : s.phaseOfChan c p = s.phaseOfChan c q) : p = q := by
  have hn : 0 < (s.towers c).length := by omega
  have hmax : max 1 (s.towers c).length = (s.towers c).length := by omega
  simp only [State.phaseOfChan, hmax, Prod.mk.injEq] at h
  obtain ⟨htower, hphase⟩ := h
  have hmod : p % (s.towers c).length = q % (s.towers c).length := by
    have hp' := Nat.mod_lt p hn
    have hq' := Nat.mod_lt q hn
    rw [getD_of_lt hp', getD_of_lt hq'] at htower
    exact (List.getElem_inj (towersIn_nodup s.mode c)).mp htower
  have hdiv : p / (s.towers c).length = q / (s.towers c).length := by
    have hval := congrArg Fin.val hphase
    rwa [Fin.val_ofNat, Fin.val_ofNat, Nat.mod_eq_of_lt (Nat.div_lt_of_lt_mul (by rwa [Nat.mul_comm])),
      Nat.mod_eq_of_lt (Nat.div_lt_of_lt_mul (by rwa [Nat.mul_comm]))] at hval
  rw [← Nat.div_add_mod p (s.towers c).length, hdiv, hmod, Nat.div_add_mod]

theorem chanPhases_nodup (s : State) (c : Fin 4) : (s.chanPhases c).Nodup :=
  List.pairwise_map.mpr (List.nodup_range.imp_of_mem fun hp hq hne h =>
    hne (phaseOfChan_inj (List.mem_range.mp hp) (List.mem_range.mp hq) h))

theorem phaseKey_inj {mode : Nat} {k j : Fin 4} {p q : Fin 32} (h : phaseKey mode k p = phaseKey mode j q) : (k, p) = (j, q) := by
  unfold phaseKey at h
  rw [Prod.mk.injEq, Fin.ext_iff, Fin.ext_iff]
  omega

/-! The new corrections of a window (05 R123, R125). -/

theorem clampInt_bounds {lo hi : Int} (h : lo ≤ hi) (v : Int) : lo ≤ clampInt lo hi v ∧ clampInt lo hi v ≤ hi := by
  unfold clampInt
  split
  · exact ⟨Int.le_refl _, h⟩
  · split <;> omega

theorem skewStep_length (spt stepMax : Nat) (cs : List Int) (est : List (Option (Nat × Nat))) :
    (skewStep spt stepMax cs est).length = cs.length := by simp [skewStep]

theorem skewStep_bounds (spt stepMax : Nat) (cs : List Int) (est : List (Option (Nat × Nat))) (i : Nat) :
    -250 ≤ ((skewStep spt stepMax cs est).getD i (0, false)).1 ∧ ((skewStep spt stepMax cs est).getD i (0, false)).1 ≤ 250 := by
  by_cases hi : i < (skewStep spt stepMax cs est).length
  · rw [getD_of_lt hi]
    obtain ⟨e, -, he⟩ := List.mem_map.mp (List.getElem_mem hi)
    rw [← he]
    exact clampInt_bounds (by decide) _
  · rw [getD_of_le (Nat.le_of_not_lt hi)]
    decide

/-! One phase's correction, and those of all phases. -/

/-- A phase's correction and its limit mark are written, before the trim follows. -/
def State.putLoop (s : State) (k : Fin 4) (p : Fin 32) (c : Int × Bool) : State :=
  s.modCal (fun q => { q with
    ws := { q.ws with loop := itemPut (phaseKey s.mode k p) c.1 q.ws.loop }
    metLoop := (if c.2 then [phaseKey s.mode k p] else []) ++ q.metLoop.filter (· != phaseKey s.mode k p) })

theorem setLoop_moves (s : State) (k : Fin 4) (p : Fin 32) (c : Int × Bool) (b : Nat) :
    MovesTrims (s.putLoop k p c) (s.setLoop k p c b) := by
  unfold State.setLoop
  dsimp only
  split
  · exact .refl _
  · exact .ite (.retime _ _ _ _ _) (.checkLimits _ _ _)

theorem loopCorr_setLoop (s : State) (k j : Fin 4) (p q : Fin 32) (c : Int × Bool) (b : Nat) :
    (s.setLoop k p c b).loopCorr j q = if (j, q) = (k, p) then c.1 else s.loopCorr j q := by
  rw [(setLoop_moves s k p c b).loopCorr]
  refine (itemAt_itemPut (phaseKey s.mode k p) (phaseKey s.mode j q) c.1 s.cal.ws.loop).trans ?_
  by_cases h : (j, q) = (k, p)
  · obtain ⟨rfl, rfl⟩ := Prod.mk.inj h
    rw [if_pos rfl, if_pos rfl]
  · rw [if_neg (fun hk => h (phaseKey_inj hk)), if_neg h]
    rfl

/-- What the loop keeps of its windows. -/
def Cal.skewBooks (c : Cal) : Vector (List Int) 4 × Vector Nat 4 × Nat := (c.deltas, c.winFrom, c.windows)

/-- Corrections and trims may move; time, command interface, the loop's windows and the other units stand. -/
structure SetsLoops (s u : State) : Prop where
  mr : u.mr = s.mr
  units : SameUnits { s with tw := u.tw, cal := u.cal } u
  books : u.cal.skewBooks = s.cal.skewBooks

theorem SetsLoops.refl (s : State) : SetsLoops s s := ⟨rfl, .refl s, rfl⟩

theorem SetsLoops.trans {s u v : State} (h : SetsLoops s u) (k : SetsLoops u v) : SetsLoops s v :=
  ⟨k.mr.trans h.mr, h.units.trans_beside k.units, k.books.trans h.books⟩

theorem setLoop_sets (s : State) (k : Fin 4) (p : Fin 32) (c : Int × Bool) (b : Nat) : SetsLoops s (s.setLoop k p c b) := by
  have h := setLoop_moves s k p c b
  exact ⟨h.mr, h.units, (congrArg Cal.skewBooks h.books :)⟩

/-- The corrections of several phases are written. -/
def State.setLoops (s : State) (l : List ((Fin 4 × Fin 32) × (Int × Bool))) (b : Nat) : State :=
  l.foldl (fun a e => a.setLoop e.1.1 e.1.2 e.2 b) s

theorem setLoops_sets (s : State) (l : List ((Fin 4 × Fin 32) × (Int × Bool))) (b : Nat) : SetsLoops s (s.setLoops l b) := by
  induction l generalizing s with
  | nil => exact .refl s
  | cons e es ih => exact (setLoop_sets s _ _ _ b).trans (ih _)

theorem loopCorr_setLoops_other {s : State} {l : List ((Fin 4 × Fin 32) × (Int × Bool))} {b : Nat} {k : Fin 4} {p : Fin 32}
    (h : (k, p) ∉ l.map Prod.fst) : (s.setLoops l b).loopCorr k p = s.loopCorr k p := by
  induction l generalizing s with
  | nil => rfl
  | cons e es ih =>
    rw [List.map_cons, List.mem_cons, not_or] at h
    obtain ⟨hne, hes⟩ := h
    exact (ih hes).trans ((loopCorr_setLoop s _ _ _ _ _ b).trans (if_neg hne))

/-- Each of several different phases holds what was written for it. -/
theorem loopCorr_setLoops {s : State} {l : List ((Fin 4 × Fin 32) × (Int × Bool))} {b : Nat} (hl : (l.map Prod.fst).Nodup)
    {e : (Fin 4 × Fin 32) × (Int × Bool)} (he : e ∈ l) : (s.setLoops l b).loopCorr e.1.1 e.1.2 = e.2.1 := by
  induction l generalizing s with
  | nil => cases he
  | cons x xs ih =>
    obtain ⟨hx, hxs⟩ := List.nodup_cons.mp hl
    rcases List.mem_cons.mp he with rfl | hmem
    · exact (loopCorr_setLoops_other hx).trans ((loopCorr_setLoop s _ _ _ _ _ b).trans (if_pos rfl))
    · exact ih hxs hmem

/-! The windows (05 R124). -/

section
variable {s : State} {c : Fin 4}

/-- A window is counted and the next one opens. -/
def State.nextWindow (s : State) (c : Fin 4) : State :=
  s.modCal (fun k => { k with windows := satAdd 32 k.windows 1, winFrom := k.winFrom.set c.val s.clk })

/-- The timing errors that a window estimates are recorded. -/
def State.putDeltas (s : State) (c : Fin 4) (ds : List Int) : State := s.modCal (fun k => { k with deltas := k.deltas.set c.val ds })

/-- With the loop on, a full window with slope writes every phase's correction (05 R123). -/
theorem skewUpdate_steers (hon : s.mkey 0x0301 ≠ 0) (est : List (Option (Nat × Nat))) :
    s.skewUpdate c est true true
      = ((s.nextWindow c).putDeltas c (skewDeltas (samplesPerTick s.mode) (s.chanPhases c).length s.cal.deltas[c] est)).setLoops
          ((s.chanPhases c).zip (skewStep (samplesPerTick s.mode) (s.mkey 0x0302)
            ((s.chanPhases c).map fun e => s.loopCorr e.1 e.2) est)) s.boundary := if_neg hon

theorem skewUpdate_records (hoff : s.mkey 0x0301 = 0) (est : List (Option (Nat × Nat))) :
    s.skewUpdate c est true true
      = (s.nextWindow c).putDeltas c (skewDeltas (samplesPerTick s.mode) (s.chanPhases c).length s.cal.deltas[c] est) := if_pos hoff

/-- Phase `i` of several different ones gets the `i`-th of as many corrections. -/
theorem loopCorr_setLoops_zip {u : State} {ps : List (Fin 4 × Fin 32)} {new : List (Int × Bool)} {b i : Nat} (hps : ps.Nodup)
    (hlen : new.length = ps.length) (hi : i < ps.length) :
    (u.setLoops (ps.zip new) b).loopCorr (ps.getD i (0, 0)).1 (ps.getD i (0, 0)).2 = (new.getD i (0, false)).1 := by
  have hi' : i < new.length := hlen ▸ hi
  have hfst : (ps.zip new).map Prod.fst = ps := List.map_fst_zip (Nat.le_of_eq hlen.symm)
  have hmem : (ps[i], new[i]) ∈ ps.zip new := by
    rw [← List.getElem_zip (h := by rw [List.length_zip]; omega)]
    exact List.getElem_mem _
  rw [getD_of_lt hi, getD_of_lt hi']
  exact loopCorr_setLoops (by rwa [hfst]) hmem

/-- A phase without its samples, or that was disturbed, has no estimate. -/
theorem skewPair_none {g : Stream} {q : Nat}
    (h : (s.phaseIndexes c g q).length < skewLen ∨ s.disturbed c q s.cal.winFrom[c] = true) : s.skewPair c g q = none := by
  refine if_pos ?_
  rcases h with hshort | hdist
  · rw [decide_eq_true hshort, Bool.true_or]
  · rw [List.any_cons, hdist, Bool.true_or, Bool.or_true]

theorem skewWindow_waits {tick : Nat} {codes : Codes}
    (h : (s.present c && (s.towers c).all s.towerOn && s.skewEnds c tick (s.skewStream tick codes)) = false) :
    s.skewWindow c tick codes = s := by
  refine if_pos ?_
  rw [← Bool.not_and, ← Bool.not_and, h]
  rfl

theorem skewWindow_closes {tick : Nat} {codes : Codes}
    (h : (s.present c && (s.towers c).all s.towerOn && s.skewEnds c tick (s.skewStream tick codes)) = true) :
    s.skewWindow c tick codes = s.skewUpdate c (s.skewEst c (s.skewStream tick codes)) (s.skewSlope c (s.skewStream tick codes))
      (s.skewFull c (s.skewStream tick codes)) := by
  refine if_neg ?_
  rw [← Bool.not_and, ← Bool.not_and, h]
  decide

end

/-- Settles O18: the row by the end of its window, and the loop's corrections by the phases that they are written for. -/
theorem skewLoopWindows : Obligations.SkewLoopWindows := by
  refine ⟨fun s t tick c codes => ⟨fun h => congrArg go (skewWindow_waits (s := s.reach t) h),
    fun h => congrArg go (skewWindow_closes (s := s.reach t) h), fun q h => skewPair_none (s := s.reach t) h⟩,
    fun s c est => ⟨fun _ => rfl, rfl, fun hoff => skewUpdate_records hoff est, fun hon => ?_⟩⟩
  dsimp only
  rw [skewUpdate_steers hon]
  have h := setLoops_sets ((s.nextWindow c).putDeltas c (skewDeltas (samplesPerTick s.mode) (s.chanPhases c).length s.cal.deltas[c] est))
    ((s.chanPhases c).zip (skewStep (samplesPerTick s.mode) (s.mkey 0x0302)
      ((s.chanPhases c).map fun e => s.loopCorr e.1 e.2) est)) s.boundary
  obtain ⟨hdeltas, hfrom, hcount⟩ : _ ∧ _ ∧ _ := by simpa only [Cal.skewBooks, Prod.mk.injEq] using h.books
  refine ⟨hdeltas, ?_, hcount, fun i hi => ⟨loopCorr_setLoops_zip (chanPhases_nodup s c) ?_ hi, skewStep_bounds _ _ _ _ i⟩,
    .of_mr h.mr, h.units⟩
  · rw [hfrom]
    exact Vector.getElem_set_self c.isLt
  · rw [skewStep_length, List.length_map]

end Sys2Proof.Machine
end

section
/-!
O16: calibration runs (05 R133 to R137). A CAL_RUN is judged by its checks in turn; the end of a run writes what its kind gives, records
the run and takes its work off the list.
-/

namespace Sys2Proof.Machine

/-! CAL_RUN (05 R134, R135). -/

/-- Whether a CAL_RUN payload breaks its form (05 R134). -/
def calRunMalformed (p : List Byte) : Bool :=
  !(decide (fieldAt p 0 1 ≤ 5)) || (if fieldAt p 0 1 = 0 ∨ fieldAt p 0 1 = 5 then fieldAt p 1 1 == 0 else fieldAt p 1 1 != 0)
    || !(allZero (p.drop 2))

section
variable {s : State} {r : Req}

theorem calRunBody_malformed (h : calRunMalformed r.payload = true) : calRunBody r s = fails eParam s := if_pos h

variable (hform : calRunMalformed r.payload = false)
include hform

theorem calRunBody_forbidden (h : s.calMay (fieldAt r.payload 0 1) (selChans r.chsel) = false) : calRunBody r s = fails eState s :=
  (if_neg (ne_true_of_eq_false hform)).trans (if_pos (by rw [h]; rfl))

variable (hmay : s.calMay (fieldAt r.payload 0 1) (selChans r.chsel) = true)
include hmay

theorem calRunBody_permitted : calRunBody r s =
    if (selChans r.chsel).any s.calHeld then fails eBusy s
    else if s.workFull then fails eNores s
    else if combKind (fieldAt r.payload 0 1) && (selChans r.chsel).any (fun c => s.ckey 0x0103 c != 0) then fails eConflict s
    else accepted ((s.uncover r.chsel).addWork r r.chsel (fieldAt r.payload 0 1 + 256 * fieldAt r.payload 1 1)) :=
  (if_neg (ne_true_of_eq_false hform)).trans (if_neg (by rw [hmay]; decide))

theorem calRunBody_held (h : ∃ c ∈ selChans r.chsel, s.calHeld c = true) : calRunBody r s = fails eBusy s :=
  (calRunBody_permitted hform hmay).trans (if_pos (List.any_eq_true.mpr h))

theorem calRunBody_accepts (hfree : ∀ c ∈ selChans r.chsel, s.calHeld c = false) (hroom : s.mr.work.length < 16)
    (hcomb : combKind (fieldAt r.payload 0 1) = true → ∀ c ∈ selChans r.chsel, s.ckey 0x0103 c = 0) :
    calRunBody r s = accepted ((s.uncover r.chsel).addWork r r.chsel (fieldAt r.payload 0 1 + 256 * fieldAt r.payload 1 1)) := by
  have hheld : (selChans r.chsel).any s.calHeld = false := List.any_eq_false.mpr fun c hc => by rw [hfree c hc]; decide
  have hfull : s.workFull = false := decide_eq_false (Nat.not_le.mpr hroom)
  have hconf : (combKind (fieldAt r.payload 0 1) && (selChans r.chsel).any (fun c => s.ckey 0x0103 c != 0)) = false := by
    rw [Bool.and_eq_false_imp]
    exact fun hk => List.any_eq_false.mpr fun c hc => by rw [hcomb hk c hc]; decide
  rw [calRunBody_permitted hform hmay, hheld, hfull, hconf]
  rfl

end

/-! The end of work (02 R49). -/

theorem endWorkIf_work (s : State) (p : Work → Bool) (status detail : Nat) :
    (s.endWorkIf p status detail).mr.work = s.mr.work.eraseP p := by
  unfold State.endWorkIf
  split
  · next hnone =>
    exact (List.eraseP_of_forall_not fun w hw => by simpa using List.find?_eq_none.mp hnone w hw).symm
  · exact congrArg Marrad.work (logEv_quiet (s.modMr _) _ _ _ _).mr

theorem endWorkIf_units (s : State) (p : Work → Bool) (status detail : Nat) : SameUnits s (s.endWorkIf p status detail) := by
  unfold State.endWorkIf
  split
  · exact .refl s
  · exact (logEv_quiet (s.modMr _) _ _ _ _).units

/-! CAL_RUN_END (05 R136). -/

section
variable {s : State} {kind sel ranges : Nat} {r : CalResult}

/-- The working set with a static run's results (05 R136). -/
def State.staticWs (s : State) (kind sel ranges : Nat) (r : CalResult) (w : WorkSet) : WorkSet :=
  { w with
    corrs := itemsPut (if kind == 0 || kind == 5 then
      (r.corrs.filter (fun e => corrWanted sel ranges e.1)).map (fun e => (e.1, ⟨e.2.1, e.2.2⟩)) else []) w.corrs
    delays := if kind == 1 || kind == 5 then itemsPut (r.delays.filter (fun e => s.delayWanted sel e.1)) w.delays else w.delays
    eqs := if kind == 1 || kind == 5 then itemsPut (r.eqs.filter (fun e => s.eqWanted sel e.1)) w.eqs else w.eqs
    fe := if kind == 2 || kind == 5 then itemsPut (r.fe.filter (fun e => s.feWanted sel e.1)) w.fe else w.fe }

/-- Beside the working set the results of a static run move channel corrections alone. -/
theorem staticResults_moves : MovesTrims (s.modWs (s.staticWs kind sel ranges r)) (s.staticResults kind sel ranges r) :=
  .ite (.foldl MovesTrims.jumpRange _ _) (.refl _)

theorem calResults_fails (hk : combKind kind = true) (hr : calOk r = false) : s.calResults kind sel ranges r = (s, eHw, 0) := by
  rw [State.calResults, if_pos hk, if_neg (ne_true_of_eq_false hr)]

theorem calResults_static (hk : combKind kind = true) (hr : calOk r = true) :
    s.calResults kind sel ranges r = (s.staticResults kind sel ranges r, stOk, 100) := by
  rw [State.calResults, if_pos hk, if_pos hr]

/-- An online run is complete when every slice that it must cover is covered. -/
theorem calResults_online (hk : combKind kind = false) : ∃ cover, s.calResults kind sel ranges r
    = (s, if (s.toCover sel).all (s.isCovered kind) then stOk else eDegraded, cover) := by
  unfold State.calResults
  rw [if_neg (ne_true_of_eq_false hk)]
  simp only [List.length_filter_eq_length_iff, List.all_eq_true]
  exact ⟨_, rfl⟩

end

/-- What the end of a run that brings `q` leaves: the results are in force, the run is recorded, its work is gone. -/
structure RunEnded (c : Fin 4) (kind : Nat) (q : State × Nat × Nat) (u : State) : Prop where
  ws : u.cal.ws = q.1.cal.ws
  tw : u.tw = q.1.tw
  status : (u.cal.runs[kind % 6]'(Nat.mod_lt _ (by decide))).status = q.2.1
  cover : (u.cal.runs[kind % 6]'(Nat.mod_lt _ (by decide))).cover = q.2.2
  work : u.mr.work = q.1.mr.work.eraseP (Work.calOf c)
  units : SameUnits { q.1 with tw := u.tw, cal := u.cal } u

/-- The last run of a kind is recorded. -/
def State.recordRun (s : State) (kind : Nat) (run : RunRec) : State :=
  s.modCal (fun d => { d with runs := d.runs.set (kind % 6) run (Nat.mod_lt _ (by decide)) })

theorem recordRun_ends {q : State × Nat × Nat} {run : RunRec} (hstatus : run.status = q.2.1) (hcover : run.cover = q.2.2)
    (c : Fin 4) (kind sel detail : Nat) :
    RunEnded c kind q (((q.1.recordRun kind run).uncover sel).endWorkIf (Work.calOf c) q.2.1 detail) := by
  obtain ⟨hfe, htw, hcal, hrest⟩ := endWorkIf_units ((q.1.recordRun kind run).uncover sel) (Work.calOf c) q.2.1 detail
  have hrun : (((q.1.recordRun kind run).uncover sel).endWorkIf (Work.calOf c) q.2.1 detail).cal.runs[kind % 6]'(Nat.mod_lt _ (by decide))
      = run := by
    simp only [hcal]
    exact Vector.getElem_set_self _
  refine ⟨?_, htw, by rw [hrun, hstatus], by rw [hrun, hcover], endWorkIf_work _ _ _ _, ⟨hfe, rfl, rfl, hrest⟩⟩
  rw [hcal]
  rfl

section
variable {s : State} {c : Fin 4} {r : CalResult} {w : Work} (hw : s.mr.work.find? (Work.calOf c) = some w)
include hw

theorem calRunEnd_ends (hend : r.final = true ∨ combKind (w.arg2 % 256) = true) (hfits : w.arg2 % 256 = 3 → r.fits = []) :
    RunEnded c (w.arg2 % 256) (s.calResults (w.arg2 % 256) w.arg (w.arg2 / 256) r) (s.calRunEnd c r) := by
  have hfold : (if w.arg2 % 256 = 3 then r.fits.foldl (fun a f => a.enterFit w.arg f) s else s) = s := by
    split
    · next h3 => rw [hfits h3, List.foldl_nil]
    · rfl
  have hdone : (!r.final && !(combKind (w.arg2 % 256))) = false := by
    rcases hend with h | h <;> simp [h]
  unfold State.calRunEnd
  rw [hw]
  dsimp only
  rw [hfold, hdone, if_neg (by decide)]
  exact recordRun_ends rfl rfl c _ _ _

/-- Before its end only a run of kind 3 does anything in this row. -/
theorem calRunEnd_goesOn (hfinal : r.final = false) (hk : combKind (w.arg2 % 256) = false) :
    s.calRunEnd c r = if w.arg2 % 256 = 3 then r.fits.foldl (fun a f => a.enterFit w.arg f) s else s := by
  unfold State.calRunEnd
  rw [hw]
  dsimp only
  rw [hfinal, hk]
  rfl

end

/-! SLICE_ONLINE (05 R134, R136). -/

section
variable {s : State} {f : SliceFit} {k : Fin 4} {x : Fin 33}

/-- The true gain trim that a fit gives. -/
def State.fitGain (s : State) (k : Fin 4) (x : Fin 33) (f : SliceFit) : Int :=
  if fitGains f then clampInt (-512) 511 f.gain else (s.slice k x).tGain

/-- A measured slice has its new true trims and counts as covered. -/
def State.putFit (s : State) (k : Fin 4) (x : Fin 33) (f : SliceFit) : State :=
  (s.modSlice k x (fun v => { v with tOfs := clampInt (-2048) 2047 f.ofs, tGain := s.fitGain k x f })).modCal (fun c => { c with
    covered := itemPut f.slice ((clampInt (-2048) 2047 f.ofs - (s.slice k x).tOfs).natAbs : Int) c.covered })

/-- The present trims ramp to them. -/
theorem enterFit_moves {sel : Nat} (hfind : (s.toCover sel).find? (fun e => sliceKey e.1 e.2 == f.slice) = some (k, x))
    (hdone : fitDone f = true) (hon : s.towerOn k = true) : MovesTrims (s.putFit k x f) (s.enterFit sel f) := by
  unfold State.enterFit
  rw [hfind]
  dsimp only
  rw [hdone, hon, if_neg (by decide)]
  exact (MovesTrims.rampTo _ (.ofs k x) _ _).trans (.rampTo _ (.gain k x) _ _)

theorem putFit_tOfs : ((s.putFit k x f).slice k x).tOfs = clampInt (-2048) 2047 f.ofs := by
  simp [State.putFit, State.slice, State.modSlice]

theorem putFit_tGain : ((s.putFit k x f).slice k x).tGain = s.fitGain k x f := by simp [State.putFit, State.slice, State.modSlice]

end

/-! CAL_STATUS (05 R137). -/

theorem length_flatMap_const {α β : Type} {f : α → List β} {n : Nat} (h : ∀ x, (f x).length = n) (l : List α) :
    (l.flatMap f).length = n * l.length := by
  induction l with
  | nil => rfl
  | cons x xs ih => rw [List.flatMap_cons, List.length_append, h, ih, List.length_cons, Nat.mul_succ, Nat.add_comm]

theorem calStatus_length (s : State) (c : Fin 4) : (s.calStatus c).length = 136 := by
  unfold State.calStatus
  dsimp only
  rw [List.length_append, length_flatMap_const (n := 16), Vector.length_toList]
  · simp only [List.length_append, leBytes_length]
  · exact fun r => by simp only [List.length_append, leBytes_length, List.length_singleton]

/-- Settles O16: the checks of CAL_RUN in turn, and the end of a run by what its kind gives. -/
theorem calibrationRuns : Obligations.CalibrationRuns := by
  refine ⟨fun s t m hr => ⟨fun hbad => ?_, fun hform hmay => ?_, fun hform hmay hheld => ?_, fun hform hmay hfree hroom hcomb => ?_⟩,
    fun s t c r hnone => ?_, fun s t kind _ c r w hw hkind => ?_, fun s t m hr => ?_⟩
  · exact command_fails hr (calRunBody_malformed hbad)
  · exact command_fails hr (calRunBody_forbidden hform hmay)
  · exact command_fails hr (calRunBody_held hform hmay hheld)
  · refine (command_replies hr (calRunBody_accepts (s := s.reach t) hform hmay hfree hroom hcomb) rfl).mono ?_
    rintro u ⟨hreply, ⟨hfe, htw, hcal, hrest⟩, -, -, -, -, hwork⟩
    refine ⟨hreply, ⟨hfe, htw, ?_, hrest⟩, hwork⟩
    rw [hcal]
    rfl
  · refine congrArg go ?_
    unfold State.calRunEnd
    rw [State.reach_mr, hnone]
  · subst hkind
    have hends := calRunEnd_ends (s := s.reach t) (r := r) hw
    have hgoes := calRunEnd_goesOn (s := s.reach t) (r := r) hw
    refine ⟨fun hk hbad => ?_, fun hk hok => ?_, fun hk hfinal hfits => ?_, fun h4 hfinal => ?_,
      fun h3 hfinal f k x hfits hfind hdone hon => ?_⟩
    · have h := hends (.inr hk) (fun h3 => absurd hk (by rw [h3]; decide))
      rw [calResults_fails hk hbad] at h
      exact ⟨_, rfl, h.ws, h.status, h.cover, h.tw, h.work, h.units⟩
    · have h := hends (.inr hk) (fun h3 => absurd hk (by rw [h3]; decide))
      rw [calResults_static hk hok] at h
      have hmoves := staticResults_moves (s := s.reach t) (kind := w.arg2 % 256) (sel := w.arg) (ranges := w.arg2 / 256) (r := r)
      have hws := h.ws.trans hmoves.ws
      have hwork := h.work.trans (congrArg (fun l : Marrad => l.work.eraseP (Work.calOf c)) hmoves.mr)
      refine ⟨_, rfl, h.status, h.cover, ⟨hwork, hmoves.units.trans_beside h.units⟩, fun h0 => ?_, fun h1 => ?_, fun h2 => ?_⟩
      · rw [hws, h0]
        rfl
      · rw [hws, h1]
        rfl
      · rw [hws, h2]
        rfl
    · have h := hends (.inl hfinal) (fun _ => hfits)
      obtain ⟨cover, hq⟩ := calResults_online (s := s.reach t) (sel := w.arg) (ranges := w.arg2 / 256) (r := r) hk
      rw [hq] at h
      exact ⟨_, rfl, ⟨h.work, h.units⟩, h.status⟩
    · exact congrArg go ((hgoes hfinal (by rw [h4]; decide)).trans (if_neg (by rw [h4]; decide)))
    · have hgo := (hgoes hfinal (by rw [h3]; decide)).trans (if_pos h3)
      rw [hfits, List.foldl_cons, List.foldl_nil] at hgo
      have hmoves := enterFit_moves (s := s.reach t) hfind hdone hon
      exact ⟨_, congrArg go hgo, (hmoves.tOfs k x).trans putFit_tOfs, (hmoves.tGain k x).trans putFit_tGain,
        congrArg Marrad.work hmoves.mr, hmoves.units⟩
  · refine (command_replies hr (p := (s.reach t).calStatus _) rfl rfl).mono ?_
    exact fun u ⟨hreply, hunits, hset⟩ => ⟨⟨_, hreply, calStatus_length _ _, rfl⟩, hunits, hset⟩

end Sys2Proof.Machine
end

section
/-!
O17: LOAD_CURVE and the banks (05 R128 to R130, R141, R142, R144). A loaded item is in force or pending; a store writes the bank that is
not active and makes it active; a revert brings a bank's working set into force, which moves trims alone beside it.
-/

namespace Sys2Proof.Machine

/-! LOAD_CURVE (05 R128 to R130). -/

/-- A failed bulk read leaves units and command interface (02 R42, R45). -/
theorem failsRead_quiet (r : Req) (s : State) : ∃ q x, failsRead r s = (.reply ⟨eHw, [], none, 0, q⟩, x) ∧ Quiet s x := by
  unfold failsRead
  split
  · exact ⟨_, _, rfl, .refl s⟩
  · exact ⟨_, _, rfl, logEv_quiet s _ _ _ _⟩

/-- Whether a table that LOAD_CURVE read is valid (05 R127; 04 R109). -/
def tableValid (p bs : List Byte) : Bool := if fieldAt p 0 1 = 1 then eqValid (eqOf bs) else curveValid (curveOf bs)

theorem tableValid_eq {p : List Byte} (h : fieldAt p 0 1 = 1) (bs : List Byte) : tableValid p bs = eqValid (eqOf bs) := if_pos h

theorem tableValid_curve {p : List Byte} (h : fieldAt p 0 1 = 0) (bs : List Byte) : tableValid p bs = curveValid (curveOf bs) :=
  if_neg (by rw [h]; decide)

section
variable {s : State} {r : Req} {b : Bulk} {bs : List Byte}

theorem loadCurveBody_malformed (h : curveForm (s.selTowers r.chsel).length r.payload = false) : loadCurveBody b r s = fails eParam s :=
  if_pos (by rw [h]; rfl)

variable (hform : curveForm (s.selTowers r.chsel).length r.payload = true)
include hform

theorem loadCurveBody_unread (hfree : s.calHeld ((selChans r.chsel).headD 0) = false) : loadCurveBody none r s = failsRead r s := by
  unfold loadCurveBody
  dsimp only
  rw [hform, hfree]
  rfl

variable (hbs : bulkBytes r.payload 8 b = some bs)
include hbs

theorem loadCurveBody_read : loadCurveBody b r s =
    if !(tableValid r.payload bs) then fails eParam s
    else if s.calHeld ((selChans r.chsel).headD 0) then fails eBusy s
    else
      let q := if fieldAt r.payload 0 1 == 1 then s.loadEq ((selChans r.chsel).headD 0) (fieldAt r.payload 4 2) (eqOf bs)
        else s.loadCurve ((selChans r.chsel).headD 0) ((s.selTowers r.chsel).getD (fieldAt r.payload 1 1) 0)
          (Fin.ofNat 33 (fieldAt r.payload 2 1)) (curveOf bs)
      answers (leBytes 1 q.1 ++ List.replicate 7 0#8) q.2 := by
  unfold loadCurveBody tableValid
  dsimp only
  rw [hform, hbs]
  by_cases h : fieldAt r.payload 0 1 = 1 <;> simp [h]

theorem loadCurveBody_invalid (hval : tableValid r.payload bs = false) : loadCurveBody b r s = fails eParam s :=
  (loadCurveBody_read hform hbs).trans (if_pos (by rw [hval]; rfl))

variable (hval : tableValid r.payload bs = true)
include hval

theorem loadCurveBody_held (hheld : s.calHeld ((selChans r.chsel).headD 0) = true) : loadCurveBody b r s = fails eBusy s :=
  (loadCurveBody_read hform hbs).trans ((if_neg (by rw [hval]; decide)).trans (if_pos hheld))

variable (hfree : s.calHeld ((selChans r.chsel).headD 0) = false)
include hfree

theorem loadCurveBody_eq (htab : fieldAt r.payload 0 1 = 1) {q : Nat × State}
    (hq : s.loadEq ((selChans r.chsel).headD 0) (fieldAt r.payload 4 2) (eqOf bs) = q) :
    loadCurveBody b r s = answers (leBytes 1 q.1 ++ List.replicate 7 0#8) q.2 := by
  rw [loadCurveBody_read hform hbs, hval, hfree, htab, ← hq]
  rfl

theorem loadCurveBody_curve (htab : fieldAt r.payload 0 1 = 0) {q : Nat × State}
    (hq : s.loadCurve ((selChans r.chsel).headD 0) ((s.selTowers r.chsel).getD (fieldAt r.payload 1 1) 0)
      (Fin.ofNat 33 (fieldAt r.payload 2 1)) (curveOf bs) = q) :
    loadCurveBody b r s = answers (leBytes 1 q.1 ++ List.replicate 7 0#8) q.2 := by
  rw [loadCurveBody_read hform hbs, hval, hfree, htab, ← hq]
  rfl

end

/-- A curve that is not made to wait is in force at once; a graft that is being prepared begins again (05 R130). -/
theorem loadCurve_takes {s : State} {c k : Fin 4} {x : Fin 33} (h : (s.curveActive k x && s.running c) = false) (v : List Int) :
    ∃ u, s.loadCurve c k x v = (0, u) ∧ MovesTrims (s.putCurve k x v) u :=
  ⟨_, if_neg (ne_true_of_eq_false h), .ite (.modTw _ _ fun _ => rfl) (.refl _)⟩

/-! Banks (05 R138 to R142). -/

section
variable {c : Cal} {b a : Fin 2} {v : Bank}

theorem setBank_same : (c.setBank b v).bank b = v := by
  unfold Cal.setBank Cal.bank
  split <;> rfl

theorem setBank_other (h : a ≠ b) : (c.setBank b v).bank a = c.bank a := by
  have hab : a = 0 ∧ b ≠ 0 ∨ a ≠ 0 ∧ b = 0 := by omega
  rcases hab with ⟨rfl, hb⟩ | ⟨ha, rfl⟩
  · rw [Cal.setBank, if_neg hb]
    rfl
  · rw [Cal.setBank, if_pos rfl, Cal.bank, Cal.bank, if_neg ha, if_neg ha]

theorem setBank_ws : (c.setBank b v).ws = c.ws := by
  unfold Cal.setBank
  split <;> rfl

theorem setBank_active : (c.setBank b v).active = c.active := by
  unfold Cal.setBank
  split <;> rfl

theorem ne_inactive (h : c.active = some a) : a ≠ c.inactive := by
  unfold Cal.inactive
  rw [h]
  clear h
  revert a
  decide

end

/-! CAL_COMMIT (05 R141, R142). -/

section
variable {s : State} {r : Req}

/-- The store begins: the bank that is not active is erased, and the working set is kept to be stored. -/
def State.beginStore (s : State) (r : Req) : State :=
  (s.addWork r 0 0).modCal (fun c => { (c.setBank s.cal.inactive (s.cal.bank s.cal.inactive).erased) with
    storing := some (s.cal.inactive, s.workSet, s.ticks) })

theorem calCommitBody_busy (h : s.working 0x0203 = true) : calCommitBody r s = fails eBusy s := if_pos (by rw [h]; rfl)

theorem calCommitBody_accepts (hstore : s.working 0x0203 = false) (hstage : s.working 0x0901 = false) (hroom : s.mr.work.length < 16)
    (hseq : s.cal.seq < 0xFFFFFFFF) : calCommitBody r s = accepted (s.beginStore r) := by
  have hfull : s.workFull = false := decide_eq_false (Nat.not_le.mpr hroom)
  unfold calCommitBody
  rw [hstore, hstage, hfull, decide_eq_false (Nat.not_le.mpr hseq)]
  rfl

end

/-! CAL_STORE_COMPLETION (05 R141). -/

section
variable {s : State} {b : Fin 2} {w : WorkSet} {at_ : Nat} (h : s.cal.storing = some (b, w, at_))
include h

theorem storeDone_stores : (s.storeDone true).cal
      = { s.cal.setBank b (storedBank (s.cal.seq + 1) at_ s.fw.bootCount w) with active := some b, storing := none }
    ∧ SameUnits { s with cal := (s.storeDone true).cal, fw := (s.storeDone true).fw } (s.storeDone true) := by
  unfold State.storeDone
  rw [h]
  dsimp only
  rw [if_pos rfl]
  obtain ⟨hfe, htw, hcal, hck, htm, hch, hevq, htr, hmem, hhv, hout, hmon, -, hpins⟩ :=
    (logEv_quiet (State.extendCal _) 0x0304 sevNotice 0 (bankData b 0 (s.cal.seq + 1))).units.trans (endWorkIf_units _ _ stOk 0)
  exact ⟨hcal, hfe, htw, rfl, hck, htm, hch, hevq, htr, hmem, hhv, hout, hmon, rfl, hpins⟩

theorem storeDone_fails : (s.storeDone false).cal = { s.cal with storing := none }
    ∧ SameUnits { s with cal := (s.storeDone false).cal } (s.storeDone false) := by
  unfold State.storeDone
  rw [h]
  dsimp only
  rw [if_neg (by decide)]
  obtain ⟨hfe, htw, hcal, hrest⟩ := (logEv_quiet (s.modCal fun c => { c with storing := none }) 0x0305 sevError 0
    (bankData b 0 (s.cal.seq + 1))).units.trans (endWorkIf_units _ _ eHw 0)
  exact ⟨hcal, hfe, htw, rfl, hrest⟩

end

/-! CAL_REVERT (05 R144). -/

/-- The calibration once a working set is taken: its items are in force, or wait. -/
def State.wsTaken (s : State) (d : WorkSet) : State :=
  let cv := splitItems s.curveWaits s.cal.ws.curve d.curve s.cal.ws.curves d.curves
  let eq := splitItems s.eqWaits s.cal.ws.eq d.eq s.cal.ws.eqs d.eqs
  let dl := splitItems s.delayWaits s.cal.ws.delay d.delay s.cal.ws.delays d.delays
  let fe := splitItems s.feWaits s.cal.ws.feDelay d.feDelay s.cal.ws.fe d.fe
  s.modCal (fun c => { c with
    ws := { d with curves := cv.1, eqs := eq.1, delays := dl.1, fe := fe.1 }, wsHist := (s.clk, s.cal.ws) :: c.wsHist, metLoop := []
    pendCurves := cv.2, pendEqs := eq.2, pendDelays := dl.2, pendFe := fe.2 })

/-- What a taken working set does beside: trims and channel corrections move, grafts begin again (05 R130, R132, R147). -/
theorem takeWs_moves (s : State) (d : WorkSet) : MovesTrims (s.wsTaken d) (s.takeWs d) := by
  unfold State.takeWs
  refine ((MovesTrims.foldl (fun a k => .foldl (fun a x => ?_) _ _) _ _).trans (.foldl (fun a k => ?_) _ _)).trans
    (.foldl (fun a i => .ite (.rampRange _ _ _) (.jumpRange _ _)) _ _)
  · dsimp only
    have haper := MovesTrims.modSlice a k x (f := fun v => { v with aper := itemAt d.aper (sliceKey k x) }) fun _ => rfl
    split
    · exact haper
    · exact haper.trans (.ite (.retime _ _ _ _ _) (.timeNow _ _ _ _))
  · split
    · exact .refl _
    · exact .ite (.modTw _ _ fun _ => rfl) (.refl _)

theorem splitItems_idle {α : Type} [DecidableEq α] {waits : Nat → Bool} (h : ∀ k, waits k = false) (old new : Nat → α)
    (l m : List (Nat × α)) : splitItems waits old new l m = (m, []) := by
  have hks : (itemKeys l m).filter (fun k => waits k && decide (old k ≠ new k)) = [] :=
    List.filter_eq_nil_iff.mpr fun k _ => by rw [h, Bool.false_and]; decide
  unfold splitItems
  dsimp only
  rw [hks]
  rfl

/-- While no channel runs nothing waits (05 R147). -/
theorem wsTaken_stopped {s : State} (h : ∀ c, s.running c = false) (d : WorkSet) : (s.wsTaken d).cal =
    { s.cal with ws := d, wsHist := (s.clk, s.cal.ws) :: s.cal.wsHist, metLoop := [], pendCurves := [], pendEqs := [], pendDelays := [],
                 pendFe := [] } := by
  unfold State.wsTaken
  rw [splitItems_idle (fun k => by simp [State.curveWaits, State.towerRuns, h]),
    splitItems_idle (fun k => by simp [State.eqWaits, State.towerRuns, h]),
    splitItems_idle (fun k => by simp [State.delayWaits, State.towerRuns, h]),
    splitItems_idle (fun k => by simp [State.feWaits, h])]
  rfl

/-- A working set `d` of bank `b` is taken, measured and logged. -/
def State.revertTo (s : State) (d : WorkSet) (b : Fin 2) : State :=
  (s.takeWs d).extendCal.logEv 0x0306 sevNotice 0 (bankData b 0 (s.cal.bank b).seq)

/-- The calibration `e` that a revert leaves of `c`: the working set in force, nothing pending, the banks as they were. -/
structure Reverted (c : Cal) (d : WorkSet) (e : Cal) : Prop where
  ws : e.ws = d
  active : e.active = c.active
  bank : ∀ b, e.bank b = c.bank b
  pending : e.pendCurves = [] ∧ e.pendEqs = [] ∧ e.pendDelays = [] ∧ e.pendFe = []

theorem Reverted.of_books {c e e' : Cal} {d : WorkSet} (h : Reverted c d e) (hb : e'.books = e.books) : Reverted c d e' where
  ws := (congrArg Cal.ws hb).trans h.ws
  active := (congrArg Cal.active hb).trans h.active
  bank b := (congrArg (fun x : Cal => x.bank b) hb).trans (h.bank b)
  pending := by
    obtain ⟨hcurves, heqs, hdelays, hfe⟩ := h.pending
    exact ⟨(congrArg Cal.pendCurves hb).trans hcurves, (congrArg Cal.pendEqs hb).trans heqs,
      (congrArg Cal.pendDelays hb).trans hdelays, (congrArg Cal.pendFe hb).trans hfe⟩

section
variable (s : State) (d : WorkSet) (b : Fin 2)

/-- The measurement register and the log are beside the calibration. -/
theorem revertTo_quiet : Quiet (s.takeWs d).extendCal (s.revertTo d b) := logEv_quiet _ _ _ _ _

theorem revertTo_clk : (s.revertTo d b).clk = s.clk := (revertTo_quiet s d b).clk.trans (takeWs_moves s d).clk

theorem revertTo_mr : (s.revertTo d b).mr = s.mr := (revertTo_quiet s d b).mr.trans (takeWs_moves s d).mr

theorem revertTo_stopped {s : State} (h : ∀ c, s.running c = false) : Reverted s.cal d (s.revertTo d b).cal := by
  have htaken : Reverted s.cal d (s.wsTaken d).cal := by
    rw [wsTaken_stopped h]
    exact ⟨rfl, rfl, fun _ => rfl, rfl, rfl, rfl, rfl⟩
  exact htaken.of_books ((congrArg Cal.books (revertTo_quiet s d b).cal).trans (takeWs_moves s d).books)

end

section
variable {s : State} {r : Req} {a : Fin 2} (hzero : allZero (r.payload.drop 1) = true) (hstore : s.working 0x0203 = false)
  (hrun : s.working 0x0201 = false) (hstage : s.working 0x0901 = false) (hact : s.cal.active = some a) (hseq : s.cal.seq < 0xFFFFFFFF)
include hzero hstore hrun hstage hact hseq

theorem calRevertBody_active (hsrc : fieldAt r.payload 0 1 = 0) :
    calRevertBody r s = answers [] (s.revertTo (s.cal.bank a).data a) := by
  unfold calRevertBody
  dsimp only
  rw [hsrc, hzero, hstore, hrun, hstage, hact, if_neg (Nat.not_le.mpr hseq)]
  rfl

theorem calRevertBody_other (hsrc : fieldAt r.payload 0 1 = 1) (hvalid : (s.cal.bank s.cal.inactive).valid = true) :
    calRevertBody r s = answers [] ((s.rewriteRecord s.cal.inactive).revertTo (s.cal.bank s.cal.inactive).data s.cal.inactive) := by
  unfold calRevertBody
  dsimp only
  rw [hsrc, hzero, hstore, hrun, hstage, hvalid, if_neg (Nat.not_le.mpr hseq), hact]
  rfl

end

theorem rewriteRecord_active (s : State) (b : Fin 2) : (s.rewriteRecord b).cal.active = some b := rfl

theorem rewriteRecord_seq (s : State) (b : Fin 2) : ((s.rewriteRecord b).cal.bank b).seq = s.cal.seq + 1 := by
  have h : (s.rewriteRecord b).cal.bank b = _ := setBank_same
  rw [h]
  rfl

/-- A ready command whose own part reverts to working set `d` from a state in which no channel runs. -/
theorem command_reverts {s s1 : State} {t : Nat} {m : Fin 17} {code : Nat} {lenOk : Req → Bool} {body : Body} {d : WorkSet} {b : Fin 2}
    (hr : Ready s t m code lenOk) (hb : body (s.reqOf m) (s.reach t) = answers [] (s1.revertTo d b)) (hclk : s1.clk = (s.reach t).clk)
    (hmr : s1.mr = s.mr) (hstop : ∀ c, s1.running c = false) :
    Leads (go (s.command t m code lenOk body)) (fun u => Replied u m stOk [] ∧ Reverted s1.cal d u.cal ∧ SameSettings s u) := by
  refine (command_cal hr hb ((revertTo_clk _ _ _).trans hclk)).mono ?_
  rintro u ⟨hreply, hcal, hset⟩
  refine ⟨hreply, ?_, (SameSettings.of_mr ((revertTo_mr _ _ _).trans hmr)).trans hset⟩
  rw [hcal]
  exact revertTo_stopped d b hstop

/-- Settles O17: each command by what its own part answers, and the end of a store by the bank that it writes. -/
theorem curvesAndBanks : Obligations.CurvesAndBanks := by
  refine ⟨fun s t m b hr => ⟨fun hform => ?_, fun hform hfree hnone => ?_, fun hform htab hfree bs hbs => ⟨fun hval => ?_,
      fun hval hrun => ?_, fun hval hrun => ?_⟩, fun hform htab bs hbs => ⟨fun hval => ?_, fun hval hheld => ?_,
      fun hval hfree => ⟨fun hwaits => ?_, fun hwaits => ?_⟩⟩⟩,
    fun s t m hr => ⟨fun hbusy => ?_, fun hstore hstage hroom hseq => ?_⟩, fun s t ok hnone => ?_,
    fun s t at_ b w hst => ⟨?_, ?_⟩,
    fun s t m a hr hzero hstore hrun hstage hstop hact => ⟨fun hsrc hseq => ?_, fun hsrc hvalid hseq => ?_⟩⟩
  -- LOAD_CURVE
  · exact command_fails hr (loadCurveBody_malformed hform)
  · subst hnone
    obtain ⟨q, x, hread, hquiet⟩ := failsRead_quiet (s.reqOf m) (s.reach t)
    refine (command_replies hr ((loadCurveBody_unread (s := s.reach t) hform hfree).trans hread) hquiet.clk).mono ?_
    exact fun u ⟨hreply, hunits, hset⟩ => ⟨hreply, hquiet.units.trans hunits, hquiet.settings.trans hset⟩
  · exact command_fails hr (loadCurveBody_invalid (s := s.reach t) hform hbs ((tableValid_eq htab bs).trans hval))
  · refine (command_cal hr (loadCurveBody_eq (s := s.reach t) hform hbs ((tableValid_eq htab bs).trans hval) hfree htab (if_pos hrun))
      rfl).mono ?_
    exact fun u ⟨hreply, hcal, _⟩ => ⟨hreply, (congrArg Cal.ws hcal :), (congrArg Cal.pendEqs hcal :)⟩
  · refine (command_cal hr (loadCurveBody_eq (s := s.reach t) hform hbs ((tableValid_eq htab bs).trans hval) hfree htab
      (if_neg (ne_true_of_eq_false hrun))) rfl).mono ?_
    exact fun u ⟨hreply, hcal, _⟩ => ⟨hreply, congrArg Cal.ws hcal⟩
  · exact command_fails hr (loadCurveBody_invalid (s := s.reach t) hform hbs ((tableValid_curve htab bs).trans hval))
  · exact command_fails hr (loadCurveBody_held (s := s.reach t) hform hbs ((tableValid_curve htab bs).trans hval) hheld)
  · obtain ⟨x, hload, hmoves⟩ := loadCurve_takes (s := s.reach t) hwaits (curveOf bs)
    refine (command_cal hr (loadCurveBody_curve (s := s.reach t) hform hbs ((tableValid_curve htab bs).trans hval) hfree htab hload)
      hmoves.clk).mono ?_
    exact fun u ⟨hreply, hcal, hset⟩ => ⟨hreply, (congrArg Cal.ws hcal).trans hmoves.ws, (SameSettings.of_mr hmoves.mr).trans hset⟩
  · refine (command_cal hr (loadCurveBody_curve (s := s.reach t) hform hbs ((tableValid_curve htab bs).trans hval) hfree htab
      (if_pos hwaits)) rfl).mono ?_
    exact fun u ⟨hreply, hcal, hset⟩ => ⟨(congrArg Cal.ws hcal :), hset, hreply, (congrArg Cal.pendCurves hcal :)⟩
  -- CAL_COMMIT
  · exact command_fails hr (calCommitBody_busy hbusy)
  · refine (command_replies hr (calCommitBody_accepts (s := s.reach t) hstore hstage hroom hseq) rfl).mono ?_
    rintro u ⟨hreply, ⟨hfe, htw, hcal, hrest⟩, -⟩
    have hbank (i : Fin 2) : u.cal.bank i = (s.cal.setBank s.cal.inactive (s.cal.bank s.cal.inactive).erased).bank i := by
      rw [hcal]
      rfl
    refine ⟨hreply, ?_, ?_, ?_, fun a ha => ?_, ?_, hfe, htw, rfl, hrest⟩
    · rw [hbank, setBank_same, erased_invalid]
    · rw [hcal]
      rfl
    · rw [hcal]
      exact setBank_active
    · rw [hbank, setBank_other (ne_inactive ha)]
    · rw [hcal]
      exact setBank_ws
  -- CAL_STORE_COMPLETION
  · refine congrArg go ?_
    unfold State.storeDone
    rw [State.reach_cal, hnone]
  · obtain ⟨hcal, hunits⟩ := storeDone_stores (s := s.reach t) hst
    have hbank : ((s.reach t).storeDone true).cal.bank b = storedBank (s.cal.seq + 1) at_ s.fw.bootCount w := by
      rw [hcal]
      exact setBank_same
    refine ⟨_, rfl, ?_, ?_, ?_, ?_, ?_, ?_, ?_, hunits⟩
    · rw [hcal]
    · rw [hcal]
    · rw [hbank, storedBank_valid]
    · rw [hbank, storedBank_seq]
    · rw [hbank, storedBank_data]
    · rw [hbank]
      rfl
    · rw [hcal]
      exact setBank_ws
  · obtain ⟨hcal, hunits⟩ := storeDone_fails (s := s.reach t) hst
    exact ⟨_, rfl, hcal, hunits⟩
  -- CAL_REVERT
  · refine (command_reverts hr (calRevertBody_active (s := s.reach t) hzero hstore hrun hstage hact hseq hsrc) rfl rfl hstop).mono ?_
    exact fun u ⟨hreply, hrev, hset⟩ => ⟨hreply, hrev.ws, hrev.active.trans hact, hrev.pending, hset⟩
  · refine (command_reverts hr (calRevertBody_other (s := s.reach t) hzero hstore hrun hstage hact hseq hsrc hvalid)
      rfl rfl hstop).mono ?_
    exact fun u ⟨hreply, hrev, hset⟩ => ⟨hreply, hrev.ws, hrev.active, (congrArg Bank.seq (hrev.bank _)).trans (rewriteRecord_seq _ _),
      hrev.pending, hset⟩

end Sys2Proof.Machine
end

section
/-!
SUPPORT. What the clock (06) touches: the frame of a row that changes clock and time alone, the fields that the discipline states write,
and the quality bits that follow them.
-/

namespace Sys2Proof.Machine

theorem SameUnits.ck {s u : State} (h : SameUnits s u) : u.ck = s.ck := by
  obtain ⟨-, -, -, hck, -⟩ := h
  exact hck

theorem SameUnits.tm {s u : State} (h : SameUnits s u) : u.tm = s.tm := by
  obtain ⟨-, -, -, -, htm, -⟩ := h
  exact htm

/-- Of the instant, the units, the command under execution and the recorded values at most clock and time, as units, differ. -/
structure OnlyClock (s u : State) : Prop where
  clk : u.clk = s.clk
  units : SameUnits { s with ck := u.ck, tm := u.tm } u
  exec : u.mr.exec = s.mr.exec
  recorded : u.mr.recorded = s.mr.recorded

namespace OnlyClock
variable {s u v : State}

theorem refl : OnlyClock s s := ⟨rfl, .refl s, rfl, rfl⟩

theorem trans (h : OnlyClock s u) (k : OnlyClock u v) : OnlyClock s v where
  clk := k.clk.trans h.clk
  units := by
    obtain ⟨hfe, htw, hcal, -, -, hrest⟩ := h.units
    exact SameUnits.trans (u := { u with ck := v.ck, tm := v.tm }) ⟨hfe, htw, hcal, rfl, rfl, hrest⟩ k.units
  exec := k.exec.trans h.exec
  recorded := k.recorded.trans h.recorded

theorem of_quiet (h : Quiet s u) : OnlyClock s u := by
  obtain ⟨hfe, htw, hcal, -, -, hrest⟩ := h.units
  exact ⟨h.clk, ⟨hfe, htw, hcal, rfl, rfl, hrest⟩, by rw [h.mr], by rw [h.mr]⟩

theorem fw (h : OnlyClock s u) : u.fw = s.fw := h.units.fw

/-- Settings read as before. -/
theorem mkey (h : OnlyClock s u) (k : Nat) : u.mkey k = s.mkey k := by rw [State.mkey, State.key, h.recorded]; rfl

theorem modCk {g : Clock → Clock} (h : OnlyClock s u) : OnlyClock s (u.modCk g) := h.trans ⟨rfl, .refl _, rfl, rfl⟩

theorem modTm {g : Time → Time} (h : OnlyClock s u) : OnlyClock s (u.modTm g) := h.trans ⟨rfl, .refl _, rfl, rfl⟩

theorem ite {c : Prop} {i : Decidable c} (hu : OnlyClock s u) (hv : OnlyClock s v) : OnlyClock s (if c then u else v) := by
  split
  · exact hu
  · exact hv

theorem quiet (h : OnlyClock s u) (q : Quiet u v) : OnlyClock s v := h.trans (of_quiet q)

theorem logEv {code sev scope : Nat} {data : List Byte} (h : OnlyClock s u) : OnlyClock s (u.logEv code sev scope data) :=
  h.quiet (logEv_quiet _ _ _ _ _)

theorem ckEvent {code sev b : Nat} {v : Int} (h : OnlyClock s u) : OnlyClock s (u.ckEvent code sev b v) := .logEv h

theorem endWorkIf {p : Work → Bool} {status detail : Nat} (h : OnlyClock s u) : OnlyClock s (u.endWorkIf p status detail) := by
  refine h.trans ?_
  unfold State.endWorkIf
  split
  · exact refl
  · have hwork : OnlyClock u (u.modMr fun m => { m with work := m.work.eraseP p }) := ⟨rfl, .refl _, rfl, rfl⟩
    exact (OnlyClock.logEv hwork).quiet (modPw_quiet _ _)

theorem applyQualAt {b : Nat} {stepped : Bool} (h : OnlyClock s u) : OnlyClock s (u.applyQualAt b stepped) := by
  have h1 : OnlyClock s ((u.setQualAt b (u.wantQual stepped)).modTm fun m => { m with stepped := stepped }) :=
    .modTm (.ite h (.modTm h))
  exact .ite (.modCk h1) h1

theorem setDisc {d : Nat} (h : OnlyClock s u) : OnlyClock s (u.setDisc d) := .applyQualAt (.modCk h)

theorem enterLocked (h : OnlyClock s u) : OnlyClock s u.enterLocked := .endWorkIf (.modCk (.ckEvent (.setDisc h)))

theorem loseLock {gate : Nat} (h : OnlyClock s u) : OnlyClock s (u.loseLock gate) := by
  unfold State.loseLock
  extract_lets s1 s2
  have h2 : OnlyClock s s2 := .ite (.setDisc (.modCk h)) (.modCk h)
  exact .endWorkIf (.modCk (.ite (.modTm h2) h2))

theorem takeError {e : Int} (h : OnlyClock s u) : OnlyClock s (u.takeError e) := by
  unfold State.takeError
  exact .modCk h

theorem gainLock {e : Int} (h : OnlyClock s u) : OnlyClock s (u.gainLock e) := by
  unfold State.gainLock
  extract_lets s1 _ s2 s3 s4
  have h2 : OnlyClock s s2 := .modCk (.takeError h)
  have h4 : OnlyClock s s4 := .ckEvent (.ite h2 (.setDisc h2))
  exact .ite (.enterLocked h4) h4

end OnlyClock

/-! What the discipline states write of the clock (06 R157). -/

section
variable (s : State)

theorem setQualAt_ck (b : Nat) (q : BitVec 5) : (s.setQualAt b q).ck = s.ck := by
  unfold State.setQualAt
  split <;> rfl

theorem setQualAt_qual (b : Nat) (q : BitVec 5) : (s.setQualAt b q).tm.qual = q := by
  unfold State.setQualAt
  split
  · next h => exact h.symm
  · rfl

/-- Bringing the quality bits in line may start the count of HOLDOVER. -/
theorem applyQualAt_ck (b : Nat) (stepped : Bool) : ∃ f, (s.applyQualAt b stepped).ck = { s.ck with holdFrom := f } := by
  unfold State.applyQualAt
  dsimp only
  split
  · exact ⟨b, by rw [State.modCk_ck, State.modTm_ck, setQualAt_ck]⟩
  · exact ⟨s.ck.holdFrom, by rw [State.modTm_ck, setQualAt_ck]⟩

theorem applyQualAt_qual (b : Nat) (stepped : Bool) : (s.applyQualAt b stepped).tm.qual = s.wantQual stepped := by
  unfold State.applyQualAt
  dsimp only
  split <;> exact setQualAt_qual s b _

theorem setDisc_ck (d : Nat) : ∃ f, (s.setDisc d).ck = { s.ck with disc := d, holdFrom := f } := applyQualAt_ck _ _ _

theorem setDisc_qual (d : Nat) : (s.setDisc d).tm.qual = (s.modCk fun k => { k with disc := d }).wantQual s.stepped :=
  applyQualAt_qual _ _ _

theorem ckEvent_ck (code sev b : Nat) (v : Int) : (s.ckEvent code sev b v).ck = s.ck := (logEv_quiet _ _ _ _ _).units.ck

theorem enterLocked_ck : ∃ f, s.enterLocked.ck = { s.ck with disc := 1, holdFrom := f, action1 := false } := by
  obtain ⟨f, hf⟩ := setDisc_ck s 1
  refine ⟨f, ?_⟩
  rw [State.enterLocked, (endWorkIf_units _ _ _ _).ck, State.modCk_ck, ckEvent_ck, hf]

/-- The loss of what the loop follows (06 R156, R157). -/
theorem loseLock_ck (gate : Nat) : ∃ f, (s.loseLock gate).ck = { s.ck with
    steer := s.meanSteer gate, disc := if s.ck.disc = 1 ∨ 3 ≤ s.ck.disc then 2 else s.ck.disc, holdFrom := f, action1 := false } := by
  obtain ⟨f, hf⟩ := setDisc_ck (s.modCk fun k => { k with steer := s.meanSteer gate }) 2
  unfold State.loseLock
  dsimp only
  rw [(endWorkIf_units _ _ _ _).ck, State.modCk_ck]
  by_cases h : s.ck.disc = 1 ∨ 3 ≤ s.ck.disc
  · refine ⟨f, ?_⟩
    rw [if_pos h, if_pos h]
    split
    · rw [State.modTm_ck, hf]
      rfl
    · rw [hf]
      rfl
  · refine ⟨s.ck.holdFrom, ?_⟩
    rw [if_neg h, if_neg h]
    split <;> rfl

theorem loseLock_qual (gate : Nat) (h : s.ck.disc = 1 ∨ 3 ≤ s.ck.disc) : (s.loseLock gate).tm.qual
    = (s.modCk fun k => { k with steer := s.meanSteer gate, disc := 2 }).wantQual s.stepped := by
  have hq := setDisc_qual (s.modCk fun k => { k with steer := s.meanSteer gate }) 2
  unfold State.loseLock
  dsimp only
  rw [if_pos h, (endWorkIf_units _ _ _ _).tm, State.modCk_tm]
  split
  · exact hq
  · exact hq

end

/-! The quality bits (06 R157; 07 R175). -/

theorem flags_low (a b c d e : Bool) : let q := BitVec.ofNat 5 (flag a + 2 * flag b + 4 * flag c + 8 * flag d + 16 * flag e)
    q.getLsbD 0 = a ∧ q.getLsbD 1 = b := by
  revert a b c d e
  decide

/-- In HOLDOVER the bit LOCKED is 0 and the bit HOLDOVER is 1. -/
theorem wantQual_holdover {s : State} (h : s.ck.disc = 2) (stepped : Bool) :
    (s.wantQual stepped).getLsbD 0 = false ∧ (s.wantQual stepped).getLsbD 1 = true := by
  obtain ⟨h0, h1⟩ := flags_low (bitAt (discBits s.ck.disc) 0 && (!s.isMember || bitAt s.ar.upQual.toNat 0))
    (s.ck.disc != 0 && (bitAt (discBits s.ck.disc) 1 || (s.isMember && bitAt s.ar.upQual.toNat 1))) (s.ck.disc != 0 && stepped)
    (s.ck.disc != 0 && (bitAt (discBits s.ck.disc) 3 || (s.isMember && bitAt s.ar.upQual.toNat 3))) s.ar.aligned
  refine ⟨h0.trans ?_, h1.trans ?_⟩
  · rw [h]
    rfl
  · rw [h]
    rfl

end Sys2Proof.Machine
end

section
/-!
O19: the reference is judged at the end of each gate, qualifies, is lost, and the oven follows it (06 R152 to R154, R156, R157, R161).
-/

namespace Sys2Proof.Machine

/-! Loss (06 R152, R156). -/

section
variable {s : State} (hm : s.isMember = false) (hq : s.ck.refQual = true)
include hm hq

/-- The loss of a qualified reference, before it is logged: the loop loses what it followed (06 R156). -/
theorem refLose_qualified (st freq gate : Nat) : s.refLose st freq gate
    = ((s.modCk fun k => { k with refState := st, refFreq := freq, refQual := false }).loseLock gate).ckEvent 0x0401 sevWarning st
        s.ticks := by
  have hm' : ¬s.isMember = true := by simp [hm]
  unfold State.refLose
  dsimp only
  rw [if_pos hq, if_neg hm']

/-- What the loss of the reference leaves of a module that was LOCKED. -/
theorem refLose_holdover (hd : s.ck.disc = 1) (st freq gate : Nat) :
    (∃ f, (s.refLose st freq gate).ck = { s.ck with refState := st, refFreq := freq, refQual := false, steer := s.meanSteer gate,
                                                    disc := 2, holdFrom := f, action1 := false })
    ∧ (s.refLose st freq gate).tm.qual.getLsbD 0 = false ∧ (s.refLose st freq gate).tm.qual.getLsbD 1 = true
    ∧ OnlyClock s (s.refLose st freq gate)
    ∧ (s.fw.serving = true → s.fw.halted = false → (s.refLose st freq gate).logged 1 0x0401) := by
  rw [refLose_qualified hm hq]
  have hdisc : (s.modCk fun k => { k with refState := st, refFreq := freq, refQual := false }).ck.disc = 1 := hd
  have honly : OnlyClock s ((s.modCk fun k => { k with refState := st, refFreq := freq, refQual := false }).loseLock gate) :=
    .loseLock (.modCk .refl)
  have hqual := loseLock_qual _ gate (Or.inl hdisc)
  obtain ⟨f, hf⟩ := loseLock_ck (s.modCk fun k => { k with refState := st, refFreq := freq, refQual := false }) gate
  rw [if_pos (Or.inl hdisc)] at hf
  refine ⟨⟨f, ?_⟩, ?_, ?_, .ckEvent honly, fun hserve hhalt => ?_⟩
  · rw [ckEvent_ck, hf]
    rfl
  · rw [State.ckEvent, (logEv_quiet _ _ _ _ _).units.tm, hqual]
    exact (wantQual_holdover rfl _).1
  · rw [State.ckEvent, (logEv_quiet _ _ _ _ _).units.tm, hqual]
    exact (wantQual_holdover rfl _).2
  · exact logEv_logged (by rw [honly.fw, hserve]) (by rw [honly.fw, hhalt]) _ _ _ _

end

/-- A reference that is not qualified is not lost: the detector's report changes alone. -/
theorem refLose_unqualified {s : State} (hq : s.ck.refQual = false) (st freq gate : Nat) :
    s.refLose st freq gate = s.modCk fun k => { k with refState := st, refFreq := freq } := by
  unfold State.refLose
  dsimp only
  rw [if_neg (by simp [hq])]
  exact congrArg (fun q => s.modCk fun k => { k with refState := st, refFreq := freq, refQual := q }) hq.symm

/-! The end of a gate (06 R152). -/

/-- The nominal, as a code, against which the gate that ends is judged. -/
def State.gateCode (s : State) (edges : Bool) (freq : Nat) : Nat := if edges then nominalOf (s.mkey 0x0400) freq else 0

/-- The state of the reference that the gate shows. -/
def State.gateState (s : State) (edges : Bool) (freq : Nat) : Nat :=
  if !edges then 0 else if s.inWindow (s.gateCode edges freq) freq then 1 else 2

/-- Whether a gate against nominal `code` does not continue a presence. -/
def State.gateChanged (s : State) (code : Nat) : Bool := s.ck.refState != 1 || s.ck.refFreq != code

/-- After `u` the gate that ends in `s` is the last one, and a presence that it does not continue counts from its start (06 R153). -/
def State.endGate (s u : State) (code : Nat) : State :=
  u.modCk fun k => { k with gateAt := s.clk, refSince := if s.gateChanged code then s.ck.gateAt else k.refSince }

section
variable {s : State} {edges : Bool} {freq : Nat}

/-- Where nothing qualified is lost, the gate's report is taken. -/
theorem refGate_takes (h : s.ck.refQual = false ∨ s.gateState edges freq = 1 ∧ s.gateChanged (s.gateCode edges freq) = false) :
    s.refGate edges freq
      = s.endGate (s.modCk fun k => { k with refState := s.gateState edges freq, refFreq := s.gateCode edges freq })
          (s.gateCode edges freq) := by
  refine congrArg (fun u => s.endGate u _) ?_
  by_cases hst : s.gateState edges freq = 1
  · exact if_pos ⟨hst, h.imp_right And.right⟩
  · have hq := h.resolve_right fun hin => hst hin.1
    exact (if_neg fun hin => hst hin.1).trans (refLose_unqualified hq _ _ _)

/-- A qualified reference that the gate does not show in window, present as before, is lost. -/
theorem refGate_loses (hq : s.ck.refQual = true)
    (h : s.gateState edges freq ≠ 1 ∨ s.gateChanged (s.gateCode edges freq) = true) :
    s.refGate edges freq
      = s.endGate (s.refLose (s.gateState edges freq) (s.gateCode edges freq) s.ck.gateAt) (s.gateCode edges freq) := by
  refine congrArg (fun u => s.endGate u _) (if_neg ?_)
  rintro ⟨hst, hunq | hsame⟩
  · exact absurd (hq.symm.trans hunq) (by decide)
  · exact h.elim (fun hne => hne hst) fun hchanged => absurd (hchanged.symm.trans hsame) (by decide)

end

theorem refAbsent_loses {s : State} (h : s.ck.refState ≠ 0) : s.refAbsent = s.refLose 0 0 s.ck.gateAt := if_neg h

/-! Qualification (06 R153, R157, R161). -/

/-- The discipline state that a qualification enters in a module that follows no upstream. -/
theorem qualState_own {s : State} (hm : s.isMember = false) : s.qualState
    = if s.ck.disc = 0 ∧ s.ck.firstQual = false ∧ s.anyArmed = false then 5
      else if s.ck.e.natAbs ≤ s.phaseTol then 1
      else if s.mkey 0x0403 = 0 then 4 else if s.mkey 0x0403 = 1 then 5 else 3 := by
  unfold State.qualState
  rw [hm]
  rcases s.mkey 0x0403 with _ | _ | n <;> simp

/-- The phase error is taken at a qualification, the first since power-up or a later one (06 R161). -/
def State.gained (s : State) (e : Int) : State := (s.takeError e).modCk fun k => { k with firstQual := true, since := s.clk }

section
variable {s : State} {e : Int}

theorem gainLock_locks (h : (s.takeError e).qualState = 1) :
    s.gainLock e = ((s.gained e).ckEvent 0x0402 sevNotice (s.takeError e).qualState (s.gained e).ck.e).enterLocked := by
  unfold State.gainLock
  dsimp only
  rw [if_pos h, if_pos h]
  rfl

theorem gainLock_enters (h : (s.takeError e).qualState ≠ 1) : ∃ v, s.gainLock e
    = ((s.gained e).setDisc (s.takeError e).qualState).ckEvent 0x0402 sevNotice (s.takeError e).qualState v := by
  unfold State.gainLock
  dsimp only
  rw [if_neg h, if_neg h]
  exact ⟨_, rfl⟩

end

/-- What a qualification writes of the clock. -/
theorem gainLock_ck (s : State) (e : Int) : ∃ f a, (s.gainLock e).ck = { s.ck with
    e := (s.measured e).1, eKind := (s.measured e).2, eAt := s.clk, firstQual := true, since := s.clk
    disc := (s.takeError e).qualState, holdFrom := f, action1 := a } := by
  by_cases h : (s.takeError e).qualState = 1
  · obtain ⟨f, hf⟩ := enterLocked_ck ((s.gained e).ckEvent 0x0402 sevNotice (s.takeError e).qualState (s.gained e).ck.e)
    refine ⟨f, false, ?_⟩
    rw [gainLock_locks h, hf, ckEvent_ck, h]
    rfl
  · obtain ⟨f, hf⟩ := setDisc_ck (s.gained e) (s.takeError e).qualState
    obtain ⟨v, hv⟩ := gainLock_enters h
    refine ⟨f, s.ck.action1, ?_⟩
    rw [hv, ckEvent_ck, hf]
    rfl

section
variable {s : State}

theorem refQualify_qualifies (hm : s.isMember = false) (hst : s.ck.refState = 1) (hq : s.ck.refQual = false)
    (hsel : s.mkey 0x0400 ≠ 3) (hpw : s.pw.st ≤ 2) (hrole : s.ar.role ≠ 3)
    (hdue : s.ck.refSince + s.mkey 0x0402 * 3000000 ≤ s.clk) (e : Int) :
    s.refQualify e = (s.modCk fun k => { k with refQual := true }).gainLock e := by
  unfold State.refQualify
  rw [if_pos ⟨hst, hq, hsel, hrole, hdue, hpw⟩, hm]
  rfl

theorem refQualify_waits (h : s.clk < s.ck.refSince + s.mkey 0x0402 * 3000000) (e : Int) : s.refQualify e = s := by
  unfold State.refQualify
  rw [if_neg]
  rintro ⟨-, -, -, -, hdue, -⟩
  exact absurd hdue (Nat.not_le.mpr h)

end

/-! The loop (06 R154, R158). -/

/-- The loop removes at most 10 ns/s of a phase error. -/
theorem phasePull_bound (s : State) : s.phasePull.natAbs ≤ 10000 := by
  unfold State.phasePull maxPull
  split
  · have hclamp := clampInt_bounds (lo := -10000) (hi := 10000) (by decide)
      (-(divHalfEven s.ck.e (1000 * max 1 (s.mkey 0x0405))))
    omega
  · split <;> decide
  · decide

/-- The discipline state after the loop has taken phase error `e`: SLEWING ends within the tolerance. -/
def State.loopDisc (s : State) (e : Int) : Nat := if s.ck.disc = 4 ∧ e.natAbs ≤ s.phaseTol then 1 else s.ck.disc

/-- The state in which the loop steers: the phase error is taken, and SLEWING has ended within the tolerance. -/
def State.loopState (s : State) (e : Int) : State :=
  if (s.takeError e).ck.disc == 4 && decide ((s.takeError e).ck.e.natAbs ≤ s.phaseTol) then (s.takeError e).enterLocked
  else s.takeError e

section
variable {s : State}

theorem disciplineUpdate_runs (hfol : s.following = true) (hd : s.ck.disc = 1 ∨ 3 ≤ s.ck.disc) (hpw : s.pw.st ≤ 2)
    (hdue : s.loopDue = true) (e steer : Int) : s.disciplineUpdate e steer
      = (s.loopState e).pushSteer (clampInt (-2500000) 2500000 (steer + (s.loopState e).phasePull)) :=
  if_pos ⟨hfol, hd, hpw, hdue⟩

theorem disciplineUpdate_waits (h : s.following = false ∨ s.loopDue = false) (e steer : Int) : s.disciplineUpdate e steer = s := by
  refine if_neg ?_
  rintro ⟨hfol, -, -, hdue⟩
  rcases h with h | h
  · exact absurd (hfol.symm.trans h) (by decide)
  · exact absurd (hdue.symm.trans h) (by decide)

theorem loopState_only (e : Int) : OnlyClock s (s.loopState e) := .ite (.enterLocked (.takeError .refl)) (.takeError .refl)

theorem loopState_ck (s : State) (e : Int) : ∃ f a, (s.loopState e).ck = { s.ck with
    e := (s.measured e).1, eKind := (s.measured e).2, eAt := s.clk, disc := s.loopDisc (s.measured e).1, holdFrom := f, action1 := a } := by
  unfold State.loopState State.loopDisc
  by_cases h : s.ck.disc = 4 ∧ (s.measured e).1.natAbs ≤ s.phaseTol
  · have hdone : ((s.takeError e).ck.disc == 4 && decide ((s.takeError e).ck.e.natAbs ≤ s.phaseTol)) = true :=
      Bool.and_eq_true_iff.mpr ⟨beq_iff_eq.mpr h.1, decide_eq_true h.2⟩
    obtain ⟨f, hf⟩ := enterLocked_ck (s.takeError e)
    refine ⟨f, false, ?_⟩
    rw [if_pos hdone, if_pos h, hf]
    rfl
  · have hmore : ¬((s.takeError e).ck.disc == 4 && decide ((s.takeError e).ck.e.natAbs ≤ s.phaseTol)) = true := fun hdone =>
      h ⟨beq_iff_eq.mp (Bool.and_eq_true_iff.mp hdone).1, of_decide_eq_true (Bool.and_eq_true_iff.mp hdone).2⟩
    refine ⟨s.ck.holdFrom, s.ck.action1, ?_⟩
    rw [if_neg hmore, if_neg h]
    rfl

/-- What removes the phase error depends on the discipline state, the error and CK_DISC_TAU alone. -/
theorem phasePull_congr {u v : State} (hd : u.ck.disc = v.ck.disc) (he : u.ck.e = v.ck.e) (hk : u.mkey 0x0405 = v.mkey 0x0405) :
    u.phasePull = v.phasePull := by
  unfold State.phasePull
  rw [hd, he, hk]

end

theorem isMember_of_role {s : State} (h : s.ar.role = 0) : s.isMember = false := by
  unfold State.isMember
  rw [h]
  rfl

/-- Settles O19: each row by what it does where it acts, and by what stands where it does not. -/
theorem referenceAndDiscipline : Obligations.ReferenceAndDiscipline := by
  intro s t hrole c
  have hm : (s.reach t).isMember = false := isMember_of_role hrole
  refine ⟨fun edges freq => ?_, fun habs => ?_, fun hpres hq hd => ?_, fun e hst hq hsel hpw => ⟨fun hdue => ?_, fun hdue => ?_⟩,
    fun e steer => ⟨phasePull_bound _, fun hq hd hpw hdue => ?_, fun h => ?_⟩, rfl⟩
  -- REF_GATE
  · intro code st changed
    refine ⟨fun h => ⟨_, congrArg go (refGate_takes (s := s.reach t) h), rfl, .refl _, .refl _⟩, fun hq h hd => ?_⟩
    obtain ⟨⟨f, hf⟩, hlow, hhold, honly, hlog⟩ := refLose_holdover (s := s.reach t) hm hq hd st code s.ck.gateAt
    refine ⟨_, congrArg go (refGate_loses (s := s.reach t) hq h), congrArg Clock.refState hf,
      congrArg Clock.refFreq hf, congrArg Clock.refQual hf, congrArg Clock.disc hf, hlow, hhold, honly.modCk.units,
      fun hserve hhalt => logged_mem (hlog hserve hhalt)⟩
  -- REF_LOSS
  · exact congrArg go (if_pos habs)
  · obtain ⟨⟨f, hf⟩, hlow, hhold, honly, -⟩ := refLose_holdover (s := s.reach t) hm hq hd 0 0 s.ck.gateAt
    refine ⟨_, congrArg go (refAbsent_loses (s := s.reach t) hpres), congrArg Clock.refState hf, congrArg Clock.refQual hf,
      congrArg Clock.disc hf, congrArg Clock.steer hf, hlow, hhold, honly.units⟩
  -- REF_QUALIFICATION
  · have hrow := refQualify_qualifies (s := s.reach t) hm hst hq hsel hpw (by simp [hrole]) hdue e
    obtain ⟨f, a, hf⟩ := gainLock_ck ((s.reach t).modCk fun k => { k with refQual := true }) e
    refine ⟨_, congrArg go hrow, congrArg Clock.refQual hf, congrArg Clock.firstQual hf, congrArg Clock.e hf,
      (congrArg Clock.disc hf).trans (qualState_own hm), (OnlyClock.gainLock (.modCk .refl)).units⟩
  · exact congrArg go (refQualify_waits (s := s.reach t) hdue e)
  -- DISCIPLINE_UPDATE
  · have hfol : (s.reach t).following = true := by
      unfold State.following
      rw [hm]
      exact hq
    have hrow := disciplineUpdate_runs (s := s.reach t) hfol hd hpw hdue e steer
    obtain ⟨f, a, hf⟩ := loopState_ck (s.reach t) e
    have honly : OnlyClock (s.reach t) ((s.reach t).loopState e) := loopState_only e
    refine ⟨_, congrArg go hrow, congrArg Clock.e hf, ?_, congrArg Clock.disc hf, honly.modCk.units⟩
    exact congrArg (fun p => clampInt (-2500000) 2500000 (steer + p))
      (phasePull_congr (congrArg Clock.disc hf :) (congrArg Clock.e hf :) (honly.mkey _))
  · refine congrArg go (disciplineUpdate_waits (s := s.reach t) (h.imp_left fun hq => ?_) e steer)
    unfold State.following
    rw [hm]
    exact hq

end Sys2Proof.Machine
end

section
/-!
O20: TICKS is a count of 64 bits, and the step that a manager announces just before the count wraps is due as soon as it is announced
(06 R159; 16 R398).
-/

namespace Sys2Proof.Machine

/-- A step that its own announcement finds due is performed at once. -/
theorem clockStep_due {s : State} {e : Int} {d : DueEpoch} (hnone : s.dueEpoch false = none)
    (hdue : (s.ownStep e).dueEpoch false = some d) : s.clockStep e = (s.ownStep e).announcedStep d := by
  unfold State.clockStep
  rw [hnone]
  dsimp only
  rw [hdue]

/-- A manager waits for a step at a PPS epoch that has come at tick 0, where TICKS reads 2^64 - 4. -/
def wrappingManager : State := ((State.reset.modCk fun k => { k with
    refState := 1, refFreq := 1, refQual := true, disc := 5, firstQual := true }).modTm fun m => { m with
    off := 2 ^ 64 - 4, epochEdge := some 0 }).modAr fun a => { a with role := 1, astate := 2, addr := 0, mgr := 0 }

/-- It announces its step of 8 ticks back for slice-clock tick 150000, at which TICKS has wrapped to 149996. -/
theorem wrappingManager_announces : (wrappingManager.reach 0).ownStep 2666667
    = ((wrappingManager.reach 0).takeError 2666667).sendEpoch 150000 (-8) 0 0 := by rfl

theorem wrappingManager_due : ((wrappingManager.reach 0).ownStep 2666667).dueEpoch false = some ⟨149996, -8, 0, some 0⟩ := by
  rw [wrappingManager_announces]
  rfl

/-- The announcement does not stand until the boundary: it is off the list at once. -/
theorem wrappingManager_steps : ((wrappingManager.reach 0).clockStep 2666667).ar.epochs = [] := by
  rw [clockStep_due rfl wrappingManager_due, wrappingManager_announces]
  rfl

/-- Refutes O20: its clause on a manager lets module time stand until the boundary that it announces, also where TICKS wraps before that
boundary; the boundary's count then lies below the present one and is taken for one that has passed, as in `wrappingManager`. -/
theorem not_clockSteps : ¬ Obligations.ClockSteps := by
  intro h
  obtain ⟨-, hmanager, -⟩ := h
  obtain ⟨u, hu, -, hepochs, -⟩ := hmanager wrappingManager 0 0 2666667 rfl rfl rfl rfl rfl rfl (by decide) (by decide) (by decide)
    (by decide)
  have hu' : (wrappingManager.reach 0).clockStep 2666667 = u := by injection hu
  rw [← hu', wrappingManager_steps] at hepochs
  exact absurd hepochs (List.cons_ne_nil _ _).symm

end Sys2Proof.Machine
end

section
/-!
SUPPORT. What a relock reaches beside the clock (06 R165 to R168): units that stand while the domains follow their holders, the
synthesiser's own fields, and the time that a row without a command under execution leaves.
-/

namespace Sys2Proof.Machine

/-! Domains (17 R422): of the units only front ends, towers and the monitor follow them. -/

/-- Of the units at most front ends, towers and the monitor differ. -/
def OnlyDomains (s u : State) : Prop := SameUnits { s with fe := u.fe, tw := u.tw, mon := u.mon } u

namespace OnlyDomains
variable {s u v : State}

theorem refl : OnlyDomains s s := SameUnits.refl s

theorem trans (h : OnlyDomains s u) (k : OnlyDomains u v) : OnlyDomains s v := by
  obtain ⟨-, -, hcal, hck, htm, hch, hevq, htr, hmem, hhv, hout, -, hfw, hpins⟩ := h
  exact SameUnits.trans (u := { u with fe := v.fe, tw := v.tw, mon := v.mon })
    ⟨rfl, rfl, hcal, hck, htm, hch, hevq, htr, hmem, hhv, hout, rfl, hfw, hpins⟩ k

theorem of_units (h : SameUnits s u) : OnlyDomains s u := by
  obtain ⟨-, -, hcal, hck, htm, hch, hevq, htr, hmem, hhv, hout, -, hfw, hpins⟩ := h
  exact ⟨rfl, rfl, hcal, hck, htm, hch, hevq, htr, hmem, hhv, hout, rfl, hfw, hpins⟩

theorem units (h : OnlyDomains s u) (k : SameUnits u v) : OnlyDomains s v := h.trans (of_units k)

theorem ite {c : Prop} {i : Decidable c} (hu : OnlyDomains s u) (hv : OnlyDomains s v) : OnlyDomains s (if c then u else v) := by
  split
  · exact hu
  · exact hv

theorem foldl {α : Type} {f : State → α → State} (hf : ∀ {a x}, OnlyDomains s a → OnlyDomains s (f a x)) {l : List α}
    (h : OnlyDomains s u) : OnlyDomains s (l.foldl f u) := by
  induction l generalizing u with
  | nil => exact h
  | cons x xs ih => exact ih (hf h)

theorem modFe {i : Fin 4} {g : FrontEnd → FrontEnd} (h : OnlyDomains s u) : OnlyDomains s (u.modFe i g) := h.trans (SameUnits.refl _)

theorem modTw {k : Fin 4} {g : Tower → Tower} (h : OnlyDomains s u) : OnlyDomains s (u.modTw k g) := h.trans (SameUnits.refl _)

theorem modMon {g : Monitor → Monitor} (h : OnlyDomains s u) : OnlyDomains s (u.modMon g) := h.trans (SameUnits.refl _)

theorem endWork {code status detail : Nat} (h : OnlyDomains s u) : OnlyDomains s (u.endWork code status detail) :=
  h.units (endWorkIf_units _ _ _ _)

theorem timeoutEnd {r : Req} {e : Nat} (h : OnlyDomains s u) : OnlyDomains s (u.timeoutEnd r e) :=
  h.units ((logEv_quiet (u.reach e) _ _ _ _).units.trans (respond_units _ _ _ _))

/-- The answer to the command under execution. -/
theorem finish {a : Reply} {c : Nat} (h : OnlyDomains s u) : OnlyDomains s (u.finish a c) := by
  unfold State.finish
  split
  · exact h
  · dsimp only
    have h1 : OnlyDomains s (u.modMr fun m => { m with exec := none }) := h.units (.refl _)
    split
    · exact h.units (.refl _)
    · split
      · exact .timeoutEnd h1
      · exact h1.units (respond_units _ _ _ _)

theorem startTableAt {b : Nat} {on : Bool} (h : OnlyDomains s u) : OnlyDomains s (u.startTableAt b on) := by
  unfold State.startTableAt
  split
  · exact h
  · exact (OnlyDomains.ite (.modMon h) (.modMon (.modMon h))).units (logEv_quiet _ _ _ _ _).units

theorem monCommit {b : Nat} {on : Bool} (h : OnlyDomains s u) : OnlyDomains s (u.monCommit b on) := .ite (.finish (.startTableAt h)) h

theorem dropLateTable {b : Nat} (h : OnlyDomains s u) : OnlyDomains s (u.dropLateTable b) := .ite (.finish (.modMon h)) h

theorem monOff (h : OnlyDomains s u) : OnlyDomains s u.monOff := by
  unfold State.monOff
  extract_lets s1 s2
  have h2 : OnlyDomains s s2 := .ite (.endWork (.modMon h)) (.modMon h)
  exact .monCommit (.dropLateTable (.ite (.endWork h2) h2))

theorem monDomain {was on : Bool} (h : OnlyDomains s u) : OnlyDomains s (u.monDomain was on) :=
  .ite h (.ite (.modMon (.modMon h)) (.monOff h))

theorem syncRotation {k : Fin 4} (h : OnlyDomains s u) : OnlyDomains s (u.syncRotation k) := .ite (.ite h (.modTw h)) (.ite h (.modTw h))

theorem setDomains {m : BitVec 196} (h : OnlyDomains s u) : OnlyDomains s (u.setDomains m) := by
  have hpower : OnlyDomains s ((u.modAr fun a => { a with
      ports := Vector.ofFn (fun (p : Fin 3) => a.ports[p] && m.getLsbD (192 + p.val))
      wire := cutWire u.clk (fun p => !(m.getLsbD (192 + p))) a.wire }).modPw fun p => { p with onMap := m }) := h.units (.refl _)
  exact .foldl .syncRotation (.foldl (fun h => .ite h (.modFe h)) (.monDomain hpower))

theorem syncDomains (h : OnlyDomains s u) : OnlyDomains s u.syncDomains := .setDomains h

theorem ck (h : OnlyDomains s u) : u.ck = s.ck := SameUnits.ck (s := { s with fe := u.fe, tw := u.tw, mon := u.mon }) h

theorem tm (h : OnlyDomains s u) : u.tm = s.tm := SameUnits.tm (s := { s with fe := u.fe, tw := u.tw, mon := u.mon }) h

end OnlyDomains

end Sys2Proof.Machine
end

section
/-!
SUPPORT. What a relock writes of the clock, and that no time passes while none of the mailboxes' commands is under execution
(06 R165 to R168).
-/

namespace Sys2Proof.Machine

/-! No command under execution (02 R47): no operation ends one, and so none lets time pass. -/

/-- No command is under execution in `u`, whose slice clock shows the tick of `s`. -/
structure Idle (s u : State) : Prop where
  exec : u.mr.exec = none
  clk : u.clk = s.clk

namespace Idle
variable {s u v : State}

/-- An update that leaves both. -/
theorem keep (h : Idle s u) (hx : v.mr.exec = u.mr.exec) (hc : v.clk = u.clk) : Idle s v := ⟨hx.trans h.exec, hc.trans h.clk⟩

theorem clock (h : Idle s u) (k : OnlyClock u v) : Idle s v := h.keep k.exec k.clk

theorem ite {c : Prop} {i : Decidable c} (hu : Idle s u) (hv : Idle s v) : Idle s (if c then u else v) := by
  split
  · exact hu
  · exact hv

theorem foldl {α : Type} {f : State → α → State} (hf : ∀ {a x}, Idle s a → Idle s (f a x)) {l : List α} (h : Idle s u) :
    Idle s (l.foldl f u) := by
  induction l generalizing u with
  | nil => exact h
  | cons x xs ih => exact ih (hf h)

theorem modMem {g : MemCtl → MemCtl} (h : Idle s u) : Idle s (u.modMem g) := h.keep rfl rfl
theorem modPc {p : Fin 32} {g : Pc → Pc} (h : Idle s u) : Idle s (u.modPc p g) := h.keep rfl rfl
theorem modCk {g : Clock → Clock} (h : Idle s u) : Idle s (u.modCk g) := h.keep rfl rfl
theorem modAr {g : ArrayLink → ArrayLink} (h : Idle s u) : Idle s (u.modAr g) := h.keep rfl rfl
theorem modPw {g : Power → Power} (h : Idle s u) : Idle s (u.modPw g) := h.keep rfl rfl

theorem logEv {code sev scope : Nat} {data : List Byte} (h : Idle s u) : Idle s (u.logEv code sev scope data) :=
  h.clock (.logEv .refl)

theorem logEvAt {b code sev scope : Nat} {data : List Byte} (h : Idle s u) : Idle s (u.logEvAt b code sev scope data) :=
  h.clock (.of_quiet (logEvAt_quiet _ _ _ _ _ _))

theorem ckEvent {code sev b : Nat} {v : Int} (h : Idle s u) : Idle s (u.ckEvent code sev b v) := .logEv h

theorem syncDomains (h : Idle s u) : Idle s u.syncDomains :=
  h.keep (syncDomains_keepsChannels h.exec).exec (syncDomains_keepsChannels h.exec).clk

/-! Memory (13 R332 to R334, R338 to R340). -/

theorem nextRetrain {p : Fin 32} (h : Idle s u) : Idle s (u.nextRetrain p) := by
  unfold State.nextRetrain
  split
  · exact h
  · split
    · exact h
    · exact .modPc (.modMem h)

theorem endRetrain {p : Fin 32} (h : Idle s u) : Idle s (u.endRetrain p) := .nextRetrain (.modMem (.modPc h))

theorem startRetire {p : Fin 32} {cause : Nat} (h : Idle s u) : Idle s (u.startRetire p cause) := by
  unfold State.startRetire
  dsimp only
  split
  · exact .logEvAt (.endRetrain (.endRetrain (.modMem (.modPc (.modPc h)))))
  · split
    · exact h
    · exact .endRetrain (.modMem (.modPc h))

theorem setRetired {p : Fin 32} {cause : Nat} (h : Idle s u) : Idle s (u.setRetired p cause) :=
  .syncDomains (.endRetrain (.modMem (.modPc h)))

theorem retire {p : Fin 32} {cause : Nat} (h : Idle s u) : Idle s (u.retire p cause) := by
  unfold State.retire
  split
  · exact .setRetired h
  · exact .ite (.ite h (.modMem h)) (.startRetire h)
  · split
    · exact h
    · exact .startRetire (.modMem (.setRetired h))
  · exact h

theorem exitPc {p : Fin 32} {e : ExitPc} (h : Idle s u) : Idle s (u.exitPc p e) :=
  .ite h (.ite (.ite (.logEv (.modPc h)) (.retire (.logEv (.modPc h)))) (.modPc h))

theorem srWake (h : Idle s u) : Idle s u.srWake := by
  have hexit : Idle s (u.srExit []) := .ite h (.nextRetrain (.nextRetrain (.foldl .exitPc (.modMem h))))
  exact hexit.keep rfl rfl

theorem srRequest {byPower : Bool} (h : Idle s u) : Idle s (u.srRequest byPower) := .ite h (.modMem h)

/-! A relock (06 R166). -/

/-- An entry to a power state is refused (17 R426). -/
theorem rollback {block : Nat} (h : Idle s u) : Idle s (u.rollback block) := by
  unfold State.rollback
  split
  · exact h
  · extract_lets s1 s2 s3
    have h2 : Idle s s2 := .ite (.ite (.srWake (.modPw h)) (.modMem (.modPw h))) (.modPw h)
    have h3 : Idle s s3 := .syncDomains (h2.keep rfl rfl)
    exact Idle.clock (.logEv h3) (.endWorkIf .refl)

theorem orderHalt {q reason cause : Nat} {c : Fin 4} (h : Idle s u) : Idle s (u.orderHalt q reason cause c) := h.keep rfl rfl

theorem orderStop {o : Fin 2} {b reason : Nat} (h : Idle s u) : Idle s (u.orderStop o b reason) := .ite (h.keep rfl rfl) h

theorem sendOn {ps : List (Fin 3)} {mtype addr : Nat} {args : List Nat} (h : Idle s u) : Idle s (u.sendOn ps mtype addr args) :=
  h.keep rfl rfl

theorem relockEvent {cause : Nat} (h : Idle s u) : Idle s (u.relockEvent cause) := by
  unfold State.relockEvent
  extract_lets s1 q s2
  have h2 : Idle s s2 := .ite (.ckEvent h) (.foldl (fun h => .ite (.orderHalt h) h) (.ckEvent h))
  exact .foldl .orderStop h2

theorem sendPause (h : Idle s u) : Idle s u.sendPause := .foldl .sendOn h

end Idle

/-! The TDC's part (07 R187, R193). -/

theorem tdcUncal_only (s : State) (c : Fin 10) : OnlyClock s (s.tdcUncal c) := .ite (.logEv (.modTm .refl)) (.modTm .refl)

theorem endMeasure_only (s : State) (m : Measure) (status : Nat) : OnlyClock s (s.endMeasure m status) := .endWorkIf (.modTm .refl)

theorem tdcUncal_ck (s : State) (c : Fin 10) : (s.tdcUncal c).ck = s.ck := by
  unfold State.tdcUncal
  dsimp only
  split
  · exact (logEv_quiet _ _ _ _ _).units.ck
  · rfl

theorem endMeasure_ck (s : State) (m : Measure) (status : Nat) : (s.endMeasure m status).ck = s.ck := (endWorkIf_units _ _ _ _).ck

/-- The TDC stops without a change of the clock's own state. -/
structure StopsTdc (s u : State) : Prop where
  only : OnlyClock s u
  ck : u.ck = s.ck

theorem StopsTdc.foldl {α : Type} {f : State → α → State} (hf : ∀ a x, StopsTdc a (f a x)) (l : List α) (s : State) :
    StopsTdc s (l.foldl f s) := by
  induction l generalizing s with
  | nil => exact ⟨.refl, rfl⟩
  | cons x xs ih => exact ⟨(hf s x).only.trans (ih _).only, (ih _).ck.trans (hf s x).ck⟩

theorem tdcStop_stops (s : State) : StopsTdc s s.tdcStop := by
  have hcal := StopsTdc.foldl (fun a c => ⟨tdcUncal_only a c, tdcUncal_ck a c⟩) (List.finRange 10) s
  have hmeas := StopsTdc.foldl (fun a m => ⟨endMeasure_only a m eHw, endMeasure_ck a m eHw⟩)
    ((List.finRange 10).foldl (fun a c => a.tdcUncal c) s).tm.meas ((List.finRange 10).foldl (fun a c => a.tdcUncal c) s)
  exact ⟨hcal.only.trans hmeas.only, hmeas.ck.trans hcal.ck⟩

/-! The clocks go to the fallback (06 R166 step 3). -/

/-- The synthesiser, its relock and the source of REF_OUT. -/
def Clock.root (k : Clock) : Nat × Option Relock × Bool := (k.synth, k.relock, k.refOutOven)

theorem loseLock_root (s : State) (gate : Nat) : (s.loseLock gate).ck.root = s.ck.root := by
  obtain ⟨f, hf⟩ := loseLock_ck s gate
  exact (congrArg Clock.root hf :)

theorem niredStop_root (s : State) : s.niredStop.ck.root = s.ck.root := by
  unfold State.niredStop
  dsimp only
  split
  · exact loseLock_root _ _
  · rfl

theorem Idle.niredStop {s u : State} (h : Idle s u) : Idle s u.niredStop :=
  .ite (Idle.clock (.modAr h) (.loseLock .refl)) (.modAr h)

theorem Idle.toFallback {s u : State} (h : Idle s u) : Idle s u.toFallback := by
  unfold State.toFallback
  split
  · exact h
  · have hstop {g : Clock → Clock} : Idle s (u.modCk g).tdcStop := Idle.clock (.modCk h) (tdcStop_stops _).only
    exact .ite hstop (.niredStop hstop)

theorem toFallback_root {s : State} {r : Relock} (h : s.ck.relock = some r) :
    s.toFallback.ck.root = (s.ck.synth, some { r with step := 4, attempt := 1 }, true) := by
  unfold State.toFallback
  rw [h]
  dsimp only
  split
  · exact congrArg Clock.root (tdcStop_stops _).ck
  · exact (niredStop_root _).trans (congrArg Clock.root (tdcStop_stops _).ck)

/-! A relock begins (06 R166 steps 1 and 2). -/

/-- The synthesiser relocks for a cause, at the band that an entry names. -/
def Relocks (cause : Nat) (entry : BandEntry) (u : State) : Prop :=
  u.ck.synth = 1 ∧ ∃ r, u.ck.relock = some r ∧ r.cause = cause ∧ r.entry = entry

theorem startRelock_relocks (s : State) (cause : Nat) (temp : Int) : Relocks cause (s.bandFor temp) (s.startRelock cause temp) := by
  unfold State.startRelock
  extract_lets e s1 s2 s3 s4
  split
  · have hroot := toFallback_root (s := s4) rfl
    exact ⟨congrArg Prod.fst hroot, _, congrArg (fun x => x.2.1) hroot, rfl, rfl⟩
  · exact ⟨rfl, _, rfl, rfl, rfl⟩

theorem Idle.startRelock {s u : State} {cause : Nat} {temp : Int} (h : Idle s u) : Idle s (u.startRelock cause temp) := by
  unfold State.startRelock
  extract_lets _ s1 s2 s3 s4
  have h2 : Idle s s2 := .ite (.rollback (.relockEvent h)) (.relockEvent h)
  have h4 : Idle s s4 := .modCk (.srRequest (.ite h2 (.sendPause h2)))
  exact .ite (.toFallback h4) h4

end Sys2Proof.Machine
end

section
/-!
O21: the band table, and a relock from its cause to its end (06 R163 to R168, R170).
-/

namespace Sys2Proof.Machine

/-! LOAD_BAND_TABLE (06 R164). -/

/-- The payload of a band table: 1 to 32 entries, all in range, nothing in the reserved bytes. -/
def BandsGood (p : List Byte) : Prop :=
  1 ≤ fieldAt p 0 1 ∧ fieldAt p 0 1 ≤ 32 ∧ fieldAt p 1 7 = 0 ∧ (List.range (fieldAt p 0 1)).all (bandOk p) = true

section
variable {s : State} {r : Req} {temp : Int}

/-- What LOAD_BAND_TABLE refuses is a payload that is not good. -/
theorem bandsGood_iff (p : List Byte) : BandsGood p ↔ ¬(fieldAt p 0 1 = 0 ∨ 32 < fieldAt p 0 1 ∨ fieldAt p 1 7 ≠ 0
    ∨ (List.range (fieldAt p 0 1)).all (bandOk p) = false) := by
  simp only [BandsGood, not_or, Nat.not_lt, Decidable.not_not, Bool.not_eq_false, Nat.one_le_iff_ne_zero, ne_eq]

theorem loadBandBody_malformed (h : ¬BandsGood r.payload) : loadBandBody temp r s = fails eParam s :=
  if_pos (Decidable.not_not.mp (mt (bandsGood_iff r.payload).mpr h))

theorem loadBandBody_busy (h : BandsGood r.payload) (hbusy : s.clockBusy = true) : loadBandBody temp r s = fails eBusy s :=
  (if_neg ((bandsGood_iff r.payload).mp h)).trans (if_pos hbusy)

theorem loadBandBody_loads (h : BandsGood r.payload) (hfree : s.clockBusy = false) : ∃ bs, loadBandBody temp r s
    = answers bs (s.modCk fun k => { k with bands := (List.range (fieldAt r.payload 0 1)).map (bandAt r.payload) }) :=
  ⟨_, (if_neg ((bandsGood_iff r.payload).mp h)).trans (if_neg (ne_true_of_eq_false hfree))⟩

end

/-- A ready command whose own part takes a band table. -/
theorem command_takesBands {s : State} {t : Nat} {m : Fin 17} {code : Nat} {lenOk : Req → Bool} {body : Body} {bs : List Byte}
    {l : List BandEntry} (hr : Ready s t m code lenOk)
    (hb : body (s.reqOf m) (s.reach t) = answers bs ((s.reach t).modCk fun k => { k with bands := l })) :
    Leads (go (s.command t m code lenOk body)) (fun u => u.ck.bands = l ∧ (∃ bs, Replied u m stOk bs)
      ∧ SameUnits { s with ck := { s.ck with bands := u.ck.bands } } u ∧ SameSettings s u) := by
  refine (command_replies hr hb rfl).mono ?_
  rintro u ⟨hreply, hunits, hset⟩
  refine ⟨congrArg Clock.bands hunits.ck, ⟨bs, hreply⟩, ?_, hset⟩
  rw [hunits.ck]
  exact hunits

/-! RELOCK (06 R170). -/

section
variable {s : State} {r : Req} {temp : Int} (hact : fieldAt r.payload 0 1 = 0) (hpol : fieldAt r.payload 1 1 = 0)
  (hres : fieldAt r.payload 2 6 = 0)
include hact hpol hres

theorem relockBody_running {c : Fin 4} (h : s.running c = true) : relockBody temp r s = fails eState s := by
  have hrun : allCh.any s.running = true := List.any_eq_true.mpr ⟨c, List.mem_finRange c, h⟩
  unfold relockBody
  dsimp only
  rw [hact, hpol, hres, hrun]
  rfl

theorem relockBody_accepts (hrun : ∀ c, s.running c = false) (hout : ∀ o : Fin 2, s.out[o].st ≠ 3) (hfree : s.clockBusy = false)
    (hroom : s.mr.work.length < 16) : relockBody temp r s = accepted ((s.addWork r 0 0).startRelock 1 temp) := by
  have hstopped : ¬(allCh.any s.running = true ∨ s.out[0].st = 3 ∨ s.out[1].st = 3) := by
    rintro (h | h | h)
    · obtain ⟨c, -, hc⟩ := List.any_eq_true.mp h
      exact absurd (hc.symm.trans (hrun c)) (by decide)
    · exact hout 0 h
    · exact hout 1 h
  have hroom' : s.workFull = false := decide_eq_false (Nat.not_le.mpr hroom)
  unfold relockBody
  dsimp only
  rw [hact, hpol, hres, hfree, hroom', if_neg (by decide), if_neg (fun h => hstopped h.2)]
  rfl

end

/-! Causes (06 R165, R168). -/

/-- A relock that begins in `u`, where the band table is as in `s`. -/
theorem startRelock_relocks_of {s u : State} (h : u.ck.bands = s.ck.bands) (cause : Nat) (temp : Int) :
    Relocks cause (s.bandFor temp) (u.startRelock cause temp) := by
  have hband : u.bandFor temp = s.bandFor temp := by
    unfold State.bandFor
    rw [h]
  exact hband ▸ startRelock_relocks u cause temp

/-- The control voltage is noted, and logged when it passes 90 % (06 R165). -/
def State.noteEdge (s : State) (ctl : Nat) : State :=
  let s1 := s.modCk fun k => { k with edge90 := decide (900 < ctl ∨ ctl < 100) }
  if decide (900 < ctl ∨ ctl < 100) && !s.ck.edge90 then s1.ckEvent 0x0408 sevWarning s.ck.band ctl else s1

section
variable {s : State}

theorem noteEdge_quiet (s : State) (ctl : Nat) :
    Quiet (s.modCk fun k => { k with edge90 := decide (900 < ctl ∨ ctl < 100) }) (s.noteEdge ctl) := by
  unfold State.noteEdge
  dsimp only
  split
  · exact logEv_quiet _ _ _ _ _
  · exact .refl _

theorem bandEdge_root (h : s.rootDrives = true) (ctl : Nat) (temp : Int) : s.bandEdge ctl temp
    = if (970 < ctl ∨ ctl < 30) ∧ s.mkey 0x0409 = 1 ∧ s.ck.synth = 0 then (s.noteEdge ctl).startRelock 2 temp else s.noteEdge ctl := by
  unfold State.bandEdge
  rw [h]
  rfl

theorem overspeed_root {excess : Nat} (hfast : 300 < excess) (h : s.rootDrives = true) (temp : Int) :
    s.overspeed excess temp = (s.ckEvent 0x0409 sevError s.ck.band excess).startRelock 4 temp := by
  unfold State.overspeed
  rw [if_neg (Nat.not_le.mpr hfast)]
  exact if_pos h

theorem overspeed_waiting {excess : Nat} {r : Relock} (hfast : 300 < excess) (h : s.rootDrives = false) (hr : s.ck.relock = some r)
    (hstep : r.step = 2) (temp : Int) : s.overspeed excess temp = (s.ckEvent 0x0409 sevError s.ck.band excess).toFallback := by
  unfold State.overspeed
  rw [if_neg (Nat.not_le.mpr hfast)]
  refine (if_neg (ne_true_of_eq_false h)).trans (if_pos ?_)
  rw [hr]
  exact beq_iff_eq.mpr hstep

end

/-! The steps of a relock (06 R166). -/

section
variable {s : State} {r : Relock} (hr : s.ck.relock = some r)
include hr

theorem lockDeclared_step (h : r.step = 4) :
    s.lockDeclared = s.modCk fun k => { k with relock := some { r with step := 5, began := s.clk } } := by
  unfold State.lockDeclared
  rw [hr]
  exact if_pos h

theorem lockDeclared_idle (h : r.step ≠ 4) : s.lockDeclared = s := by
  unfold State.lockDeclared
  rw [hr]
  exact if_neg h

theorem freqAgrees_step (h : r.step = 5) : s.freqAgrees = s.modCk fun k => { k with
    relock := some { r with step := 8, began := s.clk }, band := r.band, tries := r.attempt, refOutOven := false, edge90 := false } := by
  unfold State.freqAgrees
  rw [hr]
  exact if_pos h

theorem attemptFails_next {b : Nat} (h : r.step = 4 ∨ r.step = 5) (hb : (bandOrder r.entry.band)[r.attempt]? = some b) :
    s.attemptFails = s.modCk fun k => { k with
      relock := some { r with step := 4, attempt := r.attempt + 1, band := b, began := s.clk } } := by
  have hstep : ¬(r.step ≠ 4 ∧ r.step ≠ 5) := fun hno => h.elim hno.1 hno.2
  unfold State.attemptFails
  rw [hr]
  dsimp only
  rw [if_neg hstep, hb]

theorem attemptFails_last (h : r.step = 4 ∨ r.step = 5) (hb : (bandOrder r.entry.band)[r.attempt]? = none) :
    s.attemptFails = s.lockFail r.band := by
  have hstep : ¬(r.step ≠ 4 ∧ r.step ≠ 5) := fun hno => h.elim hno.1 hno.2
  unfold State.attemptFails
  rw [hr]
  dsimp only
  rw [if_neg hstep, hb]

/-- The end of a relock: memory wakes, the root is locked again, the event and the work (06 R166 step 8). -/
theorem relockDone_locks (h : r.step = 8) : ∃ u v : State, SameUnits ((u.modCk fun k => { k with
      synth := 0, relock := none, sscOn := true, since := s.clk }).modTm fun m => { m with
      epochEdge := none, epoch := m.epoch.map fun e => { e with since := s.clk } }) v ∧ s.relockDone = v.syncDomains := by
  unfold State.relockDone
  rw [hr]
  dsimp only
  rw [if_neg (fun hno => hno h)]
  exact ⟨_, _, (logEv_quiet _ _ _ _ _).units.trans (endWorkIf_units _ _ _ _), rfl⟩

end

/-! The synthesiser fails (06 R167). -/

/-- The fault, its event and the end of the work. -/
def State.rootFault (s : State) (band : Nat) : State :=
  ((s.modCk fun k => { k with synth := 2, relock := none }).ckEvent 0x0407 sevCritical band s.ticks).endWorkIf
    (fun w => w.code == 0x0404 && w.arg == 0) eHw 0

theorem rootFault_units (s : State) (band : Nat) :
    SameUnits (s.modCk fun k => { k with synth := 2, relock := none }) (s.rootFault band) :=
  (logEv_quiet _ _ _ _ _).units.trans (endWorkIf_units _ _ _ _)

theorem rootFault_exec (s : State) (band : Nat) : (s.rootFault band).mr.exec = s.mr.exec :=
  (OnlyClock.endWorkIf (.ckEvent (.modCk .refl))).exec

/-- With no ARM that waits and no follower it leaves no more. -/
theorem lockFail_alone {s : State} (harm : s.waitingArm = none) (hfol : s.followers = []) (band : Nat) :
    s.lockFail band = s.rootFault band := by
  have harm' : (s.rootFault band).waitingArm = none := by
    rw [State.waitingArm, rootFault_exec]
    exact harm
  have hfail : (s.rootFault band).failArm eHw 0 = s.rootFault band := by
    unfold State.failArm
    rw [harm']
  have hfol' : (s.rootFault band).followers = [] := by
    obtain ⟨-, -, -, -, -, hch, -⟩ := rootFault_units s band
    rw [State.followers, hch]
    exact hfol
  unfold State.lockFail
  extract_lets _ s2
  have hs2 : s2 = s.rootFault band := hfail
  rw [hs2, hfol']
  rfl

/-- Settles O21: each command by what its own part answers, each other row by what it does in the step at which the relock stands. -/
theorem relockCourse : Obligations.RelockCourse := by
  refine ⟨fun s t m x => ⟨fun hr => ⟨fun hgood hfree => ?_, fun hgood hbusy => ?_, fun hbad => ?_⟩,
      fun hr hact hpol hres => ⟨fun ⟨c, hc⟩ => ?_, fun hrun hout hfree hroom => ?_⟩⟩,
    fun s t x => ⟨fun hroot => ?_, fun hroot => ?_, fun v hroot hfar hauto hlocked => ?_, fun v hroot hlow hhigh => ?_,
      fun v hroot hfast => ?_, fun v hslow => ?_⟩,
    fun s t r hr => ⟨fun hstep => ?_, fun hstep => ?_, fun hstep => ?_, fun v x hfast hroot hstep => ?_, fun hstep b hb => ?_,
      fun hstep hb harm hfol => ?_, fun hstep => ?_⟩⟩
  -- LOAD_BAND_TABLE
  · obtain ⟨bs, hb⟩ := loadBandBody_loads (s := s.reach t) (temp := x) hgood hfree
    exact command_takesBands hr hb
  · refine (command_fails hr (loadBandBody_busy (s := s.reach t) hgood hbusy)).mono ?_
    exact fun u ⟨hreply, hunits, _⟩ => ⟨hreply, hunits⟩
  · refine (command_fails hr (loadBandBody_malformed hbad)).mono ?_
    exact fun u ⟨hreply, hunits, _⟩ => ⟨hreply, hunits⟩
  -- RELOCK
  · exact command_fails hr (relockBody_running (s := s.reach t) hact hpol hres hc)
  · have hidle : Idle (s.reach t) (((s.reach t).addWork (s.reqOf m) 0 0).startRelock 1 x) := by
      refine .startRelock ⟨?_, rfl⟩
      obtain ⟨hmay, -⟩ := hr
      exact exec_none_of_mayTake hmay (by decide)
    refine (command_replies hr (relockBody_accepts (s := s.reach t) hact hpol hres hrun hout hfree hroom) hidle.clk).mono ?_
    rintro u ⟨hreply, hunits, -⟩
    obtain ⟨hsynth, hrelock⟩ := startRelock_relocks ((s.reach t).addWork (s.reqOf m) 0 0) 1 x
    refine ⟨hreply, ?_, ?_⟩
    · rw [hunits.ck, hsynth]
    · rw [hunits.ck]
      exact hrelock
  -- LOCK_LOSS
  · exact ⟨_, congrArg go (if_pos hroot), startRelock_relocks (s.reach t) 3 x⟩
  · exact congrArg go (if_neg (ne_true_of_eq_false hroot))
  -- BAND_EDGE
  · refine ⟨_, congrArg go ((bandEdge_root (s := s.reach t) hroot v x).trans (if_pos ⟨hfar, hauto, hlocked⟩)), ?_⟩
    exact startRelock_relocks_of (congrArg Clock.bands (noteEdge_quiet (s.reach t) v).units.ck) 2 x
  · have hwithin : ¬((970 < v ∨ v < 30) ∧ (s.reach t).mkey 0x0409 = 1 ∧ (s.reach t).ck.synth = 0) := by
      rintro ⟨h | h, -⟩ <;> omega
    have hquiet := noteEdge_quiet (s.reach t) v
    refine ⟨_, congrArg go ((bandEdge_root (s := s.reach t) hroot v x).trans (if_neg hwithin)), hquiet.units.ck, ?_, hquiet.settings⟩
    rw [hquiet.units.ck]
    exact hquiet.units
  -- OVERSPEED
  · refine ⟨_, congrArg go (overspeed_root (s := s.reach t) hfast hroot x), ?_⟩
    exact startRelock_relocks_of (congrArg Clock.bands (ckEvent_ck (s.reach t) _ _ _ _)) 4 x
  · exact congrArg go (if_pos hslow)
  -- LOCK_DECLARED
  · exact congrArg go (lockDeclared_step (s := s.reach t) hr hstep)
  · exact congrArg go (lockDeclared_idle (s := s.reach t) hr hstep)
  -- FREQUENCY_AGREEMENT
  · exact congrArg go (freqAgrees_step (s := s.reach t) hr hstep)
  -- OVERSPEED in step 2
  · have hck := ckEvent_ck (s.reach t) 0x0409 sevError (s.reach t).ck.band v
    have hroot' := toFallback_root (s := (s.reach t).ckEvent 0x0409 sevError (s.reach t).ck.band v) (r := r) (by rw [hck]; exact hr)
    rw [hck] at hroot'
    exact ⟨_, congrArg go (overspeed_waiting (s := s.reach t) hfast hroot hr hstep x), congrArg (fun k => k.2.1) hroot',
      congrArg Prod.fst hroot', congrArg (fun k => k.2.2) hroot'⟩
  -- RELOCK_ATTEMPT_FAILURE
  · exact congrArg go (attemptFails_next (s := s.reach t) hr hstep hb)
  · have hfault := (attemptFails_last (s := s.reach t) hr hstep hb).trans (lockFail_alone (s := s.reach t) harm hfol r.band)
    have hunits := rootFault_units (s.reach t) r.band
    refine ⟨_, congrArg go hfault, hunits.ck, ?_⟩
    rw [hunits.ck]
    exact hunits
  -- RELOCK_COMPLETION
  · obtain ⟨u, v, hunits, hdone⟩ := relockDone_locks (s := s.reach t) hr hstep
    have hdomains : OnlyDomains v v.syncDomains := .syncDomains .refl
    have hck := hdomains.ck.trans hunits.ck
    have htm := hdomains.tm.trans hunits.tm
    exact ⟨_, congrArg go hdone, congrArg Clock.synth hck, congrArg Clock.relock hck, congrArg Clock.sscOn hck,
      congrArg Clock.since hck, congrArg Time.epochEdge htm⟩

end Sys2Proof.Machine
end

section
/-!
SUPPORT. What an epoch mark (07 R183) writes.
-/

namespace Sys2Proof.Machine

/-- Of the instant, the command interface, the array link and the units at most clock, time, channels and the events that wait differ. -/
structure OnlyTiming (s u : State) : Prop where
  clk : u.clk = s.clk
  mr : u.mr = s.mr
  ar : u.ar = s.ar
  units : SameUnits { s with ck := u.ck, tm := u.tm, ch := u.ch, evq := u.evq } u

namespace OnlyTiming
variable {s u v : State}

theorem refl : OnlyTiming s s := ⟨rfl, rfl, rfl, .refl s⟩

theorem trans (h : OnlyTiming s u) (k : OnlyTiming u v) : OnlyTiming s v where
  clk := k.clk.trans h.clk
  mr := k.mr.trans h.mr
  ar := k.ar.trans h.ar
  units := by
    obtain ⟨hfe, htw, hcal, -, -, -, -, hrest⟩ := h.units
    exact SameUnits.trans (u := { u with ck := v.ck, tm := v.tm, ch := v.ch, evq := v.evq })
      ⟨hfe, htw, hcal, rfl, rfl, rfl, rfl, hrest⟩ k.units

theorem quiet (h : OnlyTiming s u) (q : Quiet u v) : OnlyTiming s v := by
  obtain ⟨hfe, htw, hcal, -, -, -, -, hrest⟩ := q.units
  exact h.trans ⟨q.clk, q.mr, q.ar, hfe, htw, hcal, rfl, rfl, rfl, rfl, hrest⟩

theorem modTm {g : Time → Time} (h : OnlyTiming s u) : OnlyTiming s (u.modTm g) := h.trans ⟨rfl, rfl, rfl, .refl _⟩

theorem modCk {g : Clock → Clock} (h : OnlyTiming s u) : OnlyTiming s (u.modCk g) := h.trans ⟨rfl, rfl, rfl, .refl _⟩

theorem ite {c : Prop} {i : Decidable c} (hu : OnlyTiming s u) (hv : OnlyTiming s v) : OnlyTiming s (if c then u else v) := by
  split
  · exact hu
  · exact hv

theorem applyQualAt {b : Nat} {stepped : Bool} (h : OnlyTiming s u) : OnlyTiming s (u.applyQualAt b stepped) := by
  have hqual : OnlyTiming s ((u.setQualAt b (u.wantQual stepped)).modTm fun m => { m with stepped := stepped }) :=
    .modTm (.ite h (.modTm h))
  exact .ite (.modCk hqual) hqual

theorem raiseTimer {c : Fin 4} {x : Nat} (h : OnlyTiming s u) : OnlyTiming s (u.raiseTimer c x) := h.trans ⟨rfl, rfl, rfl, .refl _⟩

end OnlyTiming

/-! The timers that a change of the count passes over (08 R217). -/

theorem foldl_timers {f : State → Fin 4 → State} (hf : ∀ u c, f u c = u ∨ ∃ x, f u c = u.raiseTimer c x) (l : List (Fin 4))
    (s : State) :
    OnlyTiming s (l.foldl f s) ∧ (l.foldl f s).tm = s.tm ∧ (l.foldl f s).ck = s.ck := by
  induction l generalizing s with
  | nil => exact ⟨.refl, rfl, rfl⟩
  | cons c l ih =>
    rw [List.foldl_cons]
    rcases hf s c with h | ⟨x, h⟩
    · rw [h]
      exact ih s
    · obtain ⟨honly, htm, hck⟩ := ih (s.raiseTimer c x)
      rw [h]
      exact ⟨(OnlyTiming.refl.raiseTimer).trans honly, htm, hck⟩

/-- Timers leave clock and time. -/
theorem timersCross_timing (s : State) (b : Nat) :
    OnlyTiming s (s.timersCross b) ∧ (s.timersCross b).tm = s.tm ∧ (s.timersCross b).ck = s.ck := by
  refine foldl_timers (fun u c => ?_) allCh s
  split
  · exact .inr ⟨b, rfl⟩
  · exact .inl rfl

/-! The quality bits (07 R175). -/

theorem flags_stepped (a b c d e : Bool) :
    (BitVec.ofNat 5 (flag a + 2 * flag b + 4 * flag c + 8 * flag d + 16 * flag e)).getLsbD 2 = c := by
  revert a b c d e
  decide

/-- Without a step since the last mark the bit STEPPED is 0. -/
theorem wantQual_unstepped (s : State) : (s.wantQual false).getLsbD 2 = false :=
  (flags_stepped _ _ _ _ _).trans (Bool.and_false _)

/-- Bringing the quality bits in line writes them, with their history. -/
theorem applyQualAt_tm (s : State) (b : Nat) (stepped : Bool) :
    ∃ h, (s.applyQualAt b stepped).tm = { s.tm with qual := s.wantQual stepped, qualHist := h, stepped := stepped } := by
  have hqual : ∃ h, (s.setQualAt b (s.wantQual stepped)).tm = { s.tm with qual := s.wantQual stepped, qualHist := h } := by
    unfold State.setQualAt
    split
    · next heq => exact ⟨s.tm.qualHist, by rw [heq]⟩
    · exact ⟨_, rfl⟩
  obtain ⟨h, hqual⟩ := hqual
  have htm : (s.applyQualAt b stepped).tm = { (s.setQualAt b (s.wantQual stepped)).tm with stepped := stepped } := by
    unfold State.applyQualAt
    dsimp only
    split <;> rfl
  exact ⟨h, htm.trans (congrArg (fun m : Time => { m with stepped := stepped }) hqual)⟩

/-! The mark. -/

/-- The count is changed by `d` at boundary `b`, and STEPPED is clear. -/
theorem doMark_tm (s : State) (b kind : Nat) (d : Int) : ∃ h, (s.doMark b kind d).tm = { s.tm with
    off := s.tm.off + d, offHist := (b, s.tm.off) :: s.tm.offHist, qual := (s.shiftTime b d).wantQual false, qualHist := h
    stepped := false, epochAt := some b } := by
  obtain ⟨h, hqual⟩ := applyQualAt_tm (s.shiftTime b d) b false
  obtain ⟨-, hcross, -⟩ := timersCross_timing (((s.shiftTime b d).applyQualAt b false).modTm fun m => { m with epochAt := some b }) b
  exact ⟨h, (logEvAt_quiet _ _ _ _ _ _).units.tm.trans
    (hcross.trans (congrArg (fun m : Time => { m with epochAt := some b }) hqual))⟩

theorem doMark_disc (s : State) (b kind : Nat) (d : Int) : (s.doMark b kind d).ck.disc = s.ck.disc := by
  obtain ⟨f, hqual⟩ := applyQualAt_ck (s.shiftTime b d) b false
  obtain ⟨-, -, hcross⟩ := timersCross_timing (((s.shiftTime b d).applyQualAt b false).modTm fun m => { m with epochAt := some b }) b
  exact (congrArg Clock.disc ((logEvAt_quiet _ _ _ _ _ _).units.ck.trans hcross)).trans (congrArg Clock.disc hqual :)

theorem doMark_timing (s : State) (b kind : Nat) (d : Int) : OnlyTiming s (s.doMark b kind d) := by
  have hqual : OnlyTiming s ((s.shiftTime b d).applyQualAt b false) := .applyQualAt (.modTm .refl)
  exact (hqual.modTm.trans (timersCross_timing _ b).1).quiet (logEvAt_quiet _ _ _ _ _ _)

theorem doMark_unstepped (s : State) (b kind : Nat) (d : Int) : (s.doMark b kind d).tm.qual.getLsbD 2 = false := by
  obtain ⟨h, htm⟩ := doMark_tm s b kind d
  rw [htm]
  exact wantQual_unstepped _

end Sys2Proof.Machine
end

section
/-!
O22: SET_TIME schedules an epoch, its mark moves the count, and GET_TIME_STATUS reports (07 R183, R184, R197; 16 R398).
-/

namespace Sys2Proof.Machine

/-! SET_TIME (07 R183, R184). -/

/-- A ready command whose own part answers OK and writes module time alone. -/
theorem command_setsTime {s : State} {t : Nat} {m : Fin 17} {code : Nat} {lenOk : Req → Bool} {body : Body} {bs : List Byte}
    {g : Time → Time} (hr : Ready s t m code lenOk) (hb : body (s.reqOf m) (s.reach t) = answers bs ((s.reach t).modTm g)) :
    Leads (go (s.command t m code lenOk body)) (fun u => Replied u m stOk bs ∧ u.tm = g s.tm ∧ SameUnits { s with tm := u.tm } u
      ∧ SameSettings s u) := by
  refine (command_replies hr hb rfl).mono ?_
  rintro u ⟨hreply, hunits, hset⟩
  have htm : u.tm = g s.tm := hunits.tm
  refine ⟨hreply, htm, ?_, hset⟩
  rw [htm]
  exact hunits

/-- The payload of a SET_TIME is in range. -/
def TimeGood (p : List Byte) : Prop := fieldAt p 0 1 ≤ 1 ∧ fieldAt p 1 7 = 0 ∧ fieldAt p 8 8 ≤ 4000000000

/-- The module takes no SET_TIME, or not the one that requires PPS_IN. -/
def State.timeDenied (s : State) (p : List Byte) : Prop := s.isMember = true ∨ (fieldAt p 0 1 = 1 ∧ s.tm.ppsQual = false)

section
variable {s : State} {r : Req}

theorem timeGood_iff (p : List Byte) : TimeGood p ↔ ¬(1 < fieldAt p 0 1 ∨ fieldAt p 1 7 ≠ 0 ∨ 4000000000 < fieldAt p 8 8) := by
  simp only [TimeGood, not_or, Nat.not_lt, Decidable.not_not, ne_eq]

theorem setTimeBody_malformed (h : ¬TimeGood r.payload) : setTimeBody r s = fails eParam s :=
  if_pos (Decidable.not_not.mp (mt (timeGood_iff r.payload).mpr h))

theorem setTimeBody_denied (h : TimeGood r.payload) (hden : s.timeDenied r.payload) : setTimeBody r s = fails eState s :=
  (if_neg ((timeGood_iff r.payload).mp h)).trans (if_pos hden)

theorem setTimeBody_schedules (h : TimeGood r.payload) (hden : ¬s.timeDenied r.payload) : setTimeBody r s
    = answers s.setTimeResp (s.schedule ⟨fieldAt r.payload 8 8, fieldAt r.payload 0 1 == 1, s.clk⟩) :=
  (if_neg ((timeGood_iff r.payload).mp h)).trans (if_neg hden)

theorem schedule_replaces (h : s.epochCome = false) (q : EpochReq) :
    s.schedule q = s.modTm fun m => { m with epoch := some q, epochEdge := none } := if_neg (ne_true_of_eq_false h)

theorem schedule_succeeds (h : s.epochCome = true) (q : EpochReq) : s.schedule q = s.modTm fun m => { m with epochNext := some q } :=
  if_pos h

end

/-! EPOCH_MARK (07 R183; 16 R398). -/

section
variable {s : State}

theorem dueEpoch_none (h : s.ar.epochs = []) (mark : Bool) : s.dueEpoch mark = none := by
  unfold State.dueEpoch
  rw [h]
  rfl

/-- With nothing announced the row is the module's own mark. -/
theorem epochMark_own (h : s.ar.epochs = []) (hown : s.ownMark.ar.epochs = []) : s.epochMark = s.ownMark := by
  unfold State.epochMark
  rw [dueEpoch_none h]
  dsimp only
  rw [dueEpoch_none hown]

theorem epochMark_announced {d : DueEpoch} (h : s.dueEpoch true = some d) (hrest : d.rest = none) :
    s.epochMark = (s.dropEpoch d).doMark (s.clkOf d.b) (d.kind - 1) d.delta := by
  unfold State.epochMark
  rw [h]
  dsimp only
  unfold State.announcedMark
  rw [hrest]

theorem ownMark_none (h : s.tm.epoch = none) : s.ownMark = s := by
  unfold State.ownMark
  rw [h]

/-- The module marks on its own account, and outside steps 3 to 8 of a relock. -/
structure MarksAlone (s : State) : Prop where
  role : s.ar.role = 0
  quietArray : s.ar.epochs = []
  relock : s.ck.relock = none
  synth : s.ck.synth ≠ 2

theorem epochBoundary_alone (h : s.ar.role = 0) (f : Nat) : s.epochBoundary f = s.boundaryFrom (ceilDiv f fineUnit) := by
  unfold State.epochBoundary
  rw [if_neg (by rw [h]; decide), Nat.add_zero]

/-- The change of an epoch mark for `q` at the PPS epoch `f`: the tick nearest to the epoch reads the given seconds. -/
def State.markBy (s : State) (q : EpochReq) (f : Nat) : Int :=
  (q.seconds * 3000000000 : Nat) - nearest4 ((f : Int) + s.tm.off * fineUnit)

/-- The schedule once a mark falls: a SET_TIME that came after the epoch awaits the next one from now. -/
def State.nextSchedule (s : State) : State :=
  s.modTm fun m => { m with epoch := m.epochNext.map (fun x => { x with since := s.clk }), epochNext := none, epochEdge := none }

/-- Its mark waits for the boundary. -/
theorem ownMark_alone (h : MarksAlone s) {q : EpochReq} {f : Nat} (hq : s.tm.epoch = some q) (hf : s.ppsEpoch q.since = some f) :
    ∃ kind rest, s.ownMark = if s.clk < s.boundaryFrom (ceilDiv f fineUnit) then s else
      s.performMark (s.boundaryFrom (ceilDiv f fineUnit)) kind (s.markBy q f) rest := by
  obtain ⟨hrole, harray, hrelock, hsynth⟩ := h
  have hfree : ¬(s.epochsHeld || s.isMember || s.announced true) = true := by
    have hheld : s.epochsHeld = false := by
      unfold State.epochsHeld
      rw [hrelock]
      exact beq_eq_false_iff_ne.mpr hsynth
    have hannounced : s.announced true = false := by
      unfold State.announced
      rw [harray]
      rfl
    rw [hheld, isMember_of_role hrole, hannounced]
    decide
  have hmgr : ¬s.ar.role = 1 := by
    rw [hrole]
    decide
  unfold State.ownMark
  rw [hq]
  dsimp only
  rw [if_neg hfree, hf]
  dsimp only
  rw [if_neg hmgr, if_neg hmgr, epochBoundary_alone hrole]
  exact ⟨_, _, rfl⟩

theorem performMark_outside (h : s.ck.disc ≠ 5) (b kind : Nat) (d rest : Int) :
    s.performMark b kind d rest = s.nextSchedule.doMark b kind d := if_neg h

end

/-! GET_TIME_STATUS (07 R197). -/

theorem stamp_bytes_length (x : Stamp) : x.bytes.length = 12 := by simp [Stamp.bytes]

theorem timeStatus_length (s : State) : s.timeStatus.length = 96 := by
  unfold State.timeStatus
  simp only [List.length_append, leBytes_length, stamp_bytes_length, List.length_map, Vector.length_toList, List.length_replicate,
    List.length_cons, List.length_nil]

/-- Settles O22: SET_TIME by its own part, the mark by where its boundary lies, and the report by its fields. -/
theorem timeIsSetByMarks : Obligations.TimeIsSetByMarks := by
  refine ⟨fun s t m hr => ⟨fun hbad => ?_, fun hgood hden => ?_, fun hgood hden => ?_⟩,
    fun s t hrole harray => ⟨fun hnone => ?_, fun q f hq hrelock hsynth hf hdisc => ?_⟩,
    fun s t d hdue hrest => ?_, fun s t m hr => ?_⟩
  -- SET_TIME
  · exact command_fails hr (setTimeBody_malformed hbad)
  · exact command_fails hr (setTimeBody_denied (s := s.reach t) hgood hden)
  · have hbody := setTimeBody_schedules (s := s.reach t) hgood hden
    cases hcome : (s.reach t).epochCome with
    | false =>
      rw [schedule_replaces hcome] at hbody
      refine (command_setsTime hr hbody).mono ?_
      exact fun u ⟨hreply, htm, hunits, hset⟩ => ⟨hreply, fun _ => htm, fun h => absurd h (by decide), hunits, hset⟩
    | true =>
      rw [schedule_succeeds hcome] at hbody
      refine (command_setsTime hr hbody).mono ?_
      exact fun u ⟨hreply, htm, hunits, hset⟩ => ⟨hreply, fun h => absurd h (by decide), fun _ => htm, hunits, hset⟩
  -- EPOCH_MARK, the module's own
  · have hown : (s.reach t).ownMark = s.reach t := ownMark_none hnone
    exact congrArg go ((epochMark_own (s := s.reach t) harray (by rw [hown]; exact harray)).trans hown)
  · intro b
    obtain ⟨kind, rest, hown⟩ := ownMark_alone (s := s.reach t) ⟨hrole, harray, hrelock, hsynth⟩ hq hf
    refine ⟨fun hearly => ?_, fun hdue => ?_⟩
    · have hwait := hown.trans (if_pos hearly)
      exact congrArg go ((epochMark_own (s := s.reach t) harray (by rw [hwait]; exact harray)).trans hwait)
    · have hmark := (hown.trans (if_neg (Nat.not_lt.mpr hdue))).trans (performMark_outside (s := s.reach t) hdisc _ _ _ _)
      have honly : OnlyTiming (s.reach t) ((s.reach t).nextSchedule.doMark b kind ((s.reach t).markBy q f)) :=
        .trans (.modTm .refl) (doMark_timing _ _ _ _)
      obtain ⟨h, htm⟩ := doMark_tm (s.reach t).nextSchedule b kind ((s.reach t).markBy q f)
      have hstill : (s.reach t).ownMark.ar.epochs = [] := by
        rw [hmark]
        exact (congrArg ArrayLink.epochs honly.ar).trans harray
      exact ⟨_, congrArg go ((epochMark_own (s := s.reach t) harray hstill).trans hmark), congrArg Time.off htm, congrArg Time.epoch htm,
        congrArg Time.epochNext htm, congrArg Time.epochEdge htm, congrArg Time.epochAt htm, doMark_unstepped _ _ _ _,
        doMark_disc _ _ _ _, honly.units, .of_mr honly.mr⟩
  -- EPOCH_MARK, announced by the manager
  · obtain ⟨h, htm⟩ := doMark_tm ((s.reach t).dropEpoch d) ((s.reach t).clkOf d.b) (d.kind - 1) d.delta
    exact ⟨_, congrArg go (epochMark_announced hdue hrest), congrArg Time.off htm, doMark_unstepped _ _ _ _,
      congrArg ArrayLink.epochs (doMark_timing _ _ _ _).ar⟩
  -- GET_TIME_STATUS
  · refine (command_replies (x := s.reach t) hr rfl rfl).mono ?_
    exact fun u ⟨hreply, hunits, hset⟩ => ⟨hreply, timeStatus_length _, hunits, hset⟩

end Sys2Proof.Machine
end

section
/-!
SUPPORT. Edges at the TDC inputs (07 R186, R188): where an edge is left, missed or stamped, and the single user of one.
-/

namespace Sys2Proof.Machine

/-- The tick of a fine instant given by tick and fraction. -/
theorem fineInstant_tick (t frac : Nat) : (t * fineUnit + frac % fineUnit) / fineUnit = t := by
  have hfrac : frac % fineUnit < fineUnit := Nat.mod_lt _ (by decide)
  rw [Nat.mul_comm, Nat.mul_add_div (by decide), Nat.div_eq_of_lt hfrac, Nat.add_zero]

/-- The dead time of a channel begins (07 R186). -/
def State.startDead (s : State) (c : Fin 10) (fine : Nat) : State :=
  s.modTm fun m => { m with dead := m.dead.set c.val (fine + 300 * fineUnit) }

section
variable {s : State} {c : Fin 10} {fine : Nat} {falling : Bool}

theorem edgeActive_of_user (h : s.edgeUser c falling (fine / fineUnit) = true) : s.edgeActive c falling (fine / fineUnit) = true :=
  Bool.or_eq_true_iff.mpr (.inl h)

theorem tdcEdge_inactive (h : s.edgeActive c falling (fine / fineUnit) = false) : s.tdcEdge c fine falling = s := by
  unfold State.tdcEdge
  rw [h]
  rfl

section
variable (hact : s.edgeActive c falling (fine / fineUnit) = true) (hpw : s.pw.st ≤ 2)
include hact hpw

/-- An active edge outside deep power states is missed or stamped. -/
theorem tdcEdge_active : s.tdcEdge c fine falling = if s.clockStopped || decide (fine < s.tm.dead[c])
      || decide (fine < s.blankEnd c * fineUnit ∧ (s.blankEnd c - 30000) * fineUnit ≤ fine) then s.missEdge c
    else (s.startDead c fine).edgeUses c falling fine := by
  have hno : ¬(!(s.edgeActive c falling (fine / fineUnit)) || decide (3 ≤ s.pw.st)) = true := by
    rw [hact, decide_eq_false (Nat.not_le.mpr (Nat.lt_succ_of_le hpw))]
    decide
  exact if_neg hno

theorem tdcEdge_missed (h : s.clockStopped = true ∨ fine < s.tm.dead[c]) : s.tdcEdge c fine falling = s.missEdge c := by
  have hstop : (s.clockStopped || decide (fine < s.tm.dead[c])) = true := by
    simpa only [Bool.or_eq_true, decide_eq_true_eq] using h
  exact (tdcEdge_active hact hpw).trans (if_pos (Bool.or_eq_true_iff.mpr (.inl hstop)))

theorem tdcEdge_stamped (hruns : s.clockStopped = false) (hdead : s.tm.dead[c] ≤ fine) (hblank : s.blankEnd c = 0) :
    s.tdcEdge c fine falling = (s.startDead c fine).edgeUses c falling fine := by
  have hafter : ¬(fine < 0 * fineUnit ∧ (0 - 30000) * fineUnit ≤ fine) := fun h =>
    Nat.not_lt_zero fine (Nat.zero_mul fineUnit ▸ h.1)
  rw [tdcEdge_active hact hpw, if_neg]
  rw [hruns, decide_eq_false (Nat.not_lt.mpr hdead), hblank, decide_eq_false hafter]
  decide

end

section
variable (hmeas : s.tm.meas = [])
include hmeas

/-- Where no measurement runs, an edge at TRIG_IN1 goes to the sequencers. -/
theorem edgeUses_trigIn1 (huser : s.edgeUser 0 falling (fine / fineUnit) = true) : s.edgeUses 0 falling fine
    = s.pushEv fine 0x10 (s.cycleOf fine) (s.stampAt fine 2 s.tm.cal[(0 : Fin 10)]) 0xF#4 s.tm.cal[(0 : Fin 10)] := by
  unfold State.edgeUses
  dsimp only
  rw [hmeas, huser]
  rfl

/-- Where no measurement runs, an edge at PPS_IN is judged. -/
theorem edgeUses_ppsIn (huser : s.edgeUser 2 falling (fine / fineUnit) = true) : s.edgeUses 2 falling fine
    = s.ppsJudge fine ((fine : Int) - psFine (s.ikey 32 0x0503 0)).toNat s.tm.cal[(2 : Fin 10)] := by
  unfold State.edgeUses
  dsimp only
  rw [hmeas, huser]
  rfl

variable (hpw : s.pw.st ≤ 2) (hruns : s.clockStopped = false)
include hpw hruns

theorem tdcEdge_trigIn1 (huser : s.edgeUser 0 falling (fine / fineUnit) = true) (hdead : s.tm.dead[(0 : Fin 10)] ≤ fine)
    (hblank : s.tm.blank[(0 : Fin 2)] = 0) : s.tdcEdge 0 fine falling
      = (s.startDead 0 fine).pushEv fine 0x10 (s.cycleOf fine) (s.stampAt fine 2 s.tm.cal[(0 : Fin 10)]) 0xF#4
          s.tm.cal[(0 : Fin 10)] :=
  (tdcEdge_stamped (edgeActive_of_user huser) hpw hruns hdead hblank).trans (edgeUses_trigIn1 (s := s.startDead 0 fine) hmeas huser)

theorem tdcEdge_ppsIn (huser : s.edgeUser 2 falling (fine / fineUnit) = true) (hdead : s.tm.dead[(2 : Fin 10)] ≤ fine) :
    s.tdcEdge 2 fine falling = (s.startDead 2 fine).ppsJudge fine ((fine : Int) - psFine (s.ikey 32 0x0503 0)).toNat
      s.tm.cal[(2 : Fin 10)] :=
  (tdcEdge_stamped (edgeActive_of_user huser) hpw hruns hdead rfl).trans (edgeUses_ppsIn (s := s.startDead 2 fine) hmeas huser)

end

end

end Sys2Proof.Machine
end

section
/-!
O23: edges at the TDC inputs, PPS_IN and PPS_OUT, and the calibration of a TDC channel (07 R180, R181, R186 to R188; 08 R215;
log entries 30 and 54).
-/

namespace Sys2Proof.Machine

/-! PPS_IN (07 R180). -/

theorem tmEvent_quiet (s : State) (code sev b : Nat) (v : Int) : Quiet s (s.tmEvent code sev b v) := logEv_quiet _ _ _ _ _

/-- PPS_IN is no longer qualified, logged; what becomes of a schedule is still to follow. -/
def State.ppsDrop (s : State) (kind : Nat) : State :=
  ((s.modTm fun m => { m with ppsQual := false }).tmEvent 0x0504 sevWarning kind s.ticks).modCk fun k => { k with since := s.clk }

theorem ppsDrop_only (s : State) (kind : Nat) : OnlyClock s (s.ppsDrop kind) :=
  .modCk (.quiet (.modTm .refl) (tmEvent_quiet _ _ _ _ _))

theorem ppsDrop_tm (s : State) (kind : Nat) : (s.ppsDrop kind).tm = { s.tm with ppsQual := false } :=
  (tmEvent_quiet _ _ _ _ _).units.tm

/-- The loss of PPS_IN touches clock and time alone. -/
theorem ppsLose_only (s : State) (kind : Nat) : OnlyClock s (s.ppsLose kind) := by
  have hdrop := ppsDrop_only s kind
  unfold State.ppsLose
  split
  · exact .refl
  · dsimp only
    split
    · exact hdrop
    · exact .ite hdrop (.ite (.quiet (.modTm hdrop) (tmEvent_quiet _ _ _ _ _)) (.modTm hdrop))

/-- Of time it writes the qualification, which is then gone, and the schedule. -/
theorem ppsLose_tm (s : State) (kind : Nat) : ∃ e, (s.ppsLose kind).tm = { s.tm with ppsQual := false, epoch := e } := by
  have hdrop := ppsDrop_tm s kind
  unfold State.ppsLose
  split
  · next h =>
    have hq : s.tm.ppsQual = false := by simpa using h
    exact ⟨s.tm.epoch, by rw [← hq]⟩
  · dsimp only
    split
    · exact ⟨s.tm.epoch, hdrop⟩
    · next q _ =>
      split
      · exact ⟨s.tm.epoch, hdrop⟩
      · split
        · exact ⟨none, (tmEvent_quiet _ _ _ _ _).units.tm.trans (congrArg (fun m : Time => { m with epoch := none }) hdrop)⟩
        · exact ⟨some { q with since := s.clk }, congrArg (fun m : Time => { m with epoch := some { q with since := s.clk } }) hdrop⟩

/-- The edge at `fine` is the last one, with its count; it may be the awaited epoch. -/
def State.ppsTake (s : State) (fine ref : Nat) (valid : Bool) (n : Nat) (latch : Bool) : State :=
  s.modTm fun m => { m with
    ppsLast := some fine, ppsRef := some (ref, valid), ppsCount := n, epochEdge := if latch then some ref else m.epochEdge }

/-- The required number of edges qualifies PPS_IN. -/
def State.ppsGain (s : State) (n : Nat) : State :=
  if !s.tm.ppsQual && decide (s.mkey 0x0502 ≤ n) then
    (s.modTm fun m => { m with ppsQual := true }).tmEvent 0x0503 sevNotice 0 s.ppsStamp.ticks
  else s

theorem ppsGain_tm (s : State) (n : Nat) :
    (s.ppsGain n).tm = { s.tm with ppsQual := s.tm.ppsQual || decide (s.mkey 0x0502 ≤ n) } := by
  unfold State.ppsGain
  split
  · next h =>
    have hq : (s.tm.ppsQual || decide (s.mkey 0x0502 ≤ n)) = true := Bool.or_eq_true_iff.mpr (.inr (Bool.and_eq_true_iff.mp h).2)
    exact (tmEvent_quiet _ _ _ _ _).units.tm.trans (by rw [hq]; rfl)
  · next h =>
    have hq : (s.tm.ppsQual || decide (s.mkey 0x0502 ≤ n)) = s.tm.ppsQual :=
      Bool.or_eq_left_iff_imp.mpr fun hn => eq_true_of_ne_false fun hno => h (by rw [hno, hn]; rfl)
    rw [hq]

section
variable {s : State} {fine : Nat} (ref : Nat) (valid : Bool)

/-- An edge within tolerance counts on, and the required number qualifies PPS_IN. -/
theorem ppsJudge_near (h : s.tm.ppsLast.any (fun a => s.ppsNear a fine) = true) : ∃ e, (s.ppsJudge fine ref valid).tm = { s.tm with
    ppsLast := some fine, ppsRef := some (ref, valid), ppsCount := min 65535 (s.tm.ppsCount + 1), epochEdge := e
    ppsQual := s.tm.ppsQual || decide (s.mkey 0x0502 ≤ min 65535 (s.tm.ppsCount + 1)) } := by
  have htake : ∃ latch, s.ppsJudge fine ref valid
      = (s.ppsTake fine ref valid (min 65535 (s.tm.ppsCount + 1)) latch).ppsGain (min 65535 (s.tm.ppsCount + 1)) := by
    unfold State.ppsJudge
    rw [h]
    simp only [if_true, Bool.and_true]
    exact ⟨_, rfl⟩
  obtain ⟨latch, htake⟩ := htake
  exact ⟨_, (congrArg State.tm htake).trans (ppsGain_tm _ _)⟩

/-- An edge out of tolerance disqualifies PPS_IN and begins a new count. -/
theorem ppsJudge_far (h : s.tm.ppsLast.any (fun a => s.ppsNear a fine) = false) : ∃ x, (s.ppsJudge fine ref valid).tm = { s.tm with
    ppsLast := some fine, ppsRef := some (ref, valid), ppsCount := 1, epoch := x, ppsQual := false } := by
  have htake : s.ppsJudge fine ref valid = (s.ppsLose 1).ppsTake fine ref valid 1 false := by
    unfold State.ppsJudge
    rw [h]
    simp only [Bool.and_false, Bool.false_and, if_neg Bool.false_ne_true]
    rfl
  obtain ⟨x, hlose⟩ := ppsLose_tm s 1
  exact ⟨x, (congrArg State.tm htake).trans
    (congrArg (fun m : Time => { m with ppsLast := some fine, ppsRef := some (ref, valid), ppsCount := 1 }) hlose)⟩

end

theorem ppsMissing_late {s : State} {f : Nat} (hf : s.tm.ppsLast = some f)
    (h : f + (3000000000 + s.mkey 0x0501 * 3000) * fineUnit < s.clk * fineUnit) :
    s.ppsMissing = (s.ppsLose 0).modTm fun m => { m with ppsCount := 0 } := by
  unfold State.ppsMissing
  rw [hf]
  exact if_neg (Nat.not_le.mpr h)

theorem ppsMissing_timely {s : State} {f : Nat} (hf : s.tm.ppsLast = some f)
    (h : s.clk * fineUnit ≤ f + (3000000000 + s.mkey 0x0501 * 3000) * fineUnit) : s.ppsMissing = s := by
  unfold State.ppsMissing
  rw [hf]
  exact if_pos h

/-! PPS_OUT (07 R181). -/

section
variable {s : State}

theorem ppsPulse_raised (hon : s.mkey 0x0504 = 1) (hpw : s.pw.st ≤ 2) (hsecond : s.ticks % 3000000000 = 0)
    (hreached : ∀ e ∈ s.tm.offHist, e.1 ≠ s.clk) :
    s.ppsPulse = s.modTm fun m => { m with ppsOut := some (s.clk + s.mkey 0x0505 * 3000000) } :=
  if_pos ⟨hon, hpw, hsecond, List.all_eq_true.mpr fun e he => bne_iff_ne.mpr (hreached e he)⟩

theorem ppsPulse_off (h : s.mkey 0x0504 ≠ 1) : s.ppsPulse = s := if_neg fun hon => h hon.1

theorem ppsPulseEnd_due {e : Nat} (he : s.tm.ppsOut = some e) (h : e ≤ s.clk) :
    s.ppsPulseEnd = s.modTm fun m => { m with ppsOut := none } := by
  refine if_pos ?_
  rw [he]
  exact decide_eq_true h

theorem ppsPulseEnd_early {e : Nat} (he : s.tm.ppsOut = some e) (h : s.clk < e) : s.ppsPulseEnd = s := by
  refine if_neg ?_
  rw [he]
  exact fun hdue => absurd (of_decide_eq_true hdue) (Nat.not_le.mpr h)

end

/-! Calibration of a TDC channel (07 R187). -/

theorem tdcUncal_tm (s : State) (c : Fin 10) : (s.tdcUncal c).tm = { s.tm with cal := s.tm.cal.set c.val false } := by
  unfold State.tdcUncal
  dsimp only
  split
  · exact (logEv_quiet _ _ _ _ _).units.tm
  · rfl

theorem tdcUncal_units (s : State) (c : Fin 10) : SameUnits { s with tm := (s.tdcUncal c).tm } (s.tdcUncal c) := by
  have hunits := (tdcUncal_only s c).units
  rwa [tdcUncal_ck] at hunits

/-- Whether a channel is calibrated once a calibration with largest error `err` has completed. -/
def calAfter (was : Bool) (err : Nat) : Bool := if 2000 < err then false else if err ≤ 500 then true else was

section
variable {s : State} {c : Fin 10}

theorem tdcCal_stopped (h : s.clockStopped = true) (err : Nat) : s.tdcCal c err = s := if_pos (by rw [h]; rfl)

/-- A calibration that completes marks its tick and judges its channel. -/
theorem tdcCal_completes (hruns : s.clockStopped = false) (hpw : s.pw.st ≤ 2) (hdead : s.tm.dead[c] ≤ s.clk * fineUnit) (err : Nat) :
    (s.tdcCal c err).tm
        = { s.tm with calAt := s.tm.calAt.set c.val s.clk, cal := s.tm.cal.set c.val (calAfter s.tm.cal[c] err) }
      ∧ SameUnits { s with tm := (s.tdcCal c err).tm } (s.tdcCal c err) := by
  have hno : ¬(s.clockStopped || decide (3 ≤ s.pw.st) || decide (s.clk * fineUnit < s.tm.dead[c])) = true := by
    rw [hruns, decide_eq_false (Nat.not_le.mpr (Nat.lt_succ_of_le hpw)), decide_eq_false (Nat.not_lt.mpr hdead)]
    decide
  unfold State.tdcCal calAfter
  rw [if_neg hno]
  extract_lets s1 s2
  by_cases hbad : 2000 < err
  · rw [if_pos hbad, if_pos hbad]
    exact ⟨tdcUncal_tm s1 c, tdcUncal_units s1 c⟩
  · rw [if_neg hbad, if_neg hbad]
    by_cases hgain : err ≤ 500 ∧ s.tm.cal[c] = false
    · rw [if_pos hgain, if_pos hgain.1]
      split
      · have hquiet := tmEvent_quiet s2 0x0506 sevInfo 0 s.ticks
        refine ⟨hquiet.units.tm, ?_⟩
        rw [hquiet.units.tm]
        exact hquiet.units
      · exact ⟨rfl, .refl _⟩
    · have hkeep : (if err ≤ 500 then true else s.tm.cal[c]) = s.tm.cal[c] := by
        split
        · next hfine => exact (eq_true_of_ne_false fun hlost => hgain ⟨hfine, hlost⟩).symm
        · rfl
      rw [if_neg hgain, hkeep]
      have hsame : s.tm.cal.set c.val s.tm.cal[c] = s.tm.cal := Vector.set_getElem_self c.isLt
      rw [hsame]
      exact ⟨rfl, .refl _⟩

theorem tdcTimeout_due (hcal : s.tm.cal[c] = true) (h : s.tm.calAt[c] + 9000000 ≤ s.clk) : s.tdcTimeout c = s.tdcUncal c :=
  if_pos ⟨hcal, h⟩

theorem tdcTimeout_early (h : s.clk < s.tm.calAt[c] + 9000000) : s.tdcTimeout c = s := if_neg fun hdue => absurd hdue.2 (Nat.not_le.mpr h)

end

theorem exec_tdcEdge (s : State) (t frac : Nat) (c : Fin 10) (w : Swing) : exec (.tdcEdge t c frac w) s
    = go (if (s.reach t).edgeSwings c w.low w.high t then (s.reach t).tdcEdge c (t * fineUnit + frac % fineUnit) w.falling
        else s.reach t) := rfl

/-- Settles O23: an edge by whether it swings, is used, missed or stamped; each other row by where it acts and where it does not. -/
theorem ppsAndTdcEdges : Obligations.PpsAndTdcEdges := by
  refine ⟨fun s t frac c fall low high => ?_, fun s t => ?_, fun s t err c => ⟨fun hstop => ?_, fun hruns hpw hdead => ?_,
    fun hcal hdue => ?_, fun hearly => ?_⟩⟩
  -- TDC_EDGE and PPS_EDGE
  · intro fine
    have htick : fine / fineUnit = t := fineInstant_tick t frac
    refine ⟨fun hnone => ?_, fun hswing hact hpw hmiss => ?_, fun hswing huser hpw hruns hdead hblank hmeas => ?_,
      fun huser hpw hruns hdead hmeas => ?_⟩
    · rw [exec_tdcEdge]
      rcases hnone with hswing | hact
      · exact congrArg go (if_neg (ne_true_of_eq_false hswing))
      · rw [tdcEdge_inactive (by rw [htick]; exact hact), ite_self]
        rfl
    · have hrow := tdcEdge_missed (s := s.reach t) (by rw [htick]; exact hact) hpw hmiss
      exact congrArg go ((if_pos hswing).trans hrow)
    · have hrow := tdcEdge_trigIn1 (s := s.reach t) hmeas hpw hruns (by rw [htick]; exact huser) hdead hblank
      exact ⟨_, congrArg go ((if_pos hswing).trans hrow), rfl, rfl, rfl⟩
    · have huser' : (s.reach t).edgeUser 2 fall (fine / fineUnit) = true := by
        rw [htick]
        exact beq_iff_eq.mpr huser
      have hrow := tdcEdge_ppsIn (s := s.reach t) hmeas hpw hruns huser' hdead
      refine ⟨fun hnear => ?_, fun hfar => ?_⟩
      · obtain ⟨e, htm⟩ := ppsJudge_near (s := (s.reach t).startDead 2 fine) _ _ hnear
        exact ⟨_, congrArg go hrow, congrArg Time.ppsLast htm, congrArg Time.ppsCount htm, (congrArg Time.off htm :),
          congrArg Time.ppsQual htm⟩
      · obtain ⟨x, htm⟩ := ppsJudge_far (s := (s.reach t).startDead 2 fine) _ _ hfar
        exact ⟨_, congrArg go hrow, congrArg Time.ppsLast htm, congrArg Time.ppsCount htm, congrArg Time.ppsQual htm,
          (congrArg Time.off htm :)⟩
  -- PPS_MISSING, PPS_OUT_PULSE, PPS_OUT_END
  · intro c
    refine ⟨fun f hf => ⟨fun hin => congrArg go (ppsMissing_timely hf hin), fun hlate => ?_⟩,
      fun hon hpw hsecond hreached => congrArg go (ppsPulse_raised (s := s.reach t) hon hpw hsecond hreached),
      fun hoff => congrArg go (ppsPulse_off hoff),
      fun e he => ⟨fun hdue => congrArg go (ppsPulseEnd_due he hdue), fun hearly => congrArg go (ppsPulseEnd_early he hearly)⟩⟩
    obtain ⟨e, htm⟩ := ppsLose_tm (s.reach t) 0
    exact ⟨_, congrArg go (ppsMissing_late (s := s.reach t) hf hlate), congrArg Time.ppsQual htm, rfl,
      (ppsLose_only (s.reach t) 0).modTm.units⟩
  -- TDC_CALIBRATION
  · exact congrArg go (tdcCal_stopped (s := s.reach t) hstop err)
  · obtain ⟨htm, hunits⟩ := tdcCal_completes (s := s.reach t) hruns hpw hdead err
    refine ⟨_, rfl, ?_, ?_, fun d hd => ?_, hunits⟩
    · rw [htm]
      exact Vector.getElem_set_self c.isLt
    · rw [htm]
      exact Vector.getElem_set_self c.isLt
    · rw [htm]
      exact Vector.getElem_set_ne c.isLt d.isLt fun h => hd (Fin.ext h.symm)
  -- TDC_CAL_TIMEOUT
  · exact ⟨_, congrArg go (tdcTimeout_due (s := s.reach t) hcal hdue), tdcUncal_tm _ c, tdcUncal_units _ c⟩
  · exact congrArg go (tdcTimeout_early (s := s.reach t) hearly)

end Sys2Proof.Machine
end

section
/-!
O24: TDC_MEASURE begins work or cancels it, and the expiry of a measurement writes a record without interval (07 R189, R190, R192, R193;
log entry 32).
-/

namespace Sys2Proof.Machine

/-! TDC_MEASURE (07 R189, R193). -/

/-- The running measurement that a payload repeats. -/
def State.repeated (s : State) (w : Measure) : Option Measure := s.tm.meas.find? (fun x => x.key == w.key && x.count == w.count)

/-- Whether a measurement holds a channel that another needs. -/
def State.heldFor (s : State) (w : Measure) : Bool := s.tm.meas.any (fun x => x.holds w.startSrc || x.holds w.stopSrc)

section
variable {s : State} {r : Req}

theorem measureBody_malformed (h : measureOk r.payload = false) : measureBody r s = fails eParam s := if_pos h

/-- The measurement runs as accepted work. -/
def State.beginMeasure (s : State) (r : Req) (w : Measure) : State :=
  (s.modTm fun x => { x with meas := x.meas ++ [w] }).addWork r w.key 0

section
variable (hok : measureOk r.payload = true)
include hok

theorem measureBody_cancels {x : Measure} (h : s.repeated (measureOf r.mb.val r.payload) = some x) :
    measureBody r s = fails eBusy (s.endMeasure x stOk) := by
  unfold State.repeated at h
  unfold measureBody
  dsimp only
  rw [if_neg (ne_false_of_eq_true hok), h]

variable (hnew : s.repeated (measureOf r.mb.val r.payload) = none)
include hnew

/-- The checks of a measurement that repeats none, in their order. -/
theorem measureBody_new : measureBody r s
    = if s.heldFor (measureOf r.mb.val r.payload) = true then fails eBusy s
      else if s.workFull = true then fails eNores s
      else if (s.auxWanting (measureOf r.mb.val r.payload).startSrc || s.auxWanting (measureOf r.mb.val r.payload).stopSrc) = true then
        fails eConflict s
      else accepted (s.beginMeasure r (measureOf r.mb.val r.payload)) := by
  unfold State.repeated at hnew
  unfold measureBody
  dsimp only
  rw [if_neg (ne_false_of_eq_true hok), hnew]
  rfl

theorem measureBody_held (h : s.heldFor (measureOf r.mb.val r.payload) = true) : measureBody r s = fails eBusy s :=
  (measureBody_new hok hnew).trans (if_pos h)

theorem measureBody_accepts (h : s.heldFor (measureOf r.mb.val r.payload) = false) (hroom : s.mr.work.length < 16)
    (hstart : s.auxWanting (measureOf r.mb.val r.payload).startSrc = false)
    (hstop : s.auxWanting (measureOf r.mb.val r.payload).stopSrc = false) :
    measureBody r s = accepted (s.beginMeasure r (measureOf r.mb.val r.payload)) := by
  have hroom' : s.workFull = false := decide_eq_false (Nat.not_le.mpr hroom)
  rw [measureBody_new hok hnew, h, hroom', hstart, hstop]
  rfl

end

theorem endMeasure_tm (s : State) (x : Measure) (status : Nat) :
    (s.endMeasure x status).tm = { s.tm with meas := s.tm.meas.filter (fun y => y.key != x.key) } := 
  (endWorkIf_units _ _ _ _).tm

end

/-! MEASUREMENT_EXPIRY (07 R190, R192). -/

theorem measRecord_length (a : Nat × Stamp × Bool) (fl unpaired : Nat) (iv : Int) : (measRecord a fl unpaired iv).length = 32 := by
  unfold measRecord
  simp only [List.length_append, leBytes_length, stamp_bytes_length, List.length_replicate]

section
variable {s : State} {m : Measure}

theorem measureExpiry_only (h : s.tm.meas = [m]) : s.measureExpiry m.startSrc = s.expireMeasure m (s.clk * fineUnit + 1) := by
  have hfind : [m].find? (fun x => x.startSrc == m.startSrc) = some m := List.find?_cons_of_pos (beq_self_eq_true _)
  unfold State.measureExpiry
  rw [h, hfind]

theorem expireMeasure_closed (h : m.open_ = none) (lim : Nat) : s.expireMeasure m lim = s := by
  unfold State.expireMeasure
  rw [h]

/-- A whole tick lies before the end of the present one when it has come. -/
theorem fineUnit_reached (x c : Nat) : x * fineUnit < c * fineUnit + 1 ↔ x ≤ c := by
  unfold fineUnit
  omega

/-- An open measurement closes at its expiry tick without a stop edge. -/
theorem expireMeasure_open {a : Nat × Stamp × Bool} (h : m.open_ = some a) (lim : Nat) : s.expireMeasure m lim
    = if (a.1 / fineUnit + 3000 * m.wait) * fineUnit < lim then
        s.closeMeasure m 0 (8 + 16 * flag (!a.2.2)) ((a.1 / fineUnit + 3000 * m.wait) * fineUnit)
      else s := by
  unfold State.expireMeasure Measure.expiry
  rw [h]
  rfl

/-- The measurement once a record is written. -/
def Measure.counted (m : Measure) (fl close : Nat) : Measure :=
  { m with done := m.done + 1, orFlags := m.orFlags ||| fl, unpaired := 0, open_ := none, lastClose := some close }

/-- A close with the link up and records left writes the record and counts on. -/
theorem closeMeasure_writes {a : Nat × Stamp × Bool} (h : m.open_ = some a) (hup : s.hl.up = true) (hleft : m.done + 1 < m.count)
    (iv : Int) (fl close : Nat) : s.closeMeasure m iv fl close = (s.modHl fun h => { h with
      hostMem := memWriteBytes h.hostMem (m.buf + 32 * m.done) (measRecord (s.freshEdge a) fl m.unpaired iv) }).putMeasure
        (m.counted fl close) := by
  unfold State.closeMeasure
  rw [h, hup]
  exact if_neg (Nat.not_le.mpr hleft)

theorem putMeasure_single {k : Measure} (h : s.tm.meas = [m]) (hkey : m.key = k.key) :
    s.putMeasure k = s.modTm fun x => { x with meas := [k] } := by
  have hput : s.tm.meas.map (fun y => if y.key = k.key then k else y) = [k] := by
    rw [h, List.map_singleton, if_pos hkey]
  exact congrArg (fun l => s.modTm fun x => { x with meas := l }) hput

/-- At its expiry tick the one measurement, open and with records left, is counted and its record written. -/
theorem measureExpiry_writes {a : Nat × Stamp × Bool} (hm : s.tm.meas = [m]) (hopen : m.open_ = some a)
    (hdue : a.1 / fineUnit + 3000 * m.wait ≤ s.clk) (hup : s.hl.up = true) (hleft : m.done + 1 < m.count) :
    s.measureExpiry m.startSrc = (s.modHl fun h => { h with
      hostMem := memWriteBytes h.hostMem (m.buf + 32 * m.done) (measRecord (s.freshEdge a) (8 + 16 * flag (!a.2.2)) m.unpaired 0) }).modTm
        fun x => { x with meas := [m.counted (8 + 16 * flag (!a.2.2)) ((a.1 / fineUnit + 3000 * m.wait) * fineUnit)] } := by
  rw [measureExpiry_only hm, expireMeasure_open hopen, if_pos ((fineUnit_reached _ _).mpr hdue), closeMeasure_writes hopen hup hleft]
  exact putMeasure_single (m := m) hm rfl

end

/-- Settles O24: the command by its own part, the expiry by what it closes. -/
theorem intervalMeasurements : Obligations.IntervalMeasurements := by
  refine ⟨fun s t m hr => ⟨fun hbad => ?_, fun hok hnew hheld => ?_, fun hok x hsame => ?_,
    fun hok hnew hfree hstart hstop hroom => ?_⟩, fun s t m hm => ⟨fun hclosed => ?_, fun a hopen => ⟨fun hearly => ?_,
    fun hdue hup hleft hwf => ?_⟩⟩⟩
  -- TDC_MEASURE
  · exact command_fails hr (measureBody_malformed hbad)
  · exact command_fails hr (measureBody_held (s := s.reach t) hok hnew hheld)
  · have hclk : ((s.reach t).endMeasure x stOk).clk = (s.reach t).clk := (endMeasure_only _ _ _).clk
    refine (command_replies hr (measureBody_cancels (s := s.reach t) hok hsame) hclk).mono ?_
    exact fun u ⟨hreply, hunits, _⟩ => ⟨hreply, congrArg Time.meas (hunits.tm.trans (endMeasure_tm _ _ _))⟩
  · refine (command_replies hr (measureBody_accepts (s := s.reach t) hok hnew hfree hroom hstart hstop) rfl).mono ?_
    rintro u ⟨hreply, hunits, -, -, -, -, hwork⟩
    refine ⟨hreply, hunits.tm, ?_, hwork⟩
    rw [hunits.tm]
    exact hunits
  -- MEASUREMENT_EXPIRY
  · exact congrArg go ((measureExpiry_only (s := s.reach t) hm).trans (expireMeasure_closed hclosed _))
  · refine congrArg go ((measureExpiry_only (s := s.reach t) hm).trans ((expireMeasure_open hopen _).trans (if_neg ?_)))
    exact fun hreached => absurd ((fineUnit_reached _ _).mp hreached) (Nat.not_le.mpr hearly)
  · have hrow := measureExpiry_writes (s := s.reach t) hm hopen hdue hup hleft
    have hread := memReadBytes_writeBytes hwf (m.buf + 32 * m.done)
      (measRecord ((s.reach t).freshEdge a) (8 + 16 * flag (!a.2.2)) m.unpaired 0)
    rw [measRecord_length] at hread
    refine ⟨_, congrArg go hrow, rfl, ?_, fun y hy => ?_, .refl _, .refl _⟩
    · simpa only [State.modTm_hl, State.modHl_hl, State.reach_hl] using hread
    · simp only [State.modTm_hl, State.modHl_hl, State.reach_hl]
      exact memRead_writeBytes_outside _ _ _ hwf (by rw [measRecord_length]; exact hy)

end Sys2Proof.Machine
end

section
/-!
O56: the machine after reset (02 R35, R36, R48, R63; 07 R178; 16 R404; 18 R449, R453; 19 R464, R478; log entry 1).
-/

namespace Sys2Proof.Machine

/-- Settles O56: each value is read off the reset state of its unit; vectors hold one value throughout. -/
theorem resetState : Obligations.ResetState := by
  have hcoeff (k : Fin 64) : State.reset.mon.coeff[k] = (0, 16777216) := Vector.getElem_replicate k.isLt
  have hpulse (p : Fin 5) : State.reset.pins.pulse[p] = none := Vector.getElem_replicate p.isLt
  have hport (p : Fin 3) : State.reset.ar.ports[p] = false := Vector.getElem_replicate p.isLt
  have hch (c : Fin 4) : State.reset.ch[c] = Chan.reset := Vector.getElem_replicate c.isLt
  have hmbox (m : Fin 16) : State.reset.mbox (m.castLE (by decide)) = { Mailbox.reset with vector := m.val % 16 } :=
    Vector.getElem_ofFn (Nat.lt_succ_of_lt m.isLt)
  refine ⟨rfl, rfl, rfl, rfl, fun m => ⟨congrArg Mailbox.state (hmbox m), ?_⟩, rfl, rfl, rfl, rfl, rfl, rfl, rfl,
    fun c => congrArg Chan.st (hch c), rfl, rfl, hport, hcoeff, rfl, rfl, hpulse⟩
  exact (congrArg Mailbox.vector (hmbox m)).trans (Nat.mod_eq_of_lt m.isLt)

end Sys2Proof.Machine
end

section
/-!
O33: crossings of a level and the priming of its sides (08 R203).
-/

namespace Sys2Proof.Machine

section
variable {l prev x : Int} {primed : Bool}

theorem risesThrough_iff : risesThrough l prev x primed = true ↔ prev < l ∧ l ≤ x ∧ primed = true := by
  simp [risesThrough, and_assoc]

theorem fallsThrough_iff : fallsThrough l prev x primed = true ↔ l < prev ∧ x ≤ l ∧ primed = true := by
  simp [fallsThrough, and_assoc]

theorem risesThrough_descending (h : ¬ prev ≤ x) : risesThrough l prev x primed = false :=
  Bool.eq_false_iff.mpr fun hr => by
    obtain ⟨hbelow, habove, -⟩ := risesThrough_iff.mp hr
    omega

theorem fallsThrough_ascending (h : prev ≤ x) : fallsThrough l prev x primed = false :=
  Bool.eq_false_iff.mpr fun hf => by
    obtain ⟨habove, hbelow, -⟩ := fallsThrough_iff.mp hf
    omega

end

section
variable {d : Det} {v : Levels} {prev x : Int}

/-- The crossings of a sample are those of A and of B that its direction allows. -/
theorem mem_crossings {c : Crossing} : c ∈ d.crossings v prev x ↔
    c = ⟨false, true, v.a⟩ ∧ risesThrough v.a prev x d.aR = true ∨ c = ⟨false, false, v.a⟩ ∧ fallsThrough v.a prev x d.aF = true
    ∨ c = ⟨true, true, v.b⟩ ∧ risesThrough v.b prev x d.bR = true ∨ c = ⟨true, false, v.b⟩ ∧ fallsThrough v.b prev x d.bF = true := by
  unfold Det.crossings
  split
  · next hup =>
    rw [fallsThrough_ascending hup, fallsThrough_ascending hup]
    simp [and_comm]
  · next hdown =>
    rw [risesThrough_descending hdown, risesThrough_descending hdown]
    simp [and_comm, or_comm]

theorem mem_crossings_risingA : (⟨false, true, v.a⟩ : Crossing) ∈ d.crossings v prev x ↔ prev < v.a ∧ v.a ≤ x ∧ d.aR = true := by
  simp [mem_crossings, risesThrough_iff]

theorem mem_crossings_fallingA : (⟨false, false, v.a⟩ : Crossing) ∈ d.crossings v prev x ↔ v.a < prev ∧ x ≤ v.a ∧ d.aF = true := by
  simp [mem_crossings, fallsThrough_iff]

theorem mem_crossings_risingB : (⟨true, true, v.b⟩ : Crossing) ∈ d.crossings v prev x ↔ prev < v.b ∧ v.b ≤ x ∧ d.bR = true := by
  simp [mem_crossings, risesThrough_iff]

theorem mem_crossings_fallingB : (⟨true, false, v.b⟩ : Crossing) ∈ d.crossings v prev x ↔ v.b < prev ∧ x ≤ v.b ∧ d.bF = true := by
  simp [mem_crossings, fallsThrough_iff]

theorem level_of_mem_crossings {c : Crossing} (hc : c ∈ d.crossings v prev x) (hA : c.ofB = false) : c.level = v.a := by
  rcases mem_crossings.mp hc with ⟨rfl, -⟩ | ⟨rfl, -⟩ | ⟨rfl, -⟩ | ⟨rfl, -⟩
  · rfl
  · rfl
  · cases hA
  · cases hA

/-- The test by which priming finds a crossing of A: its direction tells. -/
theorem crossings_any_A (rising : Bool) : (d.crossings v prev x).any (fun c => c.ofB == false && c.rising == rising) = true
    ↔ (⟨false, rising, v.a⟩ : Crossing) ∈ d.crossings v prev x := by
  rw [List.any_eq_true]
  refine ⟨fun ⟨⟨b, r, l⟩, hc, htest⟩ => ?_, fun h => ⟨_, h, by simp⟩⟩
  obtain ⟨rfl, rfl⟩ : b = false ∧ r = rising := by simpa using htest
  exact level_of_mem_crossings hc rfl ▸ hc

end

theorem primeR_iff {l h x : Int} {primed crossed : Bool} :
    primeR l h x primed crossed = true ↔ x ≤ l - h ∨ primed = true ∧ ¬ crossed = true := by simp [primeR]

theorem primeF_iff {l h x : Int} {primed crossed : Bool} :
    primeF l h x primed crossed = true ↔ l + h ≤ x ∨ primed = true ∧ ¬ crossed = true := by simp [primeF]

/-- Settles O33: which crossings a sample makes, and how priming reads them. -/
theorem crossingsAndHysteresis : Obligations.CrossingsAndHysteresis := fun _ _ _ _ =>
  ⟨mem_crossings_risingA, mem_crossings_fallingA, mem_crossings_risingB, mem_crossings_fallingB,
    primeR_iff.trans (by rw [crossings_any_A, mem_crossings_risingA]),
    primeF_iff.trans (by rw [crossings_any_A, mem_crossings_fallingA])⟩

end Sys2Proof.Machine
end

section
/-!
SUPPORT. What the examination of one sample does to a detector (08 R203–R209): the keys that it took at its start stand, and an edge
detector on a rising slope fires at rising crossings of A alone.
-/

namespace Sys2Proof.Machine

/-! Folds that thread a state and collect what its steps give. -/

section
variable {α β γ ε : Type} {f : β → α → β × List γ}

theorem foldl_collect_keeps {p : β → ε} (hf : ∀ b a, p (f b a).1 = p b) (l : List α) (r : β × List γ) :
    p (l.foldl (fun r a => ((f r.1 a).1, r.2 ++ (f r.1 a).2)) r).1 = p r.1 := by
  induction l generalizing r with
  | nil => rfl
  | cons a l ih => exact (ih _).trans (hf _ _)

theorem foldl_collect_still {g : α → List γ} (hf : ∀ b a, f b a = (b, g a)) (l : List α) (r : β × List γ) :
    l.foldl (fun r a => ((f r.1 a).1, r.2 ++ (f r.1 a).2)) r = (r.1, r.2 ++ l.flatMap g) := by
  induction l generalizing r with
  | nil => exact Prod.ext rfl (List.append_nil r.2).symm
  | cons a l ih => rw [List.foldl_cons, ih, hf, List.flatMap_cons, List.append_assoc]

end

/-! The keys of a detector. -/

theorem setCand_keys (d : Det) (col : Bool) (x : Option Cand) : (d.setCand col x).keys = d.keys := by
  unfold Det.setCand
  split <;> rfl

theorem act_keys (d : Det) (g : DetCfg) (col : Bool) (a : ColAct) (f : Fired) : (d.act g col a f).1.keys = d.keys := by
  cases a with
  | nothing => rfl
  | fire => rfl
  | opens => exact setCand_keys _ _ _
  | closes => exact setCand_keys _ _ _
  | ends => exact setCand_keys _ _ _
  | abandons => exact setCand_keys _ _ _
  | closesOpens => exact setCand_keys _ _ _

theorem cross_keys (d : Det) (g : DetCfg) (c : Crossing) (f : Fired) : (d.cross g c f).1.keys = d.keys := by
  unfold Det.cross
  split
  · split
    · rfl
    · exact act_keys _ _ _ _ _
  · exact foldl_collect_keeps (f := fun (d : Det) col => d.act g col (colActIn g.ty col c) f) (p := Det.keys)
      (fun _ _ => act_keys _ _ _ _ _) _ _

theorem compareSample_keys (s : State) (c : Fin 4) (i0 : Nat) (w : Window) (g : DetCfg) (v : Levels) (d : Det) :
    (s.compareSample c i0 w g v d).det.keys = d.keys :=
  foldl_collect_keeps (f := fun (d : Det) (x : Crossing × Fired) => d.cross g x.1 x.2) (p := Det.keys)
    (fun _ _ => cross_keys _ _ _ _) _ _

theorem examine_keys (s : State) (c : Fin 4) (i0 : Nat) (w : Window) : (s.examine c i0 w).det.keys = s.ch[c].det.keys := by
  unfold State.examine
  dsimp only
  split
  · rfl
  · split
    · rfl
    · exact compareSample_keys _ _ _ _ _ _ _

/-! The edge type on a rising slope (08 R205). -/

section
variable {d : Det} {g : DetCfg} (hty : g.ty = 1) (hcols : g.cols = [false])
include hty hcols

/-- The detector fires at a rising crossing of A, and stands. -/
theorem cross_edge (c : Crossing) (f : Fired) : d.cross g c f = (d, if c.ofB = false ∧ c.rising = true then [f] else []) := by
  unfold Det.cross
  rw [hty, hcols]
  obtain ⟨ofB, rising, level⟩ := c
  cases ofB <;> cases rising <;> rfl

end

/-- Of the crossings of a sample at most one rises through A. -/
theorem crossings_flatMap_risingA {α : Type} (d : Det) (v : Levels) (prev x : Int) (h : Crossing → α) :
    (d.crossings v prev x).flatMap (fun c => if c.ofB = false ∧ c.rising = true then [h c] else [])
      = if risesThrough v.a prev x d.aR = true then [h ⟨false, true, v.a⟩] else [] := by
  unfold Det.crossings
  split
  · cases risesThrough v.a prev x d.aR <;> cases risesThrough v.b prev x d.bR <;> rfl
  · next hdown =>
    rw [risesThrough_descending hdown]
    cases fallsThrough v.a prev x d.aF <;> cases fallsThrough v.b prev x d.bF <;> rfl

theorem compareSample_fired_edge (s : State) (c : Fin 4) (i0 : Nat) {w : Window} {g : DetCfg} (v : Levels) (d : Det) (hty : g.ty = 1)
    (hcols : g.cols = [false]) (hset : windowSettles w = false) :
    (s.compareSample c i0 w g v d).fired
      = if w.x0.val.toInt < v.a ∧ v.a ≤ w.x1.val.toInt ∧ d.aR = true
        then [⟨s.crossFine c i0 w ⟨false, true, v.a⟩, !windowFlat w⟩] else [] := by
  have hfold := foldl_collect_still (f := fun (d : Det) (x : Crossing × Fired) => d.cross g x.1 x.2)
    (fun d x => cross_edge (d := d) hty hcols x.1 x.2)
  unfold State.compareSample
  dsimp only
  rw [hset, hfold, List.flatMap_map, if_neg Bool.false_ne_true]
  exact (crossings_flatMap_risingA d v _ _ fun x => (⟨s.crossFine c i0 w x, !windowFlat w⟩ : Fired)).trans
    (ite_congr (propext risesThrough_iff) (fun _ => rfl) fun _ => rfl)

end Sys2Proof.Machine
end

section
/-!
O34: what DETECTOR_EVENT and TIMER_EVENT put on the way to the sequencers (08 R199, R205, R213, R217, R220).
-/

namespace Sys2Proof.Machine

/-! Events of a detector. -/

/-- The event that a detector of channel `c` fires at the sample with nominal instant `i1` (08 R199, R220). -/
def State.detEvent (s : State) (c : Fin 4) (i1 : Nat) (x : Fired) : Ev :=
  ⟨x.fine.toNat, 1 + c.val, s.stampAt x.fine.toNat 1 x.valid, 0xF#4, s.cycleOf x.fine.toNat + 404, x.valid, s.detInstant c i1⟩

theorem foldl_raiseDet (c : Fin 4) (i1 : Nat) (l : List Fired) (s : State) :
    l.foldl (fun a x => a.raiseDet c i1 x) s = s.setEvq (s.evq ++ l.map (s.detEvent c i1)) := by
  induction l generalizing s with
  | nil => exact congrArg s.setEvq (List.append_nil _).symm
  | cons x l ih =>
    refine (ih (s.raiseDet c i1 x)).trans (congrArg s.setEvq ?_)
    exact List.append_assoc s.evq [s.detEvent c i1 x] (l.map (s.detEvent c i1))

/-- The events do not depend on what a detector has become, but for the keys that it took. -/
theorem detEvent_modCh {c : Fin 4} {d : Det} (s : State) (hkeys : d.keys = s.ch[c].det.keys) :
    (s.modCh c fun h => { h with det := d }).detEvent c = s.detEvent c := by
  have hkey : (s.modCh c fun h => { h with det := d }).detKey 0x0102 c = s.detKey 0x0102 c := by
    unfold State.detKey
    rw [modCh_same, hkeys]
  funext i1 x
  unfold State.detEvent State.detInstant
  rw [hkey]
  rfl

/-- What was found at a sample is taken: the detector as it became, its events on the way. -/
def State.takeFound (s : State) (c : Fin 4) (i1 : Nat) (f : Found) : State :=
  (s.modCh c fun h => { h with det := f.det }).setEvq (s.evq ++ f.fired.map (s.detEvent c i1))

theorem takeFound_det (s : State) (c : Fin 4) (i1 : Nat) (f : Found) : (s.takeFound c i1 f).ch[c].det = f.det :=
  congrArg Chan.det (modCh_same s c fun h => { h with det := f.det })

theorem takeFound_other (s : State) {c k : Fin 4} (i1 : Nat) (f : Found) (h : k ≠ c) : (s.takeFound c i1 f).ch[k] = s.ch[k] :=
  modCh_other s (fun h => { h with det := f.det }) h

theorem hear_det (s : State) (c : Fin 4) (g : Stream) : (s.hear c g).ch[c].det = s.ch[c].det := by
  unfold State.hear
  rw [modCh_same]

theorem hear_other (s : State) {c k : Fin 4} (g : Stream) (h : k ≠ c) : (s.hear c g).ch[k] = s.ch[k] := modCh_other s _ h

/-! DETECTOR_EVENT. -/

/-- One sample index as DETECTOR_EVENT examines it: the detectors' step, then the codes that were taken are kept. -/
def State.detectorStep (s : State) (i0 : Nat) (cs : Fin 4 → Codes) : State :=
  allCh.foldl (fun a k => if s.examines k (i0 + samplePeriod s.mode) then a.hear k (s.windowStream k i0 (cs k)) else a)
    (s.sampleStep i0 fun k => s.windowOf k i0 (cs k))

theorem exec_detectorEvent (t tick pos : Nat) (cs : Fin 4 → Codes) (s : State) :
    exec (.detectorEvent t tick pos (cs 0) (cs 1) (cs 2) (cs 3)) s
      = go ((s.reach t).detectorStep (tick * fineUnit + pos % samplesPerTick s.mode * samplePeriod s.mode) cs) := by
  have hcodes : (fun k : Fin 4 => match k with | 0 => cs 0 | 1 => cs 1 | 2 => cs 2 | _ => cs 3) = cs := by
    funext k
    match k with
    | 0 => rfl
    | 1 => rfl
    | 2 => rfl
    | 3 => rfl
  exact congrArg (fun k => go ((s.reach t).detectorStep _ k)) hcodes

/-- A fold over the channels in which one of them has a part does that part. -/
theorem foldl_allCh_single {α : Type} {f : α → Fin 4 → α} {c : Fin 4} (h : ∀ k, k ≠ c → ∀ a, f a k = a) (a : α) :
    allCh.foldl f a = f a c := by
  have hall : allCh.foldl f a = f (f (f (f a 0) 1) 2) 3 := rfl
  rw [hall]
  match c, h with
  | 0, h => rw [h 3 (by decide), h 2 (by decide), h 1 (by decide)]
  | 1, h => rw [h 3 (by decide), h 2 (by decide), h 0 (by decide)]
  | 2, h => rw [h 3 (by decide), h 1 (by decide), h 0 (by decide)]
  | 3, h => rw [h 2 (by decide), h 1 (by decide), h 0 (by decide)]

theorem foldl_allCh_still {α : Type} {f : α → Fin 4 → α} (h : ∀ k a, f a k = a) (a : α) : allCh.foldl f a = a :=
  (foldl_allCh_single (c := 0) (fun k _ => h k) a).trans (h 0 a)

section
variable {s : State} {i0 : Nat}

/-- Where no detector examines the sample, no channel has a part in the step. -/
theorem sampleStep_unexamined (w : Fin 4 → Window) (h : ∀ k, s.examines k (i0 + samplePeriod s.mode) = false) :
    s.sampleStep i0 w = s := by
  unfold State.sampleStep
  dsimp only
  rw [foldl_allCh_still fun k a => by rw [h k]; rfl, foldl_allCh_still fun k a => by rw [h k]; rfl]

theorem detectorStep_unexamined (cs : Fin 4 → Codes) (h : ∀ k, s.examines k (i0 + samplePeriod s.mode) = false) :
    s.detectorStep i0 cs = s := by
  unfold State.detectorStep
  rw [foldl_allCh_still fun k a => by rw [h k]; rfl, sampleStep_unexamined _ h]

section
variable {c : Fin 4} (hc : s.examines c (i0 + samplePeriod s.mode) = true)
  (hothers : ∀ k, k ≠ c → s.examines k (i0 + samplePeriod s.mode) = false)
include hc hothers

/-- Where one detector alone examines the sample, its type no pattern, what it finds is taken. -/
theorem sampleStep_single (w : Fin 4 → Window) (hty : s.detKey 0x0600 c ≠ 8) :
    s.sampleStep i0 w = s.takeFound c (i0 + samplePeriod s.mode) (s.examine c i0 (w c)) := by
  have hpattern : (s.detKey 0x0600 c == 8) = false := beq_false_of_ne hty
  unfold State.sampleStep
  dsimp only
  rw [foldl_allCh_single (c := c) fun k hk a => by rw [hothers k hk]; rfl,
    foldl_allCh_single (c := c) fun k hk a => by rw [hothers k hk]; rfl, hc, hpattern]
  refine (foldl_raiseDet _ _ _ _).trans ?_
  rw [detEvent_modCh s (examine_keys s c i0 (w c))]
  rfl

theorem detectorStep_single (cs : Fin 4 → Codes) (hty : s.detKey 0x0600 c ≠ 8) :
    s.detectorStep i0 cs = (s.takeFound c (i0 + samplePeriod s.mode) (s.examine c i0 (s.windowOf c i0 (cs c)))).hear c
      (s.windowStream c i0 (cs c)) := by
  unfold State.detectorStep
  rw [foldl_allCh_single (c := c) fun k hk a => by rw [hothers k hk]; rfl, hc, sampleStep_single hc hothers _ hty]
  rfl

end

end

/-! TIMER_EVENT. -/

theorem timerEvent_due {s : State} {c : Fin 4} {x : Nat} (harmed : s.armedOn c = true) (htick : s.timerTick c = some x)
    (hdue : x ≤ s.clk) : s.timerEvent c = s.raiseTimer c x := by
  unfold State.timerEvent
  rw [htick]
  exact if_pos (Bool.and_eq_true_iff.mpr ⟨harmed, decide_eq_true hdue⟩)

/-- The next instant of a periodic timer counts slice-clock ticks; any other timer has none. -/
theorem raiseTimer_timerTick (s : State) (c : Fin 4) (x : Nat) :
    (s.raiseTimer c x).timerTick c = if s.akey 0x0610 c = 2 then some (x + s.akey 0x0612 c) else none := by
  unfold State.raiseTimer State.timerTick
  rw [modCh_same]
  split <;> rfl

/-- Settles O34: one detector's step with the events it queues; what an edge detector fires; a timer at its instant. -/
theorem detectorEventsQueue : Obligations.DetectorEventsQueue := by
  refine ⟨fun s t tick pos cs => ⟨fun hnone => ?_, fun c hc hothers hty => ?_⟩,
    fun s i0 c w v g hty hcols hset => compareSample_fired_edge s c i0 v _ hty hcols hset,
    fun s t x c harmed htick hdue => ⟨_, congrArg go (timerEvent_due (s := s.reach t) harmed htick hdue), rfl, ?_, rfl⟩⟩
  · rw [exec_detectorEvent, detectorStep_unexamined cs hnone]
    rfl
  · refine ⟨_, (exec_detectorEvent t tick pos cs s).trans (congrArg go (detectorStep_single hc hothers cs hty)),
      (hear_det _ _ _).trans (takeFound_det _ _ _ _), rfl, fun k hk => ?_, rfl, rfl⟩
    exact (hear_other _ _ hk).trans (takeFound_other _ _ _ hk)
  · exact raiseTimer_timerTick (s.reach t) c x

end Sys2Proof.Machine
end

section
/-!
SUPPORT. What an operation on one channel leaves: time, commands, firmware, and all that a command sees of the other channels.
-/

namespace Sys2Proof.Machine

/-- Slice clock, command interface, module time and firmware stand. -/
structure Around (s u : State) : Prop where
  clk : u.clk = s.clk
  mr : u.mr = s.mr
  tm : u.tm = s.tm
  fw : u.fw = s.fw

theorem Around.refl (s : State) : Around s s := ⟨rfl, rfl, rfl, rfl⟩

theorem Around.trans {s u v : State} (h : Around s u) (k : Around u v) : Around s v :=
  ⟨k.clk.trans h.clk, k.mr.trans h.mr, k.tm.trans h.tm, k.fw.trans h.fw⟩

theorem Around.foldl {f : State → Fin 4 → State} (h : ∀ a d, Around a (f a d)) (l : List (Fin 4)) (s : State) :
    Around s (l.foldl f s) := by
  induction l generalizing s with
  | nil => exact .refl s
  | cons x xs ih => exact (h s x).trans (ih _)

/-- What stands beside the work on channel `d`: time and commands, and of the other channels all but what follows them. -/
structure Beside (d : Fin 4) (s u : State) : Prop extends Around s u where
  others : ∀ c, c ≠ d → u.ch[c].core = s.ch[c].core

section
variable {d : Fin 4} {s u v : State}

theorem Beside.refl : Beside d s s := ⟨.refl s, fun _ _ => rfl⟩

/-- A step that leaves time, commands and channels. -/
theorem Beside.keep (h : Beside d s u) (hclk : v.clk = u.clk) (hmr : v.mr = u.mr) (htm : v.tm = u.tm) (hfw : v.fw = u.fw)
    (hch : v.ch = u.ch) : Beside d s v :=
  ⟨h.toAround.trans ⟨hclk, hmr, htm, hfw⟩, fun c hc => by rw [hch, h.others c hc]⟩

theorem Beside.quiet (h : Beside d s u) (q : Quiet u v) : Beside d s v := by
  obtain ⟨-, -, -, -, htm, hch, -, -, -, -, -, -, hfw, -⟩ := q.units
  exact h.keep q.clk q.mr htm hfw hch

theorem Beside.modCh {g} (h : Beside d s u) : Beside d s (u.modCh d g) :=
  ⟨h.toAround.trans ⟨rfl, rfl, rfl, rfl⟩, fun c hc => by rw [modCh_other u g hc, h.others c hc]⟩

theorem Beside.modTr {g} (h : Beside d s u) : Beside d s (u.modTr g) := h.keep rfl rfl rfl rfl rfl
theorem Beside.setEvq {v} (h : Beside d s u) : Beside d s (u.setEvq v) := h.keep rfl rfl rfl rfl rfl
theorem Beside.modPins {g} (h : Beside d s u) : Beside d s (u.modPins g) := h.keep rfl rfl rfl rfl rfl
theorem Beside.logEv {code sev scope data} (h : Beside d s u) : Beside d s (u.logEv code sev scope data) := h.quiet (logEv_quiet _ _ _ _ _)

theorem Beside.ite {c : Prop} {i : Decidable c} (hu : Beside d s u) (hv : Beside d s v) : Beside d s (if c then u else v) := by
  split
  · exact hu
  · exact hv

/-! The trellis (12 R291, R300 to R303). -/

theorem Beside.sweep (h : Beside d s u) : Beside d s (u.sweep d) := by
  unfold State.sweep State.quotaCheck
  exact .ite (.logEv (.modCh (.modTr (.modTr h)))) (.modTr (.modTr h))

theorem Beside.reclaimOne {g} (h : Beside d s u) : Beside d s (u.reclaimOne d g) := by
  unfold State.reclaimOne State.dropSeg State.skipTaken
  refine .modTr (.modCh (.sweep (.modTr ?_)))
  exact h.keep rfl rfl rfl rfl rfl

theorem Beside.requestRing {n} (h : Beside d s u) : Beside d s (State.requestRing d n u).1 := by
  induction n generalizing u with
  | zero => exact h
  | succ n ih =>
    unfold State.requestRing
    split
    · split
      · exact ih (.reclaimOne h)
      · exact h
    · exact h

theorem Beside.allocate (h : Beside d s u) : Beside d s (u.allocate d).1 := by
  have hcount : Beside d s (u.countRefused d) := .modTr (.modCh h)
  unfold State.allocate
  split
  · dsimp only
    split
    · exact .requestRing hcount
    · exact hcount
  · exact h

theorem Beside.takePage {n k x} (h : Beside d s u) : Beside d s (u.takePage n k x) := .modTr h
theorem Beside.modAcq {a g} (h : Beside d s u) : Beside d s (u.modAcq d a g) := .modTr h
theorem Beside.linkDesc {idx n k} (h : Beside d s u) : Beside d s (u.linkDesc d idx n k) := .modAcq (.takePage h)
theorem Beside.putSeg {g} (h : Beside d s u) : Beside d s (u.putSeg d g) := .modAcq (.modTr h)

theorem Beside.getDesc {idx} (h : Beside d s u) : Beside d s (u.getDesc d idx).1 := by
  unfold State.getDesc
  split
  · dsimp only
    split
    · exact .linkDesc (.allocate h)
    · exact .ite (.allocate h) (.modTr (.allocate h))
    · exact .allocate h
  · exact h

theorem Beside.takeRunPages {n ps} (h : Beside d s u) : Beside d s (State.takeRunPages d n u ps).1 := by
  induction n generalizing u ps with
  | zero => exact h
  | succ n ih =>
    unfold State.takeRunPages
    dsimp only
    split
    · exact ih (.modTr (.allocate h))
    · split
      · exact .allocate h
      · exact ih (.modTr (.allocate h))
    · exact .allocate h

/-! What opens with the commit point (11 R283; 12 R296). -/

theorem Beside.fullStop {idx trig} (h : Beside d s u) : Beside d s (u.fullStop d idx trig) := by
  unfold State.fullStop
  exact .ite (.modCh h) (.modCh (.logEv (.modCh h)))

theorem Beside.withdrawTrig (h : Beside d s u) : Beside d s (u.withdrawTrig d) := by
  unfold State.withdrawTrig State.cancelPulse
  split
  · exact .modCh h
  · exact .modPins (.modCh h)

theorem Beside.unopenSeg {idx opening} (h : Beside d s u) : Beside d s (u.unopenSeg d idx opening) := by
  have hgone (g f k) : Beside d s (((u.modTr g).modTr f).modCh d k) := .modCh (.modTr (.modTr h))
  unfold State.unopenSeg
  exact .ite (hgone _ _ _) (.modCh (.ite (hgone _ _ _) (.withdrawTrig (hgone _ _ _))))

theorem Beside.openCont {first} (h : Beside d s u) : Beside d s (u.openCont d first) := by
  have hput (g k) : Beside d s ((u.putSeg d g).modCh d k) := .modCh (.putSeg h)
  unfold State.openCont
  exact .ite (hput _ _) (.ite (.fullStop (.unopenSeg (.getDesc (hput _ _)))) (.getDesc (hput _ _)))

theorem Beside.startRun {runNo} (h : Beside d s u) : Beside d s (u.startRun d runNo) := by
  unfold State.startRun
  exact .ite (.fullStop (.modCh (.modTr (.takeRunPages h)))) (.modCh (.takeRunPages h))

theorem Beside.openAtArm (h : Beside d s u) : Beside d s (u.openAtArm d) := .ite (.startRun h) (.ite (.openCont h) h)

/-! The commit point of one channel (09 R229 step 5). -/

theorem Beside.setTimer (h : Beside d s u) : Beside d s (u.setTimer d) := by
  unfold State.setTimer
  dsimp only
  split
  · exact .ite (.logEv (.modCh h)) (.modCh h)
  · exact .modCh h
  · exact .modCh h

theorem Beside.commitChan (h : Beside d s u) : Beside d s (u.commitChan d) := .setTimer (.modCh h)

theorem Beside.startDet (h : Beside d s u) : Beside d s (u.startDet d) := .modCh h
theorem Beside.gridDec (h : Beside d s u) : Beside d s (u.gridDec d) := by
  unfold State.gridDec
  exact .modCh h

theorem Beside.startDec (h : Beside d s u) : Beside d s (u.startDec d) := .gridDec (.modCh h)
theorem Beside.stopDec {q} (h : Beside d s u) : Beside d s (u.stopDec d q) := .modCh h
theorem Beside.stopDet {e} (h : Beside d s u) : Beside d s (u.stopDet d e) := by
  unfold State.stopDet
  exact .setEvq (.modCh h)

theorem Beside.startUnits (h : Beside d s u) : Beside d s (u.startUnits d) := .startDec (.startDet (.ite (.stopDec h) h))

theorem Beside.syncUnit {q e} (h : Beside d s u) : Beside d s (u.syncUnit q e d) := by
  have hdet (a b : Bool) : Beside d s (if a then u.startDet d else if b then u.stopDet d e else u) :=
    .ite (.startDet h) (.ite (.stopDet h) h)
  unfold State.syncUnit
  exact .ite (.startDec (hdet _ _)) (.ite (.stopDec (hdet _ _)) (hdet _ _))

end

theorem syncUnits_around (s : State) (q e : Nat) : Around s (s.syncUnits q e) := .foldl (fun _ _ => (Beside.refl.syncUnit).toAround) _ s

/-- The channel's own units start without a change of what a command sees of it. -/
theorem startUnits_keepsChannels (s : State) (c : Fin 4) : KeepsChannels s (s.startUnits c) := by
  have hstop : KeepsChannels s (if s.ch[c].dec.running then s.stopDec c s.clk else s) := by
    split
    · exact KeepsChannels.modCh s c fun _ => rfl
    · exact .refl s
  refine (hstop.trans ?_).trans (startDec_keepsChannels _ c)
  exact KeepsChannels.modCh _ c fun _ => rfl

/-- A channel that no turn of a fold changes stands after it. -/
theorem foldl_core {f : State → Fin 4 → State} {c : Fin 4} (h : ∀ a d, Around a (f a d)) {l : List (Fin 4)} (s : State)
    (hc : ∀ d ∈ l, ∀ a, Around s a → (f a d).ch[c].core = a.ch[c].core) : (l.foldl f s).ch[c].core = s.ch[c].core := by
  induction l generalizing s with
  | nil => rfl
  | cons x xs ih =>
    have hfirst := hc x List.mem_cons_self s (.refl s)
    exact (ih (f s x) fun d hd a ha => hc d (List.mem_cons_of_mem x hd) a ((h s x).trans ha)).trans hfirst

end Sys2Proof.Machine
end

section
/-!
O26: the commit point of ARM (09 R229 step 5): each channel of it becomes ARMED, and what opens with that point on the others, or
follows in the units, leaves it as it is.
-/

namespace Sys2Proof.Machine

/-- Channel `c` as the commit point leaves it in state `s` (R229, R233), reported from the presentation cycle of that point on (R228). -/
structure Committed (s : State) (c : Fin 4) (h : Chan) : Prop where
  st : h.st = .armed
  seqState : h.seqState = (s.seqTable c).init
  cnt0 : h.cnt0 = 0
  cnt1 : h.cnt1 = 0
  tmr0 : h.tmr0 = .idle
  tmr1 : h.tmr1 = .idle
  armedAt : h.armedAt = s.ticks
  shown : h.shown = s.ch[c].shown.filter (fun x => decide (s.clk < x.1)) ++ [(s.clk + 404, s.ch[c].present)]

section
variable {s u : State} {c : Fin 4} {sel : List (Fin 4)} {h k : Chan}

/-- A committed channel stays so while all but what follows it stands. -/
theorem Committed.of_core (hc : Committed s c h) (hcore : k.core = h.core) : Committed s c k where
  st := (congrArg Chan.st hcore).trans hc.st
  seqState := (congrArg Chan.seqState hcore).trans hc.seqState
  cnt0 := (congrArg Chan.cnt0 hcore).trans hc.cnt0
  cnt1 := (congrArg Chan.cnt1 hcore).trans hc.cnt1
  tmr0 := (congrArg Chan.tmr0 hcore).trans hc.tmr0
  tmr1 := (congrArg Chan.tmr1 hcore).trans hc.tmr1
  armedAt := (congrArg Chan.armedAt hcore).trans hc.armedAt
  shown := (congrArg Chan.shown hcore).trans hc.shown

/-- A channel that stands until it is committed is committed as from the beginning. -/
theorem Committed.from_core (hc : Committed u c h) (haround : Around s u) (hcore : u.ch[c].core = s.ch[c].core) : Committed s c h where
  st := hc.st
  seqState := by
    have htable : u.ch[c].table = s.ch[c].table := (congrArg Chan.table hcore :)
    rw [hc.seqState, State.seqTable, htable, ← State.seqTable]
  cnt0 := hc.cnt0
  cnt1 := hc.cnt1
  tmr0 := hc.tmr0
  tmr1 := hc.tmr1
  armedAt := by rw [hc.armedAt, State.ticks, haround.clk, haround.tm, ← State.ticks]
  shown := by
    have hshown : u.ch[c].shown = s.ch[c].shown := (congrArg Chan.shown hcore :)
    have hpresent : u.ch[c].present = s.ch[c].present := (congrArg Chan.present hcore :)
    rw [hc.shown, haround.clk, hshown, hpresent]

theorem Quiet.chan {s u : State} (h : Quiet s u) (c : Fin 4) : u.ch[c] = s.ch[c] := by
  obtain ⟨-, -, -, -, -, hch, -⟩ := h.units
  rw [hch]

/-- Setting the channel timer writes its target. -/
theorem setTimer_ch (s : State) (c : Fin 4) : ∃ x b, (s.setTimer c).ch[c] = { s.ch[c] with timerAt := x, timerAbs := b } := by
  unfold State.setTimer
  dsimp only
  split
  · split
    · exact ⟨_, _, ((logEv_quiet _ _ _ _ _).chan c).trans (modCh_same _ _ _)⟩
    · exact ⟨_, _, modCh_same _ _ _⟩
  · exact ⟨_, _, modCh_same _ _ _⟩
  · exact ⟨_, _, modCh_same _ _ _⟩

theorem Committed.setTimer (hc : Committed s c u.ch[c]) : Committed s c (u.setTimer c).ch[c] := by
  obtain ⟨x, b, hch⟩ := setTimer_ch u c
  rw [hch]
  exact ⟨hc.st, hc.seqState, hc.cnt0, hc.cnt1, hc.tmr0, hc.tmr1, hc.armedAt, hc.shown⟩

theorem commitChan_committed (s : State) (c : Fin 4) : Committed s c (s.commitChan c).ch[c] := by
  refine .setTimer ?_
  rw [modCh_same]
  exact ⟨rfl, rfl, rfl, rfl, rfl, rfl, rfl, rfl⟩

theorem commitChan_around (s : State) (d : Fin 4) : Around s (s.commitChan d) := (Beside.refl.commitChan).toAround
theorem startUnits_around (s : State) (d : Fin 4) : Around s (s.startUnits d) := (Beside.refl.startUnits).toAround
theorem openAtArm_around (s : State) (d : Fin 4) : Around s (s.openAtArm d) := (Beside.refl.openAtArm).toAround

/-- Channels of a list without `c` are committed beside it. -/
theorem foldl_commitChan_beside (hc : c ∉ sel) (s : State) :
    (sel.foldl (fun a d => a.commitChan d) s).ch[c].core = s.ch[c].core :=
  foldl_core commitChan_around s fun _ hd _ _ => Beside.refl.commitChan.others c fun h => hc (h ▸ hd)

/-- Each channel of a list of different channels is committed. -/
theorem foldl_commitChan_committed (hnd : sel.Nodup) (hc : c ∈ sel) :
    Committed s c (sel.foldl (fun a d => a.commitChan d) s).ch[c] := by
  obtain ⟨before, after, rfl⟩ := List.append_of_mem hc
  obtain ⟨-, hrest, hdisjoint⟩ := List.nodup_append.mp hnd
  have hbefore : c ∉ before := fun h => hdisjoint c h c List.mem_cons_self rfl
  obtain ⟨hafter, -⟩ := List.nodup_cons.mp hrest
  rw [List.foldl_append, List.foldl_cons]
  exact ((commitChan_committed _ c).from_core (.foldl commitChan_around before s) (foldl_commitChan_beside hbefore s)).of_core
    (foldl_commitChan_beside hafter _)

/-- A channel that neither accumulates nor records continuously opens nothing at its commit point. -/
theorem openAtArm_none (haccum : s.accum c = false) (hcont : s.contin c = false) : s.openAtArm c = s := by
  simp [State.openAtArm, haccum, hcont]

theorem Around.accum (h : Around s u) (c : Fin 4) : u.accum c = s.accum c := by simp only [State.accum, State.akey, h.mr]

theorem Around.contin (h : Around s u) (c : Fin 4) : u.contin c = s.contin c := by
  simp only [State.contin, State.akey, h.mr, h.accum]

/-- What opens at the commit point leaves a channel that neither accumulates nor records continuously. -/
theorem foldl_openAtArm_core (haccum : s.accum c = false) (hcont : s.contin c = false) (sel : List (Fin 4)) :
    (sel.foldl (fun a d => a.openAtArm d) s).ch[c].core = s.ch[c].core := by
  refine foldl_core openAtArm_around s fun d _ a ha => ?_
  by_cases hd : c = d
  · subst hd
    rw [openAtArm_none ((ha.accum c).trans haccum) ((ha.contin c).trans hcont)]
  · exact Beside.refl.openAtArm.others c hd

/-- The channels ARMED and the units that follow them started. -/
def State.commitUnits (s : State) (sel : List (Fin 4)) : State :=
  (sel.foldl (fun a c => a.startUnits c) (sel.foldl (fun a c => a.commitChan c) s)).syncUnits s.clk (s.clk * fineUnit)

theorem commitChans_eq (s : State) (sel : List (Fin 4)) :
    s.commitChans sel = sel.foldl (fun a c => a.openAtArm c) (s.commitUnits sel) := rfl

theorem commitUnits_around (s : State) (sel : List (Fin 4)) : Around s (s.commitUnits sel) :=
  ((Around.foldl commitChan_around sel s).trans (.foldl startUnits_around sel _)).trans (syncUnits_around _ _ _)

theorem commitUnits_committed (hnd : sel.Nodup) (hc : c ∈ sel) : Committed s c (s.commitUnits sel).ch[c] :=
  (foldl_commitChan_committed hnd hc).of_core
    (((KeepsChannels.foldl startUnits_keepsChannels sel _).trans (syncUnits_keepsChannels _ _ _)).core c)

theorem commitChans_around (s : State) (sel : List (Fin 4)) : Around s (s.commitChans sel) := by
  rw [commitChans_eq]
  exact (commitUnits_around s sel).trans (.foldl openAtArm_around sel _)

/-- The channels become ARMED together. -/
theorem commitChans_committed (hnd : sel.Nodup) (hc : c ∈ sel) (haccum : s.accum c = false) (hcont : s.contin c = false) :
    Committed s c (s.commitChans sel).ch[c] := by
  have haround := commitUnits_around s sel
  rw [commitChans_eq]
  exact (commitUnits_committed hnd hc).of_core
    (foldl_openAtArm_core ((haround.accum c).trans haccum) ((haround.contin c).trans hcont) sel)

/-- Finishing a command that is not late at its commit point gives its answer (02 R38, R51). -/
theorem finish_timely {x : Exec} {commit : Nat} (hx : s.mr.exec = some x) (hh : s.fw.halted = false)
    (hlate : s.execLate commit = false) (a : Reply) :
    (s.finish a commit).mr.exec = none ∧ Replied (s.finish a commit) x.mb a.status a.payload ∧ SameUnits s (s.finish a commit) := by
  simp only [State.finish, hx, hh, hlate, Bool.false_eq_true, if_false]
  exact ⟨respond_exec _ _ _ _, respond_replied _ _ _ _, respond_units (s.modMr fun m => { m with exec := none }) _ _ _⟩

/-- An ARM that waits outside an array is the command under execution. -/
theorem waitingArm_exec {m : Fin 17} (h : s.waitingArm = some (m, sel, none)) :
    ∃ taken x, s.mr.exec = some ⟨m, taken, .arm x⟩ ∧ sel = selChans x := by
  unfold State.waitingArm at h
  split at h
  · next k taken x hx =>
    simp only [Option.some.injEq, Prod.mk.injEq, and_true] at h
    obtain ⟨rfl, rfl⟩ := h
    exact ⟨taken, x, hx, rfl⟩
  · simp at h
  · cases h

/-- Outside an array the ARM that waits commits when its channels are ready and its expiry tick has not passed (09 R229; 02 R51). -/
theorem armCommit_own {m : Fin 17} (hw : s.waitingArm = some (m, sel, none)) (hfollow : s.followers = [])
    (hready : ∀ c ∈ sel, (s.reach s.boundary).armReady c = true) (hexp : (s.reqOf m).expired (s.reach s.boundary).clk = false) :
    s.armCommit = (s.reach s.boundary).commitOwn sel false := by
  have hdue : (s.reach s.boundary).followDue = false := by
    have hnone : (s.reach s.boundary).followers = [] := hfollow
    simp [State.followDue, hnone]
  have hall : sel.all (s.reach s.boundary).armReady = true := List.all_eq_true.mpr hready
  have hw' : (s.reach s.boundary).waitingArm = some (m, sel, none) := hw
  have hexp' : (((s.reach s.boundary).mbox m).req m).expired (s.reach s.boundary).clk = false := hexp
  simp only [State.armCommit, hw', hdue, hall, hexp', Option.filter_some, Option.all_none, Bool.true_and, Bool.not_false, if_true,
    Bool.false_eq_true, if_false, Option.isSome_none]

/-- The ARM that waits completes with OK, its channels ARMED. -/
theorem commitOwn_completes {m : Fin 17} {taken x : Nat} (hx : s.mr.exec = some ⟨m, taken, .arm x⟩) (hh : s.fw.halted = false)
    (hexp : (s.reqOf m).expired s.clk = false) (sel : List (Fin 4)) :
    (s.commitOwn sel false).mr.exec = none ∧ Replied (s.commitOwn sel false) m stOk []
      ∧ (s.commitOwn sel false).ch = (s.commitChans sel).ch := by
  have haround := commitChans_around s sel
  have hlate : ((s.commitChans sel).modAr fun y => { y with armWait := [] }).execLate s.clk = false := by
    simpa [State.execLate, State.mbox, haround.mr, hx, Wait.commitAt, State.reqOf] using hexp
  obtain ⟨hexec, hreplied, -, -, -, -, -, hch, -⟩ := finish_timely (s := (s.commitChans sel).modAr fun y => { y with armWait := [] })
    (by rw [State.modAr_mr, haround.mr, hx]) (by rw [State.modAr_fw, haround.fw, hh]) hlate ⟨stOk, [], none, 0, 0⟩
  exact ⟨hexec, hreplied, hch⟩

end

/-- Settles O26: the ready channels are committed one after the other at the boundary, and neither their units nor what opens on other
channels changes them; the answer is not late. -/
theorem armCommitArms : Obligations.ArmCommitArms := by
  intro s t m sel hw hfollow hh b hready hexp
  obtain ⟨taken, x, hx, rfl⟩ := waitingArm_exec hw
  have hcommit : (s.reach t).armCommit = b.commitOwn (selChans x) false := armCommit_own (s := s.reach t) hw hfollow hready hexp
  obtain ⟨hexec, hreplied, hch⟩ := commitOwn_completes (s := b) hx hh hexp (selChans x)
  refine ⟨_, congrArg go hcommit, hreplied, hexec, fun c hc haccum hcont => ?_⟩
  have hcom : Committed b c (b.commitOwn (selChans x) false).ch[c] := by
    rw [hch]
    exact commitChans_committed (s := b) (selChans_nodup x) hc haccum hcont
  exact ⟨hcom.st, hcom.seqState, hcom.cnt0, hcom.cnt1, hcom.tmr0, hcom.tmr1, hcom.armedAt, hcom.shown⟩

end Sys2Proof.Machine
end

section
/-!
O27, O28: a command that waits for its presentation is late when its expiry tick lies before its commit point, and ends with E_TIMEOUT then
(02 R51). An ABORT that comes before that point while the core is halted is such a tick, settled after the halt (02 R52; 19 R479).
-/

namespace Sys2Proof.Machine

section
variable {s : State} {m : Fin 17} {taken : Nat}

/-- A DISARM that is late at its boundary ends with E_TIMEOUT once its channels have stopped. -/
theorem finishDisarm_late {q x : Nat} (hx : s.mr.exec = some ⟨m, taken, .disarm q x⟩) (hcome : q + 404 ≤ s.clk)
    (hstopped : (selChans x).all (fun c => s.ch[c].stopAt.isNone) = true) (hh : s.fw.halted = false)
    (hlate : (s.reqOf m).expired q = true) : Replied s.finishDisarm m eTimeout [] := by
  have hexec : s.execLate q = true := by simpa [State.execLate, hx, Wait.commitAt, State.reqOf] using hlate
  have hfinish : s.finishDisarm = s.finish ⟨stOk, [], none, 0, 0⟩ q := by
    simp only [State.finishDisarm, hx, hcome, hstopped, and_self, if_true]
  rw [hfinish]
  exact (finish_late hx hh hexec _).2

/-- A FORCE_TRIGGER that is late at its stamp ends with E_TIMEOUT once its event has been presented. -/
theorem finishForce_late {st k : Nat} (hx : s.mr.exec = some ⟨m, taken, .force st k⟩) (hcome : s.presentAt (st * fineUnit) ≤ s.clk)
    (hq : s.evq = []) (hh : s.fw.halted = false) (hlate : (s.reqOf m).expired st = true) :
    s.finishForce.mr.exec = none ∧ Replied s.finishForce m eTimeout [] := by
  have hexec : s.execLate st = true := by simpa [State.execLate, hx, Wait.commitAt, State.reqOf] using hlate
  have hfinish : s.finishForce = s.finish ⟨stOk, leBytes 1 k ++ List.replicate 7 0#8 ++ leBytes 8 (s.ticksAt st), none, 0, 0⟩ st := by
    simp only [State.finishForce, hx, hq, hcome, List.any_nil, and_self, if_true]
  rw [hfinish]
  exact finish_late hx hh hexec _

end

/-- Since tick 0 a DISARM of channel 0, which is DONE, waits for boundary 4; it was aborted at tick 2. -/
def abortedDisarm : State := ((State.reset.modCh 0 fun h => { h with st := .done, stopAt := some ⟨4, 2, 1⟩ }).modMb 0 fun b =>
  { b with state := .busy, abort := some 2 }).modMr fun r => { r with exec := some ⟨0, 0, .disarm 4 1⟩ }

/-- Refutes O27: its clause on EVENT_PRESENTATION answers every DISARM under execution with OK, also one whose expiry tick lies before
the boundary, which ends with E_TIMEOUT (02 R51), as in `abortedDisarm`. -/
theorem not_disarmEndsAcquisition : ¬ Obligations.DisarmEndsAcquisition := by
  intro h
  obtain ⟨-, hend⟩ := h
  obtain ⟨-, hdone⟩ := hend abortedDisarm 408 4 2 1 0 rfl rfl rfl (by decide) (by decide)
  obtain ⟨u, hu, -, -, hanswer⟩ := hdone rfl
  obtain ⟨⟨-, hok, -⟩, -⟩ := hanswer 0 0 1 rfl rfl rfl
  have hu' : (abortedDisarm.reach 408).presentDue.finishForce.finishDisarm = u := by injection hu
  obtain ⟨-, htimeout, -⟩ : Replied (abortedDisarm.reach 408).presentDue.finishForce.finishDisarm 0 eTimeout [] :=
    finishDisarm_late rfl (by decide) (by decide) rfl (by decide)
  rw [hu', hok] at htimeout
  exact absurd htimeout (by decide)

/-- Since tick 0 a FORCE_TRIGGER waits whose event, stamped at boundary 4, has been presented; it was aborted at tick 2. -/
def abortedForce : State := (State.reset.modMb 0 fun b => { b with state := .busy, abort := some 2 }).modMr fun r =>
  { r with exec := some ⟨0, 0, .force 4 0⟩ }

/-- Refutes O28: its clause on EVENT_PRESENTATION answers every FORCE_TRIGGER under execution with OK, also one whose expiry tick lies
before the stamp, which ends with E_TIMEOUT (02 R51), as in `abortedForce`. -/
theorem not_acquisitionCommands : ¬ Obligations.AcquisitionCommands := by
  intro h
  obtain ⟨-, hforce, -⟩ := h abortedForce 408 0
  obtain ⟨u, hu, ⟨-, hok, -⟩, -⟩ := hforce 0 4 0 rfl rfl rfl rfl (by decide)
  have hu' : (abortedForce.reach 408).finishForce.finishDisarm = u := by injection hu
  obtain ⟨hidle, hreplied⟩ := finishForce_late (s := abortedForce.reach 408) (m := 0) (taken := 0) (st := 4) (k := 0) rfl
    (by decide) rfl rfl (by decide)
  obtain ⟨-, htimeout, -⟩ := hreplied
  rw [← finishDisarm_idle hidle, hu', hok] at htimeout
  exact absurd htimeout (by decide)

end Sys2Proof.Machine
end

section
/-!
O30: an auto trigger on a channel that accumulates opens no record while no run is open (11 R275, R283).
-/

namespace Sys2Proof.Machine

/-- Channel 0 accumulates and is ARMED, not busy and with no run open; its auto trigger is due at tick 0. -/
def runlessChannel : State := (State.reset.modCh 0 fun h => { h with st := .armed, autoX := some 0 }).modMr fun r =>
  { r with armed := r.armed.set 0 [⟨0x0900, 1, 1#64⟩] }

/-- Refutes O30: its clause on a trigger taken asks for no open run; in `runlessChannel`, which has none, AUTO_TRIGGER is refused and the
channel stays ARMED. -/
theorem not_sequencerHappenings : ¬ Obligations.SequencerHappenings := by
  intro h
  obtain ⟨-, -, hauto⟩ := h runlessChannel 404 0 rfl rfl rfl rfl
  obtain ⟨htaken, -⟩ := hauto 0 rfl rfl rfl (by decide) (by decide)
  obtain ⟨u, hu, -, hacquiring, -⟩ := htaken (by decide) (by decide) (by decide) (by decide)
  have hu' : (runlessChannel.reach 404).happenIf 0 (fun x => x == .auto) = u := by injection hu
  have harmed : ((runlessChannel.reach 404).happenIf 0 (fun x => x == .auto)).ch[(0 : Fin 4)].st = .armed := by decide
  rw [hu', hacquiring] at harmed
  exact absurd harmed (by decide)

end Sys2Proof.Machine
end

section
/-!
O32: a monitor table that waits takes effect when the monitor's domain goes off, and ends the command under execution with OK (18 R447,
R456); in a state where that command is an ARM, it is answered so before the wake failure is.
-/

namespace Sys2Proof.Machine

/-- An ARM of channel 0 waits; so does a monitor table, and nothing holds the monitor's domain, which is on. -/
def strayTable : State := ((((State.reset.modCh 0 fun h => { h with st := .arming }).modMb 0 fun b => { b with state := .busy }).modMr
  fun r => { r with exec := some ⟨0, 0, .arm 1⟩ }).modMon fun m => { m with newTable := some [] }).modPw fun p =>
  { p with hostHeld := 0#196 }

/-- Refutes O32: it speaks of every state in which an ARM waits, also of `strayTable`, in which the domains that follow their holders
take the monitor's off, and the table that waits there ends the ARM with OK. -/
theorem not_armEndsOnWakeFailure : ¬ Obligations.ArmEndsOnWakeFailure := by
  intro h
  obtain ⟨u, hu, ⟨-, hfailed, -⟩, -⟩ := h strayTable 0 136 0 [0] rfl rfl rfl rfl (by decide) ⟨0, by decide, by decide⟩
    (by decide)
  have hu' : (strayTable.reach 0).armWakeFail 136 = u := by injection hu
  have hok : (((strayTable.reach 0).armWakeFail 136).mbox 0).status = stOk := by decide +kernel
  rw [hu', hfailed] at hok
  exact absurd hok (by decide)

end Sys2Proof.Machine
end

section
/-!
O29: a trigger refused for its point (09 R232; 11 R281).
-/

namespace Sys2Proof.Machine

section
variable {s : State} {c : Fin 4}

/-- What a change does to the channel as it stands decides it. -/
theorem modCh_congr {f g : Chan → Chan} (h : f s.ch[c] = g s.ch[c]) : s.modCh c f = s.modCh c g :=
  congrArg (fun x => s.setCh (s.ch.set c.val x)) h

theorem modCh_modCh (f g : Chan → Chan) : (s.modCh c f).modCh c g = s.modCh c fun h => g (f h) := by
  simp [State.modCh, State.setCh]

/-- Outside holdoff by events a refused trigger is counted, no more. -/
theorem refuse_counted (hold : ∀ n r, s.ch[c].hold ≠ .events n r) (p : Nat) :
    s.refuse c p = s.modCh c fun h => { h with refused := satAdd 32 h.refused 1 } := by
  refine modCh_congr ?_
  split
  · next n r _ h => exact absurd h (hold n r)
  · rfl

/-- A trigger whose point finds its channel not ARMED, and no busy interval, is refused. -/
theorem trigger_unarmed {x : TrigIn} (hcont : s.contin c = false) (hbusy : (s.accum c && s.ch[c].acc.busyAtPoint x.p) = false)
    (harmed : s.armedAt c x.p = false) : s.trigger c x = (s.refuse c x.p, false) := by
  simp only [State.trigger, hcont, hbusy, harmed, Bool.false_eq_true, if_false, Bool.not_false, Bool.true_or, if_true]

/-- A trigger in the busy interval of an accumulating channel is refused and counted there. -/
theorem trigger_busy {x : TrigIn} (hcont : s.contin c = false) (hbusy : (s.accum c && s.ch[c].acc.busyAtPoint x.p) = true) :
    s.trigger c x
      = ((s.refuse c x.p).modCh c fun h => { h with acc := { h.acc with busyRef := satAdd 32 h.acc.busyRef 1 } }, false) := by
  simp only [State.trigger, hcont, hbusy, if_true, Bool.false_eq_true, if_false]

end

/-- Settles O29: the refusal is the only change, to which the busy interval adds its own count. -/
theorem refusedTriggerChangesNothingElse : Obligations.RefusedTriggerChangesNothingElse := by
  intro s c x hcont hold busy
  refine ⟨fun hbusy harmed => ?_, fun hbusy => ?_⟩
  · rw [trigger_unarmed hcont hbusy harmed, refuse_counted hold]
  · rw [trigger_busy hcont hbusy, refuse_counted hold, modCh_modCh]

end Sys2Proof.Machine
end

section
/-!
O55: output pulses start on the pins of their function, extend, and end (09 R248; 20 R491, R492).
-/

namespace Sys2Proof.Machine

section
variable {s : State}

/-- The end of the pulse on a pin after one has started at tick `b`: it extends one under way (20 R492). -/
def State.pulseEndAt (s : State) (b : Nat) (p : Fin 5) : Nat := max (b + s.keyAt 0x0030 0 b) (s.pins.pulse[p].getD 0)

theorem pulsePin_same (b : Nat) (p : Fin 5) : (s.pulsePin b p).pins.pulse[p] = some (s.pulseEndAt b p) := by
  simp [State.pulsePin, State.pulseEndAt]

theorem pulsePin_other (b : Nat) {p k : Fin 5} (h : k ≠ p) : (s.pulsePin b p).pins.pulse[k] = s.pins.pulse[k] := by
  have h' : p.val ≠ k.val := fun e => h (Fin.ext e.symm)
  simp [State.pulsePin, h']

/-- Only the pulses on pins differ. -/
def OnlyPulses (s u : State) : Prop := u = s.modPins fun q => { q with pulse := u.pins.pulse }

theorem OnlyPulses.trans {s u v : State} (h : OnlyPulses s u) (k : OnlyPulses u v) : OnlyPulses s v := by
  unfold OnlyPulses at *
  rw [k, h]
  rfl

theorem pulsePin_only (s : State) (b : Nat) (p : Fin 5) : OnlyPulses s (s.pulsePin b p) := rfl

/-- A pulse started on some of the pins of a list. -/
theorem foldl_pulsePin (b : Nat) (on : Fin 5 → Bool) {l : List (Fin 5)} (hnd : l.Nodup) (s : State) :
    OnlyPulses s (l.foldl (fun a p => if on p then a.pulsePin b p else a) s)
      ∧ ∀ p, (l.foldl (fun a p => if on p then a.pulsePin b p else a) s).pins.pulse[p]
        = if p ∈ l ∧ on p = true then some (s.pulseEndAt b p) else s.pins.pulse[p] := by
  induction l generalizing s with
  | nil => exact ⟨rfl, fun p => by simp⟩
  | cons x xs ih =>
    obtain ⟨hx, hxs⟩ := List.nodup_cons.1 hnd
    rw [List.foldl_cons]
    by_cases hon : on x = true
    · rw [if_pos hon]
      obtain ⟨honly, hpins⟩ := ih hxs (s.pulsePin b x)
      refine ⟨(pulsePin_only s b x).trans honly, fun p => ?_⟩
      rw [hpins]
      by_cases hp : p = x
      · subst hp
        rw [if_neg fun hin => hx hin.1, if_pos ⟨List.mem_cons_self, hon⟩, pulsePin_same]
      · have hend : (s.pulsePin b x).pulseEndAt b p = s.pulseEndAt b p := by
          unfold State.pulseEndAt
          rw [pulsePin_other b hp]
          rfl
        simp only [List.mem_cons, hp, false_or, hend, pulsePin_other b hp]
    · rw [if_neg hon]
      obtain ⟨honly, hpins⟩ := ih hxs s
      refine ⟨honly, fun p => ?_⟩
      rw [hpins]
      by_cases hp : p = x
      · subst hp
        simp [hon]
      · simp only [List.mem_cons, hp, false_or]

/-- A pulse starts on the pins that carry its function (20 R491). -/
theorem pulse_starts (b key : Nat) : OnlyPulses s (s.pulse b key) ∧ ∀ p : Fin 5, (s.pulse b key).pins.pulse[p]
    = if bitAt (s.keyAt key 0 b) p.val then some (s.pulseEndAt b p) else s.pins.pulse[p] := by
  obtain ⟨honly, hpins⟩ := foldl_pulsePin b (fun p => bitAt (s.keyAt key 0 b) p.val) (l := [0, 1, 2, 3, 4]) (by decide) s
  refine ⟨honly, fun p => (hpins p).trans ?_⟩
  have hmem : p ∈ ([0, 1, 2, 3, 4] : List (Fin 5)) := by revert p; decide
  simp only [hmem, true_and]

theorem modPins_filter {f : Nat × Nat → Bool} {l : List (Nat × Nat)} (h : s.pins.duePulses.filter f = l) :
    (s.modPins fun q => { q with duePulses := q.duePulses.filter f }) = s.modPins fun q => { q with duePulses := l } :=
  congrArg (fun x => s.setPins { s.pins with duePulses := x }) h

section
variable (hmarks0 : s.playMarks 0 s.clk = []) (hmarks1 : s.playMarks 1 s.clk = [])
include hmarks0 hmarks1

theorem outputPulses_none (hwait : ∀ e ∈ s.pins.duePulses, s.clk < e.1) : s.outputPulses = s := by
  have hdue : s.pins.duePulses.filter (fun e => decide (e.1 ≤ s.clk)) = [] :=
    List.filter_eq_nil_iff.mpr fun e he => by simpa using hwait e he
  have hrest : s.pins.duePulses.filter (fun e => decide (s.clk < e.1)) = s.pins.duePulses :=
    List.filter_eq_self.mpr fun e he => decide_eq_true (hwait e he)
  simp only [State.outputPulses, hmarks0, hmarks1, hdue, modPins_filter hrest, List.append_nil, List.foldl_nil]
  rfl

/-- The one pulse that is due starts; the others wait. -/
theorem outputPulses_first {b key : Nat} {rest : List (Nat × Nat)} (hq : s.pins.duePulses = (b, key) :: rest) (hb : b ≤ s.clk)
    (hwait : ∀ e ∈ rest, s.clk < e.1) : s.outputPulses = (s.modPins fun q => { q with duePulses := rest }).pulse b key := by
  have hdue : s.pins.duePulses.filter (fun e => decide (e.1 ≤ s.clk)) = [(b, key)] := by
    rw [hq, List.filter_cons_of_pos (by simpa using hb), List.filter_eq_nil_iff.mpr fun e he => by simpa using hwait e he]
  have hrest : s.pins.duePulses.filter (fun e => decide (s.clk < e.1)) = rest := by
    rw [hq, List.filter_cons_of_neg (by simpa using hb), List.filter_eq_self.mpr fun e he => decide_eq_true (hwait e he)]
  simp only [State.outputPulses, hmarks0, hmarks1, hdue, modPins_filter hrest, List.append_nil, List.foldl_nil, List.foldl_cons]

end

theorem pulseOver_none {p : Fin 5} (h : s.pins.pulse[p] = none) : s.pulseOver p = s := if_neg (by simp [h])

theorem pulseOver_early {p : Fin 5} {e : Nat} (h : s.pins.pulse[p] = some e) (he : s.clk < e) : s.pulseOver p = s :=
  if_neg (by simpa [h] using he)

theorem pulseOver_due {p : Fin 5} {e : Nat} (h : s.pins.pulse[p] = some e) (he : e ≤ s.clk) :
    s.pulseOver p = s.modPins fun q => { q with pulse := q.pulse.set p.val none } := if_pos (by simpa [h] using he)

end

/-- Settles O55: the pins that carry the function of the one pulse due are written, each once; a pulse ends at its tick. -/
theorem outputPulsesStartAndEnd : Obligations.OutputPulsesStartAndEnd := by
  refine ⟨fun s t => ?_, fun s t p => ⟨fun h => ?_, fun e h => ⟨fun he => ?_, fun he => ?_⟩⟩⟩
  · intro c hmarks0 hmarks1
    refine ⟨fun hwait => ?_, fun b key rest hq hb hwait => ?_⟩
    · exact congrArg go (outputPulses_none (s := s.reach t) hmarks0 hmarks1 hwait)
    · have hstart := outputPulses_first (s := s.reach t) hmarks0 hmarks1 hq hb hwait
      obtain ⟨honly, hpins⟩ := pulse_starts (s := (s.reach t).modPins fun q => { q with duePulses := rest }) b key
      refine ⟨_, congrArg go hstart, ?_, ?_, ?_, hpins⟩
      · rw [honly]
        rfl
      · rw [honly]
        exact .refl _
      · rw [honly]
        exact .refl _
  · exact congrArg go (pulseOver_none (s := s.reach t) h)
  · exact congrArg go (pulseOver_early (s := s.reach t) h he)
  · exact congrArg go (pulseOver_due (s := s.reach t) h he)

end Sys2Proof.Machine
end

section
/-!
SUPPORT. The decimation stage (10 R255, R256, R262, R265): changes of a stage alone, the settings and the grid by which its values are
told, and what one threshold makes of one value.
-/

namespace Sys2Proof.Machine

/-! Changes of a stage alone. -/

/-- The state with the stage of channel `c` changed by a function. -/
def State.modDec (s : State) (c : Fin 4) (f : Dec → Dec) : State := s.modCh c fun h => { h with dec := f h.dec }

@[simp] theorem modDec_dec (s : State) (c : Fin 4) (f : Dec → Dec) : (s.modDec c f).ch[c].dec = f s.ch[c].dec := by
  unfold State.modDec
  rw [modCh_same]

theorem modDec_other (s : State) {c k : Fin 4} (f : Dec → Dec) (h : k ≠ c) : (s.modDec c f).ch[k] = s.ch[k] := modCh_other s _ h

theorem hear_dec (s : State) (c : Fin 4) (g : Stream) : (s.hear c g).ch[c].dec = s.ch[c].dec := by
  unfold State.hear
  rw [modCh_same]

/-! The grid of a stage (10 R255, R256). -/

/-- The time scale, the settings and the grid by which the values of stage `c` are told stand. -/
structure SameGrid (c : Fin 4) (s u : State) : Prop where
  tm : u.tm = s.tm
  mr : u.mr = s.mr
  keys : u.ch[c].dec.keys = s.ch[c].dec.keys
  grid : u.ch[c].dec.grid = s.ch[c].dec.grid
  delay : u.ch[c].dec.delay = s.ch[c].dec.delay

namespace SameGrid

variable {c : Fin 4} {s u v : State}

theorem refl (s : State) : SameGrid c s s := ⟨rfl, rfl, rfl, rfl, rfl⟩

theorem trans (h : SameGrid c s u) (k : SameGrid c u v) : SameGrid c s v :=
  ⟨k.tm.trans h.tm, k.mr.trans h.mr, k.keys.trans h.keys, k.grid.trans h.grid, k.delay.trans h.delay⟩

theorem modDec {f : Dec → Dec} (hkeys : (f s.ch[c].dec).keys = s.ch[c].dec.keys) (hgrid : (f s.ch[c].dec).grid = s.ch[c].dec.grid)
    (hdelay : (f s.ch[c].dec).delay = s.ch[c].dec.delay) : SameGrid c s (s.modDec c f) where
  tm := rfl
  mr := rfl
  keys := by rw [modDec_dec, hkeys]
  grid := by rw [modDec_dec, hgrid]
  delay := by rw [modDec_dec, hdelay]

theorem setEvq (h : SameGrid c s u) (q : List Ev) : SameGrid c s (u.setEvq q) := ⟨h.tm, h.mr, h.keys, h.grid, h.delay⟩

theorem decKey (h : SameGrid c s u) (k : Nat) : u.decKey k c = s.decKey k c := by
  unfold State.decKey
  rw [h.keys]

theorem mode (h : SameGrid c s u) : u.mode = s.mode := congrArg (fun m : Marrad => recordedVal m.recorded 0x0004 0) h.mr

theorem fltKeys (h : SameGrid c s u) (t : Fin 2) (at_ : Nat) : u.fltKeys c t at_ = s.fltKeys c t at_ := by
  unfold State.fltKeys State.keyAt
  rw [h.mr]

theorem valueNominal (h : SameGrid c s u) (j : Nat) : u.valueNominal c j = s.valueNominal c j := by
  unfold State.valueNominal State.valuePeriod
  rw [h.grid, h.decKey, h.mode]

theorem valueInstant (h : SameGrid c s u) (j : Nat) : u.valueInstant c j = s.valueInstant c j := by
  unfold State.valueInstant
  rw [h.valueNominal, h.delay]

theorem completion (h : SameGrid c s u) (j : Nat) : u.completion c j = s.completion c j := by
  unfold State.completion State.cycleOf State.delayHalves State.pipe State.decMode
  rw [h.valueNominal, h.mode, h.tm]
  simp only [h.decKey]

end SameGrid

/-! One threshold at one value (10 R265). -/

/-- What threshold `t` compares with stands: the value before, and the priming of its two sides. -/
structure SameSide (t : Fin 2) (d e : Dec) : Prop where
  prev : e.prev = d.prev
  fR : e.fR[t] = d.fR[t]
  fF : e.fF[t] = d.fF[t]

theorem SameSide.trans {t : Fin 2} {d e f : Dec} (h : SameSide t d e) (k : SameSide t e f) : SameSide t d f :=
  ⟨k.prev.trans h.prev, k.fR.trans h.fR, k.fF.trans h.fF⟩

theorem SameSide.fltCross {t : Fin 2} {d e : Dec} (h : SameSide t d e) (l : Int) (v : Int × Int) :
    e.fltCross t l v = d.fltCross t l v := by
  unfold Dec.fltCross
  rw [h.prev, h.fR, h.fF]

/-- The priming of threshold `t` after a value, under its keys. -/
def Dec.primeAt (d : Dec) (t : Fin 2) (k : Nat × Int × Int) (v : Int × Int) : Dec :=
  { d with
    fR := d.fR.set t.val (decide (v.1 ≤ k.2.1 - k.2.2) || (d.fR[t] && !(d.fltCross t k.2.1 v).1))
    fF := d.fF.set t.val (decide (k.2.1 + k.2.2 ≤ v.2) || (d.fF[t] && !(d.fltCross t k.2.1 v).2)) }

theorem primeAt_other (d : Dec) {t th : Fin 2} (k : Nat × Int × Int) (v : Int × Int) (h : th ≠ t) :
    SameSide th d (d.primeAt t k v) := by
  have h' : t.val ≠ th.val := fun e => h (Fin.ext e.symm)
  exact ⟨rfl, by simp [Dec.primeAt, h'], by simp [Dec.primeAt, h']⟩

/-- The event of threshold `t` at value `j` (10 R265, 08 R220). -/
def State.fltEv (s : State) (c : Fin 4) (j : Nat) (t : Fin 2) : Ev :=
  let i := (s.valueInstant c j).toNat
  ⟨i, 8 + 2 * c.val + t.val, s.stampAt i 1 false, 0xF#4, s.completion c j + 404, false, i⟩

/-- The events that crossings raise under a slope: the rising one first. -/
def State.fltEvs (s : State) (c : Fin 4) (j : Nat) (t : Fin 2) (slope : Nat) (x : Bool × Bool) : List Ev :=
  (if x.1 && bitAt slope 0 then [s.fltEv c j t] else []) ++ if x.2 && bitAt slope 1 then [s.fltEv c j t] else []

theorem mem_fltEvs {s : State} {c : Fin 4} {j slope : Nat} {t : Fin 2} {x : Bool × Bool}
    (h : (x.1 = true ∧ bitAt slope 0 = true) ∨ (x.2 = true ∧ bitAt slope 1 = true)) : s.fltEv c j t ∈ s.fltEvs c j t slope x := by
  unfold State.fltEvs
  rcases h with ⟨hx, hslope⟩ | ⟨hx, hslope⟩
  · simp [hx, hslope]
  · simp [hx, hslope]

/-- A threshold's step primes its sides and queues its events. -/
theorem fltStep_eq (s : State) (c : Fin 4) (j : Nat) (v : Int × Int) (t : Fin 2) :
    let k := s.fltKeys c t (s.completion c j)
    s.fltStep c j v t = (s.modDec c fun d => d.primeAt t k v).setEvq (s.evq ++ s.fltEvs c j t k.1 (s.ch[c].dec.fltCross t k.2.1 v)) := by
  unfold State.fltStep State.fltEvs
  dsimp only
  split <;> split
  · exact congrArg (State.setEvq _) (List.append_assoc ..)
  · rfl
  · rfl
  · exact congrArg (State.setEvq (s.modDec c fun d => d.primeAt t (s.fltKeys c t (s.completion c j)) v)) (List.append_nil s.evq).symm

section
variable (s : State) (c : Fin 4) (j : Nat) (v : Int × Int) (t : Fin 2)

theorem fltStep_dec : (s.fltStep c j v t).ch[c].dec = s.ch[c].dec.primeAt t (s.fltKeys c t (s.completion c j)) v := by
  rw [fltStep_eq]
  exact modDec_dec s c fun d => d.primeAt t _ v

theorem fltStep_sameGrid : SameGrid c s (s.fltStep c j v t) := by
  rw [fltStep_eq]
  exact .setEvq (.modDec (f := fun d => d.primeAt t _ v) rfl rfl rfl) _

theorem fltStep_evq : ∀ e ∈ s.evq, e ∈ (s.fltStep c j v t).evq := by
  rw [fltStep_eq]
  exact fun e he => List.mem_append_left _ he

end

/-- Value `v` has gone through threshold `th`, with keys `k`, of a stage that stood as `d`: its sides are primed as for a detector, and
a crossing that its slope asks for has raised its event at fine instant `i`. -/
structure Passed (d : Dec) (k : Nat × Int × Int) (i : Nat) (v : Int × Int) (c : Fin 4) (th : Fin 2) (u : State) : Prop where
  fR : u.ch[c].dec.fR[th] = (decide (v.1 ≤ k.2.1 - k.2.2) || (d.fR[th] && !(d.fltCross th k.2.1 v).1))
  fF : u.ch[c].dec.fF[th] = (decide (k.2.1 + k.2.2 ≤ v.2) || (d.fF[th] && !(d.fltCross th k.2.1 v).2))
  event : ((d.fltCross th k.2.1 v).1 = true ∧ bitAt k.1 0 = true) ∨ ((d.fltCross th k.2.1 v).2 = true ∧ bitAt k.1 1 = true) →
    ∃ e ∈ u.evq, e.src = 8 + 2 * c.val + th.val ∧ e.fine = i

namespace Passed

variable {d e : Dec} {k : Nat × Int × Int} {i j : Nat} {v : Int × Int} {c : Fin 4} {th : Fin 2} {s u w : State}

theorem of_sameSide (h : Passed e k i v c th u) (hside : SameSide th d e) : Passed d k i v c th u := by
  obtain ⟨hR, hF, hev⟩ := h
  rw [hside.fltCross, hside.fR] at hR
  rw [hside.fltCross, hside.fF] at hF
  rw [hside.fltCross] at hev
  exact ⟨hR, hF, hev⟩

/-- What follows leaves the sides and takes no event back. -/
theorem keep (h : Passed d k i v c th u) (hR : w.ch[c].dec.fR[th] = u.ch[c].dec.fR[th])
    (hF : w.ch[c].dec.fF[th] = u.ch[c].dec.fF[th]) (hev : ∀ e ∈ u.evq, e ∈ w.evq) : Passed d k i v c th w where
  fR := hR.trans h.fR
  fF := hF.trans h.fF
  event hx := by
    obtain ⟨e, he, hsrc⟩ := h.event hx
    exact ⟨e, hev e he, hsrc⟩

/-- The threshold's own step. -/
theorem fltStep (hside : SameSide th d u.ch[c].dec) (hgrid : SameGrid c s u) :
    Passed d (s.fltKeys c th (s.completion c j)) (s.valueInstant c j).toNat v c th (u.fltStep c j v th) := by
  rw [← hgrid.fltKeys, ← hgrid.completion, ← hgrid.valueInstant]
  refine of_sameSide ⟨?_, ?_, fun hx => ⟨u.fltEv c j th, ?_, rfl, rfl⟩⟩ hside
  · rw [fltStep_dec]
    exact Vector.getElem_set_self _
  · rw [fltStep_dec]
    exact Vector.getElem_set_self _
  · rw [fltStep_eq]
    exact List.mem_append_right _ (mem_fltEvs hx)

/-- The other threshold's step. -/
theorem fltStep_other {t : Fin 2} (h : Passed d k i v c th u) (hne : th ≠ t) : Passed d k i v c th (u.fltStep c j v t) := by
  obtain ⟨-, hR, hF⟩ := primeAt_other u.ch[c].dec (u.fltKeys c t (u.completion c j)) v hne
  refine h.keep ?_ ?_ (fltStep_evq u c j v t)
  · rw [fltStep_dec, hR]
  · rw [fltStep_dec, hF]

end Passed

end Sys2Proof.Machine
end

section
/-!
O35: the values of the decimation stage that thresholds compare, those of the run before included, and the synchronising reset
(10 R262, R263, R265, R266).
-/

namespace Sys2Proof.Machine

/-! FLT_EVENT. -/

section
variable (s : State) (c : Fin 4) (j : Nat) (v : Value)

theorem countSat_dec : ∃ sats sat flag,
    (s.countSat c j v).ch[c].dec = { s.ch[c].dec with sats := sats, sat := sat, satFlag := flag } := by
  unfold State.countSat
  split
  · exact ⟨_, _, _, modDec_dec s c fun d => { d with sats := j :: d.sats, sat := satAdd 32 d.sat 1, satFlag := some s.clk }⟩
  · exact ⟨_, _, _, rfl⟩

theorem countSat_evq : (s.countSat c j v).evq = s.evq := by
  unfold State.countSat
  split
  · rfl
  · rfl

theorem countSat_sameGrid : SameGrid c s (s.countSat c j v) := by
  unfold State.countSat
  split
  · exact .modDec (f := fun d => { d with sats := j :: d.sats, sat := satAdd 32 d.sat 1, satFlag := some s.clk }) rfl rfl rfl
  · exact .refl s

/-- Value `j` is counted where it saturates, and the thresholds meet the reset before it. -/
def State.meetValue : State :=
  (s.countSat c j v).modDec c fun d => { d.meet (s.resetBefore c j) with seen := some j }

theorem meet_sameKeys (d : Dec) (b : Nat) : (d.meet b).keys = d.keys ∧ (d.meet b).grid = d.grid ∧ (d.meet b).delay = d.delay := by
  unfold Dec.meet
  split
  · exact ⟨rfl, rfl, rfl⟩
  · exact ⟨rfl, rfl, rfl⟩

/-- Meeting a reset does not look at what DC_SAT has counted. -/
theorem meet_counted (d : Dec) (b : Nat) (sats : List Nat) (sat : Nat) (flag : W1c) :
    ({ d with sats := sats, sat := sat, satFlag := flag } : Dec).meet b
      = { d.meet b with sats := sats, sat := sat, satFlag := flag } := by
  unfold Dec.meet
  split
  · rfl
  · rfl

theorem meetValue_dec : (s.meetValue c j v).ch[c].dec.seen = some j
    ∧ (s.meetValue c j v).ch[c].dec.fR = (s.ch[c].dec.meet (s.resetBefore c j)).fR
    ∧ (s.meetValue c j v).ch[c].dec.fF = (s.ch[c].dec.meet (s.resetBefore c j)).fF
    ∧ (s.meetValue c j v).ch[c].dec.prev = (s.ch[c].dec.meet (s.resetBefore c j)).prev := by
  obtain ⟨sats, sat, flag, hdec⟩ := countSat_dec s c j v
  unfold State.meetValue
  rw [modDec_dec, hdec, meet_counted]
  exact ⟨rfl, rfl, rfl, rfl⟩

theorem meetValue_sameSide (th : Fin 2) : SameSide th (s.ch[c].dec.meet (s.resetBefore c j)) (s.meetValue c j v).ch[c].dec := by
  obtain ⟨-, hR, hF, hprev⟩ := meetValue_dec s c j v
  exact ⟨hprev, by rw [hR], by rw [hF]⟩

theorem meetValue_sameGrid : SameGrid c s (s.meetValue c j v) := by
  obtain ⟨hkeys, hgrid, hdelay⟩ := meet_sameKeys (s.countSat c j v).ch[c].dec (s.resetBefore c j)
  exact (countSat_sameGrid s c j v).trans (.modDec hkeys hgrid hdelay)

theorem compareValue_settling (hset : v.set = true) : s.compareValue c j v = s.meetValue c j v := if_pos hset

/-- A value that does not settle passes both thresholds, then is the one that the next is compared with. -/
theorem compareValue_passing (hset : v.set = false) :
    s.compareValue c j v = (((s.meetValue c j v).fltStep c j (s.comparedValue c v) 0).fltStep c j (s.comparedValue c v) 1).modDec c
      fun d => { d with prev := some (s.comparedValue c v) } := if_neg (by simp [hset])

theorem compareValue_dec (hset : v.set = false) : (s.compareValue c j v).ch[c].dec.prev = some (s.comparedValue c v)
    ∧ (s.compareValue c j v).ch[c].dec.seen = some j := by
  rw [compareValue_passing s c j v hset, modDec_dec, fltStep_dec, fltStep_dec]
  exact ⟨rfl, (meetValue_dec s c j v).1⟩

theorem compareValue_passed (hset : v.set = false) (th : Fin 2) :
    Passed (s.ch[c].dec.meet (s.resetBefore c j)) (s.fltKeys c th (s.completion c j)) (s.valueInstant c j).toNat
      (s.comparedValue c v) c th (s.compareValue c j v) := by
  have hgrid := meetValue_sameGrid s c j v
  have hside := meetValue_sameSide s c j v th
  rw [compareValue_passing s c j v hset]
  refine Passed.keep (u := ((s.meetValue c j v).fltStep c j (s.comparedValue c v) 0).fltStep c j (s.comparedValue c v) 1) ?_
    (by rw [modDec_dec]) (by rw [modDec_dec]) fun _ he => he
  match th with
  | 0 => exact (Passed.fltStep hside hgrid).fltStep_other (by decide)
  | 1 =>
    refine Passed.fltStep (hside.trans ?_) (hgrid.trans (fltStep_sameGrid ..))
    rw [fltStep_dec]
    exact primeAt_other _ _ _ (by decide)

end

/-- Value `j` as the codes that FLT_EVENT brings make it. -/
def State.valueBrought (s : State) (c : Fin 4) (j : Nat) (codes : Codes) : Value :=
  s.valueOf c j (s.valueStream c j 1 codes) eqReach

section
variable {s : State} {c : Fin 4} {j : Nat} {codes : Codes}

theorem fltValue_uncompared (h : s.comparesValue c j = false) : s.fltValue c j codes = s := if_neg (by simp [h])

theorem fltValue_compared (h : s.comparesValue c j = true) :
    s.fltValue c j codes = (s.compareValue c j (s.valueBrought c j codes)).hear c (s.valueStream c j 1 codes) := if_pos h

/-- A value that settles moves neither thresholds nor events. -/
theorem fltValue_settling (h : s.comparesValue c j = true) (hset : (s.valueBrought c j codes).set = true) :
    (s.fltValue c j codes).evq = s.evq
      ∧ (s.fltValue c j codes).ch[c].dec.fR = (s.ch[c].dec.meet (s.resetBefore c j)).fR
      ∧ (s.fltValue c j codes).ch[c].dec.fF = (s.ch[c].dec.meet (s.resetBefore c j)).fF
      ∧ (s.fltValue c j codes).ch[c].dec.prev = (s.ch[c].dec.meet (s.resetBefore c j)).prev
      ∧ (s.fltValue c j codes).ch[c].dec.seen = some j := by
  obtain ⟨hseen, hR, hF, hprev⟩ := meetValue_dec s c j (s.valueBrought c j codes)
  rw [fltValue_compared h, compareValue_settling s c j _ hset, hear_dec]
  exact ⟨countSat_evq s c j _, hR, hF, hprev, hseen⟩

/-- A value that does not settle is the one that the next is compared with, and both thresholds have passed it. -/
theorem fltValue_passing (h : s.comparesValue c j = true) (hset : (s.valueBrought c j codes).set = false) :
    (s.fltValue c j codes).ch[c].dec.prev = some (s.comparedValue c (s.valueBrought c j codes))
      ∧ (s.fltValue c j codes).ch[c].dec.seen = some j
      ∧ ∀ th : Fin 2, Passed (s.ch[c].dec.meet (s.resetBefore c j)) (s.fltKeys c th (s.completion c j)) (s.valueInstant c j).toNat
          (s.comparedValue c (s.valueBrought c j codes)) c th (s.fltValue c j codes) := by
  obtain ⟨hprev, hseen⟩ := compareValue_dec s c j _ hset
  rw [fltValue_compared h, hear_dec]
  refine ⟨hprev, hseen, fun th => (compareValue_passed s c j _ hset th).keep ?_ ?_ fun _ he => he⟩
  · rw [hear_dec]
  · rw [hear_dec]

end

/-! Values of the run before (10 R255, R267). -/

/-- The run in progress stands as `d` left it; the run before is as `e` leaves it. -/
def Dec.resume (d e : Dec) : Dec := { e.back d.leave with running := d.running, old := some e.leave }

theorem onOldRun_none {s : State} {c : Fin 4} (f : State → State) (h : s.ch[c].dec.old = none) : s.onOldRun c f = s := by
  unfold State.onOldRun
  rw [h]

theorem onOldRun_some {s : State} {c : Fin 4} {r : DecRun} (f : State → State) (h : s.ch[c].dec.old = some r) :
    s.onOldRun c f = (f (s.modDec c fun d => d.back r)).modDec c s.ch[c].dec.resume := by
  unfold State.onOldRun
  rw [h]
  rfl

/-! SYNCHRONISING_RESET (10 R262, R263). -/

/-- The stage after a reset at boundary `b`, its `k` settling values from value `n` on. -/
def Dec.takeReset (d : Dec) (n k b : Nat) : Dec :=
  { d with resetAt := none, resets := (n, k, b) :: d.resets, firstVal := min d.firstVal n }

theorem takeReset_primed {d : Dec} {b : Nat} (n k : Nat) (t : Fin 2) (h : d.cleared < b) :
    (d.takeReset n k b).primed t = (false, false) := by
  have hmet : (d.takeReset n k b).met = false := by simp [Dec.met, Dec.takeReset, Nat.not_le.mpr h]
  simp [Dec.primed, hmet]

theorem meet_prev {d : Dec} {b : Nat} (h : d.cleared < b) : (d.meet b).prev = none := by
  unfold Dec.meet
  rw [if_pos h]

/-- The last reset is the one before every value that is completed from its boundary on. -/
theorem resetBefore_of_head {u : State} {c : Fin 4} {j n k b : Nat} {rs : List (Nat × Nat × Nat)}
    (h : u.ch[c].dec.resets = (n, k, b) :: rs) (hj : b ≤ u.completion c j) : u.resetBefore c j = b := by
  unfold State.resetBefore
  rw [h]
  simp [hj]

section
variable {s : State} {c : Fin 4}

/-- Moving the first value of an open segment leaves the stages, and other channels. -/
theorem moveFirst_frame (s : State) (c : Fin 4) (n : Nat) :
    (s.moveFirst c n).ch[c].dec = s.ch[c].dec ∧ ∀ d, d ≠ c → (s.moveFirst c n).ch[d] = s.ch[d] := by
  unfold State.moveFirst
  split
  · split
    · exact ⟨by rw [modCh_same]; rfl, fun d hd => modCh_other _ _ hd⟩
    · exact ⟨rfl, fun _ _ => rfl⟩
  · exact ⟨rfl, fun _ _ => rfl⟩

theorem syncReset_early {b : Nat} (h : s.ch[c].dec.resetAt = some b) (hb : s.clk < b) : s.syncReset c = s := by
  unfold State.syncReset
  rw [h]
  exact if_pos hb

theorem syncReset_due {b : Nat} (h : s.ch[c].dec.resetAt = some b) (hb : b ≤ s.clk) :
    s.syncReset c = (s.moveFirst c (s.firstFrom c b)).modDec c fun d => d.takeReset (s.firstFrom c b) (s.settleCount c) b := by
  unfold State.syncReset
  rw [h]
  exact if_neg (by omega)

theorem syncReset_dec {b : Nat} (h : s.ch[c].dec.resetAt = some b) (hb : b ≤ s.clk) :
    (s.syncReset c).ch[c].dec = s.ch[c].dec.takeReset (s.firstFrom c b) (s.settleCount c) b := by
  rw [syncReset_due h hb, modDec_dec, (moveFirst_frame s c _).1]

theorem syncReset_other {b : Nat} (h : s.ch[c].dec.resetAt = some b) (hb : b ≤ s.clk) {d : Fin 4} (hd : d ≠ c) :
    (s.syncReset c).ch[d] = s.ch[d] := by
  rw [syncReset_due h hb, modDec_other _ _ hd, (moveFirst_frame s c _).2 d hd]

end

/-! The two rows. -/

section
variable (s : State) (t : Nat) (c : Fin 4) (j : Nat) (codes : Codes)

theorem exec_fltEvent_run : exec (.fltEvent t c ⟨false, j⟩ codes) s = go ((s.reach t).fltValue c j codes) := rfl

theorem exec_fltEvent_old :
    exec (.fltEvent t c ⟨true, j⟩ codes) s = go ((s.reach t).onOldRun c fun a => a.fltValue c j codes) := rfl

end

/-- Settles O35: a value by whether it is compared and settles, one of the run before by what it is on that run, and the reset by the
stage that it makes. -/
theorem decimatedThresholds : Obligations.DecimatedThresholds := by
  refine ⟨fun s t c j codes => ⟨fun h => ?_, fun h hset => ?_, fun h hset => ?_, fun hold => ?_, fun r w hold hw => ?_⟩,
    fun s t b c hat => ⟨fun hb => ?_, fun hb => ?_⟩⟩
  · exact congrArg go (fltValue_uncompared h)
  · exact ⟨_, exec_fltEvent_run s t c j codes, fltValue_settling h hset⟩
  · obtain ⟨hprev, hseen, hpassed⟩ := fltValue_passing h hset
    exact ⟨_, exec_fltEvent_run s t c j codes, hprev, hseen, fun th => ⟨(hpassed th).fR, (hpassed th).fF, (hpassed th).event⟩⟩
  · rw [exec_fltEvent_old, onOldRun_none (s := s.reach t) _ hold]
    rfl
  · have hrun : ((s.reach t).modDec c fun d => d.back r).fltValue c j codes = w := Host.Outcome.next.inj hw
    have hrow := exec_fltEvent_old s t c j codes
    rw [onOldRun_some (s := s.reach t) _ hold, hrun] at hrow
    have hdec : (w.modDec c s.ch[c].dec.resume).ch[c].dec = s.ch[c].dec.resume w.ch[c].dec := modDec_dec w c _
    exact ⟨_, hrow, rfl, (congrArg Dec.old hdec :), (congrArg Dec.leave hdec :), (congrArg Dec.running hdec :),
      fun d hd => modDec_other _ _ hd⟩
  · exact congrArg go (syncReset_early (s := s.reach t) hat hb)
  · have hdec : ((s.reach t).syncReset c).ch[c].dec = s.ch[c].dec.takeReset (s.firstFrom c b) (s.settleCount c) b :=
      syncReset_dec (s := s.reach t) hat hb
    have hresets : ((s.reach t).syncReset c).ch[c].dec.resets = (s.firstFrom c b, s.settleCount c, b) :: s.ch[c].dec.resets :=
      congrArg Dec.resets hdec
    refine ⟨_, rfl, congrArg Dec.resetAt hdec, fun hcl => ⟨fun th => ?_, fun k hk => ?_⟩, (congrArg Dec.grid hdec :), hresets,
      (congrArg Dec.firstVal hdec :), fun d hd => syncReset_other (s := s.reach t) hat hb hd⟩
    · rw [hdec]
      exact takeReset_primed _ _ th hcl
    · rw [resetBefore_of_head hresets hk, hdec]
      exact meet_prev hcl

end Sys2Proof.Machine
end

section
/-!
O1, O57: the step, and every command's effect.
-/

namespace Sys2Proof.Machine

/-- Settles O1: the step is defined by the queue's front. -/
theorem stepRunsFrontCommand : Obligations.StepRunsFrontCommand :=
  ⟨fun c rest s hq => by rw [step, hq], fun s hq => by rw [step, hq]⟩

/-- Settles O57: every arm of `exec` goes on to a state. -/
theorem everyCommandCompletes : Obligations.EveryCommandCompletes := by
  intro i s
  cases i <;> exact ⟨_, rfl⟩

end Sys2Proof.Machine
end

section
/-!
O38: a held allocation of a channel that does not run is still wanted while a segment waits for its descriptor page (12 R291, R297).
-/

namespace Sys2Proof.Machine

/-- Segment 0 of channel 0's acquisition, closed, waiting for a descriptor page. -/
def waitingSeg : Seg := { (default : Seg) with closed := true }

/-- Channel 0 is stopped with no quota; a segment of its acquisition waits for descriptor page 0, whose allocation is held. -/
def undescribed : State := (State.reset.modTr fun x => { x with segs := [waitingSeg], held := [⟨0, 0, some 0⟩] }).modCh 0 fun h =>
  { h with quota := 0 }

/-- Refutes O38: its clause on HELD_ALLOCATION drops every held allocation of a channel that is stopped and does nothing else; in
`undescribed` the allocation is still wanted, is refused for want of quota, and counts. -/
theorem not_pagesAndDescriptors : ¬ Obligations.PagesAndDescriptors := by
  intro h
  obtain ⟨-, hheld, -⟩ := h
  obtain ⟨hdrop, -⟩ := hheld undescribed 0 ⟨0, 0, some 0⟩ [] rfl
  have hnext := hdrop (by decide)
  have hu : (undescribed.reach 0).heldStep = (undescribed.reach 0).modTr fun x => { x with held := [] } := by injection hnext
  have hcounted : (undescribed.reach 0).heldStep.tr.refused = 1 := by decide +kernel
  rw [hu] at hcounted
  exact absurd hcounted (by decide)

end Sys2Proof.Machine
end

section
/-!
O43: a HARVEST_QUEUE_DESTROY whose expiry tick lies before its commit point is late also when its queue has drained (02 R51, R52; 14 R367).
-/

namespace Sys2Proof.Machine

/-- A HARVEST_QUEUE_DESTROY of queue 0, taken at tick 5 of mailbox 0, which was aborted at tick 2, waits to the end of its 100 ms. -/
def abortedDestroy : State := ((State.reset.modMb 0 fun b => { b with state := .busy, abort := some 2 }).modMr fun r =>
  { r with exec := some ⟨0, 5, .hqDestroy 0 0 0 10 true⟩ }).modQ 0 fun q => { q with live := true, dying := true }

/-- Refutes O43: its clause on QUEUE_DRAIN_EXPIRY answers with OK also a command whose expiry tick lies before its commit point, which
ends with E_TIMEOUT, as in `abortedDestroy`. -/
theorem not_queueEndsAndLink : ¬ Obligations.QueueEndsAndLink := by
  intro h
  obtain ⟨-, hdrain, -⟩ := h
  obtain ⟨-, hend⟩ := hdrain abortedDestroy 10 5 0 0 10 0 0 true [] rfl
  obtain ⟨u, hu, -, -, -, hok, -⟩ := hend (by decide) rfl (by decide) rfl
  have hu' : (abortedDestroy.reach 10).drainExpiry 0 [] = u := by injection hu
  have htimeout : (((abortedDestroy.reach 10).drainExpiry 0 []).mbox 0).status = eTimeout := by decide +kernel
  rw [hu', hok] at htimeout
  exact absurd htimeout (by decide)

end Sys2Proof.Machine
end

section
/-!
O44, O46, O49: the monitor's domain goes off in a state in which nothing holds it, and what the monitor has to do ends then (18 R456): an
injection that is outstanding, a table whose command is late. O54: a member's JOIN that waited while the core was halted is served on
RESUME, and the domains follow their holders then.
-/

namespace Sys2Proof.Machine

/-- Output 0 loads no pages; the module is in DEEP with the monitor's domain on, and an injection is outstanding. -/
def strayInjection : State := (((State.reset.modPw fun p => { p with st := 3 }).modMr fun r => { r with work := [⟨0, 0x0603, 0, 0, 0, 0⟩] }).modOut 0
  fun o => { o with loading := some ([], 0) })

/-- Refutes O44: its clause on PLAY_LOAD_END ends no work but the load's; in `strayInjection` the domains that follow their holders take the
monitor's off, which ends the injection. -/
theorem not_playLoading : ¬ Obligations.PlayLoading := by
  intro h
  obtain ⟨-, hloads⟩ := h
  obtain ⟨-, u, hu, -, -, hwork⟩ := hloads strayInjection 0 0 0 [] rfl
  have hu' : (strayInjection.reach 0).loadDone 0 none = u := by injection hu
  have hended : ((strayInjection.reach 0).loadDone 0 none).mr.work = [] := by decide +kernel
  rw [hu', hwork] at hended
  exact absurd hended (by decide)

/-- The join of a manager has had no JOIN since tick 0; the module is in DEEP with the monitor's domain on, and an injection is outstanding. -/
def straySilence : State := (((State.reset.modPw fun p => { p with st := 3 }).modMr fun r => { r with work := [⟨0, 0x0603, 0, 0, 0, 0⟩] }).modAr
  fun a => { a with joinAt := some 0 })

/-- Refutes O46: its clause on JOIN_SILENCE_EXPIRY ends no work but the join's; in `straySilence` the domains that follow their holders take
the monitor's off, which ends the injection. -/
theorem not_arrayMembership : ¬ Obligations.ArrayMembership := by
  intro h
  obtain ⟨-, hsilence, -⟩ := h
  obtain ⟨-, hend⟩ := hsilence straySilence 300000000 0 rfl
  obtain ⟨u, hu, -, -, -, hwork, -⟩ := hend (by decide)
  have hu' : (straySilence.reach 300000000).joinSilence = u := by injection hu
  have hended : (straySilence.reach 300000000).joinSilence.mr.work = [] := by decide +kernel
  rw [hu', hwork] at hended
  exact absurd hended (by decide)

/-- An entry to SLEEP with a latched wake stands before its commit; nothing holds the monitor's domain, which is on; a table waits, and the
command under execution is a DISARM with its boundary at tick 200, aborted at tick 100. -/
def lateTable : State := ((((State.reset.modPw fun p => { p with
    hostHeld := 0#196, entry := some ⟨0, 0, 2, 0, 0, 9, 0, some (5, 0)⟩ }).modMem fun m => { m with sr := .on }).modMon
  fun m => { m with newTable := some [] }).modMb 0 fun b => { b with state := .busy, abort := some 100 }).modMr fun r =>
  { r with exec := some ⟨0, 0, .disarm 200 0⟩ }

/-- Refutes O49: its clause on POWER_ENTRY_COMMIT replays a latched wake at the row's tick; in `lateTable` the domains that follow their
holders take the monitor's off, the command under execution ends at its expiry tick, and the wake is replayed then. -/
theorem not_powerStatesAreEntered : ¬ Obligations.PowerStatesAreEntered := by
  intro h
  obtain ⟨-, hentry, -⟩ := h
  obtain ⟨-, -, -, -, -, hcommit⟩ := hentry lateTable 0 ⟨0, 0, 2, 0, 0, 9, 0, some (5, 0)⟩
  obtain ⟨hsleep, -, -⟩ := hcommit rfl rfl rfl
  obtain ⟨u, hu, -, -, -, -, hwake⟩ := hsleep rfl
  have hu' : (lateTable.reach 0).entryCommit = u := by injection hu
  have hlater : (lateTable.reach 0).entryCommit.pw.waking = some (133, 2, 100) := by decide +kernel
  rw [hu', hwake _ rfl rfl] at hlater
  exact absurd hlater (by decide)

/-- The core of a WORKER is halted on an unlocked port; a JOIN waits, and nothing holds the monitor's domain, which is on. -/
def heldJoin : State := (((State.reset.modFw fun f => { f with unlocked := true, halted := true }).modAr fun a =>
  { a with role := 3, held := [.join 0 0 [] [] 3] }).modPw fun p => { p with hostHeld := 0#196 }).modMon fun m => { m with conv := .delay 0 5 }

/-- Refutes O54: its clause on DBG_RESUME leaves every unit but the firmware as it was; in `heldJoin` the JOIN that waited is served, the
domains follow their holders, and the monitor's sequence stops with its domain. -/
theorem not_identityOwnershipAndDebug : ¬ Obligations.IdentityOwnershipAndDebug := by
  intro h
  obtain ⟨-, -, -, -, -, -, hport, -⟩ := h
  obtain ⟨-, -, -, hresume, -⟩ := hport heldJoin 0 rfl
  obtain ⟨u, hu, -, -, hunits⟩ := hresume rfl rfl rfl
  obtain ⟨-, -, -, -, -, -, -, -, -, -, -, hmon, -, -⟩ := hunits
  have hu' : (heldJoin.reach 0).dbgCtrlBit 1 2#32 = u := by injection hu
  have hstopped : ((heldJoin.reach 0).dbgCtrlBit 1 2#32).mon.conv = .stopped := by decide +kernel
  rw [hu', show u.mon = heldJoin.mon from hmon] at hstopped
  exact absurd hstopped (by decide)

end Sys2Proof.Machine
end

section
/-!
O53: a command relayed to a member while its firmware restarts is posted once the new firmware serves (16 R407, R415; 19 R467).
-/

namespace Sys2Proof.Machine

/-- A WORKER restarts into the slot that ran; a command relayed to it waits. -/
def restartingWorker : State := (State.reset.modFw fun f => { f with serving := false, restart := some ⟨0, 0, 0, 0, 0, false⟩ }).modAr fun a =>
  { a with role := 3, held := [.relay 0 []] }

/-- Refutes O53: its clause on LIVE_RESTART_DONE leaves every mailbox FREE; in `restartingWorker` the relayed command that waited is posted
in the relay mailbox. -/
theorem not_firmwareIsStagedAndActivated : ¬ Obligations.FirmwareIsStagedAndActivated := by
  intro h
  obtain ⟨-, -, -, hrestart, -⟩ := h
  obtain ⟨-, hstarts⟩ := hrestart restartingWorker 0 true ⟨0, 0, 0, 0, 0, false⟩
  obtain ⟨hserves, -⟩ := hstarts rfl rfl rfl
  obtain ⟨u, hu, -, -, -, -, -, hfree, -⟩ := hserves (by decide) rfl
  have hu' : (restartingWorker.reach 0).liveDone true = u := by injection hu
  have hposted : (((restartingWorker.reach 0).liveDone true).mbox 16).state = .posted := by decide +kernel
  rw [hu', hfree] at hposted
  exact absurd hposted (by decide)

end Sys2Proof.Machine
end

section
/-!
SUPPORT. Units of a state that a frame leaves, by name.
-/

namespace Sys2Proof.Machine

variable {s u : State}

theorem SameUnits.mon (h : SameUnits s u) : u.mon = s.mon := by
  obtain ⟨-, -, -, -, -, -, -, -, -, -, -, hmon, -⟩ := h
  exact hmon

theorem SameUnits.tr (h : SameUnits s u) : u.tr = s.tr := by
  obtain ⟨-, -, -, -, -, -, -, htr, -⟩ := h
  exact htr

theorem SameUnits.mem (h : SameUnits s u) : u.mem = s.mem := by
  obtain ⟨-, -, -, -, -, -, -, -, hmem, -⟩ := h
  exact hmem

theorem SameUnits.hv (h : SameUnits s u) : u.hv = s.hv := by
  obtain ⟨-, -, -, -, -, -, -, -, -, hhv, -⟩ := h
  exact hhv

theorem SameUnits.ch (h : SameUnits s u) : u.ch = s.ch := by
  obtain ⟨-, -, -, -, -, hch, -⟩ := h
  exact hch

/-- A frame that lets the monitor differ. -/
theorem SameUnits.beside_mon {x : State} (h : SameUnits x u) (k : SameUnits { s with mon := x.mon } x) : SameUnits { s with mon := u.mon } u := by
  rw [h.mon]
  exact k.trans h

end Sys2Proof.Machine
end

section
/-!
SUPPORT. The map of domains (17 R421, R422): a domain that is held is in it, and beside the monitor's part (18 R456) the domains move front
ends and towers alone.
-/

namespace Sys2Proof.Machine

/-! Maps of domains. -/

theorem getLsbD_one_shift {k d : Nat} (h : d < 196) : (1#196 <<< k).getLsbD d = decide (d = k) := by
  rw [BitVec.getLsbD_shiftLeft, BitVec.getLsbD_one]
  by_cases hlt : d < k
  · simp [hlt, Nat.ne_of_lt hlt]
  · simp only [h, hlt, decide_true, decide_false, Bool.not_false, Bool.true_and, Nat.zero_lt_succ]
    rw [Bool.eq_iff_iff, decide_eq_true_iff, decide_eq_true_iff]
    omega

theorem foldl_domMap_getLsbD {d : Nat} (h : d < 196) (ds : List Nat) (m : BitVec 196) :
    (ds.foldl (fun m k => m ||| (1#196 <<< k)) m).getLsbD d = (m.getLsbD d || decide (d ∈ ds)) := by
  induction ds generalizing m with
  | nil => simp
  | cons k ks ih => simp [ih, getLsbD_one_shift h, Bool.or_assoc, Bool.decide_or]

/-- A domain is in a map when its number is in the list. -/
theorem domMap_getLsbD {d : Nat} (h : d < 196) (ds : List Nat) : (domMap ds).getLsbD d = decide (d ∈ ds) := by
  rw [domMap, foldl_domMap_getLsbD h]
  simp

theorem bitSpan_monitor : (bitSpan 195 196).getLsbD 195 = true := by decide

/-- Monitor work holds the monitor's domain in every state but DEEP and OFF (18 R456). -/
theorem holders_monitor {s : State} (h : s.monHolds = true) (hpw : s.pw.st ≤ 2) : s.holders.getLsbD 195 = true := by
  unfold State.holders
  split
  · simp only [BitVec.getLsbD_or, BitVec.getLsbD_and, domMap_getLsbD (show 195 < 196 by decide), bitSpan_monitor]
    simp
  · rw [BitVec.getLsbD_or, domMap_getLsbD (by decide)]
    simp [State.workHolds, h]

/-! What follows the domains. -/

/-- A visit of an entry moves the converter alone. -/
theorem visit_conv (m : Monitor) (i b : Nat) : ∃ c, m.visit i b = { m with conv := c } := by
  unfold Monitor.visit Monitor.convert
  split
  · exact ⟨_, rfl⟩
  · split
    · exact ⟨_, rfl⟩
    · split <;> exact ⟨_, rfl⟩

/-- Only front ends and towers differ. -/
def FollowsDomains (s u : State) : Prop := u = { s with fe := u.fe, tw := u.tw }

namespace FollowsDomains
variable {s u v : State}

theorem refl : FollowsDomains s s := rfl

theorem trans (h : FollowsDomains s u) (k : FollowsDomains u v) : FollowsDomains s v := by
  unfold FollowsDomains at *
  rw [k, h]

theorem foldl {α : Type} {f : State → α → State} (hf : ∀ a x, FollowsDomains a (f a x)) (l : List α) (s : State) :
    FollowsDomains s (l.foldl f s) := by
  induction l generalizing s with
  | nil => exact refl
  | cons x xs ih => exact (hf s x).trans (ih _)

theorem clk (h : FollowsDomains s u) : u.clk = s.clk := by rw [h]
theorem mr (h : FollowsDomains s u) : u.mr = s.mr := by rw [h]
theorem log (h : FollowsDomains s u) : u.log = s.log := by rw [h]
theorem hl (h : FollowsDomains s u) : u.hl = s.hl := by rw [h]
theorem ar (h : FollowsDomains s u) : u.ar = s.ar := by rw [h]
theorem pw (h : FollowsDomains s u) : u.pw = s.pw := by rw [h]
theorem mon (h : FollowsDomains s u) : u.mon = s.mon := by rw [h]

theorem feDomain (s : State) (i : Fin 4) (was on : Bool) : FollowsDomains s (s.feDomain i was on) := by
  unfold State.feDomain
  split <;> exact rfl

theorem syncRotation (s : State) (k : Fin 4) : FollowsDomains s (s.syncRotation k) := by
  unfold State.syncRotation
  dsimp only
  split
  · split <;> exact rfl
  · split <;> exact rfl

end FollowsDomains

/-- The domains switched, and with them the ports (16 R389). -/
def State.powered (s : State) (m : BitVec 196) : State :=
  (s.modAr fun a => { a with
    ports := Vector.ofFn (fun (p : Fin 3) => a.ports[p] && m.getLsbD (192 + p.val))
    wire := cutWire s.clk (fun p => !(m.getLsbD (192 + p))) a.wire }).modPw fun p => { p with onMap := m }

/-- The domains switched, the monitor following too (18 R456). -/
def State.switched (s : State) (m : BitVec 196) : State := (s.powered m).monDomain (s.pw.onMap.getLsbD 195) (m.getLsbD 195)

theorem setDomains_follows (s : State) (m : BitVec 196) : FollowsDomains (s.switched m) (s.setDomains m) :=
  (FollowsDomains.foldl (fun a i => .feDomain a i _ _) _ _).trans (.foldl .syncRotation _ _)

theorem monOn_conv (s : State) : ∃ p c, s.monOn = s.modMon fun m => { m with period := p, conv := c } := by
  obtain ⟨c, hc⟩ := visit_conv (s.monBoundary s.clk).mon 0 s.clk
  refine ⟨(s.monBoundary s.clk).mon.period, c, ?_⟩
  exact (congrArg (s.monBoundary s.clk).setMon hc).trans rfl

/-- The monitor keeps or begins its sequence where its domain is on. -/
theorem monDomain_on (s : State) (was : Bool) : ∃ p c, s.monDomain was true = s.modMon fun m => { m with period := p, conv := c } := by
  unfold State.monDomain
  split
  · exact ⟨s.mon.period, s.mon.conv, rfl⟩
  · exact monOn_conv s

end Sys2Proof.Machine
end

section
/-!
O52: the monitor's commands (18 R447, R450, R452, R454).
-/

namespace Sys2Proof.Machine

/-! MON_LOAD_TABLE (18 R447). -/

/-- The payload of MON_LOAD_TABLE is within its ranges. -/
def TableForm (p : List Byte) : Prop :=
  fieldAt p 0 1 ≤ 64 ∧ allZero (sliceAt p 1 7) = true
    ∧ (if fieldAt p 0 1 = 0 then allZero (sliceAt p 8 16) = true else bulkOk p 8 = true ∧ (bulkRef p 8).2.1 = 24 * fieldAt p 0 1)

/-- The bytes of the entries, where the bulk read delivered them. -/
def tableBytes (bulk : Bulk) (p : List Byte) : Option (List Byte) := if fieldAt p 0 1 = 0 then some [] else bulkBytes p 8 bulk

section
variable {s : State} {r : Req} {bulk : Bulk}

theorem tableForm_iff (p : List Byte) : TableForm p ↔ (decide (fieldAt p 0 1 ≤ 64) && allZero (sliceAt p 1 7)
    && (if fieldAt p 0 1 = 0 then allZero (sliceAt p 8 16) else bulkOk p 8 && (bulkRef p 8).2.1 == 24 * fieldAt p 0 1)) = true := by
  unfold TableForm
  split <;> simp [and_assoc]

theorem monLoadBody_malformed (h : ¬TableForm r.payload) : monLoadBody bulk r s = fails eParam s :=
  if_pos (by rw [tableForm_iff, Bool.not_eq_true] at h; rw [h]; rfl)

section
variable {bs : List Byte} (h : TableForm r.payload) (hd : tableBytes bulk r.payload = some bs)
include h hd

theorem monLoadBody_unreadable (he : monEntries bs (fieldAt r.payload 0 1) = none) : monLoadBody bulk r s = fails eParam s := by
  rw [tableForm_iff] at h
  unfold tableBytes at hd
  simp only [monLoadBody, h, hd, he, Option.bind_some, Option.isSome_some, Option.isNone_none, Bool.and_self, Bool.or_true, if_true]

variable {tb : List MonEntry} (he : monEntries bs (fieldAt r.payload 0 1) = some tb)
include he

theorem monLoadBody_busy (hwork : s.monHolds = true) : monLoadBody bulk r s = fails eBusy s := by
  rw [tableForm_iff] at h
  unfold tableBytes at hd
  simp [monLoadBody, h, hd, he, State.monWork, hwork]

theorem monLoadBody_stopped (hfree : s.monHolds = false) (hconv : s.mon.conv = .stopped) : monLoadBody bulk r s = answers []
    (((s.modMon fun m => { m with newTable := some tb }).monBoundary s.clk).startTable (s.domOn 195)) := by
  rw [tableForm_iff] at h
  unfold tableBytes at hd
  simp [monLoadBody, h, hd, he, State.monWork, hfree, hconv]

theorem monLoadBody_running (hfree : s.monHolds = false) (hconv : s.mon.conv ≠ .stopped) : monLoadBody bulk r s =
    (.wait .monLoad, s.modMon fun m => { m with newTable := some tb }) := by
  rw [tableForm_iff] at h
  unfold tableBytes at hd
  simp only [monLoadBody, h, hd, State.monWork, hfree]
  cases hc : s.mon.conv <;> simp_all

end

end

/-- A table that waits and is taken: its entries stand, with cleared statistics. -/
theorem startTable_loads {s : State} {tb : List MonEntry} (h : s.mon.newTable = some tb) (on : Bool) : ∃ c,
    Quiet (s.modMon fun m => { m with
      table := tb, accs := tb.map (fun _ => MonAcc.reset), slot := MonAcc.reset, newTable := none, conv := c }) (s.startTable on) := by
  obtain ⟨c, hc⟩ := visit_conv { s.mon with
    table := tb, accs := tb.map (fun _ => MonAcc.reset), slot := MonAcc.reset, newTable := none } 0 s.clk
  simp only [State.startTable, State.startTableAt, h]
  cases on
  · refine ⟨.stopped, ?_⟩
    convert logEv_quiet _ _ _ _ _ using 1
    simp only [State.modMon, State.setMon, Monitor.load, hc]
    rfl
  · refine ⟨c, ?_⟩
    convert logEv_quiet _ _ _ _ _ using 1
    simp only [State.modMon, State.setMon, Monitor.load, hc]
    rfl

/-! MON_READ (18 R450). -/

/-- The payload of MON_READ asks for records, within its ranges. -/
def RecordsForm (p : List Byte) : Prop :=
  fieldAt p 0 1 = 0 ∧ fieldAt p 4 4 = 0 ∧ fieldAt p 1 1 ≤ 64 ∧ 1 ≤ fieldAt p 2 1 ∧ fieldAt p 2 1 ≤ 63 ∧ fieldAt p 1 1 + fieldAt p 2 1 ≤ 65
    ∧ fieldAt p 3 1 ≤ 1

/-- The payload of MON_READ asks for the coefficients. -/
def CoeffsForm (p : List Byte) : Prop := fieldAt p 0 1 = 1 ∧ fieldAt p 4 4 = 0 ∧ fieldAt p 1 1 = 0 ∧ fieldAt p 2 1 = 0 ∧ fieldAt p 3 1 = 0

/-- The header before the records of MON_READ. -/
def State.recordsHead (s : State) (count : Nat) : List Byte :=
  leBytes 8 s.ticks ++ leBytes 1 count ++ leBytes 1 s.mon.period ++ leBytes 1 s.mon.table.length ++ List.replicate 5 0#8
    ++ leBytes 8 s.mon.convs ++ leBytes 4 s.mon.dropped ++ List.replicate 4 0#8

section
variable {s : State} {r : Req}

theorem monReadBody_malformed (h0 : ¬RecordsForm r.payload) (h1 : ¬CoeffsForm r.payload) : monReadBody r s = fails eParam s := by
  unfold RecordsForm CoeffsForm at *
  unfold monReadBody
  by_cases hview : fieldAt r.payload 0 1 = 0
  · refine if_pos ?_
    simp only [hview, true_and, not_and] at h0 ⊢
    simp only [if_true, Bool.not_eq_true', Bool.and_eq_false_imp, beq_iff_eq, decide_eq_false_iff_not, not_and]
    exact h0
  · refine if_pos ?_
    simp only [hview, if_false, Bool.not_eq_true', Bool.and_eq_false_imp, Bool.and_eq_true, beq_iff_eq, beq_eq_false_iff_ne]
    tauto

theorem monReadBody_coeffs (h : CoeffsForm r.payload) : monReadBody r s = answers s.mon.coeffBytes s := by
  obtain ⟨hview, hres, hfirst, hcount, hclear⟩ := h
  simp [monReadBody, hview, hres, hfirst, hcount, hclear]

theorem monReadBody_records (h : RecordsForm r.payload) : monReadBody r s = answers (s.recordsHead (fieldAt r.payload 2 1)
      ++ (List.range (fieldAt r.payload 2 1)).flatMap fun i => s.mon.recordAt (fieldAt r.payload 1 1 + i))
    (if fieldAt r.payload 3 1 = 1 then s.modMon fun m => m.clearFrom (fieldAt r.payload 1 1) (fieldAt r.payload 2 1) else s) := by
  obtain ⟨hview, hres, hfirst, hone, hmany, hend, hclear⟩ := h
  simp [monReadBody, hview, hres, hfirst, hone, hmany, hend, hclear, State.recordsHead]

end

/-! MON_INJECT (18 R452). -/

/-- The payload of MON_INJECT is within its ranges. -/
def InjectForm (p : List Byte) : Prop :=
  allZero (sliceAt p 2 6) = true ∧ fieldAt p 0 1 < 40 ∧ (if fieldAt p 0 1 < 16 then fieldAt p 1 1 ≤ 3 else fieldAt p 1 1 = 0)

/-- The injected conversion that a request asks for waits its 64 µs. -/
def State.injectWaits (s : State) (chan range : Nat) : State :=
  s.modMon fun m => { m with inject := some (s.clk + 192000), slotChan := (chan, range) }

section
variable {s : State} {r : Req}

theorem injectForm_iff (p : List Byte) : InjectForm p ↔ (allZero (sliceAt p 2 6) && decide (fieldAt p 0 1 < 40)
    && (if isSense (fieldAt p 0 1) then decide (fieldAt p 1 1 ≤ 3) else fieldAt p 1 1 == 0)) = true := by
  unfold InjectForm isSense
  by_cases h : fieldAt p 0 1 < 16 <;> simp [h, and_assoc]

theorem monInjectBody_malformed (h : ¬InjectForm r.payload) : monInjectBody r s = fails eParam s :=
  if_pos (by rw [injectForm_iff, Bool.not_eq_true] at h; rw [h]; rfl)

theorem monInjectBody_busy (h : InjectForm r.payload) (hwork : s.monHolds = true) : monInjectBody r s = fails eBusy s := by
  rw [injectForm_iff] at h
  simp only [monInjectBody, h, State.monWork, hwork, Bool.not_true, Bool.false_eq_true, if_false, if_true]

section
variable (h : InjectForm r.payload) (hfree : s.monHolds = false) (hroom : s.mr.work.length < 16)
include h hfree hroom

theorem monInjectBody_drops (hconv : s.monConverting = true) :
    monInjectBody r s = accepted ((s.addWork r (fieldAt r.payload 0 1) (fieldAt r.payload 1 1)).injectDrop 1) := by
  rw [injectForm_iff] at h
  have hfull : s.workFull = false := decide_eq_false (by omega)
  simp only [monInjectBody, h, State.monWork, hfree, hfull, hconv, Bool.not_true, Bool.false_eq_true, if_false, if_true]

theorem monInjectBody_waits (hconv : s.monConverting = false) : monInjectBody r s =
    accepted ((s.addWork r (fieldAt r.payload 0 1) (fieldAt r.payload 1 1)).injectWaits (fieldAt r.payload 0 1)
      (fieldAt r.payload 1 1)).syncDomains := by
  rw [injectForm_iff] at h
  have hfull : s.workFull = false := decide_eq_false (by omega)
  simp only [monInjectBody, h, State.monWork, hfree, hfull, hconv, Bool.not_true, Bool.false_eq_true, if_false]
  rfl

end
end

end Sys2Proof.Machine
end

section
/-!
O52: accepted work of the monitor, and MON_SYSCAL (18 R454).
-/

namespace Sys2Proof.Machine

/-! The domains while monitor work stands (18 R456). -/

/-- While monitor work stands, what follows the domains leaves the command interface, and of the monitor all but the converter's course. -/
theorem syncDomains_monitor {s : State} (h : s.monHolds = true) (hpw : s.pw.st ≤ 2) : ∃ p c,
    s.syncDomains.mon = { s.mon with period := p, conv := c } ∧ s.syncDomains.mr = s.mr ∧ s.syncDomains.clk = s.clk := by
  have hf := setDomains_follows s s.holders
  unfold State.switched at hf
  rw [holders_monitor h hpw] at hf
  obtain ⟨p, c, hmon⟩ := monDomain_on (s.powered s.holders) (s.pw.onMap.getLsbD 195)
  rw [hmon] at hf
  exact ⟨p, c, hf.mon, hf.mr, hf.clk⟩

/-! Work (02 R49). -/

theorem eraseP_added {α : Type} {p : α → Bool} {l : List α} {x : α} (hl : l.any p = false) (hx : p x = true) : (l ++ [x]).eraseP p = l := by
  rw [List.eraseP_append_right _ (by simpa using hl)]
  simp [hx]

/-- Work that has just been added and is ended leaves the list as it was. -/
theorem endWork_added {s u : State} {code st d : Nat} {w : Work} (hw : s.working code = false) (hc : w.code = code)
    (hu : u.mr.work = s.mr.work ++ [w]) : (u.endWork code st d).mr.work = s.mr.work := by
  rw [State.endWork, endWorkIf_work, hu]
  exact eraseP_added hw (by simp [hc])

theorem endWorkIf_clk (s : State) (p : Work → Bool) (st d : Nat) : (s.endWorkIf p st d).clk = s.clk := by
  unfold State.endWorkIf
  split
  · rfl
  · exact (logEv_quiet (s.modMr _) _ _ _ _).clk

/-- An event brings at most RUN (17 R420). -/
theorem logEntry_shallow {s : State} (e : Event) (h : s.pw.st ≤ 2) : (s.logEntry e).pw.st ≤ 2 := by
  unfold State.logEntry
  split
  · unfold State.coreWake
    have hst : ((s.record { e with seq := s.log.next }).notify e.sev).pw.st ≤ 2 := by rw [notify_pw]; exact h
    split
    · exact Nat.zero_le _
    · split <;> exact hst
  · exact h

theorem endWorkIf_shallow {s : State} (p : Work → Bool) (st d : Nat) (h : s.pw.st ≤ 2) : (s.endWorkIf p st d).pw.st ≤ 2 := by
  unfold State.endWorkIf
  split
  · exact h
  · exact logEntry_shallow (s := s.modMr _) _ h

/-- Ending work of one code leaves work of another. -/
theorem endWork_working {s : State} {code c st d : Nat} (h : s.working c = true) (hne : c ≠ code) : (s.endWork code st d).working c = true := by
  unfold State.working at h ⊢
  rw [State.endWork, endWorkIf_work, List.any_eq_true]
  obtain ⟨w, hw, hc⟩ := List.any_eq_true.mp h
  refine ⟨w, (List.mem_eraseP_of_neg ?_).mpr hw, hc⟩
  rw [beq_iff_eq.mp hc]
  simp [hne]

/-! MON_SYSCAL (18 R454). -/

/-- The calibration that MON_SYSCAL's payload asks for. -/
def syscalOf (p : List Byte) : Syscal :=
  ⟨Fin.ofNat 16 (fieldAt p 0 1), Fin.ofNat 4 (fieldAt p 1 1), fieldAt p 2 1, fieldAt p 3 1, decInt 32 (fieldAt p 4 4)⟩

/-- An injected conversion that waits makes way for a calibration (18 R454). -/
def State.yieldInject (s : State) : State := if s.mon.inject.isSome then s.injectDrop 2 else s

section
variable {s : State} {r : Req}

theorem monSyscalBody_malformed (h : syscalForm r.payload = false) : monSyscalBody r s = fails eParam s := by
  simp [monSyscalBody, h]

section
variable (h : syscalForm r.payload = true)
include h

theorem monSyscalBody_unzeroed (hstep : fieldAt r.payload 2 1 = 1) (hz : (fieldAt r.payload 0 1, fieldAt r.payload 1 1) ∉ s.mon.zeroed) :
    monSyscalBody r s = fails eState s := by
  simp [monSyscalBody, h, hstep, hz]

variable (hfree : s.working 0x0604 = false) (hroom : s.mr.work.length < 16)
include hfree hroom

theorem monSyscalBody_sets (hstep : fieldAt r.payload 2 1 = 2) : monSyscalBody r s =
    accepted (((s.addWork r (fieldAt r.payload 0 1) (fieldAt r.payload 1 1)).modMon fun m =>
      m.setCoeff (coeffIdx (fieldAt r.payload 0 1) (fieldAt r.payload 1 1))
        (decInt 32 (fieldAt r.payload 4 4), decInt 32 (fieldAt r.payload 8 4))).endWork 0x0604 stOk 0) := by
  have hfull : s.workFull = false := decide_eq_false (by omega)
  simp [monSyscalBody, h, hstep, hfree, hfull]

theorem monSyscalBody_defaults (hstep : fieldAt r.payload 2 1 = 3) : monSyscalBody r s =
    accepted (((s.addWork r (fieldAt r.payload 0 1) (fieldAt r.payload 1 1)).modMon fun m =>
      m.setCoeff (coeffIdx (fieldAt r.payload 0 1) (fieldAt r.payload 1 1)) (0, 16777216)).endWork 0x0604 stOk 0) := by
  have hfull : s.workFull = false := decide_eq_false (by omega)
  simp [monSyscalBody, h, hstep, hfree, hfull]

theorem monSyscalBody_waits (hstep : fieldAt r.payload 2 1 = 0
      ∨ (fieldAt r.payload 2 1 = 1 ∧ (fieldAt r.payload 0 1, fieldAt r.payload 1 1) ∈ s.mon.zeroed)) : monSyscalBody r s =
    accepted (((s.addWork r (fieldAt r.payload 0 1) (fieldAt r.payload 1 1)).yieldInject.modMon fun m =>
      { m with syscal := some (syscalOf r.payload) }).syncDomains) := by
  have hfull : s.workFull = false := decide_eq_false (by omega)
  have hzeroed : ¬(fieldAt r.payload 2 1 = 1 ∧ s.mon.zeroed.contains (fieldAt r.payload 0 1, fieldAt r.payload 1 1) = false) := by
    rintro ⟨hone, hnot⟩
    obtain hstep | ⟨-, hz⟩ := hstep
    · omega
    · simp [hz] at hnot
  have h2 : fieldAt r.payload 2 1 ≠ 2 := by omega
  have h3 : fieldAt r.payload 2 1 ≠ 3 := by omega
  simp only [monSyscalBody, h, hzeroed, hfree, hfull, h2, h3, Bool.not_true, Bool.false_eq_true, if_false]
  rfl

end

theorem yieldInject_frame (hpw : s.pw.st ≤ 2) (hw : s.working 0x0604 = true) : s.yieldInject.mon.coeff = s.mon.coeff
    ∧ s.yieldInject.clk = s.clk ∧ s.yieldInject.pw.st ≤ 2 ∧ s.yieldInject.working 0x0604 = true := by
  unfold State.yieldInject State.injectDrop
  split
  · exact ⟨(congrArg Monitor.coeff (endWorkIf_units (s.modMon _) _ _ _).mon :), endWorkIf_clk (s.modMon _) _ _ _,
      endWorkIf_shallow (s := s.modMon _) _ _ _ hpw, endWork_working (s := s.modMon _) hw (by decide)⟩
  · exact ⟨rfl, rfl, hpw, hw⟩

/-- What a calibration that waits leaves. -/
theorem syscalWaits_frame {w : Syscal} (hpw : s.pw.st ≤ 2) (hw : s.working 0x0604 = true) :
    let u := (s.yieldInject.modMon fun m => { m with syscal := some w }).syncDomains
    u.mon.coeff = s.mon.coeff ∧ u.mon.syscal = some w ∧ u.clk = s.clk := by
  obtain ⟨hcoeff, hclk, hst, hwork⟩ := yieldInject_frame hpw hw
  obtain ⟨p, c, hmon, -, hclk'⟩ := syncDomains_monitor (s := s.yieldInject.modMon fun m => { m with syscal := some w })
    (by rw [State.monHolds, Bool.or_eq_true]; exact .inr hwork) hst
  exact ⟨(congrArg Monitor.coeff hmon).trans hcoeff, congrArg Monitor.syscal hmon, hclk'.trans hclk⟩

end

end Sys2Proof.Machine
end

section
/-!
O52: the converter's steps (18 R442, R446, R449, R452, R454). A result of the sequence is added to its entry's accumulator; alarms and open
wires then mark that entry, and touch nothing of the converter's course.
-/

namespace Sys2Proof.Machine

/-! Accumulators (18 R449). -/

section
variable {s : State} {i j : Nat} {g : MonAcc → MonAcc}

theorem acc_modAcc_other (h : j ≠ i) : (s.modAcc i g).mon.acc j = s.mon.acc j := by
  show (s.mon.accs.modify i g).getD j MonAcc.reset = s.mon.accs.getD j MonAcc.reset
  simp [List.getD_eq_getElem?_getD, Ne.symm h]

theorem acc_modAcc_same (h : i < s.mon.accs.length) : (s.modAcc i g).mon.acc i = g (s.mon.acc i) := by
  show (s.mon.accs.modify i g).getD i MonAcc.reset = g (s.mon.accs.getD i MonAcc.reset)
  simp [List.getD_eq_getElem?_getD, h]

end

/-- What an accumulator has counted. -/
def MonAcc.tally (a : MonAcc) : Nat × Int × Nat := (a.n, a.sum, a.last)

/-- Of what the converter does and counts at most the marks of entry `i` differ, and the command interface stands. -/
structure MarksEntry (i : Nat) (s u : State) : Prop where
  mr : u.mr = s.mr
  convs : u.mon.convs = s.mon.convs
  period : u.mon.period = s.mon.period
  conv : u.mon.conv = s.mon.conv
  coeff : u.mon.coeff = s.mon.coeff
  tally : (u.mon.acc i).tally = (s.mon.acc i).tally
  others : ∀ j, j ≠ i → u.mon.acc j = s.mon.acc j

namespace MarksEntry
variable {i : Nat} {s u v : State}

theorem refl : MarksEntry i s s := ⟨rfl, rfl, rfl, rfl, rfl, rfl, fun _ _ => rfl⟩

theorem trans (h : MarksEntry i s u) (k : MarksEntry i u v) : MarksEntry i s v :=
  ⟨k.mr.trans h.mr, k.convs.trans h.convs, k.period.trans h.period, k.conv.trans h.conv, k.coeff.trans h.coeff, k.tally.trans h.tally,
    fun j hj => (k.others j hj).trans (h.others j hj)⟩

theorem of_same (hmr : u.mr = s.mr) (hmon : u.mon = s.mon) : MarksEntry i s u := by
  refine ⟨hmr, ?_, ?_, ?_, ?_, ?_, fun _ _ => ?_⟩ <;> rw [hmon]

theorem of_quiet (h : Quiet s u) : MarksEntry i s u := of_same h.mr h.units.mon

theorem modAcc {g : MonAcc → MonAcc} (h : MarksEntry i s u) (hg : ∀ a, (g a).tally = a.tally) : MarksEntry i s (u.modAcc i g) :=
  have htally : ((u.modAcc i g).mon.acc i).tally = (u.mon.acc i).tally := by
    by_cases hi : i < u.mon.accs.length
    · rw [acc_modAcc_same hi, hg]
    · show ((u.mon.accs.modify i g).getD i MonAcc.reset).tally = (u.mon.accs.getD i MonAcc.reset).tally
      simp [List.getD_eq_getElem?_getD, List.getElem?_eq_none (Nat.le_of_not_lt hi)]
  h.trans ⟨rfl, rfl, rfl, rfl, rfl, htally, fun _ hj => acc_modAcc_other hj⟩

theorem logEv {code sev scope : Nat} {data : List Byte} (h : MarksEntry i s u) : MarksEntry i s (u.logEv code sev scope data) :=
  h.trans (.of_quiet (logEv_quiet u code sev scope data))

theorem ite {c : Prop} {d : Decidable c} (hu : MarksEntry i s u) (hv : MarksEntry i s v) : MarksEntry i s (if c then u else v) := by
  split
  · exact hu
  · exact hv

theorem beginWake {src : Nat} (h : MarksEntry i s u) : MarksEntry i s (u.beginWake src) :=
  .ite (h.trans (.of_same rfl rfl)) (.ite h (h.trans (.of_same rfl rfl)))

theorem wakeEvent {src : Nat} (h : MarksEntry i s u) : MarksEntry i s (u.wakeEvent src) := by
  unfold State.wakeEvent
  split
  · exact .ite (h.trans (.of_same rfl rfl)) h
  · exact .ite h.beginWake h

theorem open_tally (b : Bool) (a : MonAcc) : ({ a with open_ := b } : MonAcc).tally = a.tally := rfl

theorem alarm_tally (b : Bool) (n : Nat) (a : MonAcc) : ({ a with beyond := n, alarm := b } : MonAcc).tally = a.tally := rfl

/-- Open wires (18 R451). -/
theorem monOpen {v : Int} {tick : Nat} (h : MarksEntry i s u) : MarksEntry i s (u.monOpen i v tick) :=
  .ite (.ite h (h.modAcc (open_tally true)).logEv) (.ite h (h.modAcc (open_tally false)))

/-- The alarm is entered (18 R455). -/
theorem monAlarmOn {side b : Nat} (h : MarksEntry i s u) : MarksEntry i s (u.monAlarmOn i side b) := by
  unfold State.monAlarmOn
  extract_lets e s1 s2
  have h1 : MarksEntry i s s1 := (h.modAcc fun a => alarm_tally true a.beyond a).logEv
  have h2 : MarksEntry i s s2 := .ite (h1.trans (.of_same rfl rfl)) h1
  exact .ite h2.wakeEvent h2

/-- Alarms (18 R455). -/
theorem monAlarm {v : Int} {b : Nat} (h : MarksEntry i s u) : MarksEntry i s (u.monAlarm i v b) := by
  unfold State.monAlarm
  extract_lets e s1 n s2
  have h1 : MarksEntry i s s1 := h.modAcc (alarm_tally false 0)
  have h2 : MarksEntry i s s2 := h.modAcc fun a => alarm_tally a.alarm n a
  exact .ite h (.ite (.ite h1.logEv h1) (.ite h2.monAlarmOn h2))

end MarksEntry

theorem acc_add {a : MonAcc} (h : a.n < 2 ^ 32 - 1) (v : Int) (wide : Bool) (tick : Nat) :
    (a.add v wide tick).tally = (a.n + 1, a.sum + v, tick) := by
  rw [MonAcc.add, if_neg (by omega)]
  rfl

/-- A result of entry `i` with raw value `raw` enters its accumulator. -/
theorem monResult_marks (s : State) (i : Nat) (raw : Int) (b : Nat) :
    let v := s.mon.result (s.mon.entry i).chan (s.mon.entry i).range raw
    MarksEntry i (s.modAcc i fun a => a.add v (overRange (s.mon.entry i).chan v) (s.ticksAt b)) (s.monResult i raw b) :=
  MarksEntry.refl.monOpen.monAlarm

/-! The sequence (18 R446). -/

/-- The period that conversion boundary `b` brings (18 R443). -/
def State.periodAt (s : State) (b : Nat) : Nat := if s.mon.conv = .stopped then s.mkey 0x1000 else s.keyAt 0x1000 0 (b - 1)

theorem monBoundary_eq (s : State) (b : Nat) : s.monBoundary b = s.modMon fun m => { m with period := s.periodAt b } := rfl

theorem next_conv (m : Monitor) (i left b : Nat) : ∃ c, m.next i left b = { m with conv := c } := by
  unfold Monitor.next
  split
  · exact visit_conv _ _ _
  · split <;> exact ⟨_, rfl⟩

theorem next_repeats {m : Monitor} (h : m.syscal = none) (i k b : Nat) :
    (m.next i (k + 1) b).conv = .run i k (b + monPeriod m.period) := by
  simp [Monitor.next, Monitor.calWaits, h]

/-- A conversion of entry `i` is counted and the sequence goes on. -/
def State.runOn (s : State) (i left b : Nat) : State := (s.monCount.monBoundary b).modMon fun m => m.next i left b

theorem runOn_course (s : State) (i left b : Nat) : ∃ c, (s.runOn i left b).mon =
    { s.mon with convs := wrapAdd 64 s.mon.convs 1, period := s.periodAt b, conv := c } :=
  next_conv (s.monCount.monBoundary b).mon i left b

theorem runOn_mr (s : State) (i left b : Nat) : (s.runOn i left b).mr = s.mr := rfl

section
variable {s : State} (hnt : s.mon.newTable = none)
include hnt

theorem dropLateTable_none (b : Nat) : s.dropLateTable b = s := by simp [State.dropLateTable, hnt]

theorem monConvEnd_stopped (h : s.mon.conv = .stopped) (raw : Int) : s.monConvEnd raw = s := by
  simp [State.monConvEnd, dropLateTable_none hnt, h]

theorem monDelayEnd_stopped (h : s.mon.conv = .stopped) : s.monDelayEnd = s := by
  simp [State.monDelayEnd, dropLateTable_none hnt, h]

theorem monConvEnd_early {i left b : Nat} (h : s.mon.conv = .run i left b) (hb : s.clk < b) (raw : Int) : s.monConvEnd raw = s := by
  simp [State.monConvEnd, dropLateTable_none hnt, h, hb]

theorem monConvEnd_run {i left b : Nat} (h : s.mon.conv = .run i left b) (hb : b ≤ s.clk) (raw : Int) :
    s.monConvEnd raw = (s.runOn i left b).monResult i raw b := by
  simp [State.monConvEnd, dropLateTable_none hnt, h, Nat.not_lt.mpr hb, hnt, State.runOn]

theorem monConvEnd_inject {b : Nat} (h : s.mon.conv = .inject b) (hb : b ≤ s.clk) (raw : Int) :
    s.monConvEnd raw = (s.monCount.monBoundary b).injectEnd raw b := by
  simp [State.monConvEnd, dropLateTable_none hnt, h, Nat.not_lt.mpr hb]

theorem monConvEnd_cal {left b : Nat} {sum : Int} (h : s.mon.conv = .cal left sum b) (hb : b ≤ s.clk) (raw : Int) :
    s.monConvEnd raw = (s.monCount.monBoundary b).calConv left sum raw b := by
  simp [State.monConvEnd, dropLateTable_none hnt, h, Nat.not_lt.mpr hb]

theorem monDelayEnd_early {i b : Nat} (h : s.mon.conv = .delay i b) (hb : s.clk < b) : s.monDelayEnd = s := by
  simp [State.monDelayEnd, dropLateTable_none hnt, h, hb]

theorem monDelayEnd_converts {i b : Nat} (h : s.mon.conv = .delay i b) (hb : b ≤ s.clk) (hcal : s.mon.syscal = none)
    (hinj : s.mon.inject = none) : s.monDelayEnd = s.modMon fun m => { m with
      period := s.periodAt b, conv := .run i ((s.mon.entry i).repeats - 1) (b + monPeriod (s.periodAt b)) } := by
  simp only [State.monDelayEnd, dropLateTable_none hnt, h, Nat.not_lt.mpr hb, hnt, Monitor.calWaits, hcal, hinj, if_false,
    Option.isSome_none, Bool.false_and, Bool.or_false, Bool.false_eq_true]
  rfl

end

/-- What a conversion of the sequence that ends adds to its entry. -/
theorem monConvEnd_adds {s : State} (hnt : s.mon.newTable = none) {i left b : Nat} (h : s.mon.conv = .run i left b) (hb : b ≤ s.clk)
    (hi : i < s.mon.accs.length) (hn : (s.mon.acc i).n < 2 ^ 32 - 1) (raw : Int) :
    let u := s.monConvEnd raw
    let v := s.mon.result (s.mon.entry i).chan (s.mon.entry i).range raw
    u.mon.convs = wrapAdd 64 s.mon.convs 1 ∧ u.mon.period = s.periodAt b
      ∧ (u.mon.acc i).tally = ((s.mon.acc i).n + 1, (s.mon.acc i).sum + v, s.ticksAt b)
      ∧ (∀ k, left = k + 1 → s.mon.syscal = none → u.mon.conv = .run i k (b + monPeriod (s.periodAt b)))
      ∧ (∀ j, j ≠ i → u.mon.acc j = s.mon.acc j) ∧ u.mon.coeff = s.mon.coeff ∧ u.mr = s.mr := by
  intro u v
  obtain ⟨c, hgo⟩ := runOn_course s i left b
  have hentry : (s.runOn i left b).mon.entry = s.mon.entry := by rw [hgo]; rfl
  have hresult : (s.runOn i left b).mon.result = s.mon.result := by rw [hgo]; rfl
  have hacc : (s.runOn i left b).mon.acc = s.mon.acc := by rw [hgo]; rfl
  have hmarks := monResult_marks (s.runOn i left b) i raw b
  rw [← monConvEnd_run hnt h hb raw, hentry, hresult] at hmarks
  refine ⟨hmarks.convs.trans ?_, hmarks.period.trans ?_, ?_, ?_, fun j hj => ?_, hmarks.coeff.trans ?_, hmarks.mr.trans ?_⟩
  · exact congrArg Monitor.convs hgo
  · exact congrArg Monitor.period hgo
  · rw [hmarks.tally, acc_modAcc_same (by rw [hgo]; exact hi), hacc, acc_add hn]
    rfl
  · rintro k rfl hcal
    exact hmarks.conv.trans (next_repeats (m := (s.monCount.monBoundary b).mon) hcal i k b)
  · rw [hmarks.others j hj, acc_modAcc_other hj, hacc]
  · exact (congrArg Monitor.coeff hgo :)
  · exact runOn_mr s i left b

end Sys2Proof.Machine
end

section
/-!
O52: the monitor follows its domain. While no table waits it leaves what has been counted and calibrated (18 R456).
-/

namespace Sys2Proof.Machine

/-- The monitor's counts and calibration. -/
structure KeepsCounts (s u : State) : Prop where
  slot : u.mon.slot = s.mon.slot
  convs : u.mon.convs = s.mon.convs
  coeff : u.mon.coeff = s.mon.coeff
  zeroed : u.mon.zeroed = s.mon.zeroed
  table : s.mon.newTable = none → u.mon.newTable = none
  syscal : s.mon.syscal = none → u.mon.syscal = none

namespace KeepsCounts
variable {s u v : State}

theorem trans (h : KeepsCounts s u) (k : KeepsCounts u v) : KeepsCounts s v :=
  ⟨k.slot.trans h.slot, k.convs.trans h.convs, k.coeff.trans h.coeff, k.zeroed.trans h.zeroed, fun x => k.table (h.table x),
    fun x => k.syscal (h.syscal x)⟩

theorem of_mon (h : u.mon = s.mon) : KeepsCounts s u := by
  refine ⟨?_, ?_, ?_, ?_, fun hs => ?_, fun hs => ?_⟩ <;> rw [h]
  · exact hs
  · exact hs

theorem endWork {code status detail : Nat} (h : KeepsCounts s u) : KeepsCounts s (u.endWork code status detail) :=
  h.trans (of_mon (endWorkIf_units u _ status detail).mon)

theorem ite {c : Prop} {d : Decidable c} (hu : KeepsCounts s u) (hv : KeepsCounts s v) : KeepsCounts s (if c then u else v) := by
  split
  · exact hu
  · exact hv

/-- The monitor's domain goes off while no table waits. -/
theorem monOff (hnt : s.mon.newTable = none) : KeepsCounts s s.monOff := by
  unfold State.monOff
  extract_lets s1 s2 s3
  have h1 : KeepsCounts s s1 := ⟨rfl, rfl, rfl, rfl, id, fun _ => rfl⟩
  have h2 : KeepsCounts s s2 := .ite h1.endWork h1
  have h3 : KeepsCounts s s3 := .ite h2.endWork h2
  have hnone : s3.mon.newTable = none := h3.table hnt
  rw [dropLateTable_none hnone, State.monCommit, if_neg (by simp [hnone])]
  exact h3

theorem syncDomains (hnt : s.mon.newTable = none) : KeepsCounts s s.syncDomains := by
  refine trans ?_ (of_mon (setDomains_follows s s.holders).mon)
  unfold State.switched State.monDomain
  split
  · exact of_mon rfl
  · split
    · obtain ⟨p, c, hon⟩ := monOn_conv (s.powered s.holders)
      rw [hon]
      exact ⟨rfl, rfl, rfl, rfl, id, id⟩
    · exact trans (u := s.powered s.holders) (of_mon rfl) (monOff hnt)

end KeepsCounts

theorem goOn_conv (m : Monitor) (b : Nat) : ∃ c, m.goOn b = { m with conv := c } := by
  unfold Monitor.goOn Monitor.convert
  split
  · split
    · exact ⟨_, rfl⟩
    · split <;> exact ⟨_, rfl⟩
  · exact ⟨_, rfl⟩

theorem calResume_conv (m : Monitor) (b : Nat) : ∃ c, m.calResume b = { m with conv := c } := by
  unfold Monitor.calResume
  split
  · exact visit_conv _ _ _
  · exact ⟨_, rfl⟩

/-- The sequence goes on once a calibration has ended (18 R454). -/
def State.calOver (s : State) (b : Nat) : State := s.modMon fun m => ({ m with syscal := none, conv := .stopped }).calResume b

theorem calOver_mon (s : State) (b : Nat) : ∃ c, (s.calOver b).mon = { s.mon with syscal := none, conv := c } := calResume_conv _ b

/-- A calibration sets coefficients, z among them (18 R453). -/
def State.setZero (s : State) (w : Syscal) (k : Int × Int) : State := s.modMon fun m =>
  { m.setCoeff (coeffIdx w.input.val w.range.val) k with zeroed := (w.input.val, w.range.val) :: m.zeroed }

section
variable {s : State} (hnt : s.mon.newTable = none) {raw : Int} {b : Nat}
include hnt

/-- The injected conversion that ends enters the slot, and is counted (18 R452). -/
theorem monConvEnd_slot (h : s.mon.conv = .inject b) (hb : b ≤ s.clk) :
    let v := s.mon.result s.mon.slotChan.1 s.mon.slotChan.2 raw
    (s.monConvEnd raw).mon.slot = s.mon.slot.add v (overRange s.mon.slotChan.1 v) (s.ticksAt b)
      ∧ (s.monConvEnd raw).mon.convs = wrapAdd 64 s.mon.convs 1 := by
  intro v
  rw [monConvEnd_inject hnt h hb]
  unfold State.injectEnd
  extract_lets c x s1
  obtain ⟨k, hgo⟩ := goOn_conv { (s.monCount.monBoundary b).mon with
    slot := s.mon.slot.add v (overRange s.mon.slotChan.1 v) (s.ticksAt b), conv := .stopped } b
  have hmon : s1.mon = _ := hgo
  have hend : KeepsCounts s1 (s1.endWork 0x0603 stOk 0) := .of_mon (endWorkIf_units _ _ _ _).mon
  have hall := hend.trans (.syncDomains (hend.table (by rw [hmon]; exact hnt)))
  exact ⟨hall.slot.trans (congrArg Monitor.slot hmon), hall.convs.trans (congrArg Monitor.convs hmon)⟩

/-- The last conversion of a calibration at STEP 0 gives the coefficient z, where that is in range (18 R453, R454). -/
theorem monConvEnd_zeroes {w : Syscal} {sum : Int} (h : s.mon.conv = .cal 0 sum b) (hcal : s.mon.syscal = some w) (hstep : w.step = 0)
    (hb : b ≤ s.clk) (hz : zOk (divHalfEven (sum + clampInt (-monSat) monSat raw) w.count) = true) :
    let z := divHalfEven (sum + clampInt (-monSat) monSat raw) w.count
    let u := s.monConvEnd raw
    u.mon.coeff = s.mon.coeff.set (coeffIdx w.input.val w.range.val).val (z, (s.mon.coeff[coeffIdx w.input.val w.range.val]).2)
      ∧ (w.input.val, w.range.val) ∈ u.mon.zeroed ∧ u.mon.syscal = none := by
  intro z u
  let k := (z, (s.mon.coeff[coeffIdx w.input.val w.range.val]).2)
  have hu : u = ((((s.monCount.monBoundary b).calOver b).setZero w k).endWork 0x0604 stOk (encInt 32 z)).syncDomains := by
    show s.monConvEnd raw = _
    rw [monConvEnd_cal hnt h hb]
    have hcal' : (s.monCount.monBoundary b).mon.syscal = some w := hcal
    simp only [State.calConv, State.calEnd, hcal', hstep, if_true, hz]
    rfl
  obtain ⟨c, hmon⟩ := calOver_mon (s.monCount.monBoundary b) b
  generalize (s.monCount.monBoundary b).calOver b = x at hu hmon
  have hend : KeepsCounts (x.setZero w k) ((x.setZero w k).endWork 0x0604 stOk (encInt 32 z)) := .of_mon (endWorkIf_units _ _ _ _).mon
  have hx : (x.setZero w k).mon =
    { x.mon.setCoeff (coeffIdx w.input.val w.range.val) k with zeroed := (w.input.val, w.range.val) :: x.mon.zeroed } := rfl
  rw [hmon] at hx
  have hall := hend.trans (.syncDomains (hend.table (by rw [hx]; exact hnt)))
  rw [← hu] at hall
  refine ⟨hall.coeff.trans (by rw [hx]; rfl), ?_, hall.syscal (by rw [hx]; rfl)⟩
  rw [hall.zeroed, hx]
  exact List.mem_cons_self

end

/-! Starts (18 R452, R454). -/

section
variable {s : State} {b : Nat}

theorem injectStart_none (h : s.mon.inject = none) : s.injectStart = s := by simp [State.injectStart, h]

theorem injectStart_early (h : s.mon.inject = some b) (hb : s.clk < b) : s.injectStart = s := by simp [State.injectStart, h, hb]

theorem injectStart_starts (h : s.mon.inject = some b) (hb : b ≤ s.clk) (hc : s.monConverting = false) :
    s.injectStart = s.modMon fun m => { m with
      period := s.periodAt b, resume := s.mon.conv, conv := .inject (b + monPeriod (s.periodAt b)), inject := none } := by
  simp only [State.injectStart, h, Nat.not_lt.mpr hb, hc, Bool.false_eq_true, or_self, if_false]
  rfl

theorem calStart_none (h : s.mon.syscal = none) : s.calStart = s := by simp [State.calStart, Monitor.calWaits, h]

theorem calStart_settles {i : Nat} (h : s.mon.conv = .delay i b) (hb : b ≤ s.clk) (hcal : s.mon.syscal.isSome = true) :
    s.calStart = s.modMon fun m => { m with period := s.periodAt b, resume := .delay i b, conv := .settle (b + 192000) } := by
  simp only [State.calStart, Monitor.calWaits, State.calBoundary, h, hb, hcal, Bool.true_and, Bool.not_true, Bool.false_eq_true, if_false,
    if_true]
  rw [← h]
  rfl

theorem calSettled_stopped (h : s.mon.conv = .stopped) : s.calSettled = s := by simp [State.calSettled, h]

theorem calSettled_early {w : Syscal} (h : s.mon.conv = .settle b) (hcal : s.mon.syscal = some w) (hb : s.clk < b) : s.calSettled = s := by
  simp [State.calSettled, h, hcal, hb]

theorem calSettled_converts {w : Syscal} (h : s.mon.conv = .settle b) (hcal : s.mon.syscal = some w) (hb : b ≤ s.clk) :
    s.calSettled = s.modMon fun m => { m with
      period := s.periodAt b, conv := .cal (w.count - 1) 0 (b + monPeriod (s.periodAt b)) } := by
  simp only [State.calSettled, h, hcal, Nat.not_lt.mpr hb, if_false]
  rfl

end

end Sys2Proof.Machine
end

section
/-!
O52: the monitor (18 R442, R444, R446, R447, R449, R450, R452 to R454).
-/

namespace Sys2Proof.Machine

section
variable {s : State} {t : Nat} {m : Fin 17}

/-- What a command leaves whose own part writes the monitor alone. -/
theorem command_monitor {code : Nat} {lenOk : Req → Bool} {body : Body} (hr : Ready s t m code lenOk) {st q : Nat} {p : List Byte}
    {x : State} (hb : body (s.reqOf m) (s.reach t) = (.reply ⟨st, p, none, 0, q⟩, x)) (hx : x.clk = (s.reach t).clk)
    (hunits : SameUnits { s with mon := x.mon } x) : Leads (go (s.command t m code lenOk body)) (fun u =>
      Replied u m st p ∧ u.mon = x.mon ∧ SameUnits { s with mon := u.mon } u ∧ SameSettings x u) :=
  (command_replies hr hb hx).mono fun _ ⟨hreply, hsame, hset⟩ => ⟨hreply, hsame.mon, hsame.beside_mon hunits, hset⟩

theorem monLoadTable_stopped {b : Bulk} {bs : List Byte} {tb : List MonEntry} (hr : Ready s t m 0x0601 (lenIs 24))
    (hform : TableForm (s.reqOf m).payload) (hd : tableBytes b (s.reqOf m).payload = some bs)
    (he : monEntries bs (fieldAt (s.reqOf m).payload 0 1) = some tb) (hfree : s.monHolds = false) (hconv : s.mon.conv = .stopped) :
    Leads (exec (.monLoadTable t m b) s) (fun u => Replied u m stOk [] ∧ u.mon.table = tb ∧ u.mon.accs = tb.map (fun _ => MonAcc.reset)
      ∧ u.mon.coeff = s.mon.coeff ∧ SameUnits { s with mon := u.mon } u ∧ SameSettings s u) := by
  obtain ⟨c, hload⟩ := startTable_loads (s := ((s.reach t).modMon fun m => { m with newTable := some tb }).monBoundary (s.reach t).clk) rfl
    ((s.reach t).domOn 195)
  refine (command_monitor hr (monLoadBody_stopped (s := s.reach t) hform hd he hfree hconv) hload.clk
    (hload.units.beside_mon (.refl _))).mono ?_
  rintro u ⟨hreply, hmon, hunits, hset⟩
  rw [hload.units.mon] at hmon
  exact ⟨hreply, congrArg Monitor.table hmon, congrArg Monitor.accs hmon, (congrArg Monitor.coeff hmon :), hunits, hload.settings.trans hset⟩

theorem monLoadTable_waits {b : Bulk} {bs : List Byte} {tb : List MonEntry} (hr : Ready s t m 0x0601 (lenIs 24))
    (hform : TableForm (s.reqOf m).payload) (hd : tableBytes b (s.reqOf m).payload = some bs)
    (he : monEntries bs (fieldAt (s.reqOf m).payload 0 1) = some tb) (hfree : s.monHolds = false) (hconv : s.mon.conv ≠ .stopped) :
    Leads (exec (.monLoadTable t m b) s) (fun u => (u.mbox m).state = .busy ∧ u.mon = { s.mon with newTable := some tb }
      ∧ SameUnits { s with mon := u.mon } u ∧ SameSettings s u) := by
  obtain ⟨-, -, -, -, hexp⟩ := id hr
  refine ⟨_, congrArg go (command_wait hr (monLoadBody_running (s := s.reach t) hform hd he hfree hconv) hexp), ?_, rfl, SameUnits.refl _,
    SameSettings.refl _⟩
  exact (congrArg Mailbox.state (modMb_same _ m fun b => { b with state := .busy }) :)

theorem monInject_drops (hr : Ready s t m 0x0603 (lenIs 8)) (hform : InjectForm (s.reqOf m).payload) (hfree : s.monHolds = false)
    (hroom : s.mr.work.length < 16) (hconv : (s.reach t).monConverting = true) : Leads (exec (.monInject t m) s) (fun u =>
      Replied u m stAccepted [] ∧ u.mon = { s.mon with inject := none, dropped := wrapAdd 32 s.mon.dropped 1 } ∧ u.mr.work = s.mr.work) := by
  obtain ⟨-, hcode, -⟩ := id hr
  have hnone : s.working 0x0603 = false := (Bool.or_eq_false_iff.mp hfree).1
  refine (command_replies hr (monInjectBody_drops (s := s.reach t) hform hfree hroom hconv) (endWorkIf_clk _ _ _ _)).mono ?_
  rintro u ⟨hreply, hsame, -, -, -, -, hwork⟩
  refine ⟨hreply, hsame.mon.trans (endWorkIf_units _ _ _ _).mon, hwork.trans ?_⟩
  exact endWork_added (s := s.reach t) hnone hcode rfl

theorem monInject_waits (hr : Ready s t m 0x0603 (lenIs 8)) (hform : InjectForm (s.reqOf m).payload) (hfree : s.monHolds = false)
    (hroom : s.mr.work.length < 16) (hconv : (s.reach t).monConverting = false) (hpw : s.pw.st ≤ 2) : Leads (exec (.monInject t m) s) (fun u =>
      Replied u m stAccepted [] ∧ u.mon.inject = some (max s.clk t + 192000)
        ∧ u.mon.slotChan = (fieldAt (s.reqOf m).payload 0 1, fieldAt (s.reqOf m).payload 1 1)
        ∧ u.mr.work = s.mr.work ++ [⟨m.val, 0x0603, (s.reqOf m).tag, max s.clk t, fieldAt (s.reqOf m).payload 0 1,
          fieldAt (s.reqOf m).payload 1 1⟩]) := by
  obtain ⟨-, hcode, -⟩ := id hr
  have hbody := monInjectBody_waits (s := s.reach t) hform hfree hroom hconv
  generalize hx : ((s.reach t).addWork (s.reqOf m) (fieldAt (s.reqOf m).payload 0 1) (fieldAt (s.reqOf m).payload 1 1)).injectWaits
    (fieldAt (s.reqOf m).payload 0 1) (fieldAt (s.reqOf m).payload 1 1) = x at hbody
  have hholds : x.monHolds = true := by
    rw [← hx]
    simp [State.monHolds, State.working, State.injectWaits, State.addWork, State.modMon, hcode]
  obtain ⟨p, c, hmon, hmr, hclk⟩ := syncDomains_monitor hholds (by rw [← hx]; exact hpw)
  refine (command_replies hr hbody (hclk.trans (by rw [← hx]; rfl))).mono ?_
  rintro u ⟨hreply, hsame, -, -, -, -, hwork⟩
  have hmon' := hsame.mon.trans hmon
  rw [hmr, ← hx] at hwork
  rw [← hx] at hmon'
  refine ⟨hreply, congrArg Monitor.inject hmon', congrArg Monitor.slotChan hmon', hwork.trans ?_⟩
  rw [← hcode]
  rfl

theorem monSyscal_ends {k : Int × Int} (hr : Ready s t m 0x0604 (lenIs 16)) (hfree : s.working 0x0604 = false)
    (hb : monSyscalBody (s.reqOf m) (s.reach t) = accepted ((((s.reach t).addWork (s.reqOf m) (fieldAt (s.reqOf m).payload 0 1)
      (fieldAt (s.reqOf m).payload 1 1)).modMon fun x => x.setCoeff (coeffIdx (fieldAt (s.reqOf m).payload 0 1)
        (fieldAt (s.reqOf m).payload 1 1)) k).endWork 0x0604 stOk 0)) :
    Leads (exec (.monSyscal t m) s) (fun u => Replied u m stAccepted [] ∧ u.mr.work = s.mr.work
      ∧ u.mon = { s.mon with coeff := s.mon.coeff.set (coeffIdx (fieldAt (s.reqOf m).payload 0 1) (fieldAt (s.reqOf m).payload 1 1)).val k }
      ∧ SameUnits { s with mon := u.mon } u) := by
  obtain ⟨-, hcode, -⟩ := id hr
  have hsame := endWorkIf_units (((s.reach t).addWork (s.reqOf m) (fieldAt (s.reqOf m).payload 0 1)
      (fieldAt (s.reqOf m).payload 1 1)).modMon fun x => x.setCoeff (coeffIdx (fieldAt (s.reqOf m).payload 0 1)
        (fieldAt (s.reqOf m).payload 1 1)) k) (fun w => w.code == 0x0604) stOk 0
  refine (command_monitor hr hb (endWorkIf_clk _ _ _ _) (hsame.beside_mon (.refl _))).mono ?_
  rintro u ⟨hreply, hmon, hunits, -, -, -, -, hwork⟩
  refine ⟨hreply, hwork.trans ?_, hmon.trans hsame.mon, hunits⟩
  exact endWork_added (s := s.reach t) hfree hcode rfl

theorem monSyscal_waits (hr : Ready s t m 0x0604 (lenIs 16)) (hform : syscalForm (s.reqOf m).payload = true)
    (hfree : s.working 0x0604 = false) (hroom : s.mr.work.length < 16) (hstep : fieldAt (s.reqOf m).payload 2 1 = 0
      ∨ (fieldAt (s.reqOf m).payload 2 1 = 1 ∧ (fieldAt (s.reqOf m).payload 0 1, fieldAt (s.reqOf m).payload 1 1) ∈ s.mon.zeroed))
    (hpw : s.pw.st ≤ 2) : Leads (exec (.monSyscal t m) s) (fun u => Replied u m stAccepted [] ∧ u.mon.coeff = s.mon.coeff
      ∧ u.mon.syscal = some (syscalOf (s.reqOf m).payload)) := by
  obtain ⟨-, hcode, -⟩ := id hr
  obtain ⟨hcoeff, hcal, hclk⟩ := syscalWaits_frame (w := syscalOf (s.reqOf m).payload)
    (s := (s.reach t).addWork (s.reqOf m) (fieldAt (s.reqOf m).payload 0 1) (fieldAt (s.reqOf m).payload 1 1)) hpw
    (by simp [State.working, State.addWork, hcode])
  refine (command_replies hr (monSyscalBody_waits (s := s.reach t) hform hfree hroom hstep) hclk).mono ?_
  rintro u ⟨hreply, hsame, -⟩
  exact ⟨hreply, (congrArg Monitor.coeff hsame.mon).trans hcoeff, (congrArg Monitor.syscal hsame.mon).trans hcal⟩

end

/-- Settles O52: the commands by what their own parts answer, the rows of the converter by what each does at its boundary. -/
theorem monitorMeasuresAndCalibrates : Obligations.MonitorMeasuresAndCalibrates := by
  refine ⟨fun s t m b hr => ⟨fun h => ?_, fun bs h hn hb he => ?_, fun bs tb h hdata => ?_⟩, fun s t m hr => ⟨fun h0 h1 => ?_, fun h => ?_, fun h => ?_⟩,
    fun s t m hr => ⟨fun h => ?_, fun h hwork => ?_, fun h hfree hroom => ⟨fun hc => ?_, fun hc hpw => ?_⟩⟩,
    fun s t m hr => ⟨fun h => ?_, fun h hstep hz => ?_, fun h hfree hroom => ⟨fun hstep => ?_, fun hstep => ?_, fun hstep hpw => ?_⟩⟩,
    fun s t raw hnt => ⟨fun hc => ?_, fun i left b hc => ⟨fun hb => ?_, fun hb hi hn => ?_⟩, fun b hc hb => ?_, fun w sum b hc hcal hstep hb hz => ?_,
      fun i b hc => ⟨fun hb => ?_, fun hb hcal hinj => ?_, fun hb hcal => ?_⟩, fun h => ?_, fun b h hb => ?_, fun b h hb hc => ?_, fun h => ?_,
      fun w b hc hcal => ⟨fun hb => ?_, fun hb => ?_⟩⟩⟩
  · exact command_fails hr (monLoadBody_malformed h)
  · refine command_fails hr (monLoadBody_unreadable (bs := padTo (24 * fieldAt (s.reqOf m).payload 0 1) bs) h ?_ he)
    obtain ⟨-, -, hlen⟩ := h
    rw [if_neg hn] at hlen
    rw [tableBytes, if_neg hn, hb, bulkBytes, hlen.2, Option.map_some]
  · obtain ⟨bs', hd, he⟩ : ∃ bs', tableBytes b (s.reqOf m).payload = some bs'
        ∧ monEntries bs' (fieldAt (s.reqOf m).payload 0 1) = some tb := by
      obtain ⟨hn, rfl⟩ | ⟨hn, hb, he⟩ := hdata
      · exact ⟨[], by rw [tableBytes, if_pos hn], by rw [hn]; rfl⟩
      · obtain ⟨-, -, hlen⟩ := h
        rw [if_neg hn] at hlen
        exact ⟨_, by rw [tableBytes, if_neg hn, hb, bulkBytes, hlen.2, Option.map_some], he⟩
    exact ⟨fun hwork => command_fails hr (monLoadBody_busy h hd he hwork), fun hfree hc => monLoadTable_stopped hr h hd he hfree hc,
      fun hfree hc => monLoadTable_waits hr h hd he hfree hc⟩
  · exact command_fails hr (monReadBody_malformed h0 h1)
  · exact command_replies (x := s.reach t) hr (monReadBody_coeffs h) rfl
  · refine (command_monitor hr (monReadBody_records (s := s.reach t) h) ?_ ?_).mono ?_
    · split <;> rfl
    · split <;> exact .refl _
    · rintro u ⟨hreply, hmon, hunits, hset⟩
      exact ⟨hreply, hmon.trans (by split <;> rfl), hunits, by split at hset <;> exact hset⟩
  · exact command_fails hr (monInjectBody_malformed h)
  · exact command_fails hr (monInjectBody_busy (s := s.reach t) h hwork)
  · exact monInject_drops hr h hfree hroom hc
  · exact monInject_waits hr h hfree hroom hc hpw
  · exact command_fails hr (monSyscalBody_malformed h)
  · exact command_fails hr (monSyscalBody_unzeroed (s := s.reach t) h hstep hz)
  · exact monSyscal_ends hr hfree (monSyscalBody_sets h hfree hroom hstep)
  · exact monSyscal_ends hr hfree (monSyscalBody_defaults h hfree hroom hstep)
  · exact monSyscal_waits hr h hfree hroom hstep hpw
  · exact ⟨congrArg go (monConvEnd_stopped (s := s.reach t) hnt hc raw), congrArg go (monDelayEnd_stopped (s := s.reach t) hnt hc),
      congrArg go (calSettled_stopped (s := s.reach t) hc)⟩
  · exact congrArg go (monConvEnd_early (s := s.reach t) hnt hc hb raw)
  · obtain ⟨hconvs, hperiod, htally, hnext, hothers, hcoeff, hmr⟩ := monConvEnd_adds (s := s.reach t) hnt hc hb hi hn raw
    exact ⟨_, rfl, hconvs, hperiod, congrArg (·.1) htally, congrArg (·.2.1) htally, congrArg (·.2.2) htally, hnext, hothers, hcoeff, hmr⟩
  · exact ⟨_, rfl, monConvEnd_slot (s := s.reach t) hnt hc hb⟩
  · exact ⟨_, rfl, monConvEnd_zeroes (s := s.reach t) hnt hc hcal hstep hb (decide_eq_true hz)⟩
  · exact congrArg go (monDelayEnd_early (s := s.reach t) hnt hc hb)
  · exact congrArg go (monDelayEnd_converts (s := s.reach t) hnt hc hb hcal hinj)
  · exact congrArg go (calStart_settles (s := s.reach t) hc hb hcal)
  · exact congrArg go (injectStart_none (s := s.reach t) h)
  · exact congrArg go (injectStart_early (s := s.reach t) h hb)
  · exact congrArg go (injectStart_starts (s := s.reach t) h hb hc)
  · exact congrArg go (calStart_none (s := s.reach t) h)
  · exact congrArg go (calSettled_early (s := s.reach t) hc hcal hb)
  · exact congrArg go (calSettled_converts (s := s.reach t) hc hcal hb)

end Sys2Proof.Machine
end

section
/-!
O37: the trellis commands (12 R304 to R310). The marks of quota change one flag of the channel; a segment goes by its name.
-/

namespace Sys2Proof.Machine

/-! The mark of quota (12 R304). -/

/-- The mark of one channel's quota may differ; time, trellis and what else the channels hold do not. -/
structure MarksQuota (c : Fin 4) (s u : State) : Prop where
  clk : u.clk = s.clk
  tr : u.tr = s.tr
  own : { u.ch[c] with overQuota := false } = { s.ch[c] with overQuota := false }
  others : ∀ d, d ≠ c → u.ch[d] = s.ch[d]

namespace MarksQuota
variable {c : Fin 4} {s u v : State}

theorem refl : MarksQuota c s s := ⟨rfl, rfl, rfl, fun _ _ => rfl⟩

theorem trans (h : MarksQuota c s u) (k : MarksQuota c u v) : MarksQuota c s v :=
  ⟨k.clk.trans h.clk, k.tr.trans h.tr, k.own.trans h.own, fun d hd => (k.others d hd).trans (h.others d hd)⟩

theorem quota (h : MarksQuota c s u) : u.ch[c].quota = s.ch[c].quota := (congrArg Chan.quota h.own :)

/-- The mark is set, and the event of it logged. -/
theorem logged {q : Bool} (hq : Quiet (s.modCh c fun h => { h with overQuota := q }) u) : MarksQuota c s u where
  clk := hq.clk
  tr := hq.units.tr
  own := by rw [hq.chan]; exact congrArg (fun h : Chan => { h with overQuota := false }) (modCh_same s c _)
  others d hd := by rw [hq.chan]; exact modCh_other s _ hd

theorem quotaCheck (s : State) (c : Fin 4) : MarksQuota c s (s.quotaCheck c) := by
  unfold State.quotaCheck
  split
  · exact logged (logEv_quiet _ _ _ _ _)
  · exact refl

theorem overQuotaCheck (s : State) (c : Fin 4) : MarksQuota c s (s.overQuotaCheck c) := by
  unfold State.overQuotaCheck
  split
  · exact logged (logEv_quiet _ _ _ _ _)
  · exact refl

end MarksQuota

section
variable {s : State} {r : Req}

/-- The state that SET_QUOTA commits. -/
def State.quotaSet (s : State) (c : Fin 4) (n : Nat) : State :=
  ((s.modCh c fun h => { h with quota := n }).quotaCheck c).overQuotaCheck c

theorem quotaSet_marks (s : State) (c : Fin 4) (n : Nat) : MarksQuota c (s.modCh c fun h => { h with quota := n }) (s.quotaSet c n) :=
  (MarksQuota.quotaCheck _ c).trans (.overQuotaCheck _ c)

theorem setQuotaBody_reserved (h : fieldAt r.payload 4 4 ≠ 0) : setQuotaBody r s = fails eParam s := if_pos h

/-- What SET_QUOTA answers after the quota before: the pages held and pinned, and the mark. -/
def State.quotaRest (s : State) (c : Fin 4) : List Byte :=
  leBytes 4 (s.heldPages c) ++ (leBytes 4 (s.pinnedPages c) ++ (leBytes 1 (flag s.ch[c].overQuota) ++ List.replicate 3 0#8))

theorem setQuotaBody_sets (h : fieldAt r.payload 4 4 = 0) : ∃ rest, setQuotaBody r s =
    answers (leBytes 4 s.ch[oneChan r.chsel].quota ++ rest)
      ((s.reach (s.boundaryFrom (s.clk + 1))).quotaSet (oneChan r.chsel) (fieldAt r.payload 0 4)) := by
  refine ⟨((s.reach (s.boundaryFrom (s.clk + 1))).quotaSet (oneChan r.chsel) (fieldAt r.payload 0 4)).quotaRest (oneChan r.chsel), ?_⟩
  unfold setQuotaBody
  rw [if_neg (not_not.mpr h)]
  simp only [List.append_assoc]
  rfl

end

/-! Segments that go (12 R303, R308). -/

theorem sweep_clk (s : State) (c : Fin 4) : (s.sweep c).clk = s.clk := (MarksQuota.quotaCheck _ c).clk

theorem loseSeg_clk (s : State) (g : Seg) : (s.loseSeg g).clk = s.clk := by
  unfold State.loseSeg
  split
  · exact sweep_clk _ _
  · rfl

/-- A segment that is not busy goes, and no other. -/
theorem dropSeg_segs (s : State) (c : Fin 4) (a i : Nat) : (s.dropSeg c a i).tr.segs = s.tr.segs.filter fun g => !(g.is c a i) :=
  sweep_segs _ _

/-- A segment whose name is not the lost one stays as it is. -/
theorem mem_loseSeg {s : State} {g x : Seg} (hx : x ∈ s.tr.segs) (h : x.is g.ch g.acq g.idx = false) : x ∈ (s.loseSeg g).tr.segs := by
  unfold State.loseSeg
  split
  · rw [dropSeg_segs]
    exact List.mem_filter.mpr ⟨hx, by rw [h]; rfl⟩
  · exact List.mem_map.mpr ⟨x, hx, by rw [h]; rfl⟩

/-- What is held after a loss has the name of a segment that was held. -/
theorem mem_of_loseSeg {s : State} {g y : Seg} (hy : y ∈ (s.loseSeg g).tr.segs) :
    ∃ x ∈ s.tr.segs, ∀ c a i, y.is c a i = x.is c a i := by
  unfold State.loseSeg at hy
  split at hy
  · rw [dropSeg_segs] at hy
    exact ⟨y, (List.mem_filter.mp hy).1, fun _ _ _ => rfl⟩
  · obtain ⟨x, hx, rfl⟩ := List.mem_map.mp hy
    refine ⟨x, hx, fun c a i => ?_⟩
    split <;> rfl

theorem loseSeg_removes {s : State} {g : Seg} (hbusy : g.busy = 0) :
    ∀ x ∈ (s.loseSeg g).tr.segs, x.is g.ch g.acq g.idx = false := by
  intro x hx
  rw [State.loseSeg, if_pos hbusy, dropSeg_segs] at hx
  simpa using (List.mem_filter.mp hx).2

theorem foldl_loseSeg_clk (l : List Seg) (s : State) : (l.foldl (fun a g => a.loseSeg g) s).clk = s.clk := by
  induction l generalizing s with
  | nil => rfl
  | cons g gs ih => exact (ih _).trans (loseSeg_clk s g)

theorem mem_foldl_loseSeg {x : Seg} (l : List Seg) (h : ∀ g ∈ l, x.is g.ch g.acq g.idx = false) {s : State} (hx : x ∈ s.tr.segs) :
    x ∈ (l.foldl (fun a g => a.loseSeg g) s).tr.segs := by
  induction l generalizing s with
  | nil => exact hx
  | cons g gs ih =>
    rw [List.forall_mem_cons] at h
    exact ih h.2 (mem_loseSeg hx h.1)

/-- A name that no held segment has stays free. -/
theorem foldl_loseSeg_absent {c : Fin 4} {a i : Nat} (l : List Seg) {s : State} (h : ∀ x ∈ s.tr.segs, x.is c a i = false) :
    ∀ y ∈ (l.foldl (fun a g => a.loseSeg g) s).tr.segs, y.is c a i = false := by
  induction l generalizing s with
  | nil => exact h
  | cons g gs ih =>
    refine ih fun y hy => ?_
    obtain ⟨x, hx, hsame⟩ := mem_of_loseSeg hy
    rw [hsame, h x hx]

/-- The name of a segment in the list that is not busy is gone in the end. -/
theorem foldl_loseSeg_gone {g : Seg} {l : List Seg} (hg : g ∈ l) (hbusy : g.busy = 0) (s : State) :
    ∀ y ∈ (l.foldl (fun a g => a.loseSeg g) s).tr.segs, y.is g.ch g.acq g.idx = false := by
  induction l generalizing s with
  | nil => cases hg
  | cons k ks ih =>
    rcases List.mem_cons.mp hg with rfl | hmem
    · exact foldl_loseSeg_absent ks (loseSeg_removes hbusy)
    · exact ih hmem _

/-- Whether a segment is named depends on its name alone. -/
theorem NameRange.has_of_is {n : NameRange} {g x : Seg} (h : x.is g.ch g.acq g.idx = true) : n.has x = n.has g := by
  simp only [Seg.is, Bool.and_eq_true, beq_iff_eq] at h
  obtain ⟨⟨hch, hacq⟩, hidx⟩ := h
  simp only [NameRange.has, hch, hacq, hidx]

section
variable {s : State} {n : NameRange} {g : Seg}

theorem releaseSegs_keeps (hg : g ∈ s.tr.segs) (h : n.has g = false) : g ∈ (s.releaseSegs n).tr.segs := by
  refine mem_foldl_loseSeg _ (fun x hx => ?_) hg
  have hnamed : n.has x = true := (Bool.and_eq_true_iff.mp (List.mem_filter.mp hx).2).1
  refine Bool.eq_false_iff.mpr fun his => ?_
  rw [NameRange.has_of_is his, hnamed] at h
  cases h

theorem releaseSegs_removes (hg : g ∈ s.tr.segs) (h : n.has g = true) (hclosed : s.countsOpen g = false) (hbusy : g.busy = 0) :
    ∀ x ∈ (s.releaseSegs n).tr.segs, x.is g.ch g.acq g.idx = false :=
  foldl_loseSeg_gone (List.mem_filter.mpr ⟨hg, by rw [h, hclosed]; rfl⟩) hbusy s

end

section
variable {s : State} {r : Req} {k : Fin 4}

/-- The payload of RELEASE_SEGMENTS beside its OP is within its ranges. -/
def ReleaseForm (p : List Byte) : Prop :=
  fieldAt p 2 2 = 0 ∧ fieldAt p 4 4 ≤ 1073741823 ∧ 1 ≤ fieldAt p 12 4 ∧ fieldAt p 8 4 ≤ 16777215 ∧ fieldAt p 8 4 + fieldAt p 12 4 ≤ 16777216

/-- The names that RELEASE_SEGMENTS covers at its commit point. -/
def State.released (s : State) (k : Fin 4) (p : List Byte) : NameRange := ⟨k, s.namedAcqs k (fieldAt p 4 4), fieldAt p 8 4, fieldAt p 12 4⟩

theorem releaseBody_does (h : ReleaseForm r.payload) (hk : s.ownerOf (oneChan r.chsel) (fieldAt r.payload 1 1) = some k)
    (hop : fieldAt r.payload 0 1 ≤ 2) : releaseBody r s =
      (s.reach (s.boundaryFrom (s.clk + 1))).segmentOp (fieldAt r.payload 0 1)
        ((s.reach (s.boundaryFrom (s.clk + 1))).released k r.payload) := by
  obtain ⟨hres, hacq, hcount, hfirst, hend⟩ := h
  unfold releaseBody
  simp only [hk]
  exact if_neg (by omega)

end

theorem trellisStatusBody_summary {s : State} {r : Req} (hview : fieldAt r.payload 0 1 = 0) (hres : fieldAt r.payload 1 3 = 0)
    (hstart : fieldAt r.payload 4 4 = 0) (hid : fieldAt r.payload 8 8 = 0) : trellisStatusBody r s = answers s.trellisSummary s := by
  simp [trellisStatusBody, hview, hres, hstart, hid, bitsAt]

section
variable {s : State} {t : Nat} {m : Fin 17}

/-- The commit point of a trellis command (12 R306, R308). -/
def State.trellisCommit (s : State) (t : Nat) : State := (s.reach t).reach ((s.reach t).boundaryFrom ((s.reach t).clk + 1))

theorem setQuota_sets (hr : Ready s t m 0x0301 (lenIs 8)) (hres : fieldAt (s.reqOf m).payload 4 4 = 0)
    (he : (s.reqOf m).expired (s.trellisCommit t).clk = false) : Leads (exec (.setQuota t m) s) (fun u =>
      (∃ rest, Replied u m stOk (leBytes 4 s.ch[oneChan (s.reqOf m).chsel].quota ++ rest))
      ∧ u.ch[oneChan (s.reqOf m).chsel].quota = fieldAt (s.reqOf m).payload 0 4
      ∧ (∀ d, d ≠ oneChan (s.reqOf m).chsel → u.ch[d] = s.ch[d]) ∧ u.tr = s.tr) := by
  obtain ⟨rest, hb⟩ := setQuotaBody_sets (s := s.reach t) hres
  have hmarks := quotaSet_marks (s.trellisCommit t) (oneChan (s.reqOf m).chsel) (fieldAt (s.reqOf m).payload 0 4)
  have hown := hmarks.quota
  rw [modCh_same] at hown
  refine (command_leads hr hb ((congrArg (s.reqOf m).expired hmarks.clk).trans he)).mono fun u hu => ?_
  obtain ⟨hreply, hunits, -⟩ := hu
  rw [hunits.ch, hunits.tr]
  exact ⟨⟨rest, hreply⟩, hown, fun d hd => (hmarks.others d hd).trans (modCh_other _ _ hd), hmarks.tr⟩

section
variable {k : Fin 4} (hr : Ready s t m 0x0302 (lenIs 16)) (hform : ReleaseForm (s.reqOf m).payload)
  (hk : s.ownerOf (oneChan (s.reqOf m).chsel) (fieldAt (s.reqOf m).payload 1 1) = some k)
  (he : (s.reqOf m).expired (s.trellisCommit t).clk = false)
include hr hform hk he

/-- OP 2 leaves the named segments without their pins. -/
theorem releaseSegments_unpins (hop : fieldAt (s.reqOf m).payload 0 1 = 2) : Leads (exec (.releaseSegments t m) s) (fun u =>
    u.tr.segs = s.tr.segs.map fun g =>
      if ((s.trellisCommit t).released k (s.reqOf m).payload).has g then { g with pinned := false } else g) := by
  have hb := releaseBody_does (s := s.reach t) hform hk (by omega)
  rw [hop] at hb
  exact (command_leads hr hb he).mono fun u ⟨_, hunits, _⟩ => congrArg Trellis.segs hunits.tr

/-- OP 0 removes the named segments that are closed and not busy. -/
theorem releaseSegments_releases (hop : fieldAt (s.reqOf m).payload 0 1 = 0) : Leads (exec (.releaseSegments t m) s) (fun u =>
    u.tr.segs = ((s.trellisCommit t).releaseSegs ((s.trellisCommit t).released k (s.reqOf m).payload)).tr.segs) := by
  have hb := releaseBody_does (s := s.reach t) hform hk (by omega)
  rw [hop] at hb
  exact (command_leads hr hb ((congrArg (s.reqOf m).expired (foldl_loseSeg_clk _ _)).trans he)).mono fun u ⟨_, hunits, _⟩ =>
    congrArg Trellis.segs hunits.tr

end

end

/-- Settles O37: each command's own part at its commit point, through the marks of quota and the loss of segments by name. -/
theorem trellisCommands : Obligations.TrellisCommands := by
  intro s t m p s0 b c
  refine ⟨fun hr => ⟨fun hres he => setQuota_sets hr hres he, fun hres => command_fails hr (setQuotaBody_reserved hres)⟩, ?_, ?_⟩
  · intro hr k hk hres hacq hcount hfirst hend he n
    have hform : ReleaseForm p := ⟨hres, hacq, hcount, hfirst, hend⟩
    refine ⟨fun hop => releaseSegments_unpins hr hform hk he hop, fun hop => ?_⟩
    refine (releaseSegments_releases hr hform hk he hop).mono fun u hsegs => ?_
    rw [hsegs]
    exact ⟨fun g hg hn hopen hbusy => releaseSegs_removes (s := s.trellisCommit t) hg hn hopen hbusy,
      fun g hg hn => releaseSegs_keeps (s := s.trellisCommit t) hg hn⟩
  · intro hr hview hres hstart hid
    exact command_replies (x := s.reach t) hr (trellisStatusBody_summary hview hres hstart hid) rfl

end Sys2Proof.Machine
end

section
/-!
O42: the harvest queues (14 R354 to R365). The engine's turns change how far the descriptors have come and nothing else; what a delivery
frees leaves queues and host memory.
-/

namespace Sys2Proof.Machine

/-! One queue of the engine. -/

@[simp] theorem modQ_same (s : State) (q : Fin 64) (g : HQueue → HQueue) : (s.modQ q g).hv.qs[q] = g s.hv.qs[q] := by
  simp [State.modQ]

theorem modQ_other (s : State) {q j : Fin 64} (g : HQueue → HQueue) (h : j ≠ q) : (s.modQ q g).hv.qs[j] = s.hv.qs[j] := by
  have h' : q.val ≠ j.val := fun e => h (Fin.ext e.symm)
  simp [State.modQ, h']

/-! HARVEST_QUEUE_CREATE (14 R354). -/

/-- The payload of HARVEST_QUEUE_CREATE is out of range. -/
def QueueForm (p : List Byte) : Prop :=
  ¬(63 < fieldAt p 0 1 ∨ fieldAt p 1 1 = 0 ∨ 63 < fieldAt p 2 1 ∨ fieldAt p 3 1 ≠ 0 ∨ fieldAt p 4 4 < 16 ∨ 65536 < fieldAt p 4 4
    ∨ 2 ^ Nat.log2 (fieldAt p 4 4) ≠ fieldAt p 4 4 ∨ fieldAt p 8 8 % 4096 ≠ 0 ∨ fieldAt p 16 8 % 4096 ≠ 0 ∨ fieldAt p 24 8 ≠ 0)

/-- The queue that HARVEST_QUEUE_CREATE makes. -/
def createdQueue (p : List Byte) : HQueue := { HQueue.reset with
  live := true, weight := fieldAt p 1 1, vector := fieldAt p 2 1, entries := fieldAt p 4 4, ring := fieldAt p 8 8, cring := fieldAt p 16 8 }

section
variable {s : State} {r : Req}

theorem queueCreateBody_malformed (h : ¬QueueForm r.payload) : queueCreateBody r s = fails eParam s := if_pos (not_not.mp h)

theorem queueCreateBody_live (h : QueueForm r.payload) (hlive : (s.hv.qs[Fin.ofNat 64 (fieldAt r.payload 0 1)]).live = true) :
    queueCreateBody r s = fails eState s := (if_neg h).trans (if_pos hlive)

theorem queueCreateBody_creates (h : QueueForm r.payload) (hlive : (s.hv.qs[Fin.ofNat 64 (fieldAt r.payload 0 1)]).live = false) :
    queueCreateBody r s = answers [] (s.modQ (Fin.ofNat 64 (fieldAt r.payload 0 1)) fun _ => createdQueue r.payload) :=
  (if_neg h).trans (if_neg (by simpa using hlive))

end

/-! Writes of the indexes (14 R355). -/

section
variable {s : State} {q : Fin 64} {v : Nat} {set : HQueue → HQueue}

theorem indexWrite_dead (h : (s.hv.qs[q]).live = false) : s.indexWrite q v set = s := by
  unfold State.indexWrite
  simp only [h, Bool.not_false, Bool.or_true, if_true]

theorem indexWrite_sets (hup : s.hl.up = true) (hlive : (s.hv.qs[q]).live = true) (h : v < (s.hv.qs[q]).entries) :
    s.indexWrite q v set = s.modQ q set := by
  unfold State.indexWrite
  simp only [hup, hlive, Bool.not_true, Bool.or_self, Bool.false_eq_true, if_false, if_neg (Nat.not_le.mpr h)]

theorem indexWrite_beyond (hup : s.hl.up = true) (hlive : (s.hv.qs[q]).live = true) (h : (s.hv.qs[q]).entries ≤ v) :
    s.indexWrite q v set = s.modQ q fun x => { x with dbErr := some s.clk } := by
  unfold State.indexWrite
  simp only [hup, hlive, Bool.not_true, Bool.or_self, Bool.false_eq_true, if_false, if_pos h]

theorem tailWrite_alive (h : (s.hv.qs[q]).dying = false) : s.tailWrite q v = s.indexWrite q v fun x => { x with tail := v } :=
  if_neg (by rw [h]; decide)

end

/-! Descriptors are taken (14 R357, R358, R361). -/

section
variable {s : State} {q : Fin 64}

theorem fetchStep_stays (h : s.mayFetch q = false) (f : Fetch) : s.fetchStep q f = s := by
  unfold State.fetchStep
  rw [h]
  rfl

theorem fetchStep_fails (h : s.mayFetch q = true) {code : Nat} (hcode : 1 ≤ code ∧ code ≤ 3) :
    s.fetchStep q (.failed code) = s.fetchError q code := by
  unfold State.fetchStep
  rw [h]
  exact if_pos hcode

theorem memRequest_awake (h : s.pw.st ≠ 2) : s.memRequest = s := if_neg fun hc => h hc.1

theorem fetchStep_takes (h : s.mayFetch q = true) (hpw : s.pw.st ≠ 2) (bs : List Byte) : s.fetchStep q (.bytes bs) = s.takeDesc q bs := by
  unfold State.fetchStep
  rw [h, memRequest_awake hpw]
  rfl

/-- A failed fetch sets the code of the queue; the rest is quiet. -/
theorem fetchError_quiet (s : State) (q : Fin 64) (code : Nat) : Quiet (s.modQ q fun x => { x with err := code }) (s.fetchError q code) :=
  (logEv_quiet _ _ _ _ _).trans (msix_quiet _ _)

/-- Busy counts lie in the segments. -/
theorem busySegs_segs (s : State) (names : List (Fin 4 × Nat × Nat)) (f : Nat → Nat) :
    ∃ l, s.busySegs names f = s.modTr fun t => { t with segs := l } := by
  unfold State.busySegs
  induction names generalizing s with
  | nil => exact ⟨s.tr.segs, rfl⟩
  | cons n ns ih =>
    obtain ⟨l, hl⟩ := ih (s.modSeg n.1 n.2.1 n.2.2 fun g => { g with busy := f g.busy })
    exact ⟨l, hl⟩

/-- A taken descriptor stands last among the executing ones of its queue, with the outcome of its checks. -/
theorem takeDesc_takes (s : State) (q : Fin 64) (bs : List Byte) : ∃ e l, e.index = (s.hv.qs[q]).head ∧ e.desc = HDesc.ofBytes bs
    ∧ e.status = s.takeCheck (HDesc.ofBytes bs)
    ∧ s.takeDesc q bs = (s.modTr fun t => { t with segs := l }).modQ q fun x => { x with
        head := (x.head + 1) % max 1 x.entries, exec := x.exec ++ [e] } := by
  unfold State.takeDesc
  extract_lets h d gs names e
  obtain ⟨l, hl⟩ := busySegs_segs s names (· + 1)
  exact ⟨e, l, rfl, rfl, rfl, by rw [hl]⟩

end

/-! The engine's turns (14 R366). -/

/-- Only how far the executing descriptors have come and whose turn it is may differ; of queue `q` only its oldest has come further. -/
structure Moves (q : Fin 64) (s u : State) : Prop where
  units : u = { s with hv := u.hv }
  bytes : u.hv.bytes = s.hv.bytes
  queue : ∀ j : Fin 64, u.hv.qs[j] = { s.hv.qs[j] with exec := (u.hv.qs[j]).exec }
  descs : ∀ j : Fin 64, (u.hv.qs[j]).exec.map (·.desc) = (s.hv.qs[j]).exec.map (·.desc)
  younger : (u.hv.qs[q]).exec.tail = (s.hv.qs[q]).exec.tail

theorem moveBytes_zero (left : Executing → Nat) (l : List Executing) : moveBytes left 0 l = l := by
  induction l with
  | nil => rfl
  | cons e es ih => simp [moveBytes, ih]

theorem moveBytes_descs (left : Executing → Nat) (n : Nat) (l : List Executing) : (moveBytes left n l).map (·.desc) = l.map (·.desc) := by
  induction l generalizing n with
  | nil => rfl
  | cons e es ih => simp [moveBytes, ih]

/-- Bytes that the oldest descriptor takes in full leave the younger ones. -/
theorem moveBytes_tail {left : Executing → Nat} {n : Nat} {l : List Executing} (h : n ≤ (l.head?).elim 0 left) :
    (moveBytes left n l).tail = l.tail := by
  cases l with
  | nil => rfl
  | cons e es => simp [moveBytes, Nat.sub_eq_zero_of_le (show n ≤ left e from h), moveBytes_zero]

namespace Moves
variable {q : Fin 64} {s u v : State}

theorem refl : Moves q s s := ⟨rfl, rfl, fun _ => rfl, fun _ => rfl, rfl⟩

theorem trans (h : Moves q s u) (k : Moves q u v) : Moves q s v where
  units := by rw [k.units, h.units]
  bytes := k.bytes.trans h.bytes
  queue j := by rw [k.queue j, h.queue j]
  descs j := (k.descs j).trans (h.descs j)
  younger := k.younger.trans h.younger

/-- A queue's descriptors come further by what one turn moves. -/
theorem modQ {k : Fin 64} {n : Nat} (h : k = q → n ≤ ((s.hv.qs[k]).exec.head?).elim 0 s.leftOf) :
    Moves q s (s.modQ k fun x => { x with exec := moveBytes s.leftOf n x.exec }) where
  units := rfl
  bytes := rfl
  queue j := by
    by_cases hj : j = k
    · subst hj; rw [modQ_same]
    · rw [modQ_other s _ hj]
  descs j := by
    by_cases hj : j = k
    · subst hj; rw [modQ_same]; exact moveBytes_descs _ _ _
    · rw [modQ_other s _ hj]
  younger := by
    by_cases hk : k = q
    · subst hk
      rw [modQ_same]
      exact moveBytes_tail (h rfl)
    · rw [modQ_other s _ (Ne.symm hk)]

/-- Whose turn it is and what is left of it may differ. -/
theorem turn (s : State) (a b : Harvest → Nat) : Moves q s (s.modHv fun h => { h with turn := a h, left := b h }) :=
  ⟨rfl, rfl, fun _ => rfl, fun _ => rfl, rfl⟩

end Moves

theorem turnsFor_moves (q : Fin 64) (n : Nat) (s : State) : Moves q s (State.turnsFor q n s) := by
  induction n generalizing s with
  | zero => exact .refl
  | succ n ih =>
    unfold State.turnsFor
    extract_lets need k m
    split
    · exact .refl
    · split
      · split
        · exact .refl
        · exact (Moves.turn s _ _).trans (ih _)
      · refine .trans (.modQ (k := k) (n := m) fun hk => ?_) (.trans (.turn _ _ _) (ih _))
        exact (Nat.min_le_right _ _).trans (le_of_eq ((if_pos hk).trans (by rw [hk])))

theorem served_moves (s : State) (q : Fin 64) : Moves q s (s.served q) := turnsFor_moves q _ s

theorem turnsFor_idle {q : Fin 64} {s : State} (h : ((s.hv.qs[q]).exec.head?).elim 0 s.leftOf = 0) (n : Nat) :
    State.turnsFor q n s = s := by
  cases n with
  | zero => rfl
  | succ n => exact if_pos h

/-- A descriptor that moves no data takes no turn. -/
theorem served_refused {s : State} {q : Fin 64} {e : Executing} {rest : List Executing} (h : (s.hv.qs[q]).exec = e :: rest)
    (hst : e.status ≠ none) : s.served q = s := by
  have hleft : s.leftOf e = 0 := if_pos (Option.isSome_iff_ne_none.mpr hst)
  have hneed : ((s.hv.qs[q]).exec.head?).elim 0 s.leftOf = 0 := by rw [h]; exact hleft
  exact turnsFor_idle hneed _

/-! Completion records (14 R363, R365). -/

/-- Queues and host memory stand. -/
def KeepsHost (s u : State) : Prop := u.hv = s.hv ∧ u.hl.hostMem = s.hl.hostMem

namespace KeepsHost
variable {s u v : State}

theorem refl : KeepsHost s s := ⟨rfl, rfl⟩

theorem trans (h : KeepsHost s u) (k : KeepsHost u v) : KeepsHost s v := ⟨k.1.trans h.1, k.2.trans h.2⟩

theorem msix (s : State) (n : Nat) : KeepsHost s (s.msix n) := by
  unfold State.msix
  split
  · exact refl
  · refine ⟨rfl, ?_⟩
    show (if _ then _ else _ : HostLink).hostMem = _
    split <;> rfl

theorem notify (s : State) (sev : Nat) : KeepsHost s (s.notify sev) := by
  unfold State.notify
  split
  · exact refl
  · split
    · exact msix s _
    · split
      · exact msix s _
      · exact ⟨rfl, rfl⟩

theorem coreWake (s : State) : KeepsHost s s.coreWake := by
  unfold State.coreWake
  split
  · exact ⟨rfl, rfl⟩
  · split <;> exact ⟨rfl, rfl⟩

theorem record (s : State) (e : Event) : KeepsHost s (s.record e) := ⟨rfl, rfl⟩

theorem logEntry (s : State) (e : Event) : KeepsHost s (s.logEntry e) := by
  unfold State.logEntry
  split
  · exact ((record s _).trans (notify _ _)).trans (coreWake _)
  · exact ⟨rfl, rfl⟩

theorem modTr (s : State) (f : Trellis → Trellis) : KeepsHost s (s.modTr f) := ⟨rfl, rfl⟩

theorem modCh (s : State) (c : Fin 4) (f : Chan → Chan) : KeepsHost s (s.modCh c f) := ⟨rfl, rfl⟩

theorem quotaCheck (s : State) (c : Fin 4) : KeepsHost s (s.quotaCheck c) := by
  unfold State.quotaCheck
  split
  · exact (modCh s c _).trans (logEntry _ _)
  · exact refl

theorem modSeg (s : State) (c : Fin 4) (a i : Nat) (f : Seg → Seg) : KeepsHost s (s.modSeg c a i f) := ⟨rfl, rfl⟩

theorem sweep (s : State) (c : Fin 4) : KeepsHost s (s.sweep c) := by
  unfold State.sweep
  extract_lets need gone s1
  exact trans (u := s1) ⟨rfl, rfl⟩ (quotaCheck s1 c)

theorem dropSeg (s : State) (c : Fin 4) (a i : Nat) : KeepsHost s (s.dropSeg c a i) := (modTr s _).trans (sweep _ c)

theorem freeSegs (s : State) (names : List (Fin 4 × Nat × Nat)) (release : Bool) : KeepsHost s (s.freeSegs names release) := by
  unfold State.freeSegs
  induction names generalizing s with
  | nil => exact refl
  | cons n ns ih =>
    refine .trans ?_ (ih _)
    dsimp only
    split
    · exact (modSeg s _ _ _ _).trans (dropSeg _ _ _ _)
    · exact modSeg s _ _ _ _

end KeepsHost

/-- Whether a delivery releases its segments (14 R365). -/
def releases (e : Executing) (v : Delivered) : Bool := bitAt e.desc.flags 1 && decide (v.status ≤ 1)

/-- A queue whose oldest descriptor has its record. -/
def HQueue.recorded (x : HQueue) (v : Delivered) : HQueue := { x with
  exec := x.exec.drop 1, done := wrapAdd 64 x.done 1, bytes := wrapAdd 64 x.bytes v.bytes.length
  ctail := (x.ctail + 1) % max 1 x.entries, phase := if x.ctail + 1 = x.entries then !x.phase else x.phase }

/-- The place of the record in the completion ring. -/
def HQueue.slot (h : HQueue) : Nat := h.cring + 32 * h.ctail

/-- The state in which data and record stand in host memory. -/
def State.recordOut (s : State) (q : Fin 64) (e : Executing) (v : Delivered) : State :=
  (s.hostWrite e.desc.dest v.bytes).hostWrite (s.hv.qs[q]).slot (recordBytes e v (s.hv.qs[q]).phase (releases e v) s.ticks)

theorem recordOut_hv (s : State) (q : Fin 64) (e : Executing) (v : Delivered) : (s.recordOut q e v).hv = s.hv := by
  unfold State.recordOut
  generalize recordBytes e v _ _ _ = bs
  rfl

/-- The state in which the record is counted too, and what it frees is not yet free. -/
def State.recordWritten (s : State) (q : Fin 64) (e : Executing) (v : Delivered) : State :=
  ((s.recordOut q e v).modQ q (·.recorded v)).modHv fun y => { y with bytes := wrapAdd 64 y.bytes v.bytes.length }

theorem recordWritten_mem (s : State) (q : Fin 64) (e : Executing) (v : Delivered) : (s.recordWritten q e v).hl.hostMem =
    memWriteBytes (memWriteBytes s.hl.hostMem e.desc.dest v.bytes) (s.hv.qs[q]).slot
      (recordBytes e v (s.hv.qs[q]).phase (releases e v) s.ticks) := by
  unfold State.recordWritten State.recordOut
  generalize recordBytes e v _ _ _ = bs
  rfl

theorem recordWritten_bytes (s : State) (q : Fin 64) (e : Executing) (v : Delivered) :
    (s.recordWritten q e v).hv.bytes = wrapAdd 64 s.hv.bytes v.bytes.length := by
  rw [← recordOut_hv s q e v]
  rfl

theorem recordWritten_same (s : State) (q : Fin 64) (e : Executing) (v : Delivered) :
    (s.recordWritten q e v).hv.qs[q] = (s.hv.qs[q]).recorded v := by
  rw [← recordOut_hv s q e v]
  exact modQ_same (s.recordOut q e v) q (·.recorded v)

theorem recordWritten_other (s : State) {q j : Fin 64} (e : Executing) (v : Delivered) (h : j ≠ q) :
    (s.recordWritten q e v).hv.qs[j] = s.hv.qs[j] := by
  rw [← recordOut_hv s q e v]
  exact modQ_other (s.recordOut q e v) (·.recorded v) h

theorem writeRecord_keeps (s : State) (q : Fin 64) (e : Executing) (v : Delivered) :
    KeepsHost (s.recordWritten q e v) (s.writeRecord q e v) := by
  have hfree := KeepsHost.freeSegs (s.recordWritten q e v) e.segs (releases e v)
  unfold State.writeRecord
  extract_lets h release s1 s2 s3
  split
  · exact hfree.trans (.msix s3 _)
  · exact hfree

theorem countDying_keeps (s : State) (q : Fin 64) (c : Bool) : KeepsHost s (s.countDying q c) := by
  unfold State.countDying
  split
  · split <;> exact ⟨rfl, rfl⟩
  · exact .refl

theorem queueGone_stays {s : State} {q : Fin 64} (h : (s.hv.qs[q]).dying = false) : s.queueGone q = s := by
  unfold State.queueGone
  rw [h]
  rfl

theorem recordBytes_length (e : Executing) (v : Delivered) (p r : Bool) (n : Nat) : (recordBytes e v p r n).length = 32 := by
  simp [recordBytes]

/-- The oldest executing descriptor of a queue that is not dying gets its record. -/
theorem recordStep_keeps {s : State} {q : Fin 64} {e : Executing} {rest : List Executing} (h : (s.hv.qs[q]).exec = e :: rest)
    (hup : s.hl.up = true) (hdying : (s.hv.qs[q]).dying = false) (hdata : e.status ≠ none ∨ (s.memServes = true ∧ s.ck.relock = none)) :
    KeepsHost ((s.served q).recordWritten q e (s.deliver e)) (s.recordStep q) := by
  have hgo : ¬(!s.hl.up || (e.status.isNone && e.desc.op != 3 && (!s.memServes || s.ck.relock.isSome))) = true := by
    rcases hdata with hst | ⟨hmem, hck⟩
    · simp [hup, hst]
    · simp [hup, hmem, hck]
  have hmoves := served_moves s q
  have hkeep := (writeRecord_keeps (s.served q) q e (s.deliver e)).trans (countDying_keeps _ q false)
  have hgone : (((s.served q).writeRecord q e (s.deliver e)).countDying q false).hv.qs[q].dying = false := by
    rw [hkeep.1, recordWritten_same, hmoves.queue]
    exact hdying
  unfold State.recordStep
  simp only [h, hgo]
  rw [queueGone_stays hgone]
  exact hkeep

/-! The memory of a record and its data (14 R363). -/

section
variable {m : Memory} (h : Memory.wf m = true) (a r : Nat) (ds bs : List Byte)
include h

theorem memReadBytes_outside {n : Nat} (hout : a + n ≤ r ∨ r + ds.length ≤ a) :
    memReadBytes (memWriteBytes m r ds) a n = memReadBytes m a n := by
  unfold memReadBytes
  refine List.map_congr_left fun i hi => memRead_writeBytes_outside ds r (a + i) h ?_
  have hlt := List.mem_range.mp hi
  omega

/-- Data that the record does not cover read as written. -/
theorem memReadBytes_beneath (hout : a + bs.length ≤ r ∨ r + ds.length ≤ a) :
    memReadBytes (memWriteBytes (memWriteBytes m a bs) r ds) a bs.length = bs :=
  (memReadBytes_outside (memWriteBytes_wf bs a h) a r ds hout).trans (memReadBytes_writeBytes h a bs)

theorem memRead_outside_both {x : Nat} (hr : x < r ∨ r + ds.length ≤ x) (ha : x < a ∨ a + bs.length ≤ x) :
    memRead (memWriteBytes (memWriteBytes m a bs) r ds) x = memRead m x :=
  (memRead_writeBytes_outside ds r x (memWriteBytes_wf bs a h) hr).trans (memRead_writeBytes_outside bs a x h ha)

end

/-! The obligation, row by row. -/

section
variable {s : State} {t : Nat} {q : Fin 64}

theorem harvestQueueCreate_creates {m : Fin 17} (hr : Ready s t m 0x0B01 (lenIs 32)) (h : QueueForm (s.reqOf m).payload)
    (hlive : (s.hv.qs[Fin.ofNat 64 (fieldAt (s.reqOf m).payload 0 1)]).live = false) :
    Leads (exec (.harvestQueueCreate t m) s) (fun u => Replied u m stOk []
      ∧ u.hv = { s.hv with qs := s.hv.qs.set (Fin.ofNat 64 (fieldAt (s.reqOf m).payload 0 1)).val (createdQueue (s.reqOf m).payload) }
      ∧ SameUnits { s with hv := u.hv } u ∧ SameSettings s u) := by
  refine (command_replies hr (queueCreateBody_creates (s := s.reach t) h hlive) rfl).mono fun u ⟨hreply, hunits, hset⟩ => ?_
  refine ⟨hreply, hunits.hv, ?_, hset⟩
  rw [hunits.hv]
  exact hunits

theorem descriptorTake_fails (h : s.mayFetch q = true) {code : Nat} (hcode : 1 ≤ code ∧ code ≤ 3) :
    Leads (exec (.descriptorTake t q (.failed code)) s) (fun u => u.hv.qs[q] = { s.hv.qs[q] with err := code }
      ∧ (∀ j, j ≠ q → u.hv.qs[j] = s.hv.qs[j]) ∧ SameUnits { s with hv := u.hv } u) := by
  refine ⟨_, congrArg go (fetchStep_fails (s := s.reach t) h hcode), ?_⟩
  have hq := (fetchError_quiet (s.reach t) q code).units
  beta_reduce
  rw [hq.hv]
  exact ⟨modQ_same _ q _, fun j hj => modQ_other _ _ hj, hq⟩

theorem descriptorTake_takes (h : s.mayFetch q = true) (hpw : s.pw.st ≠ 2) (bs : List Byte) :
    Leads (exec (.descriptorTake t q (.bytes bs)) s) (fun u =>
      (∃ e, u.hv.qs[q] = { s.hv.qs[q] with head := ((s.hv.qs[q]).head + 1) % max 1 (s.hv.qs[q]).entries, exec := (s.hv.qs[q]).exec ++ [e] }
        ∧ e.index = (s.hv.qs[q]).head ∧ e.desc = HDesc.ofBytes bs ∧ e.status = s.takeCheck (HDesc.ofBytes bs))
      ∧ (∀ j, j ≠ q → u.hv.qs[j] = s.hv.qs[j]) ∧ u.tr.pages = s.tr.pages ∧ u.hl = s.hl ∧ u.ch = s.ch) := by
  obtain ⟨e, l, hindex, hdesc, hstatus, htake⟩ := takeDesc_takes (s.reach t) q bs
  refine ⟨_, congrArg go ((fetchStep_takes (s := s.reach t) h hpw bs).trans htake), ?_⟩
  exact ⟨⟨e, modQ_same _ q _, hindex, hdesc, hstatus⟩, fun j hj => modQ_other _ _ hj, rfl, rfl, rfl⟩

/-- COMPLETION_RECORD of the oldest executing descriptor. -/
theorem completionRecord_writes {e : Executing} {rest : List Executing} (h : (s.hv.qs[q]).exec = e :: rest) (hup : s.hl.up = true)
    (hdying : (s.hv.qs[q]).dying = false) (hdata : e.status ≠ none ∨ (s.memServes = true ∧ s.ck.relock = none)) :
    Leads (exec (.completionRecord t q) s) (fun u =>
      KeepsHost (((s.reach t).served q).recordWritten q e (s.deliver e)) u ∧ Moves q (s.reach t) ((s.reach t).served q)) :=
  ⟨_, rfl, recordStep_keeps (s := s.reach t) h hup hdying hdata, served_moves _ q⟩

end

/-- Settles O42: queues are written one at a time, and a record is the last of what the turns, the data and the freed segments leave. -/
theorem queuesAndDescriptors : Obligations.QueuesAndDescriptors := by
  refine ⟨?_, ?_, ?_, ?_⟩
  · intro s t m hr p n q bad
    exact ⟨fun hb => command_fails hr (queueCreateBody_malformed fun hform => hform hb),
      fun hb hlive => command_fails hr (queueCreateBody_live (s := s.reach t) hb hlive),
      fun hb hlive => harvestQueueCreate_creates hr hb hlive⟩
  · intro s t q v h
    refine ⟨fun hlive => ?_, fun hup hlive hv => ?_, fun hup hlive hv => ?_⟩
    · have hdead (set : HQueue → HQueue) := congrArg go (indexWrite_dead (s := s.reach t) (v := v.toNat) (set := set) hlive)
      exact ⟨hdead _, fun hdying => (congrArg go (tailWrite_alive (s := s.reach t) hdying)).trans (hdead _)⟩
    · have hset (set : HQueue → HQueue) := congrArg go (indexWrite_sets (s := s.reach t) (set := set) hup hlive hv)
      exact ⟨hset _, fun hdying => (congrArg go (tailWrite_alive (s := s.reach t) hdying)).trans (hset _)⟩
    · have herr (set : HQueue → HQueue) := congrArg go (indexWrite_beyond (s := s.reach t) (set := set) hup hlive hv)
      exact ⟨herr _, fun hdying => (congrArg go (tailWrite_alive (s := s.reach t) hdying)).trans (herr _)⟩
  · intro s t q h
    exact ⟨fun hf f => congrArg go (fetchStep_stays (s := s.reach t) hf f), fun hf code h1 h3 => descriptorTake_fails hf ⟨h1, h3⟩,
      fun hf hpw bs => descriptorTake_takes hf hpw bs⟩
  · intro s t q e rest hexec hup hdying hdata hwf h v r
    refine (completionRecord_writes hexec hup hdying hdata).mono fun u ⟨⟨hhv, hmem⟩, hmoves⟩ => ?_
    have hrest : (((s.reach t).served q).hv.qs[q]).exec.drop 1 = rest := by
      rw [List.drop_one, hmoves.younger]
      exact congrArg List.tail hexec
    have hone : ((s.reach t).served q).hv.qs[q] = { h with exec := (((s.reach t).served q).hv.qs[q]).exec } := hmoves.queue q
    have hq : u.hv.qs[q] = { h.recorded v with exec := rest } := by
      rw [hhv, recordWritten_same, hone]
      exact congrArg (fun l => { h.recorded v with exec := l }) hrest
    have hlink : u.hl.hostMem = memWriteBytes (memWriteBytes s.hl.hostMem e.desc.dest v.bytes) r
        (recordBytes e v h.phase (bitAt e.desc.flags 1 && decide (v.status ≤ 1)) (s.reach t).ticks) := by
      rw [hmem, recordWritten_mem, hone, hmoves.units]
      rfl
    have hother (j : Fin 64) (hj : j ≠ q) : u.hv.qs[j] = ((s.reach t).served q).hv.qs[j] := by
      rw [hhv, recordWritten_other _ e _ hj]
    have hlen := recordBytes_length e v h.phase (bitAt e.desc.flags 1 && decide (v.status ≤ 1)) (s.reach t).ticks
    rw [hq, hlink]
    generalize recordBytes e v h.phase _ _ = bs at hlen ⊢
    refine ⟨rfl, rfl, rfl, ?_, ?_, fun hout => ?_, fun x hr hd => ?_, fun j hj => ⟨?_, ?_⟩, fun hst j hj => ?_⟩
    · rw [hhv, recordWritten_bytes, hmoves.bytes]
      rfl
    · rw [← hlen]
      exact (memReadBytes_writeBytes (memWriteBytes_wf _ _ hwf) r bs)
    · exact memReadBytes_beneath hwf _ r _ _ (by rwa [hlen])
    · exact memRead_outside_both hwf _ r _ _ (by rwa [hlen]) hd
    · rw [hother j hj, hmoves.queue]
      rfl
    · rw [hother j hj]
      exact hmoves.descs j
    · rw [hother j hj, served_refused (s := s.reach t) hexec hst]
      rfl

end Sys2Proof.Machine
end

section
/-!
SUPPORT. The array link beside its traffic: what a module sends joins its record, its ports' queues and what firmware holds, and the
clock family leaves the array link as it stands (16 R390, R391, R396).
-/

namespace Sys2Proof.Machine

/-- The array link without what it has sent and what firmware has still to do. -/
def ArrayLink.still (a : ArrayLink) : ArrayLink := { a with tx := [], seq := 0, wire := [], held := [] }

/-- The instant stands, and the array link beside its traffic. -/
structure SameArray (s u : State) : Prop where
  clk : u.clk = s.clk
  ar : u.ar.still = s.ar.still

namespace SameArray
variable {s u v : State}

theorem refl : SameArray s s := ⟨rfl, rfl⟩

theorem trans (h : SameArray s u) (k : SameArray u v) : SameArray s v := ⟨k.clk.trans h.clk, k.ar.trans h.ar⟩

theorem isMember (h : SameArray s u) : u.isMember = s.isMember :=
  (congrArg (fun a : ArrayLink => a.role == 2 || a.role == 3) h.ar :)

/-- The same change of the array link, of two that differ in their traffic. -/
theorem modAr {f : ArrayLink → ArrayLink} (h : SameArray s u) (hf : ∀ a, (f a).still = f a.still) :
    SameArray (s.modAr f) (u.modAr f) where
  clk := h.clk
  ar := (hf u.ar).trans ((congrArg f h.ar).trans (hf s.ar).symm)

theorem modCk {g : Clock → Clock} (h : SameArray s u) : SameArray s (u.modCk g) := ⟨h.clk, h.ar⟩
theorem modTm {g : Time → Time} (h : SameArray s u) : SameArray s (u.modTm g) := ⟨h.clk, h.ar⟩
theorem modMr {g : Marrad → Marrad} (h : SameArray s u) : SameArray s (u.modMr g) := ⟨h.clk, h.ar⟩
theorem modPw {g : Power → Power} (h : SameArray s u) : SameArray s (u.modPw g) := ⟨h.clk, h.ar⟩
theorem setFreeCtr {n : Nat} (h : SameArray s u) : SameArray s (u.setFreeCtr n) := ⟨h.clk, h.ar⟩

theorem ite {c : Prop} {i : Decidable c} (hu : SameArray s u) (hv : SameArray s v) : SameArray s (if c then u else v) := by
  split
  · exact hu
  · exact hv

theorem quiet (h : SameArray s u) (q : Quiet u v) : SameArray s v := ⟨q.clk.trans h.clk, (congrArg ArrayLink.still q.ar).trans h.ar⟩

theorem logEv {code sev scope : Nat} {data : List Byte} (h : SameArray s u) : SameArray s (u.logEv code sev scope data) :=
  h.quiet (logEv_quiet _ _ _ _ _)

theorem logEvAt {b code sev scope : Nat} {data : List Byte} (h : SameArray s u) : SameArray s (u.logEvAt b code sev scope data) :=
  h.quiet (logEvAt_quiet _ _ _ _ _ _)

theorem arEvent {code sev addr port reason v : Nat} (h : SameArray s u) : SameArray s (u.arEvent code sev addr port reason v) := .logEv h
theorem ckEvent {code sev b : Nat} {v : Int} (h : SameArray s u) : SameArray s (u.ckEvent code sev b v) := .logEv h

/-! Messages. -/

theorem sendOn {ps : List (Fin 3)} {mtype addr : Nat} {args : List Nat} (h : SameArray s u) : SameArray s (u.sendOn ps mtype addr args) :=
  ⟨h.clk, h.ar⟩

theorem sendN {mtype addr : Nat} {args : List Nat} (h : SameArray s u) : SameArray s (u.sendN mtype addr args) := .sendOn h

theorem askJoin {role : Nat} (h : SameArray s u) : SameArray s (u.askJoin role) := .ite (.sendN h) ⟨h.clk, h.ar⟩

theorem sendJoin (h : SameArray s u) : SameArray s u.sendJoin := .askJoin h

theorem forward {mtype : Nat} {args : List Nat} (h : SameArray s u) : SameArray s (u.forward mtype args) := .ite (.sendN h) h

/-! The clock family. -/

theorem endWorkIf {p : Work → Bool} {status detail : Nat} (h : SameArray s u) : SameArray s (u.endWorkIf p status detail) := by
  unfold State.endWorkIf
  split
  · exact h
  · exact .modPw (.logEv (.modMr h))

theorem setQualAt {b : Nat} {q : BitVec 5} (h : SameArray s u) : SameArray s (u.setQualAt b q) := .ite h (.modTm h)

theorem applyQualAt {b : Nat} {stepped : Bool} (h : SameArray s u) : SameArray s (u.applyQualAt b stepped) :=
  .ite (.modCk (.modTm (.setQualAt h))) (.modTm (.setQualAt h))

theorem applyQual (h : SameArray s u) : SameArray s u.applyQual := .applyQualAt h
theorem setDisc {d : Nat} (h : SameArray s u) : SameArray s (u.setDisc d) := .applyQual (.modCk h)
theorem enterLocked (h : SameArray s u) : SameArray s u.enterLocked := .endWorkIf (.modCk (.ckEvent (.setDisc h)))

theorem loseLock {gate : Nat} (h : SameArray s u) : SameArray s (u.loseLock gate) := by
  unfold State.loseLock
  extract_lets s1 s2
  have h2 : SameArray s s2 := .ite (.setDisc (.modCk h)) (.modCk h)
  exact .endWorkIf (.modCk (.ite (.modTm h2) h2))

theorem takeError {e : Int} (h : SameArray s u) : SameArray s (u.takeError e) := by
  unfold State.takeError
  exact .modCk h

theorem gainLock {e : Int} (h : SameArray s u) : SameArray s (u.gainLock e) := by
  unfold State.gainLock
  extract_lets s1 _ s2 s3 s4
  have h2 : SameArray s s2 := .modCk (.takeError h)
  have h4 : SameArray s s4 := .ckEvent (.ite h2 (.setDisc h2))
  exact .ite (.enterLocked h4) h4

/-! What a module follows (16 R396, R409). -/

theorem loseUp (h : SameArray s u) : SameArray (s.modAr fun a => { a with exchanges := 0 }) u.loseUp :=
  .loseLock (h.modAr fun _ => rfl)

theorem unalign (h : SameArray s u) : SameArray (s.modAr fun a => { a with aligned := false, alignFrom := none }) u.unalign :=
  .applyQual (h.modAr fun _ => rfl)

theorem ownReference {e : Int} (h : SameArray s u) :
    SameArray (s.modAr fun a => { a with upQual := 0#4, pathAl := false, exchanges := 0, viaSb := false }) (u.ownReference e) := by
  unfold State.ownReference
  extract_lets s1
  have h1 : SameArray (s.modAr fun a => { a with upQual := 0#4, pathAl := false, exchanges := 0, viaSb := false }) s1 :=
    .applyQual (h.modAr fun _ => rfl)
  exact .ite (.gainLock h1) h1

end SameArray

/-- Beside the array link's traffic only log, host link and power differ. -/
structure Traffic (s u : State) : Prop where
  array : SameArray s u
  units : SameUnits s u
  settings : SameSettings s u

namespace Traffic
variable {s u v : State}

theorem refl : Traffic s s := ⟨.refl, .refl s, rfl, rfl, rfl, rfl, rfl⟩

theorem trans (h : Traffic s u) (k : Traffic u v) : Traffic s v := ⟨h.array.trans k.array, h.units.trans k.units, h.settings.trans k.settings⟩

theorem quiet (h : Traffic s u) (q : Quiet u v) : Traffic s v := h.trans ⟨SameArray.refl.quiet q, q.units, q.settings⟩

theorem ite {c : Prop} {i : Decidable c} (hu : Traffic s u) (hv : Traffic s v) : Traffic s (if c then u else v) := by
  split
  · exact hu
  · exact hv

theorem modAr {f : ArrayLink → ArrayLink} (h : Traffic s u) (hf : ∀ a, (f a).still = f a.still) : Traffic (s.modAr f) (u.modAr f) :=
  ⟨h.array.modAr hf, h.units, h.settings⟩

theorem arEvent {code sev addr port reason v : Nat} (h : Traffic s u) : Traffic s (u.arEvent code sev addr port reason v) :=
  h.quiet (logEv_quiet _ _ _ _ _)

theorem sendOn {ps : List (Fin 3)} {mtype addr : Nat} {args : List Nat} (h : Traffic s u) : Traffic s (u.sendOn ps mtype addr args) :=
  ⟨.sendOn h.array, h.units, h.settings⟩

theorem sendN {mtype addr : Nat} {args : List Nat} (h : Traffic s u) : Traffic s (u.sendN mtype addr args) := .sendOn h

theorem askJoin {role : Nat} (h : Traffic s u) : Traffic s (u.askJoin role) := .ite (.sendN h) ⟨⟨h.array.clk, h.array.ar⟩, h.units, h.settings⟩

theorem sendJoin (h : Traffic s u) : Traffic s u.sendJoin := .askJoin h

theorem forward {mtype : Nat} {args : List Nat} (h : Traffic s u) : Traffic s (u.forward mtype args) := .ite (.sendN h) h

end Traffic

/-- A message that is sent is the last in the record. -/
theorem sendN_tx (s : State) (mtype addr : Nat) (args : List Nat) : (s.sendN mtype addr args).ar.tx = ⟨s.clk, mtype, addr, args⟩ :: s.ar.tx := rfl

/-- W and its event (16 R402). -/
theorem recomputeW_quiet (s : State) : Quiet (s.modAr fun a => { a with w := latencyW s.ar.members }) s.recomputeW := by
  unfold State.recomputeW
  extract_lets w s1
  split
  · exact logEv_quiet s1 _ _ _ _
  · exact .refl s1

end Sys2Proof.Machine
end

section
/-!
O47: ports, time and takeover in an array (16 R389 to R398, R409 to R413). Every row is a change of the array link, followed by messages,
an event and what the clock family makes of it.
-/

namespace Sys2Proof.Machine

/-! Ports that come up (16 R389). -/

/-- The array link as a port that comes up leaves it. -/
def State.portRaised (s : State) (p : Fin 3) (peer : Nat) (standby : Bool) : State := s.modAr fun a => { a with
  ports := a.ports.set p.val true, peers := a.peers.set p.val peer, paused := a.paused.set p.val none
  lastTime := a.lastTime.set p.val s.clk, sbPeer := a.sbPeer.set p.val standby }

/-- Units, settings, role and ports with their peers and times stand. -/
structure KeepsPorts (s u : State) : Prop where
  ports : u.ar.ports = s.ar.ports
  peers : u.ar.peers = s.ar.peers
  times : u.ar.lastTime = s.ar.lastTime
  role : u.ar.role = s.ar.role
  units : SameUnits s u
  settings : SameSettings s u

namespace KeepsPorts
variable {s u v : State}

theorem refl : KeepsPorts s s := ⟨rfl, rfl, rfl, rfl, .refl s, rfl, rfl, rfl, rfl, rfl⟩

theorem traffic (h : KeepsPorts s u) (k : Traffic u v) : KeepsPorts s v where
  ports := (congrArg ArrayLink.ports k.array.ar :).trans h.ports
  peers := (congrArg ArrayLink.peers k.array.ar :).trans h.peers
  times := (congrArg ArrayLink.lastTime k.array.ar :).trans h.times
  role := (congrArg ArrayLink.role k.array.ar :).trans h.role
  units := h.units.trans k.units
  settings := h.settings.trans k.settings

theorem astate {n : Nat} (h : KeepsPorts s u) : KeepsPorts s (u.modAr fun a => { a with astate := n }) :=
  ⟨h.ports, h.peers, h.times, h.role, h.units, h.settings⟩

theorem fresh (h : KeepsPorts s u) : KeepsPorts s (u.modAr fun a => { a with exchanges := 0, takeWait := none }) :=
  ⟨h.ports, h.peers, h.times, h.role, h.units, h.settings⟩

end KeepsPorts

section
variable {s : State} {p : Fin 3}

theorem portUp_stays {peer : Nat} {sb : Bool} (h : s.ar.ports[p] = true ∨ s.clockStopped = true ∨ 2 ≤ s.pw.st ∨ s.domOn (192 + p.val) = false) :
    s.portUp p peer sb = s := by
  refine if_pos ?_
  simp only [Bool.or_eq_true, decide_eq_true_iff, Bool.not_eq_true', or_assoc]
  exact h

theorem portUp_raises {peer : Nat} {sb : Bool} (hport : s.ar.ports[p] = false) (hclock : s.clockStopped = false) (hpw : s.pw.st ≤ 1)
    (hdom : s.domOn (192 + p.val) = true) : KeepsPorts (s.portRaised p peer sb) (s.portUp p peer sb) := by
  have hgo : ¬(s.ar.ports[p] || s.clockStopped || decide (2 ≤ s.pw.st) || !(s.domOn (192 + p.val))) = true := by
    rw [hport, hclock, hdom, decide_eq_false (by omega)]
    decide
  unfold State.portUp
  rw [if_neg hgo]
  extract_lets paused s1 s2
  have h1 : KeepsPorts (s.portRaised p peer sb) s1 := .refl
  have h2 : KeepsPorts (s.portRaised p peer sb) s2 := h1.fresh
  split
  · exact h1
  · split
    · exact h2
    · split
      · split
        · exact h2.astate.traffic Traffic.refl.sendJoin
        · exact h2
      · split
        · split
          · exact h2
          · exact h2.astate.traffic Traffic.refl.arEvent
        · split
          · exact h2
          · exact h2.traffic Traffic.refl.sendJoin

/-! Ports that go down (16 R389, R409 to R413). -/

/-- Whether a PAUSE excuses an outage of a port (16 R413). -/
def State.excused (s : State) (p : Fin 3) : Bool := s.ar.paused[p].any fun x => decide (s.clk ≤ x + 300000000)

/-- The array link as a port that goes down leaves it. -/
def State.portFallen (s : State) (p : Fin 3) : State := s.modAr fun a => { a with
  ports := a.ports.set p.val false, echo := a.echo.set p.val (0, 0)
  wire := cutWire s.clk (fun x => x == p.val) a.wire
  paused := if s.excused p then a.paused else a.paused.set p.val none }

variable {alive : Bool} {route : Option (Nat × Nat)}

theorem portDown_stays {lock : Bool} (h : s.ar.ports[p] = false ∨ (lock = false ∧ s.clk < max s.ar.lastTime[p] (s.linkBusy p) + 9000000)) :
    s.portDown p lock alive route = s := by
  refine if_pos ?_
  simpa only [Bool.or_eq_true, Bool.and_eq_true, Bool.not_eq_true', decide_eq_true_iff] using h

/-- A port that loses its lock. -/
theorem portDown_falls (h : s.ar.ports[p] = true) : s.portDown p true alive route =
    if s.ar.role = 0 ∨ (s.ar.astate = 3 ∧ s.isUpstream p = true) then s.portFallen p
    else if s.excused p then (if s.isUpstream p then (s.portFallen p).loseUp else s.portFallen p)
    else (s.portFallen p).portLoss p (s.isUpstream p) alive route := by
  refine (if_neg ?_).trans rfl
  simp [h]

theorem isUpstream_nup (hrole : s.ar.role = 2 ∨ s.ar.role = 3) (hvia : s.ar.viaSb = false) : s.isUpstream 0 = true := by
  rcases hrole with h | h <;> simp [State.isUpstream, State.isMember, State.upPort, h, hvia]

/-- A member loses its upstream, and no PAUSE excuses it. -/
theorem portDown_upstream (h : s.ar.ports[(0 : Fin 3)] = true) (hrole : s.ar.role = 2 ∨ s.ar.role = 3) (hvia : s.ar.viaSb = false)
    (hpause : s.ar.paused[(0 : Fin 3)] = none) (hst : s.ar.astate ≠ 3) :
    s.portDown 0 true alive route = (s.portFallen 0).loseUpstream alive route := by
  have hup := isUpstream_nup hrole hvia
  have hex : s.excused 0 = false := by rw [State.excused, hpause]; rfl
  rw [portDown_falls h, if_neg (by omega), hex, hup]
  rfl

theorem loseUpstream_deputy (h : s.ar.role = 2) :
    s.loseUpstream alive route = (s.loseUp.unalign).modAr fun a => { a with takeWait := some (s.clk, alive) } := if_pos h

theorem loseUpstream_orphan (hrole : s.ar.role ≠ 2) (hvia : s.ar.viaSb = false) (hsb : s.sbUp = false) :
    s.loseUpstream alive route = s.orphan := by
  unfold State.loseUpstream
  rw [if_neg hrole, hvia, hsb]
  cases route <;> rfl

/-- A standby link that is down stays so. -/
theorem sbUp_portFallen (h : s.sbUp = false) : (s.portFallen p).sbUp = false := by
  unfold State.sbUp at *
  have hport : (s.portFallen p).standbyPort = s.standbyPort := rfl
  rw [hport]
  cases hq : s.standbyPort with
  | none => rfl
  | some q =>
    rw [hq] at h
    have hlink : (s.portFallen p).sbLink q = s.sbLink q := rfl
    have hports : (s.portFallen p).ar.ports = s.ar.ports.set p.val false := rfl
    simp only [Option.any_some, hlink, hports] at h ⊢
    by_cases hqp : q = p
    · subst hqp; simp
    · have hne : p.val ≠ q.val := fun e => hqp (Fin.ext e.symm)
      simpa [hne] using h

/-! What the loss of the upstream leaves (16 R409 to R411). -/

theorem orphan_same (s : State) : SameArray (((s.modAr fun a => { a with astate := 3, viaSb := false }).modAr fun a => { a with
    exchanges := 0 }).modAr fun a => { a with aligned := false, alignFrom := none }) s.orphan :=
  .arEvent (.unalign (.loseUp .refl))

theorem takeRoute_same (s : State) (level hops : Nat) : ∃ d, SameArray (((s.modAr fun a => { a with
      astate := 2, viaSb := true, level := level, hops := hops, delay := d }).modAr fun a => { a with
    exchanges := 0 }).modAr fun a => { a with aligned := false, alignFrom := none }) (s.takeRoute level hops) :=
  ⟨_, .arEvent (.sendJoin (.unalign (.loseUp .refl)))⟩

end

/-! Takeover (16 R393, R404, R411). -/

/-- The seat of a manager: what a deputy's takeover sets. -/
def ArrayLink.seat (a : ArrayLink) : Nat × Nat × Nat × Nat × Option (Nat × Bool) × Nat :=
  (a.role, a.astate, a.addr, a.mgr, a.takeWait, a.takeovers)

theorem SameArray.seat {s u : State} (h : SameArray s u) : u.ar.seat = s.ar.seat := (congrArg ArrayLink.seat h.ar :)

theorem recomputeW_seat (s : State) : s.recomputeW.ar.seat = s.ar.seat := (congrArg ArrayLink.seat (recomputeW_quiet s).ar :)

theorem beManager_seat (s : State) (addr astate : Nat) (table : List Member) (asym : List (Nat × Int)) :
    (s.beManager addr astate table asym).ar.seat = (1, astate, addr, addr, none, s.ar.takeovers) := by
  have h : SameArray _ (s.beManager addr astate table asym) := .applyQual .refl
  exact h.seat

theorem loseUp_seat (s : State) : s.loseUp.ar.seat = s.ar.seat := (SameArray.refl (s := s)).loseUp.seat

theorem ownReference_seat (s : State) (e : Int) : (s.ownReference e).ar.seat = s.ar.seat := (SameArray.refl (s := s)).ownReference.seat

theorem promote_seat (s : State) (astate : Nat) (e : Int) :
    (s.promote astate e).ar.seat = (1, astate, s.ar.addr, s.ar.addr, none, s.ar.takeovers) := by
  unfold State.promote
  extract_lets s1
  rw [recomputeW_seat, ownReference_seat, loseUp_seat]
  exact beManager_seat _ _ _ _ _

section
variable {s : State} {e : Int} {table : Option (List Member)} {asym : Option (List (Nat × Int))}

theorem takeoverNow_waits {a : Nat} {alive : Bool} (h : s.ar.takeWait = some (a, alive)) (hclk : s.clk < a + 3000000) :
    s.takeoverNow e table asym = s := by
  unfold State.takeoverNow
  rw [h]
  exact if_pos (.inl hclk)

theorem takeoverNow_seat {a : Nat} (h : s.ar.takeWait = some (a, false)) (hclk : a + 3000000 ≤ s.clk) (hrole : s.ar.role = 2) :
    (s.takeoverNow e table asym).ar.seat = (1, 2, s.ar.addr, s.ar.addr, none, wrapAdd 32 s.ar.takeovers 1) := by
  have hseat := promote_seat (s.takeCopy table asym) 2 e
  have hgo : ¬(s.clk < a + 3000000 ∨ s.ar.role ≠ 2) := by omega
  unfold State.takeoverNow
  simp only [h, if_neg hgo, Bool.false_eq_true, if_false]
  generalize (s.takeCopy table asym).promote 2 e = x at hseat ⊢
  refine (SameArray.arEvent .refl).seat.trans ?_
  simp only [ArrayLink.seat, Prod.mk.injEq] at hseat
  obtain ⟨hrole, hst, haddr, hmgr, hwait, hn⟩ := hseat
  simp only [ArrayLink.seat, State.sendOn, State.modAr, State.setAr, hrole, hst, haddr, hmgr, hwait, hn]
  rfl

end

/-! Time transfer (16 R395 to R397). -/

section
variable {s : State} {p : Fin 3} {m : TimeMsg}

theorem sendTime_stays (h : s.ar.ports[p] = false ∨ s.clk < s.linkBusy p) : s.sendTime p = s := by
  refine if_pos ?_
  simpa only [Bool.or_eq_true, Bool.not_eq_true', decide_eq_true_iff] using h

theorem takeTime_stays (h : s.ar.ports[p] = false ∨ s.clk < s.linkBusy p) : s.takeTime p m = s := by
  refine if_pos ?_
  simpa only [Bool.or_eq_true, Bool.not_eq_true', decide_eq_true_iff] using h

/-- A port is up and its link is not being measured. -/
theorem port_measures (hport : s.ar.ports[p] = true) (hfree : s.linkBusy p ≤ s.clk) :
    ¬(!(s.ar.ports[p]) || decide (s.clk < s.linkBusy p)) = true := by
  simp [hport, hfree]

/-- The TIME message that a port sends. -/
def State.timeMsg (s : State) (p : Fin 3) : NMsg := ⟨s.clk, 1, if s.isUpstream p then s.ar.addr else 0xFFFF,
  [(s.ar.echo[p]).1, (s.ar.echo[p]).2, s.tm.qual.toNat % 16, flag s.ar.aligned, s.ar.level, s.ar.hops]⟩

theorem sendTime_sends (hport : s.ar.ports[p] = true) (hfree : s.linkBusy p ≤ s.clk) : s.sendTime p =
    s.modAr fun a => { a with
      tx := s.timeMsg p :: a.tx, seq := wrapAdd 16 a.seq 1, wire := sendWire s.clk ⟨p.val, 0, a.seq, s.timeMsg p⟩ a.wire } :=
  if_neg (port_measures hport hfree)

theorem timeWire_mem {w : NWire} {l : List NWire} (h : w ∈ l) (free : Nat) :
    ∃ x ∈ timeWire free l, x.port = w.port ∧ x.seq = w.seq ∧ x.msg = w.msg := by
  induction l generalizing free with
  | nil => cases h
  | cons y ys ih =>
    rcases List.mem_cons.mp h with rfl | hw
    · exact ⟨_, List.mem_cons_self, rfl, rfl, rfl⟩
    · obtain ⟨x, hx, hsame⟩ := ih hw (NWire.ends { y with start := blockStart y.port y.msg.mtype free })
      exact ⟨x, List.mem_cons_of_mem _ hx, hsame⟩

theorem mem_queueWire (w : NWire) (l : List NWire) : w ∈ queueWire w l := by
  induction l with
  | nil => exact List.mem_singleton_self w
  | cons y ys ih =>
    unfold queueWire
    split
    · exact List.mem_cons_self
    · exact List.mem_cons_of_mem _ ih

/-- A message that joins its port waits there. -/
theorem sendWire_mem (clk : Nat) (w : NWire) (l : List NWire) :
    ∃ x ∈ sendWire clk w l, x.port = w.port ∧ x.seq = w.seq ∧ x.msg = w.msg := by
  obtain ⟨x, hx, hsame⟩ := timeWire_mem (mem_queueWire w ((l.filter fun x => x.port == w.port).filter fun x => decide (2 * clk < x.start)))
    ((begunWire clk (l.filter fun x => x.port == w.port)).foldl (fun f x => max f x.ends) (2 * clk))
  exact ⟨x, List.mem_append_right _ hx, hsame⟩

/-- What a port takes of a TIME message (16 R395). -/
def State.timed (s : State) (p : Fin 3) (m : TimeMsg) : State := s.modAr fun a => { a with
  lastTime := a.lastTime.set p.val s.clk, echo := a.echo.set p.val (m.t1, ((m.t2 : Int) - (s.linkConst p).rx).toNat)
  linkDelay := a.linkDelay.set p.val (delayOf (s.linkConst p) m) }

theorem takeTime_takes (hport : s.ar.ports[p] = true) (hfree : s.linkBusy p ≤ s.clk) :
    s.takeTime p m = if s.isUpstream p then (s.timed p m).upstreamTime (s.linkConst p) m else s.timed p m :=
  if_neg (port_measures hport hfree)

end

/-- The array link as an exchange on the upstream link leaves it. -/
def State.timeTaken (s : State) (k : LinkConst) (m : TimeMsg) (rms : Nat) : State := s.modAr fun a => { a with
  theta := thetaOf k m, delay := delayOf k m, exchanges := min 16 (s.ar.exchanges + 1), upQual := m.qual, pathAl := m.aligned
  level := m.level, hops := m.hops, rms := rms }

/-- An exchange on the upstream link: offset, delay and what the message says of the upstream (16 R395 to R397). -/
theorem upstreamTime_same (s : State) (k : LinkConst) (m : TimeMsg) : ∃ rms f b,
    SameArray ((s.timeTaken k m rms).modAr fun a => { a with alignFrom := f, aligned := b }) (s.upstreamTime k m) := by
  unfold State.upstreamTime
  extract_lets moved n r s1 s2
  have h1 : SameArray (s.timeTaken k m (r.1.toNat % 2 ^ 32)) s1 := .takeError (.modAr (.setFreeCtr .refl) fun _ => rfl)
  have h2 : SameArray (s.timeTaken k m (r.1.toNat % 2 ^ 32)) s2 := .ite (.gainLock h1) h1
  unfold State.alignStep
  exact ⟨_, _, _, .applyQual (h2.modAr fun _ => rfl)⟩

/-! Reports (16 R390, R402, R415). -/

section
variable {s : State} {m : HeldMsg}

theorem fwMessage_ignored (h : s.heeds m = false) : s.fwMessage m = s := by
  unfold State.fwMessage
  rw [h]
  rfl

theorem fwMessage_served (h : s.heeds m = true) (hserve : s.fw.serving = true) (hhalt : s.fw.halted = false) : s.fwMessage m = s.serveMsg m := by
  unfold State.fwMessage
  rw [h, hserve, hhalt]
  rfl

theorem fwMessage_waits (h : s.heeds m = true) (hdown : s.fw.serving = false ∨ s.fw.halted = true) :
    s.fwMessage m = s.modAr fun a => { a with held := a.held ++ [m] } := by
  unfold State.fwMessage
  rw [h]
  rcases hdown with hd | hd <;> rw [hd] <;> simp

end

theorem memberAt_map {l : List Member} {addr : Nat} {g : Member → Member} (hg : ∀ x, (g x).addr = x.addr) :
    memberAt (l.map fun x => if x.addr = addr then g x else x) addr = (memberAt l addr).map g := by
  unfold memberAt
  induction l with
  | nil => rfl
  | cons x xs ih =>
    by_cases hx : x.addr = addr
    · simp [hx, hg]
    · simp only [List.map_cons, if_neg hx, List.find?_cons, beq_eq_false_iff_ne.mpr hx]
      exact ih

section
variable {s : State} {addr ex delay : Nat} {health : ModuleReport} {al : Bool}

/-- STATUS brings the manager's entry up to date, and W with it. -/
theorem takeStatus_manager (hrole : s.ar.role = 1) : ∃ w, Quiet (s.modAr fun a => { a with w := w, members := a.members.map fun x =>
    if x.addr = addr then { x with health := health.level, export_ := ex != 0, aligned := al, delay := delay } else x })
    (s.takeStatus addr health ex al delay) := by
  unfold State.takeStatus
  rw [if_pos hrole]
  extract_lets was s1
  split
  · exact ⟨s.ar.w, .refl _⟩
  · exact ⟨_, recomputeW_quiet s1⟩

end

/-! Epochs (16 R398). -/

section
variable {s : State} {b kind : Nat} {d : Int}

theorem takeEpoch_ignored (h : s.isMember = false) : s.takeEpoch b d kind = s := by
  unfold State.takeEpoch
  rw [h]
  rfl

theorem takeEpoch_kept (h : s.isMember = true) (hb : s.ticks ≤ b) : s.takeEpoch b d kind =
    (s.forward 0x02 [b, encInt 64 d, kind]).modAr fun a => { a with epochs := a.epochs ++ [⟨b, d, kind, none⟩] } := by
  unfold State.takeEpoch
  rw [h]
  exact if_pos hb

theorem takeEpoch_late (h : s.isMember = true) (hb : b < s.ticks) : s.takeEpoch b d 0 =
    ((s.forward 0x02 [b, encInt 64 d, 0]).doStep (s.forward 0x02 [b, encInt 64 d, 0]).boundary d).arEvent 0x0E0A sevWarning s.ar.addr
      0xFF 0 b := by
  simp only [State.takeEpoch, h, Bool.not_true, Bool.false_eq_true, if_false, if_neg (Nat.not_le.mpr hb), if_true]

end

theorem applyQualAt_off (s : State) (b : Nat) (stepped : Bool) : (s.applyQualAt b stepped).tm.off = s.tm.off := by
  unfold State.applyQualAt State.setQualAt
  dsimp only
  split <;> split <;> rfl

/-- A step moves module time and leaves the array link (06 R159). -/
theorem doStep_off (s : State) (b : Nat) (d : Int) : (s.doStep b d).tm.off = s.tm.off + d ∧ (s.doStep b d).ar = s.ar := by
  unfold State.doStep
  split
  · next h => rw [h]; exact ⟨(Int.add_zero _).symm, rfl⟩
  · extract_lets s1 s2
    obtain ⟨hcross, htm, -⟩ := timersCross_timing (s2.stepDone b d) b
    have hq := logEvAt_quiet ((s2.stepDone b d).timersCross b) b 0x0404 sevNotice 0 (s2.ckData 0 d)
    have har1 : s1.ar = s.ar := (OnlyTiming.refl.applyQualAt (s := s.shiftTime b d)).ar
    exact ⟨(congrArg Time.off (hq.units.tm.trans htm)).trans (applyQualAt_off (s.shiftTime b d) b true), (hq.ar.trans hcross.ar).trans har1⟩

/-! The obligation, row by row. -/

section
variable {s : State} {t : Nat}

theorem exec_portUp {p : Fin 3} {peer : Nat} {sb : Bool} (hport : s.ar.ports[p] = false) (hclock : s.clockStopped = false)
    (hpw : s.pw.st ≤ 1) (hdom : s.domOn (192 + p.val) = true) : Leads (exec (.portUp t p peer sb) s) (fun u =>
      u.ar.ports = s.ar.ports.set p.val true ∧ u.ar.peers[p] = peer ∧ u.ar.lastTime[p] = max s.clk t ∧ u.ar.role = s.ar.role
        ∧ SameUnits s u ∧ SameSettings s u) := by
  obtain ⟨hports, hpeers, htimes, hrole, hunits, hset⟩ := portUp_raises (s := s.reach t) (peer := peer) (sb := sb) hport hclock hpw hdom
  refine ⟨_, rfl, hports, ?_, ?_, hrole, hunits, hset⟩
  · rw [hpeers]; exact Vector.getElem_set_self _
  · rw [htimes]; exact Vector.getElem_set_self _

section
variable {alive : Bool} {route : Option (Nat × Nat)}

theorem exec_portDown_alone {p : Fin 3} (hport : s.ar.ports[p] = true) (hrole : s.ar.role = 0) :
    Leads (exec (.portDown t p true alive route) s) (fun u =>
      u.ar.ports = s.ar.ports.set p.val false ∧ u.ar.role = 0 ∧ SameUnits s u ∧ SameSettings s u) :=
  ⟨_, congrArg go ((portDown_falls (s := s.reach t) hport).trans (if_pos (.inl hrole))), rfl, hrole, .refl s, rfl, rfl, rfl, rfl, rfl⟩

variable (hport : s.ar.ports[(0 : Fin 3)] = true) (hvia : s.ar.viaSb = false) (hpause : s.ar.paused[(0 : Fin 3)] = none)
  (hst : s.ar.astate ≠ 3)
include hport hvia hpause hst

theorem exec_portDown_deputy (hrole : s.ar.role = 2) : Leads (exec (.portDown t 0 true alive route) s) (fun u =>
    u.ar.ports[(0 : Fin 3)] = false ∧ u.ar.takeWait = some (max s.clk t, alive) ∧ u.ar.exchanges = 0 ∧ u.ar.aligned = false
      ∧ u.ar.role = 2) := by
  have hdown := (portDown_upstream (s := s.reach t) (alive := alive) (route := route) hport (.inl hrole) hvia hpause hst).trans
    (loseUpstream_deputy hrole)
  have hsame := (SameArray.refl (s := (s.reach t).portFallen 0)).loseUp.unalign
  refine ⟨_, congrArg go hdown, ?_, rfl, (congrArg ArrayLink.exchanges hsame.ar :), (congrArg ArrayLink.aligned hsame.ar :),
    (congrArg ArrayLink.role hsame.ar :).trans hrole⟩
  have hports : ((s.reach t).portFallen 0).loseUp.unalign.ar.ports = s.ar.ports.set 0 false := (congrArg ArrayLink.ports hsame.ar :)
  exact (congrArg (fun v : Vector Bool 3 => v[(0 : Fin 3)]) hports).trans (Vector.getElem_set_self _)

theorem exec_portDown_worker (hrole : s.ar.role = 3) (hsb : s.sbUp = false) : Leads (exec (.portDown t 0 true alive route) s) (fun u =>
    u.ar.ports[(0 : Fin 3)] = false ∧ u.ar.astate = 3 ∧ u.ar.aligned = false ∧ u.ar.addr = s.ar.addr) := by
  have hne : ((s.reach t).portFallen 0).ar.role ≠ 2 := by
    show s.ar.role ≠ 2
    omega
  have hdown := (portDown_upstream (s := s.reach t) (alive := alive) (route := route) hport (.inr hrole) hvia hpause hst).trans
    (loseUpstream_orphan hne hvia (sbUp_portFallen (s := s.reach t) hsb))
  have hsame := orphan_same ((s.reach t).portFallen 0)
  refine ⟨_, congrArg go hdown, ?_, (congrArg ArrayLink.astate hsame.ar :), (congrArg ArrayLink.aligned hsame.ar :),
    (congrArg ArrayLink.addr hsame.ar :)⟩
  have hports : ((s.reach t).portFallen 0).orphan.ar.ports = s.ar.ports.set 0 false := (congrArg ArrayLink.ports hsame.ar :)
  exact (congrArg (fun v : Vector Bool 3 => v[(0 : Fin 3)]) hports).trans (Vector.getElem_set_self _)

end

section
variable {p : Fin 3} {alive : Bool} {route : Option (Nat × Nat)}

theorem pauseExpire_none (h : s.ar.paused[p] = none) : s.pauseExpire p alive route = s := by
  unfold State.pauseExpire
  rw [h]
  rfl

theorem pauseExpire_alone {x : Nat} (h : s.ar.paused[p] = some x) (hx : x + 300000000 ≤ s.clk) (hport : s.ar.ports[p] = false)
    (hrole : s.ar.role = 0) : s.pauseExpire p alive route = s.modAr fun a => { a with paused := a.paused.set p.val none } := by
  have hdue : (s.ar.paused[p].any fun x => decide (x + 300000000 ≤ s.clk)) = true := by
    rw [h, Option.any_some]
    exact decide_eq_true hx
  unfold State.pauseExpire
  rw [hdue, hport]
  exact if_pos (Or.inl hrole)

end

theorem exec_reroute {level hops : Nat} (h : s.isMember = true ∧ s.ar.astate = 3 ∧ s.sbUp = true ∧ s.ar.viaSb = false ∧ level ≤ 8 ∧ hops ≤ 32) :
    Leads (exec (.reroute t level hops) s) (fun u => u.ar.astate = 2 ∧ u.ar.viaSb = true ∧ u.ar.level = level ∧ u.ar.hops = hops
      ∧ u.ar.exchanges = 0 ∧ u.ar.aligned = false ∧ u.ar.role = s.ar.role) := by
  obtain ⟨d, hsame⟩ := takeRoute_same (s.reach t) level hops
  have hdo : (s.reach t).reroute level hops = (s.reach t).takeRoute level hops := if_pos h
  exact ⟨_, congrArg go hdo, (congrArg ArrayLink.astate hsame.ar :), (congrArg ArrayLink.viaSb hsame.ar :),
    (congrArg ArrayLink.level hsame.ar :), (congrArg ArrayLink.hops hsame.ar :), (congrArg ArrayLink.exchanges hsame.ar :),
    (congrArg ArrayLink.aligned hsame.ar :), (congrArg ArrayLink.role hsame.ar :)⟩

section
variable {e : Int} {table : Option (List Member)} {asym : Option (List (Nat × Int))}

theorem exec_takeoverWait {a : Nat} (h : s.ar.takeWait = some (a, false)) (hclk : a + 3000000 ≤ max s.clk t) (hrole : s.ar.role = 2) :
    Leads (exec (.takeoverWaitExpiry t e table asym) s) (fun u => u.ar.role = 1 ∧ u.ar.astate = 2 ∧ u.ar.addr = s.ar.addr
      ∧ u.ar.mgr = s.ar.addr ∧ u.ar.takeWait = none ∧ u.ar.takeovers = wrapAdd 32 s.ar.takeovers 1) := by
  have hseat := takeoverNow_seat (s := s.reach t) (e := e) (table := table) (asym := asym) h hclk hrole
  simp only [ArrayLink.seat, Prod.mk.injEq] at hseat
  exact ⟨_, rfl, hseat⟩

theorem takeTakeover_other {mgr level hops : Nat} (h : s.isMember = true) (hne : mgr ≠ s.ar.addr) : s.takeTakeover mgr level hops e table asym =
    ((s.modAr fun a => { a with mgr := mgr, deputy := 65535, level := level, hops := hops }).unalign).sendN 0x0D 0xFFFF [mgr] := by
  unfold State.takeTakeover
  rw [h]
  exact if_neg hne

theorem exec_takeover {mgr level hops : Nat} (h : s.isMember = true) (hne : mgr ≠ s.ar.addr) :
    Leads (exec (.takeover t mgr level hops e table asym) s) (fun u => u.ar.mgr = mgr ∧ u.ar.deputy = 65535 ∧ u.ar.level = level
      ∧ u.ar.hops = hops ∧ u.ar.role = s.ar.role ∧ u.ar.aligned = false) := by
  have hsame := ((SameArray.refl (s := (s.reach t).modAr fun a => { a with
    mgr := mgr, deputy := 65535, level := level, hops := hops })).unalign).sendN (mtype := 0x0D) (addr := 0xFFFF) (args := [mgr])
  exact ⟨_, congrArg go (takeTakeover_other (s := s.reach t) h hne), (congrArg ArrayLink.mgr hsame.ar :), (congrArg ArrayLink.deputy hsame.ar :), (congrArg ArrayLink.level hsame.ar :),
    (congrArg ArrayLink.hops hsame.ar :), (congrArg ArrayLink.role hsame.ar :), (congrArg ArrayLink.aligned hsame.ar :)⟩

end

section
variable {p : Fin 3} {m : TimeMsg} (hport : s.ar.ports[p] = true) (hfree : s.linkBusy p ≤ max s.clk t)
include hport hfree

theorem exec_timeExchange : Leads (exec (.timeExchange t p) s) (fun u => SameUnits s u ∧ SameSettings s u
    ∧ u.ar.tx = (s.reach t).timeMsg p :: s.ar.tx
    ∧ (∃ w ∈ u.ar.wire, w.port = p.val ∧ w.seq = s.ar.seq ∧ w.msg = (s.reach t).timeMsg p)
    ∧ { u.ar with tx := [], seq := 0, wire := [] } = { s.ar with tx := [], seq := 0, wire := [] }) :=
  ⟨_, congrArg go (sendTime_sends (s := s.reach t) hport hfree), .refl s, ⟨rfl, rfl, rfl, rfl, rfl⟩, rfl, sendWire_mem _ _ _, rfl⟩

theorem exec_time_upstream (hup : s.isUpstream p = true) : Leads (exec (.time t p m) s) (fun u => u.ar.theta = thetaOf (s.linkConst p) m
    ∧ u.ar.delay = delayOf (s.linkConst p) m ∧ u.ar.exchanges = min 16 (s.ar.exchanges + 1) ∧ u.ar.lastTime[p] = max s.clk t
    ∧ u.ar.level = m.level ∧ u.ar.hops = m.hops ∧ u.ar.upQual = m.qual) := by
  have htake := (takeTime_takes (s := s.reach t) (m := m) hport hfree).trans (if_pos hup)
  obtain ⟨rms, f, b, hsame⟩ := upstreamTime_same ((s.reach t).timed p m) (s.linkConst p) m
  have htimes : (((s.reach t).timed p m).upstreamTime (s.linkConst p) m).ar.lastTime = s.ar.lastTime.set p.val (max s.clk t) :=
    (congrArg ArrayLink.lastTime hsame.ar :)
  refine ⟨_, congrArg go htake, (congrArg ArrayLink.theta hsame.ar :), (congrArg ArrayLink.delay hsame.ar :),
    (congrArg ArrayLink.exchanges hsame.ar :), ?_, (congrArg ArrayLink.level hsame.ar :), (congrArg ArrayLink.hops hsame.ar :),
    (congrArg ArrayLink.upQual hsame.ar :)⟩
  exact (congrArg (fun v : Vector Nat 3 => v[p]) htimes).trans (Vector.getElem_set_self _)

end

section
variable {addr delay ex : Nat} {health : ModuleReport} {al : Bool} (hserve : s.fw.serving = true) (hhalt : s.fw.halted = false)
include hserve hhalt

theorem exec_statusReport (hmem : s.isMember = true) : Leads (exec (.statusReport t) s) (fun u => SameUnits s u ∧ SameSettings s u
    ∧ ⟨max s.clk t, 0x0C, s.ar.addr, [s.ar.addr, (s.reach t).moduleLevel, flag s.log.due, s.mkey 0x0E05]⟩ ∈ u.ar.tx) := by
  have hdo : (s.reach t).fwMessage .report = (s.reach t).sendN 0x0C s.ar.addr
      [s.ar.addr, (s.reach t).moduleLevel, flag s.log.due, s.mkey 0x0E05] :=
    (fwMessage_served (s := s.reach t) (m := .report) hmem hserve hhalt).trans (if_pos hmem)
  exact ⟨_, congrArg go hdo, .refl s, ⟨rfl, rfl, rfl, rfl, rfl⟩, List.mem_cons_self⟩

theorem exec_status {x : Member} (hrole : s.ar.role = 1) (hx : memberAt s.ar.members addr = some x) :
    Leads (exec (.status t addr health ex al delay) s) (fun u =>
      memberAt u.ar.members addr = some { x with health := health.level, export_ := ex != 0, aligned := al, delay := delay }
        ∧ SameUnits s u ∧ SameSettings s u) := by
  obtain ⟨w, hq⟩ := takeStatus_manager (s := s.reach t) (addr := addr) (ex := ex) (delay := delay) (health := health) (al := al) hrole
  have hheed : (s.reach t).heeds (.status addr health ex al delay) = true := by
    show (s.ar.role != 0) = true
    rw [hrole]
    rfl
  refine ⟨_, congrArg go (fwMessage_served hheed hserve hhalt), ?_, hq.units, hq.settings⟩
  show memberAt ((s.reach t).takeStatus addr health ex al delay).ar.members addr = _
  rw [hq.ar]
  exact (memberAt_map (g := fun x => { x with health := health.level, export_ := ex != 0, aligned := al, delay := delay })
    fun _ => rfl).trans (congrArg _ hx)

end

section
variable {b kind : Nat} {d : Int} (hmem : s.isMember = true)
include hmem

theorem exec_epoch_kept (hb : (s.reach t).ticks ≤ b) : Leads (exec (.epoch t b d kind) s) (fun u =>
    u.ar.epochs = s.ar.epochs ++ [⟨b, d, kind, none⟩] ∧ SameUnits s u ∧ SameSettings s u) := by
  obtain ⟨harray, hunits, hset⟩ := (Traffic.refl (s := s.reach t)).forward (mtype := 0x02) (args := [b, encInt 64 d, kind])
  refine ⟨_, congrArg go (takeEpoch_kept (s := s.reach t) hmem hb), ?_, hunits, hset⟩
  exact congrArg (· ++ [⟨b, d, kind, none⟩]) (congrArg ArrayLink.epochs harray.ar :)

theorem exec_epoch_late (hb : b < (s.reach t).ticks) : Leads (exec (.epoch t b d 0) s) (fun u =>
    u.tm.off = s.tm.off + d ∧ u.ar.epochs = s.ar.epochs) := by
  obtain ⟨harray, hunits, -⟩ := (Traffic.refl (s := s.reach t)).forward (mtype := 0x02) (args := [b, encInt 64 d, 0])
  have hstep := doStep_off ((s.reach t).forward 0x02 [b, encInt 64 d, 0]) ((s.reach t).forward 0x02 [b, encInt 64 d, 0]).boundary d
  obtain ⟨hoff, har⟩ := hstep
  refine ⟨_, congrArg go (takeEpoch_late (s := s.reach t) hmem hb), ?_⟩
  generalize ((s.reach t).forward 0x02 [b, encInt 64 d, 0]).doStep ((s.reach t).forward 0x02 [b, encInt 64 d, 0]).boundary d = x at hoff har
  have hq := logEv_quiet x 0x0E0A sevWarning 0x20 (arData s.ar.addr 0xFF 0 b)
  refine ⟨(congrArg Time.off hq.units.tm).trans (hoff.trans ?_), (congrArg ArrayLink.epochs (hq.ar.trans har)).trans ?_⟩
  · rw [hunits.tm]; rfl
  · exact (congrArg ArrayLink.epochs harray.ar :)

end

end

/-- Settles O47: each row's change of the array link, and what its messages, its event and the clock family leave of it. -/
theorem arrayPortsAndTime : Obligations.ArrayPortsAndTime := by
  refine ⟨fun s t peer p sb => ⟨fun h => ?_, fun hport hclock hpw hdom => ?_⟩, fun s t p lock alive route => ?_, fun s t level hops => ?_,
    fun s t a e table asym h => ?_, fun s t mgr level hops e table asym => ?_, fun s t p m => ?_, fun s t addr delay ex health al => ?_,
    fun s t b kind d => ?_⟩
  · exact congrArg go (portUp_stays (s := s.reach t) h)
  · exact exec_portUp hport hclock hpw hdom
  · refine ⟨fun h => congrArg go (portDown_stays (s := s.reach t) h), fun hport hrole => exec_portDown_alone hport hrole,
      fun hport hvia hpause hst => ⟨fun hrole => exec_portDown_deputy hport hvia hpause hst hrole,
        fun hrole hsb => exec_portDown_worker hport hvia hpause hst hrole hsb⟩,
      fun h => congrArg go (pauseExpire_none (s := s.reach t) h),
      fun x hx hclk hport hrole => congrArg go (pauseExpire_alone (s := s.reach t) hx hclk hport hrole), rfl,
      fun h => congrArg go (if_pos h), fun h => congrArg go (if_neg ?_)⟩
    rw [Bool.not_eq_true]
    exact h
  · refine ⟨fun hmem hst hsb hvia hlevel hhops => exec_reroute ⟨hmem, hst, hsb, hvia, hlevel, hhops⟩, fun h => congrArg go (if_neg ?_)⟩
    rintro ⟨-, hst, -⟩
    exact h hst
  · exact ⟨fun hclk => congrArg go (takeoverNow_waits (s := s.reach t) h hclk), fun hclk hrole => exec_takeoverWait h hclk hrole⟩
  · refine ⟨fun h => congrArg go (if_pos ?_), fun h hne => exec_takeover h hne⟩
    rw [Bool.not_eq_true']
    exact h
  · refine ⟨fun h => ⟨congrArg go (sendTime_stays (s := s.reach t) (.inl h)), congrArg go (takeTime_stays (s := s.reach t) (.inl h))⟩,
      fun hport hfree => exec_timeExchange hport hfree,
      fun _ hbusy => ⟨congrArg go (sendTime_stays (s := s.reach t) (.inr hbusy)), congrArg go (takeTime_stays (s := s.reach t) (.inr hbusy))⟩,
      fun hport hfree hup => ?_, fun hport hfree hup => exec_time_upstream hport hfree hup⟩
    refine congrArg go ((takeTime_takes (s := s.reach t) hport hfree).trans (if_neg ?_))
    rw [Bool.not_eq_true]
    exact hup
  · refine ⟨fun hmem hserve hhalt => exec_statusReport hserve hhalt hmem, fun h => congrArg go (fwMessage_ignored (s := s.reach t) h),
      fun x hrole hserve hhalt hx => exec_status hserve hhalt hrole hx,
      fun hrole hdown => congrArg go (fwMessage_waits (s := s.reach t) (bne_iff_ne.mpr hrole) hdown),
      fun hrole => congrArg go (fwMessage_ignored (s := s.reach t) ?_)⟩
    show (s.ar.role != 0) = false
    rw [hrole]
    rfl
  · refine ⟨fun h => congrArg go (takeEpoch_ignored (s := s.reach t) h), fun hmem hb => exec_epoch_kept hmem hb, fun hmem hb hkind => ?_⟩
    rw [hkind]
    exact exec_epoch_late hmem hb

end Sys2Proof.Machine
end

section
/-!
SUPPORT. What events, answers, domains and towers leave of settings, power, firmware and time: the upkeep of units writes state and
activity of the power controller and no more (17 R420, R421).
-/

namespace Sys2Proof.Machine

/-- The power controller without its state and its activity. -/
def Power.fixed (p : Power) : Power := { p with st := 0, prev := 0, idleAt := 0, core := false, onMap := 0#196 }

/-- Settings, firmware and the offset of time stand; power but for its state and activity; and RUN stays RUN. -/
structure Retains (s u : State) : Prop where
  values : (u.mr.stage, u.mr.recorded, u.mr.armed, u.mr.gen) = (s.mr.stage, s.mr.recorded, s.mr.armed, s.mr.gen)
  fixed : u.pw.fixed = s.pw.fixed
  run : s.pw.st = 0 → u.pw.st = 0 ∧ u.pw.prev = s.pw.prev
  fw : u.fw = s.fw
  off : u.tm.off = s.tm.off

namespace Retains
variable {s u v : State}

theorem refl : Retains s s := ⟨rfl, rfl, fun h => ⟨h, rfl⟩, rfl, rfl⟩

theorem trans (h : Retains s u) (k : Retains u v) : Retains s v where
  values := k.values.trans h.values
  fixed := k.fixed.trans h.fixed
  run hs := ⟨(k.run (h.run hs).1).1, (k.run (h.run hs).1).2.trans (h.run hs).2⟩
  fw := k.fw.trans h.fw
  off := k.off.trans h.off

theorem recorded (h : Retains s u) : u.mr.recorded = s.mr.recorded := (congrArg (·.2.1) h.values :)

theorem armed (h : Retains s u) : u.mr.armed = s.mr.armed := (congrArg (·.2.2.1) h.values :)

/-- Nothing of the kind differs. -/
theorem keep (h : Retains s u) (hmr : v.mr.stage = u.mr.stage ∧ v.mr.recorded = u.mr.recorded ∧ v.mr.armed = u.mr.armed ∧ v.mr.gen = u.mr.gen)
    (hpw : v.pw = u.pw) (hfw : v.fw = u.fw) (hoff : v.tm.off = u.tm.off) : Retains s v := by
  refine h.trans ⟨?_, by rw [hpw], fun hs => ⟨by rw [hpw]; exact hs, by rw [hpw]⟩, hfw, hoff⟩
  rw [hmr.1, hmr.2.1, hmr.2.2.1, hmr.2.2.2]

theorem idleAt {n : Nat} (h : Retains s u) : Retains s (u.modPw fun p => { p with idleAt := n }) :=
  h.trans ⟨rfl, rfl, fun hs => ⟨hs, rfl⟩, rfl, rfl⟩

theorem coreWake (s : State) : Retains s s.coreWake := by
  by_cases hs : s.pw.st = 0
  · rw [coreWake_run hs]; exact refl
  · unfold State.coreWake
    split
    · exact ⟨rfl, rfl, fun h => absurd h hs, rfl, rfl⟩
    · split
      · exact ⟨rfl, rfl, fun h => absurd h hs, rfl, rfl⟩
      · exact refl

theorem notify (s : State) (sev : Nat) : Retains s (s.notify sev) := by
  have hq := notify_quiet s sev
  exact refl.keep (by rw [hq.mr]; exact ⟨rfl, rfl, rfl, rfl⟩) (notify_pw s sev) hq.units.fw (congrArg Time.off hq.units.tm)

theorem record (s : State) (e : Event) : Retains s (s.record e) := refl.keep ⟨rfl, rfl, rfl, rfl⟩ rfl rfl rfl

theorem logEntry {e : Event} (h : Retains s u) : Retains s (u.logEntry e) := by
  refine h.trans ?_
  unfold State.logEntry
  split
  · exact ((record u _).trans (notify _ _)).trans (coreWake _)
  · exact refl.keep ⟨rfl, rfl, rfl, rfl⟩ rfl rfl rfl

theorem logEv {code sev scope : Nat} {data : List Byte} (h : Retains s u) : Retains s (u.logEv code sev scope data) := .logEntry h

theorem ite {c : Prop} {i : Decidable c} (hu : Retains s u) (hv : Retains s v) : Retains s (if c then u else v) := by
  split
  · exact hu
  · exact hv

/-! Answers (02 R41, R47). -/

theorem msix {n : Nat} (h : Retains s u) : Retains s (u.msix n) := by
  have hq := msix_quiet u n
  exact h.keep (by rw [hq.mr]; exact ⟨rfl, rfl, rfl, rfl⟩) (msix_pw u n) hq.units.fw (congrArg Time.off hq.units.tm)

theorem sendN {mtype addr : Nat} {args : List Nat} (h : Retains s u) : Retains s (u.sendN mtype addr args) :=
  h.keep ⟨rfl, rfl, rfl, rfl⟩ rfl rfl rfl

theorem sendParts {addr n : Nat} {bs : List Byte} (h : Retains s u) : Retains s (u.sendParts addr n bs) := by
  induction n generalizing u bs with
  | zero => exact .sendN h
  | succ n ih =>
    unfold State.sendParts
    exact .ite (.sendN h) (ih (.sendN h))

theorem modMb {m : Fin 17} {g : Mailbox → Mailbox} (h : Retains s u) : Retains s (u.modMb m g) := h.keep ⟨rfl, rfl, rfl, rfl⟩ rfl rfl rfl

theorem respond {r : Req} {a : Reply} {c : Nat} (h : Retains s u) : Retains s (u.respond r a c) := by
  unfold State.respond
  extract_lets _ _ s1 _ s2 s3
  have h3 : Retains s s3 := .idleAt (.modMb (.ite (.logEv h) h))
  exact .ite (.sendParts h3) (.ite (.msix h3) h3)

theorem reach {t : Nat} (h : Retains s u) : Retains s (u.reach t) := h.keep ⟨rfl, rfl, rfl, rfl⟩ rfl rfl rfl

theorem timeoutEnd {r : Req} {e : Nat} (h : Retains s u) : Retains s (u.timeoutEnd r e) := .respond (.logEv (.reach h))

theorem finish {a : Reply} {c : Nat} (h : Retains s u) : Retains s (u.finish a c) := by
  unfold State.finish
  split
  · exact h
  · dsimp only
    have h1 : Retains s (u.modMr fun m => { m with exec := none }) := h.keep ⟨rfl, rfl, rfl, rfl⟩ rfl rfl rfl
    split
    · exact h.keep ⟨rfl, rfl, rfl, rfl⟩ rfl rfl rfl
    · split
      · exact .timeoutEnd h1
      · exact .respond h1

end Retains

/-- Beside that, no command under execution begins, and none ends without one: with none, time and mailboxes stand. -/
structure Upkeep (s u : State) : Prop extends Retains s u where
  idle : s.mr.exec = none → u.mr.exec = none ∧ u.clk = s.clk ∧ u.mr.mbs = s.mr.mbs

namespace Upkeep
variable {s u v : State}

theorem refl : Upkeep s s := ⟨.refl, fun h => ⟨h, rfl, rfl⟩⟩

theorem trans (h : Upkeep s u) (k : Upkeep u v) : Upkeep s v where
  toRetains := h.toRetains.trans k.toRetains
  idle hs := by
    obtain ⟨hx, hclk, hmbs⟩ := h.idle hs
    obtain ⟨kx, kclk, kmbs⟩ := k.idle hx
    exact ⟨kx, kclk.trans hclk, kmbs.trans hmbs⟩

/-- Nothing of the kind differs. -/
theorem keep (h : Upkeep s u) (hmr : v.mr = u.mr) (hpw : v.pw = u.pw) (hfw : v.fw = u.fw) (hoff : v.tm.off = u.tm.off)
    (hclk : v.clk = u.clk) : Upkeep s v :=
  ⟨h.toRetains.keep (by rw [hmr]; exact ⟨rfl, rfl, rfl, rfl⟩) hpw hfw hoff, by rw [hmr, hclk]; exact h.idle⟩

theorem ite {c : Prop} {i : Decidable c} (hu : Upkeep s u) (hv : Upkeep s v) : Upkeep s (if c then u else v) := by
  split
  · exact hu
  · exact hv

theorem elim {α : Type} {o : Option α} {f : α → State} (h : Upkeep s u) (hf : ∀ {x}, Upkeep s (f x)) : Upkeep s (o.elim u f) := by
  cases o with
  | none => exact h
  | some x => exact hf

theorem foldl {α : Type} {f : State → α → State} (hf : ∀ {a x}, Upkeep s a → Upkeep s (f a x)) {l : List α} (h : Upkeep s u) :
    Upkeep s (l.foldl f u) := by
  induction l generalizing u with
  | nil => exact h
  | cons x xs ih => exact ih (hf h)

/-! Units written as a whole. -/

theorem modLog {g : EvLog → EvLog} (h : Upkeep s u) : Upkeep s (u.modLog g) := h.keep rfl rfl rfl rfl rfl
theorem modFe {i : Fin 4} {g : FrontEnd → FrontEnd} (h : Upkeep s u) : Upkeep s (u.modFe i g) := h.keep rfl rfl rfl rfl rfl
theorem modTw {k : Fin 4} {g : Tower → Tower} (h : Upkeep s u) : Upkeep s (u.modTw k g) := h.keep rfl rfl rfl rfl rfl
theorem modCal {g : Cal → Cal} (h : Upkeep s u) : Upkeep s (u.modCal g) := h.keep rfl rfl rfl rfl rfl
theorem modCk {g : Clock → Clock} (h : Upkeep s u) : Upkeep s (u.modCk g) := h.keep rfl rfl rfl rfl rfl
theorem modTr {g : Trellis → Trellis} (h : Upkeep s u) : Upkeep s (u.modTr g) := h.keep rfl rfl rfl rfl rfl
theorem modMem {g : MemCtl → MemCtl} (h : Upkeep s u) : Upkeep s (u.modMem g) := h.keep rfl rfl rfl rfl rfl
theorem modHl {g : HostLink → HostLink} (h : Upkeep s u) : Upkeep s (u.modHl g) := h.keep rfl rfl rfl rfl rfl
theorem modHv {g : Harvest → Harvest} (h : Upkeep s u) : Upkeep s (u.modHv g) := h.keep rfl rfl rfl rfl rfl
theorem modAr {g : ArrayLink → ArrayLink} (h : Upkeep s u) : Upkeep s (u.modAr g) := h.keep rfl rfl rfl rfl rfl
theorem modMon {g : Monitor → Monitor} (h : Upkeep s u) : Upkeep s (u.modMon g) := h.keep rfl rfl rfl rfl rfl
theorem modCh {c : Fin 4} {g : Chan → Chan} (h : Upkeep s u) : Upkeep s (u.modCh c g) := h.keep rfl rfl rfl rfl rfl
theorem modSlice {k : Fin 4} {x : Fin 33} {g : Slice → Slice} (h : Upkeep s u) : Upkeep s (u.modSlice k x g) := .modTw h

theorem idleAt {n : Nat} (h : Upkeep s u) : Upkeep s (u.modPw fun p => { p with idleAt := n }) := ⟨.idleAt h.toRetains, h.idle⟩

theorem onMap {m : BitVec 196} (h : Upkeep s u) : Upkeep s (u.modPw fun p => { p with onMap := m }) :=
  h.trans ⟨⟨rfl, rfl, fun hs => ⟨hs, rfl⟩, rfl, rfl⟩, fun hx => ⟨hx, rfl, rfl⟩⟩

theorem modWork {g : List Work → List Work} (h : Upkeep s u) : Upkeep s (u.modMr fun m => { m with work := g m.work }) :=
  ⟨h.toRetains.keep ⟨rfl, rfl, rfl, rfl⟩ rfl rfl rfl, h.idle⟩

/-! Events and answers. -/

theorem logEv {code sev scope : Nat} {data : List Byte} (h : Upkeep s u) : Upkeep s (u.logEv code sev scope data) := by
  have hq := logEv_quiet u code sev scope data
  exact ⟨.logEv h.toRetains, by rw [hq.mr, hq.clk]; exact h.idle⟩

theorem endWorkIf {p : Work → Bool} {status detail : Nat} (h : Upkeep s u) : Upkeep s (u.endWorkIf p status detail) := by
  unfold State.endWorkIf
  split
  · exact h
  · exact .idleAt (.logEv (.modWork h))

theorem endWork {code status detail : Nat} (h : Upkeep s u) : Upkeep s (u.endWork code status detail) := .endWorkIf h

/-- An answer to the command under execution: where there is none, nothing happens. -/
theorem finish {a : Reply} {c : Nat} (h : Upkeep s u) : Upkeep s (u.finish a c) := by
  by_cases hx : u.mr.exec = none
  · rwa [finish_idle hx]
  · exact ⟨.finish h.toRetains, fun hs => absurd (h.idle hs).1 hx⟩

/-! Domains (17 R422). -/

theorem startTableAt {b : Nat} {on : Bool} (h : Upkeep s u) : Upkeep s (u.startTableAt b on) := by
  unfold State.startTableAt
  split
  · exact h
  · exact .logEv (.ite (.modMon h) (.modMon (.modMon h)))

theorem monCommit {b : Nat} {on : Bool} (h : Upkeep s u) : Upkeep s (u.monCommit b on) := .ite (.finish (.startTableAt h)) h
theorem dropLateTable {b : Nat} (h : Upkeep s u) : Upkeep s (u.dropLateTable b) := .ite (.finish (.modMon h)) h

theorem monOff (h : Upkeep s u) : Upkeep s u.monOff := by
  unfold State.monOff
  extract_lets s1 s2
  have h2 : Upkeep s s2 := .ite (.endWork (.modMon h)) (.modMon h)
  exact .monCommit (.dropLateTable (.ite (.endWork h2) h2))

theorem monDomain {was on : Bool} (h : Upkeep s u) : Upkeep s (u.monDomain was on) := .ite h (.ite (.modMon (.modMon h)) (.monOff h))
theorem syncRotation {k : Fin 4} (h : Upkeep s u) : Upkeep s (u.syncRotation k) := .ite (.ite h (.modTw h)) (.ite h (.modTw h))
theorem setDomains {m : BitVec 196} (h : Upkeep s u) : Upkeep s (u.setDomains m) :=
  .foldl .syncRotation (.foldl (fun h => .ite h (.modFe h)) (.monDomain (.onMap (.modAr h))))

theorem syncDomains (h : Upkeep s u) : Upkeep s u.syncDomains := .setDomains h

end Upkeep

end Sys2Proof.Machine
end

section
/-!
O48: array triggers, arms, relays and the calibration of links (16 R399 to R402, R407, R408).
-/

namespace Sys2Proof.Machine

/-! Array triggers (16 R401, R402). -/

section
variable {s : State} {origin fine : Nat} {c : Fin 4} {valid : Bool}

/-- The event of an assigned instant that can still be presented. -/
theorem niredEvent_early (h : s.clk ≤ fine / fineUnit + 384) : s.niredEvent fine valid =
    s.setEvq (s.evq ++ [⟨fine, 0x18, s.stampAt fine 3 valid, 0xF#4, s.cycleOf fine + 404, valid, fine⟩]) := if_pos h

/-- One that comes too late is counted, and an event may tell of it. -/
theorem niredEvent_late (h : fine / fineUnit + 384 < s.clk) :
    ∃ x, Quiet (s.modTm fun m => { m with niredLate := wrapAdd 32 m.niredLate 1, lateLog := x }) (s.niredEvent fine valid) := by
  unfold State.niredEvent
  rw [if_neg (Nat.not_le.mpr h)]
  extract_lets s1 due
  split
  · exact ⟨some s.clk, logEv_quiet _ _ _ _ _⟩
  · exact ⟨s.tm.lateLog, .refl _⟩

theorem niredEvent_ar (s : State) (fine : Nat) (valid : Bool) : (s.niredEvent fine valid).ar = s.ar := by
  rcases Nat.lt_or_ge (fine / fineUnit + 384) s.clk with h | h
  · obtain ⟨x, hq⟩ := niredEvent_late (valid := valid) h
    exact hq.ar
  · rw [niredEvent_early h]
    rfl

/-- Whether a point lies within 1,500 ticks of the last one. -/
theorem mergeTrig_near {p : Nat} (h : s.ar.lastP = some p) (hnear : ((fine : Int) - p).natAbs ≤ 1500 * fineUnit) :
    s.mergeTrig origin c fine valid = s.modAr fun a => { a with merged := wrapAdd 32 a.merged 1 } := by
  unfold State.mergeTrig
  rw [h]
  exact if_pos (decide_eq_true (by omega))

theorem mergeTrig_far (h : ∀ p, s.ar.lastP = some p → 1500 * fineUnit < ((fine : Int) - p).natAbs) :
    s.mergeTrig origin c fine valid = s.broadcastTrig origin c fine valid := by
  unfold State.mergeTrig
  cases hp : s.ar.lastP with
  | none => rfl
  | some p =>
    have hfar := h p hp
    exact if_neg (by rw [decide_eq_true_iff]; omega)

theorem broadcastTrig_ar : (s.broadcastTrig origin c fine valid).ar =
    ((s.modAr fun a => { a with lastP := some fine }).sendN 0x04 0xFFFF
      [origin, c.val, s.ticksAt (fine / fineUnit), fine % fineUnit, flag valid]).ar := niredEvent_ar _ _ _

end

/-! Array arming (16 R399, R400). -/

/-- The channels that follow are each there once. -/
theorem followSet_nodup (s : State) : s.followSet.Nodup := by
  have hsub (l cs : List (Fin 4)) :
      (cs.foldl (fun l c => if (s.armFail (l ++ [c])).isNone then l ++ [c] else l) l).Sublist (l ++ cs) := by
    induction cs generalizing l with
    | nil => simp
    | cons x xs ih =>
      refine (ih _).trans ?_
      beta_reduce
      split
      · simp
      · exact (List.sublist_cons_self x xs).append_left l
  exact (hsub [] _).nodup (List.Pairwise.filter _ (by decide : allCh.Nodup))

/-- ARMING that follows an array's ARM stands so while the channel is not touched. -/
theorem foldl_armChan_follow (follow : Bool) (sel : List (Fin 4)) (s : State) (hnd : sel.Nodup) :
    ∀ c ∈ sel, ((sel.foldl (fun a c => a.armChan follow c) s).ch[c]).follow = follow := by
  induction sel generalizing s with
  | nil => simp
  | cons x xs ih =>
    obtain ⟨hx, hxs⟩ := List.nodup_cons.1 hnd
    intro c hc
    by_cases h : c = x
    · subst h
      have hout := (foldl_armChan follow xs (s.armChan follow c) hxs).2.2 c hx
      have hcore := ((armChan_keepsChannels s follow c).untouched c).core
      refine (congrArg Chan.follow hout.core :).trans ((congrArg Chan.follow hcore :).trans ?_)
      exact congrArg Chan.follow (modCh_same _ c _)
    · exact ih (s.armChan follow x) hxs c ((List.mem_cons.1 hc).resolve_left h)

/-- Steps 1 and 2 of ARM in RUN, whatever command is under execution. -/
theorem armBegin_follows {s : State} (hrun : s.pw.st = 0) (follow : Bool) {sel : List (Fin 4)} (hnd : sel.Nodup) :
    ∀ c ∈ sel, Rearmed s (s.armBegin follow sel) c ∧ (s.armBegin follow sel).ch[c].follow = follow := by
  obtain ⟨hcmd, hin, -⟩ := foldl_armChan follow sel s hnd
  have hfollow := foldl_armChan_follow follow sel s hnd
  generalize hx : sel.foldl (fun a c => a.armChan follow c) s = x at hcmd hin hfollow
  have hbegin : s.armBegin follow sel = (x.syncUnits x.boundary (x.boundary * fineUnit)).syncDomains := by
    unfold State.armBegin
    rw [hx, leaveSleep_run (hcmd.run hrun), memRequest_run (hcmd.run hrun)]
  have hunits := syncUnits_keepsChannels x x.boundary (x.boundary * fineUnit)
  generalize x.syncUnits x.boundary (x.boundary * fineUnit) = y at hbegin hunits
  have hdom : ∀ c : Fin 4, Untouched x y.syncDomains c := fun c => (hunits.untouched c).trans
    ⟨by rw [(Upkeep.refl (s := y)).syncDomains.armed], by rw [SameUnits.ch (s := { y with fe := y.syncDomains.fe, tw := y.syncDomains.tw, mon := y.syncDomains.mon }) (OnlyDomains.syncDomains (.refl (s := y)))]⟩
  intro c hc
  rw [hbegin]
  exact ⟨(hin c hc).untouched (hdom c), (congrArg Chan.follow (hdom c).core :).trans (hfollow c hc)⟩

/-- A channel that follows the array is halted at the boundary, unless it stands (16 R400). -/
theorem disarmChan_halts {s : State} {q reason : Nat} {c : Fin 4} (hst : s.ch[c].st ≠ .stopped) (hfollow : s.ch[c].follow = true) :
    State.disarmChan q reason s c = s.orderHalt q reason 1 c := by
  unfold State.disarmChan
  split
  · exact if_pos hfollow
  · next h => exact absurd h hst
  · rfl

/-- What a stop of channels leaves: all but the channels of the list. -/
structure HaltsOnly (l : List (Fin 4)) (s u : State) : Prop where
  evq : u.evq = s.evq
  tr : u.tr = s.tr
  others : ∀ d ∉ l, u.ch[d] = s.ch[d]

theorem disarmChan_only (s : State) (q reason : Nat) (c : Fin 4) : HaltsOnly [c] s (State.disarmChan q reason s c) := by
  have hstay : HaltsOnly [c] s s := ⟨rfl, rfl, fun _ _ => rfl⟩
  have hhalt : HaltsOnly [c] s (s.orderHalt q reason 1 c) := ⟨rfl, rfl, fun d hd => modCh_other s _ (by simpa using hd)⟩
  unfold State.disarmChan
  split
  · split
    · exact hhalt
    · exact hstay
  · exact hstay
  · exact hhalt

theorem foldl_disarmChan (q reason : Nat) (l : List (Fin 4)) (s : State) : HaltsOnly l s (l.foldl (State.disarmChan q reason) s) := by
  induction l generalizing s with
  | nil => exact ⟨rfl, rfl, fun _ _ => rfl⟩
  | cons c cs ih =>
    have hfirst := disarmChan_only s q reason c
    have hrest := ih (State.disarmChan q reason s c)
    refine ⟨hrest.evq.trans hfirst.evq, hrest.tr.trans hfirst.tr, fun d hd => ?_⟩
    rw [List.mem_cons, not_or] at hd
    exact (hrest.others d hd.2).trans (hfirst.others d (by simpa using hd.1))

/-- A running channel of the list that follows and is not yet to stop is ordered to. -/
theorem foldl_disarmChan_orders {q reason : Nat} {l : List (Fin 4)} (hnd : l.Nodup) {s : State} {d : Fin 4} (hd : d ∈ l)
    (hst : s.ch[d].st ≠ .stopped) (hfollow : s.ch[d].follow = true) (hstop : s.ch[d].stopAt = none) :
    (l.foldl (State.disarmChan q reason) s).ch[d] = { s.ch[d] with stopAt := some ⟨q, reason, 1⟩ } := by
  induction l generalizing s with
  | nil => cases hd
  | cons c cs ih =>
    obtain ⟨hc, hcs⟩ := List.nodup_cons.1 hnd
    rcases List.mem_cons.mp hd with rfl | hmem
    · have hrest := (foldl_disarmChan q reason cs (State.disarmChan q reason s d)).others d hc
      refine hrest.trans ?_
      rw [disarmChan_halts hst hfollow]
      refine (modCh_same s d _).trans ?_
      rw [hstop]
      rfl
    · have hsame := (disarmChan_only s q reason c).others d (by rintro h; exact hc (List.mem_singleton.mp h ▸ hmem))
      rw [List.foldl_cons, ih hcs hmem (hsame ▸ hst) (hsame ▸ hfollow) (hsame ▸ hstop), hsame]

/-! Relays (16 R407). -/

/-- A response leaves the instant and the array link beside its traffic. -/
theorem SameArray.respond {s u : State} {r : Req} {a : Reply} {c : Nat} (h : SameArray s u) : SameArray s (u.respond r a c) := by
  have hparts (n : Nat) : ∀ {v : State} {bs : List Byte}, SameArray s v → SameArray s (v.sendParts u.ar.addr n bs) := by
    induction n with
    | zero => exact fun hv => .sendN hv
    | succ n ih =>
      intro v bs hv
      unfold State.sendParts
      exact .ite (.sendN hv) (ih (.sendN hv))
  unfold State.respond
  extract_lets _ _ s1 _ s2 s3
  have h3 : SameArray s s3 := .modPw (.modMr (.ite (.logEv h) h))
  exact .ite (hparts 1 h3) (.ite (h3.quiet (msix_quiet _ _)) h3)

section
variable {s : State} {addr : Nat} {bs : List Byte}

/-- RELAY_CMD for this module is posted in a free relay mailbox. -/
theorem takeRelay_posts {at_ : Nat} (hmem : s.isMember = true) (hfree : (s.mbox 16).state = .free ∨ (s.mbox 16).state = .done)
    (hmore : relayMore bs = false) : s.takeRelay at_ bs =
      ((s.modMb 16 fun x => { x with cmd := memWriteBytes [] 0 (bs.take 1016), rsp := [] }).post 16).modMb 16
        fun x => { x with doorbell := at_, doorTicks := s.ticksAt at_ } := by
  unfold State.takeRelay
  rw [hmem, hmore]
  rcases hfree with h | h <;> simp [h]

theorem takeRelayRsp_more {m : Fin 17} {taken : Nat} (hrole : s.ar.role = 1) (hx : s.mr.exec = some ⟨m, taken, .relay addr⟩) :
    s.takeRelayRsp addr ⟨bs, false⟩ = s.modAr fun a => { a with relayGot := (a.relayGot ++ bs).take 2048 } := by
  unfold State.takeRelayRsp
  simp [hrole, hx]
  rfl

theorem takeRelayRsp_last {m : Fin 17} {taken : Nat} (hrole : s.ar.role = 1) (hx : s.mr.exec = some ⟨m, taken, .relay addr⟩) :
    s.takeRelayRsp addr ⟨bs, true⟩ =
      (s.modAr fun a => { a with relayGot := [] }).finish ⟨stOk, (s.ar.relayGot ++ bs).take 2048, none, 0, 0⟩ s.clk := by
  unfold State.takeRelayRsp
  simp [hrole, hx]

/-- The last fragment ends the relaying command that its expiry tick has not passed. -/
theorem relayRsp_ends {m : Fin 17} {taken : Nat} {a : Reply} (hx : s.mr.exec = some ⟨m, taken, .relay addr⟩) (hhalt : s.fw.halted = false)
    (hlate : (s.reqOf m).expired s.clk = false) : (s.finish a s.clk).mr.exec = none ∧ Replied (s.finish a s.clk) m a.status a.payload
      ∧ SameUnits s (s.finish a s.clk) ∧ SameArray s (s.finish a s.clk) := by
  have hexec : s.execLate s.clk = false := by simpa [State.execLate, hx, Wait.commitAt, State.reqOf] using hlate
  obtain ⟨hnone, hreply, hunits⟩ := finish_timely hx hhalt hexec a
  refine ⟨hnone, hreply, hunits, ?_⟩
  unfold State.finish
  simp only [hx, hhalt, hexec, Bool.false_eq_true, if_false]
  exact .respond (.modMr .refl)

end

/-! Calibration of links (16 R408, R414). -/

section
variable {s : State} {r : Req} {bulk : Bulk}

/-- The payload of ARRAY_CALIBRATE_LINKS is within its ranges and refers to no table. -/
def CalForm (p : List Byte) : Prop := fieldAt p 0 1 ≤ 1 ∧ fieldAt p 1 1 = 0 ∧ fieldAt p 4 4 = 0 ∧ allZero (p.drop 8) = true

/-- The links that a calibration covers, by the addresses below them. -/
def State.calScope (s : State) (p : List Byte) : List Nat :=
  if fieldAt p 0 1 = 0 then (s.ar.members.filter fun x => x.mstate == 0 && x.port != 255).map (·.addr) else [fieldAt p 2 2]

theorem calLinksBody_alone (h : CalForm r.payload) (hrole : s.ar.role ≠ 1) : calLinksBody bulk r s = fails eState s := by
  obtain ⟨hscope, hres, hres2, hzero⟩ := h
  unfold calLinksBody
  simp only [hzero, if_true]
  rw [if_neg, if_pos hrole]
  rintro (h | h | h | ⟨h, -⟩ | h | ⟨-, h, -⟩)
  · omega
  · exact h hres
  · exact h hres2
  · cases h
  · cases h
  · exact hrole h

theorem calLinksBody_begins (h : CalForm r.payload) (hrole : s.ar.role = 1)
    (hlink : fieldAt r.payload 0 1 = 1 → s.ar.members.any (fun x => x.addr == fieldAt r.payload 2 2 && x.port != 255) = true)
    (hfree : s.working 0x0804 = false) (hroom : s.mr.work.length < 16) : calLinksBody bulk r s =
      accepted (((s.addWork r (fieldAt r.payload 0 1) (fieldAt r.payload 2 2)).modAr fun a => { a with
        asym := asymPut (asymOf []) a.asym, calNext := a.calNext ++ a.calNow.elim [] fun x => x.links.map (·.1) }).startCal
          (s.calScope r.payload) true) := by
  obtain ⟨hscope, hres, hres2, hzero⟩ := h
  have hfull : s.workFull = false := decide_eq_false (by omega)
  unfold calLinksBody
  simp only [hzero, if_true]
  rw [if_neg, if_neg (not_not.mpr hrole), hfree, hfull]
  · rfl
  · rintro (h | h | h | ⟨h, -⟩ | h | ⟨h1, -, h⟩)
    · omega
    · exact h hres
    · exact h hres2
    · cases h
    · cases h
    · rw [hlink h1] at h
      cases h

end

/-- The constants of links lie in the array link. -/
theorem setLinks_links (s : State) (l : List LinkEnd) : ∃ v, s.setLinks l = s.modAr fun a => { a with links := v } := by
  unfold State.setLinks
  induction l generalizing s with
  | nil => exact ⟨s.ar.links, rfl⟩
  | cons e es ih =>
    rw [List.foldl_cons]
    cases s.endPort e with
    | none => exact ih s
    | some p =>
      obtain ⟨v, hv⟩ := ih (s.modAr fun a => { a with
        links := a.links.set p.val (some (if a.role = 1 then { e.ends with a := (itemGet a.asym e.addr).getD 0 } else e.ends)) })
      exact ⟨v, hv⟩

/-- The first element that a filter keeps is the first where what is sought is kept. -/
theorem find?_filter_of_imp {α : Type} {p q : α → Bool} (h : ∀ x, p x = true → q x = true) (l : List α) :
    (l.filter q).find? p = l.find? p := by
  rw [List.find?_filter]
  refine congrArg (fun f => l.find? f) (funext fun x => ?_)
  cases hp : p x
  · simp
  · simp [h x hp]

/-- The entry of one member after a calibration. -/
def calMember (good : List LinkEnd) (bad : List Nat) (m : Member) : Member :=
  match good.find? (fun e => e.addr == m.addr && e.standby == (m.port == 2 || m.port == 3)) with
  | some e => { m with cal := true, delay := e.delay, replaced := false }
  | none => if bad.contains m.addr then { m with cal := false } else m

theorem calMembers_map (good : List LinkEnd) (bad : List Nat) (l : List Member) : calMembers good bad l = l.map (calMember good bad) := rfl

theorem calMember_addr (good : List LinkEnd) (bad : List Nat) (m : Member) : (calMember good bad m).addr = m.addr := by
  unfold calMember
  split
  · rfl
  · split <;> rfl

/-- The entry of a measured link. -/
theorem memberAt_calMembers {good : List LinkEnd} {bad : List Nat} {l : List Member} {addr : Nat} {x : Member} {e : LinkEnd}
    (hx : memberAt l addr = some x) (he : good.find? (fun e => e.addr == addr && e.standby == (x.port == 2 || x.port == 3)) = some e) :
    memberAt (calMembers good bad l) addr = some { x with cal := true, delay := e.delay, replaced := false } := by
  have haddr : x.addr = addr := by simpa using List.find?_some hx
  have hcomp : (fun m : Member => m.addr == addr) ∘ calMember good bad = fun m => m.addr == addr :=
    funext fun m => by rw [Function.comp_apply, calMember_addr]
  rw [← haddr] at he
  rw [calMembers_map, memberAt, List.find?_map, hcomp, ← memberAt, hx, Option.map_some, calMember, he]

/-- The calibration that a host began ends at the manager, with none waiting. -/
theorem linksDone_ends {s : State} {good : List LinkEnd} {bad : List Nat} {r : LinkRun} (hr : s.ar.calNow = some r) (hhost : r.host = true)
    (hnext : s.ar.calNext = []) : ∃ v w status detail, ∃ x, Quiet (s.modAr fun a => { a with
      links := v, members := calMembers (good.filter fun e => r.links.any fun l => l.1 == e.addr)
        (bad.filter fun a => r.links.any fun l => l.1 == a) a.members
      lastCal := s.ticks, calNow := none, w := w }) x ∧ s.linksDone good bad = x.endWork 0x0804 status detail := by
  obtain ⟨v, hv⟩ := setLinks_links s (good.filter fun e => r.links.any fun l => l.1 == e.addr)
  unfold State.linksDone
  rw [hr]
  dsimp only
  unfold State.endCal
  rw [hhost]
  extract_lets covers g b s1 s2 s3
  have hs1 : s1 = s.modAr fun a => { a with
      links := v, members := calMembers g b a.members, lastCal := s.ticks, calNow := none } := by
    dsimp only [s1]
    rw [hv]
    rfl
  have h2 : ∃ w, Quiet (s1.modAr fun a => { a with w := w }) s2 := by
    dsimp only [s2]
    split
    · exact ⟨_, recomputeW_quiet s1⟩
    · exact ⟨s1.ar.w, .refl _⟩
  obtain ⟨w, hw⟩ := h2
  have hempty : s3.ar.calNext.isEmpty = true := by
    have har := (SameArray.endWorkIf (p := fun w => w.code == 0x0804) (status := if b.isEmpty then stOk else eDegraded)
      (detail := g.length % 65536 + 65536 * (b.length % 65536)) (SameArray.refl.quiet hw)).ar
    have hcal : s3.ar.calNext = s1.ar.calNext := (congrArg ArrayLink.calNext har :)
    rw [hcal, hs1]
    exact congrArg List.isEmpty hnext
  rw [if_pos hempty]
  rw [hs1] at hw
  exact ⟨v, w, _, _, s2, hw, rfl⟩

/-! The obligation, row by row. -/

section
variable {s : State} {t : Nat}

section
variable {origin ticks frac delay : Nat} {c : Fin 4} {qual : BitVec 8}

theorem exec_trigReq_far (hrole : s.ar.role = 1)
    (h : ∀ p, s.ar.lastP = some p → 1500 * fineUnit < (((s.reach t).fineOf ticks frac : Int) - p).natAbs) :
    Leads (exec (.trigReq t origin c ticks frac qual) s) (fun u => u.ar.lastP = some ((s.reach t).fineOf ticks frac)
      ∧ ⟨max s.clk t, 0x04, 0xFFFF, [origin, c.val, (s.reach t).ticksAt ((s.reach t).fineOf ticks frac / fineUnit),
          (s.reach t).fineOf ticks frac % fineUnit, flag (qual.getLsbD 5)]⟩ ∈ u.ar.tx
      ∧ u.ar.merged = s.ar.merged) := by
  have hdo : (s.reach t).takeTrigReq origin c ticks frac qual =
      (s.reach t).broadcastTrig origin c ((s.reach t).fineOf ticks frac) (qual.getLsbD 5) :=
    (if_pos hrole).trans (mergeTrig_far (s := s.reach t) h)
  have har := broadcastTrig_ar (s := s.reach t) (origin := origin) (c := c) (fine := (s.reach t).fineOf ticks frac)
    (valid := qual.getLsbD 5)
  refine ⟨_, congrArg go hdo, ?_⟩
  beta_reduce
  rw [har]
  exact ⟨rfl, List.mem_cons_self, rfl⟩

theorem exec_trigReq_passes (hmem : s.isMember = true) : Leads (exec (.trigReq t origin c ticks frac qual) s) (fun u =>
    u.evq = s.evq ∧ SameUnits s u
      ∧ ⟨max s.clk t, 0x03, origin, [origin, c.val, ticks, frac % fineUnit, flag (qual.getLsbD 5)]⟩ ∈ u.ar.tx) := by
  have hrole : s.ar.role ≠ 1 := by
    intro h
    simp [State.isMember, h] at hmem
  have hdo : (s.reach t).takeTrigReq origin c ticks frac qual =
      (s.reach t).sendN 0x03 origin [origin, c.val, ticks, frac % fineUnit, flag (qual.getLsbD 5)] := (if_neg hrole).trans (if_pos hmem)
  exact ⟨_, congrArg go hdo, rfl, .refl s, List.mem_cons_self⟩

/-- The state in which a TRIG has been counted and passed on. -/
def State.trigCounted (s : State) (origin : Nat) (c : Fin 4) (ticks frac : Nat) (qual : BitVec 8) : State :=
  (s.modAr fun a => { a with recv := wrapAdd 32 a.recv 1 }).forward 0x04
    [origin, c.val, ticks, frac % fineUnit, flag (qual.getLsbD 5)]

theorem trigCounted_traffic (s : State) (origin : Nat) (c : Fin 4) (ticks frac : Nat) (qual : BitVec 8) :
    Traffic (s.modAr fun a => { a with recv := wrapAdd 32 a.recv 1 }) (s.trigCounted origin c ticks frac qual) := Traffic.refl.forward

theorem takeTrig_member (hmem : s.isMember = true) : s.takeTrig origin c ticks frac qual delay =
    (s.trigCounted origin c ticks frac qual).niredEvent (s.fineOf (ticks + delay) frac) (qual.getLsbD 5) := by
  unfold State.takeTrig
  rw [hmem]
  rfl

theorem exec_trig_early (hmem : s.isMember = true) (h : max s.clk t ≤ (s.reach t).fineOf (ticks + delay) frac / fineUnit + 384) :
    Leads (exec (.trig t origin c ticks frac qual delay) s) (fun u =>
      u.ar.recv = wrapAdd 32 s.ar.recv 1
      ∧ u.evq = s.evq ++ [⟨(s.reach t).fineOf (ticks + delay) frac, 0x18, s.stampAt ((s.reach t).fineOf (ticks + delay) frac) 3 (qual.getLsbD 5),
          0xF#4, s.cycleOf ((s.reach t).fineOf (ticks + delay) frac) + 404, qual.getLsbD 5, (s.reach t).fineOf (ticks + delay) frac⟩]
      ∧ u.tm = s.tm ∧ u.ch = s.ch) := by
  obtain ⟨harray, hunits, -⟩ := trigCounted_traffic (s.reach t) origin c ticks frac qual
  obtain ⟨-, -, -, -, htm, hch, hevq, -⟩ := hunits
  have hdo := takeTrig_member (s := s.reach t) (origin := origin) (c := c) (ticks := ticks) (frac := frac) (qual := qual) (delay := delay) hmem
  refine ⟨_, congrArg go hdo, ?_⟩
  have hrecv : ((s.reach t).trigCounted origin c ticks frac qual).ar.recv = wrapAdd 32 s.ar.recv 1 := (congrArg ArrayLink.recv harray.ar :)
  have hclk : ((s.reach t).trigCounted origin c ticks frac qual).clk = max s.clk t := harray.clk
  generalize (s.reach t).trigCounted origin c ticks frac qual = x at htm hch hevq hrecv hclk
  rw [niredEvent_early (by rw [hclk]; exact h)]
  refine ⟨hrecv, ?_, htm, hch⟩
  show x.evq ++ _ = _
  simp only [State.stampAt, State.cycleOf, State.ticksAt, htm, hevq]
  rfl

theorem exec_trig_late (hmem : s.isMember = true) (h : (s.reach t).fineOf (ticks + delay) frac / fineUnit + 384 < max s.clk t) :
    Leads (exec (.trig t origin c ticks frac qual delay) s) (fun u =>
      u.ar.recv = wrapAdd 32 s.ar.recv 1 ∧ u.evq = s.evq ∧ u.tm.niredLate = wrapAdd 32 s.tm.niredLate 1 ∧ u.ch = s.ch) := by
  obtain ⟨harray, hunits, -⟩ := trigCounted_traffic (s.reach t) origin c ticks frac qual
  obtain ⟨-, -, -, -, htm, hch, hevq, -⟩ := hunits
  have hdo := takeTrig_member (s := s.reach t) (origin := origin) (c := c) (ticks := ticks) (frac := frac) (qual := qual) (delay := delay) hmem
  refine ⟨_, congrArg go hdo, ?_⟩
  have hrecv : ((s.reach t).trigCounted origin c ticks frac qual).ar.recv = wrapAdd 32 s.ar.recv 1 := (congrArg ArrayLink.recv harray.ar :)
  have hclk : ((s.reach t).trigCounted origin c ticks frac qual).clk = max s.clk t := harray.clk
  generalize (s.reach t).trigCounted origin c ticks frac qual = x at htm hch hevq hrecv hclk
  obtain ⟨y, hq⟩ := niredEvent_late (s := x) (valid := qual.getLsbD 5) (by rw [hclk]; exact h)
  obtain ⟨-, -, -, -, qtm, qch, qevq, -⟩ := hq.units
  refine ⟨(congrArg ArrayLink.recv hq.ar).trans hrecv, qevq.trans hevq, (congrArg Time.niredLate qtm).trans ?_, qch.trans hch⟩
  show wrapAdd 32 x.tm.niredLate 1 = _
  rw [htm]
  rfl

end

/-! Arming. -/

theorem takeArm_none {c number : Nat} (hmem : s.isMember = true) (h : s.followSet = []) : s.takeArm c number =
    (s.forward 0x05 [c, number]).sendN 0x07 s.ar.addr [s.ar.addr, number, 2] := by
  unfold State.takeArm
  rw [hmem, h]
  rfl

theorem takeArm_some {c number : Nat} (hmem : s.isMember = true) (h : s.followSet ≠ []) : s.takeArm c number =
    ((s.forward 0x05 [c, number]).armBegin true s.followSet).modAr fun a => { a with armNo := number, armC := some c, armTold := false } := by
  unfold State.takeArm
  simp [hmem, h]

theorem exec_armMessage_none {c number : Nat} (hmem : s.isMember = true) (h : (s.reach t).followSet = []) :
    Leads (exec (.armMessage t c number) s) (fun u => SameUnits s u
      ∧ ⟨max s.clk t, 0x07, s.ar.addr, [s.ar.addr, number, 2]⟩ ∈ u.ar.tx) := by
  obtain ⟨harray, hunits, -⟩ := (Traffic.refl (s := s.reach t)).forward (mtype := 0x05) (args := [c, number])
  refine ⟨_, congrArg go (takeArm_none (s := s.reach t) hmem h), hunits, ?_⟩
  have hclk : ((s.reach t).forward 0x05 [c, number]).clk = max s.clk t := harray.clk
  rw [sendN_tx, hclk]
  exact List.mem_cons_self

theorem exec_armMessage_follows {c number : Nat} (hmem : s.isMember = true) (h : (s.reach t).followSet ≠ []) (hrun : s.pw.st = 0) :
    Leads (exec (.armMessage t c number) s) (fun u => u.ar.armNo = number ∧ u.ar.armC = some c ∧ u.ar.armTold = false
      ∧ ∀ d ∈ (s.reach t).followSet, u.ch[d].st = .arming ∧ u.ch[d].follow = true ∧ u.mr.armed[d] = s.mr.recorded) := by
  have hfwd : ((s.reach t).forward 0x05 [c, number]).pw = s.pw ∧ ((s.reach t).forward 0x05 [c, number]).mr = s.mr := by
    unfold State.forward
    split <;> exact ⟨rfl, rfl⟩
  refine ⟨_, congrArg go (takeArm_some (s := s.reach t) hmem h), rfl, rfl, rfl, fun d hd => ?_⟩
  obtain ⟨hpw, hmr⟩ := hfwd
  generalize (s.reach t).forward 0x05 [c, number] = x at hpw hmr ⊢
  obtain ⟨hrearmed, hfollow⟩ := armBegin_follows (s := x) (by rw [hpw]; exact hrun) true (followSet_nodup (s.reach t)) d hd
  exact ⟨hrearmed.st, hfollow, hrearmed.armed.trans (by rw [hmr])⟩

theorem exec_disarmMessage {q : Nat} (hmem : s.isMember = true) : Leads (exec (.disarmMessage t q) s) (fun u => u.evq = s.evq ∧ u.tr = s.tr
    ∧ ∀ d : Fin 4, (s.ch[d].follow = false → u.ch[d] = s.ch[d])
      ∧ (s.ch[d].follow = true → s.running d = true → s.ch[d].stopAt = none →
          u.ch[d] = { s.ch[d] with stopAt := some ⟨s.boundaryFrom (max (max s.clk t + 1) (s.clkOf q)), 6, 1⟩ })) := by
  obtain ⟨-, hunits, -⟩ := (Traffic.refl (s := s.reach t)).forward (mtype := 0x06) (args := [q])
  obtain ⟨-, -, -, -, -, hch, hevq, htr, -⟩ := hunits
  have hdo : (s.reach t).takeDisarm q = (allCh.filter fun c => s.ch[c].follow).foldl
      (State.disarmChan (s.boundaryFrom (max (max s.clk t + 1) (s.clkOf q))) 6) ((s.reach t).forward 0x06 [q]) := by
    unfold State.takeDisarm
    rw [show (s.reach t).isMember = true from hmem]
    rfl
  refine ⟨_, congrArg go hdo, ?_⟩
  have hnd : (allCh.filter fun c => s.ch[c].follow).Nodup := List.Pairwise.filter _ (by decide : allCh.Nodup)
  have hmemF (d : Fin 4) : d ∈ (allCh.filter fun c => s.ch[c].follow) ↔ s.ch[d].follow = true := by
    rw [List.mem_filter]
    exact and_iff_right (by revert d; decide)
  generalize (s.reach t).forward 0x06 [q] = x at hch hevq htr ⊢
  generalize (allCh.filter fun c => s.ch[c].follow) = l at hnd hmemF ⊢
  have hch' : x.ch = s.ch := hch
  have hhalts := foldl_disarmChan (s.boundaryFrom (max (max s.clk t + 1) (s.clkOf q))) 6 l x
  refine ⟨hhalts.evq.trans hevq, hhalts.tr.trans htr, fun d => ⟨fun hf => ?_, fun hf hrun hstop => ?_⟩⟩
  · rw [hhalts.others d (by rw [hmemF, hf]; decide), hch']
  · have hd : d ∈ l := (hmemF d).mpr hf
    have hst : s.ch[d].st ≠ .stopped := by
      intro h
      rw [State.running, h] at hrun
      cases hrun
    rw [← hch'] at hf hst hstop ⊢
    exact foldl_disarmChan_orders hnd hd hst hf hstop

/-! READY and relays. -/

theorem takeReady_counts {addr result : Nat} (hrole : s.ar.role = 1) (h : addr ∈ s.ar.armWait) : s.takeReady addr s.ar.armNo result =
    s.modAr fun a => { a with
      armWait := a.armWait.erase addr, armLate := a.armLate + flag (result == 1), armNot := a.armNot + flag (result == 2) } :=
  (if_pos hrole).trans (if_pos ⟨rfl, List.contains_iff_mem.mpr h⟩)

theorem takeReady_other {addr n result : Nat} (hrole : s.ar.role = 1) (h : n ≠ s.ar.armNo) : s.takeReady addr n result = s :=
  (if_pos hrole).trans (if_neg fun hn => h hn.1)

theorem member_not_manager (hmem : s.isMember = true) : s.ar.role ≠ 1 := by
  intro h
  simp [State.isMember, h] at hmem

theorem alone_not_member (hrole : s.ar.role = 0) : s.isMember = false := by simp [State.isMember, hrole]

theorem takeReady_passes {addr n result : Nat} (hmem : s.isMember = true) :
    s.takeReady addr n result = s.sendN 0x07 addr [addr, n, result] := (if_neg (member_not_manager hmem)).trans (if_pos hmem)

theorem relayArrives_alone {msg : RelayMsg} (hmem : s.isMember = false) : s.relayArrives msg = s := by
  unfold State.relayArrives
  rw [hmem]
  exact fwMessage_ignored (m := .relay s.clk msg.bytes) hmem

theorem relayArrives_passes {addr : Nat} {bs : List Byte} (hmem : s.isMember = true) (hne : addr ≠ s.ar.addr) :
    s.relayArrives ⟨addr, bs⟩ = s.sendN 0x08 addr (bs.map (·.toNat)) := by
  refine if_pos ?_
  rw [hmem]
  exact bne_iff_ne.mpr hne

/-- A command relayed to this module is posted. -/
theorem exec_relayCmd_posts {bs : List Byte} (hmem : s.isMember = true) (hserve : s.fw.serving = true) (hhalt : s.fw.halted = false)
    (hfree : (s.mbox 16).state = .free ∨ (s.mbox 16).state = .done) (hmore : relayMore bs = false) :
    Leads (exec (.relayCmd t ⟨s.ar.addr, bs⟩) s) (fun u => (u.mbox 16).state = .posted
      ∧ (u.mbox 16).cmd = memWriteBytes [] 0 (bs.take 1016) ∧ (u.mbox 16).doorbell = max s.clk t
      ∧ (∀ j, j ≠ 16 → u.mbox j = s.mbox j) ∧ SameUnits s u ∧ SameSettings s u) := by
  have hown : (s.reach t).relayArrives ⟨s.ar.addr, bs⟩ = (s.reach t).fwMessage (.relay (s.reach t).clk bs) :=
    if_neg (by simp [State.reach])
  have hdo := hown.trans ((fwMessage_served (s := s.reach t) (m := .relay (s.reach t).clk bs) hmem hserve hhalt).trans
    (takeRelay_posts (s := s.reach t) hmem hfree hmore))
  refine ⟨_, congrArg go hdo, ?_, ?_, ?_, fun j hj => ?_, .refl s, rfl, rfl, rfl, rfl, rfl⟩
  · rw [modMb_same, State.post, modMb_same]
  · rw [modMb_same, State.post, modMb_same, modMb_same]
  · rw [modMb_same]
    rfl
  · rw [modMb_other _ _ _ _ hj, State.post, modMb_other _ _ _ _ hj, modMb_other _ _ _ _ hj]
    rfl

theorem takeRelayRsp_alone {addr : Nat} {part : RelayPart} (hrole : s.ar.role = 0) : s.takeRelayRsp addr part = s := by
  unfold State.takeRelayRsp
  rw [if_neg (by omega), alone_not_member hrole]
  rfl

theorem exec_relayRsp_last {m : Fin 17} {addr taken : Nat} {bs : List Byte} (hrole : s.ar.role = 1)
    (hx : s.mr.exec = some ⟨m, taken, .relay addr⟩) (hhalt : s.fw.halted = false) (hexp : (s.reqOf m).expired (max s.clk t) = false) :
    Leads (exec (.relayRsp t addr ⟨bs, true⟩) s) (fun u => Replied u m stOk ((s.ar.relayGot ++ bs).take 2048) ∧ u.mr.exec = none
      ∧ u.ar.relayGot = [] ∧ SameUnits s u) := by
  obtain ⟨hnone, hreply, hunits, hsame⟩ := relayRsp_ends (s := (s.reach t).modAr fun a => { a with relayGot := [] })
    (a := ⟨stOk, (s.ar.relayGot ++ bs).take 2048, none, 0, 0⟩) hx hhalt hexp
  exact ⟨_, congrArg go (takeRelayRsp_last (s := s.reach t) hrole hx), hreply, hnone, (congrArg ArrayLink.relayGot hsame.ar :), hunits⟩

/-! Calibration of links. -/

theorem exec_arrayCalibrateLinks_begins {m : Fin 17} {b : Bulk} (hr : Ready s t m 0x0804 (lenIs 24)) (hform : CalForm (s.reqOf m).payload)
    (hrole : s.ar.role = 1) (hlink : fieldAt (s.reqOf m).payload 0 1 = 1 →
      s.ar.members.any (fun x => x.addr == fieldAt (s.reqOf m).payload 2 2 && x.port != 255) = true)
    (hfree : s.working 0x0804 = false) (hroom : s.mr.work.length < 16) :
    Leads (exec (.arrayCalibrateLinks t m b) s) (fun u => Replied u m stAccepted [] ∧ SameUnits s u
      ∧ u.mr.work = s.mr.work ++ [⟨m.val, (s.reqOf m).code, (s.reqOf m).tag, max s.clk t, fieldAt (s.reqOf m).payload 0 1,
          fieldAt (s.reqOf m).payload 2 2⟩]
      ∧ ∃ r, u.ar.calNow = some r ∧ r.began = max s.clk t ∧ r.host = true ∧ r.links.map (·.1) = s.calScope (s.reqOf m).payload) := by
  have hb := calLinksBody_begins (s := s.reach t) (bulk := b) hform hrole hlink hfree hroom
  obtain ⟨-, -, -, -, he⟩ := id hr
  refine ⟨_, congrArg go (command_reply hr hb he), respond_replied _ _ _ _, ?_, ?_, ?_⟩
  · exact respond_units (((s.reach t).addWork _ _ _).modAr _ |>.startCal _ _) _ _ _
  · obtain ⟨-, -, -, -, hwork⟩ := respond_settings ((((s.reach t).addWork (s.reqOf m) (fieldAt (s.reqOf m).payload 0 1)
      (fieldAt (s.reqOf m).payload 2 2)).modAr fun a => { a with
        asym := asymPut (asymOf []) a.asym, calNext := a.calNext ++ a.calNow.elim [] fun x => x.links.map (·.1) }).startCal
          ((s.reach t).calScope (s.reqOf m).payload) true) (s.reqOf m) ⟨stAccepted, [], none, 0, 0⟩ (s.reach t).clk
    exact hwork
  · have hcal := fun (x : State) => (congrArg ArrayLink.calNow
      (SameArray.respond (r := s.reqOf m) (a := ⟨stAccepted, [], none, 0, 0⟩) (c := (s.reach t).clk) (.refl (s := x))).ar :)
    refine ⟨_, hcal _, rfl, rfl, ?_⟩
    rw [List.map_map]
    exact List.map_id _

theorem exec_linkCalibrationEnd {good : List LinkEnd} {bad : List Nat} {r : LinkRun} (hr : s.ar.calNow = some r) (hhost : r.host = true)
    (hnext : s.ar.calNext = []) : Leads (exec (.linkCalibrationEnd t good bad) s) (fun u =>
      u.ar.calNow = none ∧ u.ar.lastCal = (s.reach t).ticks ∧ SameUnits s u ∧ u.mr.work = s.mr.work.eraseP (fun w => w.code == 0x0804)
      ∧ ∀ addr x e, addr ∈ r.links.map (·.1) → memberAt s.ar.members addr = some x →
          good.find? (fun e => e.addr == addr && e.standby == (x.port == 2 || x.port == 3)) = some e →
          memberAt u.ar.members addr = some { x with cal := true, delay := e.delay, replaced := false }) := by
  obtain ⟨v, w, status, detail, x, hq, hdo⟩ := linksDone_ends (s := s.reach t) (good := good) (bad := bad) hr hhost hnext
  have hsame := SameArray.endWorkIf (p := fun w => w.code == 0x0804) (status := status) (detail := detail) (SameArray.refl.quiet hq)
  refine ⟨_, congrArg go hdo, (congrArg ArrayLink.calNow hsame.ar :), (congrArg ArrayLink.lastCal hsame.ar :),
    hq.units.trans (endWorkIf_units _ _ _ _), (endWorkIf_work _ _ _ _).trans (by rw [hq.mr]; rfl), ?_⟩
  intro addr y e haddr hy he
  have hmembers : (x.endWork 0x0804 status detail).ar.members = calMembers (good.filter fun e => r.links.any fun l => l.1 == e.addr)
      (bad.filter fun a => r.links.any fun l => l.1 == a) s.ar.members := (congrArg ArrayLink.members hsame.ar :)
  rw [hmembers]
  refine memberAt_calMembers hy ((find?_filter_of_imp (fun k hk => ?_) good).trans he)
  rw [Bool.and_eq_true, beq_iff_eq] at hk
  obtain ⟨l, hl, hladdr⟩ := List.mem_map.mp haddr
  exact List.any_eq_true.mpr ⟨l, hl, by rw [hk.1, hladdr]; exact beq_self_eq_true addr⟩

theorem exec_linkCalibrationEnd_member {good : List LinkEnd} {bad : List Nat} (hr : s.ar.calNow = none) (hmem : s.isMember = true) :
    Leads (exec (.linkCalibrationEnd t good bad) s) (fun u => u.ar.lastCal = (s.reach t).ticks
      ∧ u.ar.links = ((s.reach t).setLinks good).ar.links ∧ SameUnits s u ∧ SameSettings s u) := by
  have hdo : (s.reach t).linksDone good bad = ((s.reach t).setLinks good).modAr fun a => { a with
      members := calMembers good bad a.members, lastCal := (s.reach t).ticks } := by
    unfold State.linksDone
    rw [show (s.reach t).ar.calNow = none from hr]
    exact if_pos hmem
  obtain ⟨v, hv⟩ := setLinks_links (s.reach t) good
  refine ⟨_, congrArg go hdo, rfl, rfl, ?_⟩
  rw [hv]
  exact ⟨.refl s, rfl, rfl, rfl, rfl, rfl⟩

theorem linksDone_idle {good : List LinkEnd} {bad : List Nat} (hr : s.ar.calNow = none) (hmem : s.isMember = false) :
    s.linksDone good bad = s := by
  unfold State.linksDone
  rw [hr, hmem]
  rfl

end

/-- Settles O48: row by row, through the messages' frame, ARM's own steps and the entries of the measured links. -/
theorem arrayTriggersAndRelays : Obligations.ArrayTriggersAndRelays := by
  refine ⟨?_, ?_, ?_, ?_, ?_, ?_⟩
  · intro s t origin ticks frac delay c qual f
    refine ⟨fun hrole => ⟨congrArg go ?_, congrArg go ?_⟩, fun hrole h => exec_trigReq_far hrole h,
      fun p hrole hp h => congrArg go ((if_pos hrole).trans (mergeTrig_near (s := s.reach t) hp h)),
      fun hmem => exec_trigReq_passes hmem, fun hmem => ⟨fun h => exec_trig_early hmem h, fun h => exec_trig_late hmem h⟩⟩
    · exact (if_neg (show ¬s.ar.role = 1 by omega)).trans (if_neg (by rw [show (s.reach t).isMember = false from alone_not_member hrole]; decide))
    · exact if_pos (by rw [show (s.reach t).isMember = false from alone_not_member hrole]; rfl)
  · intro s t c number q
    refine ⟨fun hmem => ⟨congrArg go (if_pos ?_), congrArg go (if_pos ?_)⟩, fun hmem h => exec_armMessage_none hmem h,
      fun hmem h hrun => exec_armMessage_follows hmem h hrun, fun hmem => exec_disarmMessage hmem⟩
    all_goals rw [show (s.reach t).isMember = false from hmem]; rfl
  · intro s t addr result
    refine ⟨fun hrole n => congrArg go ?_, fun hrole h => congrArg go (takeReady_counts (s := s.reach t) hrole h),
      fun hrole n hn => congrArg go (takeReady_other (s := s.reach t) hrole hn), fun hmem n => ?_⟩
    · exact (if_neg (show ¬s.ar.role = 1 by omega)).trans (if_neg (by rw [show (s.reach t).isMember = false from alone_not_member hrole]; decide))
    · exact ⟨_, congrArg go (takeReady_passes (s := s.reach t) hmem), .refl s, ⟨rfl, rfl, rfl, rfl, rfl⟩, List.mem_cons_self⟩
  · intro s t addr bs
    refine ⟨fun hmem => congrArg go (relayArrives_alone (s := s.reach t) hmem), fun hmem hne => ?_,
      fun hmem hserve hhalt hfree hmore => exec_relayCmd_posts hmem hserve hhalt hfree hmore,
      fun hrole last => congrArg go (takeRelayRsp_alone (s := s.reach t) hrole),
      fun m taken hrole hx hhalt hexp => ⟨congrArg go (takeRelayRsp_more (s := s.reach t) hrole hx), exec_relayRsp_last hrole hx hhalt hexp⟩⟩
    exact ⟨_, congrArg go (relayArrives_passes (s := s.reach t) hmem hne), .refl s, ⟨rfl, rfl, rfl, rfl, rfl⟩, List.mem_cons_self⟩
  · intro s t m b hr p one hres hres2 hzero
    refine ⟨fun hrole hscope => command_fails hr (calLinksBody_alone (s := s.reach t) ⟨hscope, hres, hres2, hzero⟩ hrole),
      fun hrole hone hfree hroom => ?_⟩
    have hscope : fieldAt p 0 1 ≤ 1 := by
      rcases hone with h | ⟨h, -⟩ <;> omega
    refine exec_arrayCalibrateLinks_begins hr ⟨hscope, hres, hres2, hzero⟩ hrole (fun h1 => ?_) hfree hroom
    rcases hone with h | ⟨-, h⟩
    · exact absurd (h.symm.trans h1) (by decide)
    · exact h
  · intro s t good bad
    exact ⟨fun r hr hhost hnext => exec_linkCalibrationEnd hr hhost hnext, fun hr hmem => congrArg go (linksDone_idle (s := s.reach t) hr hmem),
      fun hr hmem => exec_linkCalibrationEnd_member hr hmem⟩

end Sys2Proof.Machine
end

section
/-!
SUPPORT. The memory controller: one pseudo-channel, and what retraining and retirement write of it (13 R332 to R337).
-/

namespace Sys2Proof.Machine

/-! One pseudo-channel. -/

@[simp] theorem modPc_same (s : State) (p : Fin 32) (g : Pc → Pc) : (s.modPc p g).mem.pcs[p] = g s.mem.pcs[p] := by
  simp [State.modPc, State.modMem, State.setMem]

theorem modPc_other (s : State) {p q : Fin 32} (g : Pc → Pc) (h : q ≠ p) : (s.modPc p g).mem.pcs[q] = s.mem.pcs[q] := by
  have h' : p.val ≠ q.val := fun e => h (Fin.ext e.symm)
  simp [State.modPc, State.modMem, State.setMem, h']

/-- What is true of every pseudo-channel before and after a change of one. -/
theorem modPc_forall {P : Fin 32 → Pc → Prop} {s : State} {p : Fin 32} {g : Pc → Pc} (hp : P p (g s.mem.pcs[p]))
    (ho : ∀ q, q ≠ p → P q s.mem.pcs[q]) (q : Fin 32) : P q (s.modPc p g).mem.pcs[q] := by
  by_cases h : q = p
  · subst h; rwa [modPc_same]
  · rw [modPc_other s g h]; exact ho q h

/-! Beside memory, what domains change. -/

/-- Of the units at most memory, front ends, towers and the monitor differ. -/
def OnlyMemory (s u : State) : Prop := OnlyDomains { s with mem := u.mem } u

namespace OnlyMemory
variable {s u v : State}

theorem refl : OnlyMemory s s := OnlyDomains.refl

theorem trans (h : OnlyMemory s u) (k : OnlyMemory u v) : OnlyMemory s v := by
  obtain ⟨-, -, hcal, hck, htm, hch, hevq, htr, -, hhv, hout, -, hfw, hpins⟩ := h
  obtain ⟨-, -, kcal, kck, ktm, kch, kevq, ktr, -, khv, kout, -, kfw, kpins⟩ := k
  exact ⟨rfl, rfl, kcal.trans hcal, kck.trans hck, ktm.trans htm, kch.trans hch, kevq.trans hevq, ktr.trans htr, rfl,
    khv.trans hhv, kout.trans hout, rfl, kfw.trans hfw, kpins.trans hpins⟩

theorem modMem {g : MemCtl → MemCtl} (h : OnlyMemory s u) : OnlyMemory s (u.modMem g) := by
  obtain ⟨-, -, hcal, hck, htm, hch, hevq, htr, -, hhv, hout, -, hfw, hpins⟩ := h
  exact ⟨rfl, rfl, hcal, hck, htm, hch, hevq, htr, rfl, hhv, hout, rfl, hfw, hpins⟩

theorem modPc {p : Fin 32} {g : Pc → Pc} (h : OnlyMemory s u) : OnlyMemory s (u.modPc p g) := .modMem h

end OnlyMemory

/-- Domains leave memory. -/
theorem OnlyDomains.mem {s u : State} (h : OnlyDomains s u) : u.mem = s.mem := by
  obtain ⟨-, -, -, -, -, -, -, -, hmem, -⟩ := h
  exact hmem

/-- Nothing but memory, beside memory. -/
theorem SameUnits.beside_mem {s u v : State} (h : SameUnits u v) (k : SameUnits { s with mem := u.mem } u) :
    SameUnits { s with mem := v.mem } v := by
  rw [h.mem]
  exact k.trans h

namespace OnlyMemory
variable {s u v : State}

theorem domains (h : OnlyMemory s u) (k : OnlyDomains u v) : OnlyMemory s v := by
  have hm := k.mem
  unfold OnlyMemory at *
  rw [hm]
  exact h.trans k

theorem units (h : OnlyMemory s u) (k : SameUnits u v) : OnlyMemory s v := h.domains (.of_units k)

theorem logEv {code sev scope : Nat} {data : List Byte} (h : OnlyMemory s u) : OnlyMemory s (u.logEv code sev scope data) :=
  h.units (logEv_quiet _ _ _ _ _).units

theorem logEvAt {b code sev scope : Nat} {data : List Byte} (h : OnlyMemory s u) : OnlyMemory s (u.logEvAt b code sev scope data) :=
  h.units (logEvAt_quiet _ _ _ _ _ _).units

theorem syncDomains (h : OnlyMemory s u) : OnlyMemory s u.syncDomains := h.domains (.syncDomains .refl)

theorem ite {c : Prop} {i : Decidable c} (hu : OnlyMemory s u) (hv : OnlyMemory s v) : OnlyMemory s (if c then u else v) := by
  split
  · exact hu
  · exact hv

theorem foldl {α : Type} {f : State → α → State} (hf : ∀ {a x}, OnlyMemory s a → OnlyMemory s (f a x)) {l : List α}
    (h : OnlyMemory s u) : OnlyMemory s (l.foldl f u) := by
  induction l generalizing u with
  | nil => exact h
  | cons x xs ih => exact ih (hf h)

theorem tr (h : OnlyMemory s u) : u.tr = s.tr := by
  obtain ⟨-, -, -, -, -, -, -, htr, -⟩ := h
  exact htr

theorem ch (h : OnlyMemory s u) : u.ch = s.ch := by
  obtain ⟨-, -, -, -, -, hch, -⟩ := h
  exact hch

end OnlyMemory

/-! Retirement (13 R334 to R337). -/

/-- A pseudo-channel without its state, its cause of retirement and its retraining. -/
def Pc.measured (x : Pc) : Pc := { x with st := .active, cause := 0, retrain := none }

/-- The controller without its pseudo-channels and what is under way or waits on them. -/
def MemCtl.rest (m : MemCtl) : MemCtl :=
  { m with pcs := MemCtl.reset.pcs, mig := none, waitRet := [], reduce := none, reduceAt := (0, 0), record := [], retrainQ := [] }

/-- What retraining and the retirement of `p` leave: measurements and settings, the pseudo-channels beside `p` that work, and, where
none waits to retrain, those that do not. -/
structure Retiring (p : Fin 32) (m n : MemCtl) : Prop where
  rest : n.rest = m.rest
  measured : ∀ q : Fin 32, n.pcs[q].measured = m.pcs[q].measured
  works : ∀ q : Fin 32, q ≠ p → m.pcs[q].st ≠ .retired → n.pcs[q].st ≠ .retired
  quiet : m.retrainQ = [] → n.retrainQ = [] ∧ ∀ q : Fin 32, m.pcs[q].retrain = none → n.pcs[q].retrain = none

namespace Retiring
variable {p : Fin 32} {m n o : MemCtl}

theorem refl : Retiring p m m := ⟨rfl, fun _ => rfl, fun _ _ => id, fun h => ⟨h, fun _ => id⟩⟩

theorem trans (h : Retiring p m n) (k : Retiring p n o) : Retiring p m o where
  rest := k.rest.trans h.rest
  measured q := (k.measured q).trans (h.measured q)
  works q hq hw := k.works q hq (h.works q hq hw)
  quiet hm := ⟨(k.quiet (h.quiet hm).1).1, fun q hr => (k.quiet (h.quiet hm).1).2 q ((h.quiet hm).2 q hr)⟩

end Retiring

/-- Retraining and the retirement of `p`, at state level. -/
structure Retires (p : Fin 32) (s u : State) : Prop where
  units : OnlyMemory s u
  mem : Retiring p s.mem u.mem
  upkeep : Upkeep s u

namespace Upkeep
variable {s u : State}

theorem logEvAt {b code sev scope : Nat} {data : List Byte} (h : Upkeep s u) : Upkeep s (u.logEvAt b code sev scope data) := by
  have hq := logEvAt_quiet u b code sev scope data
  exact ⟨.logEntry h.toRetains, by rw [hq.mr, hq.clk]; exact h.idle⟩

theorem modPc {p : Fin 32} {g : Pc → Pc} (h : Upkeep s u) : Upkeep s (u.modPc p g) := .modMem h

end Upkeep

namespace Retires
variable {p : Fin 32} {s u v : State}

theorem refl : Retires p s s := ⟨.refl, .refl, .refl⟩

/-- A write of the controller that keeps what `Retiring` says. -/
theorem modMem {g : MemCtl → MemCtl} (h : Retires p s u) (hg : Retiring p u.mem (g u.mem)) : Retires p s (u.modMem g) :=
  ⟨.modMem h.units, h.mem.trans hg, .modMem h.upkeep⟩

/-- A write of one pseudo-channel. -/
theorem modPc {q : Fin 32} {g : Pc → Pc} (h : Retires p s u) (hm : ∀ x, (g x).measured = x.measured)
    (hw : q ≠ p → ∀ x : Pc, x.st ≠ .retired → (g x).st ≠ .retired) (hr : ∀ x : Pc, x.retrain = none → (g x).retrain = none) :
    Retires p s (u.modPc q g) := by
  refine ⟨.modPc h.units, h.mem.trans ⟨rfl, ?_, ?_, fun hq => ⟨hq, ?_⟩⟩, .modPc h.upkeep⟩
  · exact modPc_forall (P := fun r x => x.measured = u.mem.pcs[r].measured) (hm _) fun _ _ => rfl
  · exact modPc_forall (P := fun r x => r ≠ p → u.mem.pcs[r].st ≠ .retired → x.st ≠ .retired) (fun hqp => hw hqp _)
      fun _ _ _ => id
  · exact modPc_forall (P := fun r x => u.mem.pcs[r].retrain = none → x.retrain = none) (hr _) fun _ _ => id

theorem logEv {code sev scope : Nat} {data : List Byte} (h : Retires p s u) : Retires p s (u.logEv code sev scope data) :=
  ⟨.logEv h.units, by rw [(logEv_quiet u code sev scope data).units.mem]; exact h.mem, .logEv h.upkeep⟩

theorem logEvAt {b code sev scope : Nat} {data : List Byte} (h : Retires p s u) : Retires p s (u.logEvAt b code sev scope data) :=
  ⟨.logEvAt h.units, by rw [(logEvAt_quiet u b code sev scope data).units.mem]; exact h.mem, .logEvAt h.upkeep⟩

theorem syncDomains (h : Retires p s u) : Retires p s u.syncDomains :=
  ⟨.syncDomains h.units, by rw [(OnlyDomains.syncDomains (u := u) .refl).mem]; exact h.mem, .syncDomains h.upkeep⟩

theorem ite {c : Prop} {i : Decidable c} (hu : Retires p s u) (hv : Retires p s v) : Retires p s (if c then u else v) := by
  split
  · exact hu
  · exact hv

/-- The next that waits starts to retrain: none, where none waits. -/
theorem nextRetrain {q : Fin 32} (h : Retires p s u) : Retires p s (u.nextRetrain q) := by
  unfold State.nextRetrain
  refine .ite h ?_
  split
  · exact h
  next r hr =>
    have hne : u.mem.retrainQ ≠ [] := fun e => by rw [e] at hr; cases hr
    refine ⟨.modPc (.modMem h.units), h.mem.trans ⟨rfl, ?_, ?_, fun he => absurd he hne⟩, .modPc (.modMem h.upkeep)⟩
    · exact modPc_forall (P := fun r x => x.measured = u.mem.pcs[r].measured) rfl fun _ _ => rfl
    · exact modPc_forall (P := fun r x => r ≠ p → u.mem.pcs[r].st ≠ .retired → x.st ≠ .retired) (fun _ => id) fun _ _ _ => id

theorem endRetrain {q : Fin 32} (h : Retires p s u) : Retires p s (u.endRetrain q) :=
  .nextRetrain (.modMem (.modPc h (fun _ => rfl) (fun _ _ => id) fun _ _ => rfl)
    ⟨rfl, fun _ => rfl, fun _ _ => id, fun he => ⟨by simp only [he, List.filter_nil], fun _ => id⟩⟩)

theorem startRetire {q : Fin 32} {cause : Nat} (h : Retires p s u) : Retires p s (u.startRetire q cause) := by
  unfold State.startRetire
  extract_lets b x
  split
  · exact .logEvAt (.endRetrain (.endRetrain (.modMem
      (.modPc (.modPc h (fun _ => rfl) (fun _ _ _ => by simp) fun _ => id) (fun _ => rfl) (fun _ _ _ => by simp) fun _ => id)
      ⟨rfl, fun _ => rfl, fun _ _ => id, fun he => ⟨he, fun _ => id⟩⟩)))
  · split
    · exact h
    · exact .endRetrain (.modMem (.modPc h (fun _ => rfl) (fun _ _ _ => by simp) fun _ => id)
        ⟨rfl, fun _ => rfl, fun _ _ => id, fun he => ⟨he, fun _ => id⟩⟩)

theorem setRetired {cause : Nat} (h : Retires p s u) : Retires p s (u.setRetired p cause) :=
  .syncDomains (.endRetrain (.modMem (.modPc h (fun _ => rfl) (fun hp => absurd rfl hp) fun _ => id)
    ⟨rfl, fun _ => rfl, fun _ _ => id, fun he => ⟨he, fun _ => id⟩⟩))

/-- A write of what is under way or waits. -/
theorem note {g : MemCtl → MemCtl} (h : Retires p s u) (hr : (g u.mem).rest = u.mem.rest) (hp : (g u.mem).pcs = u.mem.pcs)
    (hq : (g u.mem).retrainQ = u.mem.retrainQ) : Retires p s (u.modMem g) :=
  .modMem h ⟨hr, by rw [hp]; exact fun _ => rfl, by rw [hp]; exact fun _ _ => id, by rw [hp, hq]; exact fun he => ⟨he, fun _ => id⟩⟩

theorem retire {cause : Nat} (h : Retires p s u) : Retires p s (u.retire p cause) := by
  unfold State.retire
  split
  · exact .setRetired h
  · exact .ite (.ite h (.note h rfl rfl rfl)) (.startRetire h)
  · split
    · exact h
    · exact .startRetire (.note (.setRetired h) rfl rfl rfl)
  · exact h

end Retires

end Sys2Proof.Machine
end

section
/-!
SUPPORT. Retraining and the window of corrected words (13 R331 to R333).
-/

namespace Sys2Proof.Machine

theorem modPc_modPc (s : State) (p : Fin 32) (f g : Pc → Pc) : (s.modPc p f).modPc p g = s.modPc p (fun y => g (f y)) := by
  simp [State.modPc, State.modMem, State.setMem]

theorem modPc_retrainQ (s : State) (p : Fin 32) (g : Pc → Pc) : (s.modPc p g).mem.retrainQ = s.mem.retrainQ := rfl

/-- A write of one pseudo-channel that keeps its retraining keeps that of the stacks. -/
theorem stackTrains_modPc (s : State) (p q : Fin 32) {g : Pc → Pc} (hg : ∀ y, (g y).retrain = y.retrain) :
    (s.modPc p g).stackTrains q = s.stackTrains q := by
  have hr : ∀ r : Fin 32, (s.modPc p g).mem.pcs[r].retrain = s.mem.pcs[r].retrain :=
    modPc_forall (P := fun r x => x.retrain = s.mem.pcs[r].retrain) (hg _) fun _ _ => rfl
  simp only [State.stackTrains, hr]

/-- With no one waiting, no one starts to retrain. -/
theorem nextRetrain_none {s : State} (h : s.mem.retrainQ = []) (p : Fin 32) : s.nextRetrain p = s := by
  simp [State.nextRetrain, h]

/-- A pseudo-channel that serves or stands by is not retired. -/
theorem standing_works {x : PcState} (h : x = .active ∨ x = .spare) : x ≠ .retired := by
  rintro rfl
  rcases h with h | h <;> cases h

theorem pcWorks_of {s : State} {p : Fin 32} (h : s.mem.pcs[p].st ≠ .retired) : s.pcWorks p = true := by
  simpa only [State.pcWorks, bne_iff_ne] using h

/-- A working pseudo-channel of a stack at rest starts to retrain at once. -/
theorem retrainCause_starts {s : State} {p : Fin 32} (hst : s.mem.pcs[p].st = .active ∨ s.mem.pcs[p].st = .spare)
    (hr : s.mem.pcs[p].retrain = none) (hq : p ∉ s.mem.retrainQ) (hs : s.stackTrains p = false) :
    s.retrainCause p false = s.modPc p (fun y => { y with retrain := some 0 })
    ∧ s.retrainCause p true = s.modPc p (fun y => { y with ceTrig := true, retrain := some 0 }) := by
  have hgo : (!(s.mem.pcs[p].st == .active || s.mem.pcs[p].st == .spare) || s.mem.pcs[p].retrain.isSome
      || s.mem.retrainQ.contains p) = false := by
    have hs : (s.mem.pcs[p].st == .active || s.mem.pcs[p].st == .spare) = true := by
      rcases hst with h | h <;> rw [h] <;> rfl
    have hc : s.mem.retrainQ.contains p = false := by simpa using hq
    rw [hr, hs, hc]
    rfl
  have hm := (stackTrains_modPc s p p (g := fun y => { y with ceTrig := true }) fun _ => rfl).trans hs
  constructor
  · simp only [State.retrainCause, hgo, hs, Bool.false_eq_true, if_false]
  · simp only [State.retrainCause, hgo, hm, Bool.false_eq_true, if_false, if_true]
    exact modPc_modPc _ _ _ _

/-! RETRAINING_START (13 R332). -/

theorem retrainStart_still {s : State} {p : Fin 32} {x : Int} {d : List Int}
    (h : (deskewEnds d || decide (s.mkey 0x0B01 * 10 ≤ (x - s.mem.pcs[p].tempTr).natAbs)) = false) :
    s.retrainStart p x d = s.modPc p (fun y => { y with temp := x, deskew := d }) := by
  simp only [State.retrainStart, h, Bool.and_false, Bool.false_eq_true, if_false]

theorem retrainStart_moved {s : State} {p : Fin 32} {x : Int} {d : List Int}
    (h : (deskewEnds d || decide (s.mkey 0x0B01 * 10 ≤ (x - s.mem.pcs[p].tempTr).natAbs)) = true)
    (hst : s.mem.pcs[p].st = .active ∨ s.mem.pcs[p].st = .spare)
    (hr : s.mem.pcs[p].retrain = none) (hq : p ∉ s.mem.retrainQ) (hs : s.stackTrains p = false) :
    s.retrainStart p x d = s.modPc p (fun y => { y with temp := x, deskew := d, retrain := some 0 }) := by
  have hw : s.pcWorks p = true := pcWorks_of (standing_works hst)
  have hpc : (s.modPc p (fun y => { y with temp := x, deskew := d })).mem.pcs[p] = { s.mem.pcs[p] with temp := x, deskew := d } :=
    modPc_same _ _ _
  have hgo := retrainCause_starts (s := s.modPc p (fun y => { y with temp := x, deskew := d })) (p := p)
    (by rw [hpc]; exact hst) (by rw [hpc]; exact hr) (by rwa [modPc_retrainQ])
    ((stackTrains_modPc s p p (g := fun y => { y with temp := x, deskew := d }) fun _ => rfl).trans hs)
  simp only [State.retrainStart, h, hw, Bool.and_true, if_true]
  rw [hgo.1, modPc_modPc]

/-! RETRAINING_WINDOW (13 R331 to R333). -/

/-- A row of retraining, with no entry to self-refresh that it would abort. -/
theorem exec_retrainingWindow {s : State} (h : s.srAborts = false) (t : Nat) (p : Fin 32) (set : PcSetting) (eyes : List Eye) (x : Int) :
    exec (.retrainingWindow t p set eyes x) s = .next ((s.reach t).retrainWindow p set eyes x) := by
  have ha : (s.reach t).srAbort = s.reach t := by
    unfold State.srAbort
    rw [if_neg]
    exact Bool.eq_false_iff.mp h
  change go ((if (s.reach t).memBackground && (s.reach t).mem.pcs[p].retrain.isSome then (s.reach t).srAbort else s.reach t).retrainWindow
    p set eyes x) = _
  rw [ha, ite_self]
  rfl

theorem retrainWindow_idle {s : State} {p : Fin 32} (h : s.mem.pcs[p].retrain = none) (set : PcSetting) (eyes : List Eye) (x : Int) :
    s.retrainWindow p set eyes x = s := by
  simp only [State.retrainWindow, h]

theorem retrainWindow_counts {s : State} {p : Fin 32} {n : Nat} (h : s.mem.pcs[p].retrain = some n) (hb : s.memBackground = true)
    (hn : n + 1 < 2048) (set : PcSetting) (eyes : List Eye) (x : Int) :
    s.retrainWindow p set eyes x = s.modPc p (fun y => { y with retrain := some (n + 1) }) := by
  simp only [State.retrainWindow, h, hb, hn, Bool.not_true, Bool.false_eq_true, if_false, if_true]

theorem retrainWindow_ends {s : State} {p : Fin 32} {n : Nat} (h : s.mem.pcs[p].retrain = some n) (hb : s.memBackground = true)
    (hn : 2048 ≤ n + 1) (set : PcSetting) (eyes : List Eye) (x : Int) : s.retrainWindow p set eyes x
      = if settingWorks eyes then (s.trainedNow p set x).nextRetrain p else (s.trainingFails p eyes x).nextRetrain p := by
  simp only [State.retrainWindow, h, hb, Nat.not_lt.mpr hn, Bool.not_true, Bool.false_eq_true, if_false]

theorem trainedNow_mem (s : State) (p : Fin 32) (set : PcSetting) (x : Int) :
    (s.trainedNow p set x).mem = (s.modPc p (fun y => y.trainedAt set x s.clk)).mem := (logEv_quiet _ _ _ _ _).units.mem

/-- A retraining that succeeds writes the pseudo-channel alone. -/
theorem retrainWindow_trained {s : State} {p : Fin 32} {n : Nat} (h : s.mem.pcs[p].retrain = some n) (hb : s.memBackground = true)
    (hn : 2048 ≤ n + 1) (hq : s.mem.retrainQ = []) {eyes : List Eye} (he : settingWorks eyes = true) (set : PcSetting) (x : Int) :
    s.retrainWindow p set eyes x = s.trainedNow p set x := by
  have hm := congrArg MemCtl.retrainQ (trainedNow_mem s p set x)
  rw [retrainWindow_ends h hb hn, if_pos he, nextRetrain_none (hm.trans hq)]

/-- A retraining that fails: the setting in force stays, the failure counts, and it is over. -/
theorem retrainWindow_fails {s : State} {p : Fin 32} {n : Nat} (h : s.mem.pcs[p].retrain = some n) (hb : s.memBackground = true)
    (hn : 2048 ≤ n + 1) (hq : s.mem.retrainQ = []) {eyes : List Eye} (he : settingWorks eyes = false) (set : PcSetting) (x : Int) :
    let u := s.retrainWindow p set eyes x
    u.mem.pcs[p].retrain = none ∧ u.mem.pcs[p].set = s.mem.pcs[p].set
      ∧ u.mem.pcs[p].trainFails = satAdd 16 s.mem.pcs[p].trainFails 1 := by
  intro u
  have hu : u = (s.trainingFails p eyes x).nextRetrain p := (retrainWindow_ends h hb hn set eyes x).trans (if_neg (by simp [he]))
  have hr : Retires p (s.modPc p fun y => { y with retrain := none, temp := x, trainFails := satAdd 16 y.trainFails 1 }) u :=
    hu ▸ .nextRetrain (.retire (.logEv .refl))
  have hm := hr.mem.measured p
  have hn := (hr.mem.quiet hq).2 p (by rw [modPc_same])
  rw [modPc_same] at hm
  exact ⟨hn, (congrArg Pc.set hm :), (congrArg Pc.trainFails hm :)⟩

/-! CE_WINDOW (13 R332, R333). -/

theorem ceWindow_retired {s : State} {p : Fin 32} (h : s.mem.pcs[p].st = .retired) : s.ceWindow p = s := by
  simp only [State.ceWindow, State.pcWorks, h, bne_self_eq_false, Bool.not_false, if_true]

/-- The pseudo-channel at the end of a window. -/
def Pc.windowOver (y : Pc) (judged : Bool) : Pc :=
  { y with ceLast := y.ceWin % 2 ^ 32, ceWin := 0, ceTrig := y.ceTrig && !judged }

/-- Whether the window that ends judges the last retraining. -/
def State.ceJudged (s : State) (p : Fin 32) : Bool :=
  s.mem.pcs[p].ceTrig && s.mem.pcs[p].retrain.isNone && !(s.mem.retrainQ.contains p)

theorem ceJudged_untriggered {s : State} {p : Fin 32} (h : s.mem.pcs[p].ceTrig = false) : s.ceJudged p = false := by
  simp only [State.ceJudged, h, Bool.false_and]

/-- The count of the window is taken over. -/
def State.ceTaken (s : State) (p : Fin 32) : State := s.modPc p (fun y => { y with
  ceLast := s.mem.pcs[p].ceWin % 2 ^ 32, ceWin := 0, ceTrig := y.ceTrig && !s.ceJudged p })

theorem ceWindow_works {s : State} {p : Fin 32} (h : s.mem.pcs[p].st ≠ .retired) : s.ceWindow p
    = if s.ceJudged p && decide (s.mkey 0x0B03 ≤ s.mem.pcs[p].ceWin) then
        ((s.ceTaken p).logEv 0x0B01 sevWarning 0 (memData p 0 0xFFFFFFFF s.mem.pcs[p].ceWin)).retire p 3
      else if s.mkey 0x0B02 ≤ s.mem.pcs[p].ceWin then (s.ceTaken p).retrainCause p true
      else s.ceTaken p := by
  have hw := pcWorks_of h
  simp only [State.ceWindow, hw, Bool.not_true, Bool.false_eq_true, if_false]
  rfl

theorem ceWindow_below {s : State} {p : Fin 32} (h : s.mem.pcs[p].st ≠ .retired) (hn : s.mem.pcs[p].ceWin < s.mkey 0x0B02)
    (hj : s.ceJudged p = true → s.mem.pcs[p].ceWin < s.mkey 0x0B03) : s.ceWindow p = s.ceTaken p := by
  rw [ceWindow_works h, if_neg, if_neg (Nat.not_le.mpr hn)]
  simp only [Bool.and_eq_true, decide_eq_true_eq, not_and, Nat.not_le]
  exact hj

theorem ceWindow_retrains {s : State} {p : Fin 32} (h : s.mem.pcs[p].st = .active ∨ s.mem.pcs[p].st = .spare)
    (hn : s.mkey 0x0B02 ≤ s.mem.pcs[p].ceWin) (ht : s.mem.pcs[p].ceTrig = false)
    (hr : s.mem.pcs[p].retrain = none) (hq : p ∉ s.mem.retrainQ) (hs : s.stackTrains p = false) :
    s.ceWindow p = s.modPc p (fun y => { y with ceLast := s.mem.pcs[p].ceWin % 2 ^ 32, ceWin := 0, ceTrig := true, retrain := some 0 }) := by
  have hrest : (s.ceTaken p).stackTrains p = false := by
    rw [State.ceTaken, stackTrains_modPc]
    · exact hs
    · exact fun _ => rfl
  have hpc : (s.ceTaken p).mem.pcs[p] = { s.mem.pcs[p] with
      ceLast := s.mem.pcs[p].ceWin % 2 ^ 32, ceWin := 0, ceTrig := s.mem.pcs[p].ceTrig && !s.ceJudged p } := modPc_same _ _ _
  have hgo := retrainCause_starts (s := s.ceTaken p) (p := p) (by rw [hpc]; exact h) (by rw [hpc]; exact hr)
    (by rwa [State.ceTaken, modPc_retrainQ]) hrest
  rw [ceWindow_works (standing_works h), ceJudged_untriggered ht, Bool.false_and, if_neg Bool.false_ne_true, if_pos hn, hgo.2,
    State.ceTaken, modPc_modPc]

end Sys2Proof.Machine
end

section
/-!
SUPPORT. Self-refresh: the exit of the pseudo-channels one by one, the entry and its abort (13 R338 to R340).
-/

namespace Sys2Proof.Machine

/-! One pseudo-channel exits (13 R333, R340). -/

/-- What the exit of `p` leaves: the units beside memory, the rest of the controller, and the pseudo-channels beside `p`, which work on. -/
structure Exits (p : Fin 32) (s u : State) : Prop where
  units : OnlyMemory s u
  upkeep : Upkeep s u
  rest : u.mem.rest = s.mem.rest
  others : ∀ q : Fin 32, q ≠ p → u.mem.pcs[q].measured = s.mem.pcs[q].measured
  works : ∀ q : Fin 32, q ≠ p → s.mem.pcs[q].st ≠ .retired → u.mem.pcs[q].st ≠ .retired

/-- A write of `p` and its retirement. -/
theorem Retires.exits {p : Fin 32} {s u : State} {g : Pc → Pc} (h : Retires p (s.modPc p g) u) : Exits p s u where
  units := h.units
  upkeep := (Upkeep.modPc .refl).trans h.upkeep
  rest := h.mem.rest
  others q hq := (h.mem.measured q).trans (by rw [modPc_other s g hq])
  works q hq hw := h.mem.works q hq (by rwa [modPc_other s g hq])

/-- Whether the temperature of a pseudo-channel has moved so far that it is retrained. -/
def State.exitMoved (s : State) (p : Fin 32) (x : Int) : Prop := s.mkey 0x0B01 * 10 ≤ (x - s.mem.pcs[p].tempTr).natAbs

theorem exitPc_retired {s : State} {p : Fin 32} (h : s.pcWorks p = false) (e : ExitPc) : s.exitPc p e = s := by
  simp only [State.exitPc, h, Bool.not_false, if_true]

theorem exitPc_trains {s : State} {p : Fin 32} (h : s.pcWorks p = true) {e : ExitPc} (hm : s.exitMoved p e.temp)
    (ht : trainingWorks e.tr = true) : s.exitPc p e = s.trainedNow p e.tr.set e.temp := by
  simp only [State.exitPc, h, Bool.not_true, Bool.false_eq_true, if_false, ht, if_true]
  exact if_pos hm

theorem exitPc_fails {s : State} {p : Fin 32} (h : s.pcWorks p = true) {e : ExitPc} (hm : s.exitMoved p e.temp)
    (ht : trainingWorks e.tr = false) : s.exitPc p e = s.trainingFails p e.tr.eyes e.temp := by
  simp only [State.exitPc, h, Bool.not_true, Bool.false_eq_true, if_false, ht]
  exact if_pos hm

theorem exitPc_stays {s : State} {p : Fin 32} (h : s.pcWorks p = true) {e : ExitPc} (hm : ¬ s.exitMoved p e.temp) :
    s.exitPc p e = s.modPc p (fun y => { y with temp := e.temp }) := by
  simp only [State.exitPc, h, Bool.not_true, Bool.false_eq_true, if_false]
  exact if_neg hm

/-- The temperatures of a pseudo-channel after its exit. -/
def Exited (s : State) (p : Fin 32) (e : ExitPc) (y : Pc) : Prop :=
  y.temp = e.temp ∧ y.tempTr = (if s.mkey 0x0B01 * 10 ≤ (e.temp - s.mem.pcs[p].tempTr).natAbs ∧ trainingWorks e.tr = true
    then e.temp else s.mem.pcs[p].tempTr)

/-- The exit of one pseudo-channel: it takes its temperature, as its training's where it was retrained, and leaves the others. -/
theorem exitPc_exits (s : State) (p : Fin 32) (e : ExitPc) :
    Exits p s (s.exitPc p e) ∧ (s.pcWorks p = true → Exited s p e (s.exitPc p e).mem.pcs[p]) := by
  cases hw : s.pcWorks p with
  | false =>
    rw [exitPc_retired hw]
    exact ⟨⟨.refl, .refl, rfl, fun _ _ => rfl, fun _ _ => id⟩, fun h => absurd h Bool.false_ne_true⟩
  | true =>
    have hpc (g : Pc → Pc) : (s.modPc p g).mem.pcs[p] = g s.mem.pcs[p] := modPc_same s p g
    by_cases hm : s.exitMoved p e.temp
    · cases ht : trainingWorks e.tr with
      | true =>
        have hr : Retires p (s.modPc p fun y => y.trainedAt e.tr.set e.temp s.clk) (s.trainedNow p e.tr.set e.temp) := .logEv .refl
        rw [exitPc_trains hw hm ht]
        refine ⟨hr.exits, fun _ => ?_⟩
        rw [trainedNow_mem, hpc]
        exact ⟨rfl, (if_pos ⟨hm, ht⟩).symm⟩
      | false =>
        have hr : Retires p (s.modPc p fun y => { y with retrain := none, temp := e.temp, trainFails := satAdd 16 y.trainFails 1 })
            (s.trainingFails p e.tr.eyes e.temp) := .retire (.logEv .refl)
        have hmeas := hr.mem.measured p
        rw [hpc] at hmeas
        rw [exitPc_fails hw hm ht]
        refine ⟨hr.exits, fun _ => ⟨(congrArg Pc.temp hmeas :), (congrArg Pc.tempTr hmeas :).trans (if_neg ?_).symm⟩⟩
        exact fun h => Bool.false_ne_true (ht.symm.trans h.2)
    · rw [exitPc_stays hw hm]
      refine ⟨(Retires.refl (p := p)).exits, fun _ => ?_⟩
      rw [hpc]
      exact ⟨rfl, (if_neg fun h => hm h.1).symm⟩

/-- The exit of pseudo-channels in turn. -/
theorem foldl_exitPc (e : Fin 32 → ExitPc) (l : List (Fin 32)) (hl : l.Nodup) (s : State) :
    let u := l.foldl (fun a p => a.exitPc p (e p)) s
    OnlyMemory s u ∧ u.mem.rest = s.mem.rest ∧ (∀ p, p ∉ l → u.mem.pcs[p].measured = s.mem.pcs[p].measured)
      ∧ ∀ p, p ∈ l → s.pcWorks p = true → Exited s p (e p) u.mem.pcs[p] := by
  induction l generalizing s with
  | nil => exact ⟨.refl, rfl, fun _ _ => rfl, fun p hp => absurd hp (List.not_mem_nil)⟩
  | cons q l ih =>
    obtain ⟨hql, hnd⟩ := List.nodup_cons.mp hl
    obtain ⟨hx, hown⟩ := exitPc_exits s q (e q)
    obtain ⟨hunits, hrest, hout, hin⟩ := ih hnd (s.exitPc q (e q))
    have hkey : (s.exitPc q (e q)).mkey 0x0B01 = s.mkey 0x0B01 := by rw [State.mkey, State.key, hx.upkeep.recorded]; rfl
    refine ⟨?_, hrest.trans hx.rest, fun p hp => ?_, fun p hp hw => ?_⟩
    · exact hx.units.trans hunits
    · exact (hout p (List.not_mem_of_not_mem_cons hp)).trans (hx.others p (List.ne_of_not_mem_cons hp))
    · by_cases hpq : p = q
      · subst hpq
        have hm := hout p hql
        obtain ⟨htemp, htr⟩ := hown hw
        exact ⟨(congrArg Pc.temp hm :).trans htemp, (congrArg Pc.tempTr hm :).trans htr⟩
      · have hw' : (s.exitPc q (e q)).pcWorks p = true :=
          pcWorks_of (hx.works p hpq (by simpa only [State.pcWorks, bne_iff_ne] using hw))
        have hm : (s.exitPc q (e q)).mem.pcs[p].tempTr = s.mem.pcs[p].tempTr := (congrArg Pc.tempTr (hx.others p hpq) :)
        have h := hin p ((List.mem_cons.mp hp).resolve_left hpq) hw'
        unfold Exited at h ⊢
        rwa [hkey, hm] at h

/-! The exit of the whole controller (13 R340). -/

/-- The state in which the pseudo-channels exit. -/
def State.srDone (s : State) : State := s.modMem (fun m => { m with sr := .off })

/-- What an exit brings: self-refresh is over, beside memory nothing moves, and each working pseudo-channel has its temperatures. -/
theorem srExit_exits {s : State} (h : s.mem.sr = .on) (exits : List ExitPc) :
    OnlyMemory s (s.srExit exits) ∧ (s.srExit exits).mem.sr = .off
      ∧ ∀ p, s.pcWorks p = true → Exited s p (s.exitOf exits p) (s.srExit exits).mem.pcs[p] := by
  have hf := foldl_exitPc (s.exitOf exits) (List.finRange 32) (List.nodup_finRange 32) s.srDone
  have hx : s.srExit exits = (((List.finRange 32).foldl (fun a p => a.exitPc p (s.exitOf exits p)) s.srDone).nextRetrain 0).nextRetrain 16 := by
    refine if_neg ?_
    rw [h]
    exact Bool.false_ne_true
  rw [hx]
  revert hf
  generalize (List.finRange 32).foldl (fun a p => a.exitPc p (s.exitOf exits p)) s.srDone = v
  rintro ⟨hunits, hrest, -, hin⟩
  have hn (q : Fin 32) : Retires q v ((v.nextRetrain 0).nextRetrain 16) := .nextRetrain (.nextRetrain .refl)
  refine ⟨?_, (congrArg MemCtl.sr ((hn 0).mem.rest.trans hrest) :), fun p hw => ?_⟩
  · exact (OnlyMemory.modMem .refl).trans (hunits.trans (hn 0).units)
  · obtain ⟨htemp, htr⟩ := hin p (List.mem_finRange p) hw
    have hm := (hn p).mem.measured p
    exact ⟨(congrArg Pc.temp hm :).trans htemp, (congrArg Pc.tempTr hm :).trans htr⟩

/-! The rows (13 R338 to R340). -/

theorem srLeave_exits {s : State} (h : s.mem.sr = .on) (hrel : s.ck.relock = none) (hsy : s.ck.synth ≠ 2) (hpw : s.pw.st ≤ 2)
    (he : s.pw.entry = none) (exits : List ExitPc) : OnlyMemory s (s.srLeave exits) ∧ (s.srLeave exits).mem.sr = .off
      ∧ ∀ p, s.pcWorks p = true → Exited s p (s.exitOf exits p) (s.srLeave exits).mem.pcs[p] := by
  have hx : s.srLeave exits = (s.srExit exits).syncDomains := by
    refine if_pos ?_
    simp only [hrel, he, Option.isNone_none, Bool.true_and, Bool.and_true, Bool.and_eq_true, bne_iff_ne, decide_eq_true_eq]
    exact ⟨hsy, hpw⟩
  obtain ⟨hunits, hsr, hall⟩ := srExit_exits h exits
  have hm : (s.srExit exits).syncDomains.mem = (s.srExit exits).mem := OnlyDomains.mem (.syncDomains .refl)
  rw [hx]
  exact ⟨.syncDomains hunits, (congrArg MemCtl.sr hm).trans hsr, fun p hw => by rw [hm]; exact hall p hw⟩

theorem srLeave_held {s : State} (h : s.ck.relock ≠ none ∨ s.ck.synth = 2) (exits : List ExitPc) : s.srLeave exits = s := by
  refine if_neg ?_
  rcases h with h | h
  · simp [Option.isNone_iff_eq_none, h]
  · simp [h]

/-- An entry that nothing aborts takes place. -/
theorem srEntry_enters {s : State} {b r : Bool} (h : s.mem.sr = .entry b) (hno : b = false ∨ (r = false ∧ s.memWork = false))
    (hrel : s.ck.relock = none) : s.srEntry r = (s.modMem (fun m => { m with sr := .on })).syncDomains := by
  have ha : (s.srAborts && (r || s.memWork)) = false := by
    rcases hno with rfl | ⟨rfl, hw⟩
    · rw [State.srAborts, h]; rfl
    · rw [hw]; exact Bool.and_false _
  have hck : (s.modMem (fun m => { m with sr := .on })).syncDomains.ck = s.ck := 
    OnlyDomains.ck (s := s.modMem (fun m => { m with sr := .on })) (.syncDomains .refl)
  unfold State.srEntry
  rw [h]
  simp only [ha, Bool.false_eq_true, if_false, hck, hrel, Option.any_none]

theorem srEntry_none {s : State} (h : s.mem.sr = .off ∨ s.mem.sr = .on) (r : Bool) : s.srEntry r = s := by
  unfold State.srEntry
  rcases h with h | h <;> rw [h]

/-- A rollback with self-refresh not in force ends the entry with the block that refused, and self-refresh stays off. -/
theorem rollback_off {s : State} (h : s.mem.sr = .off) (block : Nat) :
    (s.rollback block).mem.sr = .off ∧ (s.rollback block).pw.entry = none
      ∧ (s.pw.entry ≠ none → (s.rollback block).pw.refusedBy = block) := by
  unfold State.rollback
  split
  next he => exact ⟨h, he, fun hn => absurd he hn⟩
  next e he =>
    extract_lets s1 s2 s3
    have h2 : s2.mem.sr = .off ∧ s2.pw = s1.pw := by
      have hoff : (s1.mem.sr == .on) = false := by rw [show s1.mem.sr = .off from h]; rfl
      rw [show s2 = if s1.pw.st ≤ 1 ∧ s1.ck.synth = 0 then s1.modMem (fun m => { m with sr := .off }) else s1 by
        simp only [s2, hoff, Bool.false_eq_true, if_false]]
      split
      · exact ⟨rfl, rfl⟩
      · exact ⟨h, rfl⟩
    have hup : Upkeep (s2.modHv (fun h => { h with stopped := false }))
        ((s3.logEv 0x0F02 sevWarning 0 (pwData block e.target 0xFFFF s.ticks)).endWork 0x0501 eState (block + 256 * e.target)) :=
      .endWork (.logEv (.syncDomains .refl))
    have hd : OnlyDomains (s2.modHv (fun h => { h with stopped := false }))
        ((s3.logEv 0x0F02 sevWarning 0 (pwData block e.target 0xFFFF s.ticks)).endWork 0x0501 eState (block + 256 * e.target)) :=
      .endWork ((OnlyDomains.syncDomains .refl).units (logEv_quiet _ _ _ _ _).units)
    have hpw := hup.fixed.trans (congrArg Power.fixed h2.2)
    exact ⟨(congrArg MemCtl.sr hd.mem).trans h2.1, (congrArg Power.entry hpw :), fun _ => (congrArg Power.refusedBy hpw :)⟩

/-- A request aborts an entry that the power states asked for. -/
theorem srEntry_aborts {s : State} (h : s.mem.sr = .entry true) (hrel : s.ck.relock = none) : (s.srEntry true).mem.sr = .off
    ∧ (s.srEntry true).pw.entry = none ∧ (s.pw.entry ≠ none → (s.srEntry true).pw.refusedBy = 10) := by
  have ha : s.srAborts = true := by rw [State.srAborts, h, hrel]; rfl
  have hx : s.srEntry true = (s.srDone.logEv 0x0B08 sevInfo 0 (memData 0 0 0xFFFFFFFF 0)).rollback 10 := by
    unfold State.srEntry
    rw [h]
    simp only [ha, Bool.true_or, Bool.and_true, if_true]
    exact if_pos ha
  have hmem := (logEv_quiet s.srDone 0x0B08 sevInfo 0 (memData 0 0 0xFFFFFFFF 0)).units.mem
  have hpw := congrArg Power.entry (Upkeep.logEv (u := s.srDone) (code := 0x0B08) (sev := sevInfo) (scope := 0)
    (data := memData 0 0 0xFFFFFFFF 0) .refl).fixed
  obtain ⟨hsr, he, hby⟩ := rollback_off (congrArg MemCtl.sr hmem) 10
  rw [hx]
  exact ⟨hsr, he, fun hn => hby (by rwa [show (s.srDone.logEv 0x0B08 sevInfo 0 (memData 0 0 0xFFFFFFFF 0)).pw.entry = s.pw.entry from hpw])⟩

/-- Settles O41: retraining and the window of corrected words write the pseudo-channel concerned (what its retirement leaves is `Retiring`),
and an exit from self-refresh takes the pseudo-channels one by one, each leaving the others' measurements (`foldl_exitPc`). -/
theorem trainingAndSelfRefresh : Obligations.TrainingAndSelfRefresh := by
  refine ⟨?_, ?_⟩
  · intro s t p x d hno y moved idle
    have hwin := exec_retrainingWindow hno t p
    refine ⟨fun hm => congrArg go (retrainStart_still hm), fun hm hi => congrArg go (retrainStart_moved hm hi.1 hi.2.1 hi.2.2.1 hi.2.2.2),
      fun set eyes hr => (hwin set eyes x).trans (congrArg go (retrainWindow_idle (s := s.reach t) hr set eyes x)),
      fun set eyes n hr hb hn => (hwin set eyes x).trans (congrArg go (retrainWindow_counts (s := s.reach t) hr hb hn set eyes x)), ?_,
      fun hst => congrArg go (ceWindow_retired hst), ?_⟩
    · intro set eyes n hr hb hn hq
      refine ⟨fun he => ⟨_, (hwin set eyes x).trans (congrArg go (retrainWindow_trained (s := s.reach t) hr hb hn hq he set x)), ?_⟩,
        fun he => ⟨_, hwin set eyes x, retrainWindow_fails (s := s.reach t) hr hb hn hq he set x⟩⟩
      refine ⟨?_, fun q hne => ?_, ?_⟩
      · rw [trainedNow_mem, modPc_same]; rfl
      · rw [trainedNow_mem, modPc_other _ _ hne]; rfl
      · exact (logEv_quiet ((s.reach t).modPc p _) _ _ _ _).units.beside_mem (.refl _)
    · intro hst judged
      refine ⟨fun hn hj => congrArg go (ceWindow_below hst hn hj), fun hn ht hi => ?_⟩
      refine ⟨_, congrArg go (ceWindow_retrains hi.1 hn ht hi.2.1 hi.2.2.1 hi.2.2.2), modPc_same _ _ _,
        fun q hne => modPc_other _ _ hne, rfl⟩
  · intro s t
    refine ⟨fun b r hsr hw hrel => congrArg go (srEntry_enters hsr hw hrel), fun hsr hrel => ⟨_, rfl, srEntry_aborts hsr hrel⟩,
      fun hsr r => congrArg go (srEntry_none (s := s.reach t) hsr r), fun exits hsr hrel hsy hpw he => ?_, fun h exits => congrArg go (srLeave_held (s := s.reach t) h exits)⟩
    obtain ⟨hunits, hoff, hall⟩ := srLeave_exits (s := s.reach t) hsr hrel hsy hpw he exits
    exact ⟨(s.reach t).srLeave exits, rfl, hoff, hunits.tr, fun p hw => hall p hw⟩

end Sys2Proof.Machine
end

section
/-!
SUPPORT. What the loss of segments leaves of the controller and of the size of the pool, and what reading rows leaves of the patrol
(12 R301, R303; 13 R323, R325, R329).
-/

namespace Sys2Proof.Machine

/-! The pool. -/

/-- The controller and the number of pages stand. -/
structure KeepsPool (s u : State) : Prop where
  mem : u.mem = s.mem
  total : u.tr.total = s.tr.total

namespace KeepsPool
variable {s u v : State}

theorem refl : KeepsPool s s := ⟨rfl, rfl⟩

theorem trans (h : KeepsPool s u) (k : KeepsPool u v) : KeepsPool s v := ⟨k.mem.trans h.mem, k.total.trans h.total⟩

theorem ite {c : Prop} {i : Decidable c} (hu : KeepsPool s u) (hv : KeepsPool s v) : KeepsPool s (if c then u else v) := by
  split
  · exact hu
  · exact hv

theorem foldl {α : Type} {f : State → α → State} (hf : ∀ {a x}, KeepsPool s a → KeepsPool s (f a x)) {l : List α}
    (h : KeepsPool s u) : KeepsPool s (l.foldl f u) := by
  induction l generalizing u with
  | nil => exact h
  | cons x xs ih => exact ih (hf h)

theorem units (h : KeepsPool s u) (k : SameUnits u v) : KeepsPool s v := h.trans ⟨k.mem, congrArg Trellis.total k.tr⟩

theorem modCh {c : Fin 4} {g : Chan → Chan} (h : KeepsPool s u) : KeepsPool s (u.modCh c g) := ⟨h.mem, h.total⟩
theorem modHv {g : Harvest → Harvest} (h : KeepsPool s u) : KeepsPool s (u.modHv g) := ⟨h.mem, h.total⟩
theorem modOut {o : Fin 2} {g : Output → Output} (h : KeepsPool s u) : KeepsPool s (u.modOut o g) := ⟨h.mem, h.total⟩
theorem setFreeCtr {n : Nat} (h : KeepsPool s u) : KeepsPool s (u.setFreeCtr n) := ⟨h.mem, h.total⟩

theorem modTr {g : Trellis → Trellis} (h : KeepsPool s u) (hg : (g u.tr).total = u.tr.total) : KeepsPool s (u.modTr g) :=
  ⟨h.mem, hg.trans h.total⟩

theorem logEv {code sev scope : Nat} {data : List Byte} (h : KeepsPool s u) : KeepsPool s (u.logEv code sev scope data) :=
  h.units (logEv_quiet _ _ _ _ _).units

/-! Segments and pages (12 R291, R300 to R304). -/

theorem modSeg {c : Fin 4} {a i : Nat} {g : Seg → Seg} (h : KeepsPool s u) : KeepsPool s (u.modSeg c a i g) := .modTr h rfl
theorem storeWords {ps : List Nat} {w : Nat} {bs : List Byte} (h : KeepsPool s u) : KeepsPool s (u.storeWords ps w bs) := .modTr h rfl
theorem returnPages {ns : List Nat} (h : KeepsPool s u) : KeepsPool s (u.returnPages ns) := .modTr h rfl
theorem takePage {n k : Nat} {x : Use} (h : KeepsPool s u) : KeepsPool s (u.takePage n k x) := .modTr h rfl
theorem quotaCheck {c : Fin 4} (h : KeepsPool s u) : KeepsPool s (u.quotaCheck c) := .ite (.logEv (.modCh h)) h
theorem overQuotaCheck {c : Fin 4} (h : KeepsPool s u) : KeepsPool s (u.overQuotaCheck c) := .ite (.logEv (.modCh h)) h
theorem sweep {c : Fin 4} (h : KeepsPool s u) : KeepsPool s (u.sweep c) := .quotaCheck (.modTr (.returnPages h) rfl)
theorem dropSeg {c : Fin 4} {a i : Nat} (h : KeepsPool s u) : KeepsPool s (u.dropSeg c a i) := .sweep (.modTr h rfl)
theorem loseSeg {g : Seg} (h : KeepsPool s u) : KeepsPool s (u.loseSeg g) := .ite (.dropSeg h) (.modSeg h)
theorem keepAllWritten (h : KeepsPool s u) : KeepsPool s u.keepAllWritten := .setFreeCtr (.modHv h)

theorem storeDesc {g : Seg} (h : KeepsPool s u) : KeepsPool s (u.storeDesc g) := by
  unfold State.storeDesc
  split
  · exact h
  · exact .storeWords h

theorem poisonSeg {g : Seg} (h : KeepsPool s u) : KeepsPool s (u.poisonSeg g) := by
  unfold State.poisonSeg
  exact .ite (.storeDesc (.modSeg h)) (.modSeg h)

end KeepsPool

/-! What reads leave of the controller (13 R323, R325). -/

/-- A view of the controller that shows neither the pseudo-channels nor the count of poisoned words. -/
structure Blind {α : Type} (f : MemCtl → α) : Prop where
  pcs : ∀ (m : MemCtl) v, f { m with pcs := v } = f m
  poisoned : ∀ (m : MemCtl) n, f { m with poisoned := n } = f m

/-- What a view of the controller shows stands. -/
def Shows {α : Type} (f : MemCtl → α) (s u : State) : Prop := f u.mem = f s.mem

namespace Shows
variable {α : Type} {f : MemCtl → α} {s u v : State}

theorem refl : Shows f s s := rfl

theorem trans (h : Shows f s u) (k : Shows f u v) : Shows f s v := Eq.trans k h

theorem pool (h : Shows f s u) (k : KeepsPool u v) : Shows f s v := h.trans (congrArg f k.mem)

theorem ite {c : Prop} {i : Decidable c} (hu : Shows f s u) (hv : Shows f s v) : Shows f s (if c then u else v) := by
  split
  · exact hu
  · exact hv

theorem elim {β : Type} {o : Option β} {g : β → State} (h : Shows f s u) (hg : ∀ {x}, Shows f s (g x)) : Shows f s (o.elim u g) := by
  cases o with
  | none => exact h
  | some x => exact hg

theorem foldl {β : Type} {g : State → β → State} (hg : ∀ {a x}, Shows f s a → Shows f s (g a x)) {l : List β} (h : Shows f s u) :
    Shows f s (l.foldl g u) := by
  induction l generalizing u with
  | nil => exact h
  | cons x xs ih => exact ih (hg h)

/-- A write of the controller beside the view. -/
theorem note {g : MemCtl → MemCtl} (h : Shows f s u) (hg : f (g u.mem) = f u.mem) : Shows f s (u.modMem g) := h.trans hg

theorem logEv {code sev scope : Nat} {data : List Byte} (h : Shows f s u) : Shows f s (u.logEv code sev scope data) :=
  h.pool (.logEv .refl)

section
variable (hf : Blind f)
include hf

theorem modPc {p : Fin 32} {g : Pc → Pc} (h : Shows f s u) : Shows f s (u.modPc p g) := h.note (hf.pcs _ _)

theorem logUnc {p : Fin 32} {outcome page off : Nat} (h : Shows f s u) : Shows f s (u.logUnc p outcome page off) :=
  .ite (.logEv (.modPc hf h)) h

theorem poisonWord {p : Fin 32} {page off : Nat} (h : Shows f s u) : Shows f s (u.poisonWord p page off) := by
  unfold State.poisonWord
  split
  · exact h
  · extract_lets s1 lost s2
    have h1 : Shows f s s1 := (Shows.note (h.pool (.keepAllWritten .refl)) (hf.poisoned _ _)).pool (.modTr .refl rfl)
    have h2 : Shows f s s2 := .foldl (fun h => h.pool (.loseSeg .refl)) h1
    clear_value s2 lost
    cases lost with
    | nil => exact h2
    | cons g l => exact .logEv h2

theorem poisonGroup {p : Fin 32} {k w : Nat} {lost : List Nat} (h : Shows f s u) : Shows f s (u.poisonGroup p k w lost) := by
  unfold State.poisonGroup
  refine .ite h ?_
  extract_lets s1
  have h1 : Shows f s s1 := .foldl (fun h => .ite (.poisonWord hf h) (.note h (hf.poisoned _ _))) h
  exact .foldl (fun h => h.pool (.poisonSeg .refl)) h1

end

end Shows

/-! The patrol (13 R329). -/

/-- Where the patrol stands, what is queued for it, and what is queued for write-back. -/
def MemCtl.patrolled (m : MemCtl) : Nat × Nat × Nat × List (Nat × Nat) × List (Fin 32 × Nat) :=
  (m.scrubPc, m.scrubRow, m.passRows, m.queue, m.wbq)

theorem patrolled_blind : Blind MemCtl.patrolled := ⟨fun _ _ => rfl, fun _ _ => rfl⟩

/-- Retirement leaves the patrol. -/
theorem Shows.retire {s u : State} {p : Fin 32} {cause : Nat} (h : Shows MemCtl.patrolled s u) :
    Shows MemCtl.patrolled s (u.retire p cause) := by
  have hr : Retires p u (u.retire p cause) := .retire .refl
  exact h.trans (congrArg MemCtl.patrolled hr.mem.rest :)

/-- Where the patrol stands and what is queued for it. -/
def MemCtl.patrolAt (m : MemCtl) : Nat × Nat × Nat × List (Nat × Nat) := (m.scrubPc, m.scrubRow, m.passRows, m.queue)

theorem patrolAt_of {m n : MemCtl} (h : n.patrolled = m.patrolled) : n.patrolAt = m.patrolAt :=
  (congrArg (fun x => (x.1, x.2.1, x.2.2.1, x.2.2.2.1)) h :)

/-! Reads of rows (13 R323). -/

/-- A group counted, its losses poisoned and logged. -/
def State.groupLost (s : State) (p : Fin 32) (row : Nat) (r : RawGroup) : State :=
  let w := 112 * row + 7 * r.group
  let l := (s.decodeAt p row r).losses
  let s1 := s.countGroup p (s.decodeAt p row r)
  let slot := s.liveSlot p row
  let s2 := slot.elim s1 (fun k => s1.poisonGroup p k w l.2)
  let at_ := slot.elim (0xFFFFFFFF, 0) (fun k => pageOfWord k (w + l.2.headD 0))
  if l.2.isEmpty then s2 else s2.logUnc p l.1 at_.1 at_.2

/-- A group read up to the queue of write-back. -/
def State.groupTaken (s : State) (p : Fin 32) (row : Nat) (copy : Bool) (r : RawGroup) : State :=
  let l := (s.decodeAt p row r).losses
  let s3 := s.groupLost p row r
  if copy then s3.modMem (fun m => { m with mig := m.mig.map (fun g => { g with poisoned := g.poisoned + l.2.length }) })
  else if l.2.isEmpty then s3 else s3.retire p (if l.1 = 2 then 2 else 1)

/-- Whether a decoding corrected anything. -/
def GroupOut.mends (o : GroupOut) : Bool := o.corrected != 0 || o.check == .corrected

theorem readGroup_eq (s : State) (p : Fin 32) (row : Nat) (copy requeue : Bool) (r : RawGroup) : s.readGroup p row copy requeue r
    = if requeue && (s.decodeAt p row r).mends && !((s.groupTaken p row copy r).mem.wbq.contains (p, row)) then
        (s.groupTaken p row copy r).modMem (fun m => { m with wbq := m.wbq ++ [(p, row)] })
      else s.groupTaken p row copy r := rfl

theorem groupLost_shows {α : Type} {f : MemCtl → α} (hf : Blind f) (s : State) (p : Fin 32) (row : Nat) (r : RawGroup) :
    Shows f s (s.groupLost p row r) := by
  unfold State.groupLost
  extract_lets w l s1 slot s2 at_
  have h2 : Shows f s s2 := .elim (.modPc hf .refl) (.poisonGroup hf (.modPc hf .refl))
  exact .ite h2 (.logUnc hf h2)

theorem groupTaken_patrolled (s : State) (p : Fin 32) (row : Nat) (copy : Bool) (r : RawGroup) :
    Shows MemCtl.patrolled s (s.groupTaken p row copy r) := by
  have h := groupLost_shows patrolled_blind s p row r
  exact .ite (.note h rfl) (.ite h (.retire h))

theorem readGroup_patrolAt (s : State) (p : Fin 32) (row : Nat) (copy requeue : Bool) (r : RawGroup) :
    (s.readGroup p row copy requeue r).mem.patrolAt = s.mem.patrolAt := by
  have h := patrolAt_of (groupTaken_patrolled s p row copy r)
  rw [readGroup_eq]
  split
  · exact h
  · exact h

theorem readRow_patrolAt (s : State) (p : Fin 32) (row : Nat) (copy requeue : Bool) (raw : List RawGroup) :
    (s.readRow p row copy requeue raw).mem.patrolAt = s.mem.patrolAt := by
  induction raw generalizing s with
  | nil => rfl
  | cons r rs ih => exact (ih _).trans (readGroup_patrolAt s p row copy requeue r)

/-- Rows that are not queued leave the queue of write-back too. -/
theorem readRow_patrolled (s : State) (p : Fin 32) (row : Nat) (copy : Bool) (raw : List RawGroup) :
    Shows MemCtl.patrolled s (s.readRow p row copy false raw) := by
  induction raw generalizing s with
  | nil => rfl
  | cons r rs ih =>
    have h : s.readGroup p row copy false r = s.groupTaken p row copy r := by
      rw [readGroup_eq, Bool.false_and, Bool.false_and, if_neg Bool.false_ne_true]
    rw [State.readRow, List.foldl_cons, h]
    exact (groupTaken_patrolled s p row copy r).trans (ih (s.groupTaken p row copy r))

theorem scrubRowOf_patrolAt (s : State) (p : Fin 32) (row : Nat) (raw : List RawGroup) :
    (s.scrubRowOf p row raw).mem.patrolAt = s.mem.patrolAt := readRow_patrolAt s p row false true raw

end Sys2Proof.Machine
end

section
/-!
SUPPORT. Reads of groups, patrol scrub and write-back (13 R323, R325, R329, R343).
-/

namespace Sys2Proof.Machine

/-- Without an entry to self-refresh that it would abort, a request aborts nothing. -/
theorem srAbort_held {s : State} (h : s.srAborts = false) : s.srAbort = s := if_neg (Bool.eq_false_iff.mp h)

/-! GROUP_READ (13 R323). -/

theorem exec_groupRead {s : State} (h : s.srAborts = false) (t : Nat) (p : Fin 32) (row : Nat) (raw : List RawGroup) (copy : Bool) :
    exec (.groupRead t p row raw copy) s = .next ((s.reach t).groupRead p row raw copy) := by
  have ha : (s.reach t).srAbort = s.reach t := srAbort_held h
  change go ((if (s.reach t).memServes then (s.reach t).srAbort else s.reach t).groupRead p row raw copy) = _
  rw [ha, ite_self]
  rfl

theorem groupRead_unserved {s : State} {p : Fin 32} (h : (s.pcWorks p && s.memServes) = false) (row : Nat) (raw : List RawGroup)
    (copy : Bool) : s.groupRead p row raw copy = s := by
  refine if_pos ?_
  cases hw : s.pcWorks p with
  | false => rfl
  | true => rw [hw, Bool.true_and] at h; rw [h]; rfl

theorem groupRead_serves {s : State} {p : Fin 32} (hp : s.pcWorks p = true) (hm : s.memServes = true) {row : Nat} (hr : row < pcRows)
    (raw : List RawGroup) : s.groupRead p row raw false = s.readRow p row false true raw := by
  simp only [State.groupRead, hp, hm, Nat.not_le.mpr hr, decide_false, Bool.not_true, Bool.or_self, Bool.false_eq_true, if_false]

theorem groupRead_copies {s : State} {p : Fin 32} (hp : s.pcWorks p = true) (hm : s.memServes = true) {row : Nat} (hr : row < pcRows)
    {g : Migration} (hg : s.mem.mig = some g) (hfrom : g.from_ = p) (hptr : g.ptr = row) (hb : s.memBackground = true)
    (raw : List RawGroup) : s.groupRead p row raw true
      = (s.readRow p row true false raw).modMem (fun m => { m with mig := m.mig.map (fun x => { x with ptr := row + 1 }) }) := by
  have hgo : g.from_ = p ∧ g.ptr = row ∧ s.memBackground = true := ⟨hfrom, hptr, hb⟩
  simp only [State.groupRead, hp, hm, Nat.not_le.mpr hr, decide_false, Bool.not_true, Bool.or_self, Bool.false_eq_true, if_false, if_true,
    hg, hgo, and_self]

/-- A read that loses nothing counts. -/
theorem groupTaken_lossless {s : State} {p : Fin 32} {row : Nat} {r : RawGroup} (h : (s.decodeAt p row r).losses.2 = []) :
    s.groupTaken p row false r = s.countGroup p (s.decodeAt p row r) := by
  simp only [State.groupTaken, State.groupLost, h, List.isEmpty_nil, if_true, Bool.false_eq_true, if_false]
  cases s.liveSlot p row <;> rfl

/-- A read that loses nothing: it counts, and its row is queued when something was corrected. -/
theorem readRow_lossless {s : State} {p : Fin 32} {row : Nat} {r : RawGroup} (h : (s.decodeAt p row r).losses.2 = []) :
    s.readRow p row false true [r]
      = if (s.decodeAt p row r).mends = true ∧ (p, row) ∉ s.mem.wbq then
          (s.countGroup p (s.decodeAt p row r)).modMem (fun m => { m with wbq := m.wbq ++ [(p, row)] })
        else s.countGroup p (s.decodeAt p row r) := by
  have hq : (s.countGroup p (s.decodeAt p row r)).mem.wbq = s.mem.wbq := rfl
  have hc : s.mem.wbq.contains (p, row) = decide ((p, row) ∈ s.mem.wbq) := List.contains_eq_mem _ _
  rw [State.readRow, List.foldl_cons, List.foldl_nil, readGroup_eq, groupTaken_lossless h, hq, hc, Bool.true_and]
  simp only [Bool.and_eq_true, Bool.not_eq_true', decide_eq_false_iff_not]

/-- What such a read writes. -/
theorem readRow_counts {s : State} {p : Fin 32} {row : Nat} {r : RawGroup} (h : (s.decodeAt p row r).losses.2 = []) :
    let u := s.readRow p row false true [r]
    u.mem.pcs[p].corrected = s.mem.pcs[p].corrected + (s.decodeAt p row r).corrected ∧ u.tr = s.tr ∧ u.ch = s.ch
      ∧ (∀ q, q ≠ p → u.mem.pcs[q] = s.mem.pcs[q])
      ∧ u.mem.wbq = (if (s.decodeAt p row r).mends = true ∧ (p, row) ∉ s.mem.wbq then s.mem.wbq ++ [(p, row)] else s.mem.wbq) := by
  have hpc : (s.countGroup p (s.decodeAt p row r)).mem.pcs[p].corrected = s.mem.pcs[p].corrected + (s.decodeAt p row r).corrected :=
    congrArg Pc.corrected (modPc_same _ _ _)
  have ho (q : Fin 32) (hne : q ≠ p) : (s.countGroup p (s.decodeAt p row r)).mem.pcs[q] = s.mem.pcs[q] := modPc_other _ _ hne
  rw [readRow_lossless h]
  split
  · exact ⟨hpc, rfl, rfl, ho, rfl⟩
  · exact ⟨hpc, rfl, rfl, ho, rfl⟩

/-! What a copy loses is poisoned (13 R325, R335). -/

/-- No descriptor is written in memory. -/
def State.unwritten (s : State) : Prop := ∀ x ∈ s.tr.segs, x.written = false

/-- While no descriptor is written: none is, the pages in use are the same, and poison stays. -/
structure Poisons (s u : State) : Prop where
  unwritten : u.unwritten
  used : ∀ n, u.pageUsed n = s.pageUsed n
  poison : ∀ w ∈ s.tr.poison, w ∈ u.tr.poison

namespace Poisons
variable {s u v : State}

theorem refl (h : s.unwritten) : Poisons s s := ⟨h, fun _ => rfl, fun _ => id⟩

theorem trans (h : Poisons s u) (k : Poisons u v) : Poisons s v :=
  ⟨k.unwritten, fun n => (k.used n).trans (h.used n), fun w hw => k.poison w (h.poison w hw)⟩

/-- The trellis stands. -/
theorem same (h : Poisons s u) (k : v.tr = u.tr) : Poisons s v := by
  refine h.trans ⟨?_, fun n => ?_, fun w hw => by rwa [k]⟩
  · intro x hx; rw [k] at hx; exact h.unwritten x hx
  · simp only [State.pageUsed, k]

end Poisons

theorem descsIn_unwritten {s : State} (h : s.unwritten) (page off : Nat) : s.descsIn page off = [] := by
  refine List.filter_eq_nil_iff.mpr fun g hg => ?_
  rw [h g hg]
  exact Bool.false_ne_true

/-- Poisoning of a word while no descriptor is written. -/
theorem poisonWord_poisons {s : State} (h : s.unwritten) (p : Fin 32) (page off : Nat) :
    Poisons s (s.poisonWord p page off) ∧ page * 4096 + off ∈ (s.poisonWord p page off).tr.poison := by
  unfold State.poisonWord
  rw [descsIn_unwritten h]
  split
  next hin => exact ⟨.refl h, List.contains_iff_mem.mp hin⟩
  next =>
    refine ⟨⟨h, fun n => ?_, fun w hw => List.mem_cons_of_mem _ hw⟩, List.mem_cons_self⟩
    have hnum (q : Page) : ((if q.num == page then { q with poison := true } else q).num == n) = (q.num == n) := by split <;> rfl
    change (List.map _ s.tr.pages).any _ = s.tr.pages.any _
    simp only [List.any_map, Function.comp_def, hnum]

/-- Poisoning of a segment whose descriptor is not written. -/
theorem poisonSeg_poisons {s : State} (h : s.unwritten) {g : Seg} (hg : g.written = false) : Poisons s (s.poisonSeg g) := by
  have hx : s.poisonSeg g = s.modSeg g.ch g.acq g.idx (fun x => { x with poisoned := true }) :=
    if_neg (by rw [hg]; exact Bool.false_ne_true)
  rw [hx]
  refine ⟨fun x hx => ?_, fun _ => rfl, fun _ => id⟩
  obtain ⟨y, hy, rfl⟩ := List.mem_map.mp hx
  have hy' := h y hy
  split
  · exact hy'
  · exact hy'

theorem foldl_poisonSeg {l : List Seg} (hl : ∀ g ∈ l, g.written = false) {s : State} (h : s.unwritten) :
    Poisons s (l.foldl (fun a g => a.poisonSeg g) s) := by
  induction l generalizing s with
  | nil => exact .refl h
  | cons g l ih =>
    have hg := poisonSeg_poisons h (hl g List.mem_cons_self)
    exact hg.trans (ih (fun x hx => hl x (List.mem_cons_of_mem _ hx)) hg.unwritten)

/-- One word of a group lost: poisoned when its page is in use, else counted. -/
def State.poisonAt (s : State) (p : Fin 32) (k w : Nat) (i : Nat) : State :=
  if s.pageUsed (pageOfWord k (w + i)).1 then s.poisonWord p (pageOfWord k (w + i)).1 (pageOfWord k (w + i)).2
  else s.modMem (fun m => { m with poisoned := m.poisoned + 1 })

/-- The address of a word of a slot's data in the poison. -/
def wordOf (k w : Nat) : Nat := (pageOfWord k w).1 * 4096 + (pageOfWord k w).2

theorem poisonAt_poisons {s : State} (h : s.unwritten) (p : Fin 32) (k w i : Nat) : Poisons s (s.poisonAt p k w i)
    ∧ (s.pageUsed (pageOfWord k (w + i)).1 = true → wordOf k (w + i) ∈ (s.poisonAt p k w i).tr.poison) := by
  unfold State.poisonAt
  split
  · have hp := poisonWord_poisons h p (pageOfWord k (w + i)).1 (pageOfWord k (w + i)).2
    exact ⟨hp.1, fun _ => hp.2⟩
  next hno => exact ⟨(Poisons.refl h).same rfl, fun hu => absurd hu hno⟩

theorem foldl_poisonAt (p : Fin 32) (k w : Nat) (l : List Nat) {s : State} (h : s.unwritten) :
    let u := l.foldl (fun a i => a.poisonAt p k w i) s
    Poisons s u ∧ ∀ i ∈ l, s.pageUsed (pageOfWord k (w + i)).1 = true → wordOf k (w + i) ∈ u.tr.poison := by
  induction l generalizing s with
  | nil => exact ⟨.refl h, fun i hi => absurd hi List.not_mem_nil⟩
  | cons j l ih =>
    obtain ⟨hj, hin⟩ := poisonAt_poisons h p k w j
    obtain ⟨hl, hall⟩ := ih hj.unwritten
    refine ⟨hj.trans hl, fun i hi hu => ?_⟩
    rcases List.mem_cons.mp hi with rfl | hi
    · exact hl.poison _ (hin hu)
    · exact hall i hi (by rwa [hj.used])

/-- The words of a group that are lost and lie in pages in use are poisoned. -/
theorem poisonGroup_poisons {s : State} (h : s.unwritten) (p : Fin 32) (k w : Nat) (lost : List Nat) :
    Poisons s (s.poisonGroup p k w lost)
      ∧ ∀ i ∈ lost, s.pageUsed (pageOfWord k (w + i)).1 = true → wordOf k (w + i) ∈ (s.poisonGroup p k w lost).tr.poison := by
  obtain ⟨hw, hall⟩ := foldl_poisonAt p k w lost h
  unfold State.poisonGroup
  split
  next he => exact ⟨.refl h, fun i hi => absurd hi (by rw [List.isEmpty_iff.mp he]; exact List.not_mem_nil)⟩
  next =>
    have hs := foldl_poisonSeg (l := (lost.foldl (fun a i => a.poisonAt p k w i) s).tr.segs.filter
      (fun g => (List.range 7).any (fun i => g.holds (pageOfWord k (w + i)).1 (pageOfWord k (w + i)).2)))
      (fun g hg => hw.unwritten g (List.mem_of_mem_filter hg)) hw.unwritten
    exact ⟨hw.trans hs, fun i hi hu => hs.poison _ (hall i hi hu)⟩

theorem logUnc_tr (s : State) (p : Fin 32) (outcome page off : Nat) : (s.logUnc p outcome page off).tr = s.tr := by
  unfold State.logUnc
  split
  · exact (logEv_quiet _ _ _ _ _).units.tr
  · rfl

/-- What a group that is read from slot `k` loses is poisoned. -/
theorem groupLost_poisons {s : State} (h : s.unwritten) {p : Fin 32} {row k : Nat} (hk : s.liveSlot p row = some k) (r : RawGroup) :
    ∀ i ∈ (s.decodeAt p row r).losses.2, s.pageUsed (pageOfWord k (112 * row + 7 * r.group + i)).1 = true →
      wordOf k (112 * row + 7 * r.group + i) ∈ (s.groupLost p row r).tr.poison := by
  intro i hi hu
  have hp := (poisonGroup_poisons (s := s.countGroup p (s.decodeAt p row r)) h p k (112 * row + 7 * r.group)
    (s.decodeAt p row r).losses.2).2 i hi hu
  unfold State.groupLost
  rw [hk]
  simp only [Option.elim_some]
  split
  · exact hp
  · rw [logUnc_tr]; exact hp

/-- A migration's copy of a group moves its pointer on, and poisons what it lost. -/
theorem readRow_copies {s : State} (h : s.unwritten) {p : Fin 32} {row k : Nat} (hk : s.liveSlot p row = some k) {g : Migration}
    (hg : s.mem.mig = some g) (r : RawGroup) :
    let u := (s.readRow p row true false [r]).modMem (fun m => { m with mig := m.mig.map (fun x => { x with ptr := row + 1 }) })
    u.mem.mig.map (·.ptr) = some (row + 1)
      ∧ ∀ i ∈ (s.decodeAt p row r).losses.2, s.pageUsed (pageOfWord k (112 * row + 7 * r.group + i)).1 = true →
        wordOf k (112 * row + 7 * r.group + i) ∈ u.tr.poison := by
  have hx : s.readRow p row true false [r] = (s.groupLost p row r).modMem (fun m => { m with
      mig := m.mig.map (fun g => { g with poisoned := g.poisoned + (s.decodeAt p row r).losses.2.length }) }) := by
    rw [State.readRow, List.foldl_cons, List.foldl_nil, readGroup_eq, Bool.false_and, Bool.false_and, if_neg Bool.false_ne_true]
    rfl
  have hm : (s.groupLost p row r).mem.mig = some g :=
    Eq.trans (groupLost_shows (f := MemCtl.mig) ⟨fun _ _ => rfl, fun _ _ => rfl⟩ s p row r) hg
  rw [hx]
  refine ⟨?_, groupLost_poisons h hk r⟩
  simp only [State.modMem, State.setMem, hm, Option.map_some]

/-! PATROL_SCRUB and WRITE_BACK (13 R329). -/

theorem exec_patrolScrub {s : State} (h : s.srAborts = false) (t : Nat) (raw : List RawGroup) :
    exec (.patrolScrub t raw) s = .next ((s.reach t).patrol raw) := by
  have ha : (s.reach t).srAbort = s.reach t := srAbort_held h
  change go ((if (s.reach t).memBackground then (s.reach t).srAbort else s.reach t).patrol raw) = _
  rw [ha, ite_self]
  rfl

theorem exec_writeBack {s : State} (h : s.srAborts = false) (t : Nat) (raw : List RawGroup) :
    exec (.writeBack t raw) s = .next ((s.reach t).writeBack raw) := by
  have ha : (s.reach t).srAbort = s.reach t := srAbort_held h
  change go ((if (s.reach t).memBackground && !(s.reach t).mem.wbq.isEmpty then (s.reach t).srAbort else s.reach t).writeBack raw) = _
  rw [ha, ite_self]
  rfl

theorem patrol_idle {s : State} (h : s.memBackground = false) (raw : List RawGroup) : s.patrol raw = s :=
  if_pos (by rw [h]; rfl)

theorem writeBack_idle {s : State} (h : s.memBackground = false) (raw : List RawGroup) : s.writeBack raw = s :=
  if_pos (by rw [h]; rfl)

theorem writeBack_empty {s : State} (h : s.mem.wbq = []) (raw : List RawGroup) : s.writeBack raw = s := by
  unfold State.writeBack
  rw [h]
  exact ite_self s

/-- The patrol reads the next row of its pass. -/
theorem patrol_advances {s : State} (hb : s.memBackground = true) (hq : s.mem.queue = [])
    (hw : s.pcWorks (Fin.ofNat 32 s.mem.scrubPc) = true) (hr : s.mem.scrubRow + 1 < pcRows) (raw : List RawGroup) :
    let u := s.patrol raw
    u.mem.scrubPc = s.mem.scrubPc ∧ u.mem.scrubRow = s.mem.scrubRow + 1 ∧ u.mem.passRows = wrapAdd 32 s.mem.passRows 1
      ∧ u.mem.queue = [] := by
  have h := scrubRowOf_patrolAt s (Fin.ofNat 32 s.mem.scrubPc) s.mem.scrubRow raw
  have hx : s.patrol raw = (s.scrubRowOf (Fin.ofNat 32 s.mem.scrubPc) s.mem.scrubRow raw).advanceScrub := by
    have hs : s.seekScrub = s := if_pos hw
    simp only [State.patrol, hb, hq, hs, Bool.not_true, Bool.false_eq_true, if_false]
  rw [hx]
  generalize s.scrubRowOf (Fin.ofNat 32 s.mem.scrubPc) s.mem.scrubRow raw = v at h ⊢
  simp only [MemCtl.patrolAt, Prod.mk.injEq] at h
  obtain ⟨hpc, hrow, hrows, hqueue⟩ := h
  have hv : v.advanceScrub = v.modMem (fun x => { x with scrubRow := x.scrubRow + 1, passRows := wrapAdd 32 x.passRows 1 }) :=
    if_pos (by rw [hrow]; exact hr)
  rw [hv]
  exact ⟨hpc, congrArg (· + 1) hrow, congrArg (wrapAdd 32 · 1) hrows, hqueue.trans hq⟩

/-- A row of a queued page. -/
theorem patrol_queued {s : State} (hb : s.memBackground = true) {q n : Nat} {rest : List (Nat × Nat)} (hq : s.mem.queue = (q, n) :: rest)
    (raw : List RawGroup) : (s.patrol raw).mem.queue = (if n + 1 < (pageRows q).2 then (q, n + 1) :: rest else rest)
      ∧ (s.patrol raw).mem.scrubRow = s.mem.scrubRow := by
  have hx : s.patrol raw = ((s.livePc (q / slotPages) ((pageRows q).1 + n)).elim s (fun p => s.scrubRowOf p ((pageRows q).1 + n) raw)).modMem
      (fun m => { m with queue := if n + 1 < (pageRows q).2 then (q, n + 1) :: rest else rest }) := by
    simp only [State.patrol, hb, hq, Bool.not_true, Bool.false_eq_true, if_false]
  rw [hx]
  refine ⟨rfl, ?_⟩
  cases s.livePc (q / slotPages) ((pageRows q).1 + n) with
  | none => rfl
  | some p => exact (congrArg (·.2.1) (scrubRowOf_patrolAt s p ((pageRows q).1 + n) raw) :)

/-- A queued row is written back. -/
theorem writeBack_takes {s : State} (hb : s.memBackground = true) {e : Fin 32 × Nat} {rest : List (Fin 32 × Nat)}
    (hq : s.mem.wbq = e :: rest) (raw : List RawGroup) :
    (s.writeBack raw).mem.wbq = rest ∧ (s.writeBack raw).mem.scrubRow = s.mem.scrubRow := by
  have hx : s.writeBack raw = if s.pcWorks e.1 then (s.modMem fun m => { m with wbq := rest }).readRow e.1 e.2 false false raw
      else s.modMem fun m => { m with wbq := rest } := by
    simp only [State.writeBack, hb, hq, Bool.not_true, Bool.false_eq_true, if_false]
  have h := readRow_patrolled (s.modMem fun m => { m with wbq := rest }) e.1 e.2 false raw
  rw [hx]
  split
  · exact ⟨(congrArg (·.2.2.2.2) h :), (congrArg (·.2.1) h :)⟩
  · exact ⟨rfl, rfl⟩

/-! SCRUB_CONTROL (13 R343). -/

section
variable {r : Req} {s : State}

theorem scrubBody_status (hz : fieldAt r.payload 1 3 = 0) (hz' : fieldAt r.payload 12 4 = 0) (hop : fieldAt r.payload 0 1 = 0)
    (hf : fieldAt r.payload 4 4 = 0) (hn : fieldAt r.payload 8 4 = 0) : scrubBody r s = answers s.scrubStatus s := by
  simp [scrubBody, hz, hz', hop, hf, hn]

theorem scrubBody_queues (hz : fieldAt r.payload 1 3 = 0) (hz' : fieldAt r.payload 12 4 = 0) (hop : fieldAt r.payload 0 1 = 1)
    (h1 : 1 ≤ fieldAt r.payload 8 4) (h2 : fieldAt r.payload 8 4 ≤ 65536)
    (hex : s.pagesExist (fieldAt r.payload 4 4) (fieldAt r.payload 8 4) = true) (hroom : s.mem.queue.length + fieldAt r.payload 8 4 ≤ 65536) :
    ∃ bs, scrubBody r s = answers bs (s.modMem fun m => { m with
      queue := m.queue ++ (List.range (fieldAt r.payload 8 4)).map (fun i => (fieldAt r.payload 4 4 + i, 0)) }) := by
  have hn : ¬ (fieldAt r.payload 8 4 < 1 ∨ 65536 < fieldAt r.payload 8 4) := by omega
  have hroom' : ¬ 65536 < s.mem.queue.length + fieldAt r.payload 8 4 := by omega
  simp only [scrubBody, hz, hz', hop, hex, hn, hroom', le_refl, decide_true, Bool.not_true, bne_self_eq_false, Bool.or_self,
    Bool.false_eq_true, if_false, one_ne_zero]
  exact ⟨_, rfl⟩

end

/-- Settles O39: what decoding leaves of the controller is what a view sees that shows neither the pseudo-channels nor the count of poisoned
words (`Shows`), and retirement, which a loss brings, leaves the patrol. -/
theorem groupsAndScrub : Obligations.GroupsAndScrub := by
  refine ⟨?_, ?_, ?_⟩
  · intro s t row p r o fixed
    refine ⟨fun h hno raw copy => ?_, fun hp hm hno hr hl => ?_, fun g k hp hm hno hr hb hg hfrom hptr hk hw => ?_⟩
    · exact (exec_groupRead hno t p row raw copy).trans (congrArg go (groupRead_unserved (s := s.reach t) h row raw copy))
    · exact ⟨_, (exec_groupRead hno t p row [r] false).trans (congrArg go (groupRead_serves (s := s.reach t) hp hm hr [r])),
        readRow_counts (s := s.reach t) hl⟩
    · exact ⟨_, (exec_groupRead hno t p row [r] true).trans (congrArg go (groupRead_copies (s := s.reach t) hp hm hr hg hfrom hptr hb [r])),
        readRow_copies (s := s.reach t) hw hk hg r⟩
  · intro s t raw hno
    have hp := exec_patrolScrub hno t raw
    have hw := exec_writeBack hno t raw
    exact ⟨fun h => ⟨hp.trans (congrArg go (patrol_idle (s := s.reach t) h raw)), hw.trans (congrArg go (writeBack_idle (s := s.reach t) h raw))⟩,
      fun hb hq hk hr => ⟨_, hp, patrol_advances (s := s.reach t) hb hq hk hr raw⟩,
      fun hb q n rest hq => ⟨_, hp, patrol_queued (s := s.reach t) hb hq raw⟩,
      fun hb e rest hq => ⟨_, hw, writeBack_takes (s := s.reach t) hb hq raw⟩,
      fun hq => hw.trans (congrArg go (writeBack_empty (s := s.reach t) hq raw))⟩
  · intro s t m hr b hz hz'
    refine ⟨fun hop hf hn => ?_, fun hop h1 h2 hex hroom => ?_⟩
    · have hst := command_replies hr (scrubBody_status (s := s.reach t) hz hz' hop hf hn) rfl
      exact hst
    obtain ⟨bs, hb⟩ := scrubBody_queues (s := s.reach t) hz hz' hop h1 h2 hex hroom
    refine (command_replies hr hb rfl).mono fun u h => ?_
    obtain ⟨hreply, hunits, hset⟩ := h
    exact ⟨⟨bs, hreply⟩, hunits.mem, hunits.beside_mem (.refl _), hset⟩

end Sys2Proof.Machine
end

section
/-!
SUPPORT. Retirement, migration, capacity reduction and restoring of pseudo-channels (13 R317, R334 to R337, R341, R342).
-/

namespace Sys2Proof.Machine

/-! What the end of retraining leaves of the controller: all but retraining itself. -/

/-- Of the controller at most what retrains and what waits for it differs. -/
structure Retrains (m n : MemCtl) : Prop where
  rest : { n with pcs := m.pcs, retrainQ := m.retrainQ } = m
  pcs : ∀ q : Fin 32, { n.pcs[q] with retrain := none } = { m.pcs[q] with retrain := none }

namespace Retrains
variable {m n o : MemCtl}

theorem refl : Retrains m m := ⟨rfl, fun _ => rfl⟩

theorem trans (h : Retrains m n) (k : Retrains n o) : Retrains m o :=
  ⟨(congrArg (fun x : MemCtl => { x with pcs := m.pcs, retrainQ := m.retrainQ }) k.rest :).trans h.rest, fun q => (k.pcs q).trans (h.pcs q)⟩

/-- State and cause of a pseudo-channel stand. -/
theorem st (h : Retrains m n) (q : Fin 32) : n.pcs[q].st = m.pcs[q].st := (congrArg Pc.st (h.pcs q) :)

theorem cause (h : Retrains m n) (q : Fin 32) : n.pcs[q].cause = m.pcs[q].cause := (congrArg Pc.cause (h.pcs q) :)

end Retrains

/-- A write of one pseudo-channel's retraining. -/
theorem retrains_modPc (s : State) (p : Fin 32) {g : Pc → Pc} (hg : ∀ y, { g y with retrain := none } = { y with retrain := none }) :
    Retrains s.mem (s.modPc p g).mem :=
  ⟨rfl, modPc_forall (P := fun r x => { x with retrain := none } = { s.mem.pcs[r] with retrain := none }) (hg _) fun _ _ => rfl⟩

theorem nextRetrain_retrains (s : State) (p : Fin 32) : Retrains s.mem (s.nextRetrain p).mem := by
  unfold State.nextRetrain
  split
  · exact .refl
  · split
    · exact .refl
    next q _ =>
      have hq : Retrains s.mem (s.modMem fun m => { m with retrainQ := m.retrainQ.filter (fun r => r != q) }).mem := ⟨rfl, fun _ => rfl⟩
      exact hq.trans (retrains_modPc _ q fun _ => rfl)

theorem endRetrain_retrains (s : State) (p : Fin 32) : Retrains s.mem (s.endRetrain p).mem := by
  have h1 := retrains_modPc s p (g := fun x => { x with retrain := none }) fun _ => rfl
  have h2 : Retrains (s.modPc p fun x => { x with retrain := none }).mem ((s.modPc p fun x => { x with retrain := none }).modMem fun m =>
      { m with retrainQ := m.retrainQ.filter (fun r => r != p) }).mem := ⟨rfl, fun _ => rfl⟩
  exact (h1.trans h2).trans (nextRetrain_retrains _ p)

/-! A pseudo-channel is marked retired (13 R317). -/

/-- The mark of a retired pseudo-channel, and the record. -/
def State.markRetired (s : State) (p : Fin 32) (cause : Nat) : State :=
  (s.modPc p (fun x => { x with st := .retired, cause := cause })).modMem (fun m => { m with
    record := if m.record.contains p then m.record else m.record ++ [p] })

theorem setRetired_mem (s : State) (p : Fin 32) (cause : Nat) : Retrains (s.markRetired p cause).mem (s.setRetired p cause).mem := by
  have hd : (s.setRetired p cause).mem = ((s.markRetired p cause).endRetrain p).mem := OnlyDomains.mem (.syncDomains .refl)
  rw [hd]
  exact endRetrain_retrains _ p

/-- The pseudo-channel is retired with its cause, and on the record; the others keep their state. -/
theorem setRetired_retires (s : State) (p : Fin 32) (cause : Nat) : (s.setRetired p cause).mem.pcs[p].st = .retired
    ∧ (s.setRetired p cause).mem.pcs[p].cause = cause ∧ p ∈ (s.setRetired p cause).mem.record
    ∧ ∀ q, q ≠ p → (s.setRetired p cause).mem.pcs[q].st = s.mem.pcs[q].st := by
  have h := setRetired_mem s p cause
  have hp : (s.markRetired p cause).mem.pcs[p] = { s.mem.pcs[p] with st := .retired, cause := cause } :=
    modPc_same s p fun x => { x with st := .retired, cause := cause }
  refine ⟨(h.st p).trans (by rw [hp]), (h.cause p).trans (by rw [hp]), ?_, fun q hq => ?_⟩
  · rw [show (s.setRetired p cause).mem.record = (s.markRetired p cause).mem.record from (congrArg MemCtl.record h.rest :)]
    change p ∈ if s.mem.record.contains p then s.mem.record else s.mem.record ++ [p]
    split
    next hin => exact List.contains_iff_mem.mp hin
    next => exact List.mem_append_right _ List.mem_cons_self
  · refine (h.st q).trans ?_
    rw [show (s.markRetired p cause).mem.pcs[q] = s.mem.pcs[q] from
      modPc_other s (fun x => { x with st := .retired, cause := cause }) hq]

/-- A view of the controller that shows neither the pseudo-channels, nor the record, nor who waits to retrain. -/
def Aside {α : Type} (f : MemCtl → α) : Prop := ∀ (m : MemCtl) v q r, f { m with pcs := v, retrainQ := q, record := r } = f m

/-- Such a view does not see a retirement. -/
theorem setRetired_shows {α : Type} {f : MemCtl → α} (hf : Aside f) (s : State) (p : Fin 32) (cause : Nat) : f (s.setRetired p cause).mem = f s.mem := by
  have h := (setRetired_mem s p cause).rest
  calc f (s.setRetired p cause).mem
      = f { (s.setRetired p cause).mem with pcs := (s.markRetired p cause).mem.pcs, retrainQ := (s.markRetired p cause).mem.retrainQ } :=
        (hf _ _ _ _).symm
    _ = f (s.markRetired p cause).mem := congrArg f h
    _ = f s.mem := hf s.mem (s.markRetired p cause).mem.pcs s.mem.retrainQ (s.markRetired p cause).mem.record

theorem setRetired_units (s : State) (p : Fin 32) (cause : Nat) : OnlyMemory s (s.setRetired p cause) :=
  (Retires.setRetired (p := p) (cause := cause) .refl).units

/-! Migration begins (13 R334, R335). -/

/-- The marks of a migration of `p` to the spare `q`. -/
def State.markMig (s : State) (p q : Fin 32) (cause : Nat) : State :=
  (s.modPc p (fun x => { x with st := .migFrom, cause := cause })).modPc q (fun x => { x with st := .migTo })

/-- The migration of `p` to the spare `q` as it begins. -/
def State.migrates (s : State) (p q : Fin 32) (cause : Nat) : State :=
  (s.markMig p q cause).modMem (fun m => { m with
    mig := some ⟨p, q, 0, cause, 0, s.boundaryFrom (s.clk + 1), s.mem.pcs[p].cause, s.mem.pcs[p].st⟩ })

theorem startRetire_mem {s : State} {p q : Fin 32} (h : s.spareFor p = some q) (cause : Nat) :
    Retrains (s.migrates p q cause).mem (s.startRetire p cause).mem := by
  have hx : s.startRetire p cause = (((s.migrates p q cause).endRetrain p).endRetrain q).logEvAt (s.boundaryFrom (s.clk + 1)) 0x0B05
      sevWarning 0 (memData p q.val 0xFFFFFFFF cause) := by
    simp only [State.startRetire, h]
    rfl
  rw [hx, (logEvAt_quiet _ _ _ _ _ _).units.mem]
  exact (endRetrain_retrains _ p).trans (endRetrain_retrains _ q)

theorem startRetire_migrates {s : State} {p q : Fin 32} (h : s.spareFor p = some q) (hne : p ≠ q) (cause : Nat) :
    let u := s.startRetire p cause
    u.mem.mig = some ⟨p, q, 0, cause, 0, s.boundaryFrom (s.clk + 1), s.mem.pcs[p].cause, s.mem.pcs[p].st⟩
      ∧ u.mem.pcs[p].st = .migFrom ∧ u.mem.pcs[q].st = .migTo ∧ u.mem.slots = s.mem.slots := by
  have hm := startRetire_mem h cause
  have hp : (s.migrates p q cause).mem.pcs[p] = { s.mem.pcs[p] with st := .migFrom, cause := cause } := by
    change (s.markMig p q cause).mem.pcs[p] = _
    rw [State.markMig, modPc_other _ _ hne, modPc_same]
  have hq : (s.migrates p q cause).mem.pcs[q].st = .migTo := by
    change (s.markMig p q cause).mem.pcs[q].st = _
    rw [State.markMig, modPc_same]
  exact ⟨(congrArg MemCtl.mig hm.rest :), (hm.st p).trans (by rw [hp]), (hm.st q).trans hq, (congrArg MemCtl.slots hm.rest :)⟩

theorem boundaryFrom_next (s : State) : s.clk < s.boundaryFrom (s.clk + 1) ∧ s.boundaryFrom (s.clk + 1) ≤ s.clk + 4 := by
  unfold State.boundaryFrom
  omega

/-! RETIRE_PC (13 R342). -/

/-- The payload of RETIRE_PC is in range. -/
def RetireForm (b : List Byte) : Prop := fieldAt b 0 1 ≤ 31 ∧ fieldAt b 1 1 ≤ 1 ∧ fieldAt b 2 1 ≤ 1 ∧ allZero (b.drop 3) = true

section
variable {r : Req} {s : State}

theorem retirePcBody_malformed (h : ¬ RetireForm r.payload) : retirePcBody r s = fails eParam s := by
  refine if_pos ?_
  by_contra hno
  simp only [Bool.or_eq_true, Bool.not_eq_true', decide_eq_false_iff_not, not_or, not_not, Bool.not_eq_false] at hno
  obtain ⟨⟨⟨h1, h2⟩, h3⟩, h4⟩ := hno
  exact h ⟨h1, h2, h3, h4⟩

/-- The pseudo-channel that RETIRE_PC names. -/
def Req.retirePc (r : Req) : Fin 32 := Fin.ofNat 32 (fieldAt r.payload 0 1)

/-- Whether the mode of RETIRE_PC does not permit the state of the pseudo-channel. -/
def State.wrongMode (s : State) (r : Req) : Bool :=
  if fieldAt r.payload 1 1 = 0 then s.mem.pcs[r.retirePc].st == .retired else !(s.mem.pcs[r.retirePc].st == .retired)

theorem wrongMode_iff : s.wrongMode r = true ↔
    if fieldAt r.payload 1 1 = 0 then s.mem.pcs[r.retirePc].st = .retired else s.mem.pcs[r.retirePc].st ≠ .retired := by
  unfold State.wrongMode
  split
  · exact beq_iff_eq
  · rw [Bool.not_eq_true', beq_eq_false_iff_ne]

/-- A well-formed RETIRE_PC. -/
theorem retirePcBody_formed (h : RetireForm r.payload) : retirePcBody r s
    = if s.wrongMode r then fails eState s
      else if s.mem.mig.isSome || s.working 0x0305 then fails eBusy s
      else if s.workFull then fails eNores s
      else if fieldAt r.payload 1 1 == 0 && s.mem.pcs[r.retirePc].st == .active && s.sparesLeft == 0 && fieldAt r.payload 2 1 == 0 then
        fails eNores s
      else if fieldAt r.payload 1 1 = 1 then
        accepted (((s.addWork r r.retirePc.val (fieldAt r.payload 1 1)).modMem (fun m => { m with restore := some r.retirePc })).syncDomains)
      else if s.mem.pcs[r.retirePc].st == .spare then
        accepted (((s.addWork r r.retirePc.val (fieldAt r.payload 1 1)).setRetired r.retirePc 5).endWork 0x0305 stOk 0)
      else accepted (((s.addWork r r.retirePc.val (fieldAt r.payload 1 1)).modMem (fun m => { m with
        retireWork := some r.retirePc })).retire r.retirePc 5) := by
  obtain ⟨h1, h2, h3, h4⟩ := h
  simp only [retirePcBody, h1, h2, h3, h4, decide_true, Bool.not_true, Bool.or_self, Bool.false_eq_true, if_false]
  rfl

/-- Nothing stands in the way of RETIRE_PC. -/
structure RetireFree (s : State) : Prop where
  mig : s.mem.mig = none
  reduce : s.mem.reduce = none
  work : s.working 0x0305 = false
  room : s.mr.work.length < 16

/-- A well-formed RETIRE_PC that its mode permits, with nothing in the way. -/
theorem retirePcBody_free (h : RetireForm r.payload) (hw : s.wrongMode r = false) (hf : RetireFree s)
    (hs : s.mem.pcs[r.retirePc].st = .active → s.sparesLeft ≠ 0) : retirePcBody r s
    = if fieldAt r.payload 1 1 = 1 then
        accepted (((s.addWork r r.retirePc.val (fieldAt r.payload 1 1)).modMem (fun m => { m with restore := some r.retirePc })).syncDomains)
      else if s.mem.pcs[r.retirePc].st == .spare then
        accepted (((s.addWork r r.retirePc.val (fieldAt r.payload 1 1)).setRetired r.retirePc 5).endWork 0x0305 stOk 0)
      else accepted (((s.addWork r r.retirePc.val (fieldAt r.payload 1 1)).modMem (fun m => { m with
        retireWork := some r.retirePc })).retire r.retirePc 5) := by
  have hfull : s.workFull = false := decide_eq_false (by have := hf.room; omega)
  have hno : (fieldAt r.payload 1 1 == 0 && s.mem.pcs[r.retirePc].st == .active && s.sparesLeft == 0 && fieldAt r.payload 2 1 == 0) = false := by
    by_cases ha : s.mem.pcs[r.retirePc].st = .active
    · rw [beq_eq_false_iff_ne.mpr (hs ha), Bool.and_false, Bool.false_and]
    · rw [beq_eq_false_iff_ne.mpr ha, Bool.and_false, Bool.false_and, Bool.false_and]
  rw [retirePcBody_formed h, hw, hf.mig, hf.work, hfull, hno]
  rfl

end

end Sys2Proof.Machine
end

section
/-!
SUPPORT. RETIRE_PC, the end of a migration, of a capacity reduction and of restoring, and MEM_HEALTH (13 R335, R337, R341, R342).
-/

namespace Sys2Proof.Machine

/-! RETIRE_PC of a spare, of an active and of a retired pseudo-channel. -/

theorem OnlyMemory.endWork {s u : State} {code status detail : Nat} (h : OnlyMemory s u) : OnlyMemory s (u.endWork code status detail) :=
  h.units (endWorkIf_units _ _ _ _)

theorem endWork_mem (s : State) (code status detail : Nat) : (s.endWork code status detail).mem = s.mem :=
  (endWorkIf_units s _ _ _).mem

theorem syncDomains_mem (s : State) : s.syncDomains.mem = s.mem := OnlyDomains.mem (.syncDomains .refl)

theorem sparesLeft_pos {s : State} {p q : Fin 32} (h : s.spareFor p = some q) : s.sparesLeft ≠ 0 := by
  intro hz
  have hnil : (List.finRange 32).filter (fun p => s.mem.pcs[p].st == .spare) = [] := List.length_eq_zero_iff.mp hz
  have hn : s.spareFor p = none := by
    unfold State.spareFor
    rw [hnil]
    rfl
  rw [h] at hn
  cases hn

section
variable {r : Req} {s : State}

theorem retirePcBody_spare (h : RetireForm r.payload) (hf : RetireFree s) (hm : fieldAt r.payload 1 1 = 0)
    (hst : s.mem.pcs[r.retirePc].st = .spare) :
    retirePcBody r s = accepted (((s.addWork r r.retirePc.val (fieldAt r.payload 1 1)).setRetired r.retirePc 5).endWork 0x0305 stOk 0) := by
  have hw : s.wrongMode r = false := by
    rw [Bool.eq_false_iff, Ne, wrongMode_iff, if_pos hm, hst]; exact PcState.noConfusion
  rw [retirePcBody_free h hw hf (fun ha => by rw [hst] at ha; cases ha), if_neg (by omega), hst]
  rfl

theorem retirePcBody_active (h : RetireForm r.payload) (hf : RetireFree s) (hm : fieldAt r.payload 1 1 = 0)
    (hst : s.mem.pcs[r.retirePc].st = .active) {q : Fin 32} (hq : s.spareFor r.retirePc = some q) :
    retirePcBody r s = accepted (((s.addWork r r.retirePc.val (fieldAt r.payload 1 1)).modMem (fun m => { m with
      retireWork := some r.retirePc })).startRetire r.retirePc 5) := by
  have hw : s.wrongMode r = false := by
    rw [Bool.eq_false_iff, Ne, wrongMode_iff, if_pos hm, hst]; exact PcState.noConfusion
  have hretire {u : State} (hu : u.mem.pcs[r.retirePc].st = .active) (hmig : u.mem.mig = none) (hred : u.mem.reduce = none) :
      u.retire r.retirePc 5 = u.startRetire r.retirePc 5 := by
    unfold State.retire
    rw [hu, hmig, hred]
    rfl
  rw [retirePcBody_free h hw hf (fun _ => sparesLeft_pos hq), if_neg (by omega), if_neg (by rw [hst]; exact Bool.false_ne_true)]
  exact congrArg accepted (hretire hst hf.mig hf.reduce)

theorem retirePcBody_restore (h : RetireForm r.payload) (hf : RetireFree s) (hm : fieldAt r.payload 1 1 = 1)
    (hst : s.mem.pcs[r.retirePc].st = .retired) : retirePcBody r s
      = accepted (((s.addWork r r.retirePc.val (fieldAt r.payload 1 1)).modMem (fun m => { m with restore := some r.retirePc })).syncDomains) := by
  have hw : s.wrongMode r = false := by
    rw [Bool.eq_false_iff, Ne, wrongMode_iff, if_neg (by omega), hst]; exact fun hne => hne rfl
  rw [retirePcBody_free h hw hf (fun ha => by rw [hst] at ha; cases ha), if_pos hm]

end

/-! The end of a migration (13 R335). -/

/-- The end of RETIRE_PC's work: of memory at most that work, of the units nothing else. -/
theorem endRetireWork_units (s : State) (p : Fin 32) (status : Nat) :
    ∃ w, (s.endRetireWork p status).mem = { s.mem with retireWork := w } ∧ (s.endRetireWork p status).tr = s.tr := by
  unfold State.endRetireWork
  split
  · exact ⟨none, endWork_mem _ _ _ _, (endWorkIf_units (s.modMem fun m => { m with retireWork := none }) _ _ _).tr⟩
  · exact ⟨s.mem.retireWork, rfl, rfl⟩

/-- What a row that ends with retirement work and the retirement that waits leaves, with none that waits. -/
theorem endRetirement_units {s : State} (h : s.mem.waitRet = []) (p : Fin 32) (status : Nat) :
    ∃ w, (s.endRetireWork p status).nextRetire.mem = { s.mem with retireWork := w } ∧ (s.endRetireWork p status).nextRetire.tr = s.tr := by
  obtain ⟨w, hm, htr⟩ := endRetireWork_units s p status
  have hn : (s.endRetireWork p status).nextRetire = s.endRetireWork p status := by
    unfold State.nextRetire
    rw [show (s.endRetireWork p status).mem.waitRet = [] by rw [hm]; exact h]
  rw [hn]
  exact ⟨w, hm, htr⟩

theorem migDone_not {s : State} (h : ∀ g, s.mem.mig = some g → g.ptr ≠ pcRows) : s.migDone = s := by
  have hn : s.mem.mig.filter (fun g => g.ptr == pcRows) = none := by
    cases hm : s.mem.mig with
    | none => rfl
    | some g => exact if_neg (fun hp => h g hm (beq_iff_eq.mp hp))
  unfold State.migDone
  rw [hn]

/-- The slot map names the spare, which is active. -/
def State.migrated (s : State) (g : Migration) : State :=
  (s.modMem (fun m => { m with mig := none, slots := m.slots.map (fun x => if x == some g.from_ then some g.dst else x) })).modPc g.dst
    (fun x => { x with st := .active })

theorem migDone_ends {s : State} {g : Migration} (h : s.mem.mig = some g) (hp : g.ptr = pcRows) (hne : g.from_ ≠ g.dst)
    (hw : s.mem.waitRet = []) : let u := s.migDone
    u.mem.mig = none ∧ u.mem.pcs[g.dst].st = .active ∧ u.mem.pcs[g.from_].st = .retired ∧ u.mem.pcs[g.from_].cause = g.cause
      ∧ g.from_ ∈ u.mem.record ∧ u.mem.slots = s.mem.slots.map (fun x => if x = some g.from_ then some g.dst else x) ∧ u.tr = s.tr := by
  have hx : s.migDone = ((((s.migrated g).setRetired g.from_ g.cause).logEv 0x0B06 sevNotice 0
      (memData g.from_ g.dst.val 0xFFFFFFFF g.poisoned)).endRetireWork g.from_ stOk).nextRetire := by
    have hf : s.mem.mig.filter (fun g => g.ptr == pcRows) = some g := by
      rw [h]; exact if_pos (beq_iff_eq.mpr hp)
    unfold State.migDone
    rw [hf]
    rfl
  have hunits := (setRetired_units (s.migrated g) g.from_ g.cause).tr
  have hshow {α : Type} {f : MemCtl → α} (hf : Aside f) := setRetired_shows hf (s.migrated g) g.from_ g.cause
  obtain ⟨hst, hcause, hrec, hothers⟩ := setRetired_retires (s.migrated g) g.from_ g.cause
  have hq := (logEv_quiet ((s.migrated g).setRetired g.from_ g.cause) 0x0B06 sevNotice 0 (memData g.from_ g.dst.val 0xFFFFFFFF g.poisoned)).units
  have hwait : (((s.migrated g).setRetired g.from_ g.cause).logEv 0x0B06 sevNotice 0
      (memData g.from_ g.dst.val 0xFFFFFFFF g.poisoned)).mem.waitRet = [] := by
    rw [hq.mem, hshow (f := MemCtl.waitRet) fun _ _ _ _ => rfl]; exact hw
  obtain ⟨w, hm, htr⟩ := endRetirement_units hwait g.from_ stOk
  intro u
  have hum : u.mem = { ((s.migrated g).setRetired g.from_ g.cause).mem with retireWork := w } := by rw [← hq.mem]; exact (congrArg State.mem hx).trans hm
  have hslots : s.mem.slots.map (fun x => if x == some g.from_ then some g.dst else x)
      = s.mem.slots.map (fun x => if x = some g.from_ then some g.dst else x) := by simp only [beq_iff_eq]
  rw [hum]
  refine ⟨hshow (f := MemCtl.mig) fun _ _ _ _ => rfl, ?_, hst, hcause, hrec, (hshow (f := MemCtl.slots) fun _ _ _ _ => rfl).trans hslots, ?_⟩
  · exact (hothers g.dst hne.symm).trans (congrArg Pc.st (modPc_same _ g.dst fun x => { x with st := .active }))
  · exact (congrArg State.tr hx).trans (htr.trans (hq.tr.trans hunits))

/-! Capacity reduction (13 R337, 12 R313). -/

namespace KeepsPool
variable {s u : State}

theorem skipTaken {g : Seg} (h : KeepsPool s u) : KeepsPool s (u.skipTaken g) := .modHv h
theorem reclaimOne {c : Fin 4} {g : Seg} (h : KeepsPool s u) : KeepsPool s (u.reclaimOne c g) := by
  unfold State.reclaimOne
  exact .modTr (.modCh (.dropSeg (.skipTaken h))) rfl

theorem orderHalt {q reason cause : Nat} {c : Fin 4} (h : KeepsPool s u) : KeepsPool s (u.orderHalt q reason cause c) := .modCh h
theorem fitBandwidth (h : KeepsPool s u) : KeepsPool s u.fitBandwidth := .foldl (fun h => .ite h (.orderHalt h)) h

theorem fullStop {c : Fin 4} {idx : Nat} {trig : Bool} (h : KeepsPool s u) : KeepsPool s (u.fullStop c idx trig) := by
  unfold State.fullStop
  exact .ite (.modCh h) (.orderHalt (.logEv (.modCh h)))

theorem loseForRoom {g : Seg} (h : KeepsPool s u) : KeepsPool s (u.loseForRoom g) := by
  unfold State.loseForRoom
  exact .ite (.dropSeg h) (.fullStop (.modCh (.dropSeg h)))

theorem renamePage {p q : Nat} (h : KeepsPool s u) : KeepsPool s (u.renamePage p q) := by
  unfold State.renamePage
  exact .foldl .modOut (.modHv (.foldl .modCh (.modTr h rfl)))

theorem movePage {k : Nat} {pg : Page} (h : KeepsPool s u) : KeepsPool s (State.movePage k u pg) := by
  unfold State.movePage
  split
  · exact h
  · exact .renamePage (.takePage h)

theorem ringRoom {k n : Nat} (h : KeepsPool s u) : KeepsPool s (State.ringRoom k n u) := by
  induction n generalizing u with
  | zero => exact h
  | succ n ih =>
    unfold State.ringRoom
    refine .ite h ?_
    split
    · exact h
    · exact ih (.reclaimOne h)

theorem loseRoom {k n l : Nat} (h : KeepsPool s u) : KeepsPool s (State.loseRoom k n u l).1 := by
  induction n generalizing u l with
  | zero => exact h
  | succ n ih =>
    unfold State.loseRoom
    split
    · exact h
    · split
      · exact h
      · exact ih (.loseForRoom h)

end KeepsPool

/-- What the loss of a slot leaves: the slot is gone, the pool is smaller, and the pseudo-channel is retired. -/
theorem dropSlot_drops (s : State) (k : Nat) (p : Fin 32) (cause : Nat) : let u := s.dropSlot k p cause
    u.mem.reduce = none ∧ u.mem.slots = s.mem.slots.set k none ∧ u.mem.waitRet = s.mem.waitRet ∧ u.tr.total = s.tr.total - slotPages
      ∧ u.mem.pcs[p].st = .retired ∧ u.mem.pcs[p].cause = cause := by
  unfold State.dropSlot
  extract_lets old new s1 before l s2 s3 s4 s5 s6 s7 s8 u
  have h2 : KeepsPool s s2 := .foldl .movePage (.loseRoom (.ringRoom .refl))
  have h3 : s3.mem = s.mem := by
    clear_value s2
    exact h2.mem
  have h5 : KeepsPool s4 s5 := .foldl .modCh .refl
  have h8 : KeepsPool (s5.setRetired p cause) u := .foldl .overQuotaCheck (.ite (.logEv (.logEv .refl)) (.logEv (.logEv (.logEv .refl))))
  have hmem : u.mem = (s5.setRetired p cause).mem := h8.mem
  obtain ⟨hst, hcause, -, -⟩ := setRetired_retires s5 p cause
  have hshow {α : Type} {f : MemCtl → α} (hf : Aside f) : f u.mem = f { s.mem with slots := s.mem.slots.set k none, reduce := none } := by
    rw [hmem, setRetired_shows hf, h5.mem, ← h3]
    rfl
  refine ⟨hshow (f := MemCtl.reduce) fun _ _ _ _ => rfl, hshow (f := MemCtl.slots) fun _ _ _ _ => rfl, hshow (f := MemCtl.waitRet) fun _ _ _ _ => rfl, ?_,
    by rw [hmem]; exact hst, by rw [hmem]; exact hcause⟩
  exact h8.total.trans ((congrArg Trellis.total (setRetired_units s5 p cause).tr).trans h5.total)

theorem capacityDone_none {s : State} (h : s.mem.reduce = none) : s.capacityDone = s := by
  unfold State.capacityDone
  rw [h]

theorem capacityDone_ends {s : State} {p : Fin 32} {k cause : Nat} (h : s.mem.reduce = some (p, k, cause)) (hw : s.mem.waitRet = []) :
    s.capacityDone.mem.reduce = none ∧ s.capacityDone.mem.slots = s.mem.slots.set k none
      ∧ s.capacityDone.tr.total = s.tr.total - slotPages ∧ s.capacityDone.mem.pcs[p].st = .retired
      ∧ s.capacityDone.mem.pcs[p].cause = cause := by
  have hx : s.capacityDone = (((s.dropSlot k p cause).fitBandwidth).endRetireWork p eDegraded).nextRetire := by
    unfold State.capacityDone
    rw [h]
  obtain ⟨hred, hslots, hwait, htotal, hst, hcause⟩ := dropSlot_drops s k p cause
  have hk : KeepsPool (s.dropSlot k p cause) (s.dropSlot k p cause).fitBandwidth := .fitBandwidth .refl
  rw [hx]
  generalize s.dropSlot k p cause = d at hred hslots hwait htotal hst hcause hk ⊢
  generalize d.fitBandwidth = v at hk ⊢
  obtain ⟨w, hm, htr⟩ := endRetirement_units (s := v) (by rw [hk.mem, hwait, hw]) p eDegraded
  rw [hm, htr, hk.mem, hk.total]
  exact ⟨hred, hslots, htotal, hst, hcause⟩

/-! Restoring (13 R342). -/

theorem restoreDone_none {s : State} (h : s.mem.restore = none) (tr : PcTraining) (x : Int) : s.restoreDone tr x = s := by
  unfold State.restoreDone
  rw [h]

/-- A pseudo-channel that passes is a spare again, off the record. -/
def State.restored (s : State) (p : Fin 32) (set : PcSetting) (x : Int) : State :=
  ((s.modMem (fun m => { m with restore := none })).modPc p (fun y => { y.trainedAt set x s.clk with st := .spare })).modMem (fun m => { m with
    record := m.record.filter (fun q => q != p) })

theorem restoreDone_passes {s : State} {p : Fin 32} (h : s.mem.restore = some p) {tr : PcTraining} (ht : trainingWorks tr = true) (x : Int) :
    (s.restoreDone tr x).mem = (s.restored p tr.set x).mem := by
  have hx : s.restoreDone tr x
      = (((s.restored p tr.set x).logEv 0x0B0A sevNotice 0 (memData p 0 0xFFFFFFFF 0)).endWork 0x0305 stOk 0).syncDomains := by
    simp only [State.restoreDone, h, ht, if_true]
    rfl
  rw [hx, syncDomains_mem, endWork_mem, (logEv_quiet _ _ _ _ _).units.mem]

/-- A pseudo-channel that fails: the failure counts. -/
def State.unrestored (s : State) (p : Fin 32) (x : Int) : State :=
  (s.modMem (fun m => { m with restore := none })).modPc p (fun y => { y with temp := x, trainFails := satAdd 16 y.trainFails 1 })

theorem restoreDone_fails {s : State} {p : Fin 32} (h : s.mem.restore = some p) {tr : PcTraining} (ht : trainingWorks tr = false) (x : Int) :
    (s.restoreDone tr x).mem = (s.unrestored p x).mem := by
  have hx : s.restoreDone tr x = ((s.unrestored p x).endWork 0x0305 eHw 0).syncDomains := by
    simp only [State.restoreDone, h, ht, Bool.false_eq_true, if_false]
    rfl
  rw [hx, syncDomains_mem, endWork_mem]

theorem restored_pc (s : State) (p : Fin 32) (set : PcSetting) (x : Int) :
    (s.restored p set x).mem.pcs[p] = { s.mem.pcs[p].trainedAt set x s.clk with st := .spare } :=
  modPc_same (s.modMem fun m => { m with restore := none }) p fun y => { y.trainedAt set x s.clk with st := .spare }

theorem restored_other (s : State) {p q : Fin 32} (hq : q ≠ p) (set : PcSetting) (x : Int) :
    (s.restored p set x).mem.pcs[q] = s.mem.pcs[q] :=
  modPc_other (s.modMem fun m => { m with restore := none }) (fun y => { y.trainedAt set x s.clk with st := .spare }) hq

theorem unrestored_pc (s : State) (p : Fin 32) (x : Int) :
    (s.unrestored p x).mem.pcs[p] = { s.mem.pcs[p] with temp := x, trainFails := satAdd 16 s.mem.pcs[p].trainFails 1 } :=
  modPc_same (s.modMem fun m => { m with restore := none }) p fun y => { y with temp := x, trainFails := satAdd 16 y.trainFails 1 }

theorem unrestored_other (s : State) {p q : Fin 32} (hq : q ≠ p) (x : Int) : (s.unrestored p x).mem.pcs[q] = s.mem.pcs[q] :=
  modPc_other (s.modMem fun m => { m with restore := none })
    (fun y => { y with temp := x, trainFails := satAdd 16 y.trainFails 1 }) hq

theorem restored_record (s : State) (p : Fin 32) (set : PcSetting) (x : Int) : p ∉ (s.restored p set x).mem.record := by
  change p ∉ s.mem.record.filter (fun q => q != p)
  intro hp
  exact absurd (List.mem_filter.mp hp).2 (by rw [bne_self_eq_false]; exact Bool.false_ne_true)

/-! MEM_HEALTH (13 R341). -/

theorem pcRecord_length (s : State) (p : Fin 32) : (s.pcRecord p).length = 48 := by
  simp only [State.pcRecord, List.length_append, leBytes_length, List.length_replicate]

theorem memHealth_length (s : State) : s.memHealth.length = 1568 := by
  have hrecs : ((List.finRange 32).flatMap s.pcRecord).length = 1536 := by
    rw [List.length_flatMap, List.map_congr_left (g := fun _ => 48) fun p _ => pcRecord_length s p]
    simp
  simp only [State.memHealth, List.length_append, leBytes_length, hrecs, List.length_cons, List.length_nil]

/-- Settles O40: what a retirement writes of the controller is its mark beside what retrains (`Retrains`), and the loss of a slot's segments
leaves the controller and the size of the pool (`KeepsPool`). -/
theorem retirementOfPseudoChannels : Obligations.RetirementOfPseudoChannels := by
  refine ⟨?_, ?_, ?_⟩
  · intro s t m hr b p good wrong free
    have hclk {u : State} (h : Idle (s.reach t) u) : u.clk = (s.reach t).clk := h.clk
    have hidle (r : Req) (n k : Nat) : Idle (s.reach t) ((s.reach t).addWork r n k) := by
      obtain ⟨hm, -⟩ := id hr
      exact ⟨exec_none_of_mayTake hm (by decide), rfl⟩
    have hfree (h : free) : RetireFree (s.reach t) := ⟨h.1, h.2.1, h.2.2.1, h.2.2.2⟩
    refine ⟨fun h => ?_, fun h hw => ?_, fun h hf hm hst => ?_, fun h hf hm hst q hq hne => ?_, fun h hf hm hst => ?_⟩
    · exact command_fails hr (retirePcBody_malformed h)
    · exact command_fails hr ((retirePcBody_formed h).trans (if_pos ((wrongMode_iff (s := s.reach t)).mpr hw)))
    · refine (command_replies hr (retirePcBody_spare (s := s.reach t) h (hfree hf) hm hst)
        ((endWorkIf_clk _ _ _ _).trans (hclk (.setRetired (hidle _ _ _))))).mono fun u hu => ?_
      obtain ⟨hreply, hunits, -⟩ := hu
      obtain ⟨hst', hcause, hrec, -⟩ := setRetired_retires ((s.reach t).addWork (s.reqOf m) p.val (fieldAt b 1 1)) p 5
      have hmem := hunits.mem.trans (endWork_mem _ _ _ _)
      rw [hmem]
      exact ⟨hreply, hst', hcause, hrec⟩
    · refine (command_replies hr (retirePcBody_active (s := s.reach t) h (hfree hf) hm hst hq)
        (hclk (.startRetire (.modMem (hidle _ _ _))))).mono fun u hu => ?_
      obtain ⟨hreply, hunits, -⟩ := hu
      obtain ⟨hmig, hfrom, hto, hslots⟩ := startRetire_migrates (s := ((s.reach t).addWork (s.reqOf m) p.val (fieldAt b 1 1)).modMem
        (fun m => { m with retireWork := some p })) hq hne 5
      obtain ⟨hb, hb'⟩ := boundaryFrom_next (((s.reach t).addWork (s.reqOf m) p.val (fieldAt b 1 1)).modMem
        (fun m => { m with retireWork := some p }))
      rw [hunits.mem]
      exact ⟨hreply, ⟨_, hmig.trans (congrArg (fun x => some (Migration.mk p q 0 5 0 _ s.mem.pcs[p].cause x)) hst), hb, hb'⟩,
        hfrom, hto, hslots⟩
    · refine (command_replies hr (retirePcBody_restore (s := s.reach t) h (hfree hf) hm hst)
        (hclk (.syncDomains (.modMem (hidle _ _ _))))).mono fun u hu => ?_
      obtain ⟨hreply, hunits, -⟩ := hu
      exact ⟨hreply, hunits.mem.trans (syncDomains_mem _)⟩
  · intro s t
    refine ⟨fun h => congrArg go (migDone_not (s := s.reach t) h), fun g hg hp hne hw => ⟨_, rfl, migDone_ends (s := s.reach t) hg hp hne hw⟩,
      fun h => congrArg go (capacityDone_none (s := s.reach t) h), fun p k cause h hw _ => ⟨_, rfl, capacityDone_ends (s := s.reach t) h hw⟩,
      fun h tr x => congrArg go (restoreDone_none (s := s.reach t) h tr x), fun p tr x h => ⟨fun ht => ⟨_, rfl, ?_⟩, fun ht => ⟨_, rfl, ?_⟩⟩⟩
    · beta_reduce
      rw [restoreDone_passes (s := s.reach t) h ht, restored_pc]
      exact ⟨rfl, rfl, rfl, rfl, restored_record _ _ _ _, fun q hq => restored_other _ hq _ _⟩
    · beta_reduce
      rw [restoreDone_fails (s := s.reach t) h ht, unrestored_pc]
      exact ⟨rfl, rfl, rfl, rfl, fun q hq => unrestored_other _ hq _⟩
  · intro s t m hr
    refine (command_replies hr (body := fun _ x => answers x.memHealth x) rfl rfl).mono fun u hu => ?_
    obtain ⟨hreply, hunits, hset⟩ := hu
    exact ⟨hreply, memHealth_length _, hunits, hset⟩

end Sys2Proof.Machine
end

section
/-!
SUPPORT. Upkeep of towers: ramps, limits, grafts, replacements and failures of slices (04 R99 to R105; 05 R116 to R125), and a domain
that does not report ready (17 R424).
-/

namespace Sys2Proof.Machine
namespace Upkeep
variable {s u : State}

theorem syncRotations (h : Upkeep s u) : Upkeep s u.syncRotations := .foldl .syncRotation h

theorem logLimit {k x trim} (h : Upkeep s u) : Upkeep s (u.logLimit k x trim) := .logEv h

theorem checkLimits {k x} (h : Upkeep s u) : Upkeep s (u.checkLimits k x) := by
  unfold State.checkLimits
  exact .foldl (fun h => .ite (.logLimit h) h) (.modSlice h)

theorem setElem {e v} (h : Upkeep s u) : Upkeep s (u.setElem e v) := by
  unfold State.setElem
  extract_lets
  split
  · exact .modSlice h
  · exact .modSlice h
  · exact .modSlice h
  · exact .modCal h
  · exact .modCal h
  · exact .modCal h
  · exact .modCal h

theorem follow {e was} (h : Upkeep s u) : Upkeep s (u.follow e was) := by
  unfold State.follow
  extract_lets
  split
  · exact .elim h (.modSlice h)
  · exact .elim h (.modSlice h)
  · exact .elim h (.modSlice h)
  · exact h

theorem checkMoved {e} (h : Upkeep s u) : Upkeep s (u.checkMoved e) := by
  unfold State.checkMoved
  extract_lets both
  have hboth (k x) : Upkeep s (both k x) := by
    dsimp only [both]
    split
    · exact .ite (.checkLimits (.checkLimits h)) (.checkLimits h)
    · exact .checkLimits h
  split
  · exact hboth _ _
  · exact hboth _ _
  · exact hboth _ _
  · exact h

theorem stopRamp {e} (h : Upkeep s u) : Upkeep s (u.stopRamp e) := .modCal h

theorem jumpTo {e v} (h : Upkeep s u) : Upkeep s (u.jumpTo e v) := .follow (.setElem (.stopRamp h))

theorem rampStepBy {e b} (h : Upkeep s u) : Upkeep s (u.rampStepBy e b) := by
  unfold State.rampStepBy
  split
  · exact h
  · exact .ite h (.checkMoved (.follow (.modCal (.setElem h))))

theorem rampTo {e target b} (h : Upkeep s u) : Upkeep s (u.rampTo e target b) := by
  unfold State.rampTo
  split
  · exact h
  · extract_lets s0 _ s1
    have h1 : Upkeep s s1 := .stopRamp (.rampStepBy h)
    exact .ite h1 (.modCal h1)

theorem endRamp {e} (h : Upkeep s u) : Upkeep s (u.endRamp e) := by
  unfold State.endRamp
  split
  · exact h
  · exact .jumpTo h

theorem endRamps {k x} (h : Upkeep s u) : Upkeep s (u.endRamps k x) := .endRamp (.endRamp (.endRamp h))

theorem retime {k x p b} (h : Upkeep s u) : Upkeep s (u.retime k x p b) := .checkMoved (.rampTo h)

theorem twEvent {k code sev x p cause tick} (h : Upkeep s u) : Upkeep s (u.twEvent k code sev x p cause tick) := .logEv h

theorem flagOos {k from_} (h : Upkeep s u) : Upkeep s (u.flagOos k from_) := .modTr h

theorem fillPhase {k p} (h : Upkeep s u) : Upkeep s (u.fillPhase k p) := .twEvent (.flagOos (.modTw h))

theorem orphanRepls {k} (h : Upkeep s u) : Upkeep s (u.orphanRepls k) := by
  unfold State.orphanRepls
  exact .foldl .fillPhase (.modTw h)

theorem loseGraft {k x p} (h : Upkeep s u) : Upkeep s (u.loseGraft k x p) :=
  .syncDomains (.orphanRepls (.twEvent (.modTw h)))

theorem failGraft {k x cause tick} (h : Upkeep s u) : Upkeep s (u.failGraft k x cause tick) :=
  .loseGraft (.twEvent (.modSlice h))

theorem rampBack {k x} (h : Upkeep s u) : Upkeep s (u.rampBack k x) := by
  unfold State.rampBack
  exact .rampTo (.rampTo h)

theorem replaceBy {k r g} (h : Upkeep s u) : Upkeep s (u.replaceBy k r g) := by
  unfold State.replaceBy
  exact .loseGraft (.checkLimits (.retime (.rampBack (.twEvent (.modTw h)))))

theorem connectGraft {k g p} (h : Upkeep s u) : Upkeep s (u.connectGraft k g p) := .checkLimits (.modSlice h)

theorem beginRepl {k p x g} (h : Upkeep s u) : Upkeep s (u.beginRepl k p x g) := .connectGraft (.modTw h)

theorem putCurve {k x v} (h : Upkeep s u) : Upkeep s (u.putCurve k x v) := by
  unfold State.putCurve
  exact .modCal h

theorem takeCurve {k x} (h : Upkeep s u) : Upkeep s (u.takeCurve k x) := .elim h (.putCurve h)

theorem doSwap {k} (h : Upkeep s u) : Upkeep s (u.doSwap k) := by
  unfold State.doSwap
  extract_lets
  split
  · exact .checkLimits (.checkLimits (.retime (.rampBack (.takeCurve (.endRamps (.modTw h))))))
  · exact h

theorem cancelSwap {k x} (h : Upkeep s u) : Upkeep s (u.cancelSwap k x) := by
  unfold State.cancelSwap
  exact .checkLimits (.checkLimits (.modCal (.stopRamp (.stopRamp (.stopRamp (.modSlice (.modTw h)))))))

theorem markFailed {k x p cause onset} (h : Upkeep s u) : Upkeep s (u.markFailed k x p cause onset) :=
  .twEvent (.flagOos (.modTw (.modSlice h)))

theorem failDisplaced {k x g cause} (h : Upkeep s u) : Upkeep s (u.failDisplaced k x g cause) := by
  unfold State.failDisplaced
  split
  · exact .replaceBy h
  · exact .failGraft (.doSwap (.modTw h))

theorem failsBeside {k x p cause onset r g} (h : Upkeep s u) : Upkeep s (u.failsBeside k x p cause onset r g) := by
  unfold State.failsBeside
  exact .ite (.markFailed h) (.ite (.syncDomains (.beginRepl (.fillPhase (.markFailed h)))) (.syncDomains (.fillPhase
    (.markFailed h))))

theorem activeFails {k x p cause onset} (h : Upkeep s u) : Upkeep s (u.activeFails k x p cause onset) := by
  unfold State.activeFails
  split
  · exact .syncDomains (.fillPhase (.markFailed h))
  · split
    · exact .failsBeside h
    · split
      · exact .failDisplaced h
      · split
        · exact .ite (.beginRepl (.markFailed h)) (.beginRepl (.markFailed (.cancelSwap h)))
        · exact .beginRepl (.markFailed h)

/-- A slice that does not wake, as one that fails in service or not (04 R99; 17 R424). -/
theorem sliceUnready {k x} (h : Upkeep s u) : Upkeep s (u.sliceUnready k x) := by
  unfold State.sliceUnready
  refine .ite h ?_
  split
  · exact .activeFails h
  · exact .ite (.failGraft h) (.twEvent (.modSlice h))

end Upkeep

/-- A domain that does not report ready is marked; what follows of it in the tower is upkeep. -/
theorem domainFails_upkeep (s : State) (d : Nat) :
    Upkeep (s.modPw (fun p => { p with failed := p.failed ||| (1#196 <<< d) })) (s.domainFails d) := by
  unfold State.domainFails
  exact .ite (.sliceUnready (.logEv .refl)) (.logEv .refl)

end Sys2Proof.Machine
end

section
/-!
SUPPORT. Domains that are on stay on while events and answers are written; DOMAIN_CONTROL, domains on demand, and the belfry's registers
(17 R420 to R424, R436, R439).
-/

namespace Sys2Proof.Machine

/-! Domains that are on (17 R422). -/

/-- Every domain that is on in `s` is on in `u`. -/
def StaysOn (s u : State) : Prop := ∀ d, s.pw.onMap.getLsbD d = true → u.pw.onMap.getLsbD d = true

namespace StaysOn
variable {s u v : State}

theorem refl : StaysOn s s := fun _ => id

theorem trans (h : StaysOn s u) (k : StaysOn u v) : StaysOn s v := fun d hd => k d (h d hd)

/-- The map stands. -/
theorem keep (h : StaysOn s u) (hm : v.pw.onMap = u.pw.onMap) : StaysOn s v := fun d hd => by rw [hm]; exact h d hd

theorem ite {c : Prop} {i : Decidable c} (hu : StaysOn s u) (hv : StaysOn s v) : StaysOn s (if c then u else v) := by
  split
  · exact hu
  · exact hv

theorem foldl {α : Type} {f : State → α → State} (hf : ∀ {a x}, StaysOn s a → StaysOn s (f a x)) {l : List α} (h : StaysOn s u) :
    StaysOn s (l.foldl f u) := by
  induction l generalizing u with
  | nil => exact h
  | cons x xs ih => exact ih (hf h)

theorem coreWake (s : State) : StaysOn s s.coreWake := by
  unfold State.coreWake
  refine .ite (refl.keep rfl) (.ite (fun d hd => ?_) refl)
  change (s.pw.onMap ||| bitSpan 190 191).getLsbD d = true
  rw [BitVec.getLsbD_or, hd]
  rfl

theorem logEntry {e : Event} (h : StaysOn s u) : StaysOn s (u.logEntry e) := by
  refine h.trans ?_
  unfold State.logEntry
  have hn : StaysOn u ((u.record { e with seq := u.log.next }).notify e.sev) := refl.keep (congrArg Power.onMap (notify_pw _ _))
  exact .ite (hn.trans (coreWake _)) (refl.keep rfl)

theorem logEv {code sev scope : Nat} {data : List Byte} (h : StaysOn s u) : StaysOn s (u.logEv code sev scope data) := .logEntry h

theorem msix {n : Nat} (h : StaysOn s u) : StaysOn s (u.msix n) := h.keep (congrArg Power.onMap (msix_pw u n))

theorem sendParts {addr n : Nat} {bs : List Byte} (h : StaysOn s u) : StaysOn s (u.sendParts addr n bs) := by
  induction n generalizing u bs with
  | zero => exact h.keep rfl
  | succ n ih =>
    unfold State.sendParts
    exact .ite (h.keep rfl) (ih (h.keep rfl))

theorem respond {r : Req} {a : Reply} {c : Nat} (h : StaysOn s u) : StaysOn s (u.respond r a c) := by
  unfold State.respond
  extract_lets _ _ s1 _ s2 s3
  have h1 : StaysOn s s1 := .ite (.logEv h) h
  have h3 : StaysOn s s3 := h1.keep rfl
  exact .ite (.sendParts h3) (.ite (.msix h3) h3)

theorem finish {a : Reply} {c : Nat} (h : StaysOn s u) : StaysOn s (u.finish a c) := by
  unfold State.finish
  split
  · exact h
  · dsimp only
    have h1 : StaysOn s (u.modMr fun m => { m with exec := none }) := h.keep rfl
    split
    · exact h.keep rfl
    · split
      · exact .respond (.logEv (h1.keep rfl))
      · exact .respond h1

theorem endWork {code status detail : Nat} (h : StaysOn s u) : StaysOn s (u.endWork code status detail) := by
  unfold State.endWork State.endWorkIf
  split
  · exact h
  · have h1 : StaysOn s (u.modMr fun m => { m with work := m.work.eraseP fun w => w.code == code }) := h.keep rfl
    exact (StaysOn.logEv h1).keep rfl

theorem modMon {g : Monitor → Monitor} (h : StaysOn s u) : StaysOn s (u.modMon g) := h.keep rfl

theorem startTableAt {b : Nat} {on : Bool} (h : StaysOn s u) : StaysOn s (u.startTableAt b on) := by
  unfold State.startTableAt
  split
  · exact h
  · exact .logEv (.ite (.modMon h) (.modMon (.modMon h)))

theorem monCommit {b : Nat} {on : Bool} (h : StaysOn s u) : StaysOn s (u.monCommit b on) := .ite (.finish (.startTableAt h)) h
theorem dropLateTable {b : Nat} (h : StaysOn s u) : StaysOn s (u.dropLateTable b) := .ite (.finish (.modMon h)) h

theorem monOff (h : StaysOn s u) : StaysOn s u.monOff := by
  unfold State.monOff
  extract_lets s1 s2
  have h2 : StaysOn s s2 := .ite (.endWork (.modMon h)) (.modMon h)
  exact .monCommit (.dropLateTable (.ite (.endWork h2) h2))

theorem monDomain {was on : Bool} (h : StaysOn s u) : StaysOn s (u.monDomain was on) := .ite h (.ite (.modMon (.modMon h)) (.monOff h))

end StaysOn

/-- The domains of a map that is switched are on. -/
theorem setDomains_on (s : State) (m : BitVec 196) : ∀ d, m.getLsbD d = true → (s.setDomains m).pw.onMap.getLsbD d = true := by
  have h : StaysOn (s.powered m) (s.switched m) := .monDomain .refl
  have hpw : (s.setDomains m).pw = (s.switched m).pw := by rw [setDomains_follows s m]
  intro d hd
  rw [hpw]
  exact h d hd

/-! DOMAIN_CONTROL (17 R424). -/

/-- The domains that DOMAIN_CONTROL names. -/
def Req.domains (r : Req) : List Nat := (List.range (fieldAt r.payload 4 2)).map (fun i => fieldAt r.payload 2 2 + i)

/-- The payload of DOMAIN_CONTROL is in range. -/
def Req.DomainForm (r : Req) : Prop :=
  fieldAt r.payload 0 1 ≤ 2 ∧ fieldAt r.payload 1 1 = 0 ∧ fieldAt r.payload 6 2 = 0 ∧ fieldAt r.payload 2 2 + fieldAt r.payload 4 2 ≤ 196
    ∧ (fieldAt r.payload 0 1 = 0 ∨ (fieldAt r.payload 4 2 ≠ 0 ∧ r.domains.any fixedDomain = false))

/-- What DOMAIN_CONTROL refuses: to release what others hold, or to hold a failed slice. -/
def State.domainRefused (s : State) (r : Req) : Prop :=
  (fieldAt r.payload 0 1 = 2 ∧ r.domains.any (fun d => s.otherHolds.getLsbD d) = true)
    ∨ (fieldAt r.payload 0 1 = 1 ∧ r.domains.any s.failedSlice = true)

theorem Req.domains_lt {r : Req} (h : r.DomainForm) {d : Nat} (hd : d ∈ r.domains) : d < 196 := by
  obtain ⟨-, -, -, hsum, -⟩ := h
  obtain ⟨i, hi, rfl⟩ := List.mem_map.mp hd
  have := List.mem_range.mp hi
  omega

section
variable {r : Req} {s : State} (bad : Option Nat)

theorem domainForm_iff : r.DomainForm ↔ ¬ (2 < fieldAt r.payload 0 1 ∨ fieldAt r.payload 1 1 ≠ 0 ∨ fieldAt r.payload 6 2 ≠ 0
    ∨ 196 < fieldAt r.payload 2 2 + fieldAt r.payload 4 2 ∨ (fieldAt r.payload 0 1 ≠ 0 ∧ fieldAt r.payload 4 2 = 0)
    ∨ (fieldAt r.payload 0 1 ≠ 0 ∧ r.domains.any fixedDomain = true)) := by
  unfold Req.DomainForm
  rw [← Bool.not_eq_true]
  generalize (r.domains.any fixedDomain = true) = p
  constructor
  · rintro ⟨h1, h2, h3, h4, h5⟩ (h | h | h | h | h | h)
    · omega
    · exact h h2
    · exact h h3
    · omega
    · exact h5.elim h.1 fun k => k.1 h.2
    · exact h5.elim h.1 fun k => k.2 h.2
  · intro h
    simp only [not_or, not_and, not_not, Nat.not_lt] at h
    obtain ⟨h1, h2, h3, h4, h5, h6⟩ := h
    exact ⟨h1, h2, h3, h4, (Nat.eq_zero_or_pos _).imp id fun hp => ⟨h5 (by omega), h6 (by omega)⟩⟩

theorem domainBody_malformed (h : ¬ r.DomainForm) : domainBody bad r s = fails eParam s :=
  if_pos (not_not.mp fun hno => h (domainForm_iff.mpr hno))

/-- A well-formed DOMAIN_CONTROL. -/
theorem domainBody_formed (h : r.DomainForm) : domainBody bad r s
    = if (fieldAt r.payload 0 1 = 2 ∧ r.domains.any (fun d => s.otherHolds.getLsbD d) = true)
        ∨ (fieldAt r.payload 0 1 = 1 ∧ r.domains.any s.failedSlice = true) then fails eState s
      else if s.entering then fails eBusy s
      else if fieldAt r.payload 0 1 = 0 then answers s.domainResp s
      else if fieldAt r.payload 0 1 = 1 then s.holdOn r.domains bad
      else answers ((s.modPw (fun p => { p with hostHeld := p.hostHeld &&& ~~~(domMap r.domains) })).syncDomains).domainResp
        (s.modPw (fun p => { p with hostHeld := p.hostHeld &&& ~~~(domMap r.domains) })).syncDomains :=
  if_neg (domainForm_iff.mp h)

theorem domainBody_refused (h : r.DomainForm) (hr : s.domainRefused r) : domainBody bad r s = fails eState s :=
  (domainBody_formed bad h).trans (if_pos hr)

/-- DOMAIN_CONTROL outside an entry, of what it does not refuse. -/
theorem domainBody_open (h : r.DomainForm) (hr : ¬ s.domainRefused r) (he : s.pw.entry = none) : domainBody bad r s
    = if fieldAt r.payload 0 1 = 0 then answers s.domainResp s
      else if fieldAt r.payload 0 1 = 1 then s.holdOn r.domains bad
      else answers ((s.modPw (fun p => { p with hostHeld := p.hostHeld &&& ~~~(domMap r.domains) })).syncDomains).domainResp
        (s.modPw (fun p => { p with hostHeld := p.hostHeld &&& ~~~(domMap r.domains) })).syncDomains := by
  have hent : s.entering = false := by rw [State.entering, he]; rfl
  rw [domainBody_formed bad h, if_neg (show ¬ ((fieldAt r.payload 0 1 = 2 ∧ _) ∨ _) from hr), hent]
  rfl

end

/-- The host's hold on domains, and the domains that follow. -/
def State.holding (s : State) (ds : List Nat) : State :=
  (s.modPw (fun p => { p with hostHeld := p.hostHeld ||| domMap ds })).syncDomains

theorem leaveSleep_awake {s : State} (h : s.pw.st ≤ 1) (src dst : Nat) : s.leaveSleep src dst = s :=
  if_pos (bne_iff_ne.mpr (by omega))

theorem holdOn_ready {s : State} (h : s.pw.st ≤ 1) (ds : List Nat) : s.holdOn ds none = answers (s.holding ds).domainResp (s.holding ds) := by
  unfold State.holdOn
  rw [leaveSleep_awake h]
  rfl

theorem holdOn_bad {s : State} (h : s.pw.st ≤ 1) {ds : List Nat} {d : Nat} (hd : d ∈ ds) (hoff : s.pw.onMap.getLsbD d = false) :
    s.holdOn ds (some d) = (.reply ⟨eHw, [], none, d, 0⟩, (s.holding (ds.filter fun x => decide (x < d))).domainFails d) := by
  have hf : (some d).filter (fun d => ds.contains d && !(s.domOn d)) = some d :=
    if_pos (by simp only [State.domOn, hoff, List.contains_iff_mem.mpr hd, Bool.not_false, Bool.and_self])
  unfold State.holdOn
  rw [leaveSleep_awake h]
  simp only [hf]
  rfl

/-- Domains that the host holds on are on, but for slices that have failed. -/
theorem holding_on {s : State} {ds : List Nat} (h : s.pw.st ≤ 1) (he : s.pw.entry = none) (hf : ds.any s.failedSlice = false) {d : Nat}
    (hd : d ∈ ds) (hlt : d < 196) : (s.holding ds).pw.onMap.getLsbD d = true := by
  unfold State.holding State.syncDomains
  refine setDomains_on _ _ d ?_
  have hasleep : (s.modPw fun p => { p with hostHeld := p.hostHeld ||| domMap ds }).asleep = false := by
    change (decide (2 ≤ s.pw.st) || s.pw.entry.any fun e => decide (6 < e.step)) = false
    rw [he, decide_eq_false (by omega)]
    rfl
  have hdead : s.deadSlices.getLsbD d = false := by
    rw [State.deadSlices, domMap_getLsbD hlt]
    refine decide_eq_false fun hin => ?_
    obtain ⟨k, -, hk⟩ := List.mem_flatMap.mp hin
    obtain ⟨x, hx, rfl⟩ := List.mem_map.mp hk
    have hno := (List.any_eq_false.mp hf) _ hd
    have hk' : Fin.ofNat 4 ((33 * k.val + x.val) / 33) = k := Fin.ext (by have := k.isLt; have := x.isLt; simp only [Fin.val_ofNat]; omega)
    have hx' : Fin.ofNat 33 ((33 * k.val + x.val) % 33) = x := Fin.ext (by have := x.isLt; simp only [Fin.val_ofNat]; omega)
    have hlt' : 33 * k.val + x.val < 132 := by have := k.isLt; have := x.isLt; omega
    have hlive := (List.mem_filter.mp hx).2
    rw [Bool.and_eq_true, Bool.not_eq_true', Bool.not_eq_true'] at hlive
    have hcause : (s.tw[k].slices[x].cause == 0) = false := (Bool.or_eq_false_iff.mp hlive.2).1
    refine hno ?_
    unfold State.failedSlice
    rw [hk', hx', decide_eq_true hlt', Bool.true_and, bne_iff_ne]
    exact beq_eq_false_iff_ne.mp hcause
  have hholders : (s.modPw fun p => { p with hostHeld := p.hostHeld ||| domMap ds }).holders
      = domMap ((s.modPw fun p => { p with hostHeld := p.hostHeld ||| domMap ds }).workHolds
          ++ (s.modPw fun p => { p with hostHeld := p.hostHeld ||| domMap ds }).ownHolds)
        ||| ((s.pw.hostHeld ||| domMap ds) &&& ~~~s.deadSlices) := by
    unfold State.holders
    rw [hasleep]
    rfl
  rw [hholders]
  simp only [BitVec.getLsbD_or, BitVec.getLsbD_and, BitVec.getLsbD_not, domMap_getLsbD hlt, hdead, hlt, hd, decide_true, Bool.or_true,
    Bool.not_false, Bool.and_self]

end Sys2Proof.Machine
end

section
/-!
SUPPORT. Domains on demand, memory in SLEEP, the belfry's registers on I²C, and O50 (17 R420, R423, R424, R436, R439).
-/

namespace Sys2Proof.Machine

/-! Domains on demand, and memory that rests (17 R420, R423). -/

theorem demandWake_off {s : State} (h : 2 < s.pw.st) (d : Nat) : s.demandWake d = s := if_pos h

theorem demandWake_domain {s : State} (h : s.pw.st ≤ 2) {d : Nat} (hd : d = 140 ∨ d = 141 ∨ d = 195) :
    s.demandWake d = s.setDomains (s.pw.onMap ||| (1#196 <<< d)) := by
  unfold State.demandWake
  rw [if_neg (by omega), if_neg (by omega), if_neg (by omega), if_pos hd]

theorem demandWake_core {s : State} (h : s.pw.st = 2) (hc : s.pw.core = false) : s.demandWake 190
    = s.modPw (fun p => { p with core := true, onMap := p.onMap ||| bitSpan 190 191, idleAt := s.clk }) := by
  unfold State.demandWake State.coreWake
  rw [if_neg (by omega), if_pos rfl, if_neg (by omega), if_pos ⟨h, hc⟩]

theorem phyIdle_asks {s : State} (h : s.pw.st = 2) (hsr : s.mem.sr = .off) (ht : s.pw.phyReq + 3000000 ≤ s.clk) :
    s.phyIdle = s.modMem (fun m => { m with sr := .entry true }) := by
  unfold State.phyIdle State.srRequest
  rw [if_pos ⟨h, hsr, ht⟩, if_neg]
  rw [hsr]
  exact Bool.false_ne_true

/-! The belfry's registers (17 R436). -/

/-- What of the state a register shows. -/
theorem beltByte_same {s u : State} (hpw : { u.pw with i2cOut := [], i2cSnap := (0, []) } = { s.pw with i2cOut := [], i2cSnap := (0, []) })
    (hfw : u.fw = s.fw) (hclk : u.clk = s.clk) (a : Nat) : u.beltByte a = s.beltByte a := by
  have hst : u.pw.st = s.pw.st := (congrArg Power.st hpw :)
  have hent : u.entering = s.entering := (congrArg (fun p : Power => p.entry.isSome) hpw :)
  have hfail : u.pw.fail = s.pw.fail := (congrArg Power.fail hpw :)
  have hsrc : u.pw.wakeSrc = s.pw.wakeSrc := (congrArg Power.wakeSrc hpw :)
  have hby : u.pw.refusedBy = s.pw.refusedBy := (congrArg Power.refusedBy hpw :)
  have hbo : u.pw.brownouts = s.pw.brownouts := (congrArg Power.brownouts hpw :)
  have hret : u.pw.retain = s.pw.retain := (congrArg Power.retain hpw :)
  have hoff : u.pw.offCause = s.pw.offCause := (congrArg Power.offCause hpw :)
  have htimer : u.pw.timer = s.pw.timer := (congrArg Power.timer hpw :)
  simp only [State.beltByte, hst, hent, hfail, hsrc, hby, hbo, hret, hoff, hfw, Power.failByte, State.timerLeft, htimer, hclk]

/-- A register of one byte is read as it stands. -/
theorem i2cRead_byte {s : State} (h : s.belfryOn = true) {a : Nat} (hg : beltGroup (a % 256) = 0) : s.i2cRead a 1
    = s.modPw (fun p => { p with i2cOut := [s.beltByte (a % 256)], i2cSnap := (0, []) }) := by
  have hone : (List.range 1).foldl (fun x i => x.i2cByte ((a + i) % 256)) (s.modPw fun p => { p with i2cOut := [], i2cSnap := (0, []) })
      = (s.modPw fun p => { p with i2cOut := [], i2cSnap := (0, []) }).i2cByte (a % 256) := rfl
  have hb : (s.modPw fun p => { p with i2cOut := [], i2cSnap := (0, []) }).beltByte (a % 256) = s.beltByte (a % 256) :=
    beltByte_same rfl rfl rfl _
  rw [State.i2cRead, if_pos h, hone]
  simp only [State.i2cByte, hg, if_true, hb]
  rfl

/-- The first byte of a register of four takes all four. -/
theorem i2cByte_first {s : State} {a : Nat} (h : beltGroup a = 4) : s.i2cByte a = s.modPw (fun p => { p with
    i2cSnap := (a, [s.beltByte a, s.beltByte (a + 1), s.beltByte (a + 2), s.beltByte (a + 3)]), i2cOut := p.i2cOut ++ [s.beltByte a] }) := by
  have hin : a ≤ a ∧ a < a + 4 := ⟨le_refl a, by omega⟩
  have hr : (List.range 4).map (fun i => s.beltByte (a + i))
      = [s.beltByte a, s.beltByte (a + 1), s.beltByte (a + 2), s.beltByte (a + 3)] := rfl
  have hl : ([s.beltByte a, s.beltByte (a + 1), s.beltByte (a + 2), s.beltByte (a + 3)] : List Byte).length = 4 := rfl
  simp only [State.i2cByte, h, hr, OfNat.ofNat_ne_zero, if_false, State.modPw, State.setPw, hl, hin, and_self, if_true, Nat.sub_self]
  rfl

/-- A byte of the register that was taken. -/
theorem i2cByte_next {s : State} {a i : Nat} {l : List Byte} (h : beltGroup (a + i) = 0) (hs : s.pw.i2cSnap = (a, l)) (hi : i < l.length) :
    s.i2cByte (a + i) = s.modPw (fun p => { p with i2cOut := p.i2cOut ++ [byteAt l i] }) := by
  have hin : a ≤ a + i ∧ a + i < a + l.length := ⟨by omega, by omega⟩
  simp only [State.i2cByte, h, if_true, hs, hin, and_self, Nat.add_sub_cancel_left]

/-- The registers of four bytes. -/
theorem beltGroup_four {a : Nat} (h : a = 4 ∨ a = 12) : beltGroup a = 4 ∧ beltGroup (a + 1) = 0 ∧ beltGroup (a + 2) = 0
    ∧ beltGroup (a + 3) = 0 ∧ a + 3 < 256 := by
  rcases h with rfl | rfl <;> decide

/-- In the course of a read: the bytes of the register taken, and what has been read. -/
def Reading (s u : State) (a : Nat) (l o : List Byte) : Prop := ∃ p, u = { s with pw := p } ∧ p.i2cSnap = (a, l) ∧ p.i2cOut = o

theorem Reading.next {s u : State} {a i : Nat} {l o : List Byte} (hr : Reading s u a l o) (h : beltGroup (a + i) = 0) (hi : i < l.length) :
    Reading s (u.i2cByte (a + i)) a l (o ++ [byteAt l i]) := by
  obtain ⟨p, rfl, hs, ho⟩ := hr
  exact ⟨_, i2cByte_next h hs hi, hs, congrArg (· ++ [byteAt l i]) ho⟩

/-- A register of four bytes is read as it stands at its first (17 R436). -/
theorem i2cRead_group {s : State} (h : s.belfryOn = true) {a : Nat} (ha : a = 4 ∨ a = 12) :
    ∃ p, s.i2cRead a 4 = { s with pw := p } ∧ p.i2cOut = [s.beltByte a, s.beltByte (a + 1), s.beltByte (a + 2), s.beltByte (a + 3)] := by
  obtain ⟨h0, h1, h2, h3, hlt⟩ := beltGroup_four ha
  have hm (i : Nat) (hi : i ≤ 3) : (a + i) % 256 = a + i := Nat.mod_eq_of_lt (by omega)
  have hb (n : Nat) : (s.modPw fun p => { p with i2cOut := [], i2cSnap := (0, []) }).beltByte n = s.beltByte n := beltByte_same rfl rfl rfl _
  have hfirst : Reading s ((s.modPw fun p => { p with i2cOut := [], i2cSnap := (0, []) }).i2cByte a) a
      [s.beltByte a, s.beltByte (a + 1), s.beltByte (a + 2), s.beltByte (a + 3)] [s.beltByte a] := by
    rw [i2cByte_first h0]
    simp only [hb]
    exact ⟨_, rfl, rfl, rfl⟩
  have hlast := ((hfirst.next h1 (by simp)).next h2 (by simp)).next h3 (by simp)
  rw [State.i2cRead, if_pos h, show List.range 4 = [0, 1, 2, 3] from rfl]
  simp only [List.foldl_cons, List.foldl_nil, hm 0 (by omega), hm 1 (by omega), hm 2 (by omega), hm 3 (by omega)]
  obtain ⟨p, hp, -, ho⟩ := hlast
  exact ⟨p, hp, ho⟩

theorem bytes_four {l : List Byte} (h : l.length = 4) : [byteAt l 0, byteAt l 1, byteAt l 2, byteAt l 3] = l := by
  obtain _ | ⟨a, _ | ⟨b, _ | ⟨c, _ | ⟨d, _ | ⟨e, l⟩⟩⟩⟩⟩ := l <;> simp_all [byteAt]

theorem beltByte_brownouts (s : State) : [s.beltByte 4, s.beltByte (4 + 1), s.beltByte (4 + 2), s.beltByte (4 + 3)] = leBytes 4 s.pw.brownouts :=
  (show _ = [byteAt (leBytes 4 s.pw.brownouts) 0, byteAt (leBytes 4 s.pw.brownouts) 1, byteAt (leBytes 4 s.pw.brownouts) 2,
    byteAt (leBytes 4 s.pw.brownouts) 3] from rfl).trans (bytes_four (leBytes_length 4 s.pw.brownouts))

theorem beltByte_timer (s : State) : [s.beltByte 12, s.beltByte (12 + 1), s.beltByte (12 + 2), s.beltByte (12 + 3)] = leBytes 4 s.timerLeft :=
  (show _ = [byteAt (leBytes 4 s.timerLeft) 0, byteAt (leBytes 4 s.timerLeft) 1, byteAt (leBytes 4 s.timerLeft) 2,
    byteAt (leBytes 4 s.timerLeft) 3] from rfl).trans (bytes_four (leBytes_length 4 s.timerLeft))

theorem belfryOn_iff {s : State} : s.belfryOn = true ↔ s.pw.aux = true ∧ s.pw.brownTo ≤ s.clk := by
  simp [State.belfryOn]

theorem i2cRead_off {s : State} (h : s.pw.aux = false ∨ s.clk < s.pw.brownTo) (a n : Nat) : s.i2cRead a n = s := by
  refine if_neg fun hon => ?_
  obtain ⟨haux, hbr⟩ := belfryOn_iff.mp hon
  rcases h with h | h
  · rw [haux] at h; cases h
  · omega

/-! What a ready command's answer leaves of power (02 R41). -/

/-- A ready command that is answered, and its state after the answer. -/
theorem command_answered {s : State} {t : Nat} {m : Fin 17} {code : Nat} {lenOk : Req → Bool} {body : Body} {a : Reply} {x : State}
    (h : Ready s t m code lenOk) (hb : body (s.reqOf m) (s.reach t) = (.reply a, x)) (hx : x.clk = (s.reach t).clk) {P : State → Prop}
    (hP : P (x.respond (s.reqOf m) a x.clk)) : Leads (go (s.command t m code lenOk body)) P := by
  obtain ⟨-, -, -, -, he⟩ := id h
  exact ⟨_, congrArg go (command_reply h hb (by rw [hx, he])), hP⟩

/-- The host's holds as DOMAIN_CONTROL sets them, before domains follow. -/
def State.hold (s : State) (h : BitVec 196) : State := s.modPw (fun p => { p with hostHeld := h })

/-- What the answer to DOMAIN_CONTROL leaves, once the holds are set and domains have followed. -/
theorem domains_answered {s v : State} {h : BitVec 196} (hup : Upkeep (s.hold h) v) (hd : OnlyDomains (s.hold h) v) (r : Req) (a : Reply)
    (c : Nat) : (((v.respond r a c).mbox r.mb).status = a.status ∧ (v.respond r a c).pw.hostHeld = h)
      ∧ (v.respond r a c).ch = s.ch ∧ (v.respond r a c).ck = s.ck ∧ (v.respond r a c).tm = s.tm ∧ (v.respond r a c).mem = s.mem
      ∧ (v.respond r a c).tr = s.tr ∧ ∀ d, v.pw.onMap.getLsbD d = true → (v.respond r a c).pw.onMap.getLsbD d = true := by
  have hpw : Retains (s.hold h) (v.respond r a c) := .respond hup.toRetains
  have hu : OnlyDomains (s.hold h) (v.respond r a c) := hd.units (respond_units v r a c)
  have hon : StaysOn v (v.respond r a c) := .respond .refl
  obtain ⟨-, hst, -⟩ := respond_replied v r a c
  obtain ⟨-, -, -, -, -, hch, -, htr, -⟩ := id hu
  exact ⟨⟨hst, (congrArg Power.hostHeld hpw.fixed :)⟩, hch, hu.ck, hu.tm, hu.mem, htr, hon⟩

section
variable {s : State} {t : Nat} {m : Fin 17}

/-- HOLD_ON of domains that report ready. -/
theorem exec_holdOn_ready (h : Ready s t m 0x0503 (lenIs 8)) (hf : (s.reqOf m).DomainForm) (hop : fieldAt (s.reqOf m).payload 0 1 = 1)
    (he : s.pw.entry = none) (hst : s.pw.st ≤ 1) (hok : (s.reqOf m).domains.any s.failedSlice = false) :
    Leads (exec (.domainControl t m none) s) (fun u => (u.mbox m).status = stOk
      ∧ u.pw.hostHeld = s.pw.hostHeld ||| domMap (s.reqOf m).domains ∧ u.ch = s.ch ∧ u.ck = s.ck ∧ u.tm = s.tm ∧ u.mem = s.mem ∧ u.tr = s.tr
      ∧ ∀ d ∈ (s.reqOf m).domains, u.pw.onMap.getLsbD d = true) := by
  obtain ⟨hmay, -⟩ := id h
  have hx : s.mr.exec = none := exec_none_of_mayTake hmay (by decide)
  have hno : ¬ (s.reach t).domainRefused (s.reqOf m) := by
    rintro (h2 | h1)
    · omega
    · exact absurd (hok.symm.trans h1.2) Bool.false_ne_true
  have hb : domainBody none (s.reqOf m) (s.reach t)
      = answers ((s.reach t).holding (s.reqOf m).domains).domainResp ((s.reach t).holding (s.reqOf m).domains) := by
    rw [domainBody_open none hf hno he, if_neg (by omega), if_pos hop, holdOn_ready (s := s.reach t) hst]
  have hup : Upkeep ((s.reach t).hold (s.pw.hostHeld ||| domMap (s.reqOf m).domains)) ((s.reach t).holding (s.reqOf m).domains) :=
    .syncDomains .refl
  have hd : OnlyDomains ((s.reach t).hold (s.pw.hostHeld ||| domMap (s.reqOf m).domains)) ((s.reach t).holding (s.reqOf m).domains) :=
    .syncDomains .refl
  refine command_answered h hb (hup.idle hx).2.1 ?_
  obtain ⟨⟨hstatus, hheld⟩, hch, hck, htm, hmem, htr, hon⟩ := domains_answered hup hd (s.reqOf m)
    ⟨stOk, ((s.reach t).holding (s.reqOf m).domains).domainResp, none, 0, 0⟩ ((s.reach t).holding (s.reqOf m).domains).clk
  exact ⟨hstatus, hheld, hch, hck, htm, hmem, htr,
    fun d hin => hon d (holding_on (s := s.reach t) hst he hok hin (Req.domains_lt hf hin))⟩

/-- HOLD_ON of a domain that does not report ready. -/
theorem exec_holdOn_bad (h : Ready s t m 0x0503 (lenIs 8)) (hf : (s.reqOf m).DomainForm) (hop : fieldAt (s.reqOf m).payload 0 1 = 1)
    (he : s.pw.entry = none) (hst : s.pw.st ≤ 1) (hok : (s.reqOf m).domains.any s.failedSlice = false) {d : Nat}
    (hd : d ∈ (s.reqOf m).domains) (hoff : s.pw.onMap.getLsbD d = false) :
    Leads (exec (.domainControl t m (some d)) s) (fun u => Replied u m eHw [] ∧ u.pw.failed.getLsbD d = true
      ∧ fieldAt (u.mbox m).rsp 12 4 = d) := by
  obtain ⟨hmay, -⟩ := id h
  have hx : s.mr.exec = none := exec_none_of_mayTake hmay (by decide)
  have hlt := Req.domains_lt hf hd
  have hno : ¬ (s.reach t).domainRefused (s.reqOf m) := by
    rintro (h2 | h1)
    · omega
    · exact absurd (hok.symm.trans h1.2) Bool.false_ne_true
  have hb : domainBody (some d) (s.reqOf m) (s.reach t) = (.reply ⟨eHw, [], none, d, 0⟩,
      ((s.reach t).holding ((s.reqOf m).domains.filter fun x => decide (x < d))).domainFails d) := by
    rw [domainBody_open (some d) hf hno he, if_neg (by omega), if_pos hop, holdOn_bad (s := s.reach t) hst hd hoff]
  have hold : Upkeep ((s.reach t).hold (s.pw.hostHeld ||| domMap ((s.reqOf m).domains.filter fun x => decide (x < d))))
      ((s.reach t).holding ((s.reqOf m).domains.filter fun x => decide (x < d))) := .syncDomains .refl
  have hclk := hold.idle hx
  generalize (s.reach t).holding ((s.reqOf m).domains.filter fun x => decide (x < d)) = v at hb hclk
  have hfail := domainFails_upkeep v d
  have hclk' : (v.domainFails d).clk = (s.reach t).clk := (hfail.idle hclk.1).2.1.trans hclk.2.1
  refine command_answered h hb hclk' ⟨respond_replied _ _ _ _, ?_, ?_⟩
  · have hpw : Retains (v.modPw fun p => { p with failed := p.failed ||| (1#196 <<< d) })
        ((v.domainFails d).respond (s.reqOf m) ⟨eHw, [], none, d, 0⟩ (v.domainFails d).clk) := .respond hfail.toRetains
    have hbits := congrArg (fun p : Power => p.failed.getLsbD d) hpw.fixed
    refine hbits.trans ?_
    change (v.pw.failed ||| (1#196 <<< d)).getLsbD d = true
    rw [BitVec.getLsbD_or, getLsbD_one_shift hlt, decide_eq_true rfl, Bool.or_true]
  · exact (respond_detail _ _ _ _).trans (Nat.mod_eq_of_lt (show d < 256 ^ 4 by omega))

/-- RELEASE of domains that no other holds. -/
theorem exec_release (h : Ready s t m 0x0503 (lenIs 8)) (hf : (s.reqOf m).DomainForm) (hop : fieldAt (s.reqOf m).payload 0 1 = 2)
    (he : s.pw.entry = none) (hok : (s.reqOf m).domains.any (fun d => s.otherHolds.getLsbD d) = false) (bad : Option Nat) :
    Leads (exec (.domainControl t m bad) s) (fun u => (u.mbox m).status = stOk
      ∧ u.pw.hostHeld = s.pw.hostHeld &&& ~~~(domMap (s.reqOf m).domains)) := by
  obtain ⟨hmay, -⟩ := id h
  have hx : s.mr.exec = none := exec_none_of_mayTake hmay (by decide)
  have hno : ¬ (s.reach t).domainRefused (s.reqOf m) := by
    rintro (h2 | h1)
    · exact absurd (hok.symm.trans h2.2) Bool.false_ne_true
    · omega
  have hb : domainBody bad (s.reqOf m) (s.reach t)
      = answers ((s.reach t).hold (s.pw.hostHeld &&& ~~~(domMap (s.reqOf m).domains))).syncDomains.domainResp
        ((s.reach t).hold (s.pw.hostHeld &&& ~~~(domMap (s.reqOf m).domains))).syncDomains := by
    rw [domainBody_open bad hf hno he, if_neg (by omega), if_neg (by omega)]
    rfl
  generalize s.pw.hostHeld &&& ~~~(domMap (s.reqOf m).domains) = held at hb ⊢
  have hup : Upkeep ((s.reach t).hold held) ((s.reach t).hold held).syncDomains := .syncDomains .refl
  exact command_answered h hb (hup.idle hx).2.1 (domains_answered hup (.syncDomains .refl) _ _ _).1

/-- STATUS of the domains. -/
theorem exec_domainStatus (h : Ready s t m 0x0503 (lenIs 8)) (hf : (s.reqOf m).DomainForm) (hop : fieldAt (s.reqOf m).payload 0 1 = 0)
    (he : s.pw.entry = none) (bad : Option Nat) : Leads (exec (.domainControl t m bad) s) (fun u =>
      Replied u m stOk (leBytes 32 s.pw.onMap.toNat ++ leBytes 32 s.pw.hostHeld.toNat) ∧ SameUnits s u ∧ SameSettings s u) := by
  have hno : ¬ (s.reach t).domainRefused (s.reqOf m) := by
    rintro (h2 | h1)
    · omega
    · omega
  have hb : domainBody bad (s.reqOf m) (s.reach t) = answers (s.reach t).domainResp (s.reach t) := by
    rw [domainBody_open bad hf hno he, if_pos hop]
  have hst := command_replies h hb rfl
  exact hst

end

/-- Settles O50: domains follow the holds that DOMAIN_CONTROL sets, and what follows of them, up to a slice that fails, is upkeep
(`Upkeep`), which leaves the other records of the power controller and the time. -/
theorem powerStatusAndDomains : Obligations.PowerStatusAndDomains := by
  refine ⟨?_, ?_, ?_, ?_⟩
  · intro s t m hr
    have hst := command_replies hr (body := pwrStatusBody) rfl rfl
    exact hst
  · intro s t m bad hr p op first count ds ok
    refine ⟨fun h => ?_, fun h hw => ?_, fun h hop he => exec_domainStatus hr h hop he bad, fun h hop he hst hok => ⟨?_, ?_⟩,
      fun h hop he hok => exec_release hr h hop he hok bad⟩
    · exact command_fails hr (domainBody_malformed bad h)
    · exact command_fails hr (domainBody_refused (s := s.reach t) bad h hw)
    · rintro rfl
      exact exec_holdOn_ready hr h hop he hst hok
    · rintro d rfl hd hoff
      exact exec_holdOn_bad hr h hop he hst hok hd hoff
  · intro s t d
    refine ⟨fun h => congrArg go (demandWake_off (s := s.reach t) h d), fun h hd => ?_, fun h hc => ?_,
      fun h hsr ht => congrArg go (phyIdle_asks (s := s.reach t) h hsr ht), fun h => congrArg go (if_neg ?_)⟩
    · refine ⟨_, congrArg go (demandWake_domain (s := s.reach t) h hd), ?_⟩
      have hu : OnlyDomains (s.reach t) ((s.reach t).setDomains (s.pw.onMap ||| (1#196 <<< d))) := .setDomains .refl
      have hlt : d < 196 := by omega
      obtain ⟨-, -, -, -, -, hch, -⟩ := id hu
      refine ⟨setDomains_on (s.reach t) _ d ?_, hch, hu.ck, hu.tm, hu.mem⟩
      rw [BitVec.getLsbD_or, getLsbD_one_shift hlt, decide_eq_true rfl, Bool.or_true]
    · refine ⟨_, congrArg go (demandWake_core (s := s.reach t) h hc), rfl, h, ?_, .refl _⟩
      change (s.pw.onMap ||| bitSpan 190 191).getLsbD 190 = true
      rw [BitVec.getLsbD_or, show (bitSpan 190 191).getLsbD 190 = true by decide, Bool.or_true]
    · rintro ⟨hst, hsr, ht⟩
      have ht' : s.pw.phyReq + 3000000 ≤ max s.clk t := ht
      rcases h with h | h | h
      · exact h hst
      · exact h hsr
      · omega
  · intro s t a n
    have hon (ha : s.pw.aux = true) (hb : s.pw.brownTo ≤ max s.clk t) : (s.reach t).belfryOn = true := belfryOn_iff.mpr ⟨ha, hb⟩
    refine ⟨fun h => congrArg go (i2cRead_off (s := s.reach t) h a n), fun ha hb hg _ => congrArg go (i2cRead_byte (hon ha hb) hg),
      fun ha hb => ?_, fun ha hb => ?_⟩
    · obtain ⟨p, hp, ho⟩ := i2cRead_group (hon ha hb) (a := 4) (Or.inl rfl)
      exact ⟨_, congrArg go hp, ho.trans (beltByte_brownouts (s.reach t)), .refl _, rfl, rfl, rfl, rfl, rfl⟩
    · obtain ⟨p, hp, ho⟩ := i2cRead_group (hon ha hb) (a := 12) (Or.inr rfl)
      exact ⟨_, congrArg go hp, ho.trans (beltByte_timer (s.reach t)), .refl _, rfl, rfl, rfl, rfl, rfl⟩

end Sys2Proof.Machine
end

section
/-!
SUPPORT. Accumulation: a record that has left the delay line, folds, result passes and the end of the busy interval (11 R273 to R283).
-/

namespace Sys2Proof.Machine

/-! A record is added (11 R276, R277). -/

/-- What a run keeps of its records. -/
def Acc.told (a : Acc) : List Rec × Nat × List (Int × Int) × Stamp × Nat := (a.recs, a.records, a.store, a.lastT, a.cutCause)

theorem Acc.busyOn_told (a : Acc) (e : Nat) : (a.busyOn e).told = a.told := by
  unfold Acc.busyOn
  split <;> rfl

theorem Acc.call_told (a : Acc) (fold : Bool) (close drain : Nat) : (a.call fold close drain).told = a.told := a.busyOn_told close

/-- A run with a record that ends keeps what it has. -/
theorem endRun_told {s : State} {c : Fin 4} (h : s.ch[c].acc.records ≠ 0) (close drain : Nat) :
    (s.endRun c close drain).ch[c].acc.told = s.ch[c].acc.told := by
  unfold State.endRun
  dsimp only
  rw [if_neg h]
  split
  · rw [modCh_same]; rfl
  · rw [modCh_same, modCh_same]
    exact Acc.call_told _ _ _ _

/-- The last point of a record has been added: the record counts and waits no longer. -/
theorem closeAdded_told (s : State) (c : Fin 4) (r : Rec) : (s.closeAdded c r false).ch[c].acc.told
    = (s.ch[c].acc.recs.drop 1, s.ch[c].acc.records + 1, s.ch[c].acc.store, r.stamp, r.cut) := by
  unfold State.closeAdded
  extract_lets cut first last close s1 s2
  have h1 : s1.ch[c].acc.told = (s.ch[c].acc.recs.drop 1, s.ch[c].acc.records + 1, s.ch[c].acc.store, r.stamp, r.cut) :=
    congrArg (fun h : Chan => h.acc.told) (modCh_same s c _)
  have h2 : s2.ch[c].acc.told = s1.ch[c].acc.told := rfl
  have hne : s2.ch[c].acc.records ≠ 0 := by
    rw [show s2.ch[c].acc.records = s.ch[c].acc.records + 1 from (congrArg (·.2.1) (h2.trans h1) :)]
    exact Nat.succ_ne_zero _
  clear_value s2
  rw [← h1, ← h2]
  split
  · exact endRun_told hne _ _
  · split
    · exact (congrArg (fun h : Chan => h.acc.told) (modCh_same s2 c _)).trans (Acc.call_told _ _ _ _)
    · rfl

theorem countSats_acc (s : State) (c d : Fin 4) (first : Nat) (vals : List Value) : (s.countSats c first vals).ch[d].acc = s.ch[d].acc :=
  (congrArg Chan.acc ((countSats_keepsChannels s c first vals).core d) :)

theorem valuesOf_length (s : State) (c : Fin 4) (first n : Nat) (codes : Codes) : (s.valuesOf c first n codes).length = n := by
  simp only [State.valuesOf, List.length_map, List.length_range]

/-- The store with the points of one more record. -/
def State.storeWith (s : State) (c : Fin 4) (r : Rec) (vals : List Value) : List (Int × Int) :=
  s.ch[c].acc.store.take r.done ++ addPoints (s.akey 0x0900 c == 3) (s.ch[c].acc.records == 0) (vals.map (s.pointOf c))
    (if s.ch[c].acc.records = 0 then [] else s.ch[c].acc.store.drop r.done)

/-- The record with its points added. -/
def Rec.with (r : Rec) (vals : List Value) : Rec := { r with done := r.done + vals.length, clip := r.clip || vals.any (·.ovr) }

theorem addValues_told (s : State) (c : Fin 4) (r : Rec) (vals : List Value) : (s.addValues c r vals).ch[c].acc.told
    = (r.with vals :: s.ch[c].acc.recs.drop 1, s.ch[c].acc.records, s.storeWith c r vals, s.ch[c].acc.lastT, s.ch[c].acc.cutCause) := by
  unfold State.addValues State.storeWith
  dsimp only
  rw [modCh_same]
  simp only [Acc.told, countSats_acc, beq_iff_eq, Rec.with]

theorem hear_told (s : State) (c : Fin 4) (g : Stream) : (s.hear c g).ch[c].acc = s.ch[c].acc :=
  by rw [State.hear, modCh_same]

/-- The points of a record that wait, as values. -/
def State.waiting (s : State) (c : Fin 4) (r : Rec) (codes : Codes) : List Value :=
  s.valuesOf c (r.first.toNat + r.done) (r.points - r.done) codes

/-- A closed record, of which nothing settles and all has left the delay line, is added whole. -/
theorem takeRecord_adds {s : State} {c : Fin 4} {codes : Codes} {r : Rec} {rest : List Rec} (hrecs : s.ch[c].acc.recs = r :: rest)
    (hclosed : r.closed = true) (hset : s.settlePoint c r = none) (hdisc : s.discards c r = false) (hdone : r.done < r.points)
    (hleft : s.leftLine c (r.first.toNat + r.done) (r.points - r.done) = r.points - r.done) :
    (s.takeRecord c codes).ch[c].acc.told
      = (rest, s.ch[c].acc.records + 1, s.storeWith c r (s.waiting c r codes), r.stamp, r.cut) := by
  have hm : r.points - r.done ≠ 0 := by omega
  have hlen : (s.waiting c r codes).length = r.points - r.done := valuesOf_length _ _ _ _ _
  have htold := addValues_told s c r (s.waiting c r codes)
  rw [hrecs] at htold
  have hfull : (r.with (s.waiting c r codes)).done = r.points := by
    rw [Rec.with, hlen]; dsimp only; omega
  have hrecs' : (s.addValues c r (s.waiting c r codes)).ch[c].acc.recs = r.with (s.waiting c r codes) :: rest := (congrArg (·.1) htold :)
  have hnum : (s.addValues c r (s.waiting c r codes)).ch[c].acc.records = s.ch[c].acc.records := (congrArg (·.2.1) htold :)
  have hstore : (s.addValues c r (s.waiting c r codes)).ch[c].acc.store = s.storeWith c r (s.waiting c r codes) :=
    (congrArg (·.2.2.1) htold :)
  have hgo : (r.with (s.waiting c r codes)).done = r.points ∧ (r.closed || (none : Option Nat).isSome) = true :=
    ⟨hfull, by rw [hclosed]; rfl⟩
  have hx : s.takeRecord c codes = ((s.addValues c r (s.waiting c r codes)).hear c
      (s.valueStream c (r.first.toNat + r.done) (r.points - r.done) codes)).closeAdded c (r.with (s.waiting c r codes)) false := by
    unfold State.takeRecord
    simp only [hrecs, hset, hdisc, Option.getD_none, hleft, hm, if_false, Bool.false_eq_true, hear_told]
    change (match (s.addValues c r (s.waiting c r codes)).ch[c].acc.recs with
      | [] => _
      | r1 :: _ => _) = _
    rw [hrecs']
    exact if_pos hgo
  rw [hx, closeAdded_told, hear_told, hrecs', hnum, hstore]
  rfl

end Sys2Proof.Machine
end

section
/-!
SUPPORT. What pages, descriptors and the end of an acquisition leave of runs, and O36 (11 R279 to R283; 12 R291, R300, R301).
-/

namespace Sys2Proof.Machine

/-- Runs of accumulation and the descriptor queue stand. -/
structure KeepsRuns (s u : State) : Prop where
  acc : ∀ c : Fin 4, u.ch[c].acc = s.ch[c].acc
  descQ : u.tr.descQ = s.tr.descQ

namespace KeepsRuns
variable {s u v : State}

theorem refl : KeepsRuns s s := ⟨fun _ => rfl, rfl⟩

theorem trans (h : KeepsRuns s u) (k : KeepsRuns u v) : KeepsRuns s v := ⟨fun c => (k.acc c).trans (h.acc c), k.descQ.trans h.descQ⟩

/-- Channels and trellis stand. -/
theorem keep (h : KeepsRuns s u) (hch : v.ch = u.ch) (htr : v.tr = u.tr) : KeepsRuns s v :=
  h.trans ⟨fun c => by rw [hch], by rw [htr]⟩

theorem ite {c : Prop} {i : Decidable c} (hu : KeepsRuns s u) (hv : KeepsRuns s v) : KeepsRuns s (if c then u else v) := by
  split
  · exact hu
  · exact hv

theorem foldl {α : Type} {f : State → α → State} (hf : ∀ {a x}, KeepsRuns s a → KeepsRuns s (f a x)) {l : List α}
    (h : KeepsRuns s u) : KeepsRuns s (l.foldl f u) := by
  induction l generalizing u with
  | nil => exact h
  | cons x xs ih => exact ih (hf h)

theorem modCh {d : Fin 4} {g : Chan → Chan} (h : KeepsRuns s u) (hg : ∀ x, (g x).acc = x.acc) : KeepsRuns s (u.modCh d g) := by
  refine h.trans ⟨fun c => ?_, rfl⟩
  by_cases hc : c = d
  · subst hc; rw [modCh_same, hg]
  · rw [modCh_other u g hc]

theorem modTr {g : Trellis → Trellis} (h : KeepsRuns s u) (hg : (g u.tr).descQ = u.tr.descQ) : KeepsRuns s (u.modTr g) :=
  h.trans ⟨fun _ => rfl, hg⟩

theorem setEvq {l : List Ev} (h : KeepsRuns s u) : KeepsRuns s (u.setEvq l) := h.keep rfl rfl
theorem modHv {g : Harvest → Harvest} (h : KeepsRuns s u) : KeepsRuns s (u.modHv g) := h.keep rfl rfl

theorem logEv {code sev scope : Nat} {data : List Byte} (h : KeepsRuns s u) : KeepsRuns s (u.logEv code sev scope data) :=
  have hq := (logEv_quiet u code sev scope data).units
  h.keep hq.ch hq.tr

theorem logEvAt {b code sev scope : Nat} {data : List Byte} (h : KeepsRuns s u) : KeepsRuns s (u.logEvAt b code sev scope data) :=
  have hq := (logEvAt_quiet u b code sev scope data).units
  h.keep hq.ch hq.tr

theorem domains (h : KeepsRuns s u) (k : OnlyDomains u v) : KeepsRuns s v := by
  obtain ⟨-, -, -, -, -, hch, -, htr, -⟩ := k
  exact h.keep hch htr

/-! Pages and segments (12 R291, R300 to R304). -/

theorem quotaCheck {c : Fin 4} (h : KeepsRuns s u) : KeepsRuns s (u.quotaCheck c) := .ite (.logEv (.modCh h fun _ => rfl)) h
theorem returnPages {ns : List Nat} (h : KeepsRuns s u) : KeepsRuns s (u.returnPages ns) := .modTr h rfl
theorem takePage {n k : Nat} {x : Use} (h : KeepsRuns s u) : KeepsRuns s (u.takePage n k x) := .modTr h rfl
theorem sweep {c : Fin 4} (h : KeepsRuns s u) : KeepsRuns s (u.sweep c) := .quotaCheck (.modTr (.returnPages h) rfl)
theorem dropSeg {c : Fin 4} {a i : Nat} (h : KeepsRuns s u) : KeepsRuns s (u.dropSeg c a i) := .sweep (.modTr h rfl)
theorem skipTaken {g : Seg} (h : KeepsRuns s u) : KeepsRuns s (u.skipTaken g) := .modHv h
theorem modAcq {c : Fin 4} {a : Nat} {g : Acq → Acq} (h : KeepsRuns s u) : KeepsRuns s (u.modAcq c a g) := .modTr h rfl
theorem putSeg {c : Fin 4} {g : Seg} (h : KeepsRuns s u) : KeepsRuns s (u.putSeg c g) := .modAcq (.modTr h rfl)
theorem storeWords {ps : List Nat} {w : Nat} {bs : List Byte} (h : KeepsRuns s u) : KeepsRuns s (u.storeWords ps w bs) := .modTr h rfl
theorem linkDesc {c : Fin 4} {idx n k : Nat} (h : KeepsRuns s u) : KeepsRuns s (u.linkDesc c idx n k) := .modAcq (.takePage h)
theorem holdAlloc {c : Fin 4} {d : Option Nat} (h : KeepsRuns s u) : KeepsRuns s (u.holdAlloc c d) := .ite h (.modTr h rfl)

theorem reclaimOne {c : Fin 4} {g : Seg} (h : KeepsRuns s u) : KeepsRuns s (u.reclaimOne c g) := by
  unfold State.reclaimOne
  exact .modTr (.modCh (.dropSeg (.skipTaken h)) fun _ => rfl) rfl

theorem countRefused {c : Fin 4} (h : KeepsRuns s u) : KeepsRuns s (u.countRefused c) := .modTr (.modCh h fun _ => rfl) rfl

theorem requestRing {c : Fin 4} {n : Nat} (h : KeepsRuns s u) : KeepsRuns s (State.requestRing c n u).1 := by
  induction n generalizing u with
  | zero => exact h
  | succ n ih =>
    unfold State.requestRing
    split
    · split
      · exact ih (.reclaimOne h)
      · exact h
    · exact h

theorem allocate {c : Fin 4} (h : KeepsRuns s u) : KeepsRuns s (u.allocate c).1 := by
  unfold State.allocate
  split
  · dsimp only
    split
    · exact .requestRing (.countRefused h)
    · exact .countRefused h
  · exact h

theorem getDesc {c : Fin 4} {idx : Nat} (h : KeepsRuns s u) : KeepsRuns s (u.getDesc c idx).1 := by
  unfold State.getDesc
  split
  · dsimp only
    split
    · exact .linkDesc (.allocate h)
    · exact .holdAlloc (.allocate h)
    · exact .allocate h
  · exact h

theorem takeRunPages {c : Fin 4} {n : Nat} {ps : List Nat} (h : KeepsRuns s u) : KeepsRuns s (State.takeRunPages c n u ps).1 := by
  induction n generalizing u ps with
  | zero => exact h
  | succ n ih =>
    unfold State.takeRunPages
    dsimp only
    split
    · exact ih (.takePage (.allocate h))
    · split
      · exact .allocate h
      · exact ih (.takePage (.allocate h))
    · exact .allocate h

/-! The end of an acquisition (09 R227, R251). -/

theorem startDec {d : Fin 4} (h : KeepsRuns s u) : KeepsRuns s (u.startDec d) := by
  unfold State.startDec State.gridDec
  exact .modCh (.modCh h fun _ => rfl) fun _ => rfl

theorem syncUnit {q e : Nat} {d : Fin 4} (h : KeepsRuns s u) : KeepsRuns s (u.syncUnit q e d) := by
  unfold State.syncUnit
  extract_lets wantDet wantDec x s2
  have h2 : KeepsRuns s s2 := .ite (.modCh h fun _ => rfl) (.ite (.setEvq (.modCh h fun _ => rfl)) h)
  exact .ite (.startDec h2) (.ite (.modCh h2 fun _ => rfl) h2)

theorem syncUnits {q e : Nat} (h : KeepsRuns s u) : KeepsRuns s (u.syncUnits q e) := .foldl .syncUnit h

theorem toDone {c : Fin 4} {reason q e : Nat} (h : KeepsRuns s u) : KeepsRuns s (u.toDone c reason q e) := by
  unfold State.toDone
  extract_lets s1 s2
  have h1 : KeepsRuns s s1 := .modCh h fun _ => rfl
  have h2 : KeepsRuns s s2 := .logEvAt h1
  have h3 : KeepsRuns s ((s2.sweep c).syncUnits q e) := .syncUnits (.sweep h2)
  exact h3.domains (.syncDomains .refl)

end KeepsRuns

/-- On a channel that accumulates, with nothing open, the oldest record takes the values. -/
theorem closeStep_record {s : State} {c : Fin 4} {codes : Codes} (h : s.ch[c].open_ = none) (hacc : s.accum c = true) :
    s.closeStep c codes = s.takeRecord c codes := by
  unfold State.closeStep
  rw [happenIf_close_idle h]
  exact if_pos hacc

/-- The store with one more record does not show the time. -/
theorem storeWith_reach (s : State) (t : Nat) (c : Fin 4) (r : Rec) (vals : List Value) : (s.reach t).storeWith c r vals
    = s.ch[c].acc.store.take r.done ++ addPoints (s.akey 0x0900 c == 3) (s.ch[c].acc.records == 0) (vals.map (s.pointOf c))
      (if s.ch[c].acc.records = 0 then [] else s.ch[c].acc.store.drop r.done) := rfl

/-! Folds and result passes (11 R279 to R281). -/

theorem passWaits_early {s : State} {c : Fin 4} {n : Nat} (h : s.clk < s.ch[c].acc.drainAt + n) : s.passWaits c n = true := by
  rw [State.passWaits, decide_eq_true h, Bool.true_or, Bool.true_or]

theorem passWaits_over {s : State} {c : Fin 4} {n : Nat} (h : s.ch[c].acc.drainAt + n ≤ s.clk) (hrel : s.ck.relock = none)
    (hq : s.tr.descQ.length < 1024) : s.passWaits c n = false := by
  rw [State.passWaits, decide_eq_false (by omega), decide_eq_false (by omega), hrel]
  rfl

theorem foldDone_early {s : State} {c : Fin 4} (h : s.clk < s.ch[c].acc.drainAt + s.passTicks c) : s.foldDone c = s := by
  unfold State.foldDone
  dsimp only
  rw [passWaits_early h, Bool.or_true, if_pos rfl]

theorem foldDone_open {s : State} {c : Fin 4} (hf : s.ch[c].acc.folding = true) (hw : s.passWaits c (s.passTicks c) = false)
    (ho : s.ch[c].acc.runOpen = true) : s.foldDone c = s.modCh c (fun h => { h with acc := { h.acc with
      fold := addSums h.acc.fold (h.acc.store.map (·.1)), store := h.acc.store.map (fun _ => (0, 0))
      folds := h.acc.folds + 1, folding := false, drainAt := s.clk } }) := by
  unfold State.foldDone
  dsimp only
  rw [hw, hf, ho]
  rfl

theorem passDone_early {s : State} {c : Fin 4} (h : s.clk < s.ch[c].acc.drainAt + s.passTicks c) : s.passDone c = s := by
  unfold State.passDone
  dsimp only
  rw [passWaits_early h, Bool.or_true, if_pos rfl]

/-- A result that gets its descriptor page is written, counted, and its descriptor queued last. -/
theorem writeResult_writes {s : State} {c : Fin 4} (h : (s.getDesc c (s.nextIdx c)).2 = false) :
    (s.writeResult c).ch[c].acc.pass = false ∧ (s.writeResult c).ch[c].acc.results = wrapAdd 32 s.ch[c].acc.results 1
      ∧ (s.writeResult c).tr.descQ = s.tr.descQ ++ [(c, s.ch[c].acq, s.nextIdx c)] := by
  have hd : KeepsRuns s (s.getDesc c (s.nextIdx c)).1 := .getDesc .refl
  unfold State.writeResult
  extract_lets idx d s0 s1' g s1 s2 s3
  rw [if_neg (by rw [show d.2 = false from h]; exact Bool.false_ne_true)]
  have h0 : s0.ch[c].acc = { s.ch[c].acc with pass := false, folding := false } := by
    rw [show s0.ch[c] = { d.1.ch[c] with acc := { d.1.ch[c].acc with pass := false, folding := false } } from modCh_same _ _ _,
      ← hd.acc c]
  have h2 : KeepsRuns s0 (s1.storeWords g.pages 0 (s.resultHeader c ++ wordBytes (s.resultWords c))) := .storeWords (.putSeg .refl)
  have h3 : KeepsRuns (s2.countResult c) s3 := .sweep .refl
  have hdone : KeepsRuns s3 (if s3.armedOn c && decide (s.akey 0x0700 c ≤ s3.ch[c].results) then
      s3.toDone c 1 s3.boundary (s3.boundary * fineUnit) else s3) := .ite (.toDone .refl) .refl
  have hacc : (s2.countResult c).ch[c].acc = { s2.ch[c].acc with
      results := wrapAdd 32 s2.ch[c].acc.results 1, pages := [], foldPgs := [] } := by
    rw [State.countResult, modCh_same]
  have h2c : s2.ch[c].acc = s0.ch[c].acc := h2.acc c
  rw [hdone.acc c, hdone.descQ, h3.acc c, h3.descQ, hacc, h2c, h0]
  exact ⟨rfl, rfl, congrArg (· ++ [(c, s.ch[c].acq, idx)]) (h2.descQ.trans hd.descQ)⟩

theorem passDone_over {s : State} {c : Fin 4} (hp : s.ch[c].acc.pass = true) (hw : s.passWaits c (s.passTicks c) = false) :
    s.passDone c = s.writeResult c := by
  unfold State.passDone
  dsimp only
  rw [hw, hp]
  rfl

/-! The end of the busy interval (11 R281, R283). -/

/-- The end of the busy interval is kept. -/
def State.busyEnded (s : State) (c : Fin 4) : State :=
  s.modCh c (fun h => { h with acc := { h.acc with busyFrom := none, drainAt := s.clk } })

theorem busyOver_ends {s : State} {c : Fin 4} (hb : s.ch[c].acc.busyFrom.isSome = true) (hf : s.ch[c].acc.folding = false)
    (hp : s.ch[c].acc.pass = false) (hr : s.ch[c].acc.recs = []) : s.busyOver c
      = if !s.ch[c].acc.runOpen && s.accum c && s.armedOn c then (s.busyEnded c).startRun c (s.ch[c].acc.runNo + 1) else s.busyEnded c := by
  have hn : s.ch[c].acc.busyFrom.isNone = false := by rw [← Option.not_isSome, hb]; rfl
  unfold State.busyOver
  dsimp only
  rw [hn, hf, hp, hr]
  rfl

/-- A run that gets its pages begins without a record. -/
theorem startRun_begins {s : State} {c : Fin 4} {n : Nat}
    (h : (State.takeRunPages c ((s.runPages c).1 + (s.runPages c).2) s []).2.2 = false) :
    (s.startRun c n).ch[c].acc.runOpen = true ∧ (s.startRun c n).ch[c].acc.runNo = n ∧ (s.startRun c n).ch[c].acc.records = 0
      ∧ (s.startRun c n).ch[c].acc.busyFrom = s.ch[c].acc.busyFrom := by
  have hk : KeepsRuns s (State.takeRunPages c ((s.runPages c).1 + (s.runPages c).2) s []).1 := .takeRunPages .refl
  unfold State.startRun
  dsimp only
  rw [if_neg (by rw [h]; exact Bool.false_ne_true), modCh_same]
  exact ⟨rfl, rfl, rfl, (congrArg Acc.busyFrom (hk.acc c) :)⟩

/-- Settles O36: a record whose points have all left the delay line is added whole (`takeRecord_adds`), and pages and descriptors that
folds, results and new runs take leave the runs themselves (`KeepsRuns`). -/
theorem accumulationPasses : Obligations.AccumulationPasses := by
  intro s t c s0 a
  refine ⟨fun codes r rest hacc hopen hrecs hclosed hset hdisc hdone hleft => ?_, fun _ h => congrArg go (foldDone_early (s := s.reach t) h),
    fun hf h hrel hq ho => ?_, fun _ h => congrArg go (passDone_early (s := s.reach t) h), fun hp h hrel hq hd => ?_, fun hb hf hp hr ho => ?_,
    fun hb hf hp hr ho hacc harm hpages => ?_⟩
  · have hstep := closeStep_record (s := s.reach t) (codes := codes) hopen hacc
    have htold := takeRecord_adds (s := s.reach t) (codes := codes) hrecs hclosed hset hdisc hdone hleft
    refine ⟨(s.reach t).takeRecord c codes, congrArg go hstep, ?_⟩
    generalize (s.reach t).takeRecord c codes = u at htold ⊢
    simp only [Acc.told, Prod.mk.injEq] at htold
    obtain ⟨h1, h2, h3, h4, h5⟩ := htold
    exact ⟨h1, h2, h3.trans (storeWith_reach s t c r _), h4, h5⟩
  · refine ⟨_, congrArg go (foldDone_open (s := s.reach t) hf (passWaits_over (s := s.reach t) h hrel hq) ho), ?_⟩
    beta_reduce
    rw [modCh_same]
    exact ⟨rfl, rfl, rfl, rfl, fun d hne => modCh_other _ _ hne, rfl⟩
  · exact ⟨_, congrArg go (passDone_over (s := s.reach t) hp (passWaits_over (s := s.reach t) h hrel hq)), writeResult_writes (s := s.reach t) hd⟩
  · refine congrArg go ((busyOver_ends (s := s.reach t) hb hf hp hr).trans (if_neg ?_))
    rw [show s0.ch[c].acc.runOpen = true from ho]
    exact Bool.false_ne_true
  · refine ⟨_, congrArg go ((busyOver_ends (s := s.reach t) hb hf hp hr).trans (if_pos ?_)), ?_⟩
    · rw [show s0.ch[c].acc.runOpen = false from ho, show s0.accum c = true from hacc, show s0.armedOn c = true from harm]
      rfl
    · obtain ⟨hrun, hno, hrec, hbusy⟩ := startRun_begins (s := (s.reach t).busyEnded c) (n := s.ch[c].acc.runNo + 1) hpages
      exact ⟨hrun, hno, hrec, hbusy.trans (by rw [State.busyEnded, modCh_same])⟩

end Sys2Proof.Machine
end

section
/-!
SUPPORT. Upkeep of what a boot and a wake do beside it: the clock and its lock (06 R156 to R167), the ARM that waits (09 R230), the working
set (05 R144), the exit from self-refresh (13 R340), training (13 R317), the link (14 R370) and leaving the array (16 R404).
-/

namespace Sys2Proof.Machine
namespace Upkeep
variable {s u : State}

theorem foldr {α : Type} {f : α → State → State} (hf : ∀ {x a}, Upkeep s a → Upkeep s (f x a)) {l : List α} (h : Upkeep s u) :
    Upkeep s (l.foldr f u) := by
  induction l with
  | nil => exact h
  | cons x xs ih => exact hf ih

theorem setFreeCtr {n : Nat} (h : Upkeep s u) : Upkeep s (u.setFreeCtr n) := h.keep rfl rfl rfl rfl rfl
theorem setOut {v : Vector Output 2} (h : Upkeep s u) : Upkeep s (u.setOut v) := h.keep rfl rfl rfl rfl rfl
theorem setTw {v : Vector Tower 4} (h : Upkeep s u) : Upkeep s (u.setTw v) := h.keep rfl rfl rfl rfl rfl
theorem sendN {mtype addr : Nat} {args : List Nat} (h : Upkeep s u) : Upkeep s (u.sendN mtype addr args) := h.keep rfl rfl rfl rfl rfl

theorem flushEvents (h : Upkeep s u) : Upkeep s u.flushEvents := by
  unfold State.flushEvents
  refine .foldr (fun h => ?_) (.modLog h)
  exact h.trans ⟨.logEntry .refl, fun hx => ⟨by rw [(logEntry_quiet _ _).mr]; exact hx, (logEntry_quiet _ _).clk, by rw [(logEntry_quiet _ _).mr]⟩⟩

/-! The clock (06 R156 to R167). -/

theorem ckEvent {code sev b v} (h : Upkeep s u) : Upkeep s (u.ckEvent code sev b v) := .logEv h

theorem applyQual (h : Upkeep s u) : Upkeep s u.applyQual := by
  unfold State.applyQual State.applyQualAt
  extract_lets q s1
  have hq : Upkeep s (u.setQualAt u.boundary q) := .ite h (h.keep rfl rfl rfl rfl rfl)
  have h1 : Upkeep s s1 := hq.keep rfl rfl rfl rfl rfl
  exact .ite (.modCk h1) h1

theorem setDisc {d} (h : Upkeep s u) : Upkeep s (u.setDisc d) := .applyQual (.modCk h)

theorem loseLock {gate} (h : Upkeep s u) : Upkeep s (u.loseLock gate) := by
  unfold State.loseLock
  extract_lets s1 s2
  have h2 : Upkeep s s2 := .ite (.setDisc (.modCk h)) (.modCk h)
  exact .endWorkIf (.modCk (.ite (h2.keep rfl rfl rfl rfl rfl) h2))

/-! The ARM that waits (09 R230; 16 R399). -/

theorem syncUnit {q e d} (h : Upkeep s u) : Upkeep s (u.syncUnit q e d) := by
  unfold State.syncUnit
  extract_lets _ _ _ s2
  have h2 : Upkeep s s2 := .ite (.modCh h) (.ite (h.keep rfl rfl rfl rfl rfl) h)
  exact .ite (h2.keep rfl rfl rfl rfl rfl) (.ite (.modCh h2) h2)

theorem syncUnits {q e} (h : Upkeep s u) : Upkeep s (u.syncUnits q e) := .foldl .syncUnit h

theorem revertArm {sel} (h : Upkeep s u) : Upkeep s (u.revertArm sel) := by
  unfold State.revertArm
  exact .syncDomains (.syncUnits (.foldl (fun h => .ite (.modCh h) h) h))

theorem failArm {status detail} (h : Upkeep s u) : Upkeep s (u.failArm status detail) := by
  unfold State.failArm
  split
  · exact h
  · exact .finish (.revertArm h)

theorem endFollow (h : Upkeep s u) : Upkeep s u.endFollow := .modAr (.ite h (.sendN (.modAr h)))

theorem lockFail {band} (h : Upkeep s u) : Upkeep s (u.lockFail band) := by
  unfold State.lockFail
  extract_lets s1 s2
  have h2 : Upkeep s s2 := .failArm (.endWorkIf (.ckEvent (.modCk h)))
  exact .ite h2 (.endFollow (.revertArm h2))

theorem rootLocked {b} (h : Upkeep s u) : Upkeep s (u.rootLocked b) := by
  unfold State.rootLocked
  extract_lets
  split
  · exact .modCk (.modCk h)
  · exact .lockFail (.modCk h)

theorem rootStarts {b} (h : Upkeep s u) : Upkeep s (u.rootStarts b) := by
  unfold State.rootStarts
  extract_lets s1
  have h1 : Upkeep s s1 := .rootLocked (.ckEvent h)
  exact .ite (.ckEvent h1) h1

/-! Memory (13 R317, R340). -/

theorem trainAll {b} (h : Upkeep s u) : Upkeep s (u.trainAll b) := by
  unfold State.trainAll
  exact .modTr (.modMem h)

theorem memHeld (h : Upkeep s u) : Upkeep s u.memHeld := .ite (.modMem h) h

theorem loseTrellis (h : Upkeep s u) : Upkeep s u.loseTrellis := by
  unfold State.loseTrellis
  exact .foldl .modCh (.modTr h)

theorem nextRetrain {p} (h : Upkeep s u) : Upkeep s (u.nextRetrain p) := by
  unfold State.nextRetrain
  split
  · exact h
  · split
    · exact h
    · exact .modPc (.modMem h)

theorem srExit {exits} (h : Upkeep s u) : Upkeep s (u.srExit exits) :=
  .ite h (.nextRetrain (.nextRetrain (.foldl (fun {a} {p} ha => ha.trans (exitPc_exits a p _).1.upkeep) (.modMem h))))

/-! The working set (05 R144). -/

theorem timeNow {k x p} (h : Upkeep s u) : Upkeep s (u.timeNow k x p) := .checkMoved (.jumpTo h)

theorem jumpRange {i} (h : Upkeep s u) : Upkeep s (u.jumpRange i) := by
  unfold State.jumpRange
  exact .jumpTo (.jumpTo h)

theorem jumpUser {i} (h : Upkeep s u) : Upkeep s (u.jumpUser i) := .jumpTo (.jumpTo (.jumpRange h))

theorem rampRange {i b} (h : Upkeep s u) : Upkeep s (u.rampRange i b) := by
  unfold State.rampRange
  exact .rampTo (.rampTo h)

theorem takeWs {d} (h : Upkeep s u) : Upkeep s (u.takeWs d) := by
  unfold State.takeWs
  extract_lets _ _ _ _ _ s1 _ s2 s3
  have h2 : Upkeep s s2 := by
    refine .foldl (fun h => .foldl (fun h => ?_) h) (.modCal h)
    extract_lets
    split
    · exact .modSlice h
    · exact .ite (.retime (.modSlice h)) (.timeNow (.modSlice h))
  have h3 : Upkeep s s3 := by
    refine .foldl (fun h => ?_) h2
    split
    · exact h
    · exact .ite (.modTw h) h
  exact .foldl (fun h => .ite (.rampRange h) (.jumpRange h)) h3

theorem selectCal (h : Upkeep s u) : Upkeep s u.selectCal := by
  unfold State.selectCal
  extract_lets bad s1 _ _ pick data s2
  have hbad {v b} (hv : Upkeep s v) : Upkeep s (bad v b) := by
    dsimp only [bad]
    split
    · exact .logEv hv
    · exact hv
  have h2 : Upkeep s s2 := .takeWs (.modCal (hbad (hbad h)))
  clear_value s2 data pick
  split
  · exact .logEv h2
  · exact .logEv h2

/-! Link and array (14 R370; 16 R404). -/

theorem linkRise {rate lanes} (h : Upkeep s u) : Upkeep s (u.linkRise rate lanes) := by
  unfold State.linkRise
  split
  · exact h
  · extract_lets s1 s2
    have h2 : Upkeep s s2 := .logEv (.modHl h)
    exact .ite (.logEv h2) h2

theorem trainLink {b} (h : Upkeep s u) : Upkeep s (u.trainLink b) := .elim h (.linkRise h)

theorem standalone (h : Upkeep s u) : Upkeep s u.standalone := by
  unfold State.standalone
  exact .syncDomains (.applyQual (.ite (.modCk (.loseLock (.modAr h))) (.modAr h)))

end Upkeep

end Sys2Proof.Machine
end

section
/-!
SUPPORT. What a boot keeps on its way (17 R430 to R432; 19 R462): the recorded settings, the count of boots, the source of the wake and the
classes retained, and the offset of time; and the mailboxes that it brings into service.
-/

namespace Sys2Proof.Machine

/-- Recorded settings, count of boots, source of the wake, retained classes and the offset of time stand; RUN stays RUN; and without a
command under execution there is none later, and no time passes. -/
structure Boots (s u : State) : Prop where
  recorded : u.mr.recorded = s.mr.recorded
  count : u.fw.bootCount = s.fw.bootCount
  source : u.pw.wakeSrc = s.pw.wakeSrc
  retain : u.pw.retain = s.pw.retain
  run : s.pw.st = 0 → u.pw.st = 0 ∧ u.pw.prev = s.pw.prev
  off : u.tm.off = s.tm.off
  idle : s.mr.exec = none → u.mr.exec = none ∧ u.clk = s.clk

theorem Upkeep.boots {s u : State} (h : Upkeep s u) : Boots s u :=
  ⟨h.recorded, congrArg Firm.bootCount h.fw, (congrArg Power.wakeSrc h.fixed :), (congrArg Power.retain h.fixed :), h.run, h.off,
    fun hx => ⟨(h.idle hx).1, (h.idle hx).2.1⟩⟩

namespace Boots
variable {s u v : State}

theorem refl : Boots s s := Upkeep.refl.boots

theorem trans (h : Boots s u) (k : Boots u v) : Boots s v where
  recorded := k.recorded.trans h.recorded
  count := k.count.trans h.count
  source := k.source.trans h.source
  retain := k.retain.trans h.retain
  run hs := ⟨(k.run (h.run hs).1).1, (k.run (h.run hs).1).2.trans (h.run hs).2⟩
  off := k.off.trans h.off
  idle hs := ⟨(k.idle (h.idle hs).1).1, (k.idle (h.idle hs).1).2.trans (h.idle hs).2⟩

theorem keeps (h : Boots s u) (k : Upkeep u v) : Boots s v := h.trans k.boots

theorem ite {c : Prop} {i : Decidable c} (hu : Boots s u) (hv : Boots s v) : Boots s (if c then u else v) := by
  split
  · exact hu
  · exact hv

theorem modFw {g : Firm → Firm} (h : Boots s u) (hg : (g u.fw).bootCount = u.fw.bootCount) : Boots s (u.modFw g) :=
  h.trans ⟨rfl, hg, rfl, rfl, fun hs => ⟨hs, rfl⟩, rfl, fun hx => ⟨hx, rfl⟩⟩

theorem extendMeas {i : Fin 8} {d : List Byte} (h : Boots s u) : Boots s (u.extendMeas i d) := h.modFw rfl

theorem startSlot {n : Nat} (h : Boots s u) : Boots s (u.startSlot n) := h.extendMeas.extendMeas.extendMeas.modFw rfl

theorem slotInvalid {n : Nat} (h : Boots s u) : Boots s (u.slotInvalid n) := h.keeps (.logEv .refl)

theorem bootRom (h : Boots s u) : Boots s u.bootRom := by
  unfold State.bootRom
  extract_lets s1 a s2 b
  have h1 : Boots s s1 := (h.modFw rfl).extendMeas
  have h2 : Boots s s2 := h1.slotInvalid
  have h3 : Boots s ((s2.slotInvalid b).modFw fun f => { f with recovery := true }) := h2.slotInvalid.modFw rfl
  exact .ite h1.startSlot (.ite h2.startSlot (h3.keeps (.logEv .refl)))

/-- A write of the command interface that keeps the recorded settings and leaves no command under execution. -/
theorem modMr {g : Marrad → Marrad} (h : Boots s u) (hg : (g u.mr).recorded = u.mr.recorded) (hx : (g u.mr).exec = none) : Boots s (u.modMr g) :=
  h.trans ⟨hg, rfl, rfl, rfl, fun hs => ⟨hs, rfl⟩, rfl, fun _ => ⟨hx, rfl⟩⟩

theorem freeMailboxes (h : Boots s u) : Boots s u.freeMailboxes := .modMr h rfl rfl

theorem reportBrown (h : Boots s u) : Boots s u.reportBrown := by
  refine .ite ?_ h
  have h1 := h.keeps (.logEv (code := 0x0F05) (sev := sevError) (scope := 0)
    (data := pwData (min 255 (u.pw.brownouts - u.pw.brownSeen)) 0 0xFFFF u.ticks) .refl)
  exact h1.trans ⟨rfl, rfl, rfl, rfl, fun hs => ⟨hs, rfl⟩, rfl, fun hx => ⟨hx, rfl⟩⟩

theorem reportFail (h : Boots s u) : Boots s u.reportFail := by
  unfold State.reportFail
  split
  · next f _ =>
    refine .ite ?_ h
    have h1 := h.keeps (.logEv (code := 0x0F04) (sev := sevCritical) (scope := 0) (data := pwData f.rail f.tries 0xFFFF u.ticks) .refl)
    exact h1.trans ⟨rfl, rfl, rfl, rfl, fun hs => ⟨hs, rfl⟩, rfl, fun hx => ⟨hx, rfl⟩⟩
  · exact h

end Boots

/-! The mailboxes come into service (19 R462 step 6). -/

/-- The state in which the firmware, or the ROM in recovery, has taken the mailboxes into service, before the events that waited. -/
def State.inService (s : State) (pickCal : Bool) : State :=
  (if s.fw.recovery then s else ((if pickCal then s.selectCal else s).extendCal).extendOwner).freeMailboxes.modFw
    fun f => { f with serving := true, booted := true }

theorem bootServe_inService (s : State) (pickCal : Bool) : s.bootServe pickCal = (s.inService pickCal).flushEvents := rfl

theorem selectCal_fw (s : State) : s.selectCal.fw = s.fw := (Upkeep.selectCal .refl).fw

theorem inService_fw (s : State) (pickCal : Bool) :
    (s.inService pickCal).fw.running = s.fw.running ∧ (s.inService pickCal).fw.recovery = s.fw.recovery := by
  have hcal : (if pickCal then s.selectCal else s).fw = s.fw := by
    split
    · exact selectCal_fw s
    · rfl
  unfold State.inService
  split
  · exact ⟨rfl, rfl⟩
  · rw [← hcal]
    generalize (if pickCal then s.selectCal else s) = x
    exact ⟨rfl, rfl⟩

theorem Boots.inService {s u : State} {pickCal : Bool} (h : Boots s u) : Boots s (u.inService pickCal) := by
  unfold State.inService
  have hcal : Boots s (if pickCal then u.selectCal else u) := .ite (h.keeps (.selectCal .refl)) h
  have hboot : Boots s (if u.fw.recovery then u else ((if pickCal then u.selectCal else u).extendCal).extendOwner) := .ite h hcal.extendMeas.extendMeas
  exact hboot.freeMailboxes.modFw rfl

theorem Boots.bootServe {s u : State} {pickCal : Bool} (h : Boots s u) : Boots s (u.bootServe pickCal) :=
  h.inService.keeps (.flushEvents .refl)

/-- A slot's firmware, or the ROM, serves the mailboxes, which are free, and no command executes. -/
structure Serves (running : Nat) (recovery : Bool) (u : State) : Prop where
  fw : u.fw.serving = true ∧ u.fw.running = running ∧ u.fw.recovery = recovery
  free : ∀ j, (u.mbox j).state = .free
  idle : u.mr.exec = none

namespace Serves
variable {n : Nat} {r : Bool} {s u : State}

theorem inService (s : State) (pickCal : Bool) : Serves s.fw.running s.fw.recovery (s.inService pickCal) where
  fw := ⟨rfl, (inService_fw s pickCal).1, (inService_fw s pickCal).2⟩
  free j := by
    unfold State.inService
    simp only [State.mbox, State.freeMailboxes, State.modMr, State.setMr, State.modFw, State.setFw, Fin.getElem_fin, Vector.getElem_ofFn,
      Mailbox.reset]
  idle := rfl

theorem upkeep (h : Serves n r s) (k : Upkeep s u) : Serves n r u where
  fw := by rw [k.fw]; exact h.fw
  free j := by
    rw [State.mbox, (k.idle h.idle).2.2]
    exact h.free j
  idle := (k.idle h.idle).1

theorem modPw {g : Power → Power} (h : Serves n r s) : Serves n r (s.modPw g) := ⟨h.fw, h.free, h.idle⟩

theorem ite {c : Prop} {i : Decidable c} (hs : Serves n r s) (hu : Serves n r u) : Serves n r (if c then s else u) := by
  split
  · exact hs
  · exact hu

theorem bootServe (s : State) (pickCal : Bool) : Serves s.fw.running s.fw.recovery (s.bootServe pickCal) :=
  (inService s pickCal).upkeep (.flushEvents .refl)

theorem reportBrown (h : Serves n r s) : Serves n r s.reportBrown := .ite (.modPw (h.upkeep (.logEv .refl))) h

theorem reportFail (h : Serves n r s) : Serves n r s.reportFail := by
  unfold State.reportFail
  split
  · exact .ite (.modPw (h.upkeep (.logEv .refl))) h
  · exact h

end Serves

end Sys2Proof.Machine
end

section
/-!
SUPPORT. Wakes that complete and power-up (17 R430 to R433; 19 R462; 20 R495): the stages of a boot, each kept by the next.
-/

namespace Sys2Proof.Machine

/-! Leaving SLEEP (17 R420, R432). -/

theorem leaveSleepBy_run {s : State} (h : s.pw.st = 2) (src : Nat) (exits : List ExitPc) :
    (s.leaveSleepBy src 0 exits).pw.st = 0 ∧ (s.leaveSleepBy src 0 exits).pw.prev = 2
      ∧ (s.leaveSleepBy src 0 exits).pw.wakeSrc = src ∧ (s.leaveSleepBy src 0 exits).pw.waking = none := by
  unfold State.leaveSleepBy
  extract_lets s0 s1 s2
  have hup : Upkeep s0 s2 := .logEv (.logEv (.syncDomains (.ite (.setFreeCtr (.srExit .refl)) .refl)))
  rw [if_neg (by rw [h]; exact Bool.false_ne_true)]
  exact ⟨rfl, (hup.run rfl).2, (congrArg Power.wakeSrc hup.fixed :), (congrArg Power.waking hup.fixed :)⟩

/-! What DEEP did not retain (17 R430). -/

/-- The command interface without its settings. -/
def State.unrecorded (s : State) : State :=
  s.modMr (fun m => { m with
    stage := [], recorded := [], recHist := (s.clk, m.recorded) :: m.recHist, gen := 0, armed := Vector.replicate 4 [] })

theorem loseSettings_upkeep (s : State) : Upkeep s.unrecorded s.loseSettings := by
  unfold State.loseSettings
  exact .modMon (.modCk (.foldl .jumpUser (.foldl .modCh .refl)))

/-- The state with the settings that a wake from DEEP finds. -/
def State.settled (s : State) : State := if bitAt s.pw.retain 0 then s else s.unrecorded

theorem loseClasses_upkeep (s : State) (b : BootChecks) : Upkeep s.settled (s.loseClasses b) := by
  unfold State.loseClasses
  extract_lets _ s1 s2 s3 s4 s5 s6
  have h1 : Upkeep s.settled s1 := by
    unfold State.settled
    dsimp only [s1]
    split
    · exact .refl
    · exact loseSettings_upkeep s
  have h2 : Upkeep s.settled s2 := .ite h1 (.modLog h1)
  have h3 : Upkeep s.settled s3 := .ite h2 (.setTw h2)
  have h5 : Upkeep s.settled s5 := .setOut (.ite h3 (.modMon h3))
  have h6 : Upkeep s.settled s6 := .modTr h5
  exact .ite (.ite h6 (.srExit h6)) (.logEv (.loseTrellis (.memHeld (.trainAll h5))))

/-! A wake from DEEP. -/

/-- RUN after DEEP, before the root's lock (17 R432). -/
def State.awoken (s : State) (src : Nat) : State :=
  s.modPw (fun p => { p with
    st := 0, prev := 3, wakeSrc := src, waking := none, core := true, hostHeld := 0#196, tryRail := none, timer := none, idleAt := s.clk })

/-- The state in which a wake from DEEP finds what was retained. -/
def State.rebooted (s : State) (src : Nat) (b : BootChecks) : State := ((s.awoken src).rootLocked b).bootRom.standalone

theorem rebooted_boots (s : State) (src : Nat) (b : BootChecks) : Boots (s.awoken src) (s.rebooted src b) :=
  (Boots.bootRom (Upkeep.boots (.rootLocked .refl))).keeps (.standalone .refl)

/-- What follows on the classes found: the firmware serves, and the link trains. -/
def State.finishDeep (s : State) (pickCal : Bool) (b : BootChecks) : State :=
  ((((s.bootServe pickCal).modMon fun m => { m with conv := .stopped }).reportBrown).trainLink b).syncDomains

theorem wakeDeep_eq (s : State) (src : Nat) (b : BootChecks) :
    s.wakeDeep src b = ((s.rebooted src b).loseClasses b).finishDeep (!(bitAt s.pw.retain 2)) b := rfl

theorem finishDeep_boots (s : State) (pickCal : Bool) (b : BootChecks) : Boots s (s.finishDeep pickCal b) :=
  ((Boots.bootServe .refl).keeps (.modMon .refl)).reportBrown.keeps (.syncDomains (.trainLink .refl))

theorem finishDeep_serves (s : State) (pickCal : Bool) (b : BootChecks) : Serves s.fw.running s.fw.recovery (s.finishDeep pickCal b) :=
  ((Serves.bootServe s pickCal).upkeep (.modMon .refl)).reportBrown.upkeep (.syncDomains (.trainLink .refl))

theorem wakeDeep_boots (s : State) (src : Nat) (b : BootChecks) : Boots (s.rebooted src b).settled (s.wakeDeep src b) :=
  ((loseClasses_upkeep _ b).boots).trans (finishDeep_boots _ _ b)

theorem settled_pw (s : State) : s.settled.pw = s.pw := by
  unfold State.settled
  split
  · rfl
  · rfl

theorem settled_fw (s : State) : s.settled.fw = s.fw := by
  unfold State.settled
  split
  · rfl
  · rfl

theorem settled_recorded (s : State) : s.settled.mr.recorded = if bitAt s.pw.retain 0 then s.mr.recorded else [] := by
  unfold State.settled
  split
  · rfl
  · rfl

/-- A wake from DEEP gives RUN with its source, a firmware that serves, and the settings retained. -/
theorem wakeDeep_run (s : State) (src : Nat) (b : BootChecks) :
    (s.wakeDeep src b).pw.st = 0 ∧ (s.wakeDeep src b).pw.prev = 3 ∧ (s.wakeDeep src b).pw.wakeSrc = src
      ∧ (s.wakeDeep src b).mr.recorded = (if bitAt s.pw.retain 0 then s.mr.recorded else [])
      ∧ (s.wakeDeep src b).fw.bootCount = s.fw.bootCount := by
  have hb := rebooted_boots s src b
  have hw := wakeDeep_boots s src b
  obtain ⟨hst, hprev⟩ := hb.run rfl
  obtain ⟨kst, kprev⟩ := hw.run ((congrArg Power.st (settled_pw _)).trans hst)
  refine ⟨kst, ?_, ?_, ?_, ?_⟩
  · rw [kprev, settled_pw, hprev]
    rfl
  · rw [hw.source, settled_pw, hb.source]
    rfl
  · rw [hw.recorded, settled_recorded, hb.recorded, hb.retain]
    rfl
  · rw [hw.count, settled_fw, hb.count]
    rfl

theorem wakeDeep_serves (s : State) (src : Nat) (b : BootChecks) : ∃ n r, Serves n r (s.wakeDeep src b) := ⟨_, _, finishDeep_serves _ _ b⟩

/-! Power-up (17 R432; 19 R462; 20 R495). -/

/-- The state in which power-up starts the root. -/
def State.poweredUp (s : State) (src : Nat) : State :=
  { s.unpowered with
    tm := { Time.reset with off := -(s.clk : Int) }
    tw := Vector.replicate 4 { Tower.reset with known := false, testing := true, graft := none }
    pw := { s.pw with
      st := 0, prev := 4, wakeSrc := src, waking := none, core := true, onMap := Power.reset.onMap, hostHeld := Power.reset.hostHeld
      failed := 0#196, tryRail := none, timer := none, idleAt := s.clk, entryT := 0, wakeT := 0 } }

/-- Root and memory of a power-up. -/
def State.trained (s : State) (b : BootChecks) : State := ((s.rootStarts b).trainAll b).memHeld

/-- The boot that power-up counts; the first conversion of the monitor ends at `due`. -/
def State.counted (s : State) (due : Nat) : State :=
  (s.modFw (fun f => { f with bootCount := wrapAdd 32 f.bootCount 1 })).modMon (fun m => { m with conv := .run 0 0 due })

/-- The state that power-up boots. -/
def State.started (s : State) (src : Nat) (b : BootChecks) : State := ((s.poweredUp src).trained b).counted (s.clk + 300000000)

/-- The boot itself, and what it reports. -/
def State.booting (s : State) (b : BootChecks) : State :=
  ((((s.bootRom.bootServe true).reportFail).reportBrown).trainLink b).syncDomains

theorem powerUp_eq (s : State) (src : Nat) (b : BootChecks) : s.powerUp src b = (s.started src b).booting b := by
  unfold State.powerUp State.booting State.started State.counted State.trained State.poweredUp
  with_reducible rfl

theorem trained_upkeep (s : State) (b : BootChecks) : Upkeep s (s.trained b) := .memHeld (.trainAll (.rootStarts .refl))

theorem booting_boots (s : State) (b : BootChecks) : Boots s (s.booting b) :=
  (Boots.bootServe (.bootRom .refl)).reportFail.reportBrown.keeps (.syncDomains (.trainLink .refl))

theorem booting_serves (s : State) (b : BootChecks) : Serves s.bootRom.fw.running s.bootRom.fw.recovery (s.booting b) :=
  (Serves.bootServe s.bootRom true).reportFail.reportBrown.upkeep (.syncDomains (.trainLink .refl))

theorem spoilOther_count (f : Firm) : f.spoilOther.bootCount = f.bootCount := by
  unfold Firm.spoilOther Firm.setSlot
  split
  · rfl
  · rfl

theorem unpowered_count (s : State) : s.unpowered.fw.bootCount = s.fw.bootCount := by
  change (if s.fw.staging.isSome then s.fw.spoilOther else s.fw).bootCount = s.fw.bootCount
  split
  · exact spoilOther_count s.fw
  · rfl

/-- What the boot leaves of the state that it begins with, and the boot that it counts. -/
theorem counted_booting {v : State} (hst : v.pw.st = 0) (hx : v.mr.exec = none) (due : Nat) (b : BootChecks) :
    ((v.counted due).booting b).pw.st = 0 ∧ ((v.counted due).booting b).pw.prev = v.pw.prev
      ∧ ((v.counted due).booting b).pw.wakeSrc = v.pw.wakeSrc ∧ ((v.counted due).booting b).clk = v.clk
      ∧ ((v.counted due).booting b).tm.off = v.tm.off ∧ ((v.counted due).booting b).mr.exec = none
      ∧ ((v.counted due).booting b).fw.bootCount = wrapAdd 32 v.fw.bootCount 1 := by
  have hb := booting_boots (v.counted due) b
  obtain ⟨kst, kprev⟩ := hb.run hst
  obtain ⟨kx, kclk⟩ := hb.idle hx
  exact ⟨kst, kprev, hb.source, kclk, hb.off, kx, hb.count⟩

/-- Power-up gives RUN with its source, one boot more, and time from zero. -/
theorem powerUp_run (s : State) (src : Nat) (b : BootChecks) :
    (s.powerUp src b).pw.st = 0 ∧ (s.powerUp src b).pw.prev = 4 ∧ (s.powerUp src b).pw.wakeSrc = src
      ∧ (s.powerUp src b).clk = s.clk ∧ (s.powerUp src b).tm.off = -(s.clk : Int) ∧ (s.powerUp src b).mr.exec = none
      ∧ (s.powerUp src b).fw.bootCount = wrapAdd 32 s.fw.bootCount 1 := by
  have ht := (trained_upkeep (s.poweredUp src) b).boots
  obtain ⟨hst, hprev⟩ := ht.run rfl
  obtain ⟨hx, hclk⟩ := ht.idle rfl
  obtain ⟨kst, kprev, ksrc, kclk, koff, kx, kcount⟩ := counted_booting hst hx (s.clk + 300000000) b
  rw [powerUp_eq]
  exact ⟨kst, kprev.trans hprev, ksrc.trans ht.source, kclk.trans hclk, koff.trans ht.off, kx,
    kcount.trans (congrArg (fun n => wrapAdd 32 n 1) (ht.count.trans (unpowered_count s)))⟩

/-- With time from zero no tick has passed at power-up. -/
theorem ticks_zero {s : State} (h : s.tm.off = -(s.clk : Int)) : s.ticks = 0 := by
  unfold State.ticks
  rw [h, Int.add_right_neg]
  rfl

theorem bootRom_starts {s : State} (h : s.fw.slotFault (s.fw.slot s.fw.pref) = 0) :
    s.bootRom.fw.running = s.fw.pref ∧ s.bootRom.fw.recovery = false := by
  unfold State.bootRom
  extract_lets s1 a s2 b
  have h1 : s1.fw.slotFault (s1.fw.slot a) = 0 := h
  rw [if_pos h1]
  exact ⟨rfl, rfl⟩

/-- The boot runs a sound preferred slot. -/
theorem counted_serves {v : State} (h : v.fw.slotFault (v.fw.slot v.fw.pref) = 0) (due : Nat) (b : BootChecks) :
    Serves v.fw.pref false ((v.counted due).booting b) := by
  obtain ⟨hrunning, hrecovery⟩ := bootRom_starts (s := v.counted due) h
  have hserves := booting_serves (v.counted due) b
  rw [hrunning, hrecovery] at hserves
  exact hserves

/-- Power-up with a sound preferred slot runs its firmware, with every mailbox free. -/
theorem powerUp_serves {s : State} (hst : s.fw.staging = none) (hen : s.fw.enrol = none) (hs : s.fw.slotFault (s.fw.slot s.fw.pref) = 0)
    (src : Nat) (b : BootChecks) : Serves s.fw.pref false (s.powerUp src b) := by
  have hfw : ((s.poweredUp src).trained b).fw = s.unpowered.fw := (trained_upkeep (s.poweredUp src) b).fw
  have hun : s.unpowered.fw.slotFault (s.unpowered.fw.slot s.unpowered.fw.pref) = 0 ∧ s.unpowered.fw.pref = s.fw.pref := by
    simp only [State.unpowered, hst, hen, Option.isSome_none, Bool.false_eq_true, if_false]
    exact ⟨hs, trivial⟩
  have hserves := counted_serves (v := (s.poweredUp src).trained b) (by rw [hfw]; exact hun.1) (s.clk + 300000000) b
  rw [hfw, hun.2] at hserves
  rw [powerUp_eq]
  exact hserves

end Sys2Proof.Machine
end

section
/-!
O51: wake events, completed wakes, and power that is lost and comes back (17 R420 to R436; 20 R485, R495).
-/

namespace Sys2Proof.Machine

/-! Which events are heeded (17 R434, R435). -/

theorem wakeEnabled_host {s : State} {st : Nat} : s.wakeEnabled 1 st = true ↔ st = 1 ∨ st = 2 := by
  simp [State.wakeEnabled]

theorem wakeEnabled_timer {s : State} {st : Nat} : s.wakeEnabled 8 st = true ↔ 2 ≤ st := by
  simp [State.wakeEnabled]

theorem wakeEnabled_command {s : State} {st : Nat} : s.wakeEnabled 3 st = true ↔ 2 ≤ st := by
  simp [State.wakeEnabled]

/-- The sources that the mask enables. -/
theorem wakeEnabled_masked {s : State} {st n : Nat} (h : n = 2 ∨ n = 4 ∨ n = 5 ∨ n = 6) :
    s.wakeEnabled n st = true ↔ 2 ≤ st ∧ bitAt s.pw.wakeMask n = true := by
  rcases h with rfl | rfl | rfl | rfl
  · simp [State.wakeEnabled]
  · simp [State.wakeEnabled]
  · simp [State.wakeEnabled]
  · simp [State.wakeEnabled]

theorem belfryOn_false {s : State} (h : s.pw.aux = false ∨ s.clk < s.pw.brownTo) : s.belfryOn = false := by
  rw [Bool.eq_false_iff, ne_eq, belfryOn_iff]
  rintro ⟨haux, hbr⟩
  rcases h with h | h
  · rw [haux] at h; cases h
  · omega

theorem heedsWake_on {s : State} (h : s.pw.st = 2 ∨ s.pw.aux = true ∧ s.pw.brownTo ≤ s.clk) : s.heedsWake = true := by
  unfold State.heedsWake
  rcases h with h | h
  · simp [h]
  · simp [belfryOn_iff.mpr h]

theorem heedsWake_off {s : State} (hst : 3 ≤ s.pw.st) (h : s.pw.aux = false ∨ s.clk < s.pw.brownTo) : s.heedsWake = false := by
  unfold State.heedsWake
  rw [belfryOn_false h, decide_eq_false (by omega)]
  rfl

/-! A wake event (17 R429, R434). -/

section
variable {s : State} {src : Nat}

theorem wakeEvent_ignored (he : s.pw.entry = none) (h : s.wakeEnabled src s.pw.st = false ∨ s.heedsWake = false) : s.wakeEvent src = s := by
  unfold State.wakeEvent
  rw [he]
  refine if_neg fun hb => ?_
  rw [Bool.and_eq_true] at hb
  rcases h with h | h
  · rw [hb.1] at h; cases h
  · rw [hb.2] at h; cases h

theorem wakeEvent_heeded (he : s.pw.entry = none) (h : s.wakeEnabled src s.pw.st = true) (hh : s.heedsWake = true) :
    s.wakeEvent src = s.beginWake src := by
  unfold State.wakeEvent
  rw [he]
  exact if_pos (by rw [h, hh]; rfl)

theorem wakeEvent_latched {x : Entry} (he : s.pw.entry = some x) (h : s.wakeEnabled src x.target = true) (hw : x.wake = none) :
    s.wakeEvent src = s.modPw (fun p => { p with entry := some { x with wake := some (src, s.clk) } }) := by
  unfold State.wakeEvent
  rw [he]
  dsimp only
  rw [if_pos h, hw]
  rfl

theorem wakeEvent_unlatched {x : Entry} (he : s.pw.entry = some x) (h : s.wakeEnabled src x.target = false) : s.wakeEvent src = s := by
  unfold State.wakeEvent
  rw [he]
  exact if_neg (by rw [h]; exact Bool.false_ne_true)

/-- IDLE is left at once. -/
theorem beginWake_idle (h : s.pw.st = 1) :
    s.beginWake src = s.modPw (fun p => { p with st := 0, prev := 1, core := true, idleAt := s.clk, wakeSrc := src }) := if_pos h

/-- From SLEEP, and from DEEP and OFF with 12 V, the wake begins. -/
theorem beginWake_begins (h : s.pw.st = 2 ∨ 3 ≤ s.pw.st ∧ s.pw.main = true) (hw : s.pw.waking = none) :
    s.beginWake src = s.modPw (fun p => { p with waking := some (src, s.pw.st, s.clk) }) := by
  have h1 : s.pw.st ≠ 1 := by omega
  have h2 : ¬ (s.pw.st < 2 ∨ 3 ≤ s.pw.st ∧ s.pw.main = false) := by
    rintro (h2 | ⟨h3, hm⟩)
    · omega
    · rcases h with h | ⟨-, hon⟩
      · omega
      · rw [hm] at hon; cases hon
  unfold State.beginWake
  rw [if_neg h1, if_neg h2]
  simp only [State.modPw, hw]

end

/-! 12 V and rails (17 R433, R434). -/

theorem mainReturn_stays {s : State} (h : s.pw.st ≠ 4 ∨ s.pw.main = true) : s.mainReturn = s := if_pos (h.imp_right .inl)

theorem mainReturn_returns {s : State} (hst : s.pw.st = 4) (hm : s.pw.main = false) (ha : s.pw.aux = true) :
    s.mainReturn = if s.pw.mainRet = 1 ∧ s.belfryOn = true then (s.modPw fun p => { p with main := true }).beginWake 9
      else s.modPw fun p => { p with main := true } := by
  refine if_neg ?_
  rw [hst, hm, ha]
  simp

/-- A rail that is tried while a wake is under way. -/
theorem railFails_tried {s : State} {rail : Nat} (hw : s.pw.waking.isSome = true) (h1 : 1 ≤ rail) (h6 : rail ≤ 6) :
    ¬ (s.pw.waking.isNone = true ∨ rail = 0 ∨ 6 < rail) := by
  rintro (h | h | h)
  · rw [Option.isNone_iff_eq_none.mp h] at hw; cases hw
  · omega
  · omega

theorem railFails_first {s : State} {rail : Nat} (hw : s.pw.waking.isSome = true) (h1 : 1 ≤ rail) (h6 : rail ≤ 6) (ht : s.pw.tryRail = none) :
    s.railFails rail = s.modPw (fun p => { p with tryRail := some ⟨rail, 1⟩ }) := by
  unfold State.railFails
  rw [if_neg (railFails_tried hw h1 h6), ht]
  rfl

theorem railFails_last {s : State} {rail : Nat} (hw : s.pw.waking.isSome = true) (h1 : 1 ≤ rail) (h6 : rail ≤ 6)
    (ht : s.pw.tryRail = some ⟨rail, 3⟩) :
    s.railFails rail = (s.goOff 4).modPw (fun p => { p with fail := some ⟨rail, 4⟩, failNew := true }) := by
  unfold State.railFails
  rw [if_neg (railFails_tried hw h1 h6), ht]
  simp

theorem railFails_idle {s : State} (hw : s.pw.waking = none) (rail : Nat) : s.railFails rail = s := if_pos (.inl (by rw [hw]; rfl))

/-! OFF (17 R420, R435). -/

theorem goOff_goes {s : State} (h : s.pw.st ≠ 4 ∨ s.pw.waking.isSome = true) (cause : Nat) :
    s.goOff cause = s.unpowered.modPw (fun p => { p with st := 4, prev := if s.pw.st = 4 then p.prev else s.pw.st, offCause := cause }) := by
  refine if_neg ?_
  rintro ⟨h4, hw⟩
  rcases h with h | h
  · exact h h4
  · rw [Option.isNone_iff_eq_none] at hw
    rw [hw] at h; cases h

theorem goOff_off {s : State} (h : s.pw.st = 4) (hw : s.pw.waking = none) (cause : Nat) : s.goOff cause = s := if_pos ⟨h, by rw [hw]; rfl⟩

/-- OFF over I2C or at the loss of 12 V, from another state: the flash log stands and the link is down. -/
theorem goOff_on {s : State} (h : s.pw.st ≠ 4) (cause : Nat) :
    (s.goOff cause).pw.st = 4 ∧ (s.goOff cause).pw.offCause = cause ∧ (s.goOff cause).pw.prev = s.pw.st
      ∧ (s.goOff cause).pw.main = s.pw.main ∧ (s.goOff cause).log.flash = s.log.flash ∧ (s.goOff cause).hl.up = false := by
  rw [goOff_goes (.inl h)]
  exact ⟨rfl, rfl, if_neg h, rfl, rfl, rfl⟩

theorem thermalTrip_trips {s : State} {sensor : Nat} {temp : Int}
    (h : (16 ≤ sensor ∧ sensor ≤ 20 ∧ 115000 ≤ temp) ∨ (21 ≤ sensor ∧ sensor ≤ 22 ∧ 105000 ≤ temp)) :
    s.thermalTrip sensor temp = s.mainLoss := if_pos h

theorem thermalTrip_below {s : State} {sensor : Nat} {temp : Int} (h : temp < 105000) : s.thermalTrip sensor temp = s := if_neg (by omega)

theorem brownOut_counts {s : State} (h : s.pw.st = 3 ∨ s.pw.st = 4) (hb : s.belfryOn = true) (hw : s.pw.waking = none) :
    s.brownOut = (s.setFreeCtr (s.freeCtr + 1)).modPw (fun p => { p with
      brownouts := satAdd 32 p.brownouts 1, brownTo := s.clk + 1 + (Config.freeBits s.freeCtr).toNat % 3000000, i2cSnap := (0, []) }) :=
  if_pos ⟨h, hb, by rw [hw]; rfl⟩

theorem brownOut_none {s : State} (h : s.pw.st < 3 ∨ s.pw.aux = false ∨ s.pw.waking.isSome = true) : s.brownOut = s := by
  refine if_neg ?_
  rintro ⟨hst, hb, hw⟩
  rcases h with h | h | h
  · omega
  · rw [(belfryOn_iff.mp hb).1] at h; cases h
  · rw [Option.isNone_iff_eq_none.mp hw] at h; cases h

/-! A completed wake (17 R432). -/

/-- PW_STATE and PW_WAKE of a completed wake from `left`; WAKE_N is driven until `low`. -/
def State.wakeLogged (s : State) (low src left : Nat) : State :=
  ((s.modPw (fun p => { p with wakeT := s.ticks, wakeLow := low })).logPower 0 left).logEv 0x0F03 sevInfo 0 (pwData src left 0xFFFF s.ticks)

theorem wakeLogged_upkeep (s : State) (low src left : Nat) :
    Upkeep (s.modPw fun p => { p with wakeT := s.ticks, wakeLow := low }) (s.wakeLogged low src left) := .logEv (.logEv .refl)

theorem wakeLogged_boots (s : State) (low src left : Nat) : Boots s (s.wakeLogged low src left) := by
  have hlow : Boots s (s.modPw fun p => { p with wakeT := s.ticks, wakeLow := low }) :=
    ⟨rfl, rfl, rfl, rfl, fun hs => ⟨hs, rfl⟩, rfl, fun hx => ⟨hx, rfl⟩⟩
  exact hlow.keeps (wakeLogged_upkeep s low src left)

theorem Serves.wakeLogged {n : Nat} {r : Bool} {s : State} (h : Serves n r s) (low src left : Nat) : Serves n r (s.wakeLogged low src left) :=
  (Serves.modPw h).upkeep (wakeLogged_upkeep s low src left)

theorem wakeLogged_low (s : State) (low src left : Nat) : (s.wakeLogged low src left).pw.wakeLow = low :=
  (congrArg Power.wakeLow (wakeLogged_upkeep s low src left).fixed :)

section
variable {s : State} {src a : Nat}

theorem wakeDone_sleep (h : s.pw.waking = some (src, 2, a)) (b : BootChecks) : s.wakeDone b = s.leaveSleepBy src 0 (s.bootExits b) := by
  unfold State.wakeDone
  rw [h]
  exact if_pos rfl

theorem wakeDone_deep (h : s.pw.waking = some (src, 3, a)) (h0 : src ≠ 0) (hm : s.pw.main = true) (b : BootChecks) :
    s.wakeDone b = (s.wakeDeep src b).wakeLogged (s.clk + 30000000) src 3 := by
  have hno : ¬ (s.pw.main = false ∨ src = 0) := by simp [hm, h0]
  unfold State.wakeDone
  rw [h]
  dsimp only
  rw [if_neg (by decide), if_neg hno, if_pos rfl]
  rfl

theorem wakeDone_off (h : s.pw.waking = some (src, 4, a)) (h0 : src ≠ 0) (hm : s.pw.main = true) (b : BootChecks) :
    s.wakeDone b = (s.powerUp src b).wakeLogged (s.clk + 30000000) src 4 := by
  have hno : ¬ (s.pw.main = false ∨ src = 0) := by simp [hm, h0]
  unfold State.wakeDone
  rw [h]
  dsimp only
  rw [if_neg (by decide), if_neg hno, if_neg (by decide)]
  rfl

end

theorem wakeDone_idle {s : State} (h : s.pw.waking = none) (b : BootChecks) : s.wakeDone b = s := by
  unfold State.wakeDone
  rw [h]

theorem firstPower_idle {s : State} (h : s.pw.waking = none) (b : BootChecks) : s.firstPower b = s := by
  unfold State.firstPower
  rw [h]

theorem firstPower_powers {s : State} {a : Nat} (h : s.pw.waking = some (0, 4, a)) (hm : s.pw.main = true) (ha : s.pw.aux = true)
    (b : BootChecks) : s.firstPower b = s.powerUp 0 b := by
  unfold State.firstPower
  rw [h]
  exact if_pos (by rw [hm, ha]; rfl)

end Sys2Proof.Machine
end

section
/-! O51, settled: wakes and the loss and return of power. -/

namespace Sys2Proof.Machine

/-! The rows of wake events (17 R434; 20 R492). -/

/-- What the expiry of the wake timer does where it is due and heeded. -/
def State.timerRow (s : State) : State :=
  if s.pw.timer.any (fun x => decide (x ≤ s.clk)) && s.heedsWake then (s.modPw (fun p => { p with timer := none })).wakeEvent 8 else s

theorem exec_wakeTimerExpiry (s : State) (t : Nat) : exec (.wakeTimerExpiry t) s = .next (s.reach t).timerRow := rfl

section
variable {s : State}

theorem wakeTimer_waits (h : s.pw.timer = none ∨ (∃ x, s.pw.timer = some x ∧ s.clk < x) ∨ s.heedsWake = false) :
    s.timerRow = s := by
  refine if_neg fun hb => ?_
  rw [Bool.and_eq_true] at hb
  obtain ⟨hdue, hh⟩ := hb
  rcases h with h | ⟨x, h, hx⟩ | h
  · rw [h] at hdue; cases hdue
  · rw [h, Option.any_some, decide_eq_true_eq] at hdue
    omega
  · rw [h] at hh; cases hh

theorem wakeTimer_wakes {x : Nat} (h : s.pw.timer = some x) (hx : x ≤ s.clk) (he : s.pw.entry = none) (hw : s.pw.waking = none)
    (hst : s.pw.st = 2 ∨ (3 ≤ s.pw.st ∧ s.pw.main = true ∧ s.pw.aux = true ∧ s.pw.brownTo ≤ s.clk)) :
    s.timerRow = s.modPw (fun p => { p with timer := none, waking := some (8, s.pw.st, s.clk) }) := by
  have hh : s.heedsWake = true := heedsWake_on (hst.imp_right fun h => h.2.2)
  have hst' : 2 ≤ s.pw.st := by omega
  unfold State.timerRow
  rw [h, Option.any_some, decide_eq_true hx, hh, Bool.and_self, if_pos rfl]
  rw [wakeEvent_heeded (s := s.modPw fun p => { p with timer := none }) he (wakeEnabled_timer.mpr hst') hh]
  exact beginWake_begins (s := s.modPw fun p => { p with timer := none }) (hst.imp_right fun h => ⟨h.1, h.2.1⟩) hw

end

/-- A row of the event list is the wake event of its source. -/
theorem wakeRow_event {s : State} {t pin : Nat} {falling : Bool} {e : Nat × Instr} (haux : s.pw.aux = true)
    (he : e ∈ ([(1, .l1Exit t), (2, .wakeNLow t), (3, .bfCmdWake t), (4, .wakeEdge t 4 pin false), (5, .wakeEdge t 5 pin false)] : List (Nat × Instr))
      ∨ (e = (6, .wakeEdge t 6 pin falling) ∧ pin < 4 ∧ bitAt s.pw.wakePins pin = true ∧ bitAt s.pw.auxEdge pin = falling))
    (hlow : e.1 = 2 → s.pw.wakeLow ≤ max s.clk t) (hbrown : s.pw.brownTo ≤ max s.clk t) :
    exec e.2 s = .next ((s.reach t).wakeEvent e.1) ∧ (e.1 = 1 ∨ e.1 = 3 ∨ e.1 = 2 ∨ e.1 = 4 ∨ e.1 = 5 ∨ e.1 = 6) := by
  simp only [List.mem_cons, List.not_mem_nil, or_false] at he
  rcases he with (rfl | rfl | rfl | rfl | rfl) | ⟨rfl, hpin, hon, hedge⟩
  · exact ⟨rfl, .inl rfl⟩
  · refine ⟨congrArg go (if_neg ?_), .inr (.inr (.inl rfl))⟩
    have hlow' : s.pw.wakeLow ≤ max s.clk t := hlow rfl
    exact fun h => absurd (of_decide_eq_true h) (Nat.not_lt.mpr hlow')
  · exact ⟨congrArg go (if_pos (belfryOn_iff (s := s.reach t) |>.mpr ⟨haux, hbrown⟩)), .inr (.inl rfl)⟩
  · exact ⟨congrArg go (if_pos ⟨.inl rfl, rfl⟩), .inr (.inr (.inr (.inl rfl)))⟩
  · exact ⟨congrArg go (if_pos ⟨.inr rfl, rfl⟩), .inr (.inr (.inr (.inr (.inl rfl))))⟩
  · refine ⟨congrArg go ((if_neg ?_).trans (if_pos ⟨rfl, hpin, hon, hedge⟩)), .inr (.inr (.inr (.inr (.inr rfl))))⟩
    rintro ⟨h | h, -⟩
    · cases h
    · cases h

/-- Without the belfry the events that only it heeds change nothing in DEEP and OFF. -/
theorem wakes_lost {s : State} (t pin : Nat) (hst : 3 ≤ s.pw.st) (hoff : s.pw.aux = false ∨ max s.clk t < s.pw.brownTo) (he : s.pw.entry = none) :
    exec (.wakeNLow t) s = .next (s.reach t) ∧ exec (.bfCmdWake t) s = .next (s.reach t)
      ∧ (∀ falling, exec (.wakeEdge t 4 pin falling) s = .next (s.reach t) ∧ exec (.wakeEdge t 6 pin falling) s = .next (s.reach t))
      ∧ exec (.wakeTimerExpiry t) s = .next (s.reach t) := by
  have hh : (s.reach t).heedsWake = false := heedsWake_off hst hoff
  have hev (n : Nat) : (s.reach t).wakeEvent n = s.reach t := wakeEvent_ignored he (.inr hh)
  refine ⟨congrArg go ?_, congrArg go (if_neg ?_), fun falling => ⟨congrArg go ?_, congrArg go ?_⟩,
    congrArg go (wakeTimer_waits (s := s.reach t) (.inr (.inr hh)))⟩
  · rw [hev, ite_self]
  · rw [belfryOn_false (s := s.reach t) hoff]
    exact Bool.false_ne_true
  · rw [hev, hev, ite_self, ite_self]
  · rw [hev, ite_self, ite_self]

/-! Wakes that complete (17 R432, R433). -/

section
variable {s : State} {src a : Nat}

theorem wakeDone_deep_run (h : s.pw.waking = some (src, 3, a)) (h0 : src ≠ 0) (hm : s.pw.main = true) (b : BootChecks) :
    (s.wakeDone b).pw.st = 0 ∧ (s.wakeDone b).pw.prev = 3 ∧ (s.wakeDone b).pw.wakeSrc = src ∧ (s.wakeDone b).fw.serving = true
      ∧ (∀ j, ((s.wakeDone b).mbox j).state = .free)
      ∧ (s.wakeDone b).mr.recorded = (if bitAt s.pw.retain 0 then s.mr.recorded else []) ∧ (s.wakeDone b).fw.bootCount = s.fw.bootCount := by
  obtain ⟨hst, hprev, hsrc, hrec, hcount⟩ := wakeDeep_run s src b
  obtain ⟨n, r, hserves⟩ := wakeDeep_serves s src b
  have hlog := wakeLogged_boots (s.wakeDeep src b) (s.clk + 30000000) src 3
  have kserves := hserves.wakeLogged (s.clk + 30000000) src 3
  obtain ⟨kst, kprev⟩ := hlog.run hst
  rw [wakeDone_deep h h0 hm b]
  exact ⟨kst, kprev.trans hprev, hlog.source.trans hsrc, kserves.fw.1, kserves.free, hlog.recorded.trans hrec, hlog.count.trans hcount⟩

theorem wakeDone_off_run (h : s.pw.waking = some (src, 4, a)) (h0 : src ≠ 0) (hm : s.pw.main = true) (b : BootChecks) :
    (s.wakeDone b).pw.st = 0 ∧ (s.wakeDone b).pw.prev = 4 ∧ (s.wakeDone b).pw.wakeSrc = src ∧ (s.wakeDone b).ticks = 0
      ∧ (s.wakeDone b).fw.bootCount = wrapAdd 32 s.fw.bootCount 1 ∧ (s.wakeDone b).pw.wakeLow = (s.wakeDone b).clk + 30000000 := by
  obtain ⟨hst, hprev, hsrc, hclk, hoff, hx, hcount⟩ := powerUp_run s src b
  have hlog := wakeLogged_boots (s.powerUp src b) (s.clk + 30000000) src 4
  obtain ⟨kst, kprev⟩ := hlog.run hst
  have kclk := (hlog.idle hx).2.trans hclk
  rw [wakeDone_off h h0 hm b]
  refine ⟨kst, kprev.trans hprev, hlog.source.trans hsrc, ticks_zero ?_, hlog.count.trans hcount, ?_⟩
  · rw [hlog.off, hoff, kclk]
  · rw [wakeLogged_low, kclk]

theorem firstPower_run (h : s.pw.waking = some (0, 4, a)) (hm : s.pw.main = true) (ha : s.pw.aux = true) (hst : s.fw.staging = none)
    (hen : s.fw.enrol = none) (hs : s.fw.slotFault (s.fw.slot s.fw.pref) = 0) (b : BootChecks) :
    (s.firstPower b).pw.st = 0 ∧ (s.firstPower b).pw.prev = 4 ∧ (s.firstPower b).pw.wakeSrc = 0 ∧ (s.firstPower b).ticks = 0
      ∧ (s.firstPower b).fw.bootCount = wrapAdd 32 s.fw.bootCount 1 ∧ (s.firstPower b).fw.serving = true
      ∧ (s.firstPower b).fw.running = s.fw.pref ∧ (s.firstPower b).fw.recovery = false ∧ ∀ j, ((s.firstPower b).mbox j).state = .free := by
  obtain ⟨hrun, hprev, hsrc, hclk, hoff, -, hcount⟩ := powerUp_run s 0 b
  have hserves := powerUp_serves hst hen hs 0 b
  obtain ⟨hserving, hslot, hrecovery⟩ := hserves.fw
  rw [firstPower_powers h hm ha b]
  exact ⟨hrun, hprev, hsrc, ticks_zero (by rw [hoff, hclk]), hcount, hserving, hslot, hrecovery, hserves.free⟩

end

/-- The fourth failed attempt of a rail: OFF, with its record. -/
theorem railFails_off {s : State} {rail : Nat} (hw : s.pw.waking.isSome = true) (h1 : 1 ≤ rail) (h6 : rail ≤ 6)
    (ht : s.pw.tryRail = some ⟨rail, 3⟩) :
    (s.railFails rail).pw.st = 4 ∧ (s.railFails rail).pw.offCause = 4 ∧ (s.railFails rail).pw.fail = some ⟨rail, 4⟩ := by
  rw [railFails_last hw h1 h6 ht, goOff_goes (.inr hw)]
  exact ⟨rfl, rfl, rfl⟩

/-- The connector mates: both rails are there and power-up is due. -/
theorem insert_mates {s : State} (h : s.pw.inserted = false ∨ s.pw.aux = false) :
    s.insert = (s.goOff s.pw.offCause).modPw (fun p => { p with
      st := 4, inserted := true, main := true, aux := true, waking := some (0, 4, s.clk) }) := by
  refine if_neg fun hb => ?_
  rw [Bool.and_eq_true] at hb
  rcases h with h | h
  · rw [hb.1] at h; cases h
  · rw [hb.2] at h; cases h

theorem insert_mated {s : State} (h : s.pw.inserted = true) (ha : s.pw.aux = true) : s.insert = s := if_pos (by rw [h, ha]; rfl)

/-- Settles O51: the rows of waking and of power, each by the lemma of its case. -/
theorem wakesAndLossOfPower : Obligations.WakesAndLossOfPower := by
  refine ⟨fun s st => ⟨wakeEnabled_host, wakeEnabled_command, wakeEnabled_timer, fun n hn => wakeEnabled_masked hn⟩,
    fun s t pin falling e haux he hlow hbrown => ?_, fun s t pin => ?_, fun s t b => ?_, fun s t sensor temp => ?_⟩
  · obtain ⟨hex, hsrc⟩ := wakeRow_event haux he hlow hbrown
    rw [hex]
    refine ⟨fun hn hd => congrArg go (wakeEvent_ignored (s := s.reach t) hn (.inl hd)), fun hn hd hst hw => ?_,
      fun x hx hd hw => congrArg go (wakeEvent_latched (s := s.reach t) hx hd hw),
      fun x hx hd => congrArg go (wakeEvent_unlatched (s := s.reach t) hx hd)⟩
    rw [wakeEvent_heeded (s := s.reach t) hn hd (heedsWake_on (s := s.reach t) (.inr ⟨haux, hbrown⟩))]
    exact congrArg go (beginWake_begins (s := s.reach t) hst hw)
  · refine ⟨fun h1 hn => ?_, rfl, fun h => congrArg go (wakeTimer_waits (s := s.reach t) (.inl h)),
      fun x h hx => congrArg go (wakeTimer_waits (s := s.reach t) (.inr (.inl ⟨x, h, hx⟩))),
      fun x h hx hn hw hst => congrArg go (wakeTimer_wakes (s := s.reach t) h hx hn hw hst),
      fun h3 hoff hn => wakes_lost t pin h3 hoff hn, fun h4 hm ha hr hw hb => ?_, fun h4 hm ha hb => ?_, fun h4 hm ha hr => ?_,
      fun h => congrArg go (mainReturn_stays (s := s.reach t) h), fun h => congrArg go (if_pos (decide_eq_true h))⟩
    · have hh : (s.reach t).heedsWake = true := by
        unfold State.heedsWake
        rw [show (s.reach t).pw.st = 1 from h1]
        rfl
      exact congrArg go ((wakeEvent_heeded (s := s.reach t) hn (wakeEnabled_host.mpr (.inl h1)) hh).trans (beginWake_idle (s := s.reach t) h1))
    · refine congrArg go ((mainReturn_returns (s := s.reach t) h4 hm ha).trans ((if_pos ⟨hr, belfryOn_iff.mpr ⟨ha, hb⟩⟩).trans ?_))
      exact (beginWake_begins (s := (s.reach t).modPw fun p => { p with main := true }) (.inr ⟨h4 ▸ by decide, rfl⟩) hw).trans (by rw [← h4]; rfl)
    · refine congrArg go ((mainReturn_returns (s := s.reach t) h4 hm ha).trans (if_neg ?_))
      rw [belfryOn_false (s := s.reach t) (.inr hb)]
      exact fun h => Bool.false_ne_true h.2
    · exact congrArg go ((mainReturn_returns (s := s.reach t) h4 hm ha).trans (if_neg fun h => hr h.1))
  · exact ⟨fun hw => ⟨congrArg go (wakeDone_idle (s := s.reach t) hw b), congrArg go (firstPower_idle (s := s.reach t) hw b)⟩,
      fun src a hw h2 => ⟨_, congrArg go (wakeDone_sleep (s := s.reach t) hw b), leaveSleepBy_run (s := s.reach t) h2 src _⟩,
      fun src a hw h0 hm => ⟨_, rfl, wakeDone_deep_run (s := s.reach t) hw h0 hm b⟩,
      fun src a hw h0 hm => ⟨_, rfl, wakeDone_off_run (s := s.reach t) hw h0 hm b⟩,
      fun a hw hm ha hst hen hs => ⟨_, rfl, firstPower_run (s := s.reach t) hw hm ha hst hen hs b⟩,
      fun rail hw h1 h6 => ⟨fun ht => congrArg go (railFails_first (s := s.reach t) hw h1 h6 ht),
        fun ht => ⟨_, rfl, railFails_off (s := s.reach t) hw h1 h6 ht⟩⟩,
      fun hw rail => congrArg go (railFails_idle (s := s.reach t) hw rail)⟩
  · refine ⟨fun h => ⟨?_, fun ha hb => ?_, fun htemp => ?_⟩, fun htemp => congrArg go (thermalTrip_below (s := s.reach t) htemp), fun h4 hw => ?_,
      fun ha hb => congrArg go (if_pos (belfryOn_iff (s := s.reach t) |>.mpr ⟨ha, hb⟩)), ⟨_, rfl, rfl, rfl, rfl, rfl, rfl, rfl, rfl, rfl, rfl⟩,
      fun hst ha hw hb => ?_, fun hno => congrArg go (brownOut_none (s := s.reach t) hno), fun hno => ?_,
      fun hin ha => congrArg go (insert_mated (s := s.reach t) hin ha)⟩
    · obtain ⟨h4, hcause, hprev, -, hflash, hup⟩ := goOff_on (s := s.reach t) h 3
      exact ⟨_, rfl, h4, hcause, hprev, rfl, hflash, hup⟩
    · obtain ⟨h4, hcause, hprev, hmain, hflash, hup⟩ := goOff_on (s := s.reach t) h 2
      exact ⟨_, congrArg go (if_pos (belfryOn_iff (s := s.reach t) |>.mpr ⟨ha, hb⟩)), h4, hcause, hprev, hflash, hup, hmain⟩
    · obtain ⟨h4, hcause, -⟩ := goOff_on (s := s.reach t) h 3
      exact ⟨_, congrArg go (thermalTrip_trips (s := s.reach t) htemp), h4, hcause⟩
    · exact congrArg go ((congrArg (fun u => if (s.reach t).belfryOn then u else s.reach t) (goOff_off (s := s.reach t) h4 hw 2)).trans (ite_self _))
    · refine ⟨1 + (Config.freeBits s.freeCtr).toNat % 3000000, by omega, by omega, ?_⟩
      rw [← Nat.add_assoc]
      exact congrArg go (brownOut_counts (s := s.reach t) hst (belfryOn_iff (s := s.reach t) |>.mpr ⟨ha, hb⟩) hw)
    · exact ⟨_, congrArg go (insert_mates (s := s.reach t) hno), rfl, rfl, rfl, rfl, rfl⟩

end Sys2Proof.Machine
end
